-- ==== Sys2Proof/Word.lean ====
section
/-! DEFINITION. The machine's word types. -/

namespace Sys2Proof

/-- A register word: registers are 32 bits wide (R9). -/
abbrev Word := BitVec 32

/-- An octet of memory, of a record or of a frame (R8). -/
abbrev Byte := BitVec 8

end Sys2Proof
end

