-- ==== Sys2Proof/Syntax.lean ====
section
/-! DEFINITION. The commands of the block: one constructor of Instr for each row of spec/opcode_table.json, and the types of their operands. -/

namespace Sys2Proof

/-- The masters of a fabric transaction (R25). Number 0 is carried by no transaction. -/
inductive Master
  | ac (n : Fin 8) | sp | ha | hb | vigil | update | mirror | debug
deriving DecidableEq, Repr, Inhabited

/-- The 4-bit master number (R25). -/
def Master.num : Master → Nat
  | .ac n => n.val + 1
  | .sp => 9 | .ha => 10 | .hb => 11 | .vigil => 12 | .update => 13 | .mirror => 14 | .debug => 15

/-- The privilege level an access is made at (R37). -/
inductive Level
  | user | supervisor | monitor
deriving DecidableEq, Repr, Inhabited

/-- The size of an access to register space (R9). -/
inductive Size
  | octet | half | word
deriving DecidableEq, Repr, Inhabited

/-- How a register access reaches the block: its master, its privilege level, whether it uses the unprivileged view's
address, its size, and whether it carries the Device attribute (R9, R37, R39, R54). -/
structure BusAcc where
  master : Master
  level : Level
  unpriv : Bool
  size : Size
  device : Bool
deriving DecidableEq, Repr, Inhabited

/-- A core that can be halted or resumed through the test access port (R43). -/
inductive Cpu
  | ac (n : Fin 8) | sp
deriving DecidableEq, Repr, Inhabited

/-- A host port (R57). -/
inductive Port
  | ha | hb
deriving DecidableEq, Repr, Inhabited

/-- The causes that put a host port's master in reset (R58). -/
inductive PortCause
  | linkDown | hotReset | functionReset | spiWatchdog | spiReset
deriving DecidableEq, Repr, Inhabited

/-- A requester of the fabric's arbitration, in the order of the class table of R29. -/
inductive Requester
  | radioMarks | mirrorAgent | gnssRecords
  | obsIntake | fix | latheAxis | radioData | calends
  | applicationCores | sp | matrix | reservation | latheCompute | dma
  | update | almanacReads | hostBulk | dmaBulk
deriving DecidableEq, Repr, Inhabited

/-- A preset of one function: its name (16 octets, all zero when empty) and the register values it writes, in ascending
offset order, each a word number of register space and its value (R53). -/
structure Preset where
  function : Fin 21
  number : Fin 16
  name : List Byte
  values : List (Nat × Word)
deriving DecidableEq, Repr, Inhabited

/-- One partition as an image holds it: its content version, its section hash and what it lays down (R44, R47). The format of
a section's octets is the Composer's; the model takes the register values they stand for. -/
structure Partition where
  version : Word
  hash : List Byte
  values : List (Nat × Word)
  presets : List Preset
  defaults : List (Fin 21 × Fin 16)
deriving DecidableEq, Repr, Inhabited

/-- A Vangia image as the device finds it on verification: the header and table fields of R44, whether the octets could be
read, whether the signature (R45) and the section hashes verify, and the facts of the consistency checks of R46 that the
register values do not show; and the key slots that RAD_KEYS names (group, join, pairwise master; R324). -/
structure Image where
  readOk : Bool
  signatureOk : Bool
  hashesOk : Bool
  magic : Nat
  formatVersion : Nat
  headerLength : Nat
  sectionCount : Nat
  sectionIds : List Nat
  imageVersion : Word
  minStepping : Nat
  estateTag : Nat
  privMask : Nat
  debugEnable : Bool
  spareBanks : List Nat
  stopaEnabled : Bool
  stopLanes : Nat
  keysDefined : Bool
  radKeys : Nat × Nat × Nat
  partitions : List Partition
deriving DecidableEq, Repr, Inhabited

/-- A PCI Express request's data phase (R59). -/
inductive PcieOp
  | read (dwords : Nat) | write (data : List Word)
deriving DecidableEq, Repr, Inhabited

/-- A notice register (R69). -/
inductive NoticeReg
  | smu (c : Fin 64) | mbx (ch : Fin 32) | stm (f : Fin 48) | gns | obs (r : Fin 128)
deriving DecidableEq, Repr, Inhabited

/-- A change to the reservation calendars and tokens as a mirror record carries it (R196); ticks are site-time ticks. -/
inductive RsvChange
  | commit (robot token old : Nat) (path : List (Nat × Nat × Nat))
  | valid (token : Nat)
  | drop (token : Nat)
  | release (robot : Nat) (keys : List Nat) (tick : Nat)
  | expire (tick : Nat)
  | revoke (token : Nat) (hold : Bool) (tick : Nat)
  | clearHolds (robot : Nat)
  | bar (robot : Nat) (on : Bool)
  | edit (seg : Nat) (body : List Byte)
  | graph (version count : Nat) (segs : List (Nat × List Byte))
  | poison (cal tick : Nat)
  | unpoison (cal : Nat)
  | closeSeg (seg : Nat)
deriving DecidableEq, Repr, Inhabited

/-- What an uncorrectable error in reservation engine memory hits (R194): a segment's or a conflict set's calendar, a segment
record, a token record; or an error that was corrected. -/
inductive EccHit
  | segCalendar (seg : BitVec 16) | setCalendar (set : Fin 1024) | segment (seg : BitVec 16) | token (rec : Fin 4096)
deriving DecidableEq, Repr, Inhabited

/-- What the loops of a channel give at an epoch (R112): channel, pseudorange in 2^-10 m before the GLONASS correction, carrier phase
in 2^-16 cycle, Doppler in 2^-10 Hz, C/N0 in 0.25 dB-Hz, half cycle, and the carrier phase that the known geometry and the
common clock predict, in 2^-16 cycle. -/
structure ObsMeas where
  ch : Fin 512
  pr : BitVec 40
  cp : BitVec 56
  dop : BitVec 32
  cn0 : Byte
  half : Bool
  pred : Int
deriving DecidableEq, Repr, Inhabited

/-- What a tile's checks find (R142): a residue mismatch, an uncorrectable error or a corrected error of its memory. -/
inductive TileError
  | residue | uncorrectable | corrected
deriving DecidableEq, Repr, Inhabited

/-- A satellite as the navigation store shows it when a seed is made: constellation, number, elevation in 0.01°, the unit vector from
the site origin in 2^-15 (east, north, up; R148), and the origin's range less the reference antenna's, in 2^-10 m. -/
structure SatGeo where
  con : Nat
  sv : Nat
  elev : Nat
  east : Int
  north : Int
  up : Int
  shift : Int
deriving DecidableEq, Repr, Inhabited

/-- A solution of a robot's filter: position in mm from the origin, velocity in mm/s, r95 in mm (R159, R165). -/
structure FixSol where
  e : Int
  n : Int
  u : Int
  ve : Int
  vn : Int
  vu : Int
  r95 : Nat
deriving DecidableEq, Repr, Inhabited

/-- How the jobs of an epoch ended (R162): all done; not_pd; an invalid operand or overflow; a loss on an in-place job; a loss on LDLT or
SEARCH; no tile. -/
inductive FixHow
  | solved | notPd | invalid | inPlaceLost | searchLost | noTile
deriving DecidableEq, Repr, Inhabited

/-- What a run of a robot's filter gives FIX (R158–R162): robot, epoch, how the jobs ended, whether SEARCH ended fixed, the ambiguities
in the search block, the validation sum (binary64) over m measurements, the pairs, the SEARCH ratio (binary32), the solution
conditioned on the best candidate, the filter's own and the predicted one, whether a measurement was excluded, the
latency in µs, and the checkpoint of x and P. -/
structure FixRun where
  robot : Nat
  epoch : Nat
  how : FixHow
  searchFixed : Bool
  held : Nat
  sum : Nat
  m : Nat
  pairs : Nat
  ratio : Nat
  conditioned : FixSol
  filtered : FixSol
  predicted : FixSol
  excluded : Bool
  latency : Nat
  checkpoint : List Byte
deriving DecidableEq, Repr, Inhabited


/-- One phase of a motion profile (R199): its duration in ps, position, speed and acceleration at its start in units of 2^-20 of the
position unit (per s, per s²), its jerk in position units per s³, and whether it is a dwell. -/
structure Phase where
  dur : Nat
  s : Int
  v : Int
  a : Int
  j : Int
  dwell : Bool
deriving DecidableEq, Repr, Inhabited

/-- A robot's profile (R200–R202, R209): token, start in ns of site time, path (segments, start offset along the first element,
each element's end in mm from the start position), phases, arrival in ps after the start, the phases of the replaced
profile with its own start in ns and the position in 2^-20 mm of the new start on it, the track frames queued, and those
that carried the final keyframe. -/
structure Profile where
  token : Nat
  robot : Nat
  startNs : Nat
  segs : List Nat
  startOfs : Nat
  ends : List Int
  v0 : Nat
  phases : List Phase
  arrive : Nat
  prior : List Phase
  priorStart : Nat
  priorPos : Int
  frames : Nat
  finals : Nat
deriving DecidableEq, Repr, Inhabited

/-- The states of an axis (AXL_AX_STAT.state). -/
inductive AxState
  | disabled | idle | moving | homing | following | stopping | stopped | armed
deriving DecidableEq, Repr, Inhabited

/-- The states of a homing sequence (R223). -/
inductive HomeState
  | none | seek | halting | backOff | index | zeroing
deriving DecidableEq, Repr, Inhabited

/-- An axis beyond its registers (R217–R224): state, enable, position in microsteps, phase of the table address, speed and
acceleration (units of 2^-20 microsteps), the phases under way and the time into them in ps, the speed jogged at when
they end, the group it moves in, the stop it makes (it enters stopped when at rest), time at rest in ps, a command waiting
for the next cycle, the last result, homing state and its marks, following target, last direction and step interval, the
time of the last step, and the words of the last upstream frame. -/
structure AxisSt where
  state : AxState
  enable : Bool
  pos : Int
  phase : Int
  v : Int
  a : Int
  phases : List Phase
  time : Nat
  jog : Bool
  group : Option Nat
  toStopped : Bool
  rest : Nat
  pendingCmd : Option Nat
  result : Nat
  homed : Bool
  home : HomeState
  homeFrom : Int
  homeNext : HomeState
  feCount : Nat
  latched : Bool
  follow : Int
  lastDir : Bool
  lastStep : Nat
  interval : Nat
  fe : Int
  homeIn : Bool
  limPos : Bool
  limNeg : Bool
  index : Bool
  fault : Bool
deriving DecidableEq, Repr, Inhabited


/-- Where an Ethernet frame comes from: the wire of E0 or E1 (octets without FCS, and whether the FCS was right), or the E2 transmit
stream (R295). -/
inductive EthSource
  | wire (port : Fin 2) (octets : List Byte) (fcsOk : Bool)
  | stream
deriving DecidableEq, Repr, Inhabited

namespace Machine

/-- A track graph segment (R173); a record with valid = 0 is the unlisted one. -/
structure Seg where
  startE : Int
  startN : Int
  endE : Int
  endN : Int
  length : Nat
  curv : Int
  speed : Nat
  fromNode : Nat
  toNode : Nat
  cls : Nat
  closed : Bool
  valid : Bool
  sets : List Nat
deriving DecidableEq, Repr, Inhabited

/-- An entry of the reservation pool (R177, R178): its robot, its token (0 for a hold), its calendar (a segment, or 65,536 plus a
conflict set), its window, whether its out is open (R189), whether it has been released (R187), and the path elements that
it stands for, each by its place in commit order and its segment. -/
structure Entry where
  robot : Nat
  token : Nat
  cal : Nat
  tin : Nat
  tout : Nat
  opened : Bool
  released : Bool
  elems : List (Nat × Nat)
deriving DecidableEq, Repr, Inhabited

/-- A token record (R179): its generation, its state (0 free, 1 committed, 2 valid), its robot, its path elements, the out of the
last one. -/
structure TokRec where
  gen : Nat
  state : Nat
  robot : Nat
  elements : Nat
  last : Nat
deriving DecidableEq, Repr, Inhabited

/-- An entry of the validity table towards the radio (R180). -/
structure Validity where
  gen : Nat
  valid : Bool
  robot : Nat
deriving DecidableEq, Repr, Inhabited

/-- The reservation engine as a snapshot carries it (R196, R277): graph version, segment count, segments, the pool, the token records, the
records freed and the count of records never used, the validity table, the robots barred, the commit order, the poisoned
calendars and the segments closed by an error. -/
structure RsvSnap where
  version : Nat
  count : Nat
  segs : List (Nat × Seg)
  entries : List Entry
  toks : List (Nat × TokRec)
  freed : List Nat
  used : Nat
  validity : List (Nat × Validity)
  barred : List Nat
  commits : Nat
  poison : List (Nat × Nat)
  eccClosed : List Nat
deriving DecidableEq, Repr, Inhabited

end Machine

/-- The stop state as a mirror record carries it (R277): state (0 unarmed, 1 stopped, 2 running), sources latched, reason, stop_id,
t_ms of the newest stop, whether the fleet hold runs, reason, stop_id and t_ms of the newest fleet stop, each robot under a
targeted stop with its sources, reason, stop_id, t_ms and whether its hold runs, permit_seq, and the site time in ns of the
last mark. -/
structure StopMirror where
  state : Nat
  latched : Nat
  reason : Nat
  stopId : Nat
  tms : Nat
  hold : Bool
  fleet : Nat × Nat × Nat
  targets : List (Nat × List Nat × Nat × Nat × Nat × Bool)
  permitSeq : Nat
  markAt : Nat
deriving DecidableEq, Repr, Inhabited

/-- A neighbour's entry as a mirror record carries it (R257, R277): NB_CFG with joined and lane, the extended address, NB_TXCTR, tx_next,
NB_RXCTR, rx_last, the sequence record. -/
structure NbMirror where
  nb : Nat
  cfg : Word
  eui : Nat
  txCtr : Nat
  txNext : Nat
  rxCtr : Nat
  rxLast : Nat
  record : Nat
deriving DecidableEq, Repr, Inhabited

/-- An item of the mirrored state (R277). -/
inductive MirrorItem
  | rsv (c : RsvChange)
  | rsvAll (x : Machine.RsvSnap)
  | lathe (robot : Nat) (active pending : Option Profile)
  | axis (n : Nat) (ax : AxisSt)
  | stop (m : StopMirror)
  | neighbours (ns : List NbMirror)
  | counters (stop group : List Nat) (stopFlood radFlood : Nat)
  | superframe (tsf number bindVer : Nat) (setTags : List Nat)
  | base (record : List Byte)
  | checkpoint (robot epoch counter : Nat) (octets : List Byte)
deriving DecidableEq, Repr, Inhabited

/-- What happens to a scheduled frame of a lane (R230): it is loaded and sent, or its end is reported: the times in ns of the TS
rising edge, and of the falling edge, each from the scheduled start, where there was one, and the transceiver's status. -/
inductive TxStep
  | go
  | done (rise fall : Option Int) (status : BitVec 16)
deriving DecidableEq, Repr, Inhabited

/-- The two moments of a stop run (R269): the claim at the start of the window *j*, and the run's start on a lane. -/
inductive RunStep
  | claim (j : Fin 5)
  | send (lane : Fin 8)
deriving DecidableEq, Repr, Inhabited

/-- A STOP input (R261). -/
inductive StopInput
  | a | b
deriving DecidableEq, Repr, Inhabited

/-- How a program or an erase of flash ends (R350, R364, R370): done and read back, failed, or not verified by its read-back. -/
inductive FlashResult
  | ok | failed | unverified
deriving DecidableEq, Repr, Inhabited

/-- How a record reaches the update engine in ROM recovery (R360): a word written to UPD_RCV_DATA, or an Ethernet frame on E0 without its
FCS. -/
inductive RecoverySource
  | word (via : BusAcc) (value : Word)
  | frame (octets : List Byte)
deriving DecidableEq, Repr, Inhabited

/-- What the meter finds in a window of 10 or 12 cycles (R308, R310): each channel's fundamental in mV or mA, its harmonics 2–63 and its
THD in 0.01 %, the angles of VB and VC behind VA in 360 / 65,536 degrees, and the zero-sequence voltage in mV. -/
structure MeterWindow where
  fundamentals : List Nat
  harmonics : List (List Nat)
  thd : List Nat
  angB : BitVec 16
  angC : BitVec 16
  zeroSeq : Nat
deriving DecidableEq, Repr, Inhabited

/-- A conversion frame (R304–R310): the seven 24-bit samples, its length in modulator clocks (512, or as a realignment makes it), the
frequency in mHz and the fundamental in mV of the mains channel, the steps of the mains axis since the frame before, whether a
whole mains cycle ends with it, and the window that does. -/
structure MeterFrame where
  samples : List Int
  clocks : Nat
  freq : Nat
  fundamental : Nat
  steps : Nat
  cycle : Bool
  window : Option MeterWindow
deriving DecidableEq, Repr, Inhabited



/-- The levels of the strap pins at the release of the logic stage (R391). -/
structure Straps where
  haMode : BitVec 2
  hbMode : BitVec 2
  bootRcv : Bool
  refSel : Bool
deriving DecidableEq, Repr, Inhabited

/-- How a DRAM channel trains (R395): the two attempts, the size found in units of 64 MiB, and the margins and codes of DDR_CH_TRAIN. -/
structure DdrTrain where
  first : Bool
  second : Bool
  size : BitVec 10
  wrMargin : Byte
  rdMargin : Byte
  vrefCa : Byte
  vrefDq : Byte
deriving DecidableEq, Repr, Inhabited

/-- What a boot stage finds (R392): whether bank 0 initialises, the banks 1–11 that fail the march test (R393), whether the TRNG's
health tests pass at least once in the four attempts (R323), whether LOG is discovered, what the Structure slots A and B
hold, how the DRAM channels train, and the milliseconds since the logic stage was released. -/
structure BootFacts where
  bank0Ok : Bool
  badBanks : List Nat
  entropyOk : Bool
  logFound : Bool
  imageA : Image
  imageB : Image
  training : List DdrTrain
  ms : Nat
deriving DecidableEq, Repr, Inhabited

/-- A wake (R378): a change of the WAKE pin's level, the Vigil alarm, an SPI CSn, a tamper source. -/
inductive WakeCause
  | pin (high : Bool) | alarm | haCs | hbCs | tamper
deriving DecidableEq, Repr, Inhabited

/-- The speed a PCI Express link trains at. -/
inductive PcieSpeed
  | gts2_5 | gts5 | gts8
deriving DecidableEq, Repr, Inhabited


/-- The commands, in the order of the table. -/
inductive Instr
  /-- REGISTER_WRITE (R13): A write to a register that has no row of its own sets its RW, WL, W1C and W1S fields under the access types and the lock rule. -/
  | registerWrite (via : BusAcc) (reg : BitVec 21) (value : Word)
  /-- LOW_WORD_READ (R11): A read of the low word of a 64-bit register copies the high word into the reading master's shadow. -/
  | lowWordRead (via : BusAcc) (reg : BitVec 21)
  /-- LOW_WORD_WRITE (R11): A write of the low word of a 64-bit register is held in a per-master shadow until the high-word write commits both halves. -/
  | lowWordWrite (via : BusAcc) (reg : BitVec 21) (value : Word)
  /-- VGL_WRITE_EFFECT (R19): A write to the VGL block takes effect in the Vigil domain within 3 Vigil cycles. -/
  | vglWriteEffect
  /-- MASTER_RESET (R27): A master entering reset has every mailbox lock and host semaphore it holds released and recorded. -/
  | masterReset (m : Master)
  /-- FABRIC_PROMOTION (R29): A requester that has waited 2 µs without a grant is promoted one class for one grant. -/
  | fabricPromotion (who : Requester)
  /-- DEVICE_INTERRUPT (R38): A device interrupt line is delivered to a core chosen by its routing entry and taken if above the running level. -/
  | deviceInterrupt (line : Fin 224)
  /-- DEBUG_HALT (R43): A debug halt removes an application core from delivery, or for SP stops the fleet as a floor failure. -/
  | debugHalt (cpu : Cpu)
  /-- TRANSIENT_FAULT (R34): A detected fault is reported to the health manager, retried, counted and classified transient or permanent. -/
  | transientFault (cls : Fin 15) (inst : Fin 512) (kind : Word) (retriesFailed : Bool)
  /-- RETIREMENT_NEXT (R374): A retirement waiting behind another begins its replacement once the one ahead has completed. -/
  | retirementNext
  /-- RELOAD_GO (R48): A write of CFG_RELOAD_CTRL.go starts verification of the named partition, or refuses it with an error. -/
  | reloadGo (via : BusAcc) (value : Word)
  /-- RELOAD_ABORT (R49): A write of CFG_RELOAD_CTRL.abort before the applying state ends the reload with error 0x0B. -/
  | reloadAbort (via : BusAcc) (value : Word)
  /-- RELOAD_VERIFIED (R49): Verification of the signature and section hash completes and the reload waits for its boundary, or fails. -/
  | reloadVerified (image : Image)
  /-- RELOAD_APPLY (R49): At the partition's boundary all new values take effect together, lock bits clear and the default preset is applied. -/
  | reloadApply
  /-- RELOAD_TIMEOUT (R49): A reload whose boundary is not reached within its limit fails with error 0x08, leaving the old partition in force. -/
  | reloadTimeout
  /-- PRESET_SELECT (R53): A write to CFG_PRESET_SEL applies the named preset's values to the function's registers in offset order. -/
  | presetSelect (via : BusAcc) (f : Fin 32) (value : Word)
  /-- PRESET_QUEUED_APPLY (R53): A selection made while busy is applied after the preceding one has finished. -/
  | presetQueuedApply
  /-- STAGING_DRAIN (R56): The configuration staging queue drains one record into the Almanac write buffer while the buffer has room. -/
  | stagingDrain
  /-- PORT_RESET (R58): A host-port link reset, hot reset, FLR or SPI reset treats the port's master as reset and parks its DMA. -/
  | portReset (port : Port) (cause : PortCause)
  /-- PCIE_LINK_UP (R58): A host port's link reaches L0 and parked units towards it may resume. -/
  | pcieLinkUp (port : Port) (speed : PcieSpeed) (two : Bool)
  /-- BAR0_REQUEST (R59): A PCI Express request to BAR 0 reaches register space, or is answered as a bus error. -/
  | bar0Request (port : Port) (offset : BitVec 21) (op : PcieOp) (allBytes : Bool)
  /-- BAR2_REQUEST (R59): A PCI Express request to BAR 2 reaches device memory through the port's SMU context. -/
  | bar2Request (port : Port) (offset : BitVec 34) (op : PcieOp)
  /-- SPI_WRITE (R60): SPI command 0x02 writes c + 1 words from the address, after the CRC check when enabled. -/
  | spiWrite (port : Port) (addr : BitVec 40) (words : List Word) (crcOk : Bool)
  /-- SPI_READ (R60): SPI command 0x03 reads c + 1 words and returns them after filler and the 0x5A marker. -/
  | spiRead (port : Port) (addr : BitVec 40) (count : Fin 64)
  /-- SPI_WAIT_TIMEOUT (R60): A read whose data is not ready within wait_max octets sends 0xE1; the fabric read still completes into HPx_SPI_LAST. -/
  | spiWaitTimeout (port : Port) (addr : BitVec 40) (count : Fin 64)
  /-- SPI_STATUS (R60): SPI command 0x05 returns the port status octet. -/
  | spiStatus (port : Port)
  /-- SPI_RESET_ENABLE (R60): SPI command 0x66 arms the reset command for the next frame. -/
  | spiResetEnable (port : Port)
  /-- SPI_RESET (R60): SPI command 0x99 after 0x66 resets the target and treats the port's master as reset. -/
  | spiReset (port : Port)
  /-- SPI_WATCHDOG_EXPIRY (R61): No valid SPI frame for wdog_ms treats the port's master as reset and sets link state 0b101. -/
  | spiWatchdogExpiry (port : Port)
  /-- SEM_LOCK_READ (R62): A read of SEM_LOCK acquires a free semaphore or reports its owner. -/
  | semLockRead (via : BusAcc) (n : Fin 16)
  /-- SEM_LOCK_WRITE (R62): A write of 0 by the owner releases the semaphore; any other write is counted in SEM_ERR. -/
  | semLockWrite (via : BusAcc) (n : Fin 16) (value : Word)
  /-- SEM_FORCE (R63): A privileged write with key 0x5E3A frees the named semaphore whatever its owner. -/
  | semForce (via : BusAcc) (value : Word)
  /-- TASK_SUBMIT (R67): The SPN_SUBMIT_HI write makes Spindle read a task descriptor and place, spill or refuse it. -/
  | taskSubmit (via : BusAcc) (high : Word)
  /-- TOKEN_POST (R68): A token decrements a task's dependence count and makes the task ready at zero. -/
  | tokenPost (handle : BitVec 16) (err : Bool)
  /-- NOTICE_ARM (R69): A write of a handle to a notice register arms it, or posts a token at once if pending is set. -/
  | noticeArm (via : BusAcc) (reg : NoticeReg) (handle : BitVec 16)
  /-- AFFINITY_WINDOW_EXPIRY (R70): A task not taken within affinity_us is stolen to another eligible core. -/
  | affinityWindowExpiry (slot : Fin 512)
  /-- TASK_ACCEPT (R71): A read of SPN_SELF accepts the pending offer, marks the task running and puts any running task into saving. -/
  | taskAccept (core : Fin 8)
  /-- TASK_SAVED (R72): A write of SPN_SAVED moves a saving task to pre-empted at the head of its ready list. -/
  | taskSaved (via : BusAcc) (handle : BitVec 16)
  /-- SAVING_TIMEOUT (R72): A task in saving for more than 100 µs is reported as a delivery fault of its core. -/
  | savingTimeout (slot : Fin 512)
  /-- TASK_DONE (R73): A write of SPN_DONE ends the task, frees its slot, posts its successor token and refills from the spill ring. -/
  | taskDone (core : Fin 8) (handle : BitVec 16) (err : Bool)
  /-- CORE_DELIVER_DISABLE (R75): A write of SPN_CORE_EN.deliver = 0 withdraws any offer and stops offers to the core. -/
  | coreDeliverDisable (via : BusAcc) (core : Fin 8)
  /-- SMU_INVALIDATE (R78): A write of SMU_INVAL.go starts invalidation of a page, context or all contexts. -/
  | smuInvalidate (via : BusAcc) (scope : Fin 4) (ctx : Fin 64)
  /-- INVALIDATE_COMPLETE (R78): An invalidation completes, busy reads 0 and any queued invalidation begins. -/
  | invalidateComplete
  /-- TRANSLATION_FAULT (R79): A translation faults, is queued, raises line 19, notifies the context handler and parks the unit. -/
  | translationFault (unit : Fin 320) (ctx : Fin 64) (addr : BitVec 36) (write : Bool) (kind : Fin 8)
  /-- FAULT_POP (R79): A read of SMU_FAULT_POP_LO takes the oldest fault record from the queue. -/
  | faultPop (via : BusAcc)
  /-- UNIT_RESUME (R86): A write of SMU_UNIT.resume resumes a parked unit from its recorded progress after a fresh walk. -/
  | unitResume (via : BusAcc) (unit : Fin 320)
  /-- UNIT_ABORT (R86): A write of SMU_UNIT.abort ends the parked unit's descriptor or job with an error token. -/
  | unitAbort (via : BusAcc) (unit : Fin 320)
  /-- PARK_TIMEOUT (R86): A unit parked longer than park_ms is aborted by hardware with error 0x4 and recorded. -/
  | parkTimeout (unit : Fin 320)
  /-- DMA_START (R80): The DMA_CH_START_HI write starts a channel's descriptor chain, or is ignored if the channel is not idle. -/
  | dmaStart (via : BusAcc) (ch : Fin 128) (high : Word)
  /-- DMA_DESCRIPTOR_COMPLETE (R81): A descriptor's last write completes; status, token and interrupt follow and the next descriptor is fetched. -/
  | dmaDescriptorComplete (ch : Fin 128) (hostData : List Byte)
  /-- DMA_FIFO_READY (R82): A channel paused on a full or empty packet FIFO continues once the FIFO has room or a complete packet. -/
  | dmaFifoReady (ch : Fin 128)
  /-- MIGRATION_COPY_DONE (R89): The copy of a retired SRAM bank to the spare completes, poisoning uncorrectable lines. -/
  | migrationCopyDone (badLines : List Nat)
  /-- MBX_POST (R91): The MBX_POST_HI write queues a message for the other side, or refuses it when the queue is full. -/
  | mbxPost (via : BusAcc) (ch : Fin 32) (high : Word)
  /-- MBX_RECV (R91): A read of MBX_RECV_LO takes the oldest inbound message. -/
  | mbxRecv (via : BusAcc) (ch : Fin 32)
  /-- MBX_CH_LOCK_READ (R93): A read of MBX_CH_LOCK acquires or reports the lock between the two bound masters. -/
  | mbxChLockRead (via : BusAcc) (ch : Fin 32)
  /-- MBX_DB_RING (R94): A write of MBX_DB_RING sets doorbell bits in the other side's MBX_DB_STAT. -/
  | mbxDbRing (via : BusAcc) (ch : Fin 32) (bits : Word)
  /-- STM_PUSH (R99): A write of STM_PUSH adds a word to the producer's packet, or drops it and sets overflow. -/
  | stmPush (via : BusAcc) (f : Fin 48) (data : Word)
  /-- STM_COMMIT (R96): A framed commit back-fills the length word and makes the packet visible, or aborts an inconsistent one. -/
  | stmCommit (via : BusAcc) (f : Fin 48) (length : BitVec 16) (tag : BitVec 13)
  /-- STM_COMMIT_START (R97): A cut-through commit with start = 1 writes the packet header before its data. -/
  | stmCommitStart (via : BusAcc) (f : Fin 48) (length : BitVec 16) (tag : BitVec 13)
  /-- STM_COMMIT_ABORT (R96): A commit with abort = 1 withdraws or marks aborted the producer's packet. -/
  | stmCommitAbort (via : BusAcc) (f : Fin 48)
  /-- STM_POP (R99): A read of STM_POP returns the next word of the current packet or counts an empty pop. -/
  | stmPop (via : BusAcc) (f : Fin 48)
  /-- STM_FLUSH (R100): A write of STM_CTRL.flush requests discarding of complete packets at the consumer's next boundary. -/
  | stmFlush (via : BusAcc) (f : Fin 48)
  /-- FLUSH_ACT (R100): A pending flush acts at the consumer's next packet boundary. -/
  | flushAct (f : Fin 48)
  /-- STM_SKIP (R101): A write of STM_CTRL.skip discards the rest of the consumer's current packet. -/
  | stmSkip (via : BusAcc) (f : Fin 48)
  /-- BAND_LOCK (R103): A band link that has seen 1,024 correct frame marks becomes locked. -/
  | bandLock (ant : Fin 4) (band : Fin 3)
  /-- FRAME_ERROR (R103): A misplaced frame mark counts frame_err and drops the band link to training. -/
  | frameError (ant : Fin 4) (band : Fin 3)
  /-- BAND_LINK_ERROR (R103): A clock out of tolerance or 16 frame errors in 1 ms puts the link in error and faults the antenna. -/
  | bandLinkError (ant : Fin 4) (band : Fin 3)
  /-- GNSS_REF_LOST (R104): GNSS_REF stops or drifts, the domain switches to the fallback clock and every channel ends. -/
  | gnssRefLost
  /-- GNSS_REF_RESTORED (R104): After 100 ms of a good reference the receiver restarts as after Sleep. -/
  | gnssRefRestored
  /-- ACQ_REQUEST (R109): A write of GNS_ACQ_REQ.go queues or merges a triple for search. -/
  | acqRequest (via : BusAcc) (value : Word)
  /-- SEARCH_FOUND (R108): A search succeeds and its channel starts code and carrier loops in pull-in. -/
  | searchFound (slot : Fin 32) (k : Fin 16)
  /-- SEARCH_NOT_FOUND (R109): A search that finds nothing returns its triple to the tail of the queue. -/
  | searchNotFound (slot : Fin 32)
  /-- PULL_IN_LOCK (R108): A pulled-in channel holds phase lock and resolves time of transmission, entering tracking. -/
  | pullInLock (ch : Fin 512)
  /-- PULL_IN_TIMEOUT (R108): A channel 500 ms in pull-in is released and its triple requeued. -/
  | pullInTimeout (ch : Fin 512)
  /-- LOCK_LOSS (R108): A tracking channel's phase lock fails or C/N0 drops, and it coasts in lost. -/
  | lockLoss (ch : Fin 512)
  /-- LOST_TIMEOUT (R108): A lost channel without relock for 1 s is released and its triple queued. -/
  | lostTimeout (ch : Fin 512)
  /-- SATELLITE_SET (R108): A satellite falling below its mask or flagged unhealthy releases its channel. -/
  | satelliteSet (con : Fin 5) (sv : BitVec 6) (elev : Fin 9001) (healthy : Bool)
  /-- CHANNEL_FAULT (R117): A correlator parity error reloads the channel from its snapshot or retires it. -/
  | channelFault (ch : Fin 512) (retriesFailed : Bool)
  /-- EPOCH_LATCH (R111): At each base epoch the observables are latched and extrapolated, the monitor runs and the record writer starts. -/
  | epochLatch (offset : Int) (leap : BitVec 8) (meas : List ObsMeas)
  /-- RECORD_COMPLETE (R122): The base-observation record completes, informs the fix manager and posts its notice. -/
  | recordComplete
  /-- REFERENCE_RESTORE (R116): A write of GNS_CTRL.restore returns the reference to ref_ant at the next epoch if it is up. -/
  | referenceRestore (via : BusAcc)
  /-- JOB_SUBMIT (R130): The MTX_SUBMIT_HI write makes the engine read a job descriptor and accept or refuse it. -/
  | jobSubmit (via : BusAcc) (high : Word)
  /-- JOB_DISPATCH (R139): A free tile half takes the next urgent or normal job to load and compute. -/
  | jobDispatch
  /-- JOB_COMPLETE (R133): A job writes back E, F, its status word, token and interrupt. -/
  | jobComplete (slot : Fin 64)
  /-- TILE_FAULT (R142): A residue mismatch or uncorrectable tile ECC error retries the job and counts against the tile. -/
  | tileFault (tile : Fin 4) (half : Fin 2) (kind : TileError)
  /-- SELFTEST_START (R144): A tile idle for selftest_ms starts a known-answer job. -/
  | selftestStart (tile : Fin 4)
  /-- SELFTEST_COMPLETE (R144): A tile self-test ends and a wrong answer counts as a transient fault. -/
  | selftestComplete (tile : Fin 4) (ok : Bool)
  /-- OBS_FRAME (R155): An observation frame from RAD is accepted into a robot's epoch buffer and expanded, or discarded. -/
  | obsFrame
  /-- BUFFER_RELEASE (R155): A write of OBS_RBT_CTRL.release frees a robot's epoch buffer. -/
  | bufferRelease (via : BusAcc) (robot : Fin 129) (bufs : Fin 4)
  /-- FORCE_FULL (R154): A write of OBS_RBT_CTRL.force_full sets send_full in the robot's next seed. -/
  | forceFull (via : BusAcc) (robot : Fin 129)
  /-- POSITION_REPORT (R167): A broadcast-mode robot's position report is entered in FIX_TBL with status reported and checked. -/
  | positionReport
  /-- BASE_HOLD_EXPIRY (R157): The fix manager's hold of a base record buffer ends when all robots solved or the time limit passed. -/
  | baseHoldExpiry
  /-- EPOCH_DEADLINE (R161): A robot epoch with no usable buffer or base record by its deadline coasts. -/
  | epochDeadline (robot : Fin 129) (epoch : Word) (predicted : FixSol)
  /-- FIX_PUBLISH (R165): A fix enters FIX_TBL, is published, echoed and checked against the robot's reservations. -/
  | fixPublish (r : FixRun)
  /-- PUB_DROP_TIMEOUT (R165): A fix record held 1 ms by a full FIFO is dropped from the stream. -/
  | pubDropTimeout
  /-- FIX_TBL_SNAPSHOT (R165): A read of FIX_TBL word 0 snapshots the whole fix record for the reading master. -/
  | fixTblSnapshot (via : BusAcc) (robot : Fin 129)
  /-- ROBOT_RESET (R163): A write of FIX_RBT_CTRL.reset returns the robot to status none at the next epoch. -/
  | robotReset (via : BusAcc) (robot : Fin 129)
  /-- SP_VERDICT (R169): SP takes a verdict from its queue and decides on a targeted or fleet stop. -/
  | spVerdict
  /-- STOP_LOST_TIMEOUT (R169): A robot unverifiable for stop_lost_ms while its profile moves is stopped. -/
  | stopLostTimeout (robot : Fin 129)
  /-- STOP_CONFIRM_TIMEOUT (R170): A targeted robot still moving stop_confirm_ms after the stop escalates to a fleet stop. -/
  | stopConfirmTimeout (robot : Fin 129)
  /-- BASE_LOSS_TIMEOUT (R170): No usable base record for base_loss_ms while a track is committed escalates to a fleet stop. -/
  | baseLossTimeout
  /-- SILENCE_TIMEOUT (R170): No verdict for silence_ms while a central robot moves escalates to a fleet stop. -/
  | silenceTimeout
  /-- GRAPH_LOAD (R175): The RSV_GRAPH_HI write starts loading a whole graph image, or is refused. -/
  | graphLoad (via : BusAcc) (ctx : Fin 64) (addrHi : Fin 16)
  /-- GRAPH_LOAD_DONE (R175): A graph load completes or fails its checks, leaving the previous graph on failure. -/
  | graphLoadDone
  /-- RSV_SUBMIT (R182): The RSV_SUBMIT_HI write submits a reservation request, accepted into a slot or refused. -/
  | rsvSubmit (via : BusAcc) (high : Word)
  /-- RESERVE (R183): A RESERVE request is tested and commits a token, or reports a conflict with an offer. -/
  | reserve (slot : Fin 32)
  /-- CHECK (R183): A CHECK request runs every test and reports free without committing. -/
  | check (slot : Fin 32)
  /-- REPLACE (R188): A REPLACE request commits a new path and frees the old token in one atomic step. -/
  | replace (slot : Fin 32)
  /-- REVOKE (R189): A REVOKE request clears a token's validity and turns its near entries into holds. -/
  | revoke (slot : Fin 32)
  /-- CLEAR_HOLD (R189): A CLEAR_HOLD request frees all holds of one robot. -/
  | clearHold (slot : Fin 32)
  /-- EDIT (R192): An EDIT request atomically replaces one segment record. -/
  | edit (slot : Fin 32)
  /-- MIRROR_ACK_TIMEOUT (R196): A token awaiting the partner's acknowledgement for 2 ms becomes valid anyway and counts mirror_late. -/
  | mirrorAckTimeout (token : Word)
  /-- EXPIRY_SWEEP (R188): Each tick frees every entry whose out plus guard has passed, ending tokens with no entry left. -/
  | expirySweep
  /-- RSV_REVOKE (R190): A write of RSV_REVOKE revokes one or all robots' tokens without barring. -/
  | rsvRevoke (via : BusAcc) (value : Word)
  /-- TOKEN_QUERY (R179): A write of RSV_TOKQ selects a token whose state RSV_TOKQ_RES and RSV_TOKQ_LAST then describe. -/
  | tokenQuery (via : BusAcc) (token : Word)
  /-- RSV_ECC_ERROR (R194): An uncorrectable engine-memory error poisons a calendar, closes a segment or revokes a token. -/
  | rsvEccError (hit : EccHit)
  /-- POISON_CLEAR (R194): A poisoned calendar clears once the horizon has passed since poisoning. -/
  | poisonClear (cal : Fin 66560)
  /-- EVENT_DROP_TIMEOUT (R197): A reservation event held 1 ms by a full FIFO is dropped and counted. -/
  | eventDropTimeout
  /-- LTH_REQUEST (R203): Lathe takes a request packet into a free computation slot, or discards a malformed one. -/
  | lthRequest
  /-- PLAN (R205): A PLAN request computes a profile and makes one reservation request. -/
  | plan (slot : Fin 48)
  /-- NEGOTIATE (R206): A NEGOTIATE request repeats compute and reserve rounds until commit, refusal or the round limit. -/
  | negotiate (slot : Fin 48)
  /-- NEGOTIATE_ROUND (R207): A reservation response to Lathe commits, amends for the next round or ends the request. -/
  | negotiateRound (slot : Fin 48)
  /-- PROFILE (R205): A PROFILE request computes a profile and writes its windows without reserving. -/
  | profile (slot : Fin 48)
  /-- CANCEL (R205): A CANCEL request ends the robot's profiles and revokes their tokens with holds. -/
  | cancel (slot : Fin 48)
  /-- RESERVATION_BUSY_RETRY (R205): A busy refusal to Lathe is retried every 5 µs, ending reservation busy after 2 ms. -/
  | reservationBusyRetry (slot : Fin 48)
  /-- TRACK_FRAME_QUEUE (R211): At each 100 ms boundary Lathe queues a track frame with keyframes for each valid active profile. -/
  | trackFrameQueue (robot : Option (Fin 129))
  /-- KF_DROP_TIMEOUT (R211): A track frame not entering its stream within 10 ms is dropped. -/
  | kfDropTimeout (lane : Fin 8)
  /-- PROFILE_END (R210): A profile ends after its final keyframe or when its token leaves the valid state. -/
  | profileEnd (robot : Fin 129)
  /-- CONTROL_CYCLE (R214): Every 20 µs each axis link sends a downstream frame with the axes' new table addresses. -/
  | controlCycle
  /-- UPSTREAM_FRAME (R215): An upstream frame brings following error, switches, index and fault bits for the link's axes. -/
  | upstreamFrame (link : Fin 4) (frame : Option (List Byte))
  /-- LINK_FAULT (R216): timeout consecutive missing or invalid upstream frames stop every axis of the link. -/
  | linkFault (link : Fin 4)
  /-- ENABLE (R218): AX_CMD op 0x1 enables the axis. -/
  | enable (via : BusAcc) (n : Fin 16)
  /-- DISABLE (R218): AX_CMD op 0x2 disables the axis. -/
  | disable (via : BusAcc) (n : Fin 16)
  /-- MOVE_ABS (R218): AX_CMD op 0x3 runs an S-curve to AX_TGT. -/
  | moveAbs (via : BusAcc) (n : Fin 16)
  /-- MOVE_REL (R218): AX_CMD op 0x4 runs an S-curve to position plus AX_TGT. -/
  | moveRel (via : BusAcc) (n : Fin 16)
  /-- JOG (R218): AX_CMD op 0x5 runs at the signed speed until HALT. -/
  | jog (via : BusAcc) (n : Fin 16)
  /-- HALT (R218): AX_CMD op 0x6 stops the axis with normal limits. -/
  | halt (via : BusAcc) (n : Fin 16)
  /-- HOME (R223): AX_CMD op 0x7 runs the homing sequence. -/
  | home (via : BusAcc) (n : Fin 16)
  /-- SET_POS (R218): AX_CMD op 0x8 sets the commanded position without moving the address. -/
  | setPos (via : BusAcc) (n : Fin 16)
  /-- FOLLOW (R222): AX_CMD op 0x9 makes the axis follow its step and direction inputs. -/
  | follow (via : BusAcc) (n : Fin 16)
  /-- RELEASE (R218): AX_CMD op 0xA takes a stopped axis to idle once the fleet stop is released. -/
  | release (via : BusAcc) (n : Fin 16)
  /-- STEP_EDGE (R222): A rising STEP edge moves a following axis's target by coarse_div. -/
  | stepEdge (n : Fin 16) (dir stable : Bool)
  /-- GROUP_GO (R219): A write of GRP_CFG.go arms a group move with its start condition. -/
  | groupGo (via : BusAcc) (g : Fin 4) (value : Word)
  /-- GROUP_HALT (R219): A write of GRP_CFG.halt halts the group with normal limits. -/
  | groupHalt (via : BusAcc) (g : Fin 4) (value : Word)
  /-- GROUP_START (R220): An armed group's start condition is reached and its move begins at the next cycle. -/
  | groupStart (g : Fin 4)
  /-- SUPERFRAME_START (R237): At each T_sf the superframe advances and the beacon with the seed is sent. -/
  | superframeStart (nav : List SatGeo) (late : BitVec 8)
  /-- PERMIT_MARK (R242): Every 10 ms the stop sequencer sends a permit mark on every lane while running. -/
  | permitMark (mark : Fin 5)
  /-- TX_PACKET_TAKE (R247): A lane takes a transmit packet at its boundary into an in-flight buffer, gated by its token. -/
  | txPacketTake (lane : Fin 8)
  /-- FRAME_TRANSMIT (R230): A scheduled frame is loaded and sent, checked by its TS edges and aborted on failure. -/
  | frameTransmit (lane : Fin 8) (step : TxStep)
  /-- LANE_IRQ (R227): LNn_IRQn falls and the lane reads the transceiver's status and any received frame. -/
  | laneIrq (lane : Fin 8) (status : BitVec 16) (psdu : List Byte) (rssi lqi : Byte) (age : Nat)
  /-- RX_ON (R228): Transceiver command 0x06 turns the receiver on. -/
  | rxOn (lane : Fin 8)
  /-- IDLE (R228): Transceiver command 0x07 makes the transceiver idle. -/
  | idle (lane : Fin 8)
  /-- REG_WRITE (R228): Transceiver command 0x08 writes the transceiver's own registers. -/
  | regWrite (lane : Fin 8) (addr : BitVec 16) (data : List Byte)
  /-- REG_READ (R228): Transceiver command 0x09 reads the transceiver's own registers. -/
  | regRead (lane : Fin 8) (addr : BitVec 16) (count : Byte) (data : List Byte)
  /-- FRAME_RECEIVE (R244): A received frame is tested, checked for replay, delivered and acknowledged. -/
  | frameReceive (lane : Fin 8)
  /-- ACK_TIMEOUT (R249): A frame with AR = 1 without a valid ACK within ack_wait is repeated or given up. -/
  | ackTimeout (lane : Fin 8)
  /-- RX_DROP_TIMEOUT (R246): A receive packet held 1 ms by a full stream is dropped. -/
  | rxDropTimeout
  /-- FLOOD_ORIGINATE (R252): A packet in flood_fifo is sent as a new site broadcast on every lane in flood_mask. -/
  | floodOriginate
  /-- FLOOD_RELAY (R252): After its random delay a site broadcast is relayed with ttl minus 1. -/
  | floodRelay
  /-- DATA_REQUEST (R253): A Data Request from a sleepy neighbour draws an ACK and its oldest held frame. -/
  | dataRequest
  /-- INDIRECT_EXPIRY (R253): A frame held indirectly longer than hold_s is dropped. -/
  | indirectExpiry
  /-- RENDEZVOUS (R254): At each rendezvous RAD sends a rendezvous beacon and opens its listening window. -/
  | rendezvous
  /-- RENDEZVOUS_WINDOW_END (R255): A rendezvous window closes, counting misses and drift losses. -/
  | rendezvousWindowEnd
  /-- STOP_PIN (R261): A change on the STOPA or STOPB balls starts or ends their filtered reading. -/
  | stopPin (pin : StopInput) (hi lo : Bool)
  /-- STOP_PIN_FILTERED (R261): A non-run reading lasting filt becomes a fleet stop. -/
  | stopPinFiltered (pin : StopInput)
  /-- DISCREPANCY_LATCH (R261): A discrepancy lasting disc_ms is latched. -/
  | discrepancyLatch (pin : StopInput)
  /-- PIN_RUN_CONFIRMED (R261): An input reading run continuously for rel counts as inactive for release. -/
  | pinRunConfirmed (pin : StopInput)
  /-- FLEET_STOP_COMMAND (R262): A tagged STP_CMD fleet stop is verified and, if accepted, stops the fleet. -/
  | fleetStopCommand (via : BusAcc) (tagHi : Word)
  /-- TARGETED_STOP_COMMAND (R262): A tagged STP_CMD targeted stop is verified and, if accepted, stops one robot. -/
  | targetedStopCommand (via : BusAcc) (tagHi : Word)
  /-- RELEASE_COMMAND (R273): A tagged STP_CMD release is verified and releases the fleet or one robot if nothing blocks it. -/
  | releaseCommand (via : BusAcc) (tagHi : Word)
  /-- SP_DECISION (R263): SP passes a stop or release decision to the sequencer through its port. -/
  | spDecision (release : Bool) (source : Fin 3) (robot : Fin 129)
  /-- ARM (R266): A write of STP_CTRL.arm arms the sequencer with its stop material. -/
  | arm (via : BusAcc)
  /-- STOP_FRAME (R268): A received stop frame enters the seen-cache, is acted on and queued for relay. -/
  | stopFrame
  /-- STOP_REPEAT (R269): During a fleet hold a stop frame is sent in each mark and mid cell. -/
  | stopRepeat
  /-- STOP_RUN (R269): At each 10 ms window the sequencer claims a stop run for a relay or targeted frame. -/
  | stopRun (step : RunStep)
  /-- RELAY_TIMEOUT (R269): A stop relay that has waited 50 ms is dropped. -/
  | relayTimeout
  /-- STOP_HOLD_EXPIRY (R269): When the stop hold ends the stop frames cease and the stop stays in force. -/
  | stopHoldExpiry (robot : Fin 129)
  /-- OUTPUT_DELAY_EXPIRY (R272): out_delay_ms after the first mark the PERMIT_OUT outputs become active. -/
  | outputDelayExpiry
  /-- TEST_PULSE (R272): Every pulse_period an active output goes inactive for pulse_us. -/
  | testPulse (out : Fin 4) (begin : Bool)
  /-- READBACK_MISMATCH (R272): A readback differing for 50 µs outside a test pulse stops the fleet with source 10. -/
  | readbackMismatch (out : Fin 4)
  /-- DRY_RUN (R274): SP injects a masked test stop, periodically or on STP_CTRL.self_test, and checks the gate signals. -/
  | dryRun (raised : BitVec 5)
  /-- SP_LOCKSTEP_FAIL (R274): An SP compare failure or TCM uncorrectable error makes the floor incomplete and releases the interlock. -/
  | spLockstepFail (kind : Word)
  /-- HEARTBEAT_SEND (R276): Every 1 ms each unit sends a heartbeat on the pair link. -/
  | heartbeatSend
  /-- HEARTBEAT_RECEIVE (R276): A received heartbeat updates the partner's state and acknowledges mirror records. -/
  | heartbeatReceive (body : List Byte) (authentic : Bool)
  /-- HEARTBEAT_MISS (R280): A heartbeat not received in time counts as missed and may trigger detection. -/
  | heartbeatMiss
  /-- MIRROR_BATCH (R277): Every 0.5 ms the primary sends batched mirror records. -/
  | mirrorBatch
  /-- MIRROR_RECORD (R277): The standby applies a mirror record through master 14 in sequence. -/
  | mirrorRecord (seq : Word) (item : MirrorItem) (lag : Nat) (authentic : Bool)
  /-- SNAPSHOT (R278): A snapshot of every mirrored item is sent and applied for a full resync. -/
  | snapshot (seq : Word) (items : List MirrorItem) (hashes : List Word) (authentic : Bool)
  /-- RESYNC (R278): A write of EQX_CTRL.resync requests a snapshot. -/
  | resync (via : BusAcc)
  /-- SENSE_HIGH (R280): EQX_SENSE reads high and the standby waits 1.5 ms for a heartbeat showing a hold. -/
  | senseHigh (high : Bool)
  /-- TAKEOVER_DETECT (R280): A failed primary is detected and the standby claims the interlock. -/
  | takeoverDetect
  /-- INTERLOCK_CONFIRM (R281): 50 µs after claiming, the unit confirms, becomes primary and prepares the takeover. -/
  | interlockConfirm (senseHigh : Bool)
  /-- INTERLOCK_WATCHDOG_EXPIRY (R279): No kick for wdog_ms makes Vigil release EQX_HOLD. -/
  | interlockWatchdogExpiry
  /-- HANDOVER (R283): A write of EQX_CTRL.handover starts a planned handover once the partner is ready. -/
  | handover (via : BusAcc)
  /-- HANDOVER_RELEASE (R283): After its next mark the primary sends its last records and releases EQX_HOLD. -/
  | handoverRelease
  /-- HANDOVER_TIMEOUT (R283): A handover whose partner is not ready within 1 s is abandoned. -/
  | handoverTimeout
  /-- CLEAR_FAULT (R280): A write of EQX_CTRL.clear_fault clears interlock_fault. -/
  | clearFault (via : BusAcc)
  /-- TIME_SNAPSHOT (R285): A read of CAL_TIME_NS snapshots the whole counter for the reading master. -/
  | timeSnapshot (via : BusAcc)
  /-- INCREMENT_WRITE (R286): A write of CAL_INC_INT commits the increment at the next tick, clamped to ±500 ppm. -/
  | incrementWrite (via : BusAcc) (value : Word)
  /-- STEP (R287): The CAL_STEP_HI write steps site time if allowed, or is refused. -/
  | step (via : BusAcc) (high : Word)
  /-- UNSET (R287): A write of CAL_CTRL.unset returns Calends to unset unless tokens or the sequencer forbid it. -/
  | unset (via : BusAcc)
  /-- OFFSET_IN (R288): A PTP offset written to CAL_OFS_IN drives the servo, step or tracking entry. -/
  | offsetIn (via : BusAcc) (value : Word)
  /-- SOURCE_LOST (R289): No offset for 3 s puts Calends into holdover. -/
  | sourceLost
  /-- TSQ_POP (R293): A read of CAL_TSQ_ID pops the oldest transmit timestamp. -/
  | tsqPop (via : BusAcc)
  /-- ETH_FRAME (R295): An Ethernet frame is received, corrected, timestamped and forwarded or delivered. -/
  | ethFrame (src : EthSource)
  /-- PEER_DELAY_MEASURE (R294): Each port measures its peer delay every second. -/
  | peerDelayMeasure (port : Fin 2) (delay : Word)
  /-- RING_CHECK (R296): Every 1 ms the ring master sends a ring-check frame from each ring port. -/
  | ringCheck
  /-- RING_OPEN (R296): Three checks failing to return unblock E1 and send a ring-change frame. -/
  | ringOpen
  /-- RING_CLOSE (R296): Checks returning for 100 ms block E1 again and send a ring-change frame. -/
  | ringClose
  /-- ENCODER_EDGE (R298): A quadrature edge on ENC0 or ENC1 changes its count or counts an illegal transition. -/
  | encoderEdge (n : Fin 2) (a b : Bool)
  /-- TRIGGER_ARM (R299): A write of CAL_TRIG_CFG.go arms a trigger, handles lateness or refuses it. -/
  | triggerArm (via : BusAcc) (t : Fin 16) (value : Word)
  /-- TRIGGER_CANCEL (R301): A write of CAL_TRIG_CFG.cancel disarms the trigger. -/
  | triggerCancel (via : BusAcc) (t : Fin 16) (value : Word)
  /-- TRIGGER_FIRE (R299): An armed trigger's axis reaches its value and it fires its output or internal target. -/
  | triggerFire (t : Fin 16)
  /-- CONVERSION_FRAME (R304): Every 125 µs the seven channels are sampled and quantities, energy and pulses updated. -/
  | conversionFrame (frame : MeterFrame)
  /-- MODULATOR_STALL (R306): A modulator without transitions for 64 clocks restarts as a transient channel fault. -/
  | modulatorStall (c : Fin 7) (retriesFailed : Bool)
  /-- HARM_SNAPSHOT (R308): A read of MTR_HARM[c][0] snapshots the channel's 64 entries for the reading master. -/
  | harmSnapshot (via : BusAcc) (c : Fin 7)
  /-- SUPPLY_OK_DEBOUNCE (R311): Conditions holding for ok_s set supply_ok and publish a supply event. -/
  | supplyOkDebounce
  /-- SUPPLY_EVENT_DROP (R311): A supply event held 1 ms by a full FIFO is dropped. -/
  | supplyEventDrop
  /-- PULSE_OUTPUT (R314): An owed pulse drives the pulse ball active for width_ms, then inactive. -/
  | pulseOutput (k : Fin 2) (begin : Bool)
  /-- PULSE_CONFIG (R315): A write of a stage's const or qty takes effect at the next frame and clears its spill. -/
  | pulseConfig (via : BusAcc) (k : Fin 2) (value : Word)
  /-- PERIODIC_SAVE (R316): Every save_ms the meter writes its accumulators to the older save slot. -/
  | periodicSave (ok : Bool)
  /-- METER_DISABLE (R320): A write of MTR_CFG.enable = 0 ends conversion after a final save. -/
  | meterDisable (via : BusAcc)
  /-- CAL_PERSIST (R345): Within 1 s of a cal write the update engine writes the calibration set to its other copy. -/
  | calPersist
  /-- SUPPLY_FAIL (R399): The supply-fail comparator fires and last-gasp saves and interlock release follow. -/
  | supplyFail
  /-- PROVISIONING_CLOSE (R329): A write of BRL_PROV with key 0xC105 closes provisioning for good, or is refused. -/
  | provisioningClose (via : BusAcc) (value : Word)
  /-- ESTATE_WRITE (R329): The first write of BRL_ESTATE while open sets the estate tag. -/
  | estateWrite (via : BusAcc) (high : Word)
  /-- CRYPTO_SUBMIT (R334): The BRL_SUBMIT_HI write submits a crypto operation descriptor, accepted or refused. -/
  | cryptoSubmit (via : BusAcc) (high : Word)
  /-- AEAD_ENC (R334): Operation 0x1 encrypts and tags data under an aead slot. -/
  | aeadEnc (q : Fin 16)
  /-- AEAD_DEC (R334): Operation 0x2 decrypts and releases plaintext only with a verified tag. -/
  | aeadDec (q : Fin 16)
  /-- HASH (R334): Operation 0x3 computes a SHA-256 or SHA-384 digest. -/
  | hash (q : Fin 16)
  /-- HMAC (R334): Operation 0x4 computes HMAC-SHA-256 under a mac slot. -/
  | hmac (q : Fin 16)
  /-- SIGN (R334): Operation 0x5 signs a digest with ECDSA P-256. -/
  | sign (q : Fin 16)
  /-- VERIFY (R334): Operation 0x6 verifies an ECDSA signature. -/
  | verify (q : Fin 16)
  /-- DERIVE (R334): Operation 0x7 derives a key by HKDF into a volatile destination slot. -/
  | derive (q : Fin 16)
  /-- AGREE (R334): Operation 0x8 performs ECDH and HKDF into a destination slot. -/
  | agree (q : Fin 16)
  /-- RANDOM (R334): Operation 0x9 writes random octets. -/
  | random (q : Fin 16)
  /-- KEY_UPDATE (R331): Operation 0xA checks a key-update message and writes, erases, stages or re-counts a slot. -/
  | keyUpdate (q : Fin 16)
  /-- SWAP (R332): Operation 0xB checks the proof for a staged key and records the swap. -/
  | swap (q : Fin 16)
  /-- SWAP_TAKE_EFFECT (R333): At the swap time the staged key replaces the old one in the slot and the port copies. -/
  | swapTakeEffect (slot : Fin 3)
  /-- OLD_KEY_EXPIRY (R333): Two seconds after a swap of slot 1 or 2 the old key is no longer accepted. -/
  | oldKeyExpiry (slot : Fin 3)
  /-- SHADOW_EXPIRY (R332): A shadow not swapped within stage_s is discarded. -/
  | shadowExpiry (slot : Fin 3)
  /-- DEBUG_CHALLENGE (R338): A write of BRL_CTRL.debug_chal issues a fresh debug challenge. -/
  | debugChallenge (via : BusAcc)
  /-- DEBUG_ANSWER (R338): The write of BRL_DBG_ANS word 15 submits a debug answer that unlocks debug if it verifies. -/
  | debugAnswer (via : BusAcc) (value : Word)
  /-- TAMPER (R341): A filtered tamper source is recorded and, by its level, erases keys, locks Burl or destroys the root. -/
  | tamper (source : Fin 7) (active : Bool)
  /-- MANIFEST (R349): A manifest record opens or resumes an update session, or is refused. -/
  | manifest
  /-- ERASE_COMPLETE (R349): The target slot's erase completes and the session enters receiving. -/
  | eraseComplete (result : FlashResult) (blocks : Nat)
  /-- PIECE (R350): A piece record is checked, programmed and marked in the bitmap. -/
  | piece (result : FlashResult)
  /-- FRAGMENT (R348): A fragment record is reassembled towards a piece. -/
  | fragment (result : FlashResult)
  /-- SETTINGS_RECORD (R355): A settings record is written to the alternate settings copy, or refused on format. -/
  | settingsRecord (result : FlashResult)
  /-- VERIFY_COMPLETE (R351): Verification of a received slot completes and the session becomes ready or failed. -/
  | verifyComplete (image : Image)
  /-- ACTIVATE (R353): UPD_CTRL.activate writes an activation record putting the new slot on trial. -/
  | activate (via : BusAcc) (partition : Fin 4)
  /-- CONFIRM (R354): UPD_CTRL.confirm clears trial and raises the rollback floor. -/
  | confirm (via : BusAcc) (partition : Fin 4)
  /-- ROLLBACK (R354): UPD_CTRL.rollback returns a partition in trial to its previous slot. -/
  | rollback (via : BusAcc) (partition : Fin 4)
  /-- ABANDON (R349): UPD_CTRL.abandon with its key clears the session and leaves the slot invalid. -/
  | abandon (via : BusAcc) (key : BitVec 16)
  /-- RECOVERY (R359): UPD_CTRL.recovery with its key makes the next reset enter ROM recovery. -/
  | recovery (via : BusAcc) (key : BitVec 16)
  /-- UPD_VERIFY (R351): UPD_CTRL.verify starts verification of the session's slot at once. -/
  | updVerify (via : BusAcc)
  /-- RECOVERY_RECORD (R360): In recovery, a record written to UPD_RCV_DATA or sent on E0 is submitted to the update engine. -/
  | recoveryRecord (src : RecoverySource)
  /-- PAGE_PROGRAM (R364): The Almanac programs every closed waiting record to the end of the current LOG page. -/
  | pageProgram
  /-- PROGRAM_COMPLETE (R364): A page program is verified and ALM_COUNT advances, or the medium failure rule applies. -/
  | programComplete (result : FlashResult)
  /-- EVENT_ABSORB (R365): An event equal to the open record is absorbed into its repeat count. -/
  | eventAbsorb
  /-- FLUSH_TIMEOUT (R365): The open record closes flush_ms after its first occurrence. -/
  | flushTimeout
  /-- CLOSE (R365): A write of ALM_CTRL.close closes the open record. -/
  | close (via : BusAcc)
  /-- LOG_CLEAR (R367): The ALM_CLR_TAG_HI write, if its tag and count verify, clears the log. -/
  | logClear (via : BusAcc) (tagHi : Word)
  /-- BLOCK_ERASE_COMPLETE (R367): A LOG block erase of a clear completes and the next block is erased. -/
  | blockEraseComplete (result : FlashResult)
  /-- POST (R372): The ALM_POST_ARG2 write posts a firmware record, or refuses it. -/
  | post (via : BusAcc) (value : Word)
  /-- HEALTH_REPORT (R375): The health report is rebuilt on change or every report_ms and published. -/
  | healthReport
  /-- REPORT_SNAPSHOT (R375): A read of HLT_REPORT word 0 snapshots the whole report for the reading master. -/
  | reportSnapshot (via : BusAcc)
  /-- CLUSTER_GATE (R379): A cluster whose cores all wait with nothing to offer has its Core clock gated. -/
  | clusterGate (k : Fin 2)
  /-- ENTER_SLEEP (R380): PWR_CTRL.go with target sleep starts the handshake towards Sleep. -/
  | enterSleep (via : BusAcc)
  /-- ENTER_DEEP_SLEEP (R384): PWR_CTRL.go with target deep sleep starts the handshake towards Deep sleep. -/
  | enterDeepSleep (via : BusAcc)
  /-- ENTER_OFF (R380): PWR_CTRL.go with target off starts the handshake towards Off. -/
  | enterOff (via : BusAcc)
  /-- POWER_ABORT (R383): PWR_CTRL.abort before the final phase rolls the request back. -/
  | powerAbort (via : BusAcc)
  /-- BLOCK_ANSWER (R380): A block answers the power manager, agreeing and stopping or refusing and causing a rollback. -/
  | blockAnswer (refreshOk : Bool)
  /-- BLOCK_ANSWER_TIMEOUT (R380): A block silent for 1 ms counts as refusing with reason no answer. -/
  | blockAnswerTimeout
  /-- BACKOFF_RETRY (R381): After backoff a rolled-back request is retried, or ends failed. -/
  | backoffRetry
  /-- POWER_DOWN (R382): The final phase ends with the rails of the target state lowered. -/
  | powerDown
  /-- WAKE (R385): A WAKE, alarm, CSn or tamper wake starts the return sequence. -/
  | wake (cause : WakeCause)
  /-- RENDEZVOUS_WAKE (R386): The Vigil sequencer starts the return at the rendezvous minus lead. -/
  | rendezvousWake
  /-- PG_GOOD (R385): A power-good input rises and the return moves to the next enable or stage. -/
  | pgGood (n : Fin 3)
  /-- PG_TIMEOUT (R385): A PG not high within 10 ms drops every enable and schedules a retry. -/
  | pgTimeout
  /-- PG_RETRY (R385): One second after a regulator failure the sequencer retries the start, at most 3 times. -/
  | pgRetry
  /-- PLL_LOCK_TIMEOUT (R385): A PLL not locked within 1 ms ends the start locked with halt reason clock. -/
  | pllLockTimeout
  /-- ALARM (R388): The Vigil counter reaches VGL_ALARM with alarm_en set and the alarm asserts. -/
  | alarm
  /-- WATCHDOG_KICK (R388): A write of 0x4B1C to VGL_WDOG.key kicks the system watchdog. -/
  | watchdogKick (via : BusAcc)
  /-- WATCHDOG_EXPIRY (R388): No kick for timeout_ms makes a device reset. -/
  | watchdogExpiry
  /-- RESET_PIN (R389): RESETn held low for 10 µs makes a device reset. -/
  | resetPin
  /-- SOFTWARE_RESET (R389): A write of SYS_RST_CTRL with key 0x7128 makes a device reset. -/
  | softwareReset (via : BusAcc) (value : Word)
  /-- VBAT_POR (R389): VBAT power-on resets the Vigil domain and then the device. -/
  | vbatPor
  /-- SUPPLY_POR (R389): Main supply power-on after Off or a supply failure makes a device reset. -/
  | supplyPor
  /-- CORE_RESET (R389): A write of SYS_CORE_CTRL.reset resets one application core. -/
  | coreReset (via : BusAcc) (n : Fin 8)
  /-- CORE_RELEASE (R392): A write of SYS_CORE_CTRL.run releases an application core. -/
  | coreRelease (via : BusAcc) (n : Fin 8)
  /-- BOOT (R392): After the logic stage the boot ROM starts its stages on AC0 or SP. -/
  | boot (straps : Straps) (ac0Ok : Bool)
  /-- BOOT_STAGE_COMPLETE (R392): A boot stage completes and the next begins, or the start goes locked or to recovery. -/
  | bootStageComplete (facts : BootFacts)
  /-- DDR_INIT (R395): A write of DDR_INIT.go initialises and trains the enabled LPDDR4X channels. -/
  | ddrInit (via : BusAcc) (training : List DdrTrain)
  /-- WARM_START (R384): A return from Deep sleep boots warm and restores mailboxes and Calends from the resume record. -/
  | warmStart (ac0Ok : Bool)
  /-- RELOCK (R108): A channel in lost regains lock within 1 s and returns to pull-in with lock time from 0. -/
  | relock (ch : Fin 512)
  /-- SATELLITE_RISE (R109): A satellite rises above its elevation mask and the hardware scheduler queues its triples for acquisition. -/
  | satelliteRise (con : Fin 5) (sv : BitVec 6) (elev : Fin 9001) (k : Fin 16)
  /-- SEARCH_AGAIN (R109): The 10 s hold of a triple that was not found ends, and the triple becomes eligible for search again. -/
  | searchAgain (ant : Fin 4) (sig : Fin 15) (sv : BitVec 6)
  /-- TIME_SOLUTION (R111): The receiver's first time solution becomes available, taking the receiver from searching to running and starting the epoch grid. -/
  | timeSolution (offset : Int)
  /-- PAIR_LINK_UP (R278): The pair link finishes training and comes up, and the primary sends a full snapshot. -/
  | pairLinkUp
  /-- PAIR_LINK_DOWN (R284): The pair link goes down, ending readiness and EQX's refusal of sleep. -/
  | pairLinkDown
  /-- ETH_LINK_UP (R302): An Ethernet port gains its link, after which PTP and the ring are run afresh. -/
  | ethLinkUp (port : Fin 2)
  /-- ETH_LINK_DOWN (R302): An Ethernet port loses its link. -/
  | ethLinkDown (port : Fin 2)
  /-- SP_KICK (R279): SP kicks the interlock watchdog every 10 ms through its port, which lets the sequencer pass kicks on at mark cells. -/
  | spKick
  /-- DEBUG_SESSION_END (R389): A debug session ends, which puts master 15 into reset and releases its locks and semaphores. -/
  | debugSessionEnd
  /-- DEBUG_RESUME (R43): A core halted through the test access port is resumed, and its pre-empted task can run again. -/
  | debugResume (cpu : Cpu)
  /-- REPORT_DROP_TIMEOUT (R375): A health report held 1 ms by a full FIFO is dropped and counted in report_dropped. -/
  | reportDropTimeout
  /-- STORE_WAIT_TIMEOUT (R336): A Burl store write that has waited 2 s behind the update engine ends with busy store, leaving the slot unchanged. -/
  | storeWaitTimeout (q : Fin 16)
  /-- CCA_RETRY (R240): The random 1–8 × 320 µs back-off after a busy clear-channel assessment ends and the frame is tried again. -/
  | ccaRetry (lane : Fin 8)
  /-- RETURN_STAGE_READY (R385): The oscillator, memory or logic stage of a return reaches its ready signal, and the next stage begins. -/
  | returnStageReady (training : List DdrTrain)
  /-- VBAT_LOSS (R387): VBAT falls out of range: the Vigil domain, its retention and the counter are lost, and EQX_HOLD is released by its pull-up. -/
  | vbatLoss
deriving DecidableEq, Repr

end Sys2Proof
end

