-- ==== Sys2Proof/Decode.lean ====
section
/-! DEFINITION. The reading of words as commands by the bits that spec/opcode_table.json gives its rows: every row's field list is empty there, so
no word spells a command. -/

namespace Sys2Proof

/-- The command that a word spells by the table's bits: none. -/
def decodeTableWord (_nbits _w : Nat) : Option Instr := none

end Sys2Proof
end

