-- ==== Sys2Proof/Config.lean ====
section
/-! DEFINITION. What an implementation fixes, and the free values: constants with no body, of which nothing can be proved
but what holds whatever they are. -/

namespace Sys2Proof

/-- A free 32-bit value, the `n`-th that the run uses. It stands for random octets and for every result that the
specification leaves open (log entries 6, 7). -/
opaque Config.freeWord : Nat → BitVec 32

/-- A free natural number below the bound given by its user, the `n`-th that the run uses. -/
opaque Config.freeNat : Nat → Nat

/-- Whether the `n`-th access of the System Memory Unit that could use a stale cached translation does use it: R77 says
only that a table change becomes certain through invalidation (log entry 8). -/
opaque Config.staleHit : Nat → Bool

/-- The order of summation and the internal precision of the matrix engine are not stated: the results of a job are a free
function of operation, dimensions, parameters and operand octets (log entry 9). -/
opaque Config.matrix : List Nat → List (BitVec 8) → Nat → BitVec 8

/-- The meter's filters (integrator with its high-pass, fractional delay, Hilbert filter) are not given by coefficients: a filter is a
free function of its kind and settings, its state and its input, to its next state and its output (log entry 10). -/
opaque Config.meterFilter : List Nat → Int → Int → Int × Int

/-- The depth in frames of an Ethernet egress queue, which the specification does not give (log entry 35). -/
opaque Config.ethQueueDepth : Nat

/-- The mirror format of the device's stepping (R276), whose value the specification does not give (log entry 55). -/
opaque Config.mirrorFormat : BitVec 8

/-- The octets of the boot-ROM key, fixed for every device of a stepping (R330), whose value the specification does not give (log
entry 65). -/
opaque Config.bootRomKey : Nat → BitVec 8

end Sys2Proof
end

