-- ==== Sys2Proof/Machine/RegTypes.lean ====
section
/-! DEFINITION. What a register map says of a register: the access types of the field tables, where a reset value comes
from, fields, and arrays (spec/00_scope.md, "Registers"). -/

namespace Sys2Proof

/-- The place of a field in its register: lowest bit and width. -/
structure Fld where
  lo : Nat
  width : Nat
deriving DecidableEq, Repr

/-- The access types of the field tables. -/
inductive Access
  | rw | ro | wo | w1c | w1s | rwv | wl
deriving DecidableEq, Repr

/-- Where a field's reset value comes from: the table itself, the Vangia image, the calibration set, a strap pin. -/
inductive Source
  | val | img | cal | pin
deriving DecidableEq, Repr

/-- One row of a field table. -/
structure FieldDef where
  lo : Nat
  width : Nat
  access : Access
  source : Source
  reset : Nat
deriving DecidableEq, Repr

/-- One dimension of a register array: first index, number of elements, stride in octets. -/
structure Dim where
  first : Nat
  count : Nat
  stride : Nat
deriving DecidableEq, Repr

/-- One row of a register map: offset, array dimensions (widest stride first), whether only the privileged view holds
it, whether it is the low word of a 64-bit quantity (R11), and its fields. A bit that no field covers is reserved
(R14). -/
structure RegDef where
  offset : Nat
  dims : List Dim
  privilegedOnly : Bool
  lowWord : Bool
  fields : List FieldDef
deriving DecidableEq, Repr

end Sys2Proof
end

