-- ==== Sys2Proof/Machine/RegsA.lean ====
section
/-! DEFINITION. The register maps of the blocks SYS, CFG, HPx, SEM, MBX, SPN, SMU, DMA, STM: the word number of each register (its block window times 0x1_0000 plus its privileged-view offset, R21, R24) and the place of each field, from the register map and field tables of the chapter that governs the block. -/

namespace Sys2Proof.Reg


/-! ### SYS (spec/16_power_reset_boot.md) -/

/-- SYS_ID, offset 0x0000, both view. -/
def SYS_ID : Nat := 0x0
def SYS_ID.device : Fld := ⟨16, 16⟩
def SYS_ID.stepping : Fld := ⟨8, 8⟩
/-- SYS_STRAP, offset 0x0004, both view. -/
def SYS_STRAP : Nat := 0x4
def SYS_STRAP.ref_sel : Fld := ⟨5, 1⟩
def SYS_STRAP.boot_rcv : Fld := ⟨4, 1⟩
def SYS_STRAP.hb_mode : Fld := ⟨2, 2⟩
def SYS_STRAP.ha_mode : Fld := ⟨0, 2⟩
/-- SYS_RST_CAUSE, offset 0x0008, both view. -/
def SYS_RST_CAUSE : Nat := 0x8
def SYS_RST_CAUSE.deep_sleep : Fld := ⟨5, 1⟩
def SYS_RST_CAUSE.watchdog : Fld := ⟨4, 1⟩
def SYS_RST_CAUSE.software : Fld := ⟨3, 1⟩
def SYS_RST_CAUSE.pin : Fld := ⟨2, 1⟩
def SYS_RST_CAUSE.supply_por : Fld := ⟨1, 1⟩
def SYS_RST_CAUSE.vbat_por : Fld := ⟨0, 1⟩
/-- SYS_RST_CTRL, offset 0x000C, privileged view. -/
def SYS_RST_CTRL : Nat := 0xC
def SYS_RST_CTRL.key : Fld := ⟨16, 16⟩
def SYS_RST_CTRL.device : Fld := ⟨0, 1⟩
/-- SYS_BOOT, offset 0x0010, both view. -/
def SYS_BOOT : Nat := 0x10
def SYS_BOOT.stage : Fld := ⟨28, 4⟩
def SYS_BOOT.halt : Fld := ⟨24, 4⟩
def SYS_BOOT.warm : Fld := ⟨23, 1⟩
def SYS_BOOT.first_start : Fld := ⟨22, 1⟩
def SYS_BOOT.boot_ms : Fld := ⟨0, 21⟩
/-- SYS_SP_STAT, offset 0x0014, both view. -/
def SYS_SP_STAT : Nat := 0x14
def SYS_SP_STAT.running : Fld := ⟨31, 1⟩
def SYS_SP_STAT.lockstep_fail : Fld := ⟨30, 1⟩
def SYS_SP_STAT.tcm_ecc : Fld := ⟨29, 1⟩
/-- SYS_CORE_CTRL[0..7], offset 0x0020, privileged view. -/
def SYS_CORE_CTRL (i : Nat) : Nat := 0x20 + i * 0x4
def SYS_CORE_CTRL.reset : Fld := ⟨31, 1⟩
def SYS_CORE_CTRL.run : Fld := ⟨30, 1⟩
def SYS_CORE_CTRL.self_ok : Fld := ⟨29, 1⟩
/-- SYS_CLUSTER[0..1], offset 0x0040, privileged view. -/
def SYS_CLUSTER (i : Nat) : Nat := 0x40 + i * 0x4
def SYS_CLUSTER.gate_en : Fld := ⟨31, 1⟩
def SYS_CLUSTER.gated : Fld := ⟨30, 1⟩

/-- The registers of SYS in offset order: first offset, array dimensions, view, fields. -/
def tabSYS : List RegDef :=
  [⟨0x0, [], false, false, [⟨16, 16, .ro, .val, 0x7128⟩, ⟨8, 8, .ro, .val, 0xa0⟩]⟩,
   ⟨0x4, [], false, false, [⟨5, 1, .ro, .pin, 0⟩, ⟨4, 1, .ro, .pin, 0⟩, ⟨2, 2, .ro, .pin, 0⟩, ⟨0, 2, .ro, .pin, 0⟩]⟩,
   ⟨0x8, [], false, false, [⟨5, 1, .w1c, .val, 0⟩, ⟨4, 1, .w1c, .val, 0⟩, ⟨3, 1, .w1c, .val, 0⟩, ⟨2, 1, .w1c, .val, 0⟩, ⟨1, 1, .w1c, .val, 0⟩, ⟨0, 1, .w1c, .val, 0⟩]⟩,
   ⟨0xC, [], true, false, [⟨16, 16, .wo, .val, 0⟩, ⟨0, 1, .wo, .val, 0⟩]⟩,
   ⟨0x10, [], false, false, [⟨28, 4, .ro, .val, 0⟩, ⟨24, 4, .ro, .val, 0⟩, ⟨23, 1, .ro, .val, 0⟩, ⟨22, 1, .ro, .val, 0⟩, ⟨0, 21, .ro, .val, 0⟩]⟩,
   ⟨0x14, [], false, false, [⟨31, 1, .ro, .val, 0⟩, ⟨30, 1, .w1c, .val, 0⟩, ⟨29, 1, .w1c, .val, 0⟩]⟩,
   ⟨0x20, [⟨0, 8, 0x4⟩], true, false, [⟨31, 1, .wo, .val, 0⟩, ⟨30, 1, .rwv, .val, 0⟩, ⟨29, 1, .ro, .val, 0⟩]⟩,
   ⟨0x40, [⟨0, 2, 0x4⟩], true, false, [⟨31, 1, .rw, .img, 0⟩, ⟨30, 1, .ro, .val, 0⟩]⟩]

/-! ### CFG (spec/02_structure_and_host_ports.md) -/

/-- CFG_IMG_ID, offset 0x0000, both view. -/
def CFG_IMG_ID : Nat := 0x10000
def CFG_IMG_ID.image_version : Fld := ⟨0, 32⟩
/-- CFG_IMG_STAT, offset 0x0004, both view. -/
def CFG_IMG_STAT : Nat := 0x10004
def CFG_IMG_STAT.min_stepping : Fld := ⟨24, 8⟩
def CFG_IMG_STAT.format_version : Fld := ⟨16, 8⟩
def CFG_IMG_STAT.debug_en : Fld := ⟨9, 1⟩
def CFG_IMG_STAT.slot : Fld := ⟨8, 1⟩
/-- CFG_PRIV_MASK, offset 0x0008, both view. -/
def CFG_PRIV_MASK : Nat := 0x10008
def CFG_PRIV_MASK.priv : Fld := ⟨0, 16⟩
/-- CFG_LOCK, offset 0x000C, privileged view. -/
def CFG_LOCK : Nat := 0x1000C
def CFG_LOCK.lock : Fld := ⟨0, 1⟩
/-- CFG_RELOAD_CTRL, offset 0x0010, privileged view. -/
def CFG_RELOAD_CTRL : Nat := 0x10010
def CFG_RELOAD_CTRL.go : Fld := ⟨31, 1⟩
def CFG_RELOAD_CTRL.abort : Fld := ⟨30, 1⟩
def CFG_RELOAD_CTRL.source : Fld := ⟨4, 1⟩
def CFG_RELOAD_CTRL.partition : Fld := ⟨0, 4⟩
/-- CFG_RELOAD_SRC_LO, offset 0x0014, privileged view. -/
def CFG_RELOAD_SRC_LO : Nat := 0x10014
def CFG_RELOAD_SRC_LO.addr_lo : Fld := ⟨12, 20⟩
/-- CFG_RELOAD_SRC_HI, offset 0x0018, privileged view. -/
def CFG_RELOAD_SRC_HI : Nat := 0x10018
def CFG_RELOAD_SRC_HI.addr_hi : Fld := ⟨0, 8⟩
/-- CFG_RELOAD_STAT, offset 0x001C, both view. -/
def CFG_RELOAD_STAT : Nat := 0x1001C
def CFG_RELOAD_STAT.partition : Fld := ⟨28, 4⟩
def CFG_RELOAD_STAT.state : Fld := ⟨24, 4⟩
def CFG_RELOAD_STAT.error : Fld := ⟨16, 8⟩
def CFG_RELOAD_STAT.done : Fld := ⟨15, 1⟩
/-- CFG_PART_VER[0..8], offset 0x0100, both view. -/
def CFG_PART_VER (i : Nat) : Nat := 0x10100 + i * 0x10
def CFG_PART_VER.content_version : Fld := ⟨0, 32⟩
/-- CFG_PART_HASH[0..8], offset 0x0104, both view. -/
def CFG_PART_HASH (i : Nat) : Nat := 0x10104 + i * 0x10
def CFG_PART_HASH.hash_head : Fld := ⟨0, 32⟩
/-- CFG_PART_STAT[0..8], offset 0x0108, both view. -/
def CFG_PART_STAT (i : Nat) : Nat := 0x10108 + i * 0x10
def CFG_PART_STAT.volatile : Fld := ⟨2, 1⟩
def CFG_PART_STAT.all_locked : Fld := ⟨1, 1⟩
def CFG_PART_STAT.reload_pending : Fld := ⟨0, 1⟩
/-- CFG_PRESET_SEL[0..31], offset 0x0200, privileged view. -/
def CFG_PRESET_SEL (i : Nat) : Nat := 0x10200 + i * 0x4
def CFG_PRESET_SEL.busy : Fld := ⟨8, 1⟩
def CFG_PRESET_SEL.rejected : Fld := ⟨7, 1⟩
def CFG_PRESET_SEL.modified : Fld := ⟨6, 1⟩
def CFG_PRESET_SEL.preset : Fld := ⟨0, 4⟩
/-- CFG_PRESET_NAME[0..31][0..15][0..3], offset 0x0400, both view. -/
def CFG_PRESET_NAME (i : Nat) (j : Nat) (k : Nat) : Nat := 0x10400 + i * 0x100 + j * 0x10 + k * 0x4
def CFG_PRESET_NAME.chars : Fld := ⟨0, 32⟩
/-- CFG_IRQ_ROUTE[0..223], offset 0x2400, privileged view. -/
def CFG_IRQ_ROUTE (i : Nat) : Nat := 0x12400 + i * 0x4
def CFG_IRQ_ROUTE.enable : Fld := ⟨16, 1⟩
def CFG_IRQ_ROUTE.level : Fld := ⟨12, 4⟩
def CFG_IRQ_ROUTE.sp : Fld := ⟨8, 1⟩
def CFG_IRQ_ROUTE.cores : Fld := ⟨0, 8⟩

/-- The registers of CFG in offset order: first offset, array dimensions, view, fields. -/
def tabCFG0 : List RegDef :=
  [⟨0x0, [], false, false, [⟨0, 32, .ro, .img, 0⟩]⟩,
   ⟨0x4, [], false, false, [⟨24, 8, .ro, .img, 0xa0⟩, ⟨16, 8, .ro, .img, 1⟩, ⟨9, 1, .ro, .img, 0⟩, ⟨8, 1, .ro, .img, 0⟩]⟩,
   ⟨0x8, [], false, false, [⟨0, 16, .ro, .img, 0x7200⟩]⟩,
   ⟨0xC, [], true, false, [⟨0, 1, .wl, .val, 0⟩]⟩,
   ⟨0x10, [], true, false, [⟨31, 1, .wo, .val, 0⟩, ⟨30, 1, .wo, .val, 0⟩, ⟨4, 1, .rw, .val, 0⟩, ⟨0, 4, .rw, .val, 0⟩]⟩,
   ⟨0x14, [], true, true, [⟨12, 20, .rw, .val, 0⟩]⟩,
   ⟨0x18, [], true, false, [⟨0, 8, .rw, .val, 0⟩]⟩,
   ⟨0x1C, [], false, false, [⟨28, 4, .ro, .val, 0⟩, ⟨24, 4, .ro, .val, 0⟩, ⟨16, 8, .ro, .val, 0⟩, ⟨15, 1, .w1c, .val, 0⟩]⟩,
   ⟨0x100, [⟨0, 9, 0x10⟩], false, false, [⟨0, 32, .ro, .img, 0⟩]⟩,
   ⟨0x104, [⟨0, 9, 0x10⟩], false, false, [⟨0, 32, .ro, .img, 0⟩]⟩,
   ⟨0x108, [⟨0, 9, 0x10⟩], false, false, [⟨2, 1, .ro, .val, 0⟩, ⟨1, 1, .ro, .val, 0⟩, ⟨0, 1, .ro, .val, 0⟩]⟩,
   ⟨0x200, [⟨0, 32, 0x4⟩], true, false, [⟨8, 1, .ro, .val, 0⟩, ⟨7, 1, .w1c, .val, 0⟩, ⟨6, 1, .ro, .val, 0⟩, ⟨0, 4, .rw, .img, 0⟩]⟩]
def tabCFG1 : List RegDef :=
  [⟨0x400, [⟨0, 32, 0x100⟩, ⟨0, 16, 0x10⟩, ⟨0, 4, 0x4⟩], false, false, [⟨0, 32, .ro, .img, 0⟩]⟩,
   ⟨0x2400, [⟨0, 224, 0x4⟩], true, false, [⟨16, 1, .rw, .img, 0⟩, ⟨12, 4, .rw, .img, 0⟩, ⟨8, 1, .rw, .img, 0⟩, ⟨0, 8, .rwv, .img, 0⟩]⟩]
/-- All registers of CFG. -/
def tabCFG : List RegDef := tabCFG0 ++ tabCFG1

/-! ### HPx (spec/02_structure_and_host_ports.md) -/

/-- HPx_CFG, offset 0x0000, privileged view. -/
def HP_CFG (p : Nat) : Nat := 0x20000 + p * 0x10000
def HP_CFG.lock : Fld := ⟨31, 1⟩
def HP_CFG.mode : Fld := ⟨16, 2⟩
def HP_CFG.ctx : Fld := ⟨8, 6⟩
def HP_CFG.bar2_log2 : Fld := ⟨0, 6⟩
/-- HPx_LINK, offset 0x0004, both view. -/
def HP_LINK (p : Nat) : Nat := 0x20004 + p * 0x10000
def HP_LINK.down_count : Fld := ⟨24, 8⟩
def HP_LINK.down_sat : Fld := ⟨23, 1⟩
def HP_LINK.width : Fld := ⟨6, 2⟩
def HP_LINK.speed : Fld := ⟨4, 2⟩
def HP_LINK.state : Fld := ⟨0, 3⟩
/-- HPx_PCI_ID, offset 0x0008, both view. -/
def HP_PCI_ID (p : Nat) : Nat := 0x20008 + p * 0x10000
def HP_PCI_ID.device_id : Fld := ⟨16, 16⟩
def HP_PCI_ID.vendor_id : Fld := ⟨0, 16⟩
/-- HPx_ERR, offset 0x000C, both view. -/
def HP_ERR (p : Nat) : Nat := 0x2000C + p * 0x10000
def HP_ERR.tlp_err : Fld := ⟨24, 8⟩
def HP_ERR.access_err : Fld := ⟨16, 8⟩
def HP_ERR.spi_err : Fld := ⟨8, 8⟩
def HP_ERR.tlp_sat : Fld := ⟨2, 1⟩
def HP_ERR.access_sat : Fld := ⟨1, 1⟩
def HP_ERR.spi_sat : Fld := ⟨0, 1⟩
/-- HPx_IRQ_STAT, offset 0x0010, both view. -/
def HP_IRQ_STAT (p : Nat) : Nat := 0x20010 + p * 0x10000
def HP_IRQ_STAT.link_down : Fld := ⟨4, 1⟩
def HP_IRQ_STAT.link_up : Fld := ⟨3, 1⟩
def HP_IRQ_STAT.spi_err : Fld := ⟨2, 1⟩
def HP_IRQ_STAT.wdog : Fld := ⟨1, 1⟩
def HP_IRQ_STAT.access_err : Fld := ⟨0, 1⟩
/-- HPx_IRQ_MASK, offset 0x0014, privileged view. -/
def HP_IRQ_MASK (p : Nat) : Nat := 0x20014 + p * 0x10000
/-- HPx_SPI_CFG, offset 0x0018, privileged view. -/
def HP_SPI_CFG (p : Nat) : Nat := 0x20018 + p * 0x10000
def HP_SPI_CFG.wdog_ms : Fld := ⟨16, 16⟩
def HP_SPI_CFG.crc_en : Fld := ⟨8, 1⟩
def HP_SPI_CFG.wait_max : Fld := ⟨0, 7⟩
/-- HPx_SPI_LAST_LO, offset 0x001C, both view. -/
def HP_SPI_LAST_LO (p : Nat) : Nat := 0x2001C + p * 0x10000
def HP_SPI_LAST_LO.addr : Fld := ⟨2, 30⟩
/-- HPx_SPI_LAST_HI, offset 0x0020, both view. -/
def HP_SPI_LAST_HI (p : Nat) : Nat := 0x20020 + p * 0x10000
def HP_SPI_LAST_HI.outcome : Fld := ⟨10, 2⟩
def HP_SPI_LAST_HI.write : Fld := ⟨8, 1⟩
def HP_SPI_LAST_HI.addr_hi : Fld := ⟨0, 8⟩
/-- HPx_SPI_LAST_DATA, offset 0x0024, both view. -/
def HP_SPI_LAST_DATA (p : Nat) : Nat := 0x20024 + p * 0x10000
def HP_SPI_LAST_DATA.data : Fld := ⟨0, 32⟩
/-- HPx_MSIX_MAP[0..31], offset 0x0100, privileged view. -/
def HP_MSIX_MAP (p : Nat) (i : Nat) : Nat := 0x20100 + p * 0x10000 + i * 0x4
def HP_MSIX_MAP.enable : Fld := ⟨31, 1⟩
def HP_MSIX_MAP.line : Fld := ⟨0, 8⟩

/-- The registers of HPx in offset order: first offset, array dimensions, view, fields. -/
def tabHP : List RegDef :=
  [⟨0x0, [], true, false, [⟨31, 1, .wl, .val, 0⟩, ⟨16, 2, .ro, .pin, 0⟩, ⟨8, 6, .ro, .img, 0⟩, ⟨0, 6, .ro, .img, 0⟩]⟩,
   ⟨0x4, [], false, false, [⟨24, 8, .ro, .val, 0⟩, ⟨23, 1, .ro, .val, 0⟩, ⟨6, 2, .ro, .val, 0⟩, ⟨4, 2, .ro, .val, 0⟩, ⟨0, 3, .ro, .val, 0⟩]⟩,
   ⟨0x8, [], false, false, [⟨16, 16, .ro, .val, 0x7128⟩, ⟨0, 16, .ro, .img, 0⟩]⟩,
   ⟨0xC, [], false, false, [⟨24, 8, .rwv, .val, 0⟩, ⟨16, 8, .rwv, .val, 0⟩, ⟨8, 8, .rwv, .val, 0⟩, ⟨2, 1, .w1c, .val, 0⟩, ⟨1, 1, .w1c, .val, 0⟩, ⟨0, 1, .w1c, .val, 0⟩]⟩,
   ⟨0x10, [], false, false, [⟨4, 1, .w1c, .val, 0⟩, ⟨3, 1, .w1c, .val, 0⟩, ⟨2, 1, .w1c, .val, 0⟩, ⟨1, 1, .w1c, .val, 0⟩, ⟨0, 1, .w1c, .val, 0⟩]⟩,
   ⟨0x14, [], true, false, [⟨4, 1, .rw, .val, 0⟩, ⟨3, 1, .rw, .val, 0⟩, ⟨2, 1, .rw, .val, 0⟩, ⟨1, 1, .rw, .val, 0⟩, ⟨0, 1, .rw, .val, 0⟩]⟩,
   ⟨0x18, [], true, false, [⟨16, 16, .wl, .img, 0⟩, ⟨8, 1, .wl, .img, 0⟩, ⟨0, 7, .wl, .img, 0⟩]⟩,
   ⟨0x1C, [], false, true, [⟨2, 30, .ro, .val, 0⟩]⟩,
   ⟨0x20, [], false, false, [⟨10, 2, .ro, .val, 0⟩, ⟨8, 1, .ro, .val, 0⟩, ⟨0, 8, .ro, .val, 0⟩]⟩,
   ⟨0x24, [], false, false, [⟨0, 32, .ro, .val, 0⟩]⟩,
   ⟨0x100, [⟨0, 32, 0x4⟩], true, false, [⟨31, 1, .rw, .val, 0⟩, ⟨0, 8, .rw, .val, 0⟩]⟩]

/-! ### SEM (spec/02_structure_and_host_ports.md) -/

/-- SEM_LOCK[0..15], offset 0x0000, both view. -/
def SEM_LOCK (i : Nat) : Nat := 0x40000 + i * 0x4
def SEM_LOCK.owner : Fld := ⟨0, 4⟩
/-- SEM_PEEK[0..15], offset 0x0040, both view. -/
def SEM_PEEK (i : Nat) : Nat := 0x40040 + i * 0x4
def SEM_PEEK.held_sat : Fld := ⟨28, 1⟩
def SEM_PEEK.held_ms : Fld := ⟨4, 24⟩
def SEM_PEEK.owner : Fld := ⟨0, 4⟩
/-- SEM_FORCE, offset 0x0080, privileged view. -/
def SEM_FORCE : Nat := 0x40080
def SEM_FORCE.key : Fld := ⟨16, 16⟩
def SEM_FORCE.index : Fld := ⟨0, 4⟩
/-- SEM_ERR, offset 0x0084, both view. -/
def SEM_ERR : Nat := 0x40084
def SEM_ERR.last_master : Fld := ⟨28, 4⟩
def SEM_ERR.last_index : Fld := ⟨24, 4⟩
def SEM_ERR.sat : Fld := ⟨16, 1⟩
def SEM_ERR.wrong_write : Fld := ⟨0, 16⟩

/-- The registers of SEM in offset order: first offset, array dimensions, view, fields. -/
def tabSEM : List RegDef :=
  [⟨0x0, [⟨0, 16, 0x4⟩], false, false, [⟨0, 4, .rwv, .val, 0⟩]⟩,
   ⟨0x40, [⟨0, 16, 0x4⟩], false, false, [⟨28, 1, .ro, .val, 0⟩, ⟨4, 24, .ro, .val, 0⟩, ⟨0, 4, .ro, .val, 0⟩]⟩,
   ⟨0x80, [], true, false, [⟨16, 16, .wo, .val, 0⟩, ⟨0, 4, .wo, .val, 0⟩]⟩,
   ⟨0x84, [], false, false, [⟨28, 4, .ro, .val, 0⟩, ⟨24, 4, .ro, .val, 0⟩, ⟨16, 1, .w1c, .val, 0⟩, ⟨0, 16, .rwv, .val, 0⟩]⟩]

/-! ### MBX (spec/03_spindle_smu_streams.md) -/

/-- MBX_CFG, offset 0x0000, privileged view. -/
def MBX_CFG : Nat := 0x50000
def MBX_CFG.lock : Fld := ⟨31, 1⟩
/-- MBX_ERR, offset 0x0004, both view. -/
def MBX_ERR : Nat := 0x50004
def MBX_ERR.unbound : Fld := ⟨16, 16⟩
def MBX_ERR.unbound_sat : Fld := ⟨0, 1⟩
/-- MBX_BIND[0..31], offset 0x0100, privileged view. -/
def MBX_BIND (i : Nat) : Nat := 0x50100 + i * 0x40
def MBX_BIND.master_b : Fld := ⟨4, 4⟩
def MBX_BIND.master_a : Fld := ⟨0, 4⟩
/-- MBX_CH_LOCK[0..31], offset 0x0104, both view. -/
def MBX_CH_LOCK (i : Nat) : Nat := 0x50104 + i * 0x40
def MBX_CH_LOCK.owner : Fld := ⟨0, 4⟩
/-- MBX_POST_LO[0..31], offset 0x0108, both view. -/
def MBX_POST_LO (i : Nat) : Nat := 0x50108 + i * 0x40
def MBX_POST_LO.ptr_lo : Fld := ⟨3, 29⟩
/-- MBX_POST_HI[0..31], offset 0x010C, both view. -/
def MBX_POST_HI (i : Nat) : Nat := 0x5010C + i * 0x40
def MBX_POST_HI.tag : Fld := ⟨8, 16⟩
def MBX_POST_HI.ptr_hi : Fld := ⟨0, 8⟩
/-- MBX_RECV_LO[0..31], offset 0x0110, both view. -/
def MBX_RECV_LO (i : Nat) : Nat := 0x50110 + i * 0x40
def MBX_RECV_LO.ptr_lo : Fld := ⟨3, 29⟩
/-- MBX_RECV_HI[0..31], offset 0x0114, both view. -/
def MBX_RECV_HI (i : Nat) : Nat := 0x50114 + i * 0x40
def MBX_RECV_HI.valid : Fld := ⟨31, 1⟩
def MBX_RECV_HI.tag : Fld := ⟨8, 16⟩
def MBX_RECV_HI.ptr_hi : Fld := ⟨0, 8⟩
/-- MBX_QSTAT[0..31], offset 0x0118, both view. -/
def MBX_QSTAT (i : Nat) : Nat := 0x50118 + i * 0x40
def MBX_QSTAT.inbound : Fld := ⟨28, 4⟩
def MBX_QSTAT.outbound : Fld := ⟨24, 4⟩
def MBX_QSTAT.refused : Fld := ⟨8, 8⟩
def MBX_QSTAT.last_refused : Fld := ⟨1, 1⟩
def MBX_QSTAT.refused_sat : Fld := ⟨0, 1⟩
/-- MBX_DB_RING[0..31], offset 0x011C, both view. -/
def MBX_DB_RING (i : Nat) : Nat := 0x5011C + i * 0x40
def MBX_DB_RING.ring : Fld := ⟨0, 32⟩
/-- MBX_DB_STAT[0..31], offset 0x0120, both view. -/
def MBX_DB_STAT (i : Nat) : Nat := 0x50120 + i * 0x40
def MBX_DB_STAT.rung : Fld := ⟨0, 32⟩
/-- MBX_DB_MASK[0..31], offset 0x0124, both view. -/
def MBX_DB_MASK (i : Nat) : Nat := 0x50124 + i * 0x40
def MBX_DB_MASK.mask : Fld := ⟨0, 32⟩
/-- MBX_NOTICE[0..31], offset 0x0128, both view. -/
def MBX_NOTICE (i : Nat) : Nat := 0x50128 + i * 0x40
def MBX_NOTICE.pending : Fld := ⟨31, 1⟩
def MBX_NOTICE.handle : Fld := ⟨0, 16⟩

/-- The registers of MBX in offset order: first offset, array dimensions, view, fields. -/
def tabMBX0 : List RegDef :=
  [⟨0x0, [], true, false, [⟨31, 1, .wl, .val, 0⟩]⟩,
   ⟨0x4, [], false, false, [⟨16, 16, .rwv, .val, 0⟩, ⟨0, 1, .w1c, .val, 0⟩]⟩,
   ⟨0x100, [⟨0, 32, 0x40⟩], true, false, [⟨4, 4, .wl, .img, 0⟩, ⟨0, 4, .wl, .img, 0⟩]⟩,
   ⟨0x104, [⟨0, 32, 0x40⟩], false, false, [⟨0, 4, .rwv, .val, 0⟩]⟩,
   ⟨0x108, [⟨0, 32, 0x40⟩], false, true, [⟨3, 29, .wo, .val, 0⟩]⟩,
   ⟨0x10C, [⟨0, 32, 0x40⟩], false, false, [⟨8, 16, .wo, .val, 0⟩, ⟨0, 8, .wo, .val, 0⟩]⟩,
   ⟨0x110, [⟨0, 32, 0x40⟩], false, true, [⟨3, 29, .ro, .val, 0⟩]⟩,
   ⟨0x114, [⟨0, 32, 0x40⟩], false, false, [⟨31, 1, .ro, .val, 0⟩, ⟨8, 16, .ro, .val, 0⟩, ⟨0, 8, .ro, .val, 0⟩]⟩,
   ⟨0x118, [⟨0, 32, 0x40⟩], false, false, [⟨28, 4, .ro, .val, 0⟩, ⟨24, 4, .ro, .val, 0⟩, ⟨8, 8, .rwv, .val, 0⟩, ⟨1, 1, .ro, .val, 0⟩, ⟨0, 1, .w1c, .val, 0⟩]⟩,
   ⟨0x11C, [⟨0, 32, 0x40⟩], false, false, [⟨0, 32, .w1s, .val, 0⟩]⟩,
   ⟨0x120, [⟨0, 32, 0x40⟩], false, false, [⟨0, 32, .w1c, .val, 0⟩]⟩,
   ⟨0x124, [⟨0, 32, 0x40⟩], false, false, [⟨0, 32, .rw, .val, 0⟩]⟩]
def tabMBX1 : List RegDef :=
  [⟨0x128, [⟨0, 32, 0x40⟩], false, false, [⟨31, 1, .ro, .val, 0⟩, ⟨0, 16, .rwv, .val, 0⟩]⟩]
/-- All registers of MBX. -/
def tabMBX : List RegDef := tabMBX0 ++ tabMBX1

/-! ### SPN (spec/03_spindle_smu_streams.md) -/

/-- SPN_GEOM, offset 0x0000, privileged view. -/
def SPN_GEOM : Nat := 0x60000
def SPN_GEOM.lock : Fld := ⟨31, 1⟩
def SPN_GEOM.ring_log2 : Fld := ⟨24, 4⟩
def SPN_GEOM.hi_reserve : Fld := ⟨16, 8⟩
def SPN_GEOM.affinity_us : Fld := ⟨0, 10⟩
/-- SPN_RING_LO, offset 0x0004, privileged view. -/
def SPN_RING_LO : Nat := 0x60004
def SPN_RING_LO.base_lo : Fld := ⟨12, 20⟩
/-- SPN_RING_HI, offset 0x0008, privileged view. -/
def SPN_RING_HI : Nat := 0x60008
def SPN_RING_HI.base_hi : Fld := ⟨0, 8⟩
/-- SPN_STAT, offset 0x000C, both view. -/
def SPN_STAT : Nat := 0x6000C
def SPN_STAT.resident : Fld := ⟨22, 10⟩
def SPN_STAT.ring_count : Fld := ⟨0, 17⟩
/-- SPN_SUBMIT_LO, offset 0x0010, both view. -/
def SPN_SUBMIT_LO : Nat := 0x60010
def SPN_SUBMIT_LO.addr_lo : Fld := ⟨5, 27⟩
/-- SPN_SUBMIT_HI, offset 0x0014, both view. -/
def SPN_SUBMIT_HI : Nat := 0x60014
def SPN_SUBMIT_HI.addr_hi : Fld := ⟨0, 8⟩
/-- SPN_SUBMIT_RES, offset 0x0018, both view. -/
def SPN_SUBMIT_RES : Nat := 0x60018
def SPN_SUBMIT_RES.busy : Fld := ⟨31, 1⟩
def SPN_SUBMIT_RES.status : Fld := ⟨16, 3⟩
def SPN_SUBMIT_RES.handle : Fld := ⟨0, 16⟩
/-- SPN_TOKEN, offset 0x001C, both view. -/
def SPN_TOKEN : Nat := 0x6001C
def SPN_TOKEN.err : Fld := ⟨16, 1⟩
def SPN_TOKEN.handle : Fld := ⟨0, 16⟩
/-- SPN_DONE, offset 0x0020, both view. -/
def SPN_DONE : Nat := 0x60020
def SPN_DONE.err : Fld := ⟨16, 1⟩
def SPN_DONE.handle : Fld := ⟨0, 16⟩
/-- SPN_SAVED, offset 0x0024, both view. -/
def SPN_SAVED : Nat := 0x60024
def SPN_SAVED.err : Fld := ⟨16, 1⟩
def SPN_SAVED.handle : Fld := ⟨0, 16⟩
/-- SPN_SELF, offset 0x0028, both view. -/
def SPN_SELF : Nat := 0x60028
def SPN_SELF.valid : Fld := ⟨31, 1⟩
def SPN_SELF.resumed : Fld := ⟨21, 1⟩
def SPN_SELF.err_in : Fld := ⟨20, 1⟩
def SPN_SELF.prio : Fld := ⟨16, 3⟩
def SPN_SELF.handle : Fld := ⟨0, 16⟩
/-- SPN_SELF_ENTRY_LO, offset 0x002C, both view. -/
def SPN_SELF_ENTRY_LO : Nat := 0x6002C
def SPN_SELF_ENTRY_LO.entry : Fld := ⟨0, 32⟩
/-- SPN_SELF_ENTRY_HI, offset 0x0030, both view. -/
def SPN_SELF_ENTRY_HI : Nat := 0x60030
def SPN_SELF_ENTRY_HI.entry : Fld := ⟨0, 32⟩
/-- SPN_SELF_ARG_LO, offset 0x0034, both view. -/
def SPN_SELF_ARG_LO : Nat := 0x60034
def SPN_SELF_ARG_LO.arg : Fld := ⟨0, 32⟩
/-- SPN_SELF_ARG_HI, offset 0x0038, both view. -/
def SPN_SELF_ARG_HI : Nat := 0x60038
def SPN_SELF_ARG_HI.arg : Fld := ⟨0, 32⟩
/-- SPN_ERR, offset 0x003C, both view. -/
def SPN_ERR : Nat := 0x6003C
def SPN_ERR.refused : Fld := ⟨24, 8⟩
def SPN_ERR.stray : Fld := ⟨16, 8⟩
def SPN_ERR.excess : Fld := ⟨8, 8⟩
def SPN_ERR.refused_sat : Fld := ⟨2, 1⟩
def SPN_ERR.stray_sat : Fld := ⟨1, 1⟩
def SPN_ERR.excess_sat : Fld := ⟨0, 1⟩
/-- SPN_CORE_EN[0..7], offset 0x0040, privileged view. -/
def SPN_CORE_EN (i : Nat) : Nat := 0x60040 + i * 0x4
def SPN_CORE_EN.in_service : Fld := ⟨1, 1⟩
def SPN_CORE_EN.deliver : Fld := ⟨0, 1⟩
/-- SPN_CORE_STAT[0..7], offset 0x0060, both view. -/
def SPN_CORE_STAT (i : Nat) : Nat := 0x60060 + i * 0x4
def SPN_CORE_STAT.offer : Fld := ⟨20, 1⟩
def SPN_CORE_STAT.busy : Fld := ⟨19, 1⟩
def SPN_CORE_STAT.task_pri : Fld := ⟨16, 3⟩
def SPN_CORE_STAT.handle : Fld := ⟨0, 16⟩
/-- SPN_TASK_STAT[0..511], offset 0x0100, both view. -/
def SPN_TASK_STAT (i : Nat) : Nat := 0x60100 + i * 0x4
def SPN_TASK_STAT.state : Fld := ⟨29, 3⟩
def SPN_TASK_STAT.prio : Fld := ⟨26, 3⟩
def SPN_TASK_STAT.last_core : Fld := ⟨23, 3⟩
def SPN_TASK_STAT.gen : Fld := ⟨16, 7⟩
def SPN_TASK_STAT.count : Fld := ⟨0, 16⟩

/-- The registers of SPN in offset order: first offset, array dimensions, view, fields. -/
def tabSPN0 : List RegDef :=
  [⟨0x0, [], true, false, [⟨31, 1, .wl, .val, 0⟩, ⟨24, 4, .ro, .img, 0⟩, ⟨16, 8, .ro, .img, 0⟩, ⟨0, 10, .wl, .img, 0⟩]⟩,
   ⟨0x4, [], true, true, [⟨12, 20, .ro, .img, 0⟩]⟩,
   ⟨0x8, [], true, false, [⟨0, 8, .ro, .img, 0⟩]⟩,
   ⟨0xC, [], false, false, [⟨22, 10, .ro, .val, 0⟩, ⟨0, 17, .ro, .val, 0⟩]⟩,
   ⟨0x10, [], false, true, [⟨5, 27, .wo, .val, 0⟩]⟩,
   ⟨0x14, [], false, false, [⟨0, 8, .wo, .val, 0⟩]⟩,
   ⟨0x18, [], false, false, [⟨31, 1, .ro, .val, 0⟩, ⟨16, 3, .ro, .val, 0⟩, ⟨0, 16, .ro, .val, 0⟩]⟩,
   ⟨0x1C, [], false, false, [⟨16, 1, .wo, .val, 0⟩, ⟨0, 16, .wo, .val, 0⟩]⟩,
   ⟨0x20, [], false, false, [⟨16, 1, .wo, .val, 0⟩, ⟨0, 16, .wo, .val, 0⟩]⟩,
   ⟨0x24, [], false, false, [⟨16, 1, .wo, .val, 0⟩, ⟨0, 16, .wo, .val, 0⟩]⟩,
   ⟨0x28, [], false, false, [⟨31, 1, .ro, .val, 0⟩, ⟨21, 1, .ro, .val, 0⟩, ⟨20, 1, .ro, .val, 0⟩, ⟨16, 3, .ro, .val, 0⟩, ⟨0, 16, .ro, .val, 0⟩]⟩,
   ⟨0x2C, [], false, true, [⟨0, 32, .ro, .val, 0⟩]⟩]
def tabSPN1 : List RegDef :=
  [⟨0x30, [], false, false, [⟨0, 32, .ro, .val, 0⟩]⟩,
   ⟨0x34, [], false, true, [⟨0, 32, .ro, .val, 0⟩]⟩,
   ⟨0x38, [], false, false, [⟨0, 32, .ro, .val, 0⟩]⟩,
   ⟨0x3C, [], false, false, [⟨24, 8, .rwv, .val, 0⟩, ⟨16, 8, .rwv, .val, 0⟩, ⟨8, 8, .rwv, .val, 0⟩, ⟨2, 1, .w1c, .val, 0⟩, ⟨1, 1, .w1c, .val, 0⟩, ⟨0, 1, .w1c, .val, 0⟩]⟩,
   ⟨0x40, [⟨0, 8, 0x4⟩], true, false, [⟨1, 1, .ro, .val, 1⟩, ⟨0, 1, .rw, .val, 1⟩]⟩,
   ⟨0x60, [⟨0, 8, 0x4⟩], false, false, [⟨20, 1, .ro, .val, 0⟩, ⟨19, 1, .ro, .val, 0⟩, ⟨16, 3, .ro, .val, 0⟩, ⟨0, 16, .ro, .val, 0⟩]⟩,
   ⟨0x100, [⟨0, 512, 0x4⟩], false, false, [⟨29, 3, .ro, .val, 0⟩, ⟨26, 3, .ro, .val, 0⟩, ⟨23, 3, .ro, .val, 0⟩, ⟨16, 7, .ro, .val, 0⟩, ⟨0, 16, .ro, .val, 0⟩]⟩]
/-- All registers of SPN. -/
def tabSPN : List RegDef := tabSPN0 ++ tabSPN1

/-! ### SMU (spec/03_spindle_smu_streams.md) -/

/-- SMU_CFG, offset 0x0000, privileged view. -/
def SMU_CFG : Nat := 0x70000
def SMU_CFG.lock : Fld := ⟨31, 1⟩
/-- SMU_INVAL, offset 0x0004, privileged view. -/
def SMU_INVAL : Nat := 0x70004
def SMU_INVAL.go : Fld := ⟨31, 1⟩
def SMU_INVAL.busy : Fld := ⟨30, 1⟩
def SMU_INVAL.scope : Fld := ⟨6, 2⟩
def SMU_INVAL.ctx : Fld := ⟨0, 6⟩
/-- SMU_INVAL_ADDR, offset 0x0008, privileged view. -/
def SMU_INVAL_ADDR : Nat := 0x70008
def SMU_INVAL_ADDR.page : Fld := ⟨0, 24⟩
/-- SMU_FAULT_STAT, offset 0x000C, both view. -/
def SMU_FAULT_STAT : Nat := 0x7000C
def SMU_FAULT_STAT.overflow : Fld := ⟨31, 1⟩
def SMU_FAULT_STAT.sat : Fld := ⟨30, 1⟩
def SMU_FAULT_STAT.queued : Fld := ⟨16, 7⟩
def SMU_FAULT_STAT.total : Fld := ⟨0, 16⟩
/-- SMU_FAULT_POP_LO, offset 0x0010, both view. -/
def SMU_FAULT_POP_LO : Nat := 0x70010
def SMU_FAULT_POP_LO.addr_lo : Fld := ⟨0, 32⟩
/-- SMU_FAULT_POP_HI, offset 0x0014, both view. -/
def SMU_FAULT_POP_HI : Nat := 0x70014
def SMU_FAULT_POP_HI.valid : Fld := ⟨31, 1⟩
def SMU_FAULT_POP_HI.kind : Fld := ⟨28, 3⟩
def SMU_FAULT_POP_HI.write : Fld := ⟨27, 1⟩
def SMU_FAULT_POP_HI.ctx : Fld := ⟨21, 6⟩
def SMU_FAULT_POP_HI.unit : Fld := ⟨12, 9⟩
def SMU_FAULT_POP_HI.addr_hi : Fld := ⟨0, 4⟩
/-- SMU_PARKED[0..9], offset 0x0020, both view. -/
def SMU_PARKED (i : Nat) : Nat := 0x70020 + i * 0x4
def SMU_PARKED.parked : Fld := ⟨0, 32⟩
/-- SMU_CTX_CFG[0..63], offset 0x0100, both view. -/
def SMU_CTX_CFG (i : Nat) : Nat := 0x70100 + i * 0x10
def SMU_CTX_CFG.enable : Fld := ⟨31, 1⟩
def SMU_CTX_CFG.host_b : Fld := ⟨30, 1⟩
def SMU_CTX_CFG.host_a : Fld := ⟨29, 1⟩
def SMU_CTX_CFG.park_ms : Fld := ⟨16, 8⟩
def SMU_CTX_CFG.master : Fld := ⟨12, 4⟩
def SMU_CTX_CFG.l1_log2 : Fld := ⟨4, 4⟩
/-- SMU_CTX_BASE_LO[0..63], offset 0x0104, both view. -/
def SMU_CTX_BASE_LO (i : Nat) : Nat := 0x70104 + i * 0x10
def SMU_CTX_BASE_LO.base_lo : Fld := ⟨12, 20⟩
/-- SMU_CTX_BASE_HI[0..63], offset 0x0108, both view. -/
def SMU_CTX_BASE_HI (i : Nat) : Nat := 0x70108 + i * 0x10
def SMU_CTX_BASE_HI.base_hi : Fld := ⟨0, 8⟩
/-- SMU_CTX_HANDLER[0..63], offset 0x010C, privileged view. -/
def SMU_CTX_HANDLER (i : Nat) : Nat := 0x7010C + i * 0x10
def SMU_CTX_HANDLER.pending : Fld := ⟨31, 1⟩
def SMU_CTX_HANDLER.handle : Fld := ⟨0, 16⟩
/-- SMU_UNIT[0..319], offset 0x0600, privileged view. -/
def SMU_UNIT (i : Nat) : Nat := 0x70600 + i * 0x4
def SMU_UNIT.resume : Fld := ⟨31, 1⟩
def SMU_UNIT.abort : Fld := ⟨30, 1⟩
def SMU_UNIT.kind : Fld := ⟨24, 3⟩
def SMU_UNIT.ctx : Fld := ⟨16, 6⟩
def SMU_UNIT.state : Fld := ⟨0, 2⟩

/-- The registers of SMU in offset order: first offset, array dimensions, view, fields. -/
def tabSMU : List RegDef :=
  [⟨0x0, [], true, false, [⟨31, 1, .wl, .val, 0⟩]⟩,
   ⟨0x4, [], true, false, [⟨31, 1, .wo, .val, 0⟩, ⟨30, 1, .ro, .val, 0⟩, ⟨6, 2, .rw, .val, 0⟩, ⟨0, 6, .rw, .val, 0⟩]⟩,
   ⟨0x8, [], true, false, [⟨0, 24, .rw, .val, 0⟩]⟩,
   ⟨0xC, [], false, false, [⟨31, 1, .w1c, .val, 0⟩, ⟨30, 1, .w1c, .val, 0⟩, ⟨16, 7, .ro, .val, 0⟩, ⟨0, 16, .rwv, .val, 0⟩]⟩,
   ⟨0x10, [], false, true, [⟨0, 32, .ro, .val, 0⟩]⟩,
   ⟨0x14, [], false, false, [⟨31, 1, .ro, .val, 0⟩, ⟨28, 3, .ro, .val, 0⟩, ⟨27, 1, .ro, .val, 0⟩, ⟨21, 6, .ro, .val, 0⟩, ⟨12, 9, .ro, .val, 0⟩, ⟨0, 4, .ro, .val, 0⟩]⟩,
   ⟨0x20, [⟨0, 10, 0x4⟩], false, false, [⟨0, 32, .ro, .val, 0⟩]⟩,
   ⟨0x100, [⟨0, 64, 0x10⟩], false, false, [⟨31, 1, .ro, .img, 0⟩, ⟨30, 1, .ro, .img, 0⟩, ⟨29, 1, .ro, .img, 0⟩, ⟨16, 8, .ro, .img, 0⟩, ⟨12, 4, .ro, .img, 0⟩, ⟨4, 4, .ro, .img, 0⟩]⟩,
   ⟨0x104, [⟨0, 64, 0x10⟩], false, true, [⟨12, 20, .ro, .img, 0⟩]⟩,
   ⟨0x108, [⟨0, 64, 0x10⟩], false, false, [⟨0, 8, .ro, .img, 0⟩]⟩,
   ⟨0x10C, [⟨0, 64, 0x10⟩], true, false, [⟨31, 1, .ro, .val, 0⟩, ⟨0, 16, .rwv, .val, 0⟩]⟩,
   ⟨0x600, [⟨0, 320, 0x4⟩], true, false, [⟨31, 1, .wo, .val, 0⟩, ⟨30, 1, .wo, .val, 0⟩, ⟨24, 3, .ro, .val, 0⟩, ⟨16, 6, .ro, .val, 0⟩, ⟨0, 2, .ro, .val, 0⟩]⟩]

/-! ### DMA (spec/03_spindle_smu_streams.md) -/

/-- DMA_CFG, offset 0x0000, privileged view. -/
def DMA_CFG : Nat := 0x80000
def DMA_CFG.lock : Fld := ⟨31, 1⟩
/-- DMA_ERR, offset 0x0004, both view. -/
def DMA_ERR : Nat := 0x80004
def DMA_ERR.desc_err : Fld := ⟨24, 8⟩
def DMA_ERR.start_refused : Fld := ⟨16, 8⟩
def DMA_ERR.desc_sat : Fld := ⟨1, 1⟩
def DMA_ERR.start_sat : Fld := ⟨0, 1⟩
/-- DMA_CH_CFG[0..127], offset 0x0100, privileged view. -/
def DMA_CH_CFG (i : Nat) : Nat := 0x80100 + i * 0x20
def DMA_CH_CFG.enable : Fld := ⟨31, 1⟩
def DMA_CH_CFG.retired : Fld := ⟨30, 1⟩
def DMA_CH_CFG.ctx : Fld := ⟨0, 6⟩
/-- DMA_CH_START_LO[0..127], offset 0x0104, both view. -/
def DMA_CH_START_LO (i : Nat) : Nat := 0x80104 + i * 0x20
def DMA_CH_START_LO.addr_lo : Fld := ⟨6, 26⟩
/-- DMA_CH_START_HI[0..127], offset 0x0108, both view. -/
def DMA_CH_START_HI (i : Nat) : Nat := 0x80108 + i * 0x20
def DMA_CH_START_HI.addr_hi : Fld := ⟨0, 4⟩
/-- DMA_CH_STAT[0..127], offset 0x010C, both view. -/
def DMA_CH_STAT (i : Nat) : Nat := 0x8010C + i * 0x20
def DMA_CH_STAT.state : Fld := ⟨30, 2⟩
def DMA_CH_STAT.error : Fld := ⟨24, 4⟩
/-- DMA_CH_PROG[0..127], offset 0x0110, both view. -/
def DMA_CH_PROG (i : Nat) : Nat := 0x80110 + i * 0x20
def DMA_CH_PROG.progress : Fld := ⟨0, 24⟩
/-- DMA_CH_CUR_LO[0..127], offset 0x0114, both view. -/
def DMA_CH_CUR_LO (i : Nat) : Nat := 0x80114 + i * 0x20
def DMA_CH_CUR_LO.cur_lo : Fld := ⟨6, 26⟩
/-- DMA_CH_CUR_HI[0..127], offset 0x0118, both view. -/
def DMA_CH_CUR_HI (i : Nat) : Nat := 0x80118 + i * 0x20
def DMA_CH_CUR_HI.cur_hi : Fld := ⟨0, 4⟩

/-- The registers of DMA in offset order: first offset, array dimensions, view, fields. -/
def tabDMA : List RegDef :=
  [⟨0x0, [], true, false, [⟨31, 1, .wl, .val, 0⟩]⟩,
   ⟨0x4, [], false, false, [⟨24, 8, .rwv, .val, 0⟩, ⟨16, 8, .rwv, .val, 0⟩, ⟨1, 1, .w1c, .val, 0⟩, ⟨0, 1, .w1c, .val, 0⟩]⟩,
   ⟨0x100, [⟨0, 128, 0x20⟩], true, false, [⟨31, 1, .ro, .img, 0⟩, ⟨30, 1, .ro, .val, 0⟩, ⟨0, 6, .ro, .img, 0⟩]⟩,
   ⟨0x104, [⟨0, 128, 0x20⟩], false, true, [⟨6, 26, .wo, .val, 0⟩]⟩,
   ⟨0x108, [⟨0, 128, 0x20⟩], false, false, [⟨0, 4, .wo, .val, 0⟩]⟩,
   ⟨0x10C, [⟨0, 128, 0x20⟩], false, false, [⟨30, 2, .ro, .val, 0⟩, ⟨24, 4, .ro, .val, 0⟩]⟩,
   ⟨0x110, [⟨0, 128, 0x20⟩], false, false, [⟨0, 24, .ro, .val, 0⟩]⟩,
   ⟨0x114, [⟨0, 128, 0x20⟩], false, true, [⟨6, 26, .ro, .val, 0⟩]⟩,
   ⟨0x118, [⟨0, 128, 0x20⟩], false, false, [⟨0, 4, .ro, .val, 0⟩]⟩]

/-! ### STM (spec/03_spindle_smu_streams.md) -/

/-- STM_CFG, offset 0x0000, privileged view. -/
def STM_CFG : Nat := 0x90000
def STM_CFG.lock : Fld := ⟨31, 1⟩
/-- STM_ERR, offset 0x0004, both view. -/
def STM_ERR : Nat := 0x90004
def STM_ERR.empty_pop : Fld := ⟨16, 16⟩
def STM_ERR.pop_sat : Fld := ⟨0, 1⟩
/-- STM_GEOM[0..47], offset 0x0100, privileged view. -/
def STM_GEOM (i : Nat) : Nat := 0x90100 + i * 0x40
def STM_GEOM.mode : Fld := ⟨30, 2⟩
def STM_GEOM.threshold : Fld := ⟨16, 14⟩
def STM_GEOM.size_log2 : Fld := ⟨12, 4⟩
def STM_GEOM.base : Fld := ⟨0, 11⟩
/-- STM_PTR[0..47], offset 0x0104, both view. -/
def STM_PTR (i : Nat) : Nat := 0x90104 + i * 0x40
def STM_PTR.wr : Fld := ⟨16, 16⟩
def STM_PTR.rd : Fld := ⟨0, 16⟩
/-- STM_STAT[0..47], offset 0x0108, both view. -/
def STM_STAT (i : Nat) : Nat := 0x90108 + i * 0x40
def STM_STAT.space : Fld := ⟨17, 15⟩
def STM_STAT.threshold_met : Fld := ⟨16, 1⟩
def STM_STAT.packets : Fld := ⟨8, 8⟩
def STM_STAT.bad_commit : Fld := ⟨4, 1⟩
def STM_STAT.flush_pending : Fld := ⟨3, 1⟩
def STM_STAT.overflow : Fld := ⟨2, 1⟩
def STM_STAT.aborted_seen : Fld := ⟨1, 1⟩
def STM_STAT.ecc : Fld := ⟨0, 1⟩
/-- STM_HEAD[0..47], offset 0x010C, both view. -/
def STM_HEAD (i : Nat) : Nat := 0x9010C + i * 0x40
def STM_HEAD.avail : Fld := ⟨31, 1⟩
def STM_HEAD.abort : Fld := ⟨30, 1⟩
def STM_HEAD.drop : Fld := ⟨29, 1⟩
def STM_HEAD.tag : Fld := ⟨16, 13⟩
def STM_HEAD.length : Fld := ⟨0, 16⟩
/-- STM_PUSH[0..47], offset 0x0110, both view. -/
def STM_PUSH (i : Nat) : Nat := 0x90110 + i * 0x40
def STM_PUSH.data : Fld := ⟨0, 32⟩
/-- STM_COMMIT[0..47], offset 0x0114, both view. -/
def STM_COMMIT (i : Nat) : Nat := 0x90114 + i * 0x40
def STM_COMMIT.abort : Fld := ⟨31, 1⟩
def STM_COMMIT.start : Fld := ⟨30, 1⟩
def STM_COMMIT.tag : Fld := ⟨16, 13⟩
def STM_COMMIT.length : Fld := ⟨0, 16⟩
/-- STM_POP[0..47], offset 0x0118, both view. -/
def STM_POP (i : Nat) : Nat := 0x90118 + i * 0x40
def STM_POP.data : Fld := ⟨0, 32⟩
/-- STM_CTRL[0..47], offset 0x011C, both view. -/
def STM_CTRL (i : Nat) : Nat := 0x9011C + i * 0x40
def STM_CTRL.flush : Fld := ⟨31, 1⟩
def STM_CTRL.skip : Fld := ⟨30, 1⟩
/-- STM_NOTICE[0..47], offset 0x0120, both view. -/
def STM_NOTICE (i : Nat) : Nat := 0x90120 + i * 0x40
def STM_NOTICE.pending : Fld := ⟨31, 1⟩
def STM_NOTICE.handle : Fld := ⟨0, 16⟩

/-- The registers of STM in offset order: first offset, array dimensions, view, fields. -/
def tabSTM : List RegDef :=
  [⟨0x0, [], true, false, [⟨31, 1, .wl, .val, 0⟩]⟩,
   ⟨0x4, [], false, false, [⟨16, 16, .rwv, .val, 0⟩, ⟨0, 1, .w1c, .val, 0⟩]⟩,
   ⟨0x100, [⟨0, 48, 0x40⟩], true, false, [⟨30, 2, .ro, .img, 0⟩, ⟨16, 14, .wl, .img, 0⟩, ⟨12, 4, .ro, .img, 0⟩, ⟨0, 11, .ro, .img, 0⟩]⟩,
   ⟨0x104, [⟨0, 48, 0x40⟩], false, false, [⟨16, 16, .ro, .val, 0⟩, ⟨0, 16, .ro, .val, 0⟩]⟩,
   ⟨0x108, [⟨0, 48, 0x40⟩], false, false, [⟨17, 15, .ro, .val, 0⟩, ⟨16, 1, .ro, .val, 0⟩, ⟨8, 8, .ro, .val, 0⟩, ⟨4, 1, .w1c, .val, 0⟩, ⟨3, 1, .ro, .val, 0⟩, ⟨2, 1, .w1c, .val, 0⟩, ⟨1, 1, .w1c, .val, 0⟩, ⟨0, 1, .w1c, .val, 0⟩]⟩,
   ⟨0x10C, [⟨0, 48, 0x40⟩], false, false, [⟨31, 1, .ro, .val, 0⟩, ⟨30, 1, .ro, .val, 0⟩, ⟨29, 1, .ro, .val, 0⟩, ⟨16, 13, .ro, .val, 0⟩, ⟨0, 16, .ro, .val, 0⟩]⟩,
   ⟨0x110, [⟨0, 48, 0x40⟩], false, false, [⟨0, 32, .wo, .val, 0⟩]⟩,
   ⟨0x114, [⟨0, 48, 0x40⟩], false, false, [⟨31, 1, .wo, .val, 0⟩, ⟨30, 1, .wo, .val, 0⟩, ⟨16, 13, .wo, .val, 0⟩, ⟨0, 16, .wo, .val, 0⟩]⟩,
   ⟨0x118, [⟨0, 48, 0x40⟩], false, false, [⟨0, 32, .ro, .val, 0⟩]⟩,
   ⟨0x11C, [⟨0, 48, 0x40⟩], false, false, [⟨31, 1, .wo, .val, 0⟩, ⟨30, 1, .wo, .val, 0⟩]⟩,
   ⟨0x120, [⟨0, 48, 0x40⟩], false, false, [⟨31, 1, .ro, .val, 0⟩, ⟨0, 16, .rwv, .val, 0⟩]⟩]

end Sys2Proof.Reg
end

