-- ==== Sys2Proof/Machine/RegsB.lean ====
section
/-! DEFINITION. The register maps of the blocks GNS, OBS, MTX, FIX, RSV, LTH, AXL: the word number of each register (its block window times 0x1_0000 plus its privileged-view offset, R21, R24) and the place of each field, from the register map and field tables of the chapter that governs the block. -/

namespace Sys2Proof.Reg


/-! ### GNS (spec/04_gnss_reference.md) -/

/-- GNS_CFG, offset 0x0000, privileged view. -/
def GNS_CFG : Nat := 0xA0000
def GNS_CFG.lock : Fld := ⟨31, 1⟩
def GNS_CFG.ref_freq : Fld := ⟨18, 2⟩
def GNS_CFG.alt_ant : Fld := ⟨14, 2⟩
def GNS_CFG.ref_ant : Fld := ⟨12, 2⟩
def GNS_CFG.rate : Fld := ⟨8, 3⟩
def GNS_CFG.enable : Fld := ⟨0, 1⟩
/-- GNS_STAT, offset 0x0004, both view. -/
def GNS_STAT : Nat := 0xA0004
def GNS_STAT.clk_state : Fld := ⟨30, 2⟩
def GNS_STAT.active_ref : Fld := ⟨28, 2⟩
def GNS_STAT.state : Fld := ⟨26, 2⟩
def GNS_STAT.ch_free : Fld := ⟨16, 10⟩
def GNS_STAT.acq_queued : Fld := ⟨4, 12⟩
/-- GNS_EPOCH, offset 0x0008, both view. -/
def GNS_EPOCH : Nat := 0xA0008
def GNS_EPOCH.epoch_number : Fld := ⟨0, 32⟩
/-- GNS_TIME_OFS, offset 0x000C, both view. -/
def GNS_TIME_OFS : Nat := 0xA000C
def GNS_TIME_OFS.valid : Fld := ⟨31, 1⟩
def GNS_TIME_OFS.offset : Fld := ⟨0, 31⟩
/-- GNS_ERR, offset 0x0010, both view. -/
def GNS_ERR : Nat := 0xA0010
def GNS_ERR.ch_fault : Fld := ⟨24, 8⟩
def GNS_ERR.acq_fault : Fld := ⟨16, 8⟩
def GNS_ERR.rec_dropped : Fld := ⟨8, 8⟩
def GNS_ERR.ch_sat : Fld := ⟨2, 1⟩
def GNS_ERR.acq_sat : Fld := ⟨1, 1⟩
def GNS_ERR.rec_sat : Fld := ⟨0, 1⟩
/-- GNS_IRQ_STAT, offset 0x0014, both view. -/
def GNS_IRQ_STAT : Nat := 0xA0014
def GNS_IRQ_STAT.port_fault : Fld := ⟨7, 1⟩
def GNS_IRQ_STAT.excluded : Fld := ⟨6, 1⟩
def GNS_IRQ_STAT.ch_retired : Fld := ⟨5, 1⟩
def GNS_IRQ_STAT.clk_lost : Fld := ⟨4, 1⟩
def GNS_IRQ_STAT.ref_switch : Fld := ⟨3, 1⟩
def GNS_IRQ_STAT.ant_fault : Fld := ⟨2, 1⟩
def GNS_IRQ_STAT.rec_dropped : Fld := ⟨1, 1⟩
def GNS_IRQ_STAT.epoch : Fld := ⟨0, 1⟩
/-- GNS_IRQ_MASK, offset 0x0018, privileged view. -/
def GNS_IRQ_MASK : Nat := 0xA0018
/-- GNS_MON_CFG, offset 0x001C, privileged view. -/
def GNS_MON_CFG : Nat := 0xA001C
def GNS_MON_CFG.mp_thresh : Fld := ⟨24, 8⟩
def GNS_MON_CFG.cn0_drop : Fld := ⟨16, 8⟩
def GNS_MON_CFG.window_s : Fld := ⟨8, 8⟩
def GNS_MON_CFG.fault_epochs : Fld := ⟨4, 4⟩
def GNS_MON_CFG.omit : Fld := ⟨0, 1⟩
/-- GNS_REC_CFG, offset 0x0020, privileged view. -/
def GNS_REC_CFG : Nat := 0xA0020
def GNS_REC_CFG.ctx : Fld := ⟨16, 6⟩
def GNS_REC_CFG.ring_log2 : Fld := ⟨8, 4⟩
def GNS_REC_CFG.ant_mask : Fld := ⟨0, 4⟩
/-- GNS_REC_BASE_LO, offset 0x0024, privileged view. -/
def GNS_REC_BASE_LO : Nat := 0xA0024
def GNS_REC_BASE_LO.base_lo : Fld := ⟨14, 18⟩
/-- GNS_REC_BASE_HI, offset 0x0028, privileged view. -/
def GNS_REC_BASE_HI : Nat := 0xA0028
def GNS_REC_BASE_HI.base_hi : Fld := ⟨0, 4⟩
/-- GNS_REC_STAT, offset 0x002C, both view. -/
def GNS_REC_STAT : Nat := 0xA002C
def GNS_REC_STAT.writing : Fld := ⟨31, 1⟩
def GNS_REC_STAT.last_index : Fld := ⟨20, 4⟩
def GNS_REC_STAT.last_epoch : Fld := ⟨0, 16⟩
/-- GNS_REC_HOLD, offset 0x0030, both view. -/
def GNS_REC_HOLD : Nat := 0xA0030
def GNS_REC_HOLD.fix_hold : Fld := ⟨16, 16⟩
def GNS_REC_HOLD.sw_hold : Fld := ⟨0, 16⟩
/-- GNS_REC_NOTICE, offset 0x0034, both view. -/
def GNS_REC_NOTICE : Nat := 0xA0034
def GNS_REC_NOTICE.pending : Fld := ⟨31, 1⟩
def GNS_REC_NOTICE.handle : Fld := ⟨0, 16⟩
/-- GNS_ACQ_REQ, offset 0x0038, privileged view. -/
def GNS_ACQ_REQ : Nat := 0xA0038
def GNS_ACQ_REQ.go : Fld := ⟨31, 1⟩
def GNS_ACQ_REQ.ant : Fld := ⟨28, 2⟩
def GNS_ACQ_REQ.sig : Fld := ⟨24, 4⟩
def GNS_ACQ_REQ.sv : Fld := ⟨18, 6⟩
def GNS_ACQ_REQ.wide : Fld := ⟨17, 1⟩
def GNS_ACQ_REQ.hint : Fld := ⟨0, 16⟩
/-- GNS_CTRL, offset 0x003C, privileged view. -/
def GNS_CTRL : Nat := 0xA003C
def GNS_CTRL.restore : Fld := ⟨31, 1⟩
/-- GNS_SIG_CFG[0..14], offset 0x0040, privileged view. -/
def GNS_SIG_CFG (i : Nat) : Nat := 0xA0040 + i * 0x4
def GNS_SIG_CFG.elev_mask : Fld := ⟨16, 8⟩
def GNS_SIG_CFG.cn0_min : Fld := ⟨8, 8⟩
def GNS_SIG_CFG.prio : Fld := ⟨4, 4⟩
def GNS_SIG_CFG.enable : Fld := ⟨0, 1⟩
/-- GNS_GLO_IFB[0..13], offset 0x0080, privileged view. -/
def GNS_GLO_IFB (i : Nat) : Nat := 0xA0080 + i * 0x4
def GNS_GLO_IFB.l2_mm : Fld := ⟨16, 16⟩
def GNS_GLO_IFB.l1_mm : Fld := ⟨0, 16⟩
/-- GNS_GLO_CPB, offset 0x00B8, privileged view. -/
def GNS_GLO_CPB : Nat := 0xA00B8
def GNS_GLO_CPB.l2_cpb : Fld := ⟨16, 16⟩
def GNS_GLO_CPB.l1_cpb : Fld := ⟨0, 16⟩
/-- GNS_ANT_CFG[0..3], offset 0x0100, privileged view. -/
def GNS_ANT_CFG (i : Nat) : Nat := 0xA0100 + i * 0x40
def GNS_ANT_CFG.quota : Fld := ⟨20, 10⟩
def GNS_ANT_CFG.station_id : Fld := ⟨8, 12⟩
def GNS_ANT_CFG.setup_id : Fld := ⟨0, 8⟩
/-- GNS_ANT_STAT[0..3], offset 0x0104, both view. -/
def GNS_ANT_STAT (i : Nat) : Nat := 0xA0104 + i * 0x40
def GNS_ANT_STAT.state : Fld := ⟨29, 3⟩
def GNS_ANT_STAT.channels : Fld := ⟨19, 10⟩
def GNS_ANT_STAT.cn0_med : Fld := ⟨11, 8⟩
def GNS_ANT_STAT.reason : Fld := ⟨9, 2⟩
/-- GNS_ARP_X_LO[0..3], offset 0x0108, privileged view. -/
def GNS_ARP_X_LO (i : Nat) : Nat := 0xA0108 + i * 0x40
def GNS_ARP_X_LO.coord : Fld := ⟨0, 32⟩
/-- GNS_ARP_X_HI[0..3], offset 0x010C, privileged view. -/
def GNS_ARP_X_HI (i : Nat) : Nat := 0xA010C + i * 0x40
def GNS_ARP_X_HI.coord : Fld := ⟨0, 32⟩
/-- GNS_ARP_Y_LO[0..3], offset 0x0110, privileged view. -/
def GNS_ARP_Y_LO (i : Nat) : Nat := 0xA0110 + i * 0x40
def GNS_ARP_Y_LO.coord : Fld := ⟨0, 32⟩
/-- GNS_ARP_Y_HI[0..3], offset 0x0114, privileged view. -/
def GNS_ARP_Y_HI (i : Nat) : Nat := 0xA0114 + i * 0x40
def GNS_ARP_Y_HI.coord : Fld := ⟨0, 32⟩
/-- GNS_ARP_Z_LO[0..3], offset 0x0118, privileged view. -/
def GNS_ARP_Z_LO (i : Nat) : Nat := 0xA0118 + i * 0x40
def GNS_ARP_Z_LO.coord : Fld := ⟨0, 32⟩
/-- GNS_ARP_Z_HI[0..3], offset 0x011C, privileged view. -/
def GNS_ARP_Z_HI (i : Nat) : Nat := 0xA011C + i * 0x40
def GNS_ARP_Z_HI.coord : Fld := ⟨0, 32⟩
/-- GNS_ANT_HGT[0..3], offset 0x0120, privileged view. -/
def GNS_ANT_HGT (i : Nat) : Nat := 0xA0120 + i * 0x40
def GNS_ANT_HGT.height : Fld := ⟨0, 16⟩
/-- GNS_BAND_CFG[0..3][0..2], offset 0x0124, privileged view. -/
def GNS_BAND_CFG (i : Nat) (j : Nat) : Nat := 0xA0124 + i * 0x40 + j * 0x8
def GNS_BAND_CFG.enable : Fld := ⟨31, 1⟩
def GNS_BAND_CFG.rate : Fld := ⟨29, 2⟩
def GNS_BAND_CFG.invert : Fld := ⟨28, 1⟩
def GNS_BAND_CFG.lo : Fld := ⟨0, 28⟩
/-- GNS_BAND_STAT[0..3][0..2], offset 0x0128, both view. -/
def GNS_BAND_STAT (i : Nat) (j : Nat) : Nat := 0xA0128 + i * 0x40 + j * 0x8
def GNS_BAND_STAT.link : Fld := ⟨30, 2⟩
def GNS_BAND_STAT.frame_sat : Fld := ⟨24, 1⟩
def GNS_BAND_STAT.clip : Fld := ⟨16, 8⟩
def GNS_BAND_STAT.rms : Fld := ⟨8, 8⟩
def GNS_BAND_STAT.frame_err : Fld := ⟨0, 8⟩
/-- GNS_ROUTE_CFG[0..3], offset 0x0200, privileged view. -/
def GNS_ROUTE_CFG (i : Nat) : Nat := 0xA0200 + i * 0x8
def GNS_ROUTE_CFG.enable : Fld := ⟨31, 1⟩
def GNS_ROUTE_CFG.msm7 : Fld := ⟨30, 1⟩
def GNS_ROUTE_CFG.divisor : Fld := ⟨24, 6⟩
def GNS_ROUTE_CFG.const_mask : Fld := ⟨19, 5⟩
def GNS_ROUTE_CFG.bds3 : Fld := ⟨16, 1⟩
def GNS_ROUTE_CFG.lane_mask : Fld := ⟨8, 8⟩
def GNS_ROUTE_CFG.fifo : Fld := ⟨0, 6⟩
/-- GNS_ROUTE_MSG[0..3], offset 0x0204, privileged view. -/
def GNS_ROUTE_MSG (i : Nat) : Nat := 0xA0204 + i * 0x8
def GNS_ROUTE_MSG.arp_s : Fld := ⟨24, 8⟩
def GNS_ROUTE_MSG.arp_1006 : Fld := ⟨23, 1⟩
def GNS_ROUTE_MSG.desc_s : Fld := ⟨8, 8⟩
def GNS_ROUTE_MSG.bias_s : Fld := ⟨0, 8⟩
/-- GNS_ANT_DESC[0..3][0..15], offset 0x0400, both view. -/
def GNS_ANT_DESC (i : Nat) (j : Nat) : Nat := 0xA0400 + i * 0x40 + j * 0x4
def GNS_ANT_DESC.chars : Fld := ⟨0, 32⟩
/-- GNS_RCV_DESC[0..23], offset 0x0500, both view. -/
def GNS_RCV_DESC (i : Nat) : Nat := 0xA0500 + i * 0x4
def GNS_RCV_DESC.chars : Fld := ⟨0, 32⟩
/-- GNS_CH_STAT[0..511], offset 0x1000, both view. -/
def GNS_CH_STAT (i : Nat) : Nat := 0xA1000 + i * 0x8
def GNS_CH_STAT.state : Fld := ⟨29, 3⟩
def GNS_CH_STAT.ant : Fld := ⟨27, 2⟩
def GNS_CH_STAT.sig : Fld := ⟨23, 4⟩
def GNS_CH_STAT.sv : Fld := ⟨17, 6⟩
def GNS_CH_STAT.glo_k : Fld := ⟨13, 4⟩
/-- GNS_CH_OBS[0..511], offset 0x1004, both view. -/
def GNS_CH_OBS (i : Nat) : Nat := 0xA1004 + i * 0x8
def GNS_CH_OBS.cn0 : Fld := ⟨24, 8⟩
def GNS_CH_OBS.verdict : Fld := ⟨22, 2⟩
def GNS_CH_OBS.half_cycle : Fld := ⟨21, 1⟩
def GNS_CH_OBS.lock_sat : Fld := ⟨20, 1⟩
def GNS_CH_OBS.lock_ds : Fld := ⟨0, 20⟩
/-- GNS_ACQ_STAT[0..31], offset 0x2000, both view. -/
def GNS_ACQ_STAT (i : Nat) : Nat := 0xA2000 + i * 0x4
def GNS_ACQ_STAT.state : Fld := ⟨30, 2⟩
def GNS_ACQ_STAT.ant : Fld := ⟨28, 2⟩
def GNS_ACQ_STAT.sig : Fld := ⟨24, 4⟩
def GNS_ACQ_STAT.sv : Fld := ⟨18, 6⟩
def GNS_ACQ_STAT.elapsed_ms : Fld := ⟨0, 16⟩

/-- The registers of GNS in offset order: first offset, array dimensions, view, fields. -/
def tabGNS0 : List RegDef :=
  [⟨0x0, [], true, false, [⟨31, 1, .wl, .val, 0⟩, ⟨18, 2, .ro, .img, 0⟩, ⟨14, 2, .ro, .img, 0⟩, ⟨12, 2, .ro, .img, 0⟩, ⟨8, 3, .ro, .img, 0⟩, ⟨0, 1, .rw, .img, 0⟩]⟩,
   ⟨0x4, [], false, false, [⟨30, 2, .ro, .val, 0⟩, ⟨28, 2, .ro, .img, 0⟩, ⟨26, 2, .ro, .val, 0⟩, ⟨16, 10, .ro, .val, 0⟩, ⟨4, 12, .ro, .val, 0⟩]⟩,
   ⟨0x8, [], false, false, [⟨0, 32, .ro, .val, 0⟩]⟩,
   ⟨0xC, [], false, false, [⟨31, 1, .ro, .val, 0⟩, ⟨0, 31, .ro, .val, 0⟩]⟩,
   ⟨0x10, [], false, false, [⟨24, 8, .rwv, .val, 0⟩, ⟨16, 8, .rwv, .val, 0⟩, ⟨8, 8, .rwv, .val, 0⟩, ⟨2, 1, .w1c, .val, 0⟩, ⟨1, 1, .w1c, .val, 0⟩, ⟨0, 1, .w1c, .val, 0⟩]⟩,
   ⟨0x14, [], false, false, [⟨7, 1, .w1c, .val, 0⟩, ⟨6, 1, .w1c, .val, 0⟩, ⟨5, 1, .w1c, .val, 0⟩, ⟨4, 1, .w1c, .val, 0⟩, ⟨3, 1, .w1c, .val, 0⟩, ⟨2, 1, .w1c, .val, 0⟩, ⟨1, 1, .w1c, .val, 0⟩, ⟨0, 1, .w1c, .val, 0⟩]⟩,
   ⟨0x18, [], true, false, [⟨7, 1, .rw, .val, 0⟩, ⟨6, 1, .rw, .val, 0⟩, ⟨5, 1, .rw, .val, 0⟩, ⟨4, 1, .rw, .val, 0⟩, ⟨3, 1, .rw, .val, 0⟩, ⟨2, 1, .rw, .val, 0⟩, ⟨1, 1, .rw, .val, 0⟩, ⟨0, 1, .rw, .val, 0⟩]⟩,
   ⟨0x1C, [], true, false, [⟨24, 8, .wl, .img, 0⟩, ⟨16, 8, .wl, .img, 0⟩, ⟨8, 8, .wl, .img, 0⟩, ⟨4, 4, .wl, .img, 0⟩, ⟨0, 1, .wl, .img, 0⟩]⟩,
   ⟨0x20, [], true, false, [⟨16, 6, .ro, .img, 0⟩, ⟨8, 4, .ro, .img, 0⟩, ⟨0, 4, .rw, .img, 0⟩]⟩,
   ⟨0x24, [], true, true, [⟨14, 18, .ro, .img, 0⟩]⟩,
   ⟨0x28, [], true, false, [⟨0, 4, .ro, .img, 0⟩]⟩,
   ⟨0x2C, [], false, false, [⟨31, 1, .ro, .val, 0⟩, ⟨20, 4, .ro, .val, 0⟩, ⟨0, 16, .ro, .val, 0⟩]⟩]
def tabGNS1 : List RegDef :=
  [⟨0x30, [], false, false, [⟨16, 16, .ro, .val, 0⟩, ⟨0, 16, .rw, .val, 0⟩]⟩,
   ⟨0x34, [], false, false, [⟨31, 1, .ro, .val, 0⟩, ⟨0, 16, .rwv, .val, 0⟩]⟩,
   ⟨0x38, [], true, false, [⟨31, 1, .wo, .val, 0⟩, ⟨28, 2, .wo, .val, 0⟩, ⟨24, 4, .wo, .val, 0⟩, ⟨18, 6, .wo, .val, 0⟩, ⟨17, 1, .wo, .val, 0⟩, ⟨0, 16, .wo, .val, 0⟩]⟩,
   ⟨0x3C, [], true, false, [⟨31, 1, .wo, .val, 0⟩]⟩,
   ⟨0x40, [⟨0, 15, 0x4⟩], true, false, [⟨16, 8, .rw, .img, 0⟩, ⟨8, 8, .rw, .img, 0⟩, ⟨4, 4, .rw, .img, 0⟩, ⟨0, 1, .rw, .img, 0⟩]⟩,
   ⟨0x80, [⟨0, 14, 0x4⟩], true, false, [⟨16, 16, .rw, .cal, 0⟩, ⟨0, 16, .rw, .cal, 0⟩]⟩,
   ⟨0xB8, [], true, false, [⟨16, 16, .rw, .cal, 0⟩, ⟨0, 16, .rw, .cal, 0⟩]⟩,
   ⟨0x100, [⟨0, 4, 0x40⟩], true, false, [⟨20, 10, .wl, .img, 0⟩, ⟨8, 12, .wl, .img, 0⟩, ⟨0, 8, .wl, .img, 0⟩]⟩,
   ⟨0x104, [⟨0, 4, 0x40⟩], false, false, [⟨29, 3, .ro, .val, 0⟩, ⟨19, 10, .ro, .val, 0⟩, ⟨11, 8, .ro, .val, 0⟩, ⟨9, 2, .ro, .val, 0⟩]⟩,
   ⟨0x108, [⟨0, 4, 0x40⟩], true, true, [⟨0, 32, .wl, .img, 0⟩]⟩,
   ⟨0x10C, [⟨0, 4, 0x40⟩], true, false, [⟨0, 32, .wl, .img, 0⟩]⟩,
   ⟨0x110, [⟨0, 4, 0x40⟩], true, true, [⟨0, 32, .wl, .img, 0⟩]⟩]
def tabGNS2 : List RegDef :=
  [⟨0x114, [⟨0, 4, 0x40⟩], true, false, [⟨0, 32, .wl, .img, 0⟩]⟩,
   ⟨0x118, [⟨0, 4, 0x40⟩], true, true, [⟨0, 32, .wl, .img, 0⟩]⟩,
   ⟨0x11C, [⟨0, 4, 0x40⟩], true, false, [⟨0, 32, .wl, .img, 0⟩]⟩,
   ⟨0x120, [⟨0, 4, 0x40⟩], true, false, [⟨0, 16, .wl, .img, 0⟩]⟩,
   ⟨0x124, [⟨0, 4, 0x40⟩, ⟨0, 3, 0x8⟩], true, false, [⟨31, 1, .wl, .img, 0⟩, ⟨29, 2, .wl, .img, 0⟩, ⟨28, 1, .wl, .img, 0⟩, ⟨0, 28, .wl, .img, 0⟩]⟩,
   ⟨0x128, [⟨0, 4, 0x40⟩, ⟨0, 3, 0x8⟩], false, false, [⟨30, 2, .ro, .val, 0⟩, ⟨24, 1, .w1c, .val, 0⟩, ⟨16, 8, .ro, .val, 0⟩, ⟨8, 8, .ro, .val, 0⟩, ⟨0, 8, .rwv, .val, 0⟩]⟩,
   ⟨0x200, [⟨0, 4, 0x8⟩], true, false, [⟨31, 1, .rw, .img, 0⟩, ⟨30, 1, .rw, .img, 0⟩, ⟨24, 6, .rw, .img, 0⟩, ⟨19, 5, .rw, .img, 0⟩, ⟨16, 1, .rw, .img, 0⟩, ⟨8, 8, .rw, .img, 0⟩, ⟨0, 6, .rw, .img, 0⟩]⟩,
   ⟨0x204, [⟨0, 4, 0x8⟩], true, false, [⟨24, 8, .rw, .img, 0⟩, ⟨23, 1, .rw, .img, 0⟩, ⟨8, 8, .rw, .img, 0⟩, ⟨0, 8, .rw, .img, 0⟩]⟩,
   ⟨0x400, [⟨0, 4, 0x40⟩, ⟨0, 16, 0x4⟩], false, false, [⟨0, 32, .wl, .img, 0⟩]⟩,
   ⟨0x500, [⟨0, 24, 0x4⟩], false, false, [⟨0, 32, .wl, .img, 0⟩]⟩,
   ⟨0x1000, [⟨0, 512, 0x8⟩], false, false, [⟨29, 3, .ro, .val, 0⟩, ⟨27, 2, .ro, .val, 0⟩, ⟨23, 4, .ro, .val, 0⟩, ⟨17, 6, .ro, .val, 0⟩, ⟨13, 4, .ro, .val, 0⟩]⟩,
   ⟨0x1004, [⟨0, 512, 0x8⟩], false, false, [⟨24, 8, .ro, .val, 0⟩, ⟨22, 2, .ro, .val, 0⟩, ⟨21, 1, .ro, .val, 0⟩, ⟨20, 1, .ro, .val, 0⟩, ⟨0, 20, .ro, .val, 0⟩]⟩]
def tabGNS3 : List RegDef :=
  [⟨0x2000, [⟨0, 32, 0x4⟩], false, false, [⟨30, 2, .ro, .val, 0⟩, ⟨28, 2, .ro, .val, 0⟩, ⟨24, 4, .ro, .val, 0⟩, ⟨18, 6, .ro, .val, 0⟩, ⟨0, 16, .ro, .val, 0⟩]⟩]
/-- All registers of GNS. -/
def tabGNS : List RegDef := tabGNS0 ++ tabGNS1 ++ tabGNS2 ++ tabGNS3

/-! ### OBS (spec/06_robot_fixes.md) -/

/-- OBS_CFG, offset 0x0000, privileged view. -/
def OBS_CFG : Nat := 0xB0000
def OBS_CFG.lock : Fld := ⟨31, 1⟩
def OBS_CFG.ctx : Fld := ⟨16, 6⟩
def OBS_CFG.late_ms : Fld := ⟨8, 8⟩
def OBS_CFG.enable : Fld := ⟨0, 1⟩
/-- OBS_BUF_LO, offset 0x0004, privileged view. -/
def OBS_BUF_LO : Nat := 0xB0004
def OBS_BUF_LO.base_lo : Fld := ⟨17, 15⟩
/-- OBS_BUF_HI, offset 0x0008, privileged view. -/
def OBS_BUF_HI : Nat := 0xB0008
def OBS_BUF_HI.base_hi : Fld := ⟨0, 4⟩
/-- OBS_ERR, offset 0x000C, both view. -/
def OBS_ERR : Nat := 0xB000C
def OBS_ERR.late : Fld := ⟨24, 8⟩
def OBS_ERR.stale : Fld := ⟨16, 8⟩
def OBS_ERR.set_mismatch : Fld := ⟨8, 8⟩
def OBS_ERR.late_sat : Fld := ⟨2, 1⟩
def OBS_ERR.stale_sat : Fld := ⟨1, 1⟩
def OBS_ERR.set_sat : Fld := ⟨0, 1⟩
/-- OBS_ERR2, offset 0x0010, both view. -/
def OBS_ERR2 : Nat := 0xB0010
def OBS_ERR2.unregistered : Fld := ⟨24, 8⟩
def OBS_ERR2.overrun : Fld := ⟨16, 8⟩
def OBS_ERR2.dup_epoch : Fld := ⟨8, 8⟩
def OBS_ERR2.unreg_sat : Fld := ⟨2, 1⟩
def OBS_ERR2.overrun_sat : Fld := ⟨1, 1⟩
def OBS_ERR2.dup_sat : Fld := ⟨0, 1⟩
/-- OBS_IRQ_STAT, offset 0x0014, both view. -/
def OBS_IRQ_STAT : Nat := 0xB0014
def OBS_IRQ_STAT.discard : Fld := ⟨2, 1⟩
def OBS_IRQ_STAT.full_frame : Fld := ⟨1, 1⟩
def OBS_IRQ_STAT.epoch : Fld := ⟨0, 1⟩
/-- OBS_IRQ_MASK, offset 0x0018, privileged view. -/
def OBS_IRQ_MASK : Nat := 0xB0018
/-- OBS_RBT_STAT[1..128], offset 0x0100, both view. -/
def OBS_RBT_STAT (i : Nat) : Nat := 0xB0100 + i * 0x10
def OBS_RBT_STAT.last_epoch : Fld := ⟨16, 16⟩
def OBS_RBT_STAT.set_tag : Fld := ⟨8, 8⟩
def OBS_RBT_STAT.buf1 : Fld := ⟨4, 2⟩
def OBS_RBT_STAT.buf0 : Fld := ⟨2, 2⟩
def OBS_RBT_STAT.set_held : Fld := ⟨1, 1⟩
/-- OBS_RBT_CTRL[1..128], offset 0x0104, both view. -/
def OBS_RBT_CTRL (i : Nat) : Nat := 0xB0104 + i * 0x10
def OBS_RBT_CTRL.force_full : Fld := ⟨31, 1⟩
def OBS_RBT_CTRL.release1 : Fld := ⟨1, 1⟩
def OBS_RBT_CTRL.release0 : Fld := ⟨0, 1⟩
/-- OBS_RBT_NOTICE[1..128], offset 0x0108, both view. -/
def OBS_RBT_NOTICE (i : Nat) : Nat := 0xB0108 + i * 0x10
def OBS_RBT_NOTICE.pending : Fld := ⟨31, 1⟩
def OBS_RBT_NOTICE.handle : Fld := ⟨0, 16⟩
/-- OBS_RBT_MISS[1..128], offset 0x010C, both view. -/
def OBS_RBT_MISS (i : Nat) : Nat := 0xB010C + i * 0x10
def OBS_RBT_MISS.missed : Fld := ⟨16, 16⟩
def OBS_RBT_MISS.missed_sat : Fld := ⟨0, 1⟩

/-- The registers of OBS in offset order: first offset, array dimensions, view, fields. -/
def tabOBS : List RegDef :=
  [⟨0x0, [], true, false, [⟨31, 1, .wl, .val, 0⟩, ⟨16, 6, .ro, .img, 0⟩, ⟨8, 8, .wl, .img, 0⟩, ⟨0, 1, .rw, .img, 0⟩]⟩,
   ⟨0x4, [], true, true, [⟨17, 15, .ro, .img, 0⟩]⟩,
   ⟨0x8, [], true, false, [⟨0, 4, .ro, .img, 0⟩]⟩,
   ⟨0xC, [], false, false, [⟨24, 8, .rwv, .val, 0⟩, ⟨16, 8, .rwv, .val, 0⟩, ⟨8, 8, .rwv, .val, 0⟩, ⟨2, 1, .w1c, .val, 0⟩, ⟨1, 1, .w1c, .val, 0⟩, ⟨0, 1, .w1c, .val, 0⟩]⟩,
   ⟨0x10, [], false, false, [⟨24, 8, .rwv, .val, 0⟩, ⟨16, 8, .rwv, .val, 0⟩, ⟨8, 8, .rwv, .val, 0⟩, ⟨2, 1, .w1c, .val, 0⟩, ⟨1, 1, .w1c, .val, 0⟩, ⟨0, 1, .w1c, .val, 0⟩]⟩,
   ⟨0x14, [], false, false, [⟨2, 1, .w1c, .val, 0⟩, ⟨1, 1, .w1c, .val, 0⟩, ⟨0, 1, .w1c, .val, 0⟩]⟩,
   ⟨0x18, [], true, false, [⟨2, 1, .rw, .val, 0⟩, ⟨1, 1, .rw, .val, 0⟩, ⟨0, 1, .rw, .val, 0⟩]⟩,
   ⟨0x100, [⟨1, 128, 0x10⟩], false, false, [⟨16, 16, .ro, .val, 0⟩, ⟨8, 8, .ro, .val, 0⟩, ⟨4, 2, .ro, .val, 0⟩, ⟨2, 2, .ro, .val, 0⟩, ⟨1, 1, .ro, .val, 0⟩]⟩,
   ⟨0x104, [⟨1, 128, 0x10⟩], false, false, [⟨31, 1, .wo, .val, 0⟩, ⟨1, 1, .wo, .val, 0⟩, ⟨0, 1, .wo, .val, 0⟩]⟩,
   ⟨0x108, [⟨1, 128, 0x10⟩], false, false, [⟨31, 1, .ro, .val, 0⟩, ⟨0, 16, .rwv, .val, 0⟩]⟩,
   ⟨0x10C, [⟨1, 128, 0x10⟩], false, false, [⟨16, 16, .rwv, .val, 0⟩, ⟨0, 1, .w1c, .val, 0⟩]⟩]

/-! ### MTX (spec/05_matrix_engine.md) -/

/-- MTX_CFG, offset 0x0000, privileged view. -/
def MTX_CFG : Nat := 0xC0000
def MTX_CFG.lock : Fld := ⟨31, 1⟩
def MTX_CFG.selftest_ms : Fld := ⟨16, 8⟩
def MTX_CFG.normal_every : Fld := ⟨8, 4⟩
def MTX_CFG.enable : Fld := ⟨0, 1⟩
/-- MTX_STAT, offset 0x0004, both view. -/
def MTX_STAT : Nat := 0xC0004
def MTX_STAT.tiles : Fld := ⟨28, 3⟩
def MTX_STAT.in_flight : Fld := ⟨16, 7⟩
def MTX_STAT.queued_urgent : Fld := ⟨8, 8⟩
def MTX_STAT.queued_normal : Fld := ⟨0, 8⟩
/-- MTX_PD_TOL, offset 0x0008, privileged view. -/
def MTX_PD_TOL : Nat := 0xC0008
def MTX_PD_TOL.pd_exp : Fld := ⟨0, 6⟩
/-- MTX_ERR, offset 0x000C, both view. -/
def MTX_ERR : Nat := 0xC000C
def MTX_ERR.tile_fault : Fld := ⟨24, 8⟩
def MTX_ERR.retried : Fld := ⟨16, 8⟩
def MTX_ERR.refused : Fld := ⟨8, 8⟩
def MTX_ERR.fault_sat : Fld := ⟨2, 1⟩
def MTX_ERR.retry_sat : Fld := ⟨1, 1⟩
def MTX_ERR.refused_sat : Fld := ⟨0, 1⟩
/-- MTX_IRQ_STAT, offset 0x0010, both view. -/
def MTX_IRQ_STAT : Nat := 0xC0010
def MTX_IRQ_STAT.selftest_fail : Fld := ⟨4, 1⟩
def MTX_IRQ_STAT.tile_retired : Fld := ⟨3, 1⟩
def MTX_IRQ_STAT.refused : Fld := ⟨2, 1⟩
def MTX_IRQ_STAT.job_err : Fld := ⟨1, 1⟩
def MTX_IRQ_STAT.job_irq : Fld := ⟨0, 1⟩
/-- MTX_IRQ_MASK, offset 0x0014, privileged view. -/
def MTX_IRQ_MASK : Nat := 0xC0014
/-- MTX_SUBMIT_LO, offset 0x0018, both view. -/
def MTX_SUBMIT_LO : Nat := 0xC0018
def MTX_SUBMIT_LO.addr_lo : Fld := ⟨6, 26⟩
/-- MTX_SUBMIT_HI, offset 0x001C, both view. -/
def MTX_SUBMIT_HI : Nat := 0xC001C
def MTX_SUBMIT_HI.ctx : Fld := ⟨8, 6⟩
def MTX_SUBMIT_HI.addr_hi : Fld := ⟨0, 4⟩
/-- MTX_SUBMIT_RES, offset 0x0020, both view. -/
def MTX_SUBMIT_RES : Nat := 0xC0020
def MTX_SUBMIT_RES.busy : Fld := ⟨31, 1⟩
def MTX_SUBMIT_RES.status : Fld := ⟨24, 3⟩
def MTX_SUBMIT_RES.slot : Fld := ⟨16, 6⟩
def MTX_SUBMIT_RES.job_id : Fld := ⟨0, 16⟩
/-- MTX_TILE_STAT[0..3], offset 0x0040, both view. -/
def MTX_TILE_STAT (i : Nat) : Nat := 0xC0040 + i * 0x8
def MTX_TILE_STAT.state : Fld := ⟨30, 2⟩
def MTX_TILE_STAT.half0_busy : Fld := ⟨29, 1⟩
def MTX_TILE_STAT.half1_busy : Fld := ⟨28, 1⟩
def MTX_TILE_STAT.half0_slot : Fld := ⟨22, 6⟩
def MTX_TILE_STAT.half1_slot : Fld := ⟨16, 6⟩
def MTX_TILE_STAT.window : Fld := ⟨12, 4⟩
/-- MTX_TILE_ERR[0..3], offset 0x0044, both view. -/
def MTX_TILE_ERR (i : Nat) : Nat := 0xC0044 + i * 0x8
def MTX_TILE_ERR.residue : Fld := ⟨24, 8⟩
def MTX_TILE_ERR.ecc_unc : Fld := ⟨16, 8⟩
def MTX_TILE_ERR.ecc_corr : Fld := ⟨8, 8⟩
def MTX_TILE_ERR.residue_sat : Fld := ⟨2, 1⟩
def MTX_TILE_ERR.unc_sat : Fld := ⟨1, 1⟩
def MTX_TILE_ERR.corr_sat : Fld := ⟨0, 1⟩
/-- MTX_SLOT_STAT[0..63], offset 0x0100, both view. -/
def MTX_SLOT_STAT (i : Nat) : Nat := 0xC0100 + i * 0x8
def MTX_SLOT_STAT.state : Fld := ⟨29, 3⟩
def MTX_SLOT_STAT.tile : Fld := ⟨24, 2⟩
def MTX_SLOT_STAT.op : Fld := ⟨20, 4⟩
def MTX_SLOT_STAT.urgent : Fld := ⟨19, 1⟩
def MTX_SLOT_STAT.retries : Fld := ⟨17, 2⟩
def MTX_SLOT_STAT.job_id : Fld := ⟨0, 16⟩
/-- MTX_SLOT_PROG[0..63], offset 0x0104, both view. -/
def MTX_SLOT_PROG (i : Nat) : Nat := 0xC0104 + i * 0x8
def MTX_SLOT_PROG.phase : Fld := ⟨31, 1⟩
def MTX_SLOT_PROG.operand : Fld := ⟨28, 3⟩
def MTX_SLOT_PROG.offset : Fld := ⟨0, 24⟩

/-- The registers of MTX in offset order: first offset, array dimensions, view, fields. -/
def tabMTX0 : List RegDef :=
  [⟨0x0, [], true, false, [⟨31, 1, .wl, .val, 0⟩, ⟨16, 8, .wl, .img, 0⟩, ⟨8, 4, .wl, .img, 0⟩, ⟨0, 1, .rw, .img, 0⟩]⟩,
   ⟨0x4, [], false, false, [⟨28, 3, .ro, .val, 4⟩, ⟨16, 7, .ro, .val, 0⟩, ⟨8, 8, .ro, .val, 0⟩, ⟨0, 8, .ro, .val, 0⟩]⟩,
   ⟨0x8, [], true, false, [⟨0, 6, .rw, .img, 0⟩]⟩,
   ⟨0xC, [], false, false, [⟨24, 8, .rwv, .val, 0⟩, ⟨16, 8, .rwv, .val, 0⟩, ⟨8, 8, .rwv, .val, 0⟩, ⟨2, 1, .w1c, .val, 0⟩, ⟨1, 1, .w1c, .val, 0⟩, ⟨0, 1, .w1c, .val, 0⟩]⟩,
   ⟨0x10, [], false, false, [⟨4, 1, .w1c, .val, 0⟩, ⟨3, 1, .w1c, .val, 0⟩, ⟨2, 1, .w1c, .val, 0⟩, ⟨1, 1, .w1c, .val, 0⟩, ⟨0, 1, .w1c, .val, 0⟩]⟩,
   ⟨0x14, [], true, false, [⟨4, 1, .rw, .val, 0⟩, ⟨3, 1, .rw, .val, 0⟩, ⟨2, 1, .rw, .val, 0⟩, ⟨1, 1, .rw, .val, 0⟩, ⟨0, 1, .rw, .val, 0⟩]⟩,
   ⟨0x18, [], false, true, [⟨6, 26, .wo, .val, 0⟩]⟩,
   ⟨0x1C, [], false, false, [⟨8, 6, .wo, .val, 0⟩, ⟨0, 4, .wo, .val, 0⟩]⟩,
   ⟨0x20, [], false, false, [⟨31, 1, .ro, .val, 0⟩, ⟨24, 3, .ro, .val, 0⟩, ⟨16, 6, .ro, .val, 0⟩, ⟨0, 16, .ro, .val, 0⟩]⟩,
   ⟨0x40, [⟨0, 4, 0x8⟩], false, false, [⟨30, 2, .ro, .val, 0⟩, ⟨29, 1, .ro, .val, 0⟩, ⟨28, 1, .ro, .val, 0⟩, ⟨22, 6, .ro, .val, 0⟩, ⟨16, 6, .ro, .val, 0⟩, ⟨12, 4, .ro, .val, 0⟩]⟩,
   ⟨0x44, [⟨0, 4, 0x8⟩], false, false, [⟨24, 8, .rwv, .val, 0⟩, ⟨16, 8, .rwv, .val, 0⟩, ⟨8, 8, .rwv, .val, 0⟩, ⟨2, 1, .w1c, .val, 0⟩, ⟨1, 1, .w1c, .val, 0⟩, ⟨0, 1, .w1c, .val, 0⟩]⟩,
   ⟨0x100, [⟨0, 64, 0x8⟩], false, false, [⟨29, 3, .ro, .val, 0⟩, ⟨24, 2, .ro, .val, 0⟩, ⟨20, 4, .ro, .val, 0⟩, ⟨19, 1, .ro, .val, 0⟩, ⟨17, 2, .ro, .val, 0⟩, ⟨0, 16, .ro, .val, 0⟩]⟩]
def tabMTX1 : List RegDef :=
  [⟨0x104, [⟨0, 64, 0x8⟩], false, false, [⟨31, 1, .ro, .val, 0⟩, ⟨28, 3, .ro, .val, 0⟩, ⟨0, 24, .ro, .val, 0⟩]⟩]
/-- All registers of MTX. -/
def tabMTX : List RegDef := tabMTX0 ++ tabMTX1

/-! ### FIX (spec/06_robot_fixes.md) -/

/-- FIX_CFG, offset 0x0000, privileged view. -/
def FIX_CFG : Nat := 0xD0000
def FIX_CFG.lock : Fld := ⟨31, 1⟩
def FIX_CFG.node_log2 : Fld := ⟨21, 5⟩
def FIX_CFG.min_fix : Fld := ⟨15, 6⟩
def FIX_CFG.min_sig : Fld := ⟨9, 6⟩
def FIX_CFG.elev_mask : Fld := ⟨1, 8⟩
def FIX_CFG.enable : Fld := ⟨0, 1⟩
/-- FIX_RATIO, offset 0x0004, privileged view. -/
def FIX_RATIO : Nat := 0xD0004
def FIX_RATIO.ratio : Fld := ⟨0, 32⟩
/-- FIX_VAL_CHI, offset 0x0008, privileged view. -/
def FIX_VAL_CHI : Nat := 0xD0008
def FIX_VAL_CHI.chi : Fld := ⟨0, 32⟩
/-- FIX_STOP_CFG, offset 0x000C, privileged view. -/
def FIX_STOP_CFG : Nat := 0xD000C
def FIX_STOP_CFG.excursion_n : Fld := ⟨28, 4⟩
def FIX_STOP_CFG.fleet_n : Fld := ⟨24, 4⟩
def FIX_STOP_CFG.stop_lost_ms : Fld := ⟨14, 10⟩
def FIX_STOP_CFG.stop_confirm : Fld := ⟨6, 8⟩
/-- FIX_STOP_CFG2, offset 0x0010, privileged view. -/
def FIX_STOP_CFG2 : Nat := 0xD0010
def FIX_STOP_CFG2.base_loss : Fld := ⟨24, 8⟩
def FIX_STOP_CFG2.silence : Fld := ⟨16, 8⟩
def FIX_STOP_CFG2.still_mm_s : Fld := ⟨0, 16⟩
/-- FIX_SHADOW_CFG, offset 0x0014, privileged view. -/
def FIX_SHADOW_CFG : Nat := 0xD0014
def FIX_SHADOW_CFG.shadow_n : Fld := ⟨16, 4⟩
def FIX_SHADOW_CFG.tol_mm : Fld := ⟨0, 16⟩
/-- FIX_PUB_CFG, offset 0x0018, privileged view. -/
def FIX_PUB_CFG : Nat := 0xD0018
def FIX_PUB_CFG.enable : Fld := ⟨31, 1⟩
def FIX_PUB_CFG.fifo : Fld := ⟨0, 6⟩
/-- FIX_STAT, offset 0x001C, both view. -/
def FIX_STAT : Nat := 0xD001C
def FIX_STAT.fixed : Fld := ⟨24, 8⟩
def FIX_STAT.float : Fld := ⟨16, 8⟩
def FIX_STAT.degraded : Fld := ⟨8, 8⟩
def FIX_STAT.active : Fld := ⟨0, 8⟩
/-- FIX_ERR, offset 0x0020, both view. -/
def FIX_ERR : Nat := 0xD0020
def FIX_ERR.not_pd : Fld := ⟨24, 8⟩
def FIX_ERR.base_missing : Fld := ⟨16, 8⟩
def FIX_ERR.pub_dropped : Fld := ⟨8, 8⟩
def FIX_ERR.pd_sat : Fld := ⟨2, 1⟩
def FIX_ERR.base_sat : Fld := ⟨1, 1⟩
def FIX_ERR.pub_sat : Fld := ⟨0, 1⟩
/-- FIX_IRQ_STAT, offset 0x0024, both view. -/
def FIX_IRQ_STAT : Nat := 0xD0024
def FIX_IRQ_STAT.reset : Fld := ⟨3, 1⟩
def FIX_IRQ_STAT.lost : Fld := ⟨2, 1⟩
def FIX_IRQ_STAT.verdict : Fld := ⟨1, 1⟩
def FIX_IRQ_STAT.fix : Fld := ⟨0, 1⟩
/-- FIX_IRQ_MASK, offset 0x0028, privileged view. -/
def FIX_IRQ_MASK : Nat := 0xD0028
/-- FIX_ORIGIN_X_LO, offset 0x0040, privileged view. -/
def FIX_ORIGIN_X_LO : Nat := 0xD0040
def FIX_ORIGIN_X_LO.coord : Fld := ⟨0, 32⟩
/-- FIX_ORIGIN_X_HI, offset 0x0044, privileged view. -/
def FIX_ORIGIN_X_HI : Nat := 0xD0044
def FIX_ORIGIN_X_HI.coord : Fld := ⟨0, 32⟩
/-- FIX_ORIGIN_Y_LO, offset 0x0048, privileged view. -/
def FIX_ORIGIN_Y_LO : Nat := 0xD0048
def FIX_ORIGIN_Y_LO.coord : Fld := ⟨0, 32⟩
/-- FIX_ORIGIN_Y_HI, offset 0x004C, privileged view. -/
def FIX_ORIGIN_Y_HI : Nat := 0xD004C
def FIX_ORIGIN_Y_HI.coord : Fld := ⟨0, 32⟩
/-- FIX_ORIGIN_Z_LO, offset 0x0050, privileged view. -/
def FIX_ORIGIN_Z_LO : Nat := 0xD0050
def FIX_ORIGIN_Z_LO.coord : Fld := ⟨0, 32⟩
/-- FIX_ORIGIN_Z_HI, offset 0x0054, privileged view. -/
def FIX_ORIGIN_Z_HI : Nat := 0xD0054
def FIX_ORIGIN_Z_HI.coord : Fld := ⟨0, 32⟩
/-- FIX_CLASS_HW[0..15], offset 0x0080, privileged view. -/
def FIX_CLASS_HW (i : Nat) : Nat := 0xD0080 + i * 0x4
def FIX_CLASS_HW.hw_mm : Fld := ⟨0, 16⟩
/-- FIX_QCLASS[0..7], offset 0x00C0, privileged view. -/
def FIX_QCLASS (i : Nat) : Nat := 0xD00C0 + i * 0x4
def FIX_QCLASS.jerk : Fld := ⟨0, 32⟩
/-- FIX_RBT_CFG[1..128], offset 0x0400, privileged view. -/
def FIX_RBT_CFG (i : Nat) : Nat := 0xD0400 + i * 0x8
def FIX_RBT_CFG.mode : Fld := ⟨30, 2⟩
def FIX_RBT_CFG.qclass : Fld := ⟨27, 3⟩
def FIX_RBT_CFG.coast_max : Fld := ⟨24, 3⟩
def FIX_RBT_CFG.aux_div : Fld := ⟨16, 8⟩
def FIX_RBT_CFG.echo_div : Fld := ⟨8, 8⟩
def FIX_RBT_CFG.shadow_div : Fld := ⟨0, 8⟩
/-- FIX_RBT_CTRL[1..128], offset 0x0404, privileged view. -/
def FIX_RBT_CTRL (i : Nat) : Nat := 0xD0404 + i * 0x8
def FIX_RBT_CTRL.reset : Fld := ⟨31, 1⟩
/-- FIX_TBL[1..128][0..9], offset 0x1000, both view. -/
def FIX_TBL (i : Nat) (j : Nat) : Nat := 0xD1000 + i * 0x40 + j * 0x4
def FIX_TBL.word : Fld := ⟨0, 32⟩

/-- The registers of FIX in offset order: first offset, array dimensions, view, fields. -/
def tabFIX0 : List RegDef :=
  [⟨0x0, [], true, false, [⟨31, 1, .wl, .val, 0⟩, ⟨21, 5, .wl, .img, 0⟩, ⟨15, 6, .wl, .img, 0⟩, ⟨9, 6, .wl, .img, 0⟩, ⟨1, 8, .wl, .img, 0⟩, ⟨0, 1, .rw, .img, 0⟩]⟩,
   ⟨0x4, [], true, false, [⟨0, 32, .wl, .img, 0⟩]⟩,
   ⟨0x8, [], true, false, [⟨0, 32, .wl, .img, 0⟩]⟩,
   ⟨0xC, [], true, false, [⟨28, 4, .wl, .img, 0⟩, ⟨24, 4, .wl, .img, 0⟩, ⟨14, 10, .wl, .img, 0⟩, ⟨6, 8, .wl, .img, 0⟩]⟩,
   ⟨0x10, [], true, false, [⟨24, 8, .wl, .img, 0⟩, ⟨16, 8, .wl, .img, 0⟩, ⟨0, 16, .wl, .img, 0⟩]⟩,
   ⟨0x14, [], true, false, [⟨16, 4, .wl, .img, 0⟩, ⟨0, 16, .wl, .img, 0⟩]⟩,
   ⟨0x18, [], true, false, [⟨31, 1, .rw, .img, 0⟩, ⟨0, 6, .rw, .img, 0⟩]⟩,
   ⟨0x1C, [], false, false, [⟨24, 8, .ro, .val, 0⟩, ⟨16, 8, .ro, .val, 0⟩, ⟨8, 8, .ro, .val, 0⟩, ⟨0, 8, .ro, .val, 0⟩]⟩,
   ⟨0x20, [], false, false, [⟨24, 8, .rwv, .val, 0⟩, ⟨16, 8, .rwv, .val, 0⟩, ⟨8, 8, .rwv, .val, 0⟩, ⟨2, 1, .w1c, .val, 0⟩, ⟨1, 1, .w1c, .val, 0⟩, ⟨0, 1, .w1c, .val, 0⟩]⟩,
   ⟨0x24, [], false, false, [⟨3, 1, .w1c, .val, 0⟩, ⟨2, 1, .w1c, .val, 0⟩, ⟨1, 1, .w1c, .val, 0⟩, ⟨0, 1, .w1c, .val, 0⟩]⟩,
   ⟨0x28, [], true, false, [⟨3, 1, .rw, .val, 0⟩, ⟨2, 1, .rw, .val, 0⟩, ⟨1, 1, .rw, .val, 0⟩, ⟨0, 1, .rw, .val, 0⟩]⟩,
   ⟨0x40, [], true, true, [⟨0, 32, .wl, .img, 0⟩]⟩]
def tabFIX1 : List RegDef :=
  [⟨0x44, [], true, false, [⟨0, 32, .wl, .img, 0⟩]⟩,
   ⟨0x48, [], true, true, [⟨0, 32, .wl, .img, 0⟩]⟩,
   ⟨0x4C, [], true, false, [⟨0, 32, .wl, .img, 0⟩]⟩,
   ⟨0x50, [], true, true, [⟨0, 32, .wl, .img, 0⟩]⟩,
   ⟨0x54, [], true, false, [⟨0, 32, .wl, .img, 0⟩]⟩,
   ⟨0x80, [⟨0, 16, 0x4⟩], true, false, [⟨0, 16, .wl, .img, 0⟩]⟩,
   ⟨0xC0, [⟨0, 8, 0x4⟩], true, false, [⟨0, 32, .wl, .img, 0⟩]⟩,
   ⟨0x400, [⟨1, 128, 0x8⟩], true, false, [⟨30, 2, .wl, .img, 0⟩, ⟨27, 3, .wl, .img, 0⟩, ⟨24, 3, .wl, .img, 0⟩, ⟨16, 8, .wl, .img, 0⟩, ⟨8, 8, .wl, .img, 0⟩, ⟨0, 8, .wl, .img, 0⟩]⟩,
   ⟨0x404, [⟨1, 128, 0x8⟩], true, false, [⟨31, 1, .wo, .val, 0⟩]⟩,
   ⟨0x1000, [⟨1, 128, 0x40⟩, ⟨0, 10, 0x4⟩], false, false, [⟨0, 32, .ro, .val, 0⟩]⟩]
/-- All registers of FIX. -/
def tabFIX : List RegDef := tabFIX0 ++ tabFIX1

/-! ### RSV (spec/07_track_reservation.md) -/

/-- RSV_CFG, offset 0x0000, privileged view. -/
def RSV_CFG : Nat := 0xE0000
def RSV_CFG.lock : Fld := ⟨31, 1⟩
def RSV_CFG.horizon_s : Fld := ⟨21, 10⟩
def RSV_CFG.guard_ticks : Fld := ⟨13, 8⟩
def RSV_CFG.hold_ticks : Fld := ⟨3, 10⟩
def RSV_CFG.mirror_sync : Fld := ⟨1, 1⟩
def RSV_CFG.enable : Fld := ⟨0, 1⟩
/-- RSV_CFG2, offset 0x0004, privileged view. -/
def RSV_CFG2 : Nat := 0xE0004
def RSV_CFG2.pool_warn : Fld := ⟨13, 19⟩
def RSV_CFG2.offer_max : Fld := ⟨0, 8⟩
/-- RSV_STAT, offset 0x0008, both view. -/
def RSV_STAT : Nat := 0xE0008
def RSV_STAT.state : Fld := ⟨30, 2⟩
def RSV_STAT.in_flight : Fld := ⟨24, 6⟩
def RSV_STAT.tokens : Fld := ⟨11, 13⟩
def RSV_STAT.poisoned : Fld := ⟨0, 11⟩
/-- RSV_NOW, offset 0x000C, both view. -/
def RSV_NOW : Nat := 0xE000C
def RSV_NOW.tick : Fld := ⟨0, 32⟩
/-- RSV_POOL, offset 0x0010, both view. -/
def RSV_POOL : Nat := 0xE0010
def RSV_POOL.free : Fld := ⟨13, 19⟩
/-- RSV_ERR, offset 0x0014, both view. -/
def RSV_ERR : Nat := 0xE0014
def RSV_ERR.conflicts : Fld := ⟨24, 8⟩
def RSV_ERR.refused : Fld := ⟨16, 8⟩
def RSV_ERR.bad : Fld := ⟨8, 8⟩
def RSV_ERR.conflicts_sat : Fld := ⟨2, 1⟩
def RSV_ERR.refused_sat : Fld := ⟨1, 1⟩
def RSV_ERR.bad_sat : Fld := ⟨0, 1⟩
/-- RSV_ERR2, offset 0x0018, both view. -/
def RSV_ERR2 : Nat := 0xE0018
def RSV_ERR2.pool_full : Fld := ⟨24, 8⟩
def RSV_ERR2.mirror_late : Fld := ⟨16, 8⟩
def RSV_ERR2.evt_dropped : Fld := ⟨8, 8⟩
def RSV_ERR2.ecc_unc : Fld := ⟨3, 1⟩
def RSV_ERR2.pool_sat : Fld := ⟨2, 1⟩
def RSV_ERR2.mirror_sat : Fld := ⟨1, 1⟩
def RSV_ERR2.evt_sat : Fld := ⟨0, 1⟩
/-- RSV_IRQ_STAT, offset 0x001C, both view. -/
def RSV_IRQ_STAT : Nat := 0xE001C
def RSV_IRQ_STAT.refused : Fld := ⟨6, 1⟩
def RSV_IRQ_STAT.graph_done : Fld := ⟨5, 1⟩
def RSV_IRQ_STAT.mirror_late : Fld := ⟨4, 1⟩
def RSV_IRQ_STAT.poison : Fld := ⟨3, 1⟩
def RSV_IRQ_STAT.revoke : Fld := ⟨2, 1⟩
def RSV_IRQ_STAT.pool_warn : Fld := ⟨1, 1⟩
def RSV_IRQ_STAT.response : Fld := ⟨0, 1⟩
/-- RSV_IRQ_MASK, offset 0x0020, privileged view. -/
def RSV_IRQ_MASK : Nat := 0xE0020
/-- RSV_SUBMIT_LO, offset 0x0024, both view. -/
def RSV_SUBMIT_LO : Nat := 0xE0024
def RSV_SUBMIT_LO.addr_lo : Fld := ⟨5, 27⟩
/-- RSV_SUBMIT_HI, offset 0x0028, both view. -/
def RSV_SUBMIT_HI : Nat := 0xE0028
def RSV_SUBMIT_HI.ctx : Fld := ⟨8, 6⟩
def RSV_SUBMIT_HI.addr_hi : Fld := ⟨0, 4⟩
/-- RSV_SUBMIT_RES, offset 0x002C, both view. -/
def RSV_SUBMIT_RES : Nat := 0xE002C
def RSV_SUBMIT_RES.busy : Fld := ⟨31, 1⟩
def RSV_SUBMIT_RES.status : Fld := ⟨24, 3⟩
def RSV_SUBMIT_RES.slot : Fld := ⟨16, 5⟩
def RSV_SUBMIT_RES.req_id : Fld := ⟨0, 16⟩
/-- RSV_REVOKE, offset 0x0030, privileged view. -/
def RSV_REVOKE : Nat := 0xE0030
def RSV_REVOKE.go : Fld := ⟨31, 1⟩
def RSV_REVOKE.scope : Fld := ⟨29, 2⟩
def RSV_REVOKE.no_hold : Fld := ⟨28, 1⟩
def RSV_REVOKE.robot : Fld := ⟨0, 8⟩
/-- RSV_TOKQ, offset 0x0034, both view. -/
def RSV_TOKQ : Nat := 0xE0034
def RSV_TOKQ.token : Fld := ⟨0, 32⟩
/-- RSV_TOKQ_RES, offset 0x0038, both view. -/
def RSV_TOKQ_RES : Nat := 0xE0038
def RSV_TOKQ_RES.state : Fld := ⟨29, 3⟩
def RSV_TOKQ_RES.robot : Fld := ⟨16, 8⟩
def RSV_TOKQ_RES.elements : Fld := ⟨8, 8⟩
def RSV_TOKQ_RES.released : Fld := ⟨0, 8⟩
/-- RSV_TOKQ_LAST, offset 0x003C, both view. -/
def RSV_TOKQ_LAST : Nat := 0xE003C
def RSV_TOKQ_LAST.last : Fld := ⟨0, 32⟩
/-- RSV_GRAPH_LO, offset 0x0040, privileged view. -/
def RSV_GRAPH_LO : Nat := 0xE0040
def RSV_GRAPH_LO.addr_lo : Fld := ⟨12, 20⟩
/-- RSV_GRAPH_HI, offset 0x0044, privileged view. -/
def RSV_GRAPH_HI : Nat := 0xE0044
def RSV_GRAPH_HI.ctx : Fld := ⟨8, 6⟩
def RSV_GRAPH_HI.addr_hi : Fld := ⟨0, 4⟩
/-- RSV_GRAPH_STAT, offset 0x0048, both view. -/
def RSV_GRAPH_STAT : Nat := 0xE0048
def RSV_GRAPH_STAT.state : Fld := ⟨30, 2⟩
def RSV_GRAPH_STAT.error : Fld := ⟨16, 8⟩
def RSV_GRAPH_STAT.bad_index : Fld := ⟨0, 16⟩
/-- RSV_GRAPH_VER, offset 0x004C, both view. -/
def RSV_GRAPH_VER : Nat := 0xE004C
def RSV_GRAPH_VER.version : Fld := ⟨0, 32⟩
/-- RSV_EVT_CFG, offset 0x0050, privileged view. -/
def RSV_EVT_CFG : Nat := 0xE0050
def RSV_EVT_CFG.enable : Fld := ⟨31, 1⟩
def RSV_EVT_CFG.fifo : Fld := ⟨0, 6⟩
/-- RSV_SLOT_STAT[0..31], offset 0x0100, both view. -/
def RSV_SLOT_STAT (i : Nat) : Nat := 0xE0100 + i * 0x8
def RSV_SLOT_STAT.state : Fld := ⟨29, 3⟩
def RSV_SLOT_STAT.op : Fld := ⟨25, 4⟩
def RSV_SLOT_STAT.robot : Fld := ⟨16, 8⟩
def RSV_SLOT_STAT.req_id : Fld := ⟨0, 16⟩
/-- RSV_SLOT_PROG[0..31], offset 0x0104, both view. -/
def RSV_SLOT_PROG (i : Nat) : Nat := 0xE0104 + i * 0x8
def RSV_SLOT_PROG.phase : Fld := ⟨31, 1⟩
def RSV_SLOT_PROG.committed : Fld := ⟨30, 1⟩
/-- RSV_RBT_CFG[1..128], offset 0x0200, privileged view. -/
def RSV_RBT_CFG (i : Nat) : Nat := 0xE0200 + i * 0x8
def RSV_RBT_CFG.class : Fld := ⟨28, 4⟩
def RSV_RBT_CFG.max_tokens : Fld := ⟨24, 4⟩
def RSV_RBT_CFG.margin_mm : Fld := ⟨0, 16⟩
/-- RSV_RBT_STAT[1..128], offset 0x0204, both view. -/
def RSV_RBT_STAT (i : Nat) : Nat := 0xE0204 + i * 0x8
def RSV_RBT_STAT.barred : Fld := ⟨31, 1⟩
def RSV_RBT_STAT.tokens : Fld := ⟨24, 4⟩
def RSV_RBT_STAT.holds : Fld := ⟨16, 8⟩
def RSV_RBT_STAT.entries : Fld := ⟨0, 16⟩

/-- The registers of RSV in offset order: first offset, array dimensions, view, fields. -/
def tabRSV0 : List RegDef :=
  [⟨0x0, [], true, false, [⟨31, 1, .wl, .val, 0⟩, ⟨21, 10, .wl, .img, 0⟩, ⟨13, 8, .wl, .img, 0⟩, ⟨3, 10, .wl, .img, 0⟩, ⟨1, 1, .wl, .img, 0⟩, ⟨0, 1, .rw, .img, 0⟩]⟩,
   ⟨0x4, [], true, false, [⟨13, 19, .wl, .img, 0⟩, ⟨0, 8, .wl, .img, 0⟩]⟩,
   ⟨0x8, [], false, false, [⟨30, 2, .ro, .val, 0⟩, ⟨24, 6, .ro, .val, 0⟩, ⟨11, 13, .ro, .val, 0⟩, ⟨0, 11, .ro, .val, 0⟩]⟩,
   ⟨0xC, [], false, false, [⟨0, 32, .ro, .val, 0⟩]⟩,
   ⟨0x10, [], false, false, [⟨13, 19, .ro, .val, 0x40000⟩]⟩,
   ⟨0x14, [], false, false, [⟨24, 8, .rwv, .val, 0⟩, ⟨16, 8, .rwv, .val, 0⟩, ⟨8, 8, .rwv, .val, 0⟩, ⟨2, 1, .w1c, .val, 0⟩, ⟨1, 1, .w1c, .val, 0⟩, ⟨0, 1, .w1c, .val, 0⟩]⟩,
   ⟨0x18, [], false, false, [⟨24, 8, .rwv, .val, 0⟩, ⟨16, 8, .rwv, .val, 0⟩, ⟨8, 8, .rwv, .val, 0⟩, ⟨3, 1, .w1c, .val, 0⟩, ⟨2, 1, .w1c, .val, 0⟩, ⟨1, 1, .w1c, .val, 0⟩, ⟨0, 1, .w1c, .val, 0⟩]⟩,
   ⟨0x1C, [], false, false, [⟨6, 1, .w1c, .val, 0⟩, ⟨5, 1, .w1c, .val, 0⟩, ⟨4, 1, .w1c, .val, 0⟩, ⟨3, 1, .w1c, .val, 0⟩, ⟨2, 1, .w1c, .val, 0⟩, ⟨1, 1, .w1c, .val, 0⟩, ⟨0, 1, .w1c, .val, 0⟩]⟩,
   ⟨0x20, [], true, false, [⟨6, 1, .rw, .val, 0⟩, ⟨5, 1, .rw, .val, 0⟩, ⟨4, 1, .rw, .val, 0⟩, ⟨3, 1, .rw, .val, 0⟩, ⟨2, 1, .rw, .val, 0⟩, ⟨1, 1, .rw, .val, 0⟩, ⟨0, 1, .rw, .val, 0⟩]⟩,
   ⟨0x24, [], false, true, [⟨5, 27, .wo, .val, 0⟩]⟩,
   ⟨0x28, [], false, false, [⟨8, 6, .wo, .val, 0⟩, ⟨0, 4, .wo, .val, 0⟩]⟩,
   ⟨0x2C, [], false, false, [⟨31, 1, .ro, .val, 0⟩, ⟨24, 3, .ro, .val, 0⟩, ⟨16, 5, .ro, .val, 0⟩, ⟨0, 16, .ro, .val, 0⟩]⟩]
def tabRSV1 : List RegDef :=
  [⟨0x30, [], true, false, [⟨31, 1, .wo, .val, 0⟩, ⟨29, 2, .wo, .val, 0⟩, ⟨28, 1, .wo, .val, 0⟩, ⟨0, 8, .wo, .val, 0⟩]⟩,
   ⟨0x34, [], false, false, [⟨0, 32, .rw, .val, 0⟩]⟩,
   ⟨0x38, [], false, false, [⟨29, 3, .ro, .val, 0⟩, ⟨16, 8, .ro, .val, 0⟩, ⟨8, 8, .ro, .val, 0⟩, ⟨0, 8, .ro, .val, 0⟩]⟩,
   ⟨0x3C, [], false, false, [⟨0, 32, .ro, .val, 0⟩]⟩,
   ⟨0x40, [], true, true, [⟨12, 20, .rw, .val, 0⟩]⟩,
   ⟨0x44, [], true, false, [⟨8, 6, .rw, .val, 0⟩, ⟨0, 4, .rw, .val, 0⟩]⟩,
   ⟨0x48, [], false, false, [⟨30, 2, .ro, .val, 0⟩, ⟨16, 8, .ro, .val, 0⟩, ⟨0, 16, .ro, .val, 0⟩]⟩,
   ⟨0x4C, [], false, false, [⟨0, 32, .ro, .val, 0⟩]⟩,
   ⟨0x50, [], true, false, [⟨31, 1, .rw, .img, 0⟩, ⟨0, 6, .rw, .img, 0⟩]⟩,
   ⟨0x100, [⟨0, 32, 0x8⟩], false, false, [⟨29, 3, .ro, .val, 0⟩, ⟨25, 4, .ro, .val, 0⟩, ⟨16, 8, .ro, .val, 0⟩, ⟨0, 16, .ro, .val, 0⟩]⟩,
   ⟨0x104, [⟨0, 32, 0x8⟩], false, false, [⟨31, 1, .ro, .val, 0⟩, ⟨30, 1, .ro, .val, 0⟩]⟩,
   ⟨0x200, [⟨1, 128, 0x8⟩], true, false, [⟨28, 4, .wl, .img, 0⟩, ⟨24, 4, .wl, .img, 0⟩, ⟨0, 16, .wl, .img, 0⟩]⟩]
def tabRSV2 : List RegDef :=
  [⟨0x204, [⟨1, 128, 0x8⟩], false, false, [⟨31, 1, .ro, .val, 0⟩, ⟨24, 4, .ro, .val, 0⟩, ⟨16, 8, .ro, .val, 0⟩, ⟨0, 16, .ro, .val, 0⟩]⟩]
/-- All registers of RSV. -/
def tabRSV : List RegDef := tabRSV0 ++ tabRSV1 ++ tabRSV2

/-! ### LTH (spec/08_lathe.md) -/

/-- LTH_CFG, offset 0x0000, privileged view. -/
def LTH_CFG : Nat := 0xF0000
def LTH_CFG.lock : Fld := ⟨31, 1⟩
def LTH_CFG.req_fifo : Fld := ⟨18, 6⟩
def LTH_CFG.kf_repeat : Fld := ⟨16, 2⟩
def LTH_CFG.rounds : Fld := ⟨12, 4⟩
def LTH_CFG.lead_min : Fld := ⟨4, 8⟩
def LTH_CFG.enable : Fld := ⟨0, 1⟩
/-- LTH_CFG2, offset 0x0004, privileged view. -/
def LTH_CFG2 : Nat := 0xF0004
def LTH_CFG2.park_ticks : Fld := ⟨0, 16⟩
/-- LTH_STAT, offset 0x0008, both view. -/
def LTH_STAT : Nat := 0xF0008
def LTH_STAT.in_flight : Fld := ⟨26, 6⟩
def LTH_STAT.active : Fld := ⟨18, 8⟩
def LTH_STAT.pending : Fld := ⟨10, 8⟩
/-- LTH_ERR, offset 0x000C, both view. -/
def LTH_ERR : Nat := 0xF000C
def LTH_ERR.refused : Fld := ⟨24, 8⟩
def LTH_ERR.exhausted : Fld := ⟨16, 8⟩
def LTH_ERR.kf_dropped : Fld := ⟨8, 8⟩
def LTH_ERR.refused_sat : Fld := ⟨2, 1⟩
def LTH_ERR.exhausted_sat : Fld := ⟨1, 1⟩
def LTH_ERR.kf_sat : Fld := ⟨0, 1⟩
/-- LTH_IRQ_STAT, offset 0x0010, both view. -/
def LTH_IRQ_STAT : Nat := 0xF0010
def LTH_IRQ_STAT.ended : Fld := ⟨4, 1⟩
def LTH_IRQ_STAT.refused : Fld := ⟨3, 1⟩
def LTH_IRQ_STAT.kf_dropped : Fld := ⟨2, 1⟩
def LTH_IRQ_STAT.exhausted : Fld := ⟨1, 1⟩
def LTH_IRQ_STAT.response : Fld := ⟨0, 1⟩
/-- LTH_IRQ_MASK, offset 0x0014, privileged view. -/
def LTH_IRQ_MASK : Nat := 0xF0014
/-- LTH_SLOT_STAT[0..47], offset 0x0100, both view. -/
def LTH_SLOT_STAT (i : Nat) : Nat := 0xF0100 + i * 0x8
def LTH_SLOT_STAT.state : Fld := ⟨29, 3⟩
def LTH_SLOT_STAT.op : Fld := ⟨26, 3⟩
def LTH_SLOT_STAT.robot : Fld := ⟨16, 8⟩
def LTH_SLOT_STAT.req_id : Fld := ⟨0, 16⟩
/-- LTH_SLOT_PROG[0..47], offset 0x0104, both view. -/
def LTH_SLOT_PROG (i : Nat) : Nat := 0xF0104 + i * 0x8
def LTH_SLOT_PROG.writing : Fld := ⟨31, 1⟩
def LTH_SLOT_PROG.committed : Fld := ⟨30, 1⟩
def LTH_SLOT_PROG.round : Fld := ⟨26, 4⟩
/-- LTH_RBT_LIM0[1..128], offset 0x0800, privileged view. -/
def LTH_RBT_LIM0 (i : Nat) : Nat := 0xF0800 + i * 0x20
def LTH_RBT_LIM0.vmax : Fld := ⟨16, 16⟩
def LTH_RBT_LIM0.amax : Fld := ⟨0, 16⟩
/-- LTH_RBT_LIM1[1..128], offset 0x0804, privileged view. -/
def LTH_RBT_LIM1 (i : Nat) : Nat := 0xF0804 + i * 0x20
def LTH_RBT_LIM1.dmax : Fld := ⟨16, 16⟩
def LTH_RBT_LIM1.jmax : Fld := ⟨0, 16⟩
/-- LTH_RBT_LIM2[1..128], offset 0x0808, privileged view. -/
def LTH_RBT_LIM2 (i : Nat) : Nat := 0xF0808 + i * 0x20
def LTH_RBT_LIM2.a_lat : Fld := ⟨16, 16⟩
/-- LTH_RBT_LIM3[1..128], offset 0x080C, privileged view. -/
def LTH_RBT_LIM3 (i : Nat) : Nat := 0xF080C + i * 0x20
def LTH_RBT_LIM3.front_mm : Fld := ⟨16, 16⟩
def LTH_RBT_LIM3.rear_mm : Fld := ⟨0, 16⟩
/-- LTH_RBT_STAT[1..128], offset 0x0810, both view. -/
def LTH_RBT_STAT (i : Nat) : Nat := 0xF0810 + i * 0x20
def LTH_RBT_STAT.active : Fld := ⟨31, 1⟩
def LTH_RBT_STAT.pending : Fld := ⟨30, 1⟩
def LTH_RBT_STAT.moving : Fld := ⟨29, 1⟩
def LTH_RBT_STAT.dwell : Fld := ⟨28, 1⟩
def LTH_RBT_STAT.element : Fld := ⟨16, 8⟩
def LTH_RBT_STAT.v : Fld := ⟨0, 16⟩
/-- LTH_RBT_TOKEN[1..128], offset 0x0814, both view. -/
def LTH_RBT_TOKEN (i : Nat) : Nat := 0xF0814 + i * 0x20
def LTH_RBT_TOKEN.token : Fld := ⟨0, 32⟩

/-- The registers of LTH in offset order: first offset, array dimensions, view, fields. -/
def tabLTH0 : List RegDef :=
  [⟨0x0, [], true, false, [⟨31, 1, .wl, .val, 0⟩, ⟨18, 6, .ro, .img, 0⟩, ⟨16, 2, .wl, .img, 0⟩, ⟨12, 4, .wl, .img, 0⟩, ⟨4, 8, .wl, .img, 0⟩, ⟨0, 1, .rw, .img, 0⟩]⟩,
   ⟨0x4, [], true, false, [⟨0, 16, .wl, .img, 0⟩]⟩,
   ⟨0x8, [], false, false, [⟨26, 6, .ro, .val, 0⟩, ⟨18, 8, .ro, .val, 0⟩, ⟨10, 8, .ro, .val, 0⟩]⟩,
   ⟨0xC, [], false, false, [⟨24, 8, .rwv, .val, 0⟩, ⟨16, 8, .rwv, .val, 0⟩, ⟨8, 8, .rwv, .val, 0⟩, ⟨2, 1, .w1c, .val, 0⟩, ⟨1, 1, .w1c, .val, 0⟩, ⟨0, 1, .w1c, .val, 0⟩]⟩,
   ⟨0x10, [], false, false, [⟨4, 1, .w1c, .val, 0⟩, ⟨3, 1, .w1c, .val, 0⟩, ⟨2, 1, .w1c, .val, 0⟩, ⟨1, 1, .w1c, .val, 0⟩, ⟨0, 1, .w1c, .val, 0⟩]⟩,
   ⟨0x14, [], true, false, [⟨4, 1, .rw, .val, 0⟩, ⟨3, 1, .rw, .val, 0⟩, ⟨2, 1, .rw, .val, 0⟩, ⟨1, 1, .rw, .val, 0⟩, ⟨0, 1, .rw, .val, 0⟩]⟩,
   ⟨0x100, [⟨0, 48, 0x8⟩], false, false, [⟨29, 3, .ro, .val, 0⟩, ⟨26, 3, .ro, .val, 0⟩, ⟨16, 8, .ro, .val, 0⟩, ⟨0, 16, .ro, .val, 0⟩]⟩,
   ⟨0x104, [⟨0, 48, 0x8⟩], false, false, [⟨31, 1, .ro, .val, 0⟩, ⟨30, 1, .ro, .val, 0⟩, ⟨26, 4, .ro, .val, 0⟩]⟩,
   ⟨0x800, [⟨1, 128, 0x20⟩], true, false, [⟨16, 16, .wl, .img, 0⟩, ⟨0, 16, .wl, .img, 0⟩]⟩,
   ⟨0x804, [⟨1, 128, 0x20⟩], true, false, [⟨16, 16, .wl, .img, 0⟩, ⟨0, 16, .wl, .img, 0⟩]⟩,
   ⟨0x808, [⟨1, 128, 0x20⟩], true, false, [⟨16, 16, .wl, .img, 0⟩]⟩,
   ⟨0x80C, [⟨1, 128, 0x20⟩], true, false, [⟨16, 16, .wl, .img, 0⟩, ⟨0, 16, .wl, .img, 0⟩]⟩]
def tabLTH1 : List RegDef :=
  [⟨0x810, [⟨1, 128, 0x20⟩], false, false, [⟨31, 1, .ro, .val, 0⟩, ⟨30, 1, .ro, .val, 0⟩, ⟨29, 1, .ro, .val, 0⟩, ⟨28, 1, .ro, .val, 0⟩, ⟨16, 8, .ro, .val, 0⟩, ⟨0, 16, .ro, .val, 0⟩]⟩,
   ⟨0x814, [⟨1, 128, 0x20⟩], false, false, [⟨0, 32, .ro, .val, 0⟩]⟩]
/-- All registers of LTH. -/
def tabLTH : List RegDef := tabLTH0 ++ tabLTH1

/-! ### AXL (spec/08_lathe.md) -/

/-- AXL_CFG, offset 0x0000, privileged view. -/
def AXL_CFG : Nat := 0x100000
def AXL_CFG.lock : Fld := ⟨31, 1⟩
def AXL_CFG.enable : Fld := ⟨0, 1⟩
/-- AXL_STAT, offset 0x0004, both view. -/
def AXL_STAT : Nat := 0x100004
def AXL_STAT.stop : Fld := ⟨31, 1⟩
def AXL_STAT.enabled : Fld := ⟨0, 16⟩
/-- AXL_ERR, offset 0x0008, both view. -/
def AXL_ERR : Nat := 0x100008
def AXL_ERR.refused : Fld := ⟨24, 8⟩
def AXL_ERR.home_fail : Fld := ⟨16, 8⟩
def AXL_ERR.limit_stop : Fld := ⟨8, 8⟩
def AXL_ERR.refused_sat : Fld := ⟨2, 1⟩
def AXL_ERR.home_sat : Fld := ⟨1, 1⟩
def AXL_ERR.limit_sat : Fld := ⟨0, 1⟩
/-- AXL_IRQ_STAT, offset 0x000C, both view. -/
def AXL_IRQ_STAT : Nat := 0x10000C
def AXL_IRQ_STAT.sync_lag : Fld := ⟨7, 1⟩
def AXL_IRQ_STAT.late : Fld := ⟨6, 1⟩
def AXL_IRQ_STAT.stop_done : Fld := ⟨5, 1⟩
def AXL_IRQ_STAT.link_fault : Fld := ⟨4, 1⟩
def AXL_IRQ_STAT.limit : Fld := ⟨3, 1⟩
def AXL_IRQ_STAT.home_fail : Fld := ⟨2, 1⟩
def AXL_IRQ_STAT.home_done : Fld := ⟨1, 1⟩
def AXL_IRQ_STAT.move_done : Fld := ⟨0, 1⟩
/-- AXL_IRQ_MASK, offset 0x0010, privileged view. -/
def AXL_IRQ_MASK : Nat := 0x100010
/-- AXL_TB_RATE[0..2], offset 0x0020, privileged view. -/
def AXL_TB_RATE (i : Nat) : Nat := 0x100020 + i * 0x4
def AXL_TB_RATE.rate : Fld := ⟨0, 32⟩
/-- AXL_LINK_CFG[0..3], offset 0x0100, privileged view. -/
def AXL_LINK_CFG (i : Nat) : Nat := 0x100100 + i * 0x10
def AXL_LINK_CFG.enable : Fld := ⟨31, 1⟩
def AXL_LINK_CFG.timeout : Fld := ⟨0, 8⟩
/-- AXL_LINK_STAT[0..3], offset 0x0104, both view. -/
def AXL_LINK_STAT (i : Nat) : Nat := 0x100104 + i * 0x10
def AXL_LINK_STAT.state : Fld := ⟨30, 2⟩
def AXL_LINK_STAT.window : Fld := ⟨26, 4⟩
def AXL_LINK_STAT.stage : Fld := ⟨24, 2⟩
/-- AXL_LINK_ERR[0..3], offset 0x0108, both view. -/
def AXL_LINK_ERR (i : Nat) : Nat := 0x100108 + i * 0x10
def AXL_LINK_ERR.crc_err : Fld := ⟨16, 16⟩
def AXL_LINK_ERR.missing : Fld := ⟨8, 8⟩
def AXL_LINK_ERR.crc_sat : Fld := ⟨1, 1⟩
def AXL_LINK_ERR.miss_sat : Fld := ⟨0, 1⟩
/-- AXL_GRP_CFG[0..3], offset 0x0200, both view. -/
def AXL_GRP_CFG (i : Nat) : Nat := 0x100200 + i * 0x10
def AXL_GRP_CFG.go : Fld := ⟨31, 1⟩
def AXL_GRP_CFG.halt : Fld := ⟨30, 1⟩
def AXL_GRP_CFG.tbase : Fld := ⟨28, 2⟩
def AXL_GRP_CFG.start : Fld := ⟨26, 2⟩
def AXL_GRP_CFG.late_policy : Fld := ⟨25, 1⟩
def AXL_GRP_CFG.mask : Fld := ⟨0, 16⟩
/-- AXL_GRP_START_LO[0..3], offset 0x0204, both view. -/
def AXL_GRP_START_LO (i : Nat) : Nat := 0x100204 + i * 0x10
def AXL_GRP_START_LO.start : Fld := ⟨0, 32⟩
/-- AXL_GRP_START_HI[0..3], offset 0x0208, both view. -/
def AXL_GRP_START_HI (i : Nat) : Nat := 0x100208 + i * 0x10
def AXL_GRP_START_HI.start : Fld := ⟨0, 32⟩
/-- AXL_GRP_STAT[0..3], offset 0x020C, both view. -/
def AXL_GRP_STAT (i : Nat) : Nat := 0x10020C + i * 0x10
def AXL_GRP_STAT.state : Fld := ⟨29, 3⟩
def AXL_GRP_STAT.late : Fld := ⟨28, 1⟩
def AXL_GRP_STAT.sync_lag : Fld := ⟨27, 1⟩
def AXL_GRP_STAT.lateness : Fld := ⟨0, 24⟩
/-- AXL_AX_CFG[0..15], offset 0x0400, privileged view. -/
def AXL_AX_CFG (i : Nat) : Nat := 0x100400 + i * 0x80
def AXL_AX_CFG.stop_mode : Fld := ⟨30, 2⟩
def AXL_AX_CFG.invert : Fld := ⟨29, 1⟩
def AXL_AX_CFG.cur_run : Fld := ⟨24, 5⟩
def AXL_AX_CFG.cur_acc : Fld := ⟨19, 5⟩
def AXL_AX_CFG.cur_hold : Fld := ⟨14, 5⟩
def AXL_AX_CFG.cur_home : Fld := ⟨9, 5⟩
def AXL_AX_CFG.hold_delay_ms : Fld := ⟨0, 9⟩
/-- AXL_AX_VMAX[0..15], offset 0x0404, privileged view. -/
def AXL_AX_VMAX (i : Nat) : Nat := 0x100404 + i * 0x80
def AXL_AX_VMAX.vmax : Fld := ⟨0, 24⟩
/-- AXL_AX_AMAX[0..15], offset 0x0408, privileged view. -/
def AXL_AX_AMAX (i : Nat) : Nat := 0x100408 + i * 0x80
def AXL_AX_AMAX.value : Fld := ⟨0, 32⟩
/-- AXL_AX_JMAX[0..15], offset 0x040C, privileged view. -/
def AXL_AX_JMAX (i : Nat) : Nat := 0x10040C + i * 0x80
def AXL_AX_JMAX.value : Fld := ⟨0, 32⟩
/-- AXL_AX_STOP_DEC[0..15], offset 0x0410, privileged view. -/
def AXL_AX_STOP_DEC (i : Nat) : Nat := 0x100410 + i * 0x80
def AXL_AX_STOP_DEC.value : Fld := ⟨0, 32⟩
/-- AXL_AX_STOP_JERK[0..15], offset 0x0414, privileged view. -/
def AXL_AX_STOP_JERK (i : Nat) : Nat := 0x100414 + i * 0x80
def AXL_AX_STOP_JERK.value : Fld := ⟨0, 32⟩
/-- AXL_AX_HOME_CFG[0..15], offset 0x0418, privileged view. -/
def AXL_AX_HOME_CFG (i : Nat) : Nat := 0x100418 + i * 0x80
def AXL_AX_HOME_CFG.method : Fld := ⟨29, 3⟩
def AXL_AX_HOME_CFG.dir : Fld := ⟨28, 1⟩
def AXL_AX_HOME_CFG.use_index : Fld := ⟨27, 1⟩
def AXL_AX_HOME_CFG.fe_thresh : Fld := ⟨16, 8⟩
def AXL_AX_HOME_CFG.fe_cycles : Fld := ⟨8, 8⟩
/-- AXL_AX_HOME_V[0..15], offset 0x041C, privileged view. -/
def AXL_AX_HOME_V (i : Nat) : Nat := 0x10041C + i * 0x80
def AXL_AX_HOME_V.value : Fld := ⟨0, 24⟩
/-- AXL_AX_HOME_DIST[0..15], offset 0x0420, privileged view. -/
def AXL_AX_HOME_DIST (i : Nat) : Nat := 0x100420 + i * 0x80
def AXL_AX_HOME_DIST.value : Fld := ⟨0, 24⟩
/-- AXL_AX_HOME_MAX[0..15], offset 0x0424, privileged view. -/
def AXL_AX_HOME_MAX (i : Nat) : Nat := 0x100424 + i * 0x80
def AXL_AX_HOME_MAX.max : Fld := ⟨0, 32⟩
/-- AXL_AX_COARSE[0..15], offset 0x0428, privileged view. -/
def AXL_AX_COARSE (i : Nat) : Nat := 0x100428 + i * 0x80
def AXL_AX_COARSE.dir_inv : Fld := ⟨16, 1⟩
def AXL_AX_COARSE.coarse_div : Fld := ⟨0, 16⟩
/-- AXL_AX_TGT_LO[0..15], offset 0x042C, both view. -/
def AXL_AX_TGT_LO (i : Nat) : Nat := 0x10042C + i * 0x80
def AXL_AX_TGT_LO.tgt_lo : Fld := ⟨0, 32⟩
/-- AXL_AX_TGT_HI[0..15], offset 0x0430, both view. -/
def AXL_AX_TGT_HI (i : Nat) : Nat := 0x100430 + i * 0x80
def AXL_AX_TGT_HI.tgt_hi : Fld := ⟨0, 16⟩
/-- AXL_AX_CMD[0..15], offset 0x0434, both view. -/
def AXL_AX_CMD (i : Nat) : Nat := 0x100434 + i * 0x80
def AXL_AX_CMD.op : Fld := ⟨0, 4⟩
/-- AXL_AX_STAT[0..15], offset 0x0438, both view. -/
def AXL_AX_STAT (i : Nat) : Nat := 0x100438 + i * 0x80
def AXL_AX_STAT.state : Fld := ⟨29, 3⟩
def AXL_AX_STAT.homed : Fld := ⟨28, 1⟩
def AXL_AX_STAT.at_target : Fld := ⟨27, 1⟩
def AXL_AX_STAT.lim_pos : Fld := ⟨26, 1⟩
def AXL_AX_STAT.lim_neg : Fld := ⟨25, 1⟩
def AXL_AX_STAT.home_in : Fld := ⟨24, 1⟩
def AXL_AX_STAT.fault : Fld := ⟨23, 1⟩
def AXL_AX_STAT.last_result : Fld := ⟨20, 3⟩
def AXL_AX_STAT.fe : Fld := ⟨12, 8⟩
/-- AXL_AX_POS_LO[0..15], offset 0x043C, both view. -/
def AXL_AX_POS_LO (i : Nat) : Nat := 0x10043C + i * 0x80
def AXL_AX_POS_LO.value : Fld := ⟨0, 32⟩
/-- AXL_AX_POS_HI[0..15], offset 0x0440, both view. -/
def AXL_AX_POS_HI (i : Nat) : Nat := 0x100440 + i * 0x80
def AXL_AX_POS_HI.value : Fld := ⟨0, 32⟩
/-- AXL_AX_LATCH_LO[0..15], offset 0x0444, both view. -/
def AXL_AX_LATCH_LO (i : Nat) : Nat := 0x100444 + i * 0x80
def AXL_AX_LATCH_LO.value : Fld := ⟨0, 32⟩
/-- AXL_AX_LATCH_HI[0..15], offset 0x0448, both view. -/
def AXL_AX_LATCH_HI (i : Nat) : Nat := 0x100448 + i * 0x80
def AXL_AX_LATCH_HI.value : Fld := ⟨0, 32⟩
/-- AXL_AX_VEL[0..15], offset 0x044C, both view. -/
def AXL_AX_VEL (i : Nat) : Nat := 0x10044C + i * 0x80
def AXL_AX_VEL.vel : Fld := ⟨0, 32⟩

/-- The registers of AXL in offset order: first offset, array dimensions, view, fields. -/
def tabAXL0 : List RegDef :=
  [⟨0x0, [], true, false, [⟨31, 1, .wl, .val, 0⟩, ⟨0, 1, .rw, .img, 0⟩]⟩,
   ⟨0x4, [], false, false, [⟨31, 1, .ro, .val, 0⟩, ⟨0, 16, .ro, .val, 0⟩]⟩,
   ⟨0x8, [], false, false, [⟨24, 8, .rwv, .val, 0⟩, ⟨16, 8, .rwv, .val, 0⟩, ⟨8, 8, .rwv, .val, 0⟩, ⟨2, 1, .w1c, .val, 0⟩, ⟨1, 1, .w1c, .val, 0⟩, ⟨0, 1, .w1c, .val, 0⟩]⟩,
   ⟨0xC, [], false, false, [⟨7, 1, .w1c, .val, 0⟩, ⟨6, 1, .w1c, .val, 0⟩, ⟨5, 1, .w1c, .val, 0⟩, ⟨4, 1, .w1c, .val, 0⟩, ⟨3, 1, .w1c, .val, 0⟩, ⟨2, 1, .w1c, .val, 0⟩, ⟨1, 1, .w1c, .val, 0⟩, ⟨0, 1, .w1c, .val, 0⟩]⟩,
   ⟨0x10, [], true, false, [⟨7, 1, .rw, .val, 0⟩, ⟨6, 1, .rw, .val, 0⟩, ⟨5, 1, .rw, .val, 0⟩, ⟨4, 1, .rw, .val, 0⟩, ⟨3, 1, .rw, .val, 0⟩, ⟨2, 1, .rw, .val, 0⟩, ⟨1, 1, .rw, .val, 0⟩, ⟨0, 1, .rw, .val, 0⟩]⟩,
   ⟨0x20, [⟨0, 3, 0x4⟩], true, false, [⟨0, 32, .wl, .img, 0⟩]⟩,
   ⟨0x100, [⟨0, 4, 0x10⟩], true, false, [⟨31, 1, .wl, .img, 0⟩, ⟨0, 8, .wl, .img, 0⟩]⟩,
   ⟨0x104, [⟨0, 4, 0x10⟩], false, false, [⟨30, 2, .ro, .val, 0⟩, ⟨26, 4, .ro, .val, 0⟩, ⟨24, 2, .ro, .val, 0⟩]⟩,
   ⟨0x108, [⟨0, 4, 0x10⟩], false, false, [⟨16, 16, .rwv, .val, 0⟩, ⟨8, 8, .rwv, .val, 0⟩, ⟨1, 1, .w1c, .val, 0⟩, ⟨0, 1, .w1c, .val, 0⟩]⟩,
   ⟨0x200, [⟨0, 4, 0x10⟩], false, false, [⟨31, 1, .wo, .val, 0⟩, ⟨30, 1, .wo, .val, 0⟩, ⟨28, 2, .rw, .val, 0⟩, ⟨26, 2, .rw, .val, 0⟩, ⟨25, 1, .rw, .val, 0⟩, ⟨0, 16, .rw, .val, 0⟩]⟩,
   ⟨0x204, [⟨0, 4, 0x10⟩], false, true, [⟨0, 32, .rw, .val, 0⟩]⟩,
   ⟨0x208, [⟨0, 4, 0x10⟩], false, false, [⟨0, 32, .rw, .val, 0⟩]⟩]
def tabAXL1 : List RegDef :=
  [⟨0x20C, [⟨0, 4, 0x10⟩], false, false, [⟨29, 3, .ro, .val, 0⟩, ⟨28, 1, .ro, .val, 0⟩, ⟨27, 1, .ro, .val, 0⟩, ⟨0, 24, .ro, .val, 0⟩]⟩,
   ⟨0x400, [⟨0, 16, 0x80⟩], true, false, [⟨30, 2, .wl, .img, 0⟩, ⟨29, 1, .wl, .img, 0⟩, ⟨24, 5, .wl, .img, 0⟩, ⟨19, 5, .wl, .img, 0⟩, ⟨14, 5, .wl, .img, 0⟩, ⟨9, 5, .wl, .img, 0⟩, ⟨0, 9, .wl, .img, 0⟩]⟩,
   ⟨0x404, [⟨0, 16, 0x80⟩], true, false, [⟨0, 24, .wl, .img, 0⟩]⟩,
   ⟨0x408, [⟨0, 16, 0x80⟩], true, false, [⟨0, 32, .wl, .img, 0⟩]⟩,
   ⟨0x40C, [⟨0, 16, 0x80⟩], true, false, [⟨0, 32, .wl, .img, 0⟩]⟩,
   ⟨0x410, [⟨0, 16, 0x80⟩], true, false, [⟨0, 32, .wl, .img, 0⟩]⟩,
   ⟨0x414, [⟨0, 16, 0x80⟩], true, false, [⟨0, 32, .wl, .img, 0⟩]⟩,
   ⟨0x418, [⟨0, 16, 0x80⟩], true, false, [⟨29, 3, .wl, .img, 0⟩, ⟨28, 1, .wl, .img, 0⟩, ⟨27, 1, .wl, .img, 0⟩, ⟨16, 8, .wl, .img, 0⟩, ⟨8, 8, .wl, .img, 0⟩]⟩,
   ⟨0x41C, [⟨0, 16, 0x80⟩], true, false, [⟨0, 24, .wl, .img, 0⟩]⟩,
   ⟨0x420, [⟨0, 16, 0x80⟩], true, false, [⟨0, 24, .wl, .img, 0⟩]⟩,
   ⟨0x424, [⟨0, 16, 0x80⟩], true, false, [⟨0, 32, .wl, .img, 0⟩]⟩,
   ⟨0x428, [⟨0, 16, 0x80⟩], true, false, [⟨16, 1, .wl, .img, 0⟩, ⟨0, 16, .wl, .img, 0⟩]⟩]
def tabAXL2 : List RegDef :=
  [⟨0x42C, [⟨0, 16, 0x80⟩], false, true, [⟨0, 32, .rw, .val, 0⟩]⟩,
   ⟨0x430, [⟨0, 16, 0x80⟩], false, false, [⟨0, 16, .rw, .val, 0⟩]⟩,
   ⟨0x434, [⟨0, 16, 0x80⟩], false, false, [⟨0, 4, .wo, .val, 0⟩]⟩,
   ⟨0x438, [⟨0, 16, 0x80⟩], false, false, [⟨29, 3, .ro, .val, 0⟩, ⟨28, 1, .ro, .val, 0⟩, ⟨27, 1, .ro, .val, 0⟩, ⟨26, 1, .ro, .val, 0⟩, ⟨25, 1, .ro, .val, 0⟩, ⟨24, 1, .ro, .val, 0⟩, ⟨23, 1, .ro, .val, 0⟩, ⟨20, 3, .ro, .val, 0⟩, ⟨12, 8, .ro, .val, 0⟩]⟩,
   ⟨0x43C, [⟨0, 16, 0x80⟩], false, true, [⟨0, 32, .ro, .val, 0⟩]⟩,
   ⟨0x440, [⟨0, 16, 0x80⟩], false, false, [⟨0, 32, .ro, .val, 0⟩]⟩,
   ⟨0x444, [⟨0, 16, 0x80⟩], false, true, [⟨0, 32, .ro, .val, 0⟩]⟩,
   ⟨0x448, [⟨0, 16, 0x80⟩], false, false, [⟨0, 32, .ro, .val, 0⟩]⟩,
   ⟨0x44C, [⟨0, 16, 0x80⟩], false, false, [⟨0, 32, .ro, .val, 0⟩]⟩]
/-- All registers of AXL. -/
def tabAXL : List RegDef := tabAXL0 ++ tabAXL1 ++ tabAXL2

end Sys2Proof.Reg
end

