-- ==== Sys2Proof/Machine/RegsC.lean ====
section
/-! DEFINITION. The register maps of the blocks RAD, STP, EQX, CAL, ETH: the word number of each register (its block window times 0x1_0000 plus its privileged-view offset, R21, R24) and the place of each field, from the register map and field tables of the chapter that governs the block. -/

namespace Sys2Proof.Reg


/-! ### RAD (spec/09_fleet_radio.md) -/

/-- RAD_CFG, offset 0x0000, privileged view. -/
def RAD_CFG : Nat := 0x110000
def RAD_CFG.lock : Fld := ⟨31, 1⟩
def RAD_CFG.listen : Fld := ⟨1, 1⟩
def RAD_CFG.enable : Fld := ⟨0, 1⟩
/-- RAD_ID, offset 0x0004, privileged view. -/
def RAD_ID : Nat := 0x110004
def RAD_ID.pan_id : Fld := ⟨16, 16⟩
def RAD_ID.short : Fld := ⟨0, 16⟩
/-- RAD_OUI, offset 0x0008, privileged view. -/
def RAD_OUI : Nat := 0x110008
def RAD_OUI.oui : Fld := ⟨0, 24⟩
/-- RAD_STAT, offset 0x000C, both view. -/
def RAD_STAT : Nat := 0x11000C
def RAD_STAT.bind_ver : Fld := ⟨16, 16⟩
def RAD_STAT.in_service : Fld := ⟨8, 8⟩
def RAD_STAT.unslotted : Fld := ⟨0, 8⟩
/-- RAD_SFNUM, offset 0x0010, both view. -/
def RAD_SFNUM : Nat := 0x110010
def RAD_SFNUM.sf_number : Fld := ⟨0, 32⟩
/-- RAD_ERR, offset 0x0014, both view. -/
def RAD_ERR : Nat := 0x110014
def RAD_ERR.auth_fail : Fld := ⟨24, 8⟩
def RAD_ERR.replay : Fld := ⟨16, 8⟩
def RAD_ERR.unknown : Fld := ⟨8, 8⟩
def RAD_ERR.auth_sat : Fld := ⟨2, 1⟩
def RAD_ERR.replay_sat : Fld := ⟨1, 1⟩
def RAD_ERR.unknown_sat : Fld := ⟨0, 1⟩
/-- RAD_ERR2, offset 0x0018, both view. -/
def RAD_ERR2 : Nat := 0x110018
def RAD_ERR2.unsupported : Fld := ⟨24, 8⟩
def RAD_ERR2.rx_dropped : Fld := ⟨16, 8⟩
def RAD_ERR2.seed : Fld := ⟨8, 8⟩
def RAD_ERR2.unsup_sat : Fld := ⟨2, 1⟩
def RAD_ERR2.rx_sat : Fld := ⟨1, 1⟩
def RAD_ERR2.seed_sat : Fld := ⟨0, 1⟩
/-- RAD_IRQ_STAT, offset 0x001C, both view. -/
def RAD_IRQ_STAT : Nat := 0x11001C
def RAD_IRQ_STAT.indirect_drop : Fld := ⟨7, 1⟩
def RAD_IRQ_STAT.binding : Fld := ⟨6, 1⟩
def RAD_IRQ_STAT.key_low : Fld := ⟨5, 1⟩
def RAD_IRQ_STAT.drift_loss : Fld := ⟨4, 1⟩
def RAD_IRQ_STAT.seed : Fld := ⟨3, 1⟩
def RAD_IRQ_STAT.auth : Fld := ⟨2, 1⟩
def RAD_IRQ_STAT.lane_retired : Fld := ⟨1, 1⟩
def RAD_IRQ_STAT.lane_fault : Fld := ⟨0, 1⟩
/-- RAD_IRQ_MASK, offset 0x0020, privileged view. -/
def RAD_IRQ_MASK : Nat := 0x110020
/-- RAD_STREAMS, offset 0x0024, privileged view. -/
def RAD_STREAMS : Nat := 0x110024
def RAD_STREAMS.rx_fifo : Fld := ⟨24, 6⟩
def RAD_STREAMS.flood_fifo : Fld := ⟨16, 6⟩
def RAD_STREAMS.flood_mask : Fld := ⟨8, 8⟩
/-- RAD_FLOOD_CFG, offset 0x0028, privileged view. -/
def RAD_FLOOD_CFG : Nat := 0x110028
def RAD_FLOOD_CFG.relay : Fld := ⟨31, 1⟩
def RAD_FLOOD_CFG.relay_mask : Fld := ⟨23, 8⟩
def RAD_FLOOD_CFG.jitter : Fld := ⟨16, 7⟩
def RAD_FLOOD_CFG.hold_ms : Fld := ⟨0, 16⟩
/-- RAD_FLOOD_STAT, offset 0x002C, both view. -/
def RAD_FLOOD_STAT : Nat := 0x11002C
def RAD_FLOOD_STAT.flood_dup : Fld := ⟨24, 8⟩
def RAD_FLOOD_STAT.evict_young : Fld := ⟨16, 8⟩
def RAD_FLOOD_STAT.dup_sat : Fld := ⟨1, 1⟩
def RAD_FLOOD_STAT.evict_sat : Fld := ⟨0, 1⟩
/-- RAD_FLOOD_ID, offset 0x0030, both view. -/
def RAD_FLOOD_ID : Nat := 0x110030
def RAD_FLOOD_ID.next_id : Fld := ⟨0, 16⟩
/-- RAD_SLEEPY_CFG, offset 0x0034, privileged view. -/
def RAD_SLEEPY_CFG : Nat := 0x110034
def RAD_SLEEPY_CFG.hold_s : Fld := ⟨24, 8⟩
def RAD_SLEEPY_CFG.per_nb : Fld := ⟨16, 3⟩
/-- RAD_IND_STAT, offset 0x0038, both view. -/
def RAD_IND_STAT : Nat := 0x110038
def RAD_IND_STAT.held : Fld := ⟨22, 10⟩
def RAD_IND_STAT.drop_sat : Fld := ⟨21, 1⟩
def RAD_IND_STAT.drift_sat : Fld := ⟨20, 1⟩
def RAD_IND_STAT.indirect_drop : Fld := ⟨8, 8⟩
def RAD_IND_STAT.drift_loss : Fld := ⟨0, 8⟩
/-- RAD_RDV_CFG, offset 0x003C, privileged view. -/
def RAD_RDV_CFG : Nat := 0x11003C
def RAD_RDV_CFG.enable : Fld := ⟨31, 1⟩
def RAD_RDV_CFG.lane_mask : Fld := ⟨23, 8⟩
def RAD_RDV_CFG.period_s : Fld := ⟨0, 16⟩
/-- RAD_RDV_CFG2, offset 0x0040, privileged view. -/
def RAD_RDV_CFG2 : Nat := 0x110040
def RAD_RDV_CFG2.window_ms : Fld := ⟨16, 16⟩
def RAD_RDV_CFG2.guard : Fld := ⟨0, 16⟩
/-- RAD_LANE_CFG[0..7], offset 0x0100, privileged view. -/
def RAD_LANE_CFG (i : Nat) : Nat := 0x110100 + i * 0x40
def RAD_LANE_CFG.enable : Fld := ⟨31, 1⟩
def RAD_LANE_CFG.fallback : Fld := ⟨27, 3⟩
def RAD_LANE_CFG.rate_kbps : Fld := ⟨16, 10⟩
def RAD_LANE_CFG.sck_div : Fld := ⟨0, 6⟩
/-- RAD_LANE_TIME[0..7], offset 0x0104, privileged view. -/
def RAD_LANE_TIME (i : Nat) : Nat := 0x110104 + i * 0x40
def RAD_LANE_TIME.tx_lat : Fld := ⟨16, 16⟩
def RAD_LANE_TIME.shr_us : Fld := ⟨6, 10⟩
def RAD_LANE_TIME.guard_us : Fld := ⟨0, 6⟩
/-- RAD_LANE_ACK[0..7], offset 0x0108, privileged view. -/
def RAD_LANE_ACK (i : Nat) : Nat := 0x110108 + i * 0x40
def RAD_LANE_ACK.ack_us : Fld := ⟨22, 10⟩
def RAD_LANE_ACK.ack_wait : Fld := ⟨12, 10⟩
def RAD_LANE_ACK.ack_skipped : Fld := ⟨4, 8⟩
def RAD_LANE_ACK.skip_sat : Fld := ⟨3, 1⟩
/-- RAD_LANE_SF[0..7], offset 0x010C, privileged view. -/
def RAD_LANE_SF (i : Nat) : Nat := 0x11010C + i * 0x40
def RAD_LANE_SF.aux_div : Fld := ⟨24, 8⟩
def RAD_LANE_SF.beacon_cells : Fld := ⟨16, 8⟩
def RAD_LANE_SF.mark_cells : Fld := ⟨8, 8⟩
/-- RAD_LANE_DL[0..7], offset 0x0110, privileged view. -/
def RAD_LANE_DL (i : Nat) : Nat := 0x110110 + i * 0x40
def RAD_LANE_DL.start : Fld := ⟨16, 9⟩
def RAD_LANE_DL.cells : Fld := ⟨0, 9⟩
/-- RAD_LANE_DL_AUX[0..7], offset 0x0114, privileged view. -/
def RAD_LANE_DL_AUX (i : Nat) : Nat := 0x110114 + i * 0x40
def RAD_LANE_DL_AUX.start : Fld := ⟨16, 9⟩
def RAD_LANE_DL_AUX.cells : Fld := ⟨0, 9⟩
/-- RAD_LANE_FIFO[0..7], offset 0x0118, privileged view. -/
def RAD_LANE_FIFO (i : Nat) : Nat := 0x110118 + i * 0x40
def RAD_LANE_FIFO.tx_track : Fld := ⟨16, 6⟩
def RAD_LANE_FIFO.tx_echo : Fld := ⟨8, 6⟩
def RAD_LANE_FIFO.tx_data : Fld := ⟨0, 6⟩
/-- RAD_LANE_EUI_LO[0..7], offset 0x011C, privileged view. -/
def RAD_LANE_EUI_LO (i : Nat) : Nat := 0x11011C + i * 0x40
def RAD_LANE_EUI_LO.eui : Fld := ⟨0, 32⟩
/-- RAD_LANE_EUI_HI[0..7], offset 0x0120, privileged view. -/
def RAD_LANE_EUI_HI (i : Nat) : Nat := 0x110120 + i * 0x40
def RAD_LANE_EUI_HI.eui : Fld := ⟨0, 32⟩
/-- RAD_LANE_STAT[0..7], offset 0x0124, both view. -/
def RAD_LANE_STAT (i : Nat) : Nat := 0x110124 + i * 0x40
def RAD_LANE_STAT.state : Fld := ⟨30, 2⟩
def RAD_LANE_STAT.window : Fld := ⟨26, 4⟩
def RAD_LANE_STAT.consec : Fld := ⟨24, 2⟩
def RAD_LANE_STAT.in_flight : Fld := ⟨20, 4⟩
def RAD_LANE_STAT.robots : Fld := ⟨0, 5⟩
/-- RAD_LANE_ERR[0..7], offset 0x0128, both view. -/
def RAD_LANE_ERR (i : Nat) : Nat := 0x110128 + i * 0x40
def RAD_LANE_ERR.tx_fail : Fld := ⟨24, 8⟩
def RAD_LANE_ERR.if_err : Fld := ⟨16, 8⟩
def RAD_LANE_ERR.cca_busy : Fld := ⟨8, 8⟩
def RAD_LANE_ERR.tx_sat : Fld := ⟨2, 1⟩
def RAD_LANE_ERR.if_sat : Fld := ⟨1, 1⟩
def RAD_LANE_ERR.cca_sat : Fld := ⟨0, 1⟩
/-- RAD_LANE_DROP[0..7], offset 0x012C, both view. -/
def RAD_LANE_DROP (i : Nat) : Nat := 0x11012C + i * 0x40
def RAD_LANE_DROP.tok_dropped : Fld := ⟨24, 8⟩
def RAD_LANE_DROP.tok_aborted : Fld := ⟨16, 8⟩
def RAD_LANE_DROP.bad_tx : Fld := ⟨8, 8⟩
def RAD_LANE_DROP.dropped_sat : Fld := ⟨2, 1⟩
def RAD_LANE_DROP.aborted_sat : Fld := ⟨1, 1⟩
def RAD_LANE_DROP.bad_sat : Fld := ⟨0, 1⟩
/-- RAD_LANE_TXCNT[0..7], offset 0x0130, both view. -/
def RAD_LANE_TXCNT (i : Nat) : Nat := 0x110130 + i * 0x40
def RAD_LANE_TXCNT.frames : Fld := ⟨4, 28⟩
def RAD_LANE_TXCNT.wraps : Fld := ⟨1, 3⟩
def RAD_LANE_TXCNT.wrap : Fld := ⟨0, 1⟩
/-- RAD_LANE_RXCNT[0..7], offset 0x0134, both view. -/
def RAD_LANE_RXCNT (i : Nat) : Nat := 0x110134 + i * 0x40
def RAD_LANE_RXCNT.frames : Fld := ⟨4, 28⟩
def RAD_LANE_RXCNT.wraps : Fld := ⟨1, 3⟩
def RAD_LANE_RXCNT.wrap : Fld := ⟨0, 1⟩
/-- RAD_LANE_BCTR[0..7], offset 0x0138, both view. -/
def RAD_LANE_BCTR (i : Nat) : Nat := 0x110138 + i * 0x40
def RAD_LANE_BCTR.counter : Fld := ⟨0, 32⟩
/-- RAD_SLOT[0..7][0..15], offset 0x0400, privileged view. -/
def RAD_SLOT (i : Nat) (j : Nat) : Nat := 0x110400 + i * 0x100 + j * 0x8
def RAD_SLOT.robot : Fld := ⟨24, 8⟩
def RAD_SLOT.start : Fld := ⟨8, 9⟩
def RAD_SLOT.cells : Fld := ⟨0, 8⟩
/-- RAD_SLOT_AUX[0..7][0..15], offset 0x0404, privileged view. -/
def RAD_SLOT_AUX (i : Nat) (j : Nat) : Nat := 0x110404 + i * 0x100 + j * 0x8
def RAD_SLOT_AUX.start : Fld := ⟨8, 9⟩
def RAD_SLOT_AUX.cells : Fld := ⟨0, 8⟩
/-- RAD_NB_CFG[0..511], offset 0x4000, privileged view. -/
def RAD_NB_CFG (i : Nat) : Nat := 0x114000 + i * 0x20
def RAD_NB_CFG.valid : Fld := ⟨31, 1⟩
def RAD_NB_CFG.kind : Fld := ⟨29, 2⟩
def RAD_NB_CFG.sleepy : Fld := ⟨28, 1⟩
def RAD_NB_CFG.joined : Fld := ⟨27, 1⟩
def RAD_NB_CFG.lane : Fld := ⟨24, 3⟩
def RAD_NB_CFG.rdv_miss : Fld := ⟨22, 2⟩
def RAD_NB_CFG.short : Fld := ⟨0, 16⟩
/-- RAD_NB_EUI_LO[0..511], offset 0x4004, privileged view. -/
def RAD_NB_EUI_LO (i : Nat) : Nat := 0x114004 + i * 0x20
def RAD_NB_EUI_LO.eui : Fld := ⟨0, 32⟩
/-- RAD_NB_EUI_HI[0..511], offset 0x4008, privileged view. -/
def RAD_NB_EUI_HI (i : Nat) : Nat := 0x114008 + i * 0x20
def RAD_NB_EUI_HI.eui : Fld := ⟨0, 32⟩
/-- RAD_NB_RXCTR[0..511], offset 0x400C, privileged view. -/
def RAD_NB_RXCTR (i : Nat) : Nat := 0x11400C + i * 0x20
def RAD_NB_RXCTR.c_max : Fld := ⟨0, 32⟩
/-- RAD_NB_TXCTR[0..511], offset 0x4010, privileged view. -/
def RAD_NB_TXCTR (i : Nat) : Nat := 0x114010 + i * 0x20
def RAD_NB_TXCTR.tx_ctr : Fld := ⟨0, 32⟩
/-- RAD_NB_SEQ[0..511], offset 0x4014, privileged view. -/
def RAD_NB_SEQ (i : Nat) : Nat := 0x114014 + i * 0x20
def RAD_NB_SEQ.rx_last : Fld := ⟨24, 8⟩
def RAD_NB_SEQ.tx_next : Fld := ⟨16, 8⟩
/-- RAD_NB_LINK[0..511], offset 0x4018, privileged view. -/
def RAD_NB_LINK (i : Nat) : Nat := 0x114018 + i * 0x20
def RAD_NB_LINK.lost : Fld := ⟨16, 16⟩
def RAD_NB_LINK.rssi : Fld := ⟨8, 8⟩
def RAD_NB_LINK.lqi : Fld := ⟨0, 8⟩
/-- RAD_NB_CNT[0..511], offset 0x401C, privileged view. -/
def RAD_NB_CNT (i : Nat) : Nat := 0x11401C + i * 0x20
def RAD_NB_CNT.dup : Fld := ⟨24, 8⟩
def RAD_NB_CNT.replay : Fld := ⟨16, 8⟩
def RAD_NB_CNT.retries : Fld := ⟨8, 8⟩
def RAD_NB_CNT.dup_sat : Fld := ⟨2, 1⟩
def RAD_NB_CNT.replay_sat : Fld := ⟨1, 1⟩
def RAD_NB_CNT.retry_sat : Fld := ⟨0, 1⟩

/-- The registers of RAD in offset order: first offset, array dimensions, view, fields. -/
def tabRAD0 : List RegDef :=
  [⟨0x0, [], true, false, [⟨31, 1, .wl, .val, 0⟩, ⟨1, 1, .ro, .val, 1⟩, ⟨0, 1, .rw, .img, 0⟩]⟩,
   ⟨0x4, [], true, false, [⟨16, 16, .wl, .img, 0⟩, ⟨0, 16, .wl, .img, 0⟩]⟩,
   ⟨0x8, [], true, false, [⟨0, 24, .wl, .img, 0⟩]⟩,
   ⟨0xC, [], false, false, [⟨16, 16, .ro, .val, 0⟩, ⟨8, 8, .ro, .img, 0⟩, ⟨0, 8, .ro, .val, 0⟩]⟩,
   ⟨0x10, [], false, false, [⟨0, 32, .ro, .val, 0⟩]⟩,
   ⟨0x14, [], false, false, [⟨24, 8, .rwv, .val, 0⟩, ⟨16, 8, .rwv, .val, 0⟩, ⟨8, 8, .rwv, .val, 0⟩, ⟨2, 1, .w1c, .val, 0⟩, ⟨1, 1, .w1c, .val, 0⟩, ⟨0, 1, .w1c, .val, 0⟩]⟩,
   ⟨0x18, [], false, false, [⟨24, 8, .rwv, .val, 0⟩, ⟨16, 8, .rwv, .val, 0⟩, ⟨8, 8, .rwv, .val, 0⟩, ⟨2, 1, .w1c, .val, 0⟩, ⟨1, 1, .w1c, .val, 0⟩, ⟨0, 1, .w1c, .val, 0⟩]⟩,
   ⟨0x1C, [], false, false, [⟨7, 1, .w1c, .val, 0⟩, ⟨6, 1, .w1c, .val, 0⟩, ⟨5, 1, .w1c, .val, 0⟩, ⟨4, 1, .w1c, .val, 0⟩, ⟨3, 1, .w1c, .val, 0⟩, ⟨2, 1, .w1c, .val, 0⟩, ⟨1, 1, .w1c, .val, 0⟩, ⟨0, 1, .w1c, .val, 0⟩]⟩,
   ⟨0x20, [], true, false, [⟨7, 1, .rw, .val, 0⟩, ⟨6, 1, .rw, .val, 0⟩, ⟨5, 1, .rw, .val, 0⟩, ⟨4, 1, .rw, .val, 0⟩, ⟨3, 1, .rw, .val, 0⟩, ⟨2, 1, .rw, .val, 0⟩, ⟨1, 1, .rw, .val, 0⟩, ⟨0, 1, .rw, .val, 0⟩]⟩,
   ⟨0x24, [], true, false, [⟨24, 6, .ro, .img, 0⟩, ⟨16, 6, .ro, .img, 0⟩, ⟨8, 8, .wl, .img, 0⟩]⟩,
   ⟨0x28, [], true, false, [⟨31, 1, .rw, .img, 0⟩, ⟨23, 8, .wl, .img, 0⟩, ⟨16, 7, .wl, .img, 0⟩, ⟨0, 16, .wl, .img, 0⟩]⟩,
   ⟨0x2C, [], false, false, [⟨24, 8, .rwv, .val, 0⟩, ⟨16, 8, .rwv, .val, 0⟩, ⟨1, 1, .w1c, .val, 0⟩, ⟨0, 1, .w1c, .val, 0⟩]⟩]
def tabRAD1 : List RegDef :=
  [⟨0x30, [], false, false, [⟨0, 16, .ro, .val, 0⟩]⟩,
   ⟨0x34, [], true, false, [⟨24, 8, .wl, .img, 0⟩, ⟨16, 3, .wl, .img, 0⟩]⟩,
   ⟨0x38, [], false, false, [⟨22, 10, .ro, .val, 0⟩, ⟨21, 1, .w1c, .val, 0⟩, ⟨20, 1, .w1c, .val, 0⟩, ⟨8, 8, .rwv, .val, 0⟩, ⟨0, 8, .rwv, .val, 0⟩]⟩,
   ⟨0x3C, [], true, false, [⟨31, 1, .rw, .img, 0⟩, ⟨23, 8, .wl, .img, 0⟩, ⟨0, 16, .wl, .img, 0⟩]⟩,
   ⟨0x40, [], true, false, [⟨16, 16, .wl, .img, 0⟩, ⟨0, 16, .wl, .img, 0⟩]⟩,
   ⟨0x100, [⟨0, 8, 0x40⟩], true, false, [⟨31, 1, .wl, .img, 0⟩, ⟨27, 3, .wl, .img, 0⟩, ⟨16, 10, .wl, .img, 0⟩, ⟨0, 6, .wl, .img, 0⟩]⟩,
   ⟨0x104, [⟨0, 8, 0x40⟩], true, false, [⟨16, 16, .wl, .img, 0⟩, ⟨6, 10, .wl, .img, 0⟩, ⟨0, 6, .wl, .img, 0⟩]⟩,
   ⟨0x108, [⟨0, 8, 0x40⟩], true, false, [⟨22, 10, .wl, .img, 0⟩, ⟨12, 10, .wl, .img, 0⟩, ⟨4, 8, .rwv, .val, 0⟩, ⟨3, 1, .w1c, .val, 0⟩]⟩,
   ⟨0x10C, [⟨0, 8, 0x40⟩], true, false, [⟨24, 8, .wl, .img, 0⟩, ⟨16, 8, .wl, .img, 0⟩, ⟨8, 8, .wl, .img, 0⟩]⟩,
   ⟨0x110, [⟨0, 8, 0x40⟩], true, false, [⟨16, 9, .wl, .img, 0⟩, ⟨0, 9, .wl, .img, 0⟩]⟩,
   ⟨0x114, [⟨0, 8, 0x40⟩], true, false, [⟨16, 9, .wl, .img, 0⟩, ⟨0, 9, .wl, .img, 0⟩]⟩,
   ⟨0x118, [⟨0, 8, 0x40⟩], true, false, [⟨16, 6, .ro, .img, 0⟩, ⟨8, 6, .ro, .img, 0⟩, ⟨0, 6, .ro, .img, 0⟩]⟩]
def tabRAD2 : List RegDef :=
  [⟨0x11C, [⟨0, 8, 0x40⟩], true, true, [⟨0, 32, .ro, .img, 0⟩]⟩,
   ⟨0x120, [⟨0, 8, 0x40⟩], true, false, [⟨0, 32, .ro, .img, 0⟩]⟩,
   ⟨0x124, [⟨0, 8, 0x40⟩], false, false, [⟨30, 2, .ro, .val, 0⟩, ⟨26, 4, .ro, .val, 0⟩, ⟨24, 2, .ro, .val, 0⟩, ⟨20, 4, .ro, .val, 0⟩, ⟨0, 5, .ro, .val, 0⟩]⟩,
   ⟨0x128, [⟨0, 8, 0x40⟩], false, false, [⟨24, 8, .rwv, .val, 0⟩, ⟨16, 8, .rwv, .val, 0⟩, ⟨8, 8, .rwv, .val, 0⟩, ⟨2, 1, .w1c, .val, 0⟩, ⟨1, 1, .w1c, .val, 0⟩, ⟨0, 1, .w1c, .val, 0⟩]⟩,
   ⟨0x12C, [⟨0, 8, 0x40⟩], false, false, [⟨24, 8, .rwv, .val, 0⟩, ⟨16, 8, .rwv, .val, 0⟩, ⟨8, 8, .rwv, .val, 0⟩, ⟨2, 1, .w1c, .val, 0⟩, ⟨1, 1, .w1c, .val, 0⟩, ⟨0, 1, .w1c, .val, 0⟩]⟩,
   ⟨0x130, [⟨0, 8, 0x40⟩], false, false, [⟨4, 28, .ro, .val, 0⟩, ⟨1, 3, .ro, .val, 0⟩, ⟨0, 1, .w1c, .val, 0⟩]⟩,
   ⟨0x134, [⟨0, 8, 0x40⟩], false, false, [⟨4, 28, .ro, .val, 0⟩, ⟨1, 3, .ro, .val, 0⟩, ⟨0, 1, .w1c, .val, 0⟩]⟩,
   ⟨0x138, [⟨0, 8, 0x40⟩], false, false, [⟨0, 32, .ro, .val, 0⟩]⟩,
   ⟨0x400, [⟨0, 8, 0x100⟩, ⟨0, 16, 0x8⟩], true, false, [⟨24, 8, .wl, .img, 0⟩, ⟨8, 9, .wl, .img, 0⟩, ⟨0, 8, .wl, .img, 0⟩]⟩,
   ⟨0x404, [⟨0, 8, 0x100⟩, ⟨0, 16, 0x8⟩], true, false, [⟨8, 9, .wl, .img, 0⟩, ⟨0, 8, .wl, .img, 0⟩]⟩,
   ⟨0x4000, [⟨0, 512, 0x20⟩], true, false, [⟨31, 1, .rwv, .val, 0⟩, ⟨29, 2, .rw, .val, 0⟩, ⟨28, 1, .rw, .val, 0⟩, ⟨27, 1, .rwv, .val, 0⟩, ⟨24, 3, .rwv, .val, 0⟩, ⟨22, 2, .ro, .val, 0⟩, ⟨0, 16, .rw, .val, 0⟩]⟩,
   ⟨0x4004, [⟨0, 512, 0x20⟩], true, true, [⟨0, 32, .rw, .val, 0⟩]⟩]
def tabRAD3 : List RegDef :=
  [⟨0x4008, [⟨0, 512, 0x20⟩], true, false, [⟨0, 32, .rw, .val, 0⟩]⟩,
   ⟨0x400C, [⟨0, 512, 0x20⟩], true, false, [⟨0, 32, .rwv, .val, 0⟩]⟩,
   ⟨0x4010, [⟨0, 512, 0x20⟩], true, false, [⟨0, 32, .rwv, .val, 0⟩]⟩,
   ⟨0x4014, [⟨0, 512, 0x20⟩], true, false, [⟨24, 8, .rwv, .val, 0⟩, ⟨16, 8, .rwv, .val, 0⟩]⟩,
   ⟨0x4018, [⟨0, 512, 0x20⟩], true, false, [⟨16, 16, .rwv, .val, 0⟩, ⟨8, 8, .ro, .val, 0⟩, ⟨0, 8, .ro, .val, 0⟩]⟩,
   ⟨0x401C, [⟨0, 512, 0x20⟩], true, false, [⟨24, 8, .rwv, .val, 0⟩, ⟨16, 8, .rwv, .val, 0⟩, ⟨8, 8, .rwv, .val, 0⟩, ⟨2, 1, .w1c, .val, 0⟩, ⟨1, 1, .w1c, .val, 0⟩, ⟨0, 1, .w1c, .val, 0⟩]⟩]
/-- All registers of RAD. -/
def tabRAD : List RegDef := tabRAD0 ++ tabRAD1 ++ tabRAD2 ++ tabRAD3

/-! ### STP (spec/10_stop_and_equinox.md) -/

/-- STP_CFG, offset 0x0000, privileged view. -/
def STP_CFG : Nat := 0x120000
def STP_CFG.lock : Fld := ⟨31, 1⟩
def STP_CFG.open_stop : Fld := ⟨30, 1⟩
def STP_CFG.ttl : Fld := ⟨24, 4⟩
def STP_CFG.hold_s : Fld := ⟨16, 8⟩
def STP_CFG.filt : Fld := ⟨8, 8⟩
def STP_CFG.rel : Fld := ⟨0, 8⟩
/-- STP_CFG2, offset 0x0004, privileged view. -/
def STP_CFG2 : Nat := 0x120004
def STP_CFG2.stop_min_ms : Fld := ⟨16, 16⟩
def STP_CFG2.out_delay_ms : Fld := ⟨8, 8⟩
def STP_CFG2.test_s : Fld := ⟨0, 8⟩
/-- STP_SRC_CFG, offset 0x0008, privileged view. -/
def STP_SRC_CFG : Nat := 0x120008
def STP_SRC_CFG.stopa_en : Fld := ⟨31, 1⟩
def STP_SRC_CFG.stopb_en : Fld := ⟨30, 1⟩
def STP_SRC_CFG.host_en : Fld := ⟨29, 1⟩
def STP_SRC_CFG.pendant_fleet : Fld := ⟨28, 1⟩
def STP_SRC_CFG.pendant_tgt : Fld := ⟨27, 1⟩
def STP_SRC_CFG.base_fleet : Fld := ⟨26, 1⟩
def STP_SRC_CFG.robot_self : Fld := ⟨25, 1⟩
def STP_SRC_CFG.disc_ms : Fld := ⟨8, 8⟩
/-- STP_CTRL, offset 0x000C, privileged view. -/
def STP_CTRL : Nat := 0x12000C
def STP_CTRL.arm : Fld := ⟨31, 1⟩
def STP_CTRL.self_test : Fld := ⟨30, 1⟩
/-- STP_STAT, offset 0x0010, both view. -/
def STP_STAT : Nat := 0x120010
def STP_STAT.state : Fld := ⟨30, 2⟩
def STP_STAT.reason : Fld := ⟨26, 4⟩
def STP_STAT.hold : Fld := ⟨25, 1⟩
def STP_STAT.targeted : Fld := ⟨16, 8⟩
def STP_STAT.stop_id : Fld := ⟨0, 16⟩
/-- STP_SRC_STAT, offset 0x0014, both view. -/
def STP_SRC_STAT : Nat := 0x120014
def STP_SRC_STAT.latched : Fld := ⟨16, 16⟩
def STP_SRC_STAT.asserting : Fld := ⟨0, 16⟩
/-- STP_PINS, offset 0x0018, both view. -/
def STP_PINS : Nat := 0x120018
def STP_PINS.disc_b : Fld := ⟨13, 1⟩
def STP_PINS.disc_a : Fld := ⟨12, 1⟩
def STP_PINS.stop_in : Fld := ⟨8, 4⟩
def STP_PINS.readback : Fld := ⟨4, 4⟩
def STP_PINS.active : Fld := ⟨0, 4⟩
/-- STP_ERR, offset 0x001C, both view. -/
def STP_ERR : Nat := 0x12001C
def STP_ERR.auth_fail : Fld := ⟨24, 8⟩
def STP_ERR.readback : Fld := ⟨16, 8⟩
def STP_ERR.disc : Fld := ⟨8, 8⟩
def STP_ERR.auth_sat : Fld := ⟨2, 1⟩
def STP_ERR.rb_sat : Fld := ⟨1, 1⟩
def STP_ERR.disc_sat : Fld := ⟨0, 1⟩
/-- STP_IRQ_STAT, offset 0x0020, both view. -/
def STP_IRQ_STAT : Nat := 0x120020
def STP_IRQ_STAT.selftest_fail : Fld := ⟨7, 1⟩
def STP_IRQ_STAT.key_low : Fld := ⟨6, 1⟩
def STP_IRQ_STAT.discrepancy : Fld := ⟨5, 1⟩
def STP_IRQ_STAT.readback : Fld := ⟨4, 1⟩
def STP_IRQ_STAT.auth_fail : Fld := ⟨3, 1⟩
def STP_IRQ_STAT.release : Fld := ⟨2, 1⟩
def STP_IRQ_STAT.targeted : Fld := ⟨1, 1⟩
def STP_IRQ_STAT.stop : Fld := ⟨0, 1⟩
/-- STP_IRQ_MASK, offset 0x0024, privileged view. -/
def STP_IRQ_MASK : Nat := 0x120024
/-- STP_CMD_ARG, offset 0x0028, both view. -/
def STP_CMD_ARG : Nat := 0x120028
def STP_CMD_ARG.kind : Fld := ⟨30, 2⟩
def STP_CMD_ARG.robot : Fld := ⟨8, 8⟩
/-- STP_CMD_CTR, offset 0x002C, both view. -/
def STP_CMD_CTR : Nat := 0x12002C
def STP_CMD_CTR.ctr : Fld := ⟨0, 32⟩
/-- STP_CMD_TAG_LO, offset 0x0030, both view. -/
def STP_CMD_TAG_LO : Nat := 0x120030
def STP_CMD_TAG_LO.tag : Fld := ⟨0, 32⟩
/-- STP_CMD_TAG_HI, offset 0x0034, both view. -/
def STP_CMD_TAG_HI : Nat := 0x120034
def STP_CMD_TAG_HI.tag : Fld := ⟨0, 32⟩
/-- STP_CMD_RES, offset 0x0038, both view. -/
def STP_CMD_RES : Nat := 0x120038
def STP_CMD_RES.busy : Fld := ⟨31, 1⟩
def STP_CMD_RES.result : Fld := ⟨28, 3⟩
def STP_CMD_RES.blocking : Fld := ⟨24, 4⟩
def STP_CMD_RES.last_ctr : Fld := ⟨0, 24⟩
/-- STP_FLOOD_ID, offset 0x003C, both view. -/
def STP_FLOOD_ID : Nat := 0x12003C
def STP_FLOOD_ID.next_id : Fld := ⟨0, 16⟩
/-- STP_LANE_CTR[0..7], offset 0x0040, both view. -/
def STP_LANE_CTR (i : Nat) : Nat := 0x120040 + i * 0x4
def STP_LANE_CTR.counter : Fld := ⟨0, 32⟩
/-- STP_TGT[0..3], offset 0x0060, both view. -/
def STP_TGT (i : Nat) : Nat := 0x120060 + i * 0x4
def STP_TGT.robots : Fld := ⟨0, 32⟩
/-- STP_OUT_CFG[0..3], offset 0x0070, privileged view. -/
def STP_OUT_CFG (i : Nat) : Nat := 0x120070 + i * 0x4
def STP_OUT_CFG.enable : Fld := ⟨31, 1⟩
def STP_OUT_CFG.polarity : Fld := ⟨30, 1⟩
def STP_OUT_CFG.pulse_us : Fld := ⟨8, 8⟩
def STP_OUT_CFG.pulse_period : Fld := ⟨0, 8⟩
/-- STP_EVT, offset 0x0080, both view. -/
def STP_EVT : Nat := 0x120080
def STP_EVT.t_ms : Fld := ⟨0, 32⟩

/-- The registers of STP in offset order: first offset, array dimensions, view, fields. -/
def tabSTP0 : List RegDef :=
  [⟨0x0, [], true, false, [⟨31, 1, .wl, .val, 0⟩, ⟨30, 1, .wl, .img, 0⟩, ⟨24, 4, .wl, .img, 0⟩, ⟨16, 8, .wl, .img, 0⟩, ⟨8, 8, .wl, .img, 0⟩, ⟨0, 8, .wl, .img, 0⟩]⟩,
   ⟨0x4, [], true, false, [⟨16, 16, .wl, .img, 0⟩, ⟨8, 8, .wl, .img, 0⟩, ⟨0, 8, .wl, .img, 0⟩]⟩,
   ⟨0x8, [], true, false, [⟨31, 1, .ro, .img, 0⟩, ⟨30, 1, .wl, .img, 0⟩, ⟨29, 1, .wl, .img, 0⟩, ⟨28, 1, .wl, .img, 0⟩, ⟨27, 1, .wl, .img, 0⟩, ⟨26, 1, .wl, .img, 0⟩, ⟨25, 1, .wl, .img, 0⟩, ⟨8, 8, .wl, .img, 0⟩]⟩,
   ⟨0xC, [], true, false, [⟨31, 1, .wo, .val, 0⟩, ⟨30, 1, .wo, .val, 0⟩]⟩,
   ⟨0x10, [], false, false, [⟨30, 2, .ro, .val, 0⟩, ⟨26, 4, .ro, .val, 0⟩, ⟨25, 1, .ro, .val, 0⟩, ⟨16, 8, .ro, .val, 0⟩, ⟨0, 16, .ro, .val, 0⟩]⟩,
   ⟨0x14, [], false, false, [⟨16, 16, .ro, .val, 1⟩, ⟨0, 16, .ro, .val, 0⟩]⟩,
   ⟨0x18, [], false, false, [⟨13, 1, .ro, .val, 0⟩, ⟨12, 1, .ro, .val, 0⟩, ⟨8, 4, .ro, .val, 0⟩, ⟨4, 4, .ro, .val, 0⟩, ⟨0, 4, .ro, .val, 0⟩]⟩,
   ⟨0x1C, [], false, false, [⟨24, 8, .rwv, .val, 0⟩, ⟨16, 8, .rwv, .val, 0⟩, ⟨8, 8, .rwv, .val, 0⟩, ⟨2, 1, .w1c, .val, 0⟩, ⟨1, 1, .w1c, .val, 0⟩, ⟨0, 1, .w1c, .val, 0⟩]⟩,
   ⟨0x20, [], false, false, [⟨7, 1, .w1c, .val, 0⟩, ⟨6, 1, .w1c, .val, 0⟩, ⟨5, 1, .w1c, .val, 0⟩, ⟨4, 1, .w1c, .val, 0⟩, ⟨3, 1, .w1c, .val, 0⟩, ⟨2, 1, .w1c, .val, 0⟩, ⟨1, 1, .w1c, .val, 0⟩, ⟨0, 1, .w1c, .val, 0⟩]⟩,
   ⟨0x24, [], true, false, [⟨7, 1, .rw, .val, 0⟩, ⟨6, 1, .rw, .val, 0⟩, ⟨5, 1, .rw, .val, 0⟩, ⟨4, 1, .rw, .val, 0⟩, ⟨3, 1, .rw, .val, 0⟩, ⟨2, 1, .rw, .val, 0⟩, ⟨1, 1, .rw, .val, 0⟩, ⟨0, 1, .rw, .val, 0⟩]⟩,
   ⟨0x28, [], false, false, [⟨30, 2, .rw, .val, 0⟩, ⟨8, 8, .rw, .val, 0⟩]⟩,
   ⟨0x2C, [], false, false, [⟨0, 32, .rw, .val, 0⟩]⟩]
def tabSTP1 : List RegDef :=
  [⟨0x30, [], false, true, [⟨0, 32, .wo, .val, 0⟩]⟩,
   ⟨0x34, [], false, false, [⟨0, 32, .wo, .val, 0⟩]⟩,
   ⟨0x38, [], false, false, [⟨31, 1, .ro, .val, 0⟩, ⟨28, 3, .ro, .val, 0⟩, ⟨24, 4, .ro, .val, 0⟩, ⟨0, 24, .ro, .val, 0⟩]⟩,
   ⟨0x3C, [], false, false, [⟨0, 16, .ro, .val, 0x8000⟩]⟩,
   ⟨0x40, [⟨0, 8, 0x4⟩], false, false, [⟨0, 32, .ro, .val, 0⟩]⟩,
   ⟨0x60, [⟨0, 4, 0x4⟩], false, false, [⟨0, 32, .ro, .val, 0⟩]⟩,
   ⟨0x70, [⟨0, 4, 0x4⟩], true, false, [⟨31, 1, .wl, .img, 0⟩, ⟨30, 1, .wl, .img, 0⟩, ⟨8, 8, .wl, .img, 0⟩, ⟨0, 8, .wl, .img, 0⟩]⟩,
   ⟨0x80, [], false, false, [⟨0, 32, .ro, .val, 0⟩]⟩]
/-- All registers of STP. -/
def tabSTP : List RegDef := tabSTP0 ++ tabSTP1

/-! ### EQX (spec/10_stop_and_equinox.md) -/

/-- EQX_CFG, offset 0x0000, privileged view. -/
def EQX_CFG : Nat := 0x130000
def EQX_CFG.lock : Fld := ⟨31, 1⟩
def EQX_CFG.pair : Fld := ⟨28, 3⟩
def EQX_CFG.unit : Fld := ⟨27, 1⟩
def EQX_CFG.paired : Fld := ⟨26, 1⟩
def EQX_CFG.allow_diff : Fld := ⟨25, 1⟩
def EQX_CFG.ckpt_div : Fld := ⟨8, 8⟩
/-- EQX_STAT, offset 0x0004, both view. -/
def EQX_STAT : Nat := 0x130004
def EQX_STAT.role : Fld := ⟨30, 2⟩
def EQX_STAT.hold : Fld := ⟨29, 1⟩
def EQX_STAT.sense : Fld := ⟨28, 1⟩
def EQX_STAT.ready : Fld := ⟨27, 1⟩
def EQX_STAT.mirror_ok : Fld := ⟨26, 1⟩
def EQX_STAT.peer_ready : Fld := ⟨25, 1⟩
def EQX_STAT.interlock_fault : Fld := ⟨24, 1⟩
def EQX_STAT.peer_role : Fld := ⟨22, 2⟩
def EQX_STAT.hb_seq : Fld := ⟨0, 16⟩
/-- EQX_CTRL, offset 0x0008, privileged view. -/
def EQX_CTRL : Nat := 0x130008
def EQX_CTRL.handover : Fld := ⟨31, 1⟩
def EQX_CTRL.resync : Fld := ⟨30, 1⟩
def EQX_CTRL.clear_fault : Fld := ⟨29, 1⟩
/-- EQX_WDOG, offset 0x000C, privileged view. -/
def EQX_WDOG : Nat := 0x13000C
def EQX_WDOG.wdog_ms : Fld := ⟨0, 8⟩
/-- EQX_LINK, offset 0x0010, both view. -/
def EQX_LINK : Nat := 0x130010
def EQX_LINK.state : Fld := ⟨30, 2⟩
def EQX_LINK.missed : Fld := ⟨16, 2⟩
/-- EQX_MIRROR, offset 0x0014, both view. -/
def EQX_MIRROR : Nat := 0x130014
def EQX_MIRROR.lag_us : Fld := ⟨16, 16⟩
def EQX_MIRROR.queued : Fld := ⟨0, 16⟩
/-- EQX_TAKEOVER, offset 0x0018, both view. -/
def EQX_TAKEOVER : Nat := 0x130018
def EQX_TAKEOVER.cold : Fld := ⟨31, 1⟩
def EQX_TAKEOVER.detect_to_mark_us : Fld := ⟨0, 24⟩
/-- EQX_ERR, offset 0x001C, both view. -/
def EQX_ERR : Nat := 0x13001C
def EQX_ERR.hb_lost : Fld := ⟨24, 8⟩
def EQX_ERR.auth_fail : Fld := ⟨16, 8⟩
def EQX_ERR.compare_fail : Fld := ⟨8, 8⟩
def EQX_ERR.hb_sat : Fld := ⟨2, 1⟩
def EQX_ERR.auth_sat : Fld := ⟨1, 1⟩
def EQX_ERR.cmp_sat : Fld := ⟨0, 1⟩
/-- EQX_IRQ_STAT, offset 0x0020, both view. -/
def EQX_IRQ_STAT : Nat := 0x130020
def EQX_IRQ_STAT.peer_joined : Fld := ⟨7, 1⟩
def EQX_IRQ_STAT.not_ready : Fld := ⟨6, 1⟩
def EQX_IRQ_STAT.compare_fail : Fld := ⟨5, 1⟩
def EQX_IRQ_STAT.interlock_fault : Fld := ⟨4, 1⟩
def EQX_IRQ_STAT.mirror_lost : Fld := ⟨3, 1⟩
def EQX_IRQ_STAT.peer_lost : Fld := ⟨2, 1⟩
def EQX_IRQ_STAT.handover_done : Fld := ⟨1, 1⟩
def EQX_IRQ_STAT.takeover : Fld := ⟨0, 1⟩
/-- EQX_IRQ_MASK, offset 0x0024, privileged view. -/
def EQX_IRQ_MASK : Nat := 0x130024
/-- EQX_DIFF, offset 0x0028, both view. -/
def EQX_DIFF : Nat := 0x130028
def EQX_DIFF.diff : Fld := ⟨0, 9⟩
/-- EQX_LAST_GAP, offset 0x002C, both view. -/
def EQX_LAST_GAP : Nat := 0x13002C
def EQX_LAST_GAP.gap : Fld := ⟨0, 32⟩
/-- EQX_PEER_HEALTH, offset 0x0030, both view. -/
def EQX_PEER_HEALTH : Nat := 0x130030
def EQX_PEER_HEALTH.tiles : Fld := ⟨29, 3⟩
def EQX_PEER_HEALTH.lanes : Fld := ⟨21, 8⟩
def EQX_PEER_HEALTH.channels : Fld := ⟨11, 10⟩
def EQX_PEER_HEALTH.floor : Fld := ⟨10, 1⟩
def EQX_PEER_HEALTH.selftest_ok : Fld := ⟨9, 1⟩
/-- EQX_PEER_HASH[0..8], offset 0x0040, both view. -/
def EQX_PEER_HASH (i : Nat) : Nat := 0x130040 + i * 0x4
def EQX_PEER_HASH.hash_head : Fld := ⟨0, 32⟩

/-- The registers of EQX in offset order: first offset, array dimensions, view, fields. -/
def tabEQX0 : List RegDef :=
  [⟨0x0, [], true, false, [⟨31, 1, .wl, .val, 0⟩, ⟨28, 3, .ro, .img, 0⟩, ⟨27, 1, .ro, .img, 0⟩, ⟨26, 1, .ro, .img, 0⟩, ⟨25, 1, .rw, .val, 0⟩, ⟨8, 8, .wl, .img, 0⟩]⟩,
   ⟨0x4, [], false, false, [⟨30, 2, .ro, .val, 0⟩, ⟨29, 1, .ro, .val, 0⟩, ⟨28, 1, .ro, .val, 0⟩, ⟨27, 1, .ro, .val, 0⟩, ⟨26, 1, .ro, .val, 0⟩, ⟨25, 1, .ro, .val, 0⟩, ⟨24, 1, .ro, .val, 0⟩, ⟨22, 2, .ro, .val, 0⟩, ⟨0, 16, .ro, .val, 0⟩]⟩,
   ⟨0x8, [], true, false, [⟨31, 1, .wo, .val, 0⟩, ⟨30, 1, .wo, .val, 0⟩, ⟨29, 1, .wo, .val, 0⟩]⟩,
   ⟨0xC, [], true, false, [⟨0, 8, .wl, .img, 0⟩]⟩,
   ⟨0x10, [], false, false, [⟨30, 2, .ro, .val, 0⟩, ⟨16, 2, .ro, .val, 0⟩]⟩,
   ⟨0x14, [], false, false, [⟨16, 16, .ro, .val, 0⟩, ⟨0, 16, .ro, .val, 0⟩]⟩,
   ⟨0x18, [], false, false, [⟨31, 1, .ro, .val, 0⟩, ⟨0, 24, .ro, .val, 0⟩]⟩,
   ⟨0x1C, [], false, false, [⟨24, 8, .rwv, .val, 0⟩, ⟨16, 8, .rwv, .val, 0⟩, ⟨8, 8, .rwv, .val, 0⟩, ⟨2, 1, .w1c, .val, 0⟩, ⟨1, 1, .w1c, .val, 0⟩, ⟨0, 1, .w1c, .val, 0⟩]⟩,
   ⟨0x20, [], false, false, [⟨7, 1, .w1c, .val, 0⟩, ⟨6, 1, .w1c, .val, 0⟩, ⟨5, 1, .w1c, .val, 0⟩, ⟨4, 1, .w1c, .val, 0⟩, ⟨3, 1, .w1c, .val, 0⟩, ⟨2, 1, .w1c, .val, 0⟩, ⟨1, 1, .w1c, .val, 0⟩, ⟨0, 1, .w1c, .val, 0⟩]⟩,
   ⟨0x24, [], true, false, [⟨7, 1, .rw, .val, 0⟩, ⟨6, 1, .rw, .val, 0⟩, ⟨5, 1, .rw, .val, 0⟩, ⟨4, 1, .rw, .val, 0⟩, ⟨3, 1, .rw, .val, 0⟩, ⟨2, 1, .rw, .val, 0⟩, ⟨1, 1, .rw, .val, 0⟩, ⟨0, 1, .rw, .val, 0⟩]⟩,
   ⟨0x28, [], false, false, [⟨0, 9, .ro, .val, 0⟩]⟩,
   ⟨0x2C, [], false, false, [⟨0, 32, .ro, .val, 0⟩]⟩]
def tabEQX1 : List RegDef :=
  [⟨0x30, [], false, false, [⟨29, 3, .ro, .val, 0⟩, ⟨21, 8, .ro, .val, 0⟩, ⟨11, 10, .ro, .val, 0⟩, ⟨10, 1, .ro, .val, 0⟩, ⟨9, 1, .ro, .val, 0⟩]⟩,
   ⟨0x40, [⟨0, 9, 0x4⟩], false, false, [⟨0, 32, .ro, .val, 0⟩]⟩]
/-- All registers of EQX. -/
def tabEQX : List RegDef := tabEQX0 ++ tabEQX1

/-! ### CAL (spec/11_calends.md) -/

/-- CAL_CFG, offset 0x0000, privileged view. -/
def CAL_CFG : Nat := 0x140000
def CAL_CFG.lock : Fld := ⟨31, 1⟩
def CAL_CFG.source : Fld := ⟨26, 2⟩
def CAL_CFG.servo_hw : Fld := ⟨25, 1⟩
def CAL_CFG.hold_ppb : Fld := ⟨0, 16⟩
/-- CAL_STAT, offset 0x0004, both view. -/
def CAL_STAT : Nat := 0x140004
def CAL_STAT.state : Fld := ⟨29, 3⟩
def CAL_STAT.slewing : Fld := ⟨28, 1⟩
def CAL_STAT.clock_class : Fld := ⟨8, 8⟩
/-- CAL_CTRL, offset 0x0008, privileged view. -/
def CAL_CTRL : Nat := 0x140008
def CAL_CTRL.unset : Fld := ⟨31, 1⟩
/-- CAL_TIME_NS, offset 0x000C, both view. -/
def CAL_TIME_NS : Nat := 0x14000C
def CAL_TIME_NS.ns : Fld := ⟨0, 30⟩
/-- CAL_TIME_S_LO, offset 0x0010, both view. -/
def CAL_TIME_S_LO : Nat := 0x140010
def CAL_TIME_S_LO.sec_lo : Fld := ⟨0, 32⟩
/-- CAL_TIME_S_HI, offset 0x0014, both view. -/
def CAL_TIME_S_HI : Nat := 0x140014
def CAL_TIME_S_HI.sec_hi : Fld := ⟨0, 16⟩
/-- CAL_INC_FRAC, offset 0x0018, privileged view. -/
def CAL_INC_FRAC : Nat := 0x140018
def CAL_INC_FRAC.frac : Fld := ⟨0, 32⟩
/-- CAL_INC_INT, offset 0x001C, privileged view. -/
def CAL_INC_INT : Nat := 0x14001C
def CAL_INC_INT.ns : Fld := ⟨0, 4⟩
/-- CAL_STEP_LO, offset 0x0020, privileged view. -/
def CAL_STEP_LO : Nat := 0x140020
def CAL_STEP_LO.offset : Fld := ⟨0, 32⟩
/-- CAL_STEP_HI, offset 0x0024, privileged view. -/
def CAL_STEP_HI : Nat := 0x140024
def CAL_STEP_HI.offset : Fld := ⟨0, 32⟩
/-- CAL_SERVO, offset 0x0028, privileged view. -/
def CAL_SERVO : Nat := 0x140028
def CAL_SERVO.kp : Fld := ⟨28, 4⟩
def CAL_SERVO.ki : Fld := ⟨24, 4⟩
/-- CAL_OFS, offset 0x002C, both view. -/
def CAL_OFS : Nat := 0x14002C
def CAL_OFS.valid : Fld := ⟨31, 1⟩
def CAL_OFS.offset : Fld := ⟨0, 31⟩
/-- CAL_OFS_IN, offset 0x0030, privileged view. -/
def CAL_OFS_IN : Nat := 0x140030
def CAL_OFS_IN.offset : Fld := ⟨0, 32⟩
/-- CAL_UNC, offset 0x0034, both view. -/
def CAL_UNC : Nat := 0x140034
def CAL_UNC.unc_ns : Fld := ⟨0, 32⟩
/-- CAL_SLEEP_LO, offset 0x0038, both view. -/
def CAL_SLEEP_LO : Nat := 0x140038
def CAL_SLEEP_LO.count_lo : Fld := ⟨0, 32⟩
/-- CAL_SLEEP_HI, offset 0x003C, both view. -/
def CAL_SLEEP_HI : Nat := 0x14003C
def CAL_SLEEP_HI.count_hi : Fld := ⟨0, 16⟩
/-- CAL_ERR, offset 0x0040, both view. -/
def CAL_ERR : Nat := 0x140040
def CAL_ERR.tsq_overflow : Fld := ⟨24, 8⟩
def CAL_ERR.step_refused : Fld := ⟨16, 8⟩
def CAL_ERR.inc_clamp : Fld := ⟨8, 8⟩
def CAL_ERR.tsq_sat : Fld := ⟨2, 1⟩
def CAL_ERR.step_sat : Fld := ⟨1, 1⟩
def CAL_ERR.clamp_sat : Fld := ⟨0, 1⟩
/-- CAL_IRQ_STAT, offset 0x0044, both view. -/
def CAL_IRQ_STAT : Nat := 0x140044
def CAL_IRQ_STAT.trig_late : Fld := ⟨6, 1⟩
def CAL_IRQ_STAT.trig_fired : Fld := ⟨5, 1⟩
def CAL_IRQ_STAT.tsq_overflow : Fld := ⟨4, 1⟩
def CAL_IRQ_STAT.tsq_ready : Fld := ⟨3, 1⟩
def CAL_IRQ_STAT.holdover : Fld := ⟨2, 1⟩
def CAL_IRQ_STAT.tracking : Fld := ⟨1, 1⟩
def CAL_IRQ_STAT.step : Fld := ⟨0, 1⟩
/-- CAL_IRQ_MASK, offset 0x0048, privileged view. -/
def CAL_IRQ_MASK : Nat := 0x140048
/-- CAL_TSQ_ID, offset 0x004C, both view. -/
def CAL_TSQ_ID : Nat := 0x14004C
def CAL_TSQ_ID.valid : Fld := ⟨31, 1⟩
def CAL_TSQ_ID.port : Fld := ⟨26, 2⟩
def CAL_TSQ_ID.msg_type : Fld := ⟨20, 4⟩
def CAL_TSQ_ID.seq_id : Fld := ⟨0, 16⟩
/-- CAL_TSQ_NS, offset 0x0050, both view. -/
def CAL_TSQ_NS : Nat := 0x140050
def CAL_TSQ_NS.ns : Fld := ⟨0, 30⟩
/-- CAL_TSQ_S, offset 0x0054, both view. -/
def CAL_TSQ_S : Nat := 0x140054
def CAL_TSQ_S.sec : Fld := ⟨0, 32⟩
/-- CAL_ENC_CFG[0..1], offset 0x0060, privileged view. -/
def CAL_ENC_CFG (i : Nat) : Nat := 0x140060 + i * 0x10
def CAL_ENC_CFG.enable : Fld := ⟨31, 1⟩
def CAL_ENC_CFG.invert : Fld := ⟨30, 1⟩
def CAL_ENC_CFG.filt : Fld := ⟨8, 8⟩
/-- CAL_ENC_CNT_LO[0..1], offset 0x0064, both view. -/
def CAL_ENC_CNT_LO (i : Nat) : Nat := 0x140064 + i * 0x10
def CAL_ENC_CNT_LO.count : Fld := ⟨0, 32⟩
/-- CAL_ENC_CNT_HI[0..1], offset 0x0068, both view. -/
def CAL_ENC_CNT_HI (i : Nat) : Nat := 0x140068 + i * 0x10
def CAL_ENC_CNT_HI.count : Fld := ⟨0, 32⟩
/-- CAL_ENC_ERR[0..1], offset 0x006C, both view. -/
def CAL_ENC_ERR (i : Nat) : Nat := 0x14006C + i * 0x10
def CAL_ENC_ERR.illegal : Fld := ⟨16, 16⟩
def CAL_ENC_ERR.illegal_sat : Fld := ⟨0, 1⟩
/-- CAL_MAINS_LO, offset 0x0080, both view. -/
def CAL_MAINS_LO : Nat := 0x140080
def CAL_MAINS_LO.count_lo : Fld := ⟨0, 32⟩
/-- CAL_MAINS_HI, offset 0x0084, both view. -/
def CAL_MAINS_HI : Nat := 0x140084
def CAL_MAINS_HI.valid : Fld := ⟨31, 1⟩
def CAL_MAINS_HI.count_hi : Fld := ⟨0, 31⟩
/-- CAL_TRIG_CFG[0..15], offset 0x0100, both view. -/
def CAL_TRIG_CFG (i : Nat) : Nat := 0x140100 + i * 0x20
def CAL_TRIG_CFG.go : Fld := ⟨31, 1⟩
def CAL_TRIG_CFG.cancel : Fld := ⟨30, 1⟩
def CAL_TRIG_CFG.axis : Fld := ⟨28, 2⟩
def CAL_TRIG_CFG.class : Fld := ⟨27, 1⟩
def CAL_TRIG_CFG.scale : Fld := ⟨26, 1⟩
def CAL_TRIG_CFG.late_policy : Fld := ⟨25, 1⟩
def CAL_TRIG_CFG.dir : Fld := ⟨24, 1⟩
def CAL_TRIG_CFG.target : Fld := ⟨20, 4⟩
def CAL_TRIG_CFG.polarity : Fld := ⟨16, 1⟩
def CAL_TRIG_CFG.width : Fld := ⟨0, 16⟩
/-- CAL_TRIG_START_LO[0..15], offset 0x0104, both view. -/
def CAL_TRIG_START_LO (i : Nat) : Nat := 0x140104 + i * 0x20
def CAL_TRIG_START_LO.start : Fld := ⟨0, 32⟩
/-- CAL_TRIG_START_HI[0..15], offset 0x0108, both view. -/
def CAL_TRIG_START_HI (i : Nat) : Nat := 0x140108 + i * 0x20
def CAL_TRIG_START_HI.start : Fld := ⟨0, 32⟩
/-- CAL_TRIG_PERIOD[0..15], offset 0x010C, both view. -/
def CAL_TRIG_PERIOD (i : Nat) : Nat := 0x14010C + i * 0x20
def CAL_TRIG_PERIOD.period : Fld := ⟨0, 32⟩
/-- CAL_TRIG_STAT[0..15], offset 0x0110, both view. -/
def CAL_TRIG_STAT (i : Nat) : Nat := 0x140110 + i * 0x20
def CAL_TRIG_STAT.state : Fld := ⟨29, 3⟩
def CAL_TRIG_STAT.late : Fld := ⟨28, 1⟩
def CAL_TRIG_STAT.reason : Fld := ⟨26, 2⟩
def CAL_TRIG_STAT.missed : Fld := ⟨16, 8⟩
def CAL_TRIG_STAT.fires : Fld := ⟨0, 16⟩
/-- CAL_TRIG_LATE_LO[0..15], offset 0x0114, both view. -/
def CAL_TRIG_LATE_LO (i : Nat) : Nat := 0x140114 + i * 0x20
def CAL_TRIG_LATE_LO.value : Fld := ⟨0, 32⟩
/-- CAL_TRIG_LATE_HI[0..15], offset 0x0118, both view. -/
def CAL_TRIG_LATE_HI (i : Nat) : Nat := 0x140118 + i * 0x20
def CAL_TRIG_LATE_HI.value : Fld := ⟨0, 32⟩

/-- The registers of CAL in offset order: first offset, array dimensions, view, fields. -/
def tabCAL0 : List RegDef :=
  [⟨0x0, [], true, false, [⟨31, 1, .wl, .val, 0⟩, ⟨26, 2, .wl, .img, 0⟩, ⟨25, 1, .wl, .img, 0⟩, ⟨0, 16, .wl, .img, 0⟩]⟩,
   ⟨0x4, [], false, false, [⟨29, 3, .ro, .val, 0⟩, ⟨28, 1, .ro, .val, 0⟩, ⟨8, 8, .ro, .val, 0xf8⟩]⟩,
   ⟨0x8, [], true, false, [⟨31, 1, .wo, .val, 0⟩]⟩,
   ⟨0xC, [], false, false, [⟨0, 30, .ro, .val, 0⟩]⟩,
   ⟨0x10, [], false, false, [⟨0, 32, .ro, .val, 0⟩]⟩,
   ⟨0x14, [], false, false, [⟨0, 16, .ro, .val, 0⟩]⟩,
   ⟨0x18, [], true, true, [⟨0, 32, .rw, .val, 0⟩]⟩,
   ⟨0x1C, [], true, false, [⟨0, 4, .rw, .val, 8⟩]⟩,
   ⟨0x20, [], true, true, [⟨0, 32, .wo, .val, 0⟩]⟩,
   ⟨0x24, [], true, false, [⟨0, 32, .wo, .val, 0⟩]⟩,
   ⟨0x28, [], true, false, [⟨28, 4, .wl, .img, 0⟩, ⟨24, 4, .wl, .img, 0⟩]⟩,
   ⟨0x2C, [], false, false, [⟨31, 1, .ro, .val, 0⟩, ⟨0, 31, .ro, .val, 0⟩]⟩]
def tabCAL1 : List RegDef :=
  [⟨0x30, [], true, false, [⟨0, 32, .wo, .val, 0⟩]⟩,
   ⟨0x34, [], false, false, [⟨0, 32, .ro, .val, 0xffffffff⟩]⟩,
   ⟨0x38, [], false, true, [⟨0, 32, .ro, .val, 0⟩]⟩,
   ⟨0x3C, [], false, false, [⟨0, 16, .ro, .val, 0⟩]⟩,
   ⟨0x40, [], false, false, [⟨24, 8, .rwv, .val, 0⟩, ⟨16, 8, .rwv, .val, 0⟩, ⟨8, 8, .rwv, .val, 0⟩, ⟨2, 1, .w1c, .val, 0⟩, ⟨1, 1, .w1c, .val, 0⟩, ⟨0, 1, .w1c, .val, 0⟩]⟩,
   ⟨0x44, [], false, false, [⟨6, 1, .w1c, .val, 0⟩, ⟨5, 1, .w1c, .val, 0⟩, ⟨4, 1, .w1c, .val, 0⟩, ⟨3, 1, .w1c, .val, 0⟩, ⟨2, 1, .w1c, .val, 0⟩, ⟨1, 1, .w1c, .val, 0⟩, ⟨0, 1, .w1c, .val, 0⟩]⟩,
   ⟨0x48, [], true, false, [⟨6, 1, .rw, .val, 0⟩, ⟨5, 1, .rw, .val, 0⟩, ⟨4, 1, .rw, .val, 0⟩, ⟨3, 1, .rw, .val, 0⟩, ⟨2, 1, .rw, .val, 0⟩, ⟨1, 1, .rw, .val, 0⟩, ⟨0, 1, .rw, .val, 0⟩]⟩,
   ⟨0x4C, [], false, false, [⟨31, 1, .ro, .val, 0⟩, ⟨26, 2, .ro, .val, 0⟩, ⟨20, 4, .ro, .val, 0⟩, ⟨0, 16, .ro, .val, 0⟩]⟩,
   ⟨0x50, [], false, false, [⟨0, 30, .ro, .val, 0⟩]⟩,
   ⟨0x54, [], false, false, [⟨0, 32, .ro, .val, 0⟩]⟩,
   ⟨0x60, [⟨0, 2, 0x10⟩], true, false, [⟨31, 1, .wl, .img, 0⟩, ⟨30, 1, .wl, .img, 0⟩, ⟨8, 8, .wl, .img, 0⟩]⟩,
   ⟨0x64, [⟨0, 2, 0x10⟩], false, true, [⟨0, 32, .ro, .val, 0⟩]⟩]
def tabCAL2 : List RegDef :=
  [⟨0x68, [⟨0, 2, 0x10⟩], false, false, [⟨0, 32, .ro, .val, 0⟩]⟩,
   ⟨0x6C, [⟨0, 2, 0x10⟩], false, false, [⟨16, 16, .rwv, .val, 0⟩, ⟨0, 1, .w1c, .val, 0⟩]⟩,
   ⟨0x80, [], false, true, [⟨0, 32, .ro, .val, 0⟩]⟩,
   ⟨0x84, [], false, false, [⟨31, 1, .ro, .val, 0⟩, ⟨0, 31, .ro, .val, 0⟩]⟩,
   ⟨0x100, [⟨0, 16, 0x20⟩], false, false, [⟨31, 1, .wo, .val, 0⟩, ⟨30, 1, .wo, .val, 0⟩, ⟨28, 2, .rw, .val, 0⟩, ⟨27, 1, .rw, .val, 0⟩, ⟨26, 1, .rw, .val, 0⟩, ⟨25, 1, .rw, .val, 0⟩, ⟨24, 1, .rw, .val, 0⟩, ⟨20, 4, .rw, .val, 0⟩, ⟨16, 1, .rw, .val, 0⟩, ⟨0, 16, .rw, .val, 0⟩]⟩,
   ⟨0x104, [⟨0, 16, 0x20⟩], false, true, [⟨0, 32, .rw, .val, 0⟩]⟩,
   ⟨0x108, [⟨0, 16, 0x20⟩], false, false, [⟨0, 32, .rw, .val, 0⟩]⟩,
   ⟨0x10C, [⟨0, 16, 0x20⟩], false, false, [⟨0, 32, .rw, .val, 0⟩]⟩,
   ⟨0x110, [⟨0, 16, 0x20⟩], false, false, [⟨29, 3, .ro, .val, 0⟩, ⟨28, 1, .ro, .val, 0⟩, ⟨26, 2, .ro, .val, 0⟩, ⟨16, 8, .ro, .val, 0⟩, ⟨0, 16, .ro, .val, 0⟩]⟩,
   ⟨0x114, [⟨0, 16, 0x20⟩], false, true, [⟨0, 32, .ro, .val, 0⟩]⟩,
   ⟨0x118, [⟨0, 16, 0x20⟩], false, false, [⟨0, 32, .ro, .val, 0⟩]⟩]
/-- All registers of CAL. -/
def tabCAL : List RegDef := tabCAL0 ++ tabCAL1 ++ tabCAL2

/-! ### ETH (spec/11_calends.md) -/

/-- ETH_CFG, offset 0x0000, privileged view. -/
def ETH_CFG : Nat := 0x150000
def ETH_CFG.lock : Fld := ⟨31, 1⟩
def ETH_CFG.switch : Fld := ⟨16, 1⟩
def ETH_CFG.stop_etype : Fld := ⟨0, 16⟩
/-- ETH_STAT, offset 0x0004, both view. -/
def ETH_STAT : Nat := 0x150004
def ETH_STAT.ring : Fld := ⟨30, 2⟩
def ETH_STAT.breaks_sat : Fld := ⟨8, 1⟩
def ETH_STAT.breaks : Fld := ⟨0, 8⟩
/-- ETH_MAC_LO, offset 0x0008, privileged view. -/
def ETH_MAC_LO : Nat := 0x150008
def ETH_MAC_LO.mac_lo : Fld := ⟨0, 32⟩
/-- ETH_MAC_HI, offset 0x000C, privileged view. -/
def ETH_MAC_HI : Nat := 0x15000C
def ETH_MAC_HI.mac_hi : Fld := ⟨0, 16⟩
/-- ETH_IP, offset 0x0010, privileged view. -/
def ETH_IP : Nat := 0x150010
def ETH_IP.addr : Fld := ⟨0, 32⟩
/-- ETH_PTP_CFG, offset 0x0014, privileged view. -/
def ETH_PTP_CFG : Nat := 0x150014
def ETH_PTP_CFG.oc_en : Fld := ⟨31, 1⟩
def ETH_PTP_CFG.tc_en : Fld := ⟨30, 1⟩
def ETH_PTP_CFG.p2p : Fld := ⟨29, 1⟩
def ETH_PTP_CFG.one_step : Fld := ⟨28, 1⟩
def ETH_PTP_CFG.slave_only : Fld := ⟨27, 1⟩
def ETH_PTP_CFG.domain : Fld := ⟨16, 8⟩
def ETH_PTP_CFG.priority1 : Fld := ⟨8, 8⟩
def ETH_PTP_CFG.priority2 : Fld := ⟨0, 8⟩
/-- ETH_RING, offset 0x0018, privileged view. -/
def ETH_RING : Nat := 0x150018
def ETH_RING.enable : Fld := ⟨31, 1⟩
def ETH_RING.master : Fld := ⟨30, 1⟩
/-- ETH_STREAMS, offset 0x001C, privileged view. -/
def ETH_STREAMS : Nat := 0x15001C
def ETH_STREAMS.rx_fifo : Fld := ⟨24, 6⟩
def ETH_STREAMS.tx_fifo : Fld := ⟨16, 6⟩
def ETH_STREAMS.stop_fifo : Fld := ⟨8, 6⟩
def ETH_STREAMS.rtcm_fifo : Fld := ⟨0, 6⟩
/-- ETH_RTCM_MAC_LO, offset 0x0020, privileged view. -/
def ETH_RTCM_MAC_LO : Nat := 0x150020
def ETH_RTCM_MAC_LO.mac : Fld := ⟨0, 32⟩
/-- ETH_RTCM_MAC_HI, offset 0x0024, privileged view. -/
def ETH_RTCM_MAC_HI : Nat := 0x150024
def ETH_RTCM_MAC_HI.mac : Fld := ⟨0, 16⟩
/-- ETH_RTCM_IP, offset 0x0028, privileged view. -/
def ETH_RTCM_IP : Nat := 0x150028
def ETH_RTCM_IP.addr : Fld := ⟨0, 32⟩
/-- ETH_RTCM_PORT, offset 0x002C, privileged view. -/
def ETH_RTCM_PORT : Nat := 0x15002C
def ETH_RTCM_PORT.dst_port : Fld := ⟨16, 16⟩
def ETH_RTCM_PORT.pcp : Fld := ⟨13, 3⟩
def ETH_RTCM_PORT.tagged : Fld := ⟨12, 1⟩
def ETH_RTCM_PORT.vid : Fld := ⟨0, 12⟩
/-- ETH_IRQ_STAT, offset 0x0030, both view. -/
def ETH_IRQ_STAT : Nat := 0x150030
def ETH_IRQ_STAT.stop_frame : Fld := ⟨4, 1⟩
def ETH_IRQ_STAT.ring_change : Fld := ⟨3, 1⟩
def ETH_IRQ_STAT.link_down : Fld := ⟨2, 1⟩
def ETH_IRQ_STAT.link_up : Fld := ⟨1, 1⟩
def ETH_IRQ_STAT.drop : Fld := ⟨0, 1⟩
/-- ETH_IRQ_MASK, offset 0x0034, privileged view. -/
def ETH_IRQ_MASK : Nat := 0x150034
/-- ETH_PORT_CFG[0..2], offset 0x0100, privileged view. -/
def ETH_PORT_CFG (i : Nat) : Nat := 0x150100 + i * 0x20
def ETH_PORT_CFG.enable : Fld := ⟨31, 1⟩
def ETH_PORT_CFG.ring : Fld := ⟨30, 1⟩
def ETH_PORT_CFG.pvid : Fld := ⟨0, 12⟩
/-- ETH_PORT_STAT[0..2], offset 0x0104, both view. -/
def ETH_PORT_STAT (i : Nat) : Nat := 0x150104 + i * 0x20
def ETH_PORT_STAT.link : Fld := ⟨30, 2⟩
def ETH_PORT_STAT.blocked : Fld := ⟨29, 1⟩
def ETH_PORT_STAT.path_delay : Fld := ⟨0, 24⟩
/-- ETH_PORT_ERR[0..2], offset 0x0108, both view. -/
def ETH_PORT_ERR (i : Nat) : Nat := 0x150108 + i * 0x20
def ETH_PORT_ERR.fcs_err : Fld := ⟨24, 8⟩
def ETH_PORT_ERR.drop : Fld := ⟨16, 8⟩
def ETH_PORT_ERR.ptp_err : Fld := ⟨8, 8⟩
def ETH_PORT_ERR.fcs_sat : Fld := ⟨2, 1⟩
def ETH_PORT_ERR.drop_sat : Fld := ⟨1, 1⟩
def ETH_PORT_ERR.ptp_sat : Fld := ⟨0, 1⟩
/-- ETH_PORT_TXO_LO[0..2], offset 0x010C, both view. -/
def ETH_PORT_TXO_LO (i : Nat) : Nat := 0x15010C + i * 0x20
def ETH_PORT_TXO_LO.octets_lo : Fld := ⟨0, 32⟩
/-- ETH_PORT_TXO_HI[0..2], offset 0x0110, both view. -/
def ETH_PORT_TXO_HI (i : Nat) : Nat := 0x150110 + i * 0x20
def ETH_PORT_TXO_HI.wrap : Fld := ⟨31, 1⟩
def ETH_PORT_TXO_HI.wraps : Fld := ⟨24, 7⟩
def ETH_PORT_TXO_HI.octets_hi : Fld := ⟨0, 16⟩
/-- ETH_PORT_RXO_LO[0..2], offset 0x0114, both view. -/
def ETH_PORT_RXO_LO (i : Nat) : Nat := 0x150114 + i * 0x20
def ETH_PORT_RXO_LO.octets_lo : Fld := ⟨0, 32⟩
/-- ETH_PORT_RXO_HI[0..2], offset 0x0118, both view. -/
def ETH_PORT_RXO_HI (i : Nat) : Nat := 0x150118 + i * 0x20
def ETH_PORT_RXO_HI.wrap : Fld := ⟨31, 1⟩
def ETH_PORT_RXO_HI.wraps : Fld := ⟨24, 7⟩
def ETH_PORT_RXO_HI.octets_hi : Fld := ⟨0, 16⟩
/-- ETH_VLAN[0..63], offset 0x0200, privileged view. -/
def ETH_VLAN (i : Nat) : Nat := 0x150200 + i * 0x4
def ETH_VLAN.valid : Fld := ⟨31, 1⟩
def ETH_VLAN.vid : Fld := ⟨16, 12⟩
def ETH_VLAN.members : Fld := ⟨0, 3⟩

/-- The registers of ETH in offset order: first offset, array dimensions, view, fields. -/
def tabETH0 : List RegDef :=
  [⟨0x0, [], true, false, [⟨31, 1, .wl, .val, 0⟩, ⟨16, 1, .ro, .img, 0⟩, ⟨0, 16, .wl, .img, 0⟩]⟩,
   ⟨0x4, [], false, false, [⟨30, 2, .ro, .val, 0⟩, ⟨8, 1, .w1c, .val, 0⟩, ⟨0, 8, .rwv, .val, 0⟩]⟩,
   ⟨0x8, [], true, true, [⟨0, 32, .wl, .img, 0⟩]⟩,
   ⟨0xC, [], true, false, [⟨0, 16, .wl, .img, 0⟩]⟩,
   ⟨0x10, [], true, false, [⟨0, 32, .wl, .img, 0⟩]⟩,
   ⟨0x14, [], true, false, [⟨31, 1, .wl, .img, 0⟩, ⟨30, 1, .wl, .img, 0⟩, ⟨29, 1, .wl, .img, 0⟩, ⟨28, 1, .wl, .img, 0⟩, ⟨27, 1, .wl, .img, 0⟩, ⟨16, 8, .wl, .img, 0⟩, ⟨8, 8, .wl, .img, 0⟩, ⟨0, 8, .wl, .img, 0⟩]⟩,
   ⟨0x18, [], true, false, [⟨31, 1, .wl, .img, 0⟩, ⟨30, 1, .wl, .img, 0⟩]⟩,
   ⟨0x1C, [], true, false, [⟨24, 6, .ro, .img, 0⟩, ⟨16, 6, .ro, .img, 0⟩, ⟨8, 6, .ro, .img, 0⟩, ⟨0, 6, .ro, .img, 0⟩]⟩,
   ⟨0x20, [], true, true, [⟨0, 32, .wl, .img, 0⟩]⟩,
   ⟨0x24, [], true, false, [⟨0, 16, .wl, .img, 0⟩]⟩,
   ⟨0x28, [], true, false, [⟨0, 32, .wl, .img, 0⟩]⟩,
   ⟨0x2C, [], true, false, [⟨16, 16, .wl, .img, 0⟩, ⟨13, 3, .wl, .img, 0⟩, ⟨12, 1, .wl, .img, 0⟩, ⟨0, 12, .wl, .img, 0⟩]⟩]
def tabETH1 : List RegDef :=
  [⟨0x30, [], false, false, [⟨4, 1, .w1c, .val, 0⟩, ⟨3, 1, .w1c, .val, 0⟩, ⟨2, 1, .w1c, .val, 0⟩, ⟨1, 1, .w1c, .val, 0⟩, ⟨0, 1, .w1c, .val, 0⟩]⟩,
   ⟨0x34, [], true, false, [⟨4, 1, .rw, .val, 0⟩, ⟨3, 1, .rw, .val, 0⟩, ⟨2, 1, .rw, .val, 0⟩, ⟨1, 1, .rw, .val, 0⟩, ⟨0, 1, .rw, .val, 0⟩]⟩,
   ⟨0x100, [⟨0, 3, 0x20⟩], true, false, [⟨31, 1, .wl, .img, 0⟩, ⟨30, 1, .wl, .img, 0⟩, ⟨0, 12, .wl, .img, 0⟩]⟩,
   ⟨0x104, [⟨0, 3, 0x20⟩], false, false, [⟨30, 2, .ro, .val, 0⟩, ⟨29, 1, .ro, .val, 0⟩, ⟨0, 24, .ro, .val, 0⟩]⟩,
   ⟨0x108, [⟨0, 3, 0x20⟩], false, false, [⟨24, 8, .rwv, .val, 0⟩, ⟨16, 8, .rwv, .val, 0⟩, ⟨8, 8, .rwv, .val, 0⟩, ⟨2, 1, .w1c, .val, 0⟩, ⟨1, 1, .w1c, .val, 0⟩, ⟨0, 1, .w1c, .val, 0⟩]⟩,
   ⟨0x10C, [⟨0, 3, 0x20⟩], false, true, [⟨0, 32, .ro, .val, 0⟩]⟩,
   ⟨0x110, [⟨0, 3, 0x20⟩], false, false, [⟨31, 1, .w1c, .val, 0⟩, ⟨24, 7, .ro, .val, 0⟩, ⟨0, 16, .ro, .val, 0⟩]⟩,
   ⟨0x114, [⟨0, 3, 0x20⟩], false, true, [⟨0, 32, .ro, .val, 0⟩]⟩,
   ⟨0x118, [⟨0, 3, 0x20⟩], false, false, [⟨31, 1, .w1c, .val, 0⟩, ⟨24, 7, .ro, .val, 0⟩, ⟨0, 16, .ro, .val, 0⟩]⟩,
   ⟨0x200, [⟨0, 64, 0x4⟩], true, false, [⟨31, 1, .wl, .img, 0⟩, ⟨16, 12, .wl, .img, 0⟩, ⟨0, 3, .wl, .img, 0⟩]⟩]
/-- All registers of ETH. -/
def tabETH : List RegDef := tabETH0 ++ tabETH1

end Sys2Proof.Reg
end

