-- ==== Sys2Proof/Machine/RegsD.lean ====
section
/-! DEFINITION. The register maps of the blocks MTR, BRL, UPD, ALM, PWR, VGL, HLT, DDR, PIN: the word number of each register (its block window times 0x1_0000 plus its privileged-view offset, R21, R24) and the place of each field, from the register map and field tables of the chapter that governs the block. -/

namespace Sys2Proof.Reg


/-! ### MTR (spec/12_metering.md) -/

/-- MTR_CFG, offset 0x0000, privileged view. -/
def MTR_CFG : Nat := 0x160000
def MTR_CFG.lock : Fld := ⟨31, 1⟩
def MTR_CFG.block_sleep : Fld := ⟨30, 1⟩
def MTR_CFG.mains_ch : Fld := ⟨28, 2⟩
def MTR_CFG.nom_freq : Fld := ⟨24, 1⟩
def MTR_CFG.save_ms : Fld := ⟨8, 16⟩
def MTR_CFG.enable : Fld := ⟨0, 1⟩
/-- MTR_NOM, offset 0x0004, privileged view. -/
def MTR_NOM : Nat := 0x160004
def MTR_NOM.v_nom : Fld := ⟨16, 16⟩
def MTR_NOM.v_tol : Fld := ⟨8, 8⟩
def MTR_NOM.f_tol : Fld := ⟨0, 8⟩
/-- MTR_SUPPLY_CFG, offset 0x0008, privileged view. -/
def MTR_SUPPLY_CFG : Nat := 0x160008
def MTR_SUPPLY_CFG.evt_en : Fld := ⟨31, 1⟩
def MTR_SUPPLY_CFG.fifo : Fld := ⟨24, 6⟩
def MTR_SUPPLY_CFG.ok_s : Fld := ⟨16, 8⟩
def MTR_SUPPLY_CFG.v0_pct : Fld := ⟨8, 8⟩
/-- MTR_STAT, offset 0x000C, both view. -/
def MTR_STAT : Nat := 0x16000C
def MTR_STAT.state : Fld := ⟨30, 2⟩
def MTR_STAT.mains_valid : Fld := ⟨29, 1⟩
def MTR_STAT.seq_ok : Fld := ⟨28, 1⟩
def MTR_STAT.neutral_ok : Fld := ⟨27, 1⟩
def MTR_STAT.supply_ok : Fld := ⟨26, 1⟩
def MTR_STAT.retention_lost : Fld := ⟨25, 1⟩
def MTR_STAT.reason : Fld := ⟨22, 3⟩
def MTR_STAT.harm_seq : Fld := ⟨0, 16⟩
/-- MTR_FREQ, offset 0x0010, both view. -/
def MTR_FREQ : Nat := 0x160010
def MTR_FREQ.freq : Fld := ⟨0, 20⟩
/-- MTR_ANGLE, offset 0x0014, both view. -/
def MTR_ANGLE : Nat := 0x160014
def MTR_ANGLE.ang_b : Fld := ⟨16, 16⟩
def MTR_ANGLE.ang_c : Fld := ⟨0, 16⟩
/-- MTR_LOST_BOUND, offset 0x0018, both view. -/
def MTR_LOST_BOUND : Nat := 0x160018
def MTR_LOST_BOUND.bound : Fld := ⟨0, 32⟩
/-- MTR_SAVE, offset 0x001C, both view. -/
def MTR_SAVE : Nat := 0x16001C
def MTR_SAVE.save_seq : Fld := ⟨16, 16⟩
def MTR_SAVE.restored_gasp : Fld := ⟨1, 1⟩
def MTR_SAVE.gasp_overflow : Fld := ⟨0, 1⟩
/-- MTR_ERR, offset 0x0020, both view. -/
def MTR_ERR : Nat := 0x160020
def MTR_ERR.ch_fault : Fld := ⟨24, 8⟩
def MTR_ERR.save_fail : Fld := ⟨16, 8⟩
def MTR_ERR.evt_dropped : Fld := ⟨8, 8⟩
def MTR_ERR.fault_sat : Fld := ⟨2, 1⟩
def MTR_ERR.save_sat : Fld := ⟨1, 1⟩
def MTR_ERR.evt_sat : Fld := ⟨0, 1⟩
/-- MTR_IRQ_STAT, offset 0x0024, both view. -/
def MTR_IRQ_STAT : Nat := 0x160024
def MTR_IRQ_STAT.harm_ready : Fld := ⟨7, 1⟩
def MTR_IRQ_STAT.pulse_lost : Fld := ⟨6, 1⟩
def MTR_IRQ_STAT.neutral_lost : Fld := ⟨5, 1⟩
def MTR_IRQ_STAT.wrong_seq : Fld := ⟨4, 1⟩
def MTR_IRQ_STAT.ch_fault : Fld := ⟨3, 1⟩
def MTR_IRQ_STAT.wrap : Fld := ⟨2, 1⟩
def MTR_IRQ_STAT.supply_change : Fld := ⟨1, 1⟩
def MTR_IRQ_STAT.save : Fld := ⟨0, 1⟩
/-- MTR_IRQ_MASK, offset 0x0028, privileged view. -/
def MTR_IRQ_MASK : Nat := 0x160028
/-- MTR_CAL_STAT, offset 0x002C, both view. -/
def MTR_CAL_STAT : Nat := 0x16002C
def MTR_CAL_STAT.pending : Fld := ⟨31, 1⟩
def MTR_CAL_STAT.commit_fail : Fld := ⟨30, 1⟩
/-- MTR_CH_GAIN[0..6], offset 0x0100, privileged view. -/
def MTR_CH_GAIN (i : Nat) : Nat := 0x160100 + i * 0x10
def MTR_CH_GAIN.gain : Fld := ⟨0, 32⟩
/-- MTR_CH_DELAY[0..6], offset 0x0104, privileged view. -/
def MTR_CH_DELAY (i : Nat) : Nat := 0x160104 + i * 0x10
def MTR_CH_DELAY.integ : Fld := ⟨31, 1⟩
def MTR_CH_DELAY.delay : Fld := ⟨0, 12⟩
/-- MTR_CH_OFS[0..6], offset 0x0108, privileged view. -/
def MTR_CH_OFS (i : Nat) : Nat := 0x160108 + i * 0x10
def MTR_CH_OFS.offset : Fld := ⟨0, 24⟩
/-- MTR_CH_STAT[0..6], offset 0x010C, both view. -/
def MTR_CH_STAT (i : Nat) : Nat := 0x16010C + i * 0x10
def MTR_CH_STAT.state : Fld := ⟨30, 2⟩
def MTR_CH_STAT.window : Fld := ⟨24, 4⟩
def MTR_CH_STAT.clip : Fld := ⟨16, 8⟩
def MTR_CH_STAT.clip_sat : Fld := ⟨0, 1⟩
/-- MTR_PH_VRMS[0..3], offset 0x0200, both view. -/
def MTR_PH_VRMS (i : Nat) : Nat := 0x160200 + i * 0x20
def MTR_PH_VRMS.vrms : Fld := ⟨0, 32⟩
/-- MTR_PH_IRMS[0..3], offset 0x0204, both view. -/
def MTR_PH_IRMS (i : Nat) : Nat := 0x160204 + i * 0x20
def MTR_PH_IRMS.irms : Fld := ⟨0, 32⟩
/-- MTR_PH_P[0..3], offset 0x0208, both view. -/
def MTR_PH_P (i : Nat) : Nat := 0x160208 + i * 0x20
def MTR_PH_P.p : Fld := ⟨0, 32⟩
/-- MTR_PH_Q[0..3], offset 0x020C, both view. -/
def MTR_PH_Q (i : Nat) : Nat := 0x16020C + i * 0x20
def MTR_PH_Q.q : Fld := ⟨0, 32⟩
/-- MTR_PH_S[0..3], offset 0x0210, both view. -/
def MTR_PH_S (i : Nat) : Nat := 0x160210 + i * 0x20
def MTR_PH_S.s : Fld := ⟨0, 32⟩
/-- MTR_PH_PF[0..3], offset 0x0214, both view. -/
def MTR_PH_PF (i : Nat) : Nat := 0x160214 + i * 0x20
def MTR_PH_PF.pf : Fld := ⟨0, 16⟩
/-- MTR_E_LO[0..3][0..4], offset 0x0400, both view. -/
def MTR_E_LO (i : Nat) (j : Nat) : Nat := 0x160400 + i * 0x40 + j * 0x8
def MTR_E_LO.energy : Fld := ⟨0, 32⟩
/-- MTR_E_HI[0..3][0..4], offset 0x0404, both view. -/
def MTR_E_HI (i : Nat) (j : Nat) : Nat := 0x160404 + i * 0x40 + j * 0x8
def MTR_E_HI.energy : Fld := ⟨0, 32⟩
/-- MTR_E_WRAP[0..3][0..4], offset 0x0600, both view. -/
def MTR_E_WRAP (i : Nat) (j : Nat) : Nat := 0x160600 + i * 0x20 + j * 0x4
def MTR_E_WRAP.wrap : Fld := ⟨31, 1⟩
def MTR_E_WRAP.wraps : Fld := ⟨0, 8⟩
/-- MTR_HARM[0..6][0..63], offset 0x0800, both view. -/
def MTR_HARM (i : Nat) (j : Nat) : Nat := 0x160800 + i * 0x100 + j * 0x4
def MTR_HARM.value : Fld := ⟨0, 32⟩
/-- MTR_PULSE_CFG[0..1], offset 0x1000, privileged view. -/
def MTR_PULSE_CFG (i : Nat) : Nat := 0x161000 + i * 0x10
def MTR_PULSE_CFG.enable : Fld := ⟨31, 1⟩
def MTR_PULSE_CFG.polarity : Fld := ⟨30, 1⟩
def MTR_PULSE_CFG.qty : Fld := ⟨28, 2⟩
def MTR_PULSE_CFG.const : Fld := ⟨8, 17⟩
def MTR_PULSE_CFG.width_ms : Fld := ⟨0, 8⟩
/-- MTR_PULSE_STAT[0..1], offset 0x1004, both view. -/
def MTR_PULSE_STAT (i : Nat) : Nat := 0x161004 + i * 0x10
def MTR_PULSE_STAT.backlog : Fld := ⟨16, 16⟩
def MTR_PULSE_STAT.lost : Fld := ⟨8, 8⟩
def MTR_PULSE_STAT.lost_sat : Fld := ⟨0, 1⟩

/-- The registers of MTR in offset order: first offset, array dimensions, view, fields. -/
def tabMTR0 : List RegDef :=
  [⟨0x0, [], true, false, [⟨31, 1, .wl, .val, 0⟩, ⟨30, 1, .wl, .img, 0⟩, ⟨28, 2, .wl, .img, 0⟩, ⟨24, 1, .wl, .img, 0⟩, ⟨8, 16, .wl, .img, 0⟩, ⟨0, 1, .rw, .img, 0⟩]⟩,
   ⟨0x4, [], true, false, [⟨16, 16, .wl, .img, 0⟩, ⟨8, 8, .wl, .img, 0⟩, ⟨0, 8, .wl, .img, 0⟩]⟩,
   ⟨0x8, [], true, false, [⟨31, 1, .rw, .img, 0⟩, ⟨24, 6, .ro, .img, 0⟩, ⟨16, 8, .wl, .img, 0⟩, ⟨8, 8, .wl, .img, 0⟩]⟩,
   ⟨0xC, [], false, false, [⟨30, 2, .ro, .val, 0⟩, ⟨29, 1, .ro, .val, 0⟩, ⟨28, 1, .ro, .val, 0⟩, ⟨27, 1, .ro, .val, 0⟩, ⟨26, 1, .ro, .val, 0⟩, ⟨25, 1, .ro, .val, 0⟩, ⟨22, 3, .ro, .val, 7⟩, ⟨0, 16, .ro, .val, 0⟩]⟩,
   ⟨0x10, [], false, false, [⟨0, 20, .ro, .val, 0⟩]⟩,
   ⟨0x14, [], false, false, [⟨16, 16, .ro, .val, 0⟩, ⟨0, 16, .ro, .val, 0⟩]⟩,
   ⟨0x18, [], false, false, [⟨0, 32, .ro, .val, 0⟩]⟩,
   ⟨0x1C, [], false, false, [⟨16, 16, .ro, .val, 0⟩, ⟨1, 1, .ro, .val, 0⟩, ⟨0, 1, .ro, .val, 0⟩]⟩,
   ⟨0x20, [], false, false, [⟨24, 8, .rwv, .val, 0⟩, ⟨16, 8, .rwv, .val, 0⟩, ⟨8, 8, .rwv, .val, 0⟩, ⟨2, 1, .w1c, .val, 0⟩, ⟨1, 1, .w1c, .val, 0⟩, ⟨0, 1, .w1c, .val, 0⟩]⟩,
   ⟨0x24, [], false, false, [⟨7, 1, .w1c, .val, 0⟩, ⟨6, 1, .w1c, .val, 0⟩, ⟨5, 1, .w1c, .val, 0⟩, ⟨4, 1, .w1c, .val, 0⟩, ⟨3, 1, .w1c, .val, 0⟩, ⟨2, 1, .w1c, .val, 0⟩, ⟨1, 1, .w1c, .val, 0⟩, ⟨0, 1, .w1c, .val, 0⟩]⟩,
   ⟨0x28, [], true, false, [⟨7, 1, .rw, .val, 0⟩, ⟨6, 1, .rw, .val, 0⟩, ⟨5, 1, .rw, .val, 0⟩, ⟨4, 1, .rw, .val, 0⟩, ⟨3, 1, .rw, .val, 0⟩, ⟨2, 1, .rw, .val, 0⟩, ⟨1, 1, .rw, .val, 0⟩, ⟨0, 1, .rw, .val, 0⟩]⟩,
   ⟨0x2C, [], false, false, [⟨31, 1, .ro, .val, 0⟩, ⟨30, 1, .w1c, .val, 0⟩]⟩]
def tabMTR1 : List RegDef :=
  [⟨0x100, [⟨0, 7, 0x10⟩], true, false, [⟨0, 32, .rw, .cal, 0⟩]⟩,
   ⟨0x104, [⟨0, 7, 0x10⟩], true, false, [⟨31, 1, .wl, .img, 0⟩, ⟨0, 12, .rw, .cal, 0⟩]⟩,
   ⟨0x108, [⟨0, 7, 0x10⟩], true, false, [⟨0, 24, .rw, .cal, 0⟩]⟩,
   ⟨0x10C, [⟨0, 7, 0x10⟩], false, false, [⟨30, 2, .ro, .val, 0⟩, ⟨24, 4, .ro, .val, 0⟩, ⟨16, 8, .rwv, .val, 0⟩, ⟨0, 1, .w1c, .val, 0⟩]⟩,
   ⟨0x200, [⟨0, 4, 0x20⟩], false, false, [⟨0, 32, .ro, .val, 0⟩]⟩,
   ⟨0x204, [⟨0, 4, 0x20⟩], false, false, [⟨0, 32, .ro, .val, 0⟩]⟩,
   ⟨0x208, [⟨0, 4, 0x20⟩], false, false, [⟨0, 32, .ro, .val, 0⟩]⟩,
   ⟨0x20C, [⟨0, 4, 0x20⟩], false, false, [⟨0, 32, .ro, .val, 0⟩]⟩,
   ⟨0x210, [⟨0, 4, 0x20⟩], false, false, [⟨0, 32, .ro, .val, 0⟩]⟩,
   ⟨0x214, [⟨0, 4, 0x20⟩], false, false, [⟨0, 16, .ro, .val, 0⟩]⟩,
   ⟨0x400, [⟨0, 4, 0x40⟩, ⟨0, 5, 0x8⟩], false, true, [⟨0, 32, .ro, .val, 0⟩]⟩,
   ⟨0x404, [⟨0, 4, 0x40⟩, ⟨0, 5, 0x8⟩], false, false, [⟨0, 32, .ro, .val, 0⟩]⟩]
def tabMTR2 : List RegDef :=
  [⟨0x600, [⟨0, 4, 0x20⟩, ⟨0, 5, 0x4⟩], false, false, [⟨31, 1, .w1c, .val, 0⟩, ⟨0, 8, .ro, .val, 0⟩]⟩,
   ⟨0x800, [⟨0, 7, 0x100⟩, ⟨0, 64, 0x4⟩], false, false, [⟨0, 32, .ro, .val, 0⟩]⟩,
   ⟨0x1000, [⟨0, 2, 0x10⟩], true, false, [⟨31, 1, .rw, .img, 0⟩, ⟨30, 1, .wl, .img, 0⟩, ⟨28, 2, .rw, .img, 0⟩, ⟨8, 17, .rw, .img, 0⟩, ⟨0, 8, .wl, .img, 0⟩]⟩,
   ⟨0x1004, [⟨0, 2, 0x10⟩], false, false, [⟨16, 16, .ro, .val, 0⟩, ⟨8, 8, .rwv, .val, 0⟩, ⟨0, 1, .w1c, .val, 0⟩]⟩]
/-- All registers of MTR. -/
def tabMTR : List RegDef := tabMTR0 ++ tabMTR1 ++ tabMTR2

/-! ### BRL (spec/13_burl_keys.md) -/

/-- BRL_CFG, offset 0x0000, privileged view. -/
def BRL_CFG : Nat := 0x170000
def BRL_CFG.lock : Fld := ⟨31, 1⟩
def BRL_CFG.root_destroy_en : Fld := ⟨30, 1⟩
def BRL_CFG.debug_slot : Fld := ⟨16, 6⟩
def BRL_CFG.stage_s : Fld := ⟨0, 16⟩
/-- BRL_STAT, offset 0x0004, both view. -/
def BRL_STAT : Nat := 0x170004
def BRL_STAT.state : Fld := ⟨29, 3⟩
def BRL_STAT.lock_reason : Fld := ⟨26, 3⟩
def BRL_STAT.root_pos : Fld := ⟨24, 2⟩
def BRL_STAT.valid : Fld := ⟨16, 6⟩
def BRL_STAT.in_flight : Fld := ⟨0, 5⟩
/-- BRL_CTRL, offset 0x0008, privileged view. -/
def BRL_CTRL : Nat := 0x170008
def BRL_CTRL.debug_chal : Fld := ⟨31, 1⟩
/-- BRL_PROV, offset 0x000C, privileged view. -/
def BRL_PROV : Nat := 0x17000C
def BRL_PROV.key : Fld := ⟨16, 16⟩
def BRL_PROV.close : Fld := ⟨0, 1⟩
/-- BRL_KU_CTR, offset 0x0010, both view. -/
def BRL_KU_CTR : Nat := 0x170010
def BRL_KU_CTR.counter : Fld := ⟨0, 32⟩
/-- BRL_ESTATE_LO, offset 0x0014, privileged view. -/
def BRL_ESTATE_LO : Nat := 0x170014
def BRL_ESTATE_LO.tag : Fld := ⟨0, 32⟩
/-- BRL_ESTATE_HI, offset 0x0018, privileged view. -/
def BRL_ESTATE_HI : Nat := 0x170018
def BRL_ESTATE_HI.tag : Fld := ⟨0, 32⟩
/-- BRL_ERR, offset 0x001C, both view. -/
def BRL_ERR : Nat := 0x17001C
def BRL_ERR.auth_fail : Fld := ⟨24, 8⟩
def BRL_ERR.refused : Fld := ⟨16, 8⟩
def BRL_ERR.tamper : Fld := ⟨8, 8⟩
def BRL_ERR.auth_sat : Fld := ⟨2, 1⟩
def BRL_ERR.refused_sat : Fld := ⟨1, 1⟩
def BRL_ERR.tamper_sat : Fld := ⟨0, 1⟩
/-- BRL_IRQ_STAT, offset 0x0020, both view. -/
def BRL_IRQ_STAT : Nat := 0x170020
def BRL_IRQ_STAT.close_refused : Fld := ⟨6, 1⟩
def BRL_IRQ_STAT.swapped : Fld := ⟨5, 1⟩
def BRL_IRQ_STAT.stage_ready : Fld := ⟨4, 1⟩
def BRL_IRQ_STAT.exhausted : Fld := ⟨3, 1⟩
def BRL_IRQ_STAT.tamper : Fld := ⟨2, 1⟩
def BRL_IRQ_STAT.op_err : Fld := ⟨1, 1⟩
def BRL_IRQ_STAT.op_irq : Fld := ⟨0, 1⟩
/-- BRL_IRQ_MASK, offset 0x0024, privileged view. -/
def BRL_IRQ_MASK : Nat := 0x170024
/-- BRL_SUBMIT_LO, offset 0x0028, privileged view. -/
def BRL_SUBMIT_LO : Nat := 0x170028
def BRL_SUBMIT_LO.addr_lo : Fld := ⟨6, 26⟩
/-- BRL_SUBMIT_HI, offset 0x002C, privileged view. -/
def BRL_SUBMIT_HI : Nat := 0x17002C
def BRL_SUBMIT_HI.ctx : Fld := ⟨8, 6⟩
def BRL_SUBMIT_HI.addr_hi : Fld := ⟨0, 4⟩
/-- BRL_SUBMIT_RES, offset 0x0030, privileged view. -/
def BRL_SUBMIT_RES : Nat := 0x170030
def BRL_SUBMIT_RES.busy : Fld := ⟨31, 1⟩
def BRL_SUBMIT_RES.status : Fld := ⟨24, 3⟩
def BRL_SUBMIT_RES.slot : Fld := ⟨16, 4⟩
def BRL_SUBMIT_RES.op_id : Fld := ⟨0, 16⟩
/-- BRL_TMP_STAT, offset 0x0034, both view. -/
def BRL_TMP_STAT : Nat := 0x170034
def BRL_TMP_STAT.latched : Fld := ⟨18, 7⟩
def BRL_TMP_STAT.active : Fld := ⟨0, 7⟩
/-- BRL_ID[0..3], offset 0x0040, both view. -/
def BRL_ID (i : Nat) : Nat := 0x170040 + i * 0x4
def BRL_ID.id : Fld := ⟨0, 32⟩
/-- BRL_CHAL[0..3], offset 0x0050, privileged view. -/
def BRL_CHAL (i : Nat) : Nat := 0x170050 + i * 0x4
def BRL_CHAL.chal : Fld := ⟨0, 32⟩
/-- BRL_DBG_ANS[0..15], offset 0x0060, privileged view. -/
def BRL_DBG_ANS (i : Nat) : Nat := 0x170060 + i * 0x4
def BRL_DBG_ANS.ans : Fld := ⟨0, 32⟩
/-- BRL_TMP_CFG[0..6], offset 0x00A0, privileged view. -/
def BRL_TMP_CFG (i : Nat) : Nat := 0x1700A0 + i * 0x4
def BRL_TMP_CFG.level : Fld := ⟨30, 2⟩
def BRL_TMP_CFG.polarity : Fld := ⟨29, 1⟩
/-- BRL_PUB[0..1][0..15], offset 0x0100, both view. -/
def BRL_PUB (i : Nat) (j : Nat) : Nat := 0x170100 + i * 0x40 + j * 0x4
def BRL_PUB.coord : Fld := ⟨0, 32⟩
/-- BRL_OP_STAT[0..15], offset 0x0200, both view. -/
def BRL_OP_STAT (i : Nat) : Nat := 0x170200 + i * 0x4
def BRL_OP_STAT.state : Fld := ⟨29, 3⟩
def BRL_OP_STAT.op : Fld := ⟨25, 4⟩
def BRL_OP_STAT.slot : Fld := ⟨16, 8⟩
def BRL_OP_STAT.op_id : Fld := ⟨0, 16⟩
/-- BRL_STG_CHAL[0..2][0..3], offset 0x0300, privileged view. -/
def BRL_STG_CHAL (i : Nat) (j : Nat) : Nat := 0x170300 + i * 0x10 + j * 0x4
def BRL_STG_CHAL.chal : Fld := ⟨0, 32⟩
/-- BRL_SLOT_DEF[0..63], offset 0x0400, both view. -/
def BRL_SLOT_DEF (i : Nat) : Nat := 0x170400 + i * 0x10
def BRL_SLOT_DEF.class : Fld := ⟨28, 4⟩
def BRL_SLOT_DEF.key_len : Fld := ⟨26, 2⟩
def BRL_SLOT_DEF.volatile : Fld := ⟨25, 1⟩
def BRL_SLOT_DEF.atomic : Fld := ⟨24, 1⟩
/-- BRL_SLOT_STAT[0..63], offset 0x0404, both view. -/
def BRL_SLOT_STAT (i : Nat) : Nat := 0x170404 + i * 0x10
def BRL_SLOT_STAT.valid : Fld := ⟨31, 1⟩
def BRL_SLOT_STAT.staged : Fld := ⟨30, 1⟩
def BRL_SLOT_STAT.swap_due : Fld := ⟨29, 1⟩
def BRL_SLOT_STAT.expire_at_reset : Fld := ⟨28, 1⟩
def BRL_SLOT_STAT.proof_fails : Fld := ⟨24, 4⟩
/-- BRL_SLOT_USES[0..63], offset 0x0408, both view. -/
def BRL_SLOT_USES (i : Nat) : Nat := 0x170408 + i * 0x10
def BRL_SLOT_USES.uses : Fld := ⟨0, 32⟩

/-- The registers of BRL in offset order: first offset, array dimensions, view, fields. -/
def tabBRL0 : List RegDef :=
  [⟨0x0, [], true, false, [⟨31, 1, .wl, .val, 0⟩, ⟨30, 1, .ro, .img, 0⟩, ⟨16, 6, .ro, .img, 0⟩, ⟨0, 16, .wl, .img, 0⟩]⟩,
   ⟨0x4, [], false, false, [⟨29, 3, .ro, .val, 0⟩, ⟨26, 3, .ro, .val, 0⟩, ⟨24, 2, .ro, .val, 0⟩, ⟨16, 6, .ro, .val, 0⟩, ⟨0, 5, .ro, .val, 0⟩]⟩,
   ⟨0x8, [], true, false, [⟨31, 1, .wo, .val, 0⟩]⟩,
   ⟨0xC, [], true, false, [⟨16, 16, .wo, .val, 0⟩, ⟨0, 1, .wo, .val, 0⟩]⟩,
   ⟨0x10, [], false, false, [⟨0, 32, .ro, .val, 0⟩]⟩,
   ⟨0x14, [], true, true, [⟨0, 32, .rw, .val, 0⟩]⟩,
   ⟨0x18, [], true, false, [⟨0, 32, .rw, .val, 0⟩]⟩,
   ⟨0x1C, [], false, false, [⟨24, 8, .rwv, .val, 0⟩, ⟨16, 8, .rwv, .val, 0⟩, ⟨8, 8, .rwv, .val, 0⟩, ⟨2, 1, .w1c, .val, 0⟩, ⟨1, 1, .w1c, .val, 0⟩, ⟨0, 1, .w1c, .val, 0⟩]⟩,
   ⟨0x20, [], false, false, [⟨6, 1, .w1c, .val, 0⟩, ⟨5, 1, .w1c, .val, 0⟩, ⟨4, 1, .w1c, .val, 0⟩, ⟨3, 1, .w1c, .val, 0⟩, ⟨2, 1, .w1c, .val, 0⟩, ⟨1, 1, .w1c, .val, 0⟩, ⟨0, 1, .w1c, .val, 0⟩]⟩,
   ⟨0x24, [], true, false, [⟨6, 1, .rw, .val, 0⟩, ⟨5, 1, .rw, .val, 0⟩, ⟨4, 1, .rw, .val, 0⟩, ⟨3, 1, .rw, .val, 0⟩, ⟨2, 1, .rw, .val, 0⟩, ⟨1, 1, .rw, .val, 0⟩, ⟨0, 1, .rw, .val, 0⟩]⟩,
   ⟨0x28, [], true, true, [⟨6, 26, .wo, .val, 0⟩]⟩,
   ⟨0x2C, [], true, false, [⟨8, 6, .wo, .val, 0⟩, ⟨0, 4, .wo, .val, 0⟩]⟩]
def tabBRL1 : List RegDef :=
  [⟨0x30, [], true, false, [⟨31, 1, .ro, .val, 0⟩, ⟨24, 3, .ro, .val, 0⟩, ⟨16, 4, .ro, .val, 0⟩, ⟨0, 16, .ro, .val, 0⟩]⟩,
   ⟨0x34, [], false, false, [⟨18, 7, .w1c, .val, 0⟩, ⟨0, 7, .ro, .val, 0⟩]⟩,
   ⟨0x40, [⟨0, 4, 0x4⟩], false, false, [⟨0, 32, .ro, .val, 0⟩]⟩,
   ⟨0x50, [⟨0, 4, 0x4⟩], true, false, [⟨0, 32, .ro, .val, 0⟩]⟩,
   ⟨0x60, [⟨0, 16, 0x4⟩], true, false, [⟨0, 32, .wo, .val, 0⟩]⟩,
   ⟨0xA0, [⟨0, 7, 0x4⟩], true, false, [⟨30, 2, .wl, .img, 0⟩, ⟨29, 1, .wl, .img, 0⟩]⟩,
   ⟨0x100, [⟨0, 2, 0x40⟩, ⟨0, 16, 0x4⟩], false, false, [⟨0, 32, .ro, .val, 0⟩]⟩,
   ⟨0x200, [⟨0, 16, 0x4⟩], false, false, [⟨29, 3, .ro, .val, 0⟩, ⟨25, 4, .ro, .val, 0⟩, ⟨16, 8, .ro, .val, 0⟩, ⟨0, 16, .ro, .val, 0⟩]⟩,
   ⟨0x300, [⟨0, 3, 0x10⟩, ⟨0, 4, 0x4⟩], true, false, [⟨0, 32, .ro, .val, 0⟩]⟩,
   ⟨0x400, [⟨0, 64, 0x10⟩], false, false, [⟨28, 4, .ro, .img, 0⟩, ⟨26, 2, .ro, .img, 0⟩, ⟨25, 1, .ro, .img, 0⟩, ⟨24, 1, .ro, .img, 0⟩]⟩,
   ⟨0x404, [⟨0, 64, 0x10⟩], false, false, [⟨31, 1, .ro, .val, 0⟩, ⟨30, 1, .ro, .val, 0⟩, ⟨29, 1, .ro, .val, 0⟩, ⟨28, 1, .ro, .val, 0⟩, ⟨24, 4, .ro, .val, 0⟩]⟩,
   ⟨0x408, [⟨0, 64, 0x10⟩], false, false, [⟨0, 32, .ro, .val, 0⟩]⟩]
/-- All registers of BRL. -/
def tabBRL : List RegDef := tabBRL0 ++ tabBRL1

/-! ### UPD (spec/14_field_update.md) -/

/-- UPD_CFG, offset 0x0000, privileged view. -/
def UPD_CFG : Nat := 0x180000
def UPD_CFG.lock : Fld := ⟨31, 1⟩
def UPD_CFG.enable : Fld := ⟨12, 1⟩
def UPD_CFG.tries : Fld := ⟨8, 4⟩
def UPD_CFG.in_fifo : Fld := ⟨0, 6⟩
/-- UPD_STAT, offset 0x0004, both view. -/
def UPD_STAT : Nat := 0x180004
def UPD_STAT.state : Fld := ⟨29, 3⟩
def UPD_STAT.partition : Fld := ⟨27, 2⟩
def UPD_STAT.session : Fld := ⟨0, 16⟩
/-- UPD_CTRL, offset 0x0008, privileged view. -/
def UPD_CTRL : Nat := 0x180008
def UPD_CTRL.activate : Fld := ⟨31, 1⟩
def UPD_CTRL.confirm : Fld := ⟨30, 1⟩
def UPD_CTRL.rollback : Fld := ⟨29, 1⟩
def UPD_CTRL.abandon : Fld := ⟨28, 1⟩
def UPD_CTRL.recovery : Fld := ⟨27, 1⟩
def UPD_CTRL.verify : Fld := ⟨26, 1⟩
def UPD_CTRL.partition : Fld := ⟨16, 2⟩
def UPD_CTRL.key : Fld := ⟨0, 16⟩
/-- UPD_PROG, offset 0x000C, both view. -/
def UPD_PROG : Nat := 0x18000C
def UPD_PROG.received : Fld := ⟨16, 13⟩
def UPD_PROG.total : Fld := ⟨0, 13⟩
/-- UPD_RES, offset 0x0010, both view. -/
def UPD_RES : Nat := 0x180010
def UPD_RES.piece : Fld := ⟨16, 16⟩
def UPD_RES.rec_type : Fld := ⟨8, 8⟩
def UPD_RES.code : Fld := ⟨0, 8⟩
/-- UPD_ERR, offset 0x0014, both view. -/
def UPD_ERR : Nat := 0x180014
def UPD_ERR.refused : Fld := ⟨24, 8⟩
def UPD_ERR.tag_fail : Fld := ⟨16, 8⟩
def UPD_ERR.dup : Fld := ⟨8, 8⟩
def UPD_ERR.refused_sat : Fld := ⟨2, 1⟩
def UPD_ERR.tag_sat : Fld := ⟨1, 1⟩
def UPD_ERR.dup_sat : Fld := ⟨0, 1⟩
/-- UPD_IRQ_STAT, offset 0x0018, both view. -/
def UPD_IRQ_STAT : Nat := 0x180018
def UPD_IRQ_STAT.flash_err : Fld := ⟨5, 1⟩
def UPD_IRQ_STAT.refused : Fld := ⟨4, 1⟩
def UPD_IRQ_STAT.rolled_back : Fld := ⟨3, 1⟩
def UPD_IRQ_STAT.activated : Fld := ⟨2, 1⟩
def UPD_IRQ_STAT.failed : Fld := ⟨1, 1⟩
def UPD_IRQ_STAT.ready : Fld := ⟨0, 1⟩
/-- UPD_IRQ_MASK, offset 0x001C, privileged view. -/
def UPD_IRQ_MASK : Nat := 0x18001C
/-- UPD_ACT_CTR, offset 0x0020, both view. -/
def UPD_ACT_CTR : Nat := 0x180020
def UPD_ACT_CTR.counter : Fld := ⟨0, 32⟩
/-- UPD_RCV_DATA, offset 0x0024, privileged view. -/
def UPD_RCV_DATA : Nat := 0x180024
def UPD_RCV_DATA.data : Fld := ⟨0, 32⟩
/-- UPD_PART_STAT[0..2], offset 0x0100, both view. -/
def UPD_PART_STAT (i : Nat) : Nat := 0x180100 + i * 0x10
def UPD_PART_STAT.active : Fld := ⟨31, 1⟩
def UPD_PART_STAT.trial : Fld := ⟨30, 1⟩
def UPD_PART_STAT.tries_left : Fld := ⟨26, 4⟩
def UPD_PART_STAT.a_valid : Fld := ⟨25, 1⟩
def UPD_PART_STAT.b_valid : Fld := ⟨24, 1⟩
/-- UPD_PART_VER[0..2], offset 0x0104, both view. -/
def UPD_PART_VER (i : Nat) : Nat := 0x180104 + i * 0x10
def UPD_PART_VER.version : Fld := ⟨0, 32⟩
/-- UPD_PART_FLOOR[0..2], offset 0x0108, both view. -/
def UPD_PART_FLOOR (i : Nat) : Nat := 0x180108 + i * 0x10
def UPD_PART_FLOOR.floor : Fld := ⟨0, 32⟩
/-- UPD_PART_ALT[0..2], offset 0x010C, both view. -/
def UPD_PART_ALT (i : Nat) : Nat := 0x18010C + i * 0x10
def UPD_PART_ALT.version : Fld := ⟨0, 32⟩
/-- UPD_BITMAP[0..127], offset 0x0200, both view. -/
def UPD_BITMAP (i : Nat) : Nat := 0x180200 + i * 0x4
def UPD_BITMAP.pieces : Fld := ⟨0, 32⟩

/-- The registers of UPD in offset order: first offset, array dimensions, view, fields. -/
def tabUPD0 : List RegDef :=
  [⟨0x0, [], true, false, [⟨31, 1, .wl, .val, 0⟩, ⟨12, 1, .rw, .img, 0⟩, ⟨8, 4, .wl, .img, 0⟩, ⟨0, 6, .ro, .img, 0⟩]⟩,
   ⟨0x4, [], false, false, [⟨29, 3, .ro, .val, 0⟩, ⟨27, 2, .ro, .val, 0⟩, ⟨0, 16, .ro, .val, 0⟩]⟩,
   ⟨0x8, [], true, false, [⟨31, 1, .wo, .val, 0⟩, ⟨30, 1, .wo, .val, 0⟩, ⟨29, 1, .wo, .val, 0⟩, ⟨28, 1, .wo, .val, 0⟩, ⟨27, 1, .wo, .val, 0⟩, ⟨26, 1, .wo, .val, 0⟩, ⟨16, 2, .wo, .val, 0⟩, ⟨0, 16, .wo, .val, 0⟩]⟩,
   ⟨0xC, [], false, false, [⟨16, 13, .ro, .val, 0⟩, ⟨0, 13, .ro, .val, 0⟩]⟩,
   ⟨0x10, [], false, false, [⟨16, 16, .ro, .val, 0⟩, ⟨8, 8, .ro, .val, 0⟩, ⟨0, 8, .ro, .val, 0⟩]⟩,
   ⟨0x14, [], false, false, [⟨24, 8, .rwv, .val, 0⟩, ⟨16, 8, .rwv, .val, 0⟩, ⟨8, 8, .rwv, .val, 0⟩, ⟨2, 1, .w1c, .val, 0⟩, ⟨1, 1, .w1c, .val, 0⟩, ⟨0, 1, .w1c, .val, 0⟩]⟩,
   ⟨0x18, [], false, false, [⟨5, 1, .w1c, .val, 0⟩, ⟨4, 1, .w1c, .val, 0⟩, ⟨3, 1, .w1c, .val, 0⟩, ⟨2, 1, .w1c, .val, 0⟩, ⟨1, 1, .w1c, .val, 0⟩, ⟨0, 1, .w1c, .val, 0⟩]⟩,
   ⟨0x1C, [], true, false, [⟨5, 1, .rw, .val, 0⟩, ⟨4, 1, .rw, .val, 0⟩, ⟨3, 1, .rw, .val, 0⟩, ⟨2, 1, .rw, .val, 0⟩, ⟨1, 1, .rw, .val, 0⟩, ⟨0, 1, .rw, .val, 0⟩]⟩,
   ⟨0x20, [], false, false, [⟨0, 32, .ro, .val, 0⟩]⟩,
   ⟨0x24, [], true, false, [⟨0, 32, .wo, .val, 0⟩]⟩,
   ⟨0x100, [⟨0, 3, 0x10⟩], false, false, [⟨31, 1, .ro, .val, 0⟩, ⟨30, 1, .ro, .val, 0⟩, ⟨26, 4, .ro, .val, 0⟩, ⟨25, 1, .ro, .val, 0⟩, ⟨24, 1, .ro, .val, 0⟩]⟩,
   ⟨0x104, [⟨0, 3, 0x10⟩], false, false, [⟨0, 32, .ro, .val, 0⟩]⟩]
def tabUPD1 : List RegDef :=
  [⟨0x108, [⟨0, 3, 0x10⟩], false, false, [⟨0, 32, .ro, .val, 0⟩]⟩,
   ⟨0x10C, [⟨0, 3, 0x10⟩], false, false, [⟨0, 32, .ro, .val, 0⟩]⟩,
   ⟨0x200, [⟨0, 128, 0x4⟩], false, false, [⟨0, 32, .ro, .val, 0⟩]⟩]
/-- All registers of UPD. -/
def tabUPD : List RegDef := tabUPD0 ++ tabUPD1

/-! ### ALM (spec/15_almanac_health.md) -/

/-- ALM_CFG, offset 0x0000, privileged view. -/
def ALM_CFG : Nat := 0x190000
def ALM_CFG.lock : Fld := ⟨31, 1⟩
def ALM_CFG.clear_slot : Fld := ⟨16, 6⟩
def ALM_CFG.flush_ms : Fld := ⟨0, 16⟩
/-- ALM_STAT, offset 0x0004, both view. -/
def ALM_STAT : Nat := 0x190004
def ALM_STAT.state : Fld := ⟨29, 3⟩
def ALM_STAT.buffered : Fld := ⟨16, 10⟩
def ALM_STAT.epoch : Fld := ⟨0, 16⟩
/-- ALM_CTRL, offset 0x0008, privileged view. -/
def ALM_CTRL : Nat := 0x190008
def ALM_CTRL.close : Fld := ⟨31, 1⟩
/-- ALM_COUNT, offset 0x000C, both view. -/
def ALM_COUNT : Nat := 0x19000C
def ALM_COUNT.count : Fld := ⟨0, 32⟩
/-- ALM_CAP, offset 0x0010, both view. -/
def ALM_CAP : Nat := 0x190010
def ALM_CAP.capacity : Fld := ⟨0, 32⟩
/-- ALM_LOST, offset 0x0014, both view. -/
def ALM_LOST : Nat := 0x190014
def ALM_LOST.sat : Fld := ⟨31, 1⟩
def ALM_LOST.lost : Fld := ⟨0, 31⟩
/-- ALM_ERR, offset 0x0018, both view. -/
def ALM_ERR : Nat := 0x190018
def ALM_ERR.dropped : Fld := ⟨24, 8⟩
def ALM_ERR.prog_retry : Fld := ⟨16, 8⟩
def ALM_ERR.cfg_lost : Fld := ⟨8, 8⟩
def ALM_ERR.drop_sat : Fld := ⟨2, 1⟩
def ALM_ERR.retry_sat : Fld := ⟨1, 1⟩
def ALM_ERR.cfg_sat : Fld := ⟨0, 1⟩
/-- ALM_IRQ_STAT, offset 0x001C, both view. -/
def ALM_IRQ_STAT : Nat := 0x19001C
def ALM_IRQ_STAT.halted : Fld := ⟨5, 1⟩
def ALM_IRQ_STAT.full : Fld := ⟨4, 1⟩
def ALM_IRQ_STAT.cleared : Fld := ⟨3, 1⟩
def ALM_IRQ_STAT.dropped : Fld := ⟨2, 1⟩
def ALM_IRQ_STAT.lg_pending : Fld := ⟨1, 1⟩
def ALM_IRQ_STAT.fill_90 : Fld := ⟨0, 1⟩
/-- ALM_IRQ_MASK, offset 0x0020, privileged view. -/
def ALM_IRQ_MASK : Nat := 0x190020
/-- ALM_CLR_CTR, offset 0x0024, privileged view. -/
def ALM_CLR_CTR : Nat := 0x190024
def ALM_CLR_CTR.ctr : Fld := ⟨0, 32⟩
/-- ALM_CLR_COUNT, offset 0x0028, privileged view. -/
def ALM_CLR_COUNT : Nat := 0x190028
def ALM_CLR_COUNT.count : Fld := ⟨0, 32⟩
/-- ALM_CLR_TAG_LO, offset 0x002C, privileged view. -/
def ALM_CLR_TAG_LO : Nat := 0x19002C
def ALM_CLR_TAG_LO.tag : Fld := ⟨0, 32⟩
/-- ALM_CLR_TAG_HI, offset 0x0030, privileged view. -/
def ALM_CLR_TAG_HI : Nat := 0x190030
def ALM_CLR_TAG_HI.tag : Fld := ⟨0, 32⟩
/-- ALM_CLR_RES, offset 0x0034, both view. -/
def ALM_CLR_RES : Nat := 0x190034
def ALM_CLR_RES.busy : Fld := ⟨31, 1⟩
def ALM_CLR_RES.result : Fld := ⟨28, 3⟩
/-- ALM_POST_CODE, offset 0x0040, both view. -/
def ALM_POST_CODE : Nat := 0x190040
def ALM_POST_CODE.source : Fld := ⟨16, 16⟩
def ALM_POST_CODE.code : Fld := ⟨0, 16⟩
/-- ALM_POST_ARG[0..2], offset 0x0044, both view. -/
def ALM_POST_ARG (i : Nat) : Nat := 0x190044 + i * 0x4
def ALM_POST_ARG.arg : Fld := ⟨0, 32⟩
/-- ALM_POST_RES, offset 0x0050, both view. -/
def ALM_POST_RES : Nat := 0x190050
def ALM_POST_RES.busy : Fld := ⟨31, 1⟩
def ALM_POST_RES.result : Fld := ⟨29, 2⟩
/-- ALM_OPEN[0..7], offset 0x0060, both view. -/
def ALM_OPEN (i : Nat) : Nat := 0x190060 + i * 0x4
def ALM_OPEN.octets : Fld := ⟨0, 32⟩
/-- ALM_REC_MASK[0..30], offset 0x0080, both view. -/
def ALM_REC_MASK (i : Nat) : Nat := 0x190080 + i * 0x4
def ALM_REC_MASK.mask : Fld := ⟨0, 32⟩
/-- ALM_LG[0..15][0..7], offset 0x0100, both view. -/
def ALM_LG (i : Nat) (j : Nat) : Nat := 0x190100 + i * 0x20 + j * 0x4
def ALM_LG.octets : Fld := ⟨0, 32⟩
/-- ALM_LG_STAT, offset 0x0300, both view. -/
def ALM_LG_STAT : Nat := 0x190300
def ALM_LG_STAT.sat : Fld := ⟨31, 1⟩
def ALM_LG_STAT.entries : Fld := ⟨16, 5⟩
def ALM_LG_STAT.lost : Fld := ⟨0, 16⟩

/-- The registers of ALM in offset order: first offset, array dimensions, view, fields. -/
def tabALM0 : List RegDef :=
  [⟨0x0, [], true, false, [⟨31, 1, .wl, .val, 0⟩, ⟨16, 6, .ro, .img, 0⟩, ⟨0, 16, .wl, .img, 0⟩]⟩,
   ⟨0x4, [], false, false, [⟨29, 3, .ro, .val, 0⟩, ⟨16, 10, .ro, .val, 0⟩, ⟨0, 16, .ro, .val, 0⟩]⟩,
   ⟨0x8, [], true, false, [⟨31, 1, .wo, .val, 0⟩]⟩,
   ⟨0xC, [], false, false, [⟨0, 32, .ro, .val, 0⟩]⟩,
   ⟨0x10, [], false, false, [⟨0, 32, .ro, .val, 0⟩]⟩,
   ⟨0x14, [], false, false, [⟨31, 1, .w1c, .val, 0⟩, ⟨0, 31, .ro, .val, 0⟩]⟩,
   ⟨0x18, [], false, false, [⟨24, 8, .rwv, .val, 0⟩, ⟨16, 8, .rwv, .val, 0⟩, ⟨8, 8, .rwv, .val, 0⟩, ⟨2, 1, .w1c, .val, 0⟩, ⟨1, 1, .w1c, .val, 0⟩, ⟨0, 1, .w1c, .val, 0⟩]⟩,
   ⟨0x1C, [], false, false, [⟨5, 1, .w1c, .val, 0⟩, ⟨4, 1, .w1c, .val, 0⟩, ⟨3, 1, .w1c, .val, 0⟩, ⟨2, 1, .w1c, .val, 0⟩, ⟨1, 1, .w1c, .val, 0⟩, ⟨0, 1, .w1c, .val, 0⟩]⟩,
   ⟨0x20, [], true, false, [⟨5, 1, .rw, .val, 0⟩, ⟨4, 1, .rw, .val, 0⟩, ⟨3, 1, .rw, .val, 0⟩, ⟨2, 1, .rw, .val, 0⟩, ⟨1, 1, .rw, .val, 0⟩, ⟨0, 1, .rw, .val, 0⟩]⟩,
   ⟨0x24, [], true, false, [⟨0, 32, .rw, .val, 0⟩]⟩,
   ⟨0x28, [], true, false, [⟨0, 32, .rw, .val, 0⟩]⟩,
   ⟨0x2C, [], true, true, [⟨0, 32, .wo, .val, 0⟩]⟩]
def tabALM1 : List RegDef :=
  [⟨0x30, [], true, false, [⟨0, 32, .wo, .val, 0⟩]⟩,
   ⟨0x34, [], false, false, [⟨31, 1, .ro, .val, 0⟩, ⟨28, 3, .ro, .val, 0⟩]⟩,
   ⟨0x40, [], false, false, [⟨16, 16, .wo, .val, 0⟩, ⟨0, 16, .wo, .val, 0⟩]⟩,
   ⟨0x44, [⟨0, 3, 0x4⟩], false, false, [⟨0, 32, .wo, .val, 0⟩]⟩,
   ⟨0x50, [], false, false, [⟨31, 1, .ro, .val, 0⟩, ⟨29, 2, .ro, .val, 0⟩]⟩,
   ⟨0x60, [⟨0, 8, 0x4⟩], false, false, [⟨0, 32, .ro, .val, 0⟩]⟩,
   ⟨0x80, [⟨0, 31, 0x4⟩], false, false, [⟨0, 32, .ro, .img, 0⟩]⟩,
   ⟨0x100, [⟨0, 16, 0x20⟩, ⟨0, 8, 0x4⟩], false, false, [⟨0, 32, .ro, .val, 0⟩]⟩,
   ⟨0x300, [], false, false, [⟨31, 1, .w1c, .val, 0⟩, ⟨16, 5, .ro, .val, 0⟩, ⟨0, 16, .ro, .val, 0⟩]⟩]
/-- All registers of ALM. -/
def tabALM : List RegDef := tabALM0 ++ tabALM1

/-! ### PWR (spec/16_power_reset_boot.md) -/

/-- PWR_CFG, offset 0x0000, privileged view. -/
def PWR_CFG : Nat := 0x1A0000
def PWR_CFG.lock : Fld := ⟨31, 1⟩
def PWR_CFG.retain_bank : Fld := ⟨27, 4⟩
def PWR_CFG.retries : Fld := ⟨23, 4⟩
def PWR_CFG.backoff : Fld := ⟨8, 8⟩
def PWR_CFG.lead : Fld := ⟨0, 8⟩
/-- PWR_CTRL, offset 0x0004, privileged view. -/
def PWR_CTRL : Nat := 0x1A0004
def PWR_CTRL.go : Fld := ⟨31, 1⟩
def PWR_CTRL.abort : Fld := ⟨30, 1⟩
def PWR_CTRL.target : Fld := ⟨0, 2⟩
/-- PWR_STAT, offset 0x0008, both view. -/
def PWR_STAT : Nat := 0x1A0008
def PWR_STAT.state : Fld := ⟨29, 3⟩
def PWR_STAT.target : Fld := ⟨27, 2⟩
def PWR_STAT.result : Fld := ⟨24, 3⟩
def PWR_STAT.reason : Fld := ⟨19, 5⟩
def PWR_STAT.block : Fld := ⟨14, 5⟩
def PWR_STAT.attempts : Fld := ⟨10, 4⟩
def PWR_STAT.step : Fld := ⟨5, 5⟩
/-- PWR_ERR, offset 0x000C, both view. -/
def PWR_ERR : Nat := 0x1A000C
def PWR_ERR.rollbacks : Fld := ⟨24, 8⟩
def PWR_ERR.late_rdv : Fld := ⟨16, 8⟩
def PWR_ERR.rb_sat : Fld := ⟨1, 1⟩
def PWR_ERR.late_sat : Fld := ⟨0, 1⟩
/-- PWR_IRQ_STAT, offset 0x0010, both view. -/
def PWR_IRQ_STAT : Nat := 0x1A0010
def PWR_IRQ_STAT.failed : Fld := ⟨3, 1⟩
def PWR_IRQ_STAT.rollback : Fld := ⟨2, 1⟩
def PWR_IRQ_STAT.woke : Fld := ⟨1, 1⟩
def PWR_IRQ_STAT.late_rdv : Fld := ⟨0, 1⟩
/-- PWR_IRQ_MASK, offset 0x0014, privileged view. -/
def PWR_IRQ_MASK : Nat := 0x1A0014
/-- PWR_LAST, offset 0x0018, both view. -/
def PWR_LAST : Nat := 0x1A0018
def PWR_LAST.from : Fld := ⟨30, 2⟩
def PWR_LAST.cause : Fld := ⟨24, 6⟩
def PWR_LAST.return_us : Fld := ⟨0, 24⟩

/-- The registers of PWR in offset order: first offset, array dimensions, view, fields. -/
def tabPWR : List RegDef :=
  [⟨0x0, [], true, false, [⟨31, 1, .wl, .val, 0⟩, ⟨27, 4, .wl, .img, 0⟩, ⟨23, 4, .wl, .img, 0⟩, ⟨8, 8, .wl, .img, 0⟩, ⟨0, 8, .wl, .img, 0⟩]⟩,
   ⟨0x4, [], true, false, [⟨31, 1, .wo, .val, 0⟩, ⟨30, 1, .wo, .val, 0⟩, ⟨0, 2, .wo, .val, 0⟩]⟩,
   ⟨0x8, [], false, false, [⟨29, 3, .ro, .val, 0⟩, ⟨27, 2, .ro, .val, 0⟩, ⟨24, 3, .ro, .val, 0⟩, ⟨19, 5, .ro, .val, 0⟩, ⟨14, 5, .ro, .val, 0⟩, ⟨10, 4, .ro, .val, 0⟩, ⟨5, 5, .ro, .val, 0⟩]⟩,
   ⟨0xC, [], false, false, [⟨24, 8, .rwv, .val, 0⟩, ⟨16, 8, .rwv, .val, 0⟩, ⟨1, 1, .w1c, .val, 0⟩, ⟨0, 1, .w1c, .val, 0⟩]⟩,
   ⟨0x10, [], false, false, [⟨3, 1, .w1c, .val, 0⟩, ⟨2, 1, .w1c, .val, 0⟩, ⟨1, 1, .w1c, .val, 0⟩, ⟨0, 1, .w1c, .val, 0⟩]⟩,
   ⟨0x14, [], true, false, [⟨3, 1, .rw, .val, 0⟩, ⟨2, 1, .rw, .val, 0⟩, ⟨1, 1, .rw, .val, 0⟩, ⟨0, 1, .rw, .val, 0⟩]⟩,
   ⟨0x18, [], false, false, [⟨30, 2, .ro, .val, 0⟩, ⟨24, 6, .ro, .val, 0⟩, ⟨0, 24, .ro, .val, 0⟩]⟩]

/-! ### VGL (spec/16_power_reset_boot.md) -/

/-- VGL_CFG, offset 0x0000, privileged view. -/
def VGL_CFG : Nat := 0x1B0000
def VGL_CFG.lock : Fld := ⟨31, 1⟩
def VGL_CFG.alarm_en : Fld := ⟨7, 1⟩
def VGL_CFG.wdog_en : Fld := ⟨6, 1⟩
def VGL_CFG.cs_wake : Fld := ⟨5, 1⟩
def VGL_CFG.wake_level : Fld := ⟨4, 1⟩
def VGL_CFG.wake_pol : Fld := ⟨3, 1⟩
/-- VGL_STAT, offset 0x0004, both view. -/
def VGL_STAT : Nat := 0x1B0004
def VGL_STAT.vbat_por : Fld := ⟨31, 1⟩
def VGL_STAT.supply_fail : Fld := ⟨30, 1⟩
def VGL_STAT.edge_in_entry : Fld := ⟨29, 1⟩
def VGL_STAT.pg_fail : Fld := ⟨28, 1⟩
def VGL_STAT.pg_retries : Fld := ⟨26, 2⟩
def VGL_STAT.wake_in : Fld := ⟨25, 1⟩
/-- VGL_CNT_LO, offset 0x0008, both view. -/
def VGL_CNT_LO : Nat := 0x1B0008
def VGL_CNT_LO.count : Fld := ⟨0, 32⟩
/-- VGL_CNT_HI, offset 0x000C, both view. -/
def VGL_CNT_HI : Nat := 0x1B000C
def VGL_CNT_HI.count : Fld := ⟨0, 16⟩
/-- VGL_ALARM_LO, offset 0x0010, privileged view. -/
def VGL_ALARM_LO : Nat := 0x1B0010
def VGL_ALARM_LO.alarm : Fld := ⟨0, 32⟩
/-- VGL_ALARM_HI, offset 0x0014, privileged view. -/
def VGL_ALARM_HI : Nat := 0x1B0014
def VGL_ALARM_HI.alarm : Fld := ⟨0, 16⟩
/-- VGL_WDOG, offset 0x0018, privileged view. -/
def VGL_WDOG : Nat := 0x1B0018
def VGL_WDOG.key : Fld := ⟨16, 16⟩
def VGL_WDOG.timeout_ms : Fld := ⟨0, 16⟩
/-- VGL_PMIC, offset 0x001C, both view. -/
def VGL_PMIC : Nat := 0x1B001C
def VGL_PMIC.en : Fld := ⟨8, 3⟩
def VGL_PMIC.pg : Fld := ⟨4, 3⟩
/-- VGL_IRQ_STAT, offset 0x0020, both view. -/
def VGL_IRQ_STAT : Nat := 0x1B0020
def VGL_IRQ_STAT.pg_fail : Fld := ⟨2, 1⟩
def VGL_IRQ_STAT.edge_lost : Fld := ⟨1, 1⟩
def VGL_IRQ_STAT.alarm : Fld := ⟨0, 1⟩
/-- VGL_IRQ_MASK, offset 0x0024, privileged view. -/
def VGL_IRQ_MASK : Nat := 0x1B0024
/-- VGL_RET[0..1023], offset 0x1000, privileged view. -/
def VGL_RET (i : Nat) : Nat := 0x1B1000 + i * 0x4
def VGL_RET.data : Fld := ⟨0, 32⟩

/-- The registers of VGL in offset order: first offset, array dimensions, view, fields. -/
def tabVGL : List RegDef :=
  [⟨0x0, [], true, false, [⟨31, 1, .wl, .val, 0⟩, ⟨7, 1, .rw, .val, 0⟩, ⟨6, 1, .wl, .img, 0⟩, ⟨5, 1, .wl, .img, 0⟩, ⟨4, 1, .wl, .img, 0⟩, ⟨3, 1, .wl, .img, 0⟩]⟩,
   ⟨0x4, [], false, false, [⟨31, 1, .w1c, .val, 0⟩, ⟨30, 1, .w1c, .val, 0⟩, ⟨29, 1, .w1c, .val, 0⟩, ⟨28, 1, .w1c, .val, 0⟩, ⟨26, 2, .ro, .val, 0⟩, ⟨25, 1, .ro, .val, 0⟩]⟩,
   ⟨0x8, [], false, true, [⟨0, 32, .ro, .val, 0⟩]⟩,
   ⟨0xC, [], false, false, [⟨0, 16, .ro, .val, 0⟩]⟩,
   ⟨0x10, [], true, true, [⟨0, 32, .rw, .val, 0⟩]⟩,
   ⟨0x14, [], true, false, [⟨0, 16, .rw, .val, 0⟩]⟩,
   ⟨0x18, [], true, false, [⟨16, 16, .wo, .val, 0⟩, ⟨0, 16, .wl, .img, 0⟩]⟩,
   ⟨0x1C, [], false, false, [⟨8, 3, .ro, .val, 0⟩, ⟨4, 3, .ro, .val, 0⟩]⟩,
   ⟨0x20, [], false, false, [⟨2, 1, .w1c, .val, 0⟩, ⟨1, 1, .w1c, .val, 0⟩, ⟨0, 1, .w1c, .val, 0⟩]⟩,
   ⟨0x24, [], true, false, [⟨2, 1, .rw, .val, 0⟩, ⟨1, 1, .rw, .val, 0⟩, ⟨0, 1, .rw, .val, 0⟩]⟩,
   ⟨0x1000, [⟨0, 1024, 0x4⟩], true, false, [⟨0, 32, .rw, .val, 0⟩]⟩]

/-! ### HLT (spec/15_almanac_health.md) -/

/-- HLT_CFG, offset 0x0000, privileged view. -/
def HLT_CFG : Nat := 0x1C0000
def HLT_CFG.lock : Fld := ⟨31, 1⟩
def HLT_CFG.fifo_en : Fld := ⟨23, 1⟩
def HLT_CFG.fifo : Fld := ⟨16, 6⟩
def HLT_CFG.report_ms : Fld := ⟨0, 16⟩
/-- HLT_STAT, offset 0x0004, both view. -/
def HLT_STAT : Nat := 0x1C0004
def HLT_STAT.floor : Fld := ⟨31, 1⟩
def HLT_STAT.selftest_ok : Fld := ⟨30, 1⟩
def HLT_STAT.log_failed : Fld := ⟨29, 1⟩
def HLT_STAT.log_full : Fld := ⟨28, 1⟩
def HLT_STAT.unroutable : Fld := ⟨27, 1⟩
def HLT_STAT.degraded : Fld := ⟨8, 8⟩
def HLT_STAT.retired : Fld := ⟨0, 8⟩
/-- HLT_ERR, offset 0x0008, both view. -/
def HLT_ERR : Nat := 0x1C0008
def HLT_ERR.transient : Fld := ⟨24, 8⟩
def HLT_ERR.report_dropped : Fld := ⟨16, 8⟩
def HLT_ERR.trans_sat : Fld := ⟨1, 1⟩
def HLT_ERR.drop_sat : Fld := ⟨0, 1⟩
/-- HLT_IRQ_STAT, offset 0x000C, both view. -/
def HLT_IRQ_STAT : Nat := 0x1C000C
def HLT_IRQ_STAT.report : Fld := ⟨3, 1⟩
def HLT_IRQ_STAT.degraded : Fld := ⟨2, 1⟩
def HLT_IRQ_STAT.retired : Fld := ⟨1, 1⟩
def HLT_IRQ_STAT.transient : Fld := ⟨0, 1⟩
/-- HLT_IRQ_MASK, offset 0x0010, privileged view. -/
def HLT_IRQ_MASK : Nat := 0x1C0010
/-- HLT_REPORT[0..15], offset 0x0040, both view. -/
def HLT_REPORT (i : Nat) : Nat := 0x1C0040 + i * 0x4
def HLT_REPORT.octets : Fld := ⟨0, 32⟩
/-- HLT_CLASS[0..8], offset 0x0100, both view. -/
def HLT_CLASS (i : Nat) : Nat := 0x1C0100 + i * 0x4
def HLT_CLASS.in_service : Fld := ⟨22, 10⟩
def HLT_CLASS.retired : Fld := ⟨12, 10⟩
def HLT_CLASS.degraded : Fld := ⟨4, 8⟩
/-- HLT_ACC_ERR[0..30], offset 0x0200, both view. -/
def HLT_ACC_ERR (i : Nat) : Nat := 0x1C0200 + i * 0x4
def HLT_ACC_ERR.sat : Fld := ⟨31, 1⟩
def HLT_ACC_ERR.last_master : Fld := ⟨27, 4⟩
def HLT_ACC_ERR.count : Fld := ⟨0, 16⟩

/-- The registers of HLT in offset order: first offset, array dimensions, view, fields. -/
def tabHLT : List RegDef :=
  [⟨0x0, [], true, false, [⟨31, 1, .wl, .val, 0⟩, ⟨23, 1, .ro, .img, 0⟩, ⟨16, 6, .ro, .img, 0⟩, ⟨0, 16, .wl, .img, 0⟩]⟩,
   ⟨0x4, [], false, false, [⟨31, 1, .ro, .val, 0⟩, ⟨30, 1, .ro, .val, 1⟩, ⟨29, 1, .ro, .val, 0⟩, ⟨28, 1, .ro, .val, 0⟩, ⟨27, 1, .ro, .val, 0⟩, ⟨8, 8, .ro, .val, 0⟩, ⟨0, 8, .ro, .val, 0⟩]⟩,
   ⟨0x8, [], false, false, [⟨24, 8, .rwv, .val, 0⟩, ⟨16, 8, .rwv, .val, 0⟩, ⟨1, 1, .w1c, .val, 0⟩, ⟨0, 1, .w1c, .val, 0⟩]⟩,
   ⟨0xC, [], false, false, [⟨3, 1, .w1c, .val, 0⟩, ⟨2, 1, .w1c, .val, 0⟩, ⟨1, 1, .w1c, .val, 0⟩, ⟨0, 1, .w1c, .val, 0⟩]⟩,
   ⟨0x10, [], true, false, [⟨3, 1, .rw, .val, 0⟩, ⟨2, 1, .rw, .val, 0⟩, ⟨1, 1, .rw, .val, 0⟩, ⟨0, 1, .rw, .val, 0⟩]⟩,
   ⟨0x40, [⟨0, 16, 0x4⟩], false, false, [⟨0, 32, .ro, .val, 0⟩]⟩,
   ⟨0x100, [⟨0, 9, 0x4⟩], false, false, [⟨22, 10, .ro, .img, 0⟩, ⟨12, 10, .ro, .val, 0⟩, ⟨4, 8, .ro, .val, 0⟩]⟩,
   ⟨0x200, [⟨0, 31, 0x4⟩], false, false, [⟨31, 1, .w1c, .val, 0⟩, ⟨27, 4, .ro, .val, 0⟩, ⟨0, 16, .rwv, .val, 0⟩]⟩]

/-! ### DDR (spec/16_power_reset_boot.md) -/

/-- DDR_CFG, offset 0x0000, privileged view. -/
def DDR_CFG : Nat := 0x1D0000
def DDR_CFG.lock : Fld := ⟨31, 1⟩
def DDR_CFG.ch_en : Fld := ⟨0, 2⟩
/-- DDR_INIT, offset 0x0004, privileged view. -/
def DDR_INIT : Nat := 0x1D0004
def DDR_INIT.go : Fld := ⟨31, 1⟩
/-- DDR_STAT, offset 0x0008, both view. -/
def DDR_STAT : Nat := 0x1D0008
def DDR_STAT.state : Fld := ⟨29, 3⟩
/-- DDR_CH_CFG[0..1], offset 0x0010, privileged view. -/
def DDR_CH_CFG (i : Nat) : Nat := 0x1D0010 + i * 0x10
def DDR_CH_CFG.rate : Fld := ⟨28, 4⟩
def DDR_CH_CFG.density : Fld := ⟨24, 4⟩
def DDR_CH_CFG.ranks : Fld := ⟨22, 2⟩
/-- DDR_CH_STAT[0..1], offset 0x0014, both view. -/
def DDR_CH_STAT (i : Nat) : Nat := 0x1D0014 + i * 0x10
def DDR_CH_STAT.state : Fld := ⟨30, 2⟩
def DDR_CH_STAT.rate : Fld := ⟨26, 4⟩
def DDR_CH_STAT.size : Fld := ⟨16, 10⟩
def DDR_CH_STAT.attempts : Fld := ⟨8, 8⟩
/-- DDR_CH_TRAIN[0..1], offset 0x0018, both view. -/
def DDR_CH_TRAIN (i : Nat) : Nat := 0x1D0018 + i * 0x10
def DDR_CH_TRAIN.wr_margin : Fld := ⟨24, 8⟩
def DDR_CH_TRAIN.rd_margin : Fld := ⟨16, 8⟩
def DDR_CH_TRAIN.vref_ca : Fld := ⟨8, 8⟩
def DDR_CH_TRAIN.vref_dq : Fld := ⟨0, 8⟩
/-- DDR_CH_ERR[0..1], offset 0x001C, both view. -/
def DDR_CH_ERR (i : Nat) : Nat := 0x1D001C + i * 0x10
def DDR_CH_ERR.sr_fail : Fld := ⟨24, 8⟩
def DDR_CH_ERR.zq_fail : Fld := ⟨16, 8⟩
def DDR_CH_ERR.sr_sat : Fld := ⟨1, 1⟩
def DDR_CH_ERR.zq_sat : Fld := ⟨0, 1⟩

/-- The registers of DDR in offset order: first offset, array dimensions, view, fields. -/
def tabDDR : List RegDef :=
  [⟨0x0, [], true, false, [⟨31, 1, .wl, .val, 0⟩, ⟨0, 2, .ro, .img, 0⟩]⟩,
   ⟨0x4, [], true, false, [⟨31, 1, .wo, .val, 0⟩]⟩,
   ⟨0x8, [], false, false, [⟨29, 3, .ro, .val, 0⟩]⟩,
   ⟨0x10, [⟨0, 2, 0x10⟩], true, false, [⟨28, 4, .ro, .img, 0⟩, ⟨24, 4, .ro, .img, 0⟩, ⟨22, 2, .ro, .img, 0⟩]⟩,
   ⟨0x14, [⟨0, 2, 0x10⟩], false, false, [⟨30, 2, .ro, .val, 0⟩, ⟨26, 4, .ro, .val, 0⟩, ⟨16, 10, .ro, .val, 0⟩, ⟨8, 8, .ro, .val, 0⟩]⟩,
   ⟨0x18, [⟨0, 2, 0x10⟩], false, false, [⟨24, 8, .ro, .val, 0⟩, ⟨16, 8, .ro, .val, 0⟩, ⟨8, 8, .ro, .val, 0⟩, ⟨0, 8, .ro, .val, 0⟩]⟩,
   ⟨0x1C, [⟨0, 2, 0x10⟩], false, false, [⟨24, 8, .rwv, .val, 0⟩, ⟨16, 8, .rwv, .val, 0⟩, ⟨1, 1, .w1c, .val, 0⟩, ⟨0, 1, .w1c, .val, 0⟩]⟩]

/-! ### PIN (spec/02_structure_and_host_ports.md) -/

/-- PIN_FUNC[0..95], offset 0x0000, privileged view. -/
def PIN_FUNC (i : Nat) : Nat := 0x1E0000 + i * 0x4
def PIN_FUNC.safe : Fld := ⟨11, 2⟩
def PIN_FUNC.schmitt : Fld := ⟨10, 1⟩
def PIN_FUNC.drive : Fld := ⟨8, 2⟩
def PIN_FUNC.slew : Fld := ⟨7, 1⟩
def PIN_FUNC.pull : Fld := ⟨5, 2⟩
def PIN_FUNC.alt : Fld := ⟨0, 2⟩
/-- PIN_LOCK, offset 0x0200, privileged view. -/
def PIN_LOCK : Nat := 0x1E0200
def PIN_LOCK.lock : Fld := ⟨0, 1⟩
/-- PIN_IN[0..2], offset 0x0210, both view. -/
def PIN_IN (i : Nat) : Nat := 0x1E0210 + i * 0x4
def PIN_IN.level : Fld := ⟨0, 32⟩
/-- PIN_OUT[0..2], offset 0x0220, both view. -/
def PIN_OUT (i : Nat) : Nat := 0x1E0220 + i * 0x4
def PIN_OUT.out : Fld := ⟨0, 32⟩
/-- PIN_OE[0..2], offset 0x0230, both view. -/
def PIN_OE (i : Nat) : Nat := 0x1E0230 + i * 0x4
def PIN_OE.oe : Fld := ⟨0, 32⟩

/-- The registers of PIN in offset order: first offset, array dimensions, view, fields. -/
def tabPIN : List RegDef :=
  [⟨0x0, [⟨0, 96, 0x4⟩], true, false, [⟨11, 2, .wl, .img, 0⟩, ⟨10, 1, .wl, .img, 0⟩, ⟨8, 2, .wl, .img, 0⟩, ⟨7, 1, .wl, .img, 0⟩, ⟨5, 2, .wl, .img, 0⟩, ⟨0, 2, .wl, .img, 0⟩]⟩,
   ⟨0x200, [], true, false, [⟨0, 1, .wl, .val, 0⟩]⟩,
   ⟨0x210, [⟨0, 3, 0x4⟩], false, false, [⟨0, 32, .ro, .val, 0⟩]⟩,
   ⟨0x220, [⟨0, 3, 0x4⟩], false, false, [⟨0, 32, .rw, .val, 0⟩]⟩,
   ⟨0x230, [⟨0, 3, 0x4⟩], false, false, [⟨0, 32, .rw, .val, 0⟩]⟩]

end Sys2Proof.Reg
end

