-- ==== Sys2Proof/Machine/Maps.lean ====
section
/-! DEFINITION. Sparse tables. Memory, the register file and every table of units are lists of (number, value) pairs in one
canonical form: numbers strictly rising, and no entry equal to what an unlisted number reads as. -/

namespace Sys2Proof

/-- A sparse table. -/
abbrev Map (α : Type) := List (Nat × α)

/-- The value at `k`: the listed one, else what an unlisted number reads as. -/
def Map.get {α : Type} (d : Nat → α) : Map α → Nat → α
  | [], k => d k
  | (j, v) :: m, k => if j = k then v else Map.get d m k

/-- Put `v` at `k`, keeping the canonical form: an entry that would equal the unlisted value is left out. Whatever else the list
holds, the number `k` reads as `v` after it. -/
def Map.put {α : Type} [DecidableEq α] (d : Nat → α) : Map α → Nat → α → Map α
  | [], k, v => if v = d k then [] else [(k, v)]
  | (j, w) :: m, k, v =>
    if k < j then (if v = d k then (j, w) :: m.filter (fun p => decide (p.1 ≠ k)) else (k, v) :: (j, w) :: m)
    else if k = j then Map.put d m k v
    else (j, w) :: Map.put d m k v

/-- The canonical form: numbers strictly rising, no entry equal to the unlisted value. -/
def Map.wf {α : Type} [DecidableEq α] (d : Nat → α) : Map α → Bool
  | [] => true
  | [(j, v)] => decide (v ≠ d j)
  | (j, v) :: (k, w) :: m => decide (v ≠ d j) && decide (j < k) && Map.wf d ((k, w) :: m)

/-- The entry of a table of units, whose unlisted entries are idle. -/
def Map.at {α : Type} [Inhabited α] (m : Map α) (k : Nat) : α := Map.get (fun _ => default) m k

/-- Replace the entry of a table of units. -/
def Map.set {α : Type} [DecidableEq α] [Inhabited α] (m : Map α) (k : Nat) (v : α) : Map α :=
  Map.put (fun _ => default) m k v

/-- Change the entry of a table of units. -/
def Map.upd {α : Type} [DecidableEq α] [Inhabited α] (m : Map α) (k : Nat) (f : α → α) : Map α :=
  m.set k (f (m.at k))

/-- The canonical form of a table of units. -/
def Map.ok {α : Type} [DecidableEq α] [Inhabited α] (m : Map α) : Bool := Map.wf (fun _ => (default : α)) m

/-- Replace element `n` of a list, if there is one. -/
def listSet {α : Type} (l : List α) (n : Nat) (v : α) : List α := l.set n v

/-- Is `x` in the list (as a Bool). -/
def memb {α : Type} [DecidableEq α] (x : α) (l : List α) : Bool := l.any (fun y => decide (y = x))

/-- The list without every `x`. -/
def without {α : Type} [DecidableEq α] (x : α) (l : List α) : List α := l.filter (fun y => decide (y ≠ x))

/-- Insert into a list ordered by a key, after its equals. -/
def insertBy {α : Type} (key : α → Nat) (x : α) : List α → List α
  | [] => [x]
  | y :: ys => if key x < key y then x :: y :: ys else y :: insertBy key x ys

/-- A list ordered by a key; elements with equal keys keep their order. -/
def sortBy {α : Type} (key : α → Nat) (l : List α) : List α := l.foldl (fun acc y => insertBy key y acc) []

/-- A list without later repeats. -/
def dedup {α : Type} [DecidableEq α] (l : List α) : List α :=
  l.foldl (fun acc x => if memb x acc then acc else acc ++ [x]) []

end Sys2Proof
end

