-- ==== Sys2Proof/Machine/State.lean ====
section
/-! DEFINITION. The state of the machine: every register and all state that the specification names or implies, as plain data, and the queue of waiting commands. Each record holds what its block has beyond its registers; the registers stand in one table. -/

namespace Sys2Proof.Machine

/-! ### The bus and the outside world -/

/-- What the last access answered: nothing asked, done, data read, a bus error (R9), held behind a full staging queue (R56),
octets shifted out (R60, R228), or a PCI Express Completer Abort (R59). -/
inductive Resp
  | none | done | data (ws : List Word) | busError | held | octets (bs : List Byte) | completerAbort
deriving DecidableEq, Repr, Inhabited

/-- What the last command sent to the world outside: a lane frame, an Ethernet frame, a pin's level, a notice to a core, … -/
inductive Out
  | lane (lane : Nat) (kind : Nat) (octets : List Byte)
  | eth (port : Nat) (octets : List Byte)
  | pair (kind : Nat) (octets : List Byte)
  | axis (link : Nat) (octets : List Byte)
  | pin (name : String) (level : Bool)
  | lanePin (lane : Nat) (name : String)
  | interrupt (core : Nat) (level : Nat) (line : Nat)
  | exception (master : Nat)
  | host (port : Nat) (vector : Nat)
  | hostWrite (port : Nat) (addr : Nat) (octets : List Byte)
  | lostTask (handle : Nat)
  | mirror (seq : Nat) (item : MirrorItem)
  | snapshot (seq : Nat) (items : List MirrorItem)
deriving DecidableEq, Repr, Inhabited

/-- A write that waits for room in the staging queue (R56). -/
structure Held where
  via : BusAcc
  reg : Nat
  value : Word
deriving DecidableEq, Repr, Inhabited

/-- An Almanac record (R361), less its check octet, which is computed from the rest. -/
structure AlmRec where
  stamp : Nat
  seq : Nat
  source : Nat
  code : Nat
  a0 : Word
  a1 : Word
  a2 : Word
  repeats : Nat
  flags : Nat
deriving DecidableEq, Repr, Inhabited

/-- The fabric: per-master shadows of 64-bit reads, snapshots and low-word writes (R11), the staging queue of configuration
records (R56), the writes held behind it, and the promotions of waiting requesters (R29). -/
structure BusSt where
  readShadow : Map (Option Word)
  writeShadow : Map (Option Word)
  staging : List AlmRec
  waiting : List Held
  promoted : Map Nat
  resp : Resp
  out : List Out
deriving DecidableEq, Repr, Inhabited

/-- A core as the device sees it (R38, R41, R43): interrupts taken and not yet returned from (line and level, innermost first), lines
waiting for the core, whether it is halted through the test access port, whether it waits for an interrupt (R379), its
cycle counter in fifths of a cycle, and the Spindle deliveries and steals that its event counters can count. -/
structure CoreSt where
  taken : List (Nat × Nat)
  waiting : List Nat
  halted : Bool
  idle : Bool
  cycles : Nat
  deliveries : Nat
  steals : Nat
deriving DecidableEq, Repr, Inhabited

/-! ### CFG, host ports, semaphores, pins (spec/02_structure_and_host_ports.md) -/

/-- The configuration block beyond its registers: the image in force, the image and the source of the reload in progress, the
partitions applied since reset, the preset sequencer's queue of selections (function, preset, master) and the function it is busy with, interrupt lines
pending for want of a core, and the register fields covered by the active presets. -/
structure CfgSt where
  image : Image
  candidate : Option Image
  fromMemory : Bool
  reloadMaster : Nat
  applied : List Nat
  presetBusy : Option Nat
  presetQueue : List (Nat × Nat × Nat)
  unroutable : List Nat
deriving DecidableEq, Repr, Inhabited

/-- A host port beyond its registers: reset armed by SPI command 0x66, last SPI frame failed, CRC error seen, watchdog expired
since the last status (R60). -/
structure HostSt where
  resetArmed : Bool
  lastFailed : Bool
  crcSeen : Bool
  wdogSeen : Bool
deriving DecidableEq, Repr, Inhabited

/-! ### Almanac and health (spec/15_almanac_health.md) -/

/-- A log clear in progress: the next 64 KiB block to erase, and the clear counter that its record will show (R367). -/
structure ClearSt where
  nextBlock : Nat
  counter : Nat
deriving DecidableEq, Repr, Inhabited

/-- The Almanac beyond its registers: the open record, the closed records not yet programmed (oldest first), how many of them a
page program under way covers and its failed attempts (programs, verifications, erases), each source's next sequence number and the number after its last
recorded event, events dropped per source, the last clear counter accepted, the clear in progress, the last-gasp store,
and the words each master has posted. -/
structure AlmSt where
  opened : Option AlmRec
  buffer : List AlmRec
  programming : Nat
  attempts : Nat × Nat × Nat
  seqs : Map Nat
  covered : Map Nat
  drops : Map Nat
  clearCtr : Nat
  clear : Option ClearSt
  lastGasp : List AlmRec
  carried : Nat
  carriedLost : Nat
  posts : Map (Word × Word × Word)
  postResult : Map Nat
deriving DecidableEq, Repr, Inhabited

/-- A retirement decided: unit class and instance (R373, R374). -/
structure Retire where
  cls : Nat
  inst : Nat
deriving DecidableEq, Repr, Inhabited

/-- The health manager beyond its registers: the times of each unit's transient faults (by class × 4096 + instance), the units
retired and the units kept degraded (R35), the retirements in progress (the first is being replaced), the times of all
transients of the last minute, whether each kind of self-test failed last, the report's sequence number
(R375), and the spare SRAM bank's state (R23). `inherited` counts the entries of `retired` that a start took from the bank-retirement
record (R393), which are no retirements since reset. -/
structure HltSt where
  windows : Map (List Nat)
  retired : List Retire
  inherited : Nat
  degraded : List Retire
  queue : List Retire
  recent : List Nat
  tileTestFailed : List Nat
  dryRunFailed : Bool
  widened : Bool
  reportSeq : Nat
  spareBank : Option Nat
  bankMap : Map Nat
  migrating : Option (Nat × Nat)
  poisoned : List Nat
  deadBanks : List Nat
deriving DecidableEq, Repr, Inhabited

/-! ### Flash -/

/-- The sizes that SFDP discovery finds of the IMG and LOG flash parts (R21, R366, R406). -/
structure FlashSt where
  imgSize : Nat
  logSize : Nat
deriving DecidableEq, Repr, Inhabited

/-! ### Spindle, SMU, DMA, mailboxes, streams (spec/03_spindle_smu_streams.md) -/

/-- The states of a task slot (SPN_TASK_STAT.state). -/
inductive TaskState
  | free | waiting | ready | offered | running | saving | preempted
deriving DecidableEq, Repr, Inhabited

/-- A task slot (R66, R67): the slot's generation, the task's state and fields, whether a token carried the error flag,
whether it has been pre-empted before, and whether its affinity window is open (R70). -/
structure Task where
  gen : Nat
  state : TaskState
  prio : Nat
  affinity : Nat
  lastCore : Nat
  noHome : Bool
  count : Nat
  errIn : Bool
  resumed : Bool
  window : Bool
  entry : BitVec 64
  arg : BitVec 64
  succ : Nat
deriving DecidableEq, Repr, Inhabited

/-- A core as Spindle sees it: the slot offered, the slot running and the slots being saved. -/
structure SpnCore where
  offer : Option Nat
  running : Option Nat
  saving : List Nat
deriving DecidableEq, Repr, Inhabited

/-- Spindle beyond its registers: slots, the ready list of each priority in order (R70), cores, each master's submission
result, and the read index of the spill ring, whose entries stand in DRAM (R74). -/
structure SpnSt where
  tasks : Map Task
  ready : Map (List Nat)
  cores : Map SpnCore
  results : Map Word
  ringRead : Nat
  ringCount : Nat
deriving DecidableEq, Repr, Inhabited

/-- A record of the fault queue (R79). -/
structure FaultRec where
  addr : Nat
  kind : Nat
  write : Bool
  ctx : Nat
  unit : Nat
deriving DecidableEq, Repr, Inhabited

/-- The System Memory Unit beyond its registers: the fault queue, the invalidations queued behind the running one (scope, context, page), and the
cached translations (by context × 2^24 + page, R77). -/
structure SmuSt where
  queue : List FaultRec
  queuedInval : List (Nat × Nat × Nat)
  running : Nat × Nat × Nat
  cached : Map (Option Nat)
deriving DecidableEq, Repr, Inhabited

/-- A DMA descriptor as fetched (R80). -/
structure DmaDesc where
  next : Nat
  src : Nat
  dst : Nat
  length : Nat
  ctx : Nat
  srcSpace : Nat
  dstSpace : Nat
  flags : Nat
  token : Nat
  bad : Nat
deriving DecidableEq, Repr, Inhabited

/-- A DMA channel beyond its registers: the current descriptor, and whether a packet FIFO pauses it (R82). -/
structure DmaCh where
  desc : Option DmaDesc
  paused : Bool
deriving DecidableEq, Repr, Inhabited

/-- A mailbox channel beyond its registers: the messages towards side a and towards side b, oldest first, each a 40-bit pointer
and a tag (R91). -/
structure MbxCh where
  toA : List (Nat × Nat)
  toB : List (Nat × Nat)
deriving DecidableEq, Repr, Inhabited

/-- A packet visible to the consumer (R96, R97): its header, its data words, whether it is complete, and whether words still
being written are discarded after a skip (R101). -/
structure Pkt where
  tag : Nat
  length : Nat
  abort : Bool
  drop : Bool
  words : List Word
  complete : Bool
  skipped : Bool
deriving DecidableEq, Repr, Inhabited

/-- A packet FIFO beyond its registers: packets in order (the last may be an open cut-through packet), the words of the open
framed packet, whether its length word is reserved, whether a push of the packet was dropped, how many words of the first
packet the consumer has taken and whether it has begun it, the pointers, a flush not yet acted on, and the packets that
hardware producers hold behind a full FIFO (producer's number, tag, octets; R99). -/
structure Fifo where
  pkts : List Pkt
  openWords : List Word
  reserved : Bool
  dropping : Bool
  begun : Bool
  taken : Nat
  wr : Nat
  rd : Nat
  flushPending : Bool
  waiting : List (Nat × Nat × List Byte)
deriving DecidableEq, Repr, Inhabited

/-! ### The GNSS reference receiver (spec/04_gnss_reference.md) -/

/-- The states of a tracking channel (R108). -/
inductive ChPhase
  | idle | pullIn | tracking | lost | retired
deriving DecidableEq, Repr, Inhabited

/-- A tracking channel (R107, R108): its phase, its triple (antenna, signal, satellite) with the GLONASS k + 7 or 15, lock_loss to be
shown at the next epoch, the time its lock began, half cycle, C/N0, last verdict, whether a reload omits it from the next
epoch, its code-minus-carrier of the window (time, µm), its last carrier residual (2^-16 cycle), and the whole cycles that
align its RTCM phase with the pseudorange. -/
structure GnsCh where
  phase : ChPhase
  ant : Nat
  sig : Nat
  sv : Nat
  k : Nat
  lockLoss : Bool
  lockAt : Nat
  half : Bool
  cn0 : Nat
  verdict : Nat
  skipNext : Bool
  cmc : List (Nat × Int)
  res : Option Int
  align : Option Int
deriving DecidableEq, Repr, Inhabited

/-- A request for a search (R109): the triple, the Doppler hint, and whether the 10 s hold of a triple not found runs. -/
structure AcqReq where
  ant : Nat
  sig : Nat
  sv : Nat
  hint : Option Int
  held : Bool
deriving DecidableEq, Repr, Inhabited

/-- A satellite as the navigation store shows it: elevation in 0.01°, health, GLONASS k + 7 or 15. -/
structure Sat where
  elev : Nat
  healthy : Bool
  k : Nat
deriving DecidableEq, Repr, Inhabited

/-- An antenna beyond its registers (R115): faulted, its reason, consecutive missing epochs, since when its C/N0 is low and since
when its verdicts are clean. -/
structure GnsAnt where
  faulted : Bool
  reason : Nat
  missing : Nat
  lowSince : Option Nat
  cleanSince : Option Nat
deriving DecidableEq, Repr, Inhabited

/-- A record being written (R121–R123): its buffer, its epoch number, whether the buffer has been marked invalid, header, entries, and
the next entry. -/
structure RecJob where
  index : Nat
  epoch : Nat
  marked : Bool
  header : List Byte
  entries : List (List Byte)
  next : Nat
deriving DecidableEq, Repr, Inhabited

/-- The receiver beyond its registers: channels, the acquisition queue, the searches under way with the time each began, the
satellites by constellation × 64 + number, the antennas, the record being written, the next buffer in turn, whether records
have been dropped since the last one written, a return of the reference asked for, 1005/1006 and 1033 due after a reload,
each route's last interval of 1005, 1033 and 1230 plus one, how many messages of its last epoch each route emitted, and the GPS
time in ns of the epoch latched last. -/
structure GnsSt where
  chs : Map GnsCh
  queue : List AcqReq
  searches : Map (Option (AcqReq × Nat))
  sats : Map Sat
  ants : Map GnsAnt
  job : Option RecJob
  nextBuf : Nat
  dropped : Bool
  restore : Bool
  resend : Bool
  due : Map (Nat × Nat × Nat)
  sent : Map Nat
  lastGps : Nat
deriving DecidableEq, Repr, Inhabited

/-! ### The matrix engine (spec/05_matrix_engine.md) -/

/-- Where a job stands (R139–R142): waiting, waiting for a retry, loaded and waiting to compute, computing, parked while loading, parked
while writing back. -/
inductive MtxPhase
  | queued | retrying | loading | computing | parkedLoad | parkedWrite
deriving DecidableEq, Repr, Inhabited

/-- A matrix job in its slot (R129–R133): phase, acceptance order, job_id, the descriptor's fields and address, retries made, the tile of
its dispatch and its half, the tiles its attempts failed on, the operands loaded (number, octets), and once computed: status,
index, outcome, and the outputs still to be written (operand, address, octets) with the octets of the first already written. -/
structure MtxJob where
  phase : MtxPhase
  order : Nat
  jobId : Nat
  op : Nat
  flags : Nat
  n : Nat
  m : Nat
  aux : Nat
  ctx : Nat
  handle : Nat
  addrs : List Nat
  param : Nat
  desc : Nat
  retries : Nat
  tile : Nat
  half : Nat
  failed : List Nat
  loaded : List (Nat × List Byte)
  done : Bool
  status : Nat
  index : Nat
  outcome : Nat
  outs : List (Nat × Nat × List Byte)
  offset : Nat
  operand : Nat
deriving DecidableEq, Repr, Inhabited

/-- The matrix engine beyond its registers: the slots, the slot in each tile half (tile × 2 + half), jobs accepted, the next job_id, urgent
jobs dispatched in a row while a normal one waited, each master's submission result. -/
structure MtxSt where
  slots : Map (Option MtxJob)
  halves : Map (Option Nat)
  accepted : Nat
  nextId : Nat
  streak : Nat
  results : Map Word
deriving DecidableEq, Repr, Inhabited

/-! ### Robots (spec/06_robot_fixes.md) -/

/-- An entry of a robot's observation set (R154): constellation, signal, satellite; the carrier phase last written (2^-16 cycle), Doppler
(0.05 Hz) and C/N0 (dB-Hz) held, since when it is locked, and whether it has dropped out of the seed. -/
structure SetEntry where
  con : Nat
  sig : Nat
  sv : Nat
  cp : Int
  dop : Int
  cn0 : Nat
  lockAt : Nat
  gone : Bool
deriving DecidableEq, Repr, Inhabited

/-- A robot as OBS sees it beyond its registers: the set, the last accepted epoch and its frame counter, the epoch of each buffer, and
whether the next seed asks for a full frame. -/
structure ObsRbt where
  set : List SetEntry
  last : Option Nat
  counter : Nat
  epochs : Nat × Nat
  sendFull : Bool
deriving DecidableEq, Repr, Inhabited

/-- A buffer being written (R156): robot, buffer, epoch, context address, octets. -/
structure ObsJob where
  robot : Nat
  buf : Nat
  epoch : Nat
  addr : Nat
  octets : List Byte
deriving DecidableEq, Repr, Inhabited

/-- The observation intake beyond its registers. -/
structure ObsSt where
  robots : Map ObsRbt
  job : Option ObsJob
deriving DecidableEq, Repr, Inhabited

/-- A signal of a seed's satellite (R148): code, range less the reference range in 0.125 m, GLONASS k + 7 or 15. -/
structure SeedSig where
  sig : Nat
  ofs : Int
  k : Nat
deriving DecidableEq, Repr, Inhabited

/-- A satellite of a seed (R148). -/
structure SeedSat where
  con : Nat
  sv : Nat
  r0 : Nat
  east : Int
  north : Int
  up : Int
  sigs : List SeedSig
deriving DecidableEq, Repr, Inhabited

/-- A robot's entry of a seed (R148): number, the lane it is bound to (8 for none), the four flags, tag, seed position in 2^-8 m. -/
structure SeedRbt where
  robot : Nat
  lane : Nat
  held : Bool
  posValid : Bool
  sendFull : Bool
  shadow : Bool
  tag : Nat
  d : Int × Int × Int
deriving DecidableEq, Repr, Inhabited

/-- A seed (R147, R148): the epoch it predicts, its instant, its flags, its satellites and robots, and the
satellites left out of a lane's beacon (lane, constellation × 256 + number; R241). -/
structure Seed where
  epoch : Nat
  time : Nat
  valid : Bool
  stale : Bool
  switch : Bool
  sats : List SeedSat
  robots : List SeedRbt
  left : List (Nat × Nat)
deriving DecidableEq, Repr, Inhabited

/-- An observation of the active reference in a base record. -/
structure BaseObs where
  con : Nat
  sig : Nat
  sv : Nat
  k : Nat
  pr : Nat
  dop : Int
deriving DecidableEq, Repr, Inhabited

/-- A base record as the fix manager keeps it: epoch, site time of its latch, ref_switch, whether it falls on the grid of robot epochs,
entries. -/
structure BaseRec where
  epoch : Nat
  time : Nat
  switch : Bool
  grid : Bool
  entries : List BaseObs
deriving DecidableEq, Repr, Inhabited

/-- A robot as FIX sees it: status (R165), consecutive coasting epochs and consecutive epochs not positive definite, since when it is
lost, a reset to be made at the next epoch, the last solution with its epoch's instant, the last epoch solved or coasted,
the last position report with its epoch, and the standby's own checkpoint: epoch, frame counter, whether it started from the
primary's, octets. -/
structure FixRbt where
  status : Nat
  coasts : Nat
  notPd : Nat
  lostAt : Nat
  resetDue : Bool
  sol : FixSol
  time : Nat
  done : Option Nat
  report : Option (Nat × FixSol)
  own : Option (Nat × Nat × Bool × List Byte)
deriving DecidableEq, Repr, Inhabited

/-- A verdict on its way to SP (R169), and whether it is of a shadow fix. -/
structure Verdict where
  robot : Nat
  epoch : Nat
  code : Nat
  intruded : Option Nat
  speed : Nat
  time : Nat
  ofShadow : Bool
deriving DecidableEq, Repr, Inhabited

/-- The fix manager beyond its registers: robots, recent seeds and base records (newest first), a change of the reference to be shown
in the next seed, record buffers held with their epochs (R157), position reports waiting, and SP's verdict queue. -/
structure FixSt where
  robots : Map FixRbt
  seeds : List Seed
  bases : List BaseRec
  switchDue : Bool
  holds : List (Nat × Nat)
  reports : List (Nat × Nat × List Byte)
  verdicts : List Verdict
deriving DecidableEq, Repr, Inhabited

/-- What SP keeps of a robot (R169, R170): possible excursions and shadow mismatches in a row, since when it is unverifiable, when SP
or another first had it under targeted stop, and its speed at the last verdict. -/
structure SpRbt where
  possible : Nat
  shadow : Nat
  unverifiable : Option Nat
  stopAt : Option Nat
  speed : Nat
deriving DecidableEq, Repr, Inhabited

/-- SP's own records: the robots, and the times of its targeted stops within a second. -/
structure SpSt where
  robots : Map SpRbt
  issued : List Nat
deriving DecidableEq, Repr, Inhabited


/-! ### Track reservation (spec/07_track_reservation.md) -/

/-- What a reservation test gives (R185). -/
structure RsvResult where
  status : Nat
  late : Bool
  offerValid : Bool
  onSet : Bool
  index : Nat
  token : Nat
  first : Nat
  last : Nat
  segment : Nat
  holder : Nat
  set : Nat
  offer : Nat
  delay : Nat
deriving DecidableEq, Repr, Inhabited

/-- The phases of a request slot (RSV_SLOT_STAT.state; parked shows while the slot's SMU unit is parked). -/
inductive SlotPhase
  | free | queued | writing
deriving DecidableEq, Repr, Inhabited

/-- A reservation request slot (R182, R193): the request's header fields and, once it has been tested, its result; for a
request of Lathe's own port, its path as segments and offsets. -/
structure RsvSlot where
  phase : SlotPhase
  order : Nat
  reqId : Nat
  op : Nat
  flags : Nat
  robot : Nat
  count : Nat
  ctx : Nat
  handle : Nat
  arg : Nat
  oldToken : Nat
  resp : Nat
  addr : Nat
  committed : Bool
  result : RsvResult
  lathe : Bool
  path : List (Nat × Nat × Nat)
deriving DecidableEq, Repr, Inhabited

/-- The reservation engine beyond its registers: the graph, its segment count, the pool, the token records, the records freed in
order and the count of records never used, the validity table, the robots barred, the request slots, each master's
submission result, the next req_id, the commit order, the poisoned calendars with their tick, the segments closed by an
uncorrectable error, and the tokens that wait for the partner's acknowledgement with their mirror sequence. -/
structure RsvSt where
  segs : Map Seg
  segCount : Nat
  entries : List Entry
  toks : Map TokRec
  freed : List Nat
  used : Nat
  validity : Map Validity
  barred : List Nat
  slots : Map RsvSlot
  results : Map Word
  nextReq : Nat
  accepted : Nat
  commits : Nat
  poison : List (Nat × Nat)
  eccClosed : List Nat
  waitAck : List (Nat × Nat)
deriving DecidableEq, Repr, Inhabited


/-! ### Lathe and local axes (spec/08_lathe.md) -/

/-- An element of a Lathe request (R203), with the tick (in ns of site time) at which a negotiated dwell ends (R206). -/
structure LthElem where
  seg : Nat
  stop : Bool
  dwell : Nat
  endOfs : Nat
  till : Option Nat
deriving DecidableEq, Repr, Inhabited

/-- The phases of a computation slot (LTH_SLOT_STAT.state; parked shows while the slot's SMU unit is parked). -/
inductive LthPhase
  | free | waiting | computing | reserving | writing
deriving DecidableEq, Repr, Inhabited

/-- The response of a Lathe request (R208), with whether a conflict has been met and whether the last one had an offer. -/
structure LthResult where
  status : Nat
  rsvStatus : Nat
  rounds : Nat
  token : Nat
  first : Nat
  last : Nat
  arrive : Nat
  dwell : Nat
  index : Nat
  holder : Nat
  offer : Nat
  clash : Bool
  offered : Bool
deriving DecidableEq, Repr, Inhabited

/-- A computation slot (R203–R209): the request, its start in ns of site time once fixed, the start offset, speed and acceleration
it begins with, its elements as amended, its last profile and windows, the request slot it holds in the reservation
engine, since when it has been refused busy, and its response. -/
structure LthSlot where
  phase : LthPhase
  order : Nat
  reqId : Nat
  op : Nat
  flags : Nat
  robot : Nat
  count : Nat
  ctx : Nat
  limit : Nat
  handle : Nat
  startTick : Nat
  oldToken : Nat
  resp : Nat
  startOfs : Nat
  v0 : Int
  a0 : Int
  startNs : Nat
  fixed : Bool
  elems : List LthElem
  prof : Option Profile
  windows : List (Nat × Nat × Nat)
  rsvSlot : Option Nat
  busySince : Option Nat
  committed : Bool
  result : LthResult
deriving DecidableEq, Repr, Inhabited

/-- Lathe beyond its registers: the computation slots, requests taken, the next req_id, and each robot's active and pending
profile. -/
structure LthSt where
  slots : Map LthSlot
  taken : Nat
  nextReq : Nat
  active : Map (Option Profile)
  pending : Map (Option Profile)
deriving DecidableEq, Repr, Inhabited

/-- An axis link beyond its registers (R214–R216): the cycle count, consecutive missing or invalid frames, times of link faults. -/
structure LinkSt where
  seq : Nat
  misses : Nat
  faults : List Nat
deriving DecidableEq, Repr, Inhabited

/-- An axis group beyond its registers (R219–R221): its members with start position and distance, the phases on s, the profile
time in ps, the time it is behind its time base in ps, the last count of its axis, whether
its Calends trigger has fired, and whether its members enter stopped when it comes to rest. -/
structure GroupSt where
  members : List (Nat × Int × Int)
  phases : List Phase
  time : Nat
  lag : Int
  lastCount : Int
  fired : Bool
  stopTo : Bool
deriving DecidableEq, Repr, Inhabited

/-- AXL beyond its registers: the axes, the links, the groups, and whether the stop sequencer's signal is on. -/
structure AxlSt where
  axes : Map AxisSt
  links : Map LinkSt
  groups : Map GroupSt
  stop : Bool
  stopDone : Bool
deriving DecidableEq, Repr, Inhabited


/-! ### The radio (spec/09_fleet_radio.md) -/

/-- A frame that a lane holds in one of its buffers, or the indirect store holds (R247, R253): its class (0 lane info, 1 track,
2 echo, 3 RTCM, 4 data, 5 site broadcast, 6 flood relay, 7 indirect, 8 rendezvous beacon), ftype, destination, neighbour
entry, AR, repetitions left, token, robot, flood fields (origin, flood_id, ttl), frame pending, payload, its secured octets
once sent, the sequence number then used, the site time before which it is not started, busy assessments so far, and since
when it waits for an ACK. -/
structure TxFrame where
  kind : Nat
  ftype : Nat
  dst : Nat
  nb : Option Nat
  ar : Bool
  retries : Nat
  token : Nat
  robot : Nat
  flood : Option (Nat × Nat × Nat)
  pend : Bool
  payload : List Byte
  psdu : List Byte
  seq : Nat
  notBefore : Nat
  busy : Nat
  waitAck : Option Nat
deriving DecidableEq, Repr, Inhabited

/-- A frame from TX_GO on (R229, R230): whether the stop sequencer sent it and as a permit mark, its token, the frame of a
buffer it is, the scheduled start of its SHR, and its octets with the FCS. -/
structure OnAir where
  stp : Bool
  mark : Bool
  cca : Bool
  token : Nat
  frame : Option TxFrame
  start : Nat
  octets : Nat
deriving DecidableEq, Repr, Inhabited

/-- A frame read from a transceiver (R228, R229): its PSDU without FCS, RSSI, LQI, and the time of its TS falling edge. -/
structure RxFrame where
  psdu : List Byte
  rssi : Nat
  lqi : Nat
  time : Nat
deriving DecidableEq, Repr, Inhabited

/-- A radio lane beyond its registers: frames in flight, the frame on the air, whether the stop sequencer has closed RAD's command
gate (R265), lane info due (R243), the aux layout in force, frames read and not yet processed, successive reads that
returned nothing, receiver on, the sequence numbers of RAD's broadcasts and of the sequencer's frames, RTCM messages
waiting, and the first cell of the stop run claimed in the current window. -/
structure LaneSt where
  frames : List TxFrame
  onAir : Option OnAir
  shut : Bool
  infoDue : Bool
  aux : Bool
  rx : List RxFrame
  idleReads : Nat
  rxOn : Bool
  bseq : Nat
  stpSeq : Nat
  rtcm : List (List Byte)
  run : Option Nat
deriving DecidableEq, Repr, Inhabited

/-- A site broadcast to be relayed (R252): frame, lanes it is still to be relayed on. -/
structure Relay where
  frame : TxFrame
  lanes : List Nat
deriving DecidableEq, Repr, Inhabited

/-- A frame in the indirect store: neighbour, since when, frame (R253). -/
structure Indirect where
  nb : Nat
  since : Nat
  frame : TxFrame
deriving DecidableEq, Repr, Inhabited

/-- An observation frame on its way to OBS (R246): lane, robot, epoch field, frame counter, payload, time of the
TS falling edge. -/
structure ObsIn where
  lane : Nat
  robot : Nat
  epoch : Nat
  counter : Nat
  payload : List Byte
  time : Nat
deriving DecidableEq, Repr, Inhabited

/-- A stop frame on its way to the stop sequencer (R246): lane, neighbour, robot, flood fields, payload. -/
structure StopIn where
  lane : Nat
  nb : Nat
  robot : Nat
  flood : Nat × Nat × Nat
  payload : List Byte
deriving DecidableEq, Repr, Inhabited

/-- The radio beyond its registers: the lanes, whether superframes have begun, the current T_sf and its robot epoch number, each
neighbour's record of accepted sequence numbers (R245), the seen-cache (origin, flood_id, time; R251), site broadcasts to
relay, the indirect store, frames on their way to OBS, to the stop sequencer and to the indirect store (lane and
neighbour), robots bound without a slot and their lane, the notices (robot, new lane, lanes that carry them) with the
superframes left, retired lanes whose robots move at the next superframe, the neighbours heard in the open rendezvous window, and the Burl slots of the group key, the join key
and the pairwise master (RAD_KEYS, R324). -/
structure RadSt where
  lanes : Map LaneSt
  started : Bool
  tsf : Nat
  epoch : Nat
  records : Map Nat
  seen : List (Nat × Nat × Nat)
  relays : List Relay
  indirect : List Indirect
  toObs : List ObsIn
  toStp : List StopIn
  polls : List (Nat × Nat)
  unslotted : List (Nat × Nat)
  notices : List (Nat × Nat × List Nat)
  noticeLeft : Nat
  bindDue : List Nat
  window : Option (List Nat)
  keySlots : Nat × Nat × Nat
deriving DecidableEq, Repr, Inhabited

/-! ### The stop sequencer and the Equinox pair (spec/10_stop_and_equinox.md) -/

/-- A STOPA or STOPB input (R261): its two levels, when its reading last changed, whether it has become a stop and is not yet
inactive, whether it has read stop since its discrepancy was latched, and whether it has become a stop since it last read run. -/
structure StopPin where
  hi : Bool
  lo : Bool
  since : Nat
  active : Bool
  seenStop : Bool
  stopped : Bool
deriving DecidableEq, Repr, Inhabited

/-- A targeted stop (R266, R269): the robot, the sources that have named it, those that still assert, whether its hold runs,
whether its first frame is still to be sent, and reason, stop_id and t_ms of its newest event. -/
structure Target where
  robot : Nat
  sources : List Nat
  asserting : List Nat
  hold : Bool
  first : Bool
  reason : Nat
  stopId : Nat
  tms : Nat
deriving DecidableEq, Repr, Inhabited

/-- A received stop frame to be relayed (R268, R269): whether it is a fleet stop, since when it waits, its robot, flood fields
(ttl already reduced), payload, and the lanes it is still to be relayed on. -/
structure StopRelay where
  fleet : Bool
  since : Nat
  robot : Nat
  flood : Nat × Nat × Nat
  payload : List Byte
  lanes : List Nat
deriving DecidableEq, Repr, Inhabited

/-- The stop sequencer beyond its registers: the inputs (0 STOPA, 1 STOPB), fleet sources that SP asserts, outputs whose readback
differs, whether the floor is incomplete by SP, targeted stops in robot order, the robot last named, relays waiting, the
newest fleet stop's reason, stop_id and t_ms, whether its hold runs and whether its first frame still waits, when that
first frame went, the time of the newest stop event, permit_seq, the site time of the last mark, whether the release
waits for its first mark and whether that mark has gone (R272), outputs within a test pulse, the last command counter,
whether the sequencer keeps its key only until the hold ends (R341), and the robot and flood_id of the
window's own targeted frame. -/
structure StpSt where
  pins : Map StopPin
  sp : List Nat
  rbBad : List Nat
  spBad : Bool
  targets : List Target
  named : Nat
  relays : List StopRelay
  fleet : Nat × Nat × Nat
  firstAt : Option Nat
  newest : Nat
  permitSeq : Nat
  markAt : Nat
  awaitMark : Bool
  marked : Bool
  outsOn : Bool
  pulsing : List Nat
  lastCtr : Nat
  eraseKey : Bool
  window : Option (Nat × Nat)
deriving DecidableEq, Repr, Inhabited

/-- A partner's heartbeat as last received (R276): role, hold, releasing, ready, mirror_ok, fleet stop in force, mirror format,
sequence of its last mirror record, of the last it applied, and the health word. -/
structure Peer where
  role : Nat
  hold : Bool
  releasing : Bool
  ready : Bool
  mirrorOk : Bool
  stopped : Bool
  format : Nat
  sent : Nat
  applied : Nat
deriving DecidableEq, Repr, Inhabited

/-- The stages of a planned handover (R283). -/
inductive Handover
  | none | waitReady | waitMark
deriving DecidableEq, Repr, Inhabited

/-- The Equinox pair beyond its registers: the last mirror record sent and the last applied, whether a full resync has completed, whether
the mirror is in sequence, when the last record was applied, its heartbeat number and its count of link frames, when a heartbeat
was last missed, the partner as last heard, when SP last kicked, when the interlock watchdog was last kicked, when EQX_SENSE was seen high and whether
a heartbeat since has shown the partner holding (R280), when a failure was detected and whether warm, the stage of a handover, whether the first mark or stop frame after a
takeover is still to come, the end of takeover flags, whether the first base record is still to show ref_switch, the neighbour
entries and counters last mirrored, the primary's base record, and the newest two checkpoints of each robot (epoch, frame
counter, octets). -/
structure EqxSt where
  sent : Nat
  applied : Nat
  resynced : Bool
  inSequence : Bool
  appliedAt : Nat
  hbSeq : Nat
  txCount : Nat
  missedAt : Option Nat
  peer : Option Peer
  spKick : Option Nat
  wdogKick : Nat
  senseAt : Option Nat
  heldSeen : Bool
  detectAt : Option Nat
  warm : Bool
  handover : Handover
  firstMark : Bool
  flagUntil : Nat
  switchNext : Bool
  nbSent : Map (Option NbMirror)
  ctrSent : List Nat
  baseRecord : List Byte
  checkpoints : Map (List (Nat × Nat × List Byte))
deriving DecidableEq, Repr, Inhabited

/-! ### Calends (spec/11_calends.md) -/

/-- A transmit timestamp in the queue of R293. -/
structure TsEntry where
  port : Nat
  msgType : Nat
  seqId : Nat
  sec : Nat
  ns : Nat
deriving DecidableEq, Repr, Inhabited

/-- Calends beyond its registers: the counter (seconds, nanoseconds, fraction in 2^-32 ns), the increment applied and one that the
next tick commits (2^-32 ns), the sum of the servo's offsets, the increments of the last 60 s with the time each began,
the uncertainty and the time at entry to holdover, the encoders' input levels, each trigger's next value, the remaining
ticks of each TRIG_OUT pulse, the transmit timestamps, and a meter frame alignment that a trigger has asked for. -/
structure CalSt where
  sec : Nat
  ns : Nat
  frac : Nat
  inc : Nat
  incNext : Option Nat
  sum : Int
  hist : List (Nat × Nat)
  uncBase : Nat
  uncSince : Nat
  enc : Map (Bool × Bool)
  next : Map Int
  pulses : Map Nat
  tsq : List TsEntry
  meterAlign : Bool
deriving DecidableEq, Repr, Inhabited

/-! ### The Ethernet switch (spec/11_calends.md, R292–R297) -/

/-- A frame in an egress queue, without FCS: where it came from, the time its start-of-frame delimiter passed, and what PTP does to
it on the way out (0 nothing, 1 residence time of an event message, 2 timestamp of one that the device originates, 3 residence
of its Sync into a Follow_Up). -/
structure EthItem where
  octets : List Byte
  from_ : Nat
  time : Nat
  ptp : Nat
deriving DecidableEq, Repr, Inhabited

/-- A port's egress: eight queues by priority, ticks until the line is free, and the queue of 0–5 served last. -/
structure EthPort where
  queues : Map (List EthItem)
  busy : Nat
  last : Nat
deriving DecidableEq, Repr, Inhabited

/-- The switch beyond its registers: the ports, the address table (VLAN, address, port), and the residence times of Sync messages of a
two-step transparent clock (source port identity and sequenceId, egress port, ns). -/
structure EthSt where
  ports : Map EthPort
  table : List (Nat × Nat × Nat)
  syncs : List (Nat × Nat × Nat)
deriving DecidableEq, Repr, Inhabited

/-! ### Key ports of Burl (R337) -/

/-- The copies of keys that Burl's ports have delivered; an empty list is no key: the stop-authentication key, the one before it
while it is still accepted (R333), K_cmd, the group key, the join key, the master of the pairwise keys, the pair-link key and
the one before it. -/
structure KeyPorts where
  stop : List Byte
  stopOld : List Byte
  cmd : List Byte
  group : List Byte
  join : List Byte
  pairMaster : List Byte
  link : List Byte
  linkOld : List Byte
deriving DecidableEq, Repr, Inhabited

/-! ### Burl (spec/13_burl_keys.md) -/

/-- A position for a root in the fuse array (R323): unused, a root, or used with a check value that does not verify. -/
inductive RootPos
  | unused | root (v : List Byte) | void
deriving DecidableEq, Repr, Inhabited

/-- A key slot (R326–R328): its key (an empty list is no key), whether its uses are limited, the uses left, the count that the store
records, and whether it is emptied by a reset. -/
structure KeySlot where
  key : List Byte
  limited : Bool
  uses : Nat
  margin : Nat
  expire : Bool
deriving DecidableEq, Repr, Inhabited

/-- The shadow of a slot 0–2 (R332): its key, when it was staged, the uses of its message, the challenge in force, wrong proofs, and
once it is swapped the site time in ns at which it takes effect. -/
structure Shadow where
  key : List Byte
  uses : Nat
  expire : Bool
  since : Nat
  fails : Nat
  swapAt : Option Nat
deriving DecidableEq, Repr, Inhabited

/-- An operation in flight (R334): its state (1 queued, 2 running, 3 writing, 4 parked, 5 zeroing), whether a use has been counted, order of acceptance, op_id and
the fields of its descriptor, with the descriptor's address, and whether octets have been written to dst. -/
structure BrlOp where
  state : Nat
  counted : Bool
  order : Nat
  opId : Nat
  op : Nat
  flags : Nat
  slot : Nat
  dstSlot : Nat
  ctx : Nat
  micLen : Nat
  handle : Nat
  src : Nat
  dst : Nat
  length : Nat
  aadLen : Nat
  aux : Nat
  auxLen : Nat
  swapS : Nat
  desc : Nat
  wrote : Bool
deriving DecidableEq, Repr, Inhabited

/-- A copy of the sealed store (R325): whether it opens, its generation, the counter of the last key-update message, slots and shadows. -/
structure StoreCopy where
  ok : Bool
  gen : Nat
  kuCtr : Nat
  slots : Map KeySlot
  shadows : Map (Option Shadow)
deriving DecidableEq, Repr, Inhabited

/-- Burl beyond its registers. The fuse array: root positions, provisioning closed, estate tag set. Flash and Vigil retention: the two
copies of the store, the retained generation (none once VBAT was lost). In force: the root (an empty list is none), slots, shadows, operations,
operations accepted, the next op_id, each master's submission result, failed debug answers, whether debug is unlocked,
whether a challenge has been issued, the words of an answer, tamper sources that latched in Off, and whether the key RAM has been erased while asleep. -/
structure BrlSt where
  roots : Map RootPos
  closed : Bool
  estateSet : Bool
  copyA : StoreCopy
  copyB : StoreCopy
  retained : Option Nat
  root : List Byte
  slots : Map KeySlot
  shadows : Map (Option Shadow)
  ops : Map (Option BrlOp)
  accepted : Nat
  nextId : Nat
  results : Map Word
  debugFails : Nat
  unlocked : Bool
  challenged : Bool
  answer : Map Word
  offTamper : List Nat
  erasedAsleep : Bool
deriving DecidableEq, Repr, Inhabited


/-! ### The update engine (spec/14_field_update.md) -/

/-- What an activation record holds of a partition (R352): the active slot (`true` is B), the trial flag, the tries left, the previous
slot, the rollback floor. -/
structure ActPart where
  active : Bool
  trial : Bool
  tries : Nat
  prev : Bool
  floor : Nat
deriving DecidableEq, Repr, Inhabited

/-- A copy of the activation record (R352): whether its CRC is right, its counter, its partitions. -/
structure ActCopy where
  ok : Bool
  counter : Nat
  parts : List ActPart
deriving DecidableEq, Repr, Inhabited

/-- The session header and bitmap (R349, R350): the manifest, the target slot, the blocks still to erase, the pieces received, and once
verified the Foundation hash of a structure image. -/
structure Session where
  manifest : List Byte
  part : Nat
  slot : Bool
  toErase : List Nat
  got : List Nat
  foundation : List Byte
deriving DecidableEq, Repr, Inhabited

/-- A piece being reassembled (R348): its index, its fragments by number. -/
structure PieceBuf where
  index : Nat
  frags : Map (Option (List Byte))
deriving DecidableEq, Repr, Inhabited

/-- A settings record as stored (R355): whether its CRC is right, its generation, its format, its octets. -/
structure Settings where
  ok : Bool
  gen : Nat
  format : Nat
  octets : List Byte
deriving DecidableEq, Repr, Inhabited

/-- The update engine beyond its registers. In flash: the two copies of the activation record, the session, the settings copies and the
displaced record; whether each slot verified when it was last checked (partition × 2, plus 1 for B) and its image_version. In force: the phase of the session (UPD_STAT.state), whether recovery runs, whether
IMG flash is too small, whether the Structure partition was activated at once, whether a program or erase is under way, failed attempts
in a row, pieces being reassembled (oldest first), a calibration set to be written, the recovery asked for, octets of
recovery records so far, the partitions to be rolled back at the next reset, and the record in hand while parked. -/
structure UpdSt where
  act0 : ActCopy
  act1 : ActCopy
  session : Option Session
  set0 : Settings
  set1 : Settings
  displaced : Settings
  versions : Map (Option Nat)
  phase : Nat
  recovery : Bool
  flashSmall : Bool
  liveStructure : Bool
  writing : Bool
  fails : Nat
  pieces : List PieceBuf
  calDue : Bool
  recoverNext : Bool
  rcv : List Byte
  rollbackDue : List Nat
  inHand : Option (List Byte)
deriving DecidableEq, Repr, Inhabited



/-! ### Power, reset and start-up (spec/16_power_reset_boot.md) -/

/-- The power states that are not Idle (R378); the device is in Idle while both clusters are gated (R379). -/
inductive PowerState
  | run | sleep | deepSleep | off
deriving DecidableEq, Repr, Inhabited

/-- The stages of a return, each waiting for its ready signal (R385). -/
inductive ReturnStage
  | none | regulator | oscillator | memory | logic
deriving DecidableEq, Repr, Inhabited

/-- The resume record of a Deep sleep (R384): whether its CRC is right, the mailbox channels and their doorbell words, the Calends
counter, its registers, CFG_IMG_STAT. -/
structure ResumeRec where
  ok : Bool
  mbx : Map MbxCh
  doorbells : List (Nat × Word)
  cal : CalSt
  calRegs : List (Nat × Word)
  imgStat : Word
deriving DecidableEq, Repr, Inhabited

/-- The SRAM bank-retirement record in Vigil retention (R393): whether its CRC is right, the retired bank, the count of retirements. -/
structure BankRec where
  ok : Bool
  bank : Option Nat
  count : Nat
deriving DecidableEq, Repr, Inhabited

/-- The power manager and the Vigil domain beyond their registers: the power state; the block windows whose clock stands (R20); the
step being asked (0 none), the final phase (R380, R382) and whether the attempt under way is past those that PWR_STAT.attempts can
show (R381); the stage of a return, what caused it (bits as PWR_LAST.cause), the
Vigil count at which it began and the rail being raised (R385); a failed start waiting for its retry, or that stays down until
RESETn or WAKE; whether the main supply is gone (R399); whether a boot is due, and a warm one; the strap levels sampled (R391); the
resume record (R384); the bank-retirement record (R393); the Vigil counts at which the Time domain stopped, the supply was
lost and the system watchdog was last kicked; the part of the Vigil cycle under way in 2^-8 ns; the period of the
rendezvous in Vigil counts while the device sleeps (0 for none) and the count of the one it returns for (R254, R386); VGL
writes that have not taken effect (R19). -/
structure PwrSt where
  power : PowerState
  stopped : List Nat
  step : Nat
  final : Bool
  pastCount : Bool
  stage : ReturnStage
  causes : Nat
  returnAt : Nat
  rail : Nat
  retryDue : Bool
  stayDown : Bool
  unpowered : Bool
  bootDue : Bool
  warm : Bool
  straps : Word
  resume : ResumeRec
  bankRec : BankRec
  stoppedAt : Nat
  lostAt : Nat
  kickedAt : Nat
  partCycle : Nat
  rdvPeriod : Nat
  rdvAt : Nat
  vglWrites : List (Nat × Word)
deriving DecidableEq, Repr, Inhabited

/-! ### The meter (spec/12_metering.md) -/

/-- A save slot in Vigil retention (R316): whether its CRC is right, its sequence, the accumulators with the 32 bits below them, wrap
words, spill registers, backlogs. -/
structure MeterSave where
  ok : Bool
  seq : Nat
  acc : List Nat
  wraps : List Word
  spills : List Nat
  backlogs : List Nat
deriving DecidableEq, Repr, Inhabited

/-- The last-gasp record (R317): its base slot's sequence, 20 differences, spill registers, backlogs, the bound of the loss, and whether a
difference saturated. -/
structure MeterGasp where
  base : Nat
  diffs : List Nat
  spills : List Nat
  backlogs : List Nat
  bound : Nat
  saturated : Bool
deriving DecidableEq, Repr, Inhabited

/-- A pulse stage beyond its registers (R314, R315): constant and quantity in force, whether a write waits for the next frame, the
spill register in 2^-52 Wh, the pulse ball active. -/
structure PulseStage where
  const : Nat
  qty : Nat
  due : Bool
  spill : Nat
  active : Bool
deriving DecidableEq, Repr, Inhabited

/-- The meter beyond its registers: the previous samples, channels whose modulator has stalled, the states of the filters (channel × 2,
plus 1 for the voltage shifted by 90°), the sums over the cycle (0–2 v², 3–6 i², 7–9 p, 10–12 q) in units of 2^-64 and the frames in them, the bits below the
accumulators (group × 5 + quantity), the pulse stages, since when the supply conditions hold, windows in a row with the neutral out of limits, and in Vigil
retention the two save slots, the last-gasp record, and the Vigil count at the last save. -/
structure MtrSt where
  prev : List Int
  stalled : List Nat
  filters : Map Int
  sums : Map Int
  frames : Nat
  fracs : Map Nat
  stages : Map PulseStage
  okSince : Option Nat
  v0Over : Nat
  slotA : MeterSave
  slotB : MeterSave
  gasp : Option MeterGasp
  savedAt : Nat
deriving DecidableEq, Repr, Inhabited



/-! ### The whole device -/

/-- Everything in the device but the queue of commands. -/
structure Hw where
  /-- Registers of every block that differ from their reset value, by word number (R21); side b of a mailbox channel stands 0x8000 above side a. -/
  regs : Map Word
  /-- Octets of the boot ROM, SRAM, DRAM and the flash windows, by physical address (R21). -/
  mem : List Host.Cell
  /-- The fabric's shadows, queues and last answer. -/
  bus : BusSt
  /-- AC0–AC7 (0–7) and SP (8). -/
  cores : Map CoreSt
  /-- The configuration block. -/
  cfg : CfgSt
  /-- HA (0) and HB (1). -/
  hosts : Map HostSt
  /-- When each host semaphore was acquired, in ns of site time (SEM_PEEK.held_ms). -/
  semSince : Map Nat
  /-- Levels that the board drives on the multiplexed balls. -/
  balls : Map Bool
  /-- The Almanac. -/
  alm : AlmSt
  /-- The health manager. -/
  hlt : HltSt
  /-- Spindle. -/
  spn : SpnSt
  /-- The System Memory Unit. -/
  smu : SmuSt
  /-- The DMA channels. -/
  dma : Map DmaCh
  /-- The mailbox channels. -/
  mbx : Map MbxCh
  /-- The packet FIFOs. -/
  fifos : Map Fifo
  /-- The model's own: how many free values the run has used. -/
  freeCtr : Nat
  /-- Calends; the increment is the nominal 8 ns (R286). -/
  cal : CalSt
  /-- The sizes of the two flash parts. -/
  flash : FlashSt
  /-- The power manager and the Vigil domain. -/
  pwr : PwrSt
  /-- The reservation engine. -/
  rsv : RsvSt
  /-- The Equinox pair. -/
  eqx : EqxSt
  /-- Lathe. -/
  lth : LthSt
  /-- The axis links. -/
  axl : AxlSt
  /-- The radio. -/
  rad : RadSt
  /-- The stop sequencer. -/
  stp : StpSt
  /-- Key copies at the ports of RAD, STP and EQX. -/
  ports : KeyPorts
  /-- The GNSS reference receiver. -/
  gns : GnsSt
  /-- The Ethernet switch. -/
  eth : EthSt
  /-- The matrix engine. -/
  mtx : MtxSt
  /-- The observation intake. -/
  obs : ObsSt
  /-- The fix manager. -/
  fix : FixSt
  /-- SP's records of verdicts and stops. -/
  sp : SpSt
  /-- Burl. -/
  brl : BrlSt
  /-- The update engine. -/
  upd : UpdSt
  /-- The meter. -/
  mtr : MtrSt
deriving DecidableEq, Repr, Inhabited

/-- The machine: the device, and the commands that wait, first in, first out. -/
structure State where
  hw : Hw
  pending : List Instr
deriving DecidableEq, Repr

/-- Reasons to stop with a fault. There is none: the specification gives every command of the table an effect, and an access
to an address that does not exist is answered by a bus error (R21), which is an answer and no stop. -/
inductive Fault
deriving DecidableEq, Repr

/-- Reasons to refuse a command. -/
inductive Refusal
  /-- Raised by `exec` for a command whose meaning is not written (safe: nothing is claimed of it). -/
  | notModelled (mnemonic : String)
  /-- Raised by the meanings of commands with an operand outside its range, such as an SPI frame of more than 64 words, which
  no sender can form (R60); the string names the check (safe: the command cannot occur). -/
  | illFormed (check : String)
deriving DecidableEq, Repr

/-- The device right after device reset. Registers stand at their reset values, which the register table gives to every
register not listed (`regs := []`); what each other part holds is said in the log entries that the inventory names. -/
def Hw.reset : Hw :=
  { regs := []
    mem := []
    bus := default
    cores := []
    cfg := default
    hosts := []
    semSince := []
    balls := []
    alm := default
    hlt := default
    spn := default
    smu := default
    dma := []
    mbx := []
    fifos := []
    freeCtr := 0
    cal := { (default : CalSt) with inc := 34359738368 }
    flash := { imgSize := 67108864, logSize := 67108864 }
    pwr := { (default : PwrSt) with bootDue := true }
    rsv := default
    eqx := default
    lth := default
    axl := default
    rad := default
    stp := default
    ports := default
    gns := default
    eth := default
    mtx := default
    obs := default
    fix := default
    sp := default
    brl := default
    upd := default
    mtr := default }

/-- The machine right after device reset: no command waits. -/
def State.reset : State := { hw := Hw.reset, pending := [] }

end Sys2Proof.Machine
end

