-- ==== Sys2Proof/Machine/Ops.lean ====
section
/-! DEFINITION. The named operations over registers and memory. -/

namespace Sys2Proof

/-- The value of a field of a register word. -/
def Fld.get (f : Fld) (w : Word) : Nat := w.toNat / 2 ^ f.lo % 2 ^ f.width

/-- A register word with a field replaced; bits of `v` above the field's width are dropped. -/
def Fld.set (f : Fld) (w : Word) (v : Nat) : Word :=
  BitVec.ofNat 32
    (w.toNat / 2 ^ (f.lo + f.width) * 2 ^ (f.lo + f.width) + v % 2 ^ f.width * 2 ^ f.lo + w.toNat % 2 ^ f.lo)

/-- The largest value of a field. -/
def Fld.max (f : Fld) : Nat := 2 ^ f.width - 1

namespace Machine

open Reg

/-! ### The register table -/

/-- The register map of a block window (R21). -/
def blockTable : Nat → List RegDef
  | 0x00 => tabSYS | 0x01 => tabCFG | 0x02 => tabHP | 0x03 => tabHP | 0x04 => tabSEM | 0x05 => tabMBX
  | 0x06 => tabSPN | 0x07 => tabSMU | 0x08 => tabDMA | 0x09 => tabSTM | 0x0A => tabGNS | 0x0B => tabOBS
  | 0x0C => tabMTX | 0x0D => tabFIX | 0x0E => tabRSV | 0x0F => tabLTH | 0x10 => tabAXL | 0x11 => tabRAD
  | 0x12 => tabSTP | 0x13 => tabEQX | 0x14 => tabCAL | 0x15 => tabETH | 0x16 => tabMTR | 0x17 => tabBRL
  | 0x18 => tabUPD | 0x19 => tabALM | 0x1A => tabPWR | 0x1B => tabVGL | 0x1C => tabHLT | 0x1D => tabDDR
  | 0x1E => tabPIN | _ => []

/-- Whether an offset is reached by the array dimensions, from the first offset's distance `d` (R8, "Arrays are shown once"). -/
def dimsCover : List Dim → Nat → Bool
  | [], d => d == 0
  | ⟨first, count, stride⟩ :: ds, d =>
    decide (first ≤ d / stride) && decide (d / stride < first + count) && dimsCover ds (d % stride)

/-- Whether a register or register array has an element at a privileged-view offset. -/
def covers (r : RegDef) (offset : Nat) : Bool :=
  decide (r.offset ≤ offset) && dimsCover r.dims (offset - r.offset)

/-- The register at a word number; side b of a mailbox channel stands 0x8000 above side a (R90). -/
def regFind (k : Nat) : Option RegDef := (blockTable (k / 0x10000)).find? (covers · (k % 0x8000))

/-- The word a list of fields makes at reset. -/
def resetWord : List FieldDef → Nat
  | [] => 0
  | f :: fs => f.reset * 2 ^ f.lo + resetWord fs

/-- Units of each class in service before any retirement (R373, the capacities of spec/00_scope.md; log entry 3). -/
def classUnits : List Nat := [8, 12, 4, 8, 512, 32, 128, 4, 7]

/-- The reset value of a register (the Reset column of the field tables; log entry 3 for the values an image supplies). -/
def regReset (k : Nat) : Word :=
  if 0x1C0100 ≤ k ∧ k < 0x1C0124 then HLT_CLASS.in_service.set 0 (classUnits.getD ((k - 0x1C0100) / 4) 0)
  else match regFind k with
    | some r => BitVec.ofNat 32 (resetWord r.fields)
    | none => 0

/-! ### Registers -/

/-- The stored word of a register. -/
def Hw.reg (h : Hw) (k : Nat) : Word := Map.get regReset h.regs k

/-- Store a register's word. -/
def Hw.setReg (h : Hw) (k : Nat) (w : Word) : Hw := { h with regs := Map.put regReset h.regs k w }

/-- A field of a register. -/
def Hw.f (h : Hw) (k : Nat) (fld : Fld) : Nat := fld.get (h.reg k)

/-- Set a field of a register. -/
def Hw.setF (h : Hw) (k : Nat) (fld : Fld) (v : Nat) : Hw := h.setReg k (fld.set (h.reg k) v)

/-- A one-bit field as a truth value. -/
def Hw.flag (h : Hw) (k : Nat) (fld : Fld) : Bool := h.f k fld != 0

/-- Set a one-bit field. -/
def Hw.setFlag (h : Hw) (k : Nat) (fld : Fld) (b : Bool) : Hw := h.setF k fld b.toNat

/-- A 64-bit quantity held by a low word and the high word after it (R11). -/
def Hw.reg64 (h : Hw) (k : Nat) : Nat := (h.reg k).toNat + (h.reg (k + 4)).toNat * 2 ^ 32

/-- Store a 64-bit quantity. -/
def Hw.setReg64 (h : Hw) (k : Nat) (v : Nat) : Hw :=
  (h.setReg k (BitVec.ofNat 32 v)).setReg (k + 4) (BitVec.ofNat 32 (v / 2 ^ 32))

/-! ### Memory -/

/-- What an octet that nothing has written reads as: flash is erased (R361); the specification gives SRAM, DRAM and ROM no
contents, and the model takes zero (log entry 2). -/
def memDefault (a : Nat) : Byte :=
  if 0x0800000000 ≤ a ∧ a < 0x0A00000000 then 0xFF else 0

/-- The canonical form of memory. -/
def Memory.wf (m : List Host.Cell) : Bool := Map.wf memDefault m

/-- Octets of DRAM in place: the sizes that training found, in units of 64 MiB (DDR_CH_STAT.size). -/
def Hw.dramSize (h : Hw) : Nat :=
  (h.f (DDR_CH_STAT 0) DDR_CH_STAT.size + h.f (DDR_CH_STAT 1) DDR_CH_STAT.size) * 2 ^ 26

/-- Where an SRAM address is held: a retired bank's address reaches the spare that took it over (R23). `none` for a spare at
its own address and for a bank retired with no spare left. -/
def Hw.sramPlace (h : Hw) (a : Nat) : Option Nat :=
  let bank := (a - 0x10000000) / 0x200000
  let off := (a - 0x10000000) % 0x200000
  if bank ≥ 12 ∨ h.hlt.spareBank = some bank ∨ memb bank h.hlt.deadBanks then none
  else match h.hlt.bankMap.at bank with
    | 0 => if h.hlt.bankMap.any (fun p => decide (p.2 = bank + 1)) then none else some a
    | k + 1 => some (0x10000000 + k * 0x200000 + off)

/-- Whether an SRAM line is poisoned (R89). -/
def Hw.poisonedAt (h : Hw) (a : Nat) : Bool := memb (a / 64) h.hlt.poisoned

/-- Where the octet at a physical address is held, for a read; `none` is a bus error (R21, R23, R89). -/
def Hw.readPlace (h : Hw) (a : Nat) : Option Nat :=
  if a < 0x20000 then some a
  else if 0x10000000 ≤ a ∧ a < 0x11800000 then (if h.poisonedAt a then none else h.sramPlace a)
  else if 0x0800000000 ≤ a ∧ a < 0x0800000000 + h.flash.imgSize then some a
  else if 0x0900000000 ≤ a ∧ a < 0x0900000000 + h.flash.logSize then some a
  else if 0x1000000000 ≤ a ∧ a < 0x1000000000 + min h.dramSize 0x400000000 then some a
  else none

/-- Where the octet at a physical address is held, for a write: SRAM and DRAM only (R21, R22). -/
def Hw.writePlace (h : Hw) (a : Nat) : Option Nat :=
  if 0x10000000 ≤ a ∧ a < 0x11800000 then h.sramPlace a
  else if 0x1000000000 ≤ a ∧ a < 0x1000000000 + min h.dramSize 0x400000000 then some a
  else none

/-- The octet held at a place. -/
def Hw.byteAt (h : Hw) (p : Nat) : Byte := Map.get memDefault h.mem p

/-- Store an octet at a place. -/
def Hw.setByte (h : Hw) (p : Nat) (b : Byte) : Hw := { h with mem := Map.put memDefault h.mem p b }

/-- Read `n` octets from a physical address; `none` is a bus error. -/
def Hw.readPhys (h : Hw) : Nat → Nat → Option (List Byte)
  | _, 0 => some []
  | a, n + 1 =>
    match h.readPlace a, h.readPhys (a + 1) n with
    | some p, some bs => some (h.byteAt p :: bs)
    | _, _ => none

/-- Whether every octet of a range may be written. -/
def Hw.writable (h : Hw) : Nat → Nat → Bool
  | _, 0 => true
  | a, n + 1 => (h.writePlace a).isSome && h.writable (a + 1) n

/-- Store octets from a physical address on, each where it may be written. -/
def Hw.storeBytes (h : Hw) : Nat → List Byte → Hw
  | _, [] => h
  | a, b :: bs =>
    let h' := match h.writePlace a with
      | some p => h.setByte p b
      | none => h
    h'.storeBytes (a + 1) bs

/-- Poisoned lines that a write does not cover whole, which make it a bus error (R89). -/
def Hw.partPoison (h : Hw) (a n : Nat) : Bool :=
  h.hlt.poisoned.any fun l => decide (l * 64 < a + n ∧ a < l * 64 + 64 ∧ ¬(a ≤ l * 64 ∧ l * 64 + 64 ≤ a + n))

/-- Write octets to a physical address; `none` is a bus error with no effect (R21, R22). A write of a whole line clears its
poison (R89). -/
def Hw.writePhys (h : Hw) (a : Nat) (bs : List Byte) : Option Hw :=
  if h.writable a bs.length && !h.partPoison a bs.length then
    let h := h.storeBytes a bs
    some { h with hlt := { h.hlt with
      poisoned := h.hlt.poisoned.filter fun l => decide (¬(a ≤ l * 64 ∧ l * 64 + 64 ≤ a + bs.length)) } }
  else none

/-! ### Octets and numbers (R8: least significant octet first) -/

/-- The number that octets spell, least significant first. -/
def leNat : List Byte → Nat
  | [] => 0
  | b :: bs => b.toNat + 256 * leNat bs

/-- `n` octets of a number, least significant first. -/
def leBytes : Nat → Nat → List Byte
  | 0, _ => []
  | n + 1, v => BitVec.ofNat 8 v :: leBytes n (v / 256)

/-- The number in octets `i` to `i + n - 1` of a record. -/
def fieldAt (bs : List Byte) (i n : Nat) : Nat := leNat ((bs.drop i).take n)

/-- Octets `i` to `i + n - 1` are all zero. -/
def zeroAt (bs : List Byte) (i n : Nat) : Bool := ((bs.drop i).take n).all (· == 0)

/-- A two's complement number of `w` bits as an integer. -/
def toInt (w n : Nat) : Int := if n % 2 ^ w < 2 ^ (w - 1) then (n % 2 ^ w : Nat) else (n % 2 ^ w : Nat) - (2 ^ w : Nat)

/-- An integer as a two's complement number of `w` bits. -/
def ofInt (w : Nat) (i : Int) : Nat := (i % (2 ^ w : Nat)).toNat

/-- The words that octets fill, the last one padded with zeros. -/
def bytesToWords : List Byte → List Word
  | b0 :: b1 :: b2 :: b3 :: bs => BitVec.ofNat 32 (leNat [b0, b1, b2, b3]) :: bytesToWords bs
  | [] => []
  | bs => [BitVec.ofNat 32 (leNat bs)]

/-- The octets of words. -/
def wordsToBytes (ws : List Word) : List Byte := ws.flatMap fun w => leBytes 4 w.toNat

/-- Bit `n` of a number. -/
def bit (v n : Nat) : Bool := v.testBit n

/-! ### Time, answers, output, free values -/

/-- Site time in ns (R285). -/
def Hw.now (h : Hw) : Nat := h.cal.sec * 1000000000 + h.cal.ns

/-- The answer to the access under way. -/
def Hw.answer (h : Hw) (r : Resp) : Hw := { h with bus := { h.bus with resp := r } }

/-- Send something to the world outside. -/
def Hw.emit (h : Hw) (o : Out) : Hw := { h with bus := { h.bus with out := h.bus.out ++ [o] } }

/-- Take `n` free values. -/
def Hw.useFree (h : Hw) (n : Nat) : Hw := { h with freeCtr := h.freeCtr + n }

/-- The `i`-th octet of the free values from the next one on. -/
def Hw.freeOctets (h : Hw) (n : Nat) : List Byte :=
  (List.range n).map fun i => (Config.freeWord (h.freeCtr + i)).setWidth 8

/-- Run a meaning on the device, with the last answer and output cleared; the queue is not touched. -/
def run (s : State) (e : Hw → Hw) : Host.Outcome State Fault Refusal :=
  .next { s with hw := e { s.hw with bus := { s.hw.bus with resp := .none, out := [] } } }

/-- Run a meaning whose operands must be well formed. -/
def runIf (ok : Bool) (check : String) (s : State) (e : Hw → Hw) : Host.Outcome State Fault Refusal :=
  if ok then run s e else .refused (.illFormed check)

end Machine
end Sys2Proof
end

