-- ==== Sys2Proof/Machine/Crypto.lean ====
section
/-! DEFINITION. The cryptographic functions that the specification names: SHA-256 and SHA-384, HMAC and HKDF (RFC 5869), AES,
CCM*, GCM, and P-256 for ECDSA and ECDH (R234, R262, R276, R324, R334). The standards themselves are not reproduced in the
specification; they are taken as published (log entry 5). -/

namespace Sys2Proof.Machine

/-! ### Octets, most significant first -/

/-- The number that octets spell, most significant first. -/
def beNat (bs : List Byte) : Nat := bs.foldl (fun n b => n * 256 + b.toNat) 0

/-- `n` octets of a number, most significant first. -/
def beBytes (n v : Nat) : List Byte := (leBytes n v).reverse

/-- Exclusive or, octet by octet, as long as the shorter. -/
def xorBytes (a b : List Byte) : List Byte := List.zipWith (· ^^^ ·) a b

/-- Cut octets into blocks of `n`, the last one perhaps shorter; `fuel` is the length. -/
def blocksGo (n : Nat) : Nat → List Byte → List (List Byte)
  | 0, _ => []
  | fuel + 1, bs => if bs.isEmpty then [] else bs.take n :: blocksGo n fuel (bs.drop n)

/-- Cut octets into blocks of `n`. -/
def blocks (n : Nat) (bs : List Byte) : List (List Byte) := blocksGo n bs.length bs

/-- Pad with zeros to `n` octets. -/
def padTo (n : Nat) (bs : List Byte) : List Byte := bs ++ List.replicate (n - bs.length) 0

/-- Pad with zeros to a multiple of `n` octets. -/
def padBlock (n : Nat) (bs : List Byte) : List Byte := bs ++ List.replicate ((n - bs.length % n) % n) 0

/-! ### SHA-2 -/

/-- The prime numbers below 410, of which the first 80 are used. -/
def primes : List Nat := (List.range 410).filter fun n => decide (2 ≤ n) && (List.range n).all fun d => decide (d < 2 ∨ n % d ≠ 0)

/-- The integer cube root, by bits from 2^`k` down. -/
def cbrtGo (x : Nat) : Nat → Nat → Nat
  | 0, r => r
  | k + 1, r => let r' := r + 2 ^ k; cbrtGo x k (if r' * r' * r' ≤ x then r' else r)

/-- A SHA-2 function's parameters: word size in bits, rounds, the rotations of Σ0, Σ1 and of σ0, σ1 (whose third is a shift),
the initial hash and the digest's octets. -/
structure Sha where
  w : Nat
  rounds : Nat
  big0 : Nat × Nat × Nat
  big1 : Nat × Nat × Nat
  small0 : Nat × Nat × Nat
  small1 : Nat × Nat × Nat
  init : List Nat
  out : Nat

/-- The fraction of a square root, to `w` bits. -/
def sqrtFrac (w p : Nat) : Nat := Nat.sqrt (p * 2 ^ (2 * w)) % 2 ^ w

/-- SHA-256. -/
def sha256P : Sha := ⟨32, 64, (2, 13, 22), (6, 11, 25), (7, 18, 3), (17, 19, 10), (primes.take 8).map (sqrtFrac 32), 32⟩

/-- SHA-384. -/
def sha384P : Sha :=
  ⟨64, 80, (28, 34, 39), (14, 18, 41), (1, 8, 7), (19, 61, 6), ((primes.drop 8).take 8).map (sqrtFrac 64), 48⟩

/-- Rotate right a word of `w` bits. -/
def rotr (w n x : Nat) : Nat := x / 2 ^ n ||| (x * 2 ^ (w - n)) % 2 ^ w

/-- The round constants: fractions of the cube roots of the primes. -/
def shaK (p : Sha) : List Nat := (primes.take p.rounds).map fun q => cbrtGo (q * 2 ^ (3 * p.w)) (p.w + 4) 0 % 2 ^ p.w

/-- Σ0 and Σ1. -/
def shaBig (w : Nat) (r : Nat × Nat × Nat) (x : Nat) : Nat := rotr w r.1 x ^^^ rotr w r.2.1 x ^^^ rotr w r.2.2 x

/-- σ0 and σ1. -/
def shaSmall (w : Nat) (r : Nat × Nat × Nat) (x : Nat) : Nat := rotr w r.1 x ^^^ rotr w r.2.1 x ^^^ x / 2 ^ r.2.2

/-- The message schedule: the 16 latest words, newest first, extended `n` times. -/
def shaSchedule (p : Sha) : Nat → List Nat → List Nat
  | 0, ws => ws.reverse
  | n + 1, ws =>
    let v := shaSmall p.w p.small1 (ws.getD 1 0) + ws.getD 6 0 + shaSmall p.w p.small0 (ws.getD 14 0) + ws.getD 15 0
    shaSchedule p n (v % 2 ^ p.w :: ws)

/-- One round, on the working variables a to h. -/
def shaRound (p : Sha) (v : List Nat) (kw : Nat × Nat) : List Nat :=
  match v with
  | [a, b, c, d, e, f, g, hh] =>
    let t1 := hh + shaBig p.w p.big1 e + ((e &&& f) ^^^ ((2 ^ p.w - 1 - e) &&& g)) + kw.1 + kw.2
    let t2 := shaBig p.w p.big0 a + ((a &&& b) ^^^ (a &&& c) ^^^ (b &&& c))
    [(t1 + t2) % 2 ^ p.w, a, b, c, (d + t1) % 2 ^ p.w, e, f, g]
  | v => v

/-- The compression of one block. -/
def shaBlock (p : Sha) (ks st : List Nat) (block : List Byte) : List Nat :=
  let ws := (blocks (p.w / 8) block).map beNat
  let sched := shaSchedule p (p.rounds - 16) ws.reverse
  let v := (ks.zip sched).foldl (shaRound p) st
  List.zipWith (fun a b => (a + b) % 2 ^ p.w) st v

/-- A SHA-2 digest. -/
def sha (p : Sha) (m : List Byte) : List Byte :=
  let blk := p.w * 2
  let padded := m ++ [0x80] ++ List.replicate ((blk - (m.length + 1 + p.w / 4) % blk) % blk) 0 ++ beBytes (p.w / 4) (m.length * 8)
  ((((blocks blk padded).foldl (shaBlock p (shaK p)) p.init).flatMap (beBytes (p.w / 8)))).take p.out

/-- SHA-256. -/
def sha256 (m : List Byte) : List Byte := sha sha256P m

/-- SHA-384. -/
def sha384 (m : List Byte) : List Byte := sha sha384P m

/-- HMAC-SHA-256. -/
def hmac (key m : List Byte) : List Byte :=
  let k := padTo 64 (if key.length > 64 then sha256 key else key)
  sha256 (k.map (· ^^^ 0x5C) ++ sha256 (k.map (· ^^^ 0x36) ++ m))

/-- The output blocks of HKDF-Expand. -/
def hkdfGo (prk info : List Byte) : Nat → Nat → List Byte → List Byte
  | 0, _, _ => []
  | n + 1, i, t => let t' := hmac prk (t ++ info ++ [BitVec.ofNat 8 i]); t' ++ hkdfGo prk info n (i + 1) t'

/-- HKDF-SHA-256 with a salt, giving `n` octets (RFC 5869). -/
def hkdf (salt ikm info : List Byte) (n : Nat) : List Byte := (hkdfGo (hmac salt ikm) info ((n + 31) / 32) 1 []).take n

/-- The salt of root labels: 32 zero octets (R324). -/
def zeroSalt : List Byte := List.replicate 32 0

/-- A label in ASCII, without a terminator (R324). -/
def labelBytes (s : String) : List Byte := s.toList.map fun c => BitVec.ofNat 8 c.toNat

/-! ### AES -/

/-- Multiplication by x in GF(2^8). -/
def xtime (a : Byte) : Byte := (a <<< 1) ^^^ (if a.toNat ≥ 128 then 0x1B else 0)

/-- Multiplication in GF(2^8), over the bits of `b` from the lowest. -/
def gmul (a b : Byte) : Byte :=
  ((List.range 8).foldl (fun (s : Byte × Byte) i => (if b.toNat.testBit i then s.1 ^^^ s.2 else s.1, xtime s.2)) (0, a)).1

/-- The inverse in GF(2^8), a^254; 0 for 0. -/
def ginv (a : Byte) : Byte :=
  let a2 := gmul a a
  let a4 := gmul a2 a2
  let a8 := gmul a4 a4
  let a16 := gmul a8 a8
  let a32 := gmul a16 a16
  let a64 := gmul a32 a32
  let a128 := gmul a64 a64
  gmul a2 (gmul a4 (gmul a8 (gmul a16 (gmul a32 (gmul a64 a128)))))

/-- The S-box. -/
def sbox (a : Byte) : Byte :=
  let b := ginv a
  b ^^^ b.rotateLeft 1 ^^^ b.rotateLeft 2 ^^^ b.rotateLeft 3 ^^^ b.rotateLeft 4 ^^^ 0x63

/-- The expanded key, newest word first, extended by `n` words; `i` is the number of words so far, `nk` the key's. -/
def aesExpand (nk : Nat) : Nat → Nat → Byte → List (List Byte) → List (List Byte)
  | 0, _, _, ws => ws.reverse
  | n + 1, i, rc, ws =>
    let t := ws.getD 0 []
    let first := i % nk = 0
    let t' := if first then (xorBytes ((t.drop 1 ++ t.take 1).map sbox) [rc, 0, 0, 0])
      else if nk > 6 ∧ i % nk = 4 then t.map sbox else t
    aesExpand nk n (i + 1) (if first then xtime rc else rc) (xorBytes (ws.getD (nk - 1) []) t' :: ws)

/-- The round keys, 16 octets each. -/
def aesKeys (key : List Byte) : List (List Byte) :=
  let nk := key.length / 4
  let ws := aesExpand nk (4 * (nk + 7) - nk) nk 1 (blocks 4 key).reverse
  blocks 16 ws.flatten

/-- ShiftRows on a state in column order. -/
def shiftRows (s : List Byte) : List Byte := (List.range 16).map fun i => s.getD ((i + 4 * (i % 4)) % 16) 0

/-- MixColumns on one column. -/
def mixColumn (c : List Byte) : List Byte :=
  (List.range 4).map fun i =>
    xtime (c.getD i 0) ^^^ (xtime (c.getD ((i + 1) % 4) 0) ^^^ c.getD ((i + 1) % 4) 0) ^^^ c.getD ((i + 2) % 4) 0 ^^^
      c.getD ((i + 3) % 4) 0

/-- The rounds after the first key addition. -/
def aesRounds : List (List Byte) → List Byte → List Byte
  | [], s => s
  | [k], s => xorBytes (shiftRows (s.map sbox)) k
  | k :: ks, s => aesRounds ks (xorBytes ((blocks 4 (shiftRows (s.map sbox))).flatMap mixColumn) k)

/-- AES encryption of one block under expanded keys. -/
def aesBlock (ks : List (List Byte)) (b : List Byte) : List Byte := aesRounds (ks.drop 1) (xorBytes b (ks.headD []))

/-- AES encryption of one block. -/
def aes (key b : List Byte) : List Byte := aesBlock (aesKeys key) b

/-- Counter mode: the octets combined with the encryptions of the counter blocks, the first of which is given. -/
def ctrMode (ks : List (List Byte)) (block : Nat → List Byte) (m : List Byte) : List Byte :=
  ((blocks 16 m).zipIdx.flatMap fun (b, i) => xorBytes b (aesBlock ks (block i)))

/-! ### CCM* with a 13-octet nonce -/

/-- The CBC-MAC of CCM*, before encryption. -/
def ccmMac (ks : List (List Byte)) (nonce aad m : List Byte) (mic : Nat) : List Byte :=
  let flags := (if aad.isEmpty then 0 else 64) + (if mic = 0 then 0 else (mic - 2) / 2 * 8) + 1
  let b0 := BitVec.ofNat 8 flags :: nonce ++ beBytes 2 m.length
  let a := if aad.isEmpty then [] else
    padBlock 16 ((if aad.length < 0xFF00 then beBytes 2 aad.length else [0xFF, 0xFE] ++ beBytes 4 aad.length) ++ aad)
  (blocks 16 (b0 ++ a ++ padBlock 16 m)).foldl (fun x b => aesBlock ks (xorBytes x b)) (List.replicate 16 0)

/-- The counter blocks of CCM*. -/
def ccmCtr (nonce : List Byte) (i : Nat) : List Byte := (0x01 : Byte) :: nonce ++ beBytes 2 i

/-- CCM* encryption: ciphertext and MIC. -/
def ccmEnc (key nonce aad m : List Byte) (mic : Nat) : List Byte × List Byte :=
  let ks := aesKeys key
  (ctrMode ks (fun i => ccmCtr nonce (i + 1)) m,
    (xorBytes (ccmMac ks nonce aad m mic) (aesBlock ks (ccmCtr nonce 0))).take mic)

/-- CCM* decryption: the plaintext, where the MIC verifies. -/
def ccmDec (key nonce aad c tag : List Byte) : Option (List Byte) :=
  let ks := aesKeys key
  let m := ctrMode ks (fun i => ccmCtr nonce (i + 1)) c
  if (xorBytes (ccmMac ks nonce aad m tag.length) (aesBlock ks (ccmCtr nonce 0))).take tag.length = tag then some m else none

/-! ### GCM -/

/-- Multiplication in GF(2^128) with GCM's bit order, bits of `x` from the most significant. -/
def gcmMul (x y : Nat) : Nat :=
  ((List.range 128).foldl (fun (s : Nat × Nat) i =>
    (if x.testBit (127 - i) then s.1 ^^^ s.2 else s.1,
      if s.2 % 2 = 1 then (s.2 / 2) ^^^ (0xE1 * 2 ^ 120) else s.2 / 2)) (0, y)).1

/-- GHASH. -/
def ghash (hk : Nat) (bs : List Byte) : Nat := (blocks 16 bs).foldl (fun y b => gcmMul (y ^^^ beNat b) hk) 0

/-- The first counter block: a nonce of 12 octets, or a hash of another one. -/
def gcmStart (hk : Nat) (nonce : List Byte) : Nat :=
  if nonce.length = 12 then beNat nonce * 2 ^ 32 + 1
  else ghash hk (padBlock 16 nonce ++ beBytes 16 (nonce.length * 8))

/-- The counter blocks, whose last 32 bits count. -/
def gcmCtr (j0 i : Nat) : List Byte := beBytes 16 (j0 / 2 ^ 32 * 2 ^ 32 + (j0 + i) % 2 ^ 32)

/-- The GCM tag of additional data and ciphertext. -/
def gcmTag (ks : List (List Byte)) (hk j0 : Nat) (aad c : List Byte) : List Byte :=
  let s := ghash hk (padBlock 16 aad ++ padBlock 16 c ++ beBytes 8 (aad.length * 8) ++ beBytes 8 (c.length * 8))
  xorBytes (beBytes 16 s) (aesBlock ks (gcmCtr j0 0))

/-- GCM encryption: ciphertext and 16-octet tag. -/
def gcmEnc (key nonce aad m : List Byte) : List Byte × List Byte :=
  let ks := aesKeys key
  let hk := beNat (aesBlock ks (List.replicate 16 0))
  let j0 := gcmStart hk nonce
  let c := ctrMode ks (fun i => gcmCtr j0 (i + 1)) m
  (c, gcmTag ks hk j0 aad c)

/-- GCM decryption: the plaintext, where the tag verifies. -/
def gcmDec (key nonce aad c tag : List Byte) : Option (List Byte) :=
  let ks := aesKeys key
  let hk := beNat (aesBlock ks (List.replicate 16 0))
  let j0 := gcmStart hk nonce
  if gcmTag ks hk j0 aad c = tag then some (ctrMode ks (fun i => gcmCtr j0 (i + 1)) c) else none

/-! ### P-256 -/

/-- The field's prime. -/
def p256 : Nat := 2 ^ 256 - 2 ^ 224 + 2 ^ 192 + 2 ^ 96 - 1

/-- The order of the group. -/
def n256 : Nat := 0xFFFFFFFF00000000FFFFFFFFFFFFFFFFBCE6FAADA7179E84F3B9CAC2FC632551

/-- The curve's coefficient b; a is -3. -/
def b256 : Nat := 0x5AC635D8AA3A93E7B3EBBD55769886BC651D06B0CC53B0F63BCE3C3E27D2604B

/-- A point: none is the point at infinity. -/
abbrev Point := Option (Nat × Nat)

/-- The base point. -/
def g256 : Point :=
  some (0x6B17D1F2E12C4247F8BCE6E563A440F277037D812DEB33A0F4A13945D898C296,
    0x4FE342E2FE1A7F9B8EE7EB4A7C0F9E162BCE33576B315ECECBB6406837BF51F5)

/-- Modular power, over the bits of the exponent below 2^`n` from the highest. -/
def powMod (m b e : Nat) : Nat → Nat
  | 0 => 1 % m
  | n + 1 =>
    let r := powMod m b (e / 2) n
    let r2 := r * r % m
    if e % 2 = 1 then r2 * b % m else r2

/-- The inverse modulo a prime of 256 bits. -/
def invMod (m a : Nat) : Nat := powMod m (a % m) (m - 2) 256

/-- A point satisfies the curve's equation. -/
def onCurve (q : Nat × Nat) : Bool :=
  decide (q.1 < p256 ∧ q.2 < p256 ∧ q.2 * q.2 % p256 = (q.1 * q.1 * q.1 + (p256 - 3) * q.1 + b256) % p256)

/-- Addition of points. -/
def padd (a b : Point) : Point :=
  match a, b with
  | none, b => b
  | a, none => a
  | some (x1, y1), some (x2, y2) =>
    if x1 = x2 ∧ (y1 + y2) % p256 = 0 then none
    else
      let l := if x1 = x2 then (3 * x1 * x1 + p256 - 3) * invMod p256 (2 * y1) % p256
        else (y2 + p256 - y1) * invMod p256 (x2 + p256 - x1) % p256
      let x := (l * l + 2 * p256 - x1 - x2) % p256
      some (x, (l * (x1 + p256 - x) + p256 - y1) % p256)

/-- Multiplication of a point by a number below 2^`n`. -/
def pmulGo (q : Point) (k : Nat) : Nat → Point
  | 0 => none
  | n + 1 =>
    let r := pmulGo q (k / 2) n
    let d := padd r r
    if k % 2 = 1 then padd d q else d

/-- Multiplication of a point. -/
def pmul (k : Nat) (q : Point) : Point := pmulGo q k 256

/-- The octets of a point: x then y, most significant first (SEC 1). -/
def pointBytes (q : Point) : List Byte :=
  match q with
  | some (x, y) => beBytes 32 x ++ beBytes 32 y
  | none => List.replicate 64 0

/-- The point that 64 octets spell, where it is on the curve. -/
def readPoint (bs : List Byte) : Point :=
  let q := (beNat (bs.take 32), beNat ((bs.drop 32).take 32))
  if bs.length = 64 ∧ onCurve q then some q else none

/-- The derived private key of 32 octets: (output mod (n - 1)) + 1 (R324). -/
def privOf (bs : List Byte) : Nat := beNat bs % (n256 - 1) + 1

/-- An ECDSA signature of a 32-octet digest with the per-signature secret `k`, r then s. -/
def ecdsaSign (d k : Nat) (digest : List Byte) : List Byte :=
  let r := match pmul k g256 with
    | some (x, _) => x % n256
    | none => 0
  let s := invMod n256 k * ((beNat digest + r * d) % n256) % n256
  beBytes 32 r ++ beBytes 32 s

/-- Whether a signature of a 32-octet digest verifies under a public key. -/
def ecdsaVerify (q : Point) (digest sig : List Byte) : Bool :=
  let r := beNat (sig.take 32)
  let s := beNat ((sig.drop 32).take 32)
  if sig.length = 64 ∧ 1 ≤ r ∧ r < n256 ∧ 1 ≤ s ∧ s < n256 ∧ q.isSome then
    let w := invMod n256 s
    match padd (pmul (beNat digest * w % n256) g256) (pmul (r * w % n256) q) with
    | some (x, _) => decide (x % n256 = r)
    | none => false
  else false

/-- The ECDH shared secret: the x coordinate. -/
def ecdh (d : Nat) (q : Point) : Option (List Byte) :=
  match q with
  | none => none
  | some _ => (pmul d q).map fun p => beBytes 32 p.1

end Sys2Proof.Machine
end

