-- ==== Sys2Proof/Machine/Flags.lean ====
section
/-! DEFINITION. Counters at their maximum (R376) and interrupt lines (R419). -/

namespace Sys2Proof.Machine

open Reg

/-- An attempted increment of a saturating counter: at the maximum it sets the counter's sat flag (R376). -/
def Hw.bump (h : Hw) (k : Nat) (cnt sat : Fld) : Hw :=
  if h.f k cnt = cnt.max then h.setFlag k sat true else h.setF k cnt (h.f k cnt + 1)

/-- Increments of a saturating counter by a number of events. -/
def Hw.bumpBy (h : Hw) (k : Nat) (cnt sat : Fld) : Nat → Hw
  | 0 => h
  | n + 1 => (h.bump k cnt sat).bumpBy k cnt sat n

/-- A counter without a sat flag stops at its maximum. -/
def Hw.countUp (h : Hw) (k : Nat) (cnt : Fld) : Hw :=
  if h.f k cnt = cnt.max then h else h.setF k cnt (h.f k cnt + 1)

/-- *a* is later than *b* as sequence numbers of `w` bits (R376). -/
def laterSeq (w a b : Nat) : Bool :=
  let d := (a + 2 ^ w - b % 2 ^ w) % 2 ^ w
  decide (1 ≤ d ∧ d ≤ 2 ^ (w - 1) - 1)

/-- The device interrupt line of an IRQ_STAT and IRQ_MASK pair: asserted while a bit is set in both (R419). -/
def Hw.irqLine (h : Hw) (statReg maskReg : Nat) : Bool := (h.reg statReg &&& h.reg maskReg) != 0

end Sys2Proof.Machine
end

