-- ==== Sys2Proof/Machine/Events.lean ====
section
/-! DEFINITION. Events and their Almanac records (spec/15_almanac_health.md, R361–R366, R370), and raising an interrupt bit. -/

namespace Sys2Proof.Machine

open Reg

/-- CRC-8 with polynomial 0x07, one octet (R361). -/
def crc8Step (c : Nat) (b : Byte) : Nat :=
  (List.range 8).foldl (fun c _ => if c ≥ 128 then ((c * 2) % 256) ^^^ 0x07 else c * 2) (c ^^^ b.toNat)

/-- CRC-8, initial value 0 (R361). -/
def crc8 (bs : List Byte) : Nat := bs.foldl crc8Step 0

/-- The 32 octets of a record (R361). -/
def AlmRec.octets (r : AlmRec) : List Byte :=
  let body := leBytes 8 r.stamp ++ leBytes 4 r.seq ++ leBytes 2 r.source ++ leBytes 2 r.code ++ leBytes 4 r.a0.toNat ++
    leBytes 4 r.a1.toNat ++ leBytes 4 r.a2.toNat ++ leBytes 2 r.repeats ++ leBytes 1 r.flags
  body ++ leBytes 1 (crc8 body)

/-- The source number of configuration records (R362). -/
def cfgSource : Nat := 0x0180

/-- Two records an open record absorbs into one: equal source, code and argument words (R365). -/
def AlmRec.same (r q : AlmRec) : Bool :=
  decide (r.source = q.source ∧ r.code = q.code ∧ r.a0 = q.a0 ∧ r.a1 = q.a1 ∧ r.a2 = q.a2)

/-- Records that hold a place in the 512-record write buffer (R364). -/
def AlmSt.held (a : AlmSt) : Nat := a.buffer.length + (if a.opened.isSome then 1 else 0)

/-- The write buffer has room for one more record. -/
def AlmSt.room (a : AlmSt) : Bool := decide (a.held < 512)

/-- Close the open record: it becomes eligible for programming (R365). -/
def AlmSt.close (a : AlmSt) : AlmSt :=
  match a.opened with
  | some r => { a with opened := none, buffer := a.buffer ++ [r] }
  | none => a

/-- The flags octet of a new record (R361): holdover, unset, and a gap in the source's sequence. -/
def Hw.recFlags (h : Hw) (src seq : Nat) : Nat :=
  let st := h.f CAL_STAT CAL_STAT.state
  (if st = 2 ∨ st = 3 then 1 else 0) + (if st = 0 then 2 else 0) +
    (if h.alm.covered.at src ≠ seq then 8 else 0)

/-- A new record of a source, with the source's next sequence number. -/
def Hw.mkRec (h : Hw) (src code : Nat) (a0 a1 a2 : Word) : AlmRec :=
  { stamp := h.now % 2 ^ 64, seq := h.alm.seqs.at src, source := src, code := code, a0 := a0, a1 := a1, a2 := a2,
    repeats := 0, flags := h.recFlags src (h.alm.seqs.at src) }

/-- A source's sequence number advances by one for every event, recorded or not (R362). -/
def AlmSt.advance (a : AlmSt) (src : Nat) : AlmSt := { a with seqs := a.seqs.upd src fun n => (n + 1) % 2 ^ 32 }

/-- A record counts as the source's last recorded event. -/
def AlmSt.cover (a : AlmSt) (r : AlmRec) : AlmSt := { a with covered := a.covered.set r.source ((r.seq + 1) % 2 ^ 32) }

/-- Set an IRQ_STAT bit without an event. -/
def Hw.setIrq (h : Hw) (stat : Nat) (fld : Fld) : Hw := h.setFlag stat fld true

/-- Place a record in the buffer of a medium that records: absorbed by an equal open record, else the open record closes and
this one opens (R365). The record's sequence number has been given; there is room. -/
def AlmSt.place (a : AlmSt) (r : AlmRec) : AlmSt :=
  let a := a.cover r
  match a.opened with
  | some o =>
    if o.same r && decide (o.repeats < 65535) then
      let a := { a with opened := some { o with repeats := o.repeats + 1 } }
      if o.repeats + 1 = 65535 then a.close else a
    else { a.close with opened := some r }
  | none => { a with opened := some r }

/-- Whether an equal open record absorbs this one, so that it needs no room. -/
def AlmSt.absorbs (a : AlmSt) (r : AlmRec) : Bool :=
  match a.opened with
  | some o => o.same r && decide (o.repeats < 65535)
  | none => false

/-- While halted the buffer acts as a ring: a record that overwrites one not yet programmed counts that one (R370). -/
def Hw.ringPlace (h : Hw) (r : AlmRec) : Hw :=
  if h.alm.absorbs r || h.alm.room then { h with alm := h.alm.place r }
  else
    let h := h.bump ALM_LOST ALM_LOST.lost ALM_LOST.sat
    { h with alm := ({ h.alm with buffer := h.alm.buffer.drop 1 }).place r }

/-- The states of the Almanac (ALM_STAT.state). -/
def almRecording : Nat := 1
def almClearing : Nat := 2
def almFull : Nat := 3
def almHalted : Nat := 4

/-- The Almanac's own source number. -/
def almSource : Nat := 0x1900

/-- Every slot but the last has a record: the last receives the record of a full log, recording stops, and the event is reported
(R366). -/
def Hw.enterFull (h : Hw) : Hw :=
  let r := h.mkRec almSource 0x0003 (h.reg ALM_CAP) 0 0
  let a := (h.alm.close).cover r
  let h := { h with alm := { a with buffer := a.buffer ++ [r] }.advance almSource }
  let h := (h.setF ALM_STAT ALM_STAT.state almFull).setFlag HLT_STAT HLT_STAT.log_full true
  let h := h.setIrq ALM_IRQ_STAT ALM_IRQ_STAT.full
  let h := if bit (h.reg (ALM_REC_MASK 0x19)).toNat ALM_IRQ_STAT.full.lo then h.bump ALM_LOST ALM_LOST.lost ALM_LOST.sat else h
  { h with alm := h.alm.advance almSource }

/-- The log is full once its slots but one are taken by committed records and by the buffer's (R366). -/
def Hw.fillCheck (h : Hw) : Hw :=
  let st := h.f ALM_STAT ALM_STAT.state
  let cap := (h.reg ALM_CAP).toNat
  if (st = almRecording ∨ st = almClearing) ∧ cap ≠ 0 ∧ (h.reg ALM_COUNT).toNat + h.alm.held + 1 ≥ cap then h.enterFull else h

/-- Write the record of events dropped for a source ahead of the source's next record (R364). The record's own source is the
Almanac (log entry 11). -/
def Hw.reportDrops (h : Hw) (src : Nat) : Hw :=
  let n := h.alm.drops.at src
  if n = 0 ∨ ¬h.alm.room then h
  else
    let r := h.mkRec almSource 0x000B (BitVec.ofNat 32 src) (BitVec.ofNat 32 n) 0
    let a := (h.alm.advance almSource).place r
    ({ h with alm := { a with drops := a.drops.set src 0 } } : Hw).fillCheck

/-- An event that is not a configuration record reaches the write buffer (R364–R366, R370). -/
def Hw.event (h : Hw) (src code : Nat) (a0 a1 a2 : Word) : Hw :=
  let st := h.f ALM_STAT ALM_STAT.state
  if st = almFull then
    let h := h.bump ALM_LOST ALM_LOST.lost ALM_LOST.sat
    { h with alm := h.alm.advance src }
  else if st = almHalted then
    let r := h.mkRec src code a0 a1 a2
    let h := (h.bump ALM_LOST ALM_LOST.lost ALM_LOST.sat).ringPlace r
    { h with alm := h.alm.advance src }
  else
    let h := h.reportDrops src
    let r := h.mkRec src code a0 a1 a2
    if h.f ALM_STAT ALM_STAT.state = almFull then
      let h := h.bump ALM_LOST ALM_LOST.lost ALM_LOST.sat
      { h with alm := h.alm.advance src }
    else if h.alm.absorbs r || h.alm.room then ({ h with alm := (h.alm.place r).advance src }).fillCheck
    else
      let h := (h.bump ALM_ERR ALM_ERR.dropped ALM_ERR.drop_sat).setIrq ALM_IRQ_STAT ALM_IRQ_STAT.dropped
      { h with alm := { h.alm.advance src with drops := h.alm.drops.upd src (· + 1) } }

/-- The gap flag of a record that has waited, as it is when the record is placed. -/
def Hw.regap (h : Hw) (r : AlmRec) : AlmRec :=
  { r with flags := r.flags % 8 + (if h.alm.covered.at r.source ≠ r.seq then 8 else 0) }

/-- A configuration record reaches the write buffer (R56, R366, R370); it already has its sequence number. -/
def Hw.placeCfg (h : Hw) (r : AlmRec) : Hw :=
  let st := h.f ALM_STAT ALM_STAT.state
  if st = almFull then
    (h.bump ALM_LOST ALM_LOST.lost ALM_LOST.sat).bump ALM_ERR ALM_ERR.cfg_lost ALM_ERR.cfg_sat
  else if st = almHalted then (h.bump ALM_LOST ALM_LOST.lost ALM_LOST.sat).ringPlace (h.regap r)
  else ({ h with alm := h.alm.place (h.regap r) }).fillCheck

/-- The source number of a block window's instance (R362). -/
def srcOf (block inst : Nat) : Nat := block * 256 + inst

/-- An event of a block sets its IRQ_STAT bit whatever the MASK bit (R419), and is recorded with code 0x0100 + bit where
ALM_REC_MASK has the bit (R363); the source's sequence advances in any case (R362). -/
def Hw.raiseFrom (h : Hw) (src stat : Nat) (fld : Fld) (inst : Nat) : Hw :=
  let h := h.setIrq stat fld
  if bit (h.reg (ALM_REC_MASK (stat / 0x10000))).toNat fld.lo then
    h.event src (0x0100 + fld.lo) (BitVec.ofNat 32 inst) (h.reg stat) 0
  else { h with alm := h.alm.advance src }

/-- An event of a block that is one source. -/
def Hw.raise (h : Hw) (stat : Nat) (fld : Fld) (inst : Nat) : Hw := h.raiseFrom (srcOf (stat / 0x10000) 0) stat fld inst

/-- The source number of the health manager. -/
def hltSource : Nat := 0x1C00

/-- Site time as the health manager's window counts it, in ms. -/
def Hw.nowMs (h : Hw) : Nat := h.now / 1000000

/-- A transient fault is counted and recorded: HLT_ERR.transient, the count of the last 60 s, code 0x000A and the interrupt bit
(R34, R373). -/
def Hw.countTransient (h : Hw) (cls inst : Nat) (kind : Word) : Hw :=
  let h := h.bump HLT_ERR HLT_ERR.transient HLT_ERR.trans_sat
  let h := { h with hlt := { h.hlt with
    recent := (h.hlt.recent.filter fun t => decide (h.now < t + 60000000000)) ++ [h.now] } }
  (h.event hltSource 0x000A (BitVec.ofNat 32 cls) (BitVec.ofNat 32 inst) kind).raise HLT_IRQ_STAT HLT_IRQ_STAT.transient inst

/-- A transient fault whose kind has no number in the specification: the number is a free value (R363). -/
def Hw.countOpen (h : Hw) (cls inst : Nat) : Hw := (h.useFree 1).countTransient cls inst (Config.freeWord h.freeCtr)

/-! ### The Equinox pair -/

/-- EQX_STAT.role: 0 unpaired, 1 standby, 2 primary, 3 claiming (R279). -/
def Hw.role (h : Hw) : Nat := h.f EQX_STAT EQX_STAT.role

/-- The unit is one of a pair. -/
def Hw.paired (h : Hw) : Bool := h.flag EQX_CFG EQX_CFG.paired

/-- The unit acts towards the fleet: it is unpaired or holds the interlock as primary (R279). -/
def Hw.acts (h : Hw) : Bool := !h.paired || decide (h.role = 2)

/-- The primary keeps its newest base record and checkpoints for a snapshot (R278). -/
def EqxSt.keep (x : EqxSt) : MirrorItem → EqxSt
  | .base r => { x with baseRecord := r }
  | .checkpoint robot e c o => { x with checkpoints := x.checkpoints.upd robot fun l => ((e, c, o) :: l).take 2 }
  | _ => x

/-- A mirror record of the primary: the next sequence number, and the item sent over the pair link (R277). The record's octets are
not given; the item stands for them (log entry 19). -/
def Hw.mirror (h : Hw) (item : MirrorItem) : Hw :=
  if h.paired && decide (h.role = 2) && decide (h.f EQX_LINK EQX_LINK.state = 2) then
    let n := (h.eqx.sent + 1) % 2 ^ 32
    ({ h with eqx := { h.eqx.keep item with sent := n } }).emit (.mirror n item)
  else h

/-- A record enters the last-gasp store, which keeps the first 16 entries (R371). -/
def Hw.gasp (h : Hw) (r : AlmRec) : Hw :=
  if h.alm.lastGasp.length < 16 then
    ({ h with alm := { h.alm with lastGasp := h.alm.lastGasp ++ [r] } }).setIrq ALM_IRQ_STAT ALM_IRQ_STAT.lg_pending
  else h.bump ALM_LG_STAT ALM_LG_STAT.lost ALM_LG_STAT.sat

end Sys2Proof.Machine
end

