-- ==== Sys2Proof/Machine/Air.lean ====
section
/-! DEFINITION. What RAD and the stop sequencer share on the air (spec/09_fleet_radio.md): lanes, addresses, the frame format and its
security (R232–R235), the superframe's cells (R238–R240), the command to a transceiver, the validity gate (R248) and the
seen-cache (R251). The MAC formats are those of IEEE 802.15.4-2020, taken as published (log entry 24). -/

namespace Sys2Proof.Machine

open Reg

/-! ### Lanes -/

/-- A lane beyond its registers. -/
def Hw.lane (h : Hw) (n : Nat) : LaneSt := h.rad.lanes.at n

/-- Change a lane. -/
def Hw.updLane (h : Hw) (n : Nat) (g : LaneSt → LaneSt) : Hw := { h with rad := { h.rad with lanes := h.rad.lanes.upd n g } }

/-- Change the radio. -/
def Hw.updRad (h : Hw) (g : RadSt → RadSt) : Hw := { h with rad := g h.rad }

/-- The lane is in service (RAD_STAT.in_service). -/
def Hw.laneUp (h : Hw) (n : Nat) : Bool := bit (h.f RAD_STAT RAD_STAT.in_service) n

/-- The lanes in service. -/
def Hw.lanesUp (h : Hw) : List Nat := (List.range 8).filter h.laneUp

/-- The lane is kept in service as degraded (R35). -/
def Hw.laneDegraded (h : Hw) (n : Nat) : Bool := h.hlt.degraded.any fun r => decide (r.cls = 3 ∧ r.inst = n)

/-- Lanes that count for the floor: in service, not degraded, with stop-key counters left (R32, R270). -/
def Hw.floorLanes (h : Hw) : List Nat :=
  h.lanesUp.filter fun n => !h.laneDegraded n && decide ((h.reg (STP_LANE_CTR n)).toNat ≠ 2 ^ 32 - 1)

/-- The unit drives its lanes: it does not listen only (R257, R265). -/
def Hw.sends (h : Hw) : Bool := !h.flag RAD_CFG RAD_CFG.listen

/-- RAD sends: enabled, and not in listen mode. -/
def Hw.radSends (h : Hw) : Bool := h.flag RAD_CFG RAD_CFG.enable && h.sends

/-- Send a command with its octets to a lane's transceiver (R228): the code, the length and the octets. -/
def Hw.laneCmd (h : Hw) (n code : Nat) (bs : List Byte) : Hw := h.emit (.lane n code bs)

/-- Transceiver command codes (R228). -/
def cmdStatus : Nat := 0x01
def cmdTxLoad : Nat := 0x02
def cmdTxGo : Nat := 0x03
def cmdTxCca : Nat := 0x04
def cmdRxRead : Nat := 0x05
def cmdRxOn : Nat := 0x06
def cmdIdle : Nat := 0x07
def cmdRegWrite : Nat := 0x08
def cmdRegRead : Nat := 0x09

/-- Pulse LN*n*_ABORT: the emission ends and the transceiver's buffer is discarded (R229). -/
def Hw.abortLane (h : Hw) (n : Nat) : Hw := (h.emit (.lanePin n "ABORT")).updLane n fun l => { l with onAir := none }

/-! ### Addresses (R233, R275) -/

/-- The unit's own address: of unit u of pair p, or RAD_ID.short of an unpaired device. -/
def Hw.unitAddr (h : Hw) : Nat :=
  if h.paired then 0xFF00 + 4 * h.f EQX_CFG EQX_CFG.pair + h.f EQX_CFG EQX_CFG.unit else h.f RAD_ID RAD_ID.short

/-- The address the base sends and accepts frames as: the pair address of a pair (R275). -/
def Hw.baseAddr (h : Hw) : Nat :=
  if h.paired then 0xFF00 + 4 * h.f EQX_CFG EQX_CFG.pair + 2 else h.f RAD_ID RAD_ID.short

/-- Everybody. -/
def broadcast : Nat := 0xFFFF

/-- A neighbour entry's short address: robot r at entry r - 1 has address r (R233). -/
def Hw.nbShort (h : Hw) (i : Nat) : Nat := if i < 128 then i + 1 else h.f (RAD_NB_CFG i) RAD_NB_CFG.short

/-- A neighbour entry's kind; robots at entries 0–127. -/
def Hw.nbKind (h : Hw) (i : Nat) : Nat := if i < 128 then 0 else h.f (RAD_NB_CFG i) RAD_NB_CFG.kind

/-- A neighbour entry in use. -/
def Hw.nbValid (h : Hw) (i : Nat) : Bool := h.flag (RAD_NB_CFG i) RAD_NB_CFG.valid

/-- The valid neighbour entry with a short address. -/
def Hw.nbOf (h : Hw) (short : Nat) : Option Nat :=
  (List.range 512).find? fun i => h.nbValid i && decide (h.nbShort i = short)

/-! ### Keys (R234, R324) -/

/-- Key indexes. -/
def keyGroup : Nat := 0x01
def keyJoin : Nat := 0x02
def keyStop : Nat := 0x03
def keyPair : Nat := 0x10

/-- The extended address of a lane, and of a neighbour. -/
def Hw.laneEui (h : Hw) (n : Nat) : Nat := h.reg64 (RAD_LANE_EUI_LO n)
def Hw.nbEui (h : Hw) (i : Nat) : Nat := h.reg64 (RAD_NB_EUI_LO i)

/-- The key of an index towards a neighbour; none where no key has been delivered. -/
def Hw.airKey (h : Hw) (index : Nat) (nb : Option Nat) : Option (List Byte) :=
  let k := if index = keyGroup then h.ports.group
    else if index = keyJoin then h.ports.join
    else if index = keyStop then h.ports.stop
    else match nb with
      | some i => if h.ports.pairMaster.isEmpty then []
        else hkdf zeroSalt h.ports.pairMaster (labelBytes "nb-pair" ++ leBytes 8 (h.nbEui i)) 16
      | none => []
  if k.isEmpty then none else some k

/-- The frame types (R236). -/
def ftBeacon : Nat := 0x01
def ftPermit : Nat := 0x02
def ftStop : Nat := 0x03
def ftObs : Nat := 0x04
def ftTrack : Nat := 0x05
def ftEcho : Nat := 0x06
def ftRtcm : Nat := 0x07
def ftSite : Nat := 0x08
def ftData : Nat := 0x09
def ftRendezvous : Nat := 0x0A
def ftJoinReq : Nat := 0x0B
def ftJoinResp : Nat := 0x0C
def ftUpdate : Nat := 0x0D
def ftLaneInfo : Nat := 0x0E

/-- The key index of a frame type (R236). -/
def keyOfType (ft : Nat) : Nat :=
  if ft = ftPermit ∨ ft = ftStop then keyStop
  else if ft = ftJoinReq ∨ ft = ftJoinResp then keyJoin
  else if ft = ftBeacon ∨ ft = ftRtcm ∨ ft = ftSite ∨ ft = ftRendezvous ∨ ft = ftLaneInfo then keyGroup
  else keyPair

/-- The security level of a frame type (R236). -/
def levelOfType (ft : Nat) : Nat :=
  if ft = ftBeacon ∨ ft = ftPermit ∨ ft = ftStop ∨ ft = ftRtcm ∨ ft = ftRendezvous ∨ ft = ftLaneInfo then 1 else 5

/-! ### The frame format (R232, R235) -/

/-- MAC frame types of IEEE 802.15.4. -/
def macBeacon : Nat := 0
def macData : Nat := 1
def macAck : Nat := 2
def macCommand : Nat := 3

/-- The octets of a MAC header: frame control, sequence number, PAN identifier, and the addresses the frame type has. -/
def mhrBytes (mac seq pan dst src : Nat) (pend ar : Bool) : List Byte :=
  let ie := decide (mac = macBeacon ∨ mac = macData)
  let fc := mac + 8 + pend.toNat * 16 + ar.toNat * 32 + (if mac = macData ∨ mac = macCommand then 64 else 0) +
    ie.toNat * 512 + (if mac = macBeacon then 0 else 2048) + 8192 + (if mac = macAck then 0 else 32768)
  leBytes 2 fc ++ leBytes 1 seq ++ leBytes 2 pan ++ (if mac = macBeacon then [] else leBytes 2 dst) ++
    (if mac = macAck then [] else leBytes 2 src)

/-- The auxiliary security header: level, key identifier mode 1, frame counter, key index. -/
def auxBytes (level ctr key : Nat) : List Byte := leBytes 1 (level + 8) ++ leBytes 4 ctr ++ leBytes 1 key

/-- The Flizen header IE (R235), with Header Termination 2 after it where a payload follows. -/
def flizenIe (oui ft robot epoch token : Nat) (permit : Option Nat) (flood : Option (Nat × Nat × Nat)) (payload : Bool) :
    List Byte :=
  let ctl := ft + (if token = 0 then 0 else 32) + (if permit.isSome then 64 else 0) + (if flood.isSome then 128 else 0)
  let content := leBytes 3 oui ++ leBytes 1 ctl ++ leBytes 1 robot ++ leBytes 2 epoch ++
    (if token = 0 then [] else leBytes 4 token) ++
    (match permit with
     | some p => leBytes 2 p
     | none => []) ++
    (match flood with
     | some (o, i, ttl) => leBytes 2 o ++ leBytes 2 i ++ leBytes 1 (ttl % 16)
     | none => [])
  leBytes 2 content.length ++ content ++ (if payload then [0x80, 0x3F] else [])

/-- The nonce of CCM*: extended address, frame counter, level. -/
def airNonce (eui ctr level : Nat) : List Byte := beBytes 8 eui ++ beBytes 4 ctr ++ beBytes 1 level

/-- Secure a frame: header octets, payload in clear at level 1 and encrypted at level 5, MIC-32 (R234). -/
def secureFrame (key : List Byte) (eui ctr level : Nat) (header payload : List Byte) : List Byte :=
  let nonce := airNonce eui ctr level
  if level = 1 then header ++ payload ++ (ccmEnc key nonce (header ++ payload) [] 4).2
  else
    let (c, mic) := ccmEnc key nonce header payload 4
    header ++ c ++ mic

/-- Verify and decrypt: the payload, where the MIC verifies. -/
def openFrame (key : List Byte) (eui ctr level : Nat) (header body mic : List Byte) : Option (List Byte) :=
  let nonce := airNonce eui ctr level
  if level = 1 then (ccmDec key nonce (header ++ body) [] mic).map fun _ => body
  else ccmDec key nonce header body mic

/-- What the device reads of a received frame: MAC type, version, PAN, addresses (none where absent), flags, sequence number,
security level, key identifier mode, key index, frame counter, its header octets, its IE and the rest with the MIC. -/
structure Parsed where
  mac : Nat
  version : Nat
  security : Bool
  pend : Bool
  ar : Bool
  pan : Nat
  dst : Option Nat
  src : Option Nat
  seq : Nat
  level : Nat
  keyMode : Nat
  keyIndex : Nat
  ctr : Nat
  header : List Byte
  ie : Option (List Byte)
  wellFormed : Bool
  body : List Byte
  mic : List Byte
deriving DecidableEq, Repr, Inhabited

/-- The header IEs of a frame that says it has some: the Flizen content, whether they are well formed, and the octets they take. -/
def parseIes (oui : Nat) (bs : List Byte) : Option (List Byte) × Bool × Nat :=
  let d := fieldAt bs 0 2
  let len := d % 128
  let c := (bs.drop 2).take len
  if bs.length < 2 + len ∨ d / 128 ≠ 0 ∨ len < 7 ∨ fieldAt c 0 3 ≠ oui then (none, false, 0)
  else
    let ctl := fieldAt c 3 1
    let want := 7 + (if bit ctl 5 then 4 else 0) + (if bit ctl 6 then 2 else 0) + (if bit ctl 7 then 5 else 0)
    let rest := bs.drop (2 + len)
    let ht := decide (fieldAt rest 0 2 = 0x3F80)
    (some c, decide (len = want) && (ht || decide (rest.length ≤ 4)), 2 + len + (if ht then 2 else 0))

/-- Read a PSDU without FCS. -/
def parseFrame (oui : Nat) (bs : List Byte) : Parsed :=
  let fc := fieldAt bs 0 2
  let mac := fc % 8
  let dstMode := fc / 1024 % 4
  let srcMode := fc / 16384 % 4
  let panPresent := !(decide (dstMode = 0) && bit fc 6)
  let o1 := 3 + (if panPresent then 2 else 0)
  let o2 := o1 + (if dstMode = 2 then 2 else 0)
  let o3 := o2 + (if srcMode = 2 then 2 else 0)
  let sc := fieldAt bs o3 1
  let o4 := o3 + 6
  let (ie, ok, n) := if bit fc 9 then parseIes oui (bs.drop o4) else (none, true, 0)
  let o5 := o4 + n
  let rest := bs.drop o5
  { mac := mac, version := fc / 4096 % 4, security := bit fc 3, pend := bit fc 4, ar := bit fc 5
    pan := fieldAt bs 3 2
    dst := if dstMode = 2 then some (fieldAt bs o1 2) else none
    src := if srcMode = 2 then some (fieldAt bs o2 2) else none
    seq := fieldAt bs 2 1
    level := sc % 8, keyMode := sc / 8 % 4, keyIndex := fieldAt bs (o3 + 5) 1, ctr := fieldAt bs (o3 + 1) 4
    header := bs.take o5
    ie := ie
    wellFormed := ok && !bit fc 8 && panPresent && decide (dstMode ≠ 1 ∧ dstMode ≠ 3 ∧ srcMode ≠ 1 ∧ srcMode ≠ 3) &&
      decide (sc / 32 = 0) && decide (bs.length ≥ o5 + 4)
    body := rest.take (rest.length - 4)
    mic := rest.drop (rest.length - 4) }

/-! ### The robot epoch now (R111, R147) -/

/-- The interval of base epochs in ns (GNS_CFG.rate, R111). -/
def Hw.baseInterval (h : Hw) : Nat :=
  match h.f GNS_CFG GNS_CFG.rate with
  | 0 => 1000000000 | 1 => 200000000 | 2 => 100000000 | 3 => 50000000 | _ => 20000000

/-- The interval of robot epochs in ns (R147). -/
def Hw.robotInterval (h : Hw) : Nat := if h.baseInterval = 20000000 then 100000000 else h.baseInterval

/-- GPS time in ns of an instant of site time, by the receiver's offset. -/
def Hw.gpsOf (h : Hw) (t : Nat) : Nat := ((t : Int) - toInt 31 (h.f GNS_TIME_OFS GNS_TIME_OFS.offset)).toNat

/-- The receiver maps site time to GPS time (R237). -/
def Hw.gpsKnown (h : Hw) : Bool :=
  h.flag GNS_TIME_OFS GNS_TIME_OFS.valid && decide (h.f GNS_STAT GNS_STAT.state ≠ 3)

/-- The frame's epoch field: the low 16 bits of the robot epoch current at sending (R235). -/
def Hw.epochField (h : Hw) : Nat := h.rad.epoch % 65536

/-! ### Cells (R238–R240) -/

/-- A cell in ns. -/
def cellNs : Nat := 100000

/-- The cell of an instant, from the current T_sf. -/
def Hw.cellOf (h : Hw) (t : Nat) : Nat := (t - h.rad.tsf) / cellNs

/-- A run of cells holds a cell. -/
def inRun (start len c : Nat) : Bool := decide (start ≤ c ∧ c < start + len)

/-- The fleet hold runs: stop frames go in every mark and mid cell (R269). -/
def Hw.fleetHold (h : Hw) : Bool := h.flag STP_STAT STP_STAT.hold

/-- The number of cells of a mark on a lane. -/
def Hw.markCells (h : Hw) (n : Nat) : Nat := max 1 (h.f (RAD_LANE_SF n) RAD_LANE_SF.mark_cells)

/-- The slots of a lane in a layout: robot, first cell, cells (R238, R239). -/
def Hw.slotsOf (h : Hw) (n : Nat) (aux : Bool) : List (Nat × Nat × Nat) :=
  (List.range 16).filterMap fun k =>
    let r := h.f (RAD_SLOT n k) RAD_SLOT.robot
    if r = 0 then none
    else if aux then some (r, h.f (RAD_SLOT_AUX n k) RAD_SLOT_AUX.start, h.f (RAD_SLOT_AUX n k) RAD_SLOT_AUX.cells)
    else some (r, h.f (RAD_SLOT n k) RAD_SLOT.start, h.f (RAD_SLOT n k) RAD_SLOT.cells)

/-- The downlink region of a lane in a layout. -/
def Hw.downlink (h : Hw) (n : Nat) (aux : Bool) : Nat × Nat :=
  if aux then (h.f (RAD_LANE_DL_AUX n) RAD_LANE_DL_AUX.start, h.f (RAD_LANE_DL_AUX n) RAD_LANE_DL_AUX.cells)
  else (h.f (RAD_LANE_DL n) RAD_LANE_DL.start, h.f (RAD_LANE_DL n) RAD_LANE_DL.cells)

/-- A cell reserved by the layout: a mark, the beacon, or a slot (R238). -/
def Hw.layoutReserved (h : Hw) (n : Nat) (aux : Bool) (c : Nat) : Bool :=
  let mc := h.markCells n
  (List.range 5).any (fun j => inRun (100 * j) mc c) ||
    inRun mc (h.f (RAD_LANE_SF n) RAD_LANE_SF.beacon_cells) c ||
    (h.slotsOf n aux).any fun p => inRun p.2.1 p.2.2 c

/-- A cell that RAD treats as reserved: of the layout in force, a mid cell during a fleet hold, a claimed stop run, or the next
superframe (R238, R265). -/
def Hw.reserved (h : Hw) (n c : Nat) : Bool :=
  decide (c ≥ 500) || h.layoutReserved n (h.lane n).aux c ||
    (h.fleetHold && (List.range 5).any fun j => inRun (50 + 100 * j) (h.markCells n) c) ||
    (match (h.lane n).run with
     | some s => inRun s (h.markCells n) c
     | none => false)

/-- A cell of the downlink region in force that is not reserved. -/
def Hw.isDownlink (h : Hw) (n c : Nat) : Bool :=
  let (s, k) := h.downlink n (h.lane n).aux
  inRun s k c && !h.reserved n c

/-- The data rate of a lane in kbit/s. -/
def Hw.rate (h : Hw) (n : Nat) : Nat := min 800 (max 50 (h.f (RAD_LANE_CFG n) RAD_LANE_CFG.rate_kbps))

/-- The time a frame of some octets (FCS included) takes on a lane, in ns: SHR, octets, guard (R240). -/
def Hw.airNs (h : Hw) (n octets : Nat) : Nat :=
  (h.f (RAD_LANE_TIME n) RAD_LANE_TIME.shr_us + h.f (RAD_LANE_TIME n) RAD_LANE_TIME.guard_us) * 1000 +
    (octets * 8000000 + h.rate n - 1) / h.rate n

/-- Whether a frame of some octets may start at an instant: it ends before the next reserved cell, and in the downlink region
where its class must (R240). -/
def Hw.fits (h : Hw) (n t octets : Nat) (downlinkOnly : Bool) : Bool :=
  let c := h.cellOf t
  let last := (t + h.airNs n octets - 1 - h.rad.tsf) / cellNs
  h.rad.started && decide (t ≥ h.rad.tsf) && decide (last < 500) &&
    (List.range (last + 1 - c)).all fun i => if downlinkOnly then h.isDownlink n (c + i) else !h.reserved n (c + i)

/-- The lane a robot is bound to: the lane in whose table it appears, or the one it is bound to without a slot (R238, R256). -/
def Hw.laneOf (h : Hw) (robot : Nat) : Option Nat :=
  match (List.range 8).find? fun n => (h.slotsOf n false).any fun p => decide (p.1 = robot) with
  | some n => some n
  | none => (h.rad.unslotted.find? fun p => decide (p.1 = robot)).map (·.2)

/-- The robots bound to a lane, in robot order. -/
def Hw.robotsOn (h : Hw) (n : Nat) : List Nat := ((List.range 128).map (· + 1)).filter fun r => decide (h.laneOf r = some n)

/-! ### The validity gate (R248) -/

/-- A token has left the valid state: its frames leave the buffers, and one on the air is cut (R248). -/
def Hw.gateLane (t : Nat) (h : Hw) (n : Nat) : Hw :=
  let l := h.lane n
  let gone := l.frames.filter fun f => decide (f.token = t)
  let h := h.bumpBy (RAD_LANE_DROP n) RAD_LANE_DROP.tok_dropped RAD_LANE_DROP.dropped_sat gone.length
  let h := if gone.isEmpty then h else h.updLane n fun l => { l with frames := l.frames.filter fun f => decide (f.token ≠ t) }
  match l.onAir with
  | some a => if a.token = t then (h.abortLane n).bump (RAD_LANE_DROP n) RAD_LANE_DROP.tok_aborted RAD_LANE_DROP.aborted_sat else h
  | none => h

/-- The gate of every lane for a token that has left the valid state. -/
def Hw.gateToken (h : Hw) (t : Nat) : Hw := if t = 0 then h else (List.range 8).foldl (Hw.gateLane t) h

/-! ### The seen-cache (R251) -/

/-- The lifetime of an entry in ns. -/
def Hw.seenLife (h : Hw) : Nat := max 100 (h.f RAD_FLOOD_CFG RAD_FLOOD_CFG.hold_ms) * 1000000

/-- An unexpired entry of a pair is in the cache. -/
def Hw.wasSeen (h : Hw) (origin id : Nat) : Bool :=
  h.rad.seen.any fun e => decide (e.1 = origin ∧ e.2.1 = id ∧ h.now < e.2.2 + h.seenLife)

/-- Remove the first element that satisfies a test. -/
def dropOne {α : Type} (p : α → Bool) : List α → List α
  | [] => []
  | x :: xs => if p x then xs else x :: dropOne p xs

/-- Enter a pair: in place of an expired entry if there is one, else of the oldest where the cache is full. -/
def Hw.enterSeen (h : Hw) (origin id : Nat) : Hw :=
  let expired := fun (e : Nat × Nat × Nat) => decide (h.now ≥ e.2.2 + h.seenLife)
  let add := fun (l : List (Nat × Nat × Nat)) (h : Hw) => h.updRad fun r => { r with seen := l ++ [(origin, id, h.now)] }
  if h.rad.seen.length < 1024 then add h.rad.seen h
  else if h.rad.seen.any expired then add (dropOne expired h.rad.seen) h
  else add (h.rad.seen.drop 1) (h.bump RAD_FLOOD_STAT RAD_FLOOD_STAT.evict_young RAD_FLOOD_STAT.evict_sat)

end Sys2Proof.Machine
end

