-- ==== Sys2Proof/Machine/Bus.lean ====
section
/-! DEFINITION. How an access reaches a register: the checks that answer it with a bus error, the two views, the access types
and the lock rule, the shadows of 64-bit quantities, and the record of privileged writes (R9–R15, R20, R24, R37, R39,
R54–R56). -/

namespace Sys2Proof

/-- The masters that are cores, whose privilege level and memory attribute count (R37, R39). -/
def Master.isCore : Master → Bool
  | .ac _ => true
  | .sp => true
  | _ => false

/-- The register an access sees: none at an offset that holds none, nor, in the unprivileged view, at a privileged-only
register (R10). -/
def BusAcc.sees (a : BusAcc) (k : Nat) : Option RegDef :=
  match Machine.regFind k with
  | some r => if a.unpriv && r.privilegedOnly then none else some r
  | none => none

namespace Machine

open Reg

/-- Count an access error against a block, with the master that made it (HLT_ACC_ERR). -/
def Hw.accessError (h : Hw) (block : Nat) (m : Master) : Hw :=
  (h.bump (HLT_ACC_ERR block) HLT_ACC_ERR.count HLT_ACC_ERR.sat).setF (HLT_ACC_ERR block) HLT_ACC_ERR.last_master m.num

/-- The test access port has been unlocked: the image enables debug, and a challenge has been answered since device reset (R42). -/
def Hw.debugOpen (h : Hw) : Bool := h.cfg.image.debugEnable && h.brl.unlocked

/-- The registers of the challenge path: BRL_STAT, BRL_ID, BRL_CTRL, BRL_CHAL and BRL_DBG_ANS (R338). -/
def challengePath (k : Nat) : Bool :=
  decide (k = BRL_STAT ∨ k = BRL_CTRL ∨ (BRL_ID 0 ≤ k ∧ k < BRL_ID 4) ∨ (BRL_CHAL 0 ≤ k ∧ k < BRL_CHAL 4) ∨
    (BRL_DBG_ANS 0 ≤ k ∧ k < BRL_DBG_ANS 16))

/-- An access of the test access port that goes over the challenge path, which asks for no right (R338). -/
def Hw.overChallenge (h : Hw) (a : BusAcc) (k : Nat) : Bool := decide (a.master = .debug) && !h.debugOpen && challengePath k

/-- Whether the access uses a privileged-view offset without the right to it (R37, R54). -/
def Hw.noRight (h : Hw) (a : BusAcc) : Bool :=
  !a.unpriv && (!bit (h.f CFG_PRIV_MASK CFG_PRIV_MASK.priv) a.master.num ||
    (a.master.isCore && decide (a.level = .user)))

/-- Whether an aligned word at word number `k` is answered with a bus error before it reaches the register. -/
def Hw.busError (h : Hw) (a : BusAcc) (k : Nat) (write : Bool) : Bool :=
  decide (a.size ≠ .word) || decide (k % 4 ≠ 0) || decide (k / 0x10000 ≥ 0x1F) ||
    (a.master.isCore && !a.device) || (write && memb (k / 0x10000) h.pwr.stopped) ||
    (decide (a.master = .debug) && !h.debugOpen && !challengePath k) || (h.noRight a && !h.overChallenge a k)

/-- The answer to an access that is a bus error: no effect but the count, and the exception of a user-level access (R9, R24,
R37). -/
def Hw.failAccess (h : Hw) (a : BusAcc) (k : Nat) : Hw :=
  let h := if k / 0x10000 ≥ 0x1F then h else h.accessError (k / 0x10000) a.master
  let h := if a.master.isCore && !a.unpriv && decide (a.level = .user) then h.emit (.exception a.master.num) else h
  h.answer .busError

/-- The lock bit of the block that a register belongs to (R13): the word number and field of it, where there is one. -/
def lockOf (k : Nat) : Option (Nat × Fld) :=
  match k / 0x10000 with
  | 0x01 => some (CFG_LOCK, CFG_LOCK.lock)
  | 0x02 => some (HP_CFG 0, HP_CFG.lock)
  | 0x03 => some (HP_CFG 1, HP_CFG.lock)
  | 0x05 => some (MBX_CFG, MBX_CFG.lock)
  | 0x06 => some (SPN_GEOM, SPN_GEOM.lock)
  | 0x07 => some (SMU_CFG, SMU_CFG.lock)
  | 0x08 => some (DMA_CFG, DMA_CFG.lock)
  | 0x09 => some (STM_CFG, STM_CFG.lock)
  | 0x0A => some (GNS_CFG, GNS_CFG.lock)
  | 0x0B => some (OBS_CFG, OBS_CFG.lock)
  | 0x0C => some (MTX_CFG, MTX_CFG.lock)
  | 0x0D => some (FIX_CFG, FIX_CFG.lock)
  | 0x0E => some (RSV_CFG, RSV_CFG.lock)
  | 0x0F => some (LTH_CFG, LTH_CFG.lock)
  | 0x10 => some (AXL_CFG, AXL_CFG.lock)
  | 0x11 => some (RAD_CFG, RAD_CFG.lock)
  | 0x12 => some (STP_CFG, STP_CFG.lock)
  | 0x13 => some (EQX_CFG, EQX_CFG.lock)
  | 0x14 => some (CAL_CFG, CAL_CFG.lock)
  | 0x15 => some (ETH_CFG, ETH_CFG.lock)
  | 0x16 => some (MTR_CFG, MTR_CFG.lock)
  | 0x17 => some (BRL_CFG, BRL_CFG.lock)
  | 0x18 => some (UPD_CFG, UPD_CFG.lock)
  | 0x19 => some (ALM_CFG, ALM_CFG.lock)
  | 0x1A => some (PWR_CFG, PWR_CFG.lock)
  | 0x1B => some (VGL_CFG, VGL_CFG.lock)
  | 0x1C => some (HLT_CFG, HLT_CFG.lock)
  | 0x1D => some (DDR_CFG, DDR_CFG.lock)
  | 0x1E => some (PIN_LOCK, PIN_LOCK.lock)
  | _ => none

/-- Whether a block is locked. -/
def Hw.locked (h : Hw) (k : Nat) : Bool :=
  match lockOf k with
  | some (r, f) => h.flag r f
  | none => false

/-- What a write leaves of one field (the access types of spec/00_scope.md; R13 for a WL field of a locked block). -/
def fieldWrite (locked : Bool) (d : FieldDef) (old new : Nat) : Nat :=
  match d.access with
  | .rw => new
  | .rwv => new
  | .wl => if locked then old else new
  | .w1c => old &&& ((2 ^ d.width - 1) ^^^ new)
  | .w1s => old ||| new
  | .ro => old
  | .wo => old

/-- What a write leaves of a register's word: each field by its access type; reserved bits have no effect (R14). -/
def wordWrite (locked : Bool) (old new : Word) : List FieldDef → Word
  | [] => old
  | d :: ds =>
    let f : Fld := ⟨d.lo, d.width⟩
    f.set (wordWrite locked old new ds) (fieldWrite locked d (f.get old) (f.get new))

/-- A write is rejected where it would change a WL field of a locked block (R13). -/
def wordRejected (locked : Bool) (old new : Word) (ds : List FieldDef) : Bool :=
  locked && ds.any fun d => decide (d.access = .wl) && Fld.get ⟨d.lo, d.width⟩ old != Fld.get ⟨d.lo, d.width⟩ new

/-- Writing 1 to the wrap flag of an accumulator also clears its wraps (R376): the registers that hold both. -/
def clearWraps (k : Nat) (new w : Word) : Word :=
  let traffic := k / 0x10000 = 0x11 ∧ 0x110100 ≤ k ∧ k < 0x110300 ∧ ((k - 0x110100) % 0x40 = 0x30 ∨ (k - 0x110100) % 0x40 = 0x34)
  let octets := k / 0x10000 = 0x15 ∧ 0x150100 ≤ k ∧ k < 0x150160 ∧ ((k - 0x150100) % 0x20 = 0x10 ∨ (k - 0x150100) % 0x20 = 0x18)
  let energy := k / 0x10000 = 0x16 ∧ 0x160600 ≤ k ∧ k < 0x160680
  if traffic ∧ bit new.toNat 0 then RAD_LANE_TXCNT.wraps.set w 0
  else if octets ∧ bit new.toNat 31 then ETH_PORT_TXO_HI.wraps.set w 0
  else if energy ∧ bit new.toNat 31 then MTR_E_WRAP.wraps.set w 0
  else w

/-- The fields of a register as a write finds them: those of CFG_IRQ_ROUTE are frozen by CFG_LOCK, as WL fields are (log entry
68). -/
def writeFields (k : Nat) (r : RegDef) : List FieldDef :=
  if CFG_IRQ_ROUTE 0 ≤ k ∧ k < CFG_IRQ_ROUTE 224 then r.fields.map fun d => { d with access := .wl } else r.fields

/-- Store a written word into a register, and say whether the write was rejected. -/
def Hw.storeReg (h : Hw) (k : Nat) (r : RegDef) (v : Word) : Hw × Bool :=
  let lk := h.locked k
  let ds := writeFields k r
  (h.setReg k (clearWraps k v (wordWrite lk (h.reg k) v ds)), wordRejected lk (h.reg k) v ds)

/-- The presets of the image in force (R47, R53). -/
def Hw.presets (h : Hw) : List Preset := h.cfg.image.partitions.flatMap Partition.presets

/-- A function's preset. -/
def Hw.presetOf (h : Hw) (f n : Nat) : Option Preset :=
  h.presets.find? fun p => decide (p.function.val = f ∧ p.number.val = n)

/-- The register is covered by the function's active preset. -/
def Hw.covered (h : Hw) (f k : Nat) : Bool :=
  (h.presetOf f (h.f (CFG_PRESET_SEL f) CFG_PRESET_SEL.preset)).any fun p => p.values.any fun v => decide (v.1 = k)

/-- A write by a master to a register covered by an active preset sets modified (R53). -/
def Hw.markModified (h : Hw) (k : Nat) : Hw :=
  if h.presets.isEmpty then h
  else (List.range 21).foldl (fun h f => if h.covered f k then h.setFlag (CFG_PRESET_SEL f) CFG_PRESET_SEL.modified true else h) h

/-- The argument words of a configuration record (R56). -/
def cfgArgs (m k : Nat) (v : Word) (rejected preset reload : Bool) : Word × Word :=
  (v, BitVec.ofNat 32 (k % 0x8000 + k / 0x10000 * 2 ^ 15 + m * 2 ^ 20 + rejected.toNat * 2 ^ 24 + preset.toNat * 2 ^ 25 +
    reload.toNat * 2 ^ 26))

/-- A configuration record enters the staging queue; the configuration source's sequence advances once per privileged write
(R55, R56). -/
def Hw.stage (h : Hw) (m k : Nat) (v : Word) (rejected preset reload : Bool) : Hw :=
  let (a0, a1) := cfgArgs m k v rejected preset reload
  let r := h.mkRec cfgSource 0x0001 a0 a1 0
  { h with alm := h.alm.advance cfgSource, bus := { h.bus with staging := h.bus.staging ++ [r] } }

/-- The staging queue holds 64 records (R56). -/
def Hw.stagingFull (h : Hw) : Bool := decide (h.bus.staging.length ≥ 64)

/-- The number under which a master's shadow of a register stands. -/
def shadowKey (m k : Nat) : Nat := m * 0x200000 + k

/-- A master's shadow of a register word, if it holds one (R11). -/
def Hw.readShadow (h : Hw) (m k : Nat) : Option Word := h.bus.readShadow.at (shadowKey m k)

/-- Take a shadow of a register word for a master (R11). -/
def Hw.setReadShadow (h : Hw) (m k : Nat) (w : Word) : Hw :=
  { h with bus := { h.bus with readShadow := h.bus.readShadow.set (shadowKey m k) (some w) } }

/-- The held low word that a high-word write of a master commits, and that it is then used up (R11). -/
def Hw.takeLow (h : Hw) (m k : Nat) : Option Word × Hw :=
  (h.bus.writeShadow.at (shadowKey m k),
    { h with bus := { h.bus with writeShadow := h.bus.writeShadow.set (shadowKey m k) none } })

/-- Hold a low-word write for a master (R11). -/
def Hw.holdLow (h : Hw) (m k : Nat) (v : Word) : Hw :=
  { h with bus := { h.bus with writeShadow := h.bus.writeShadow.set (shadowKey m k) (some v) } }

/-- The word number of the low word whose high word stands at `k`, where `k` is such a high word (R11). -/
def lowWordOf (k : Nat) : Option Nat :=
  match regFind (k - 4) with
  | some r => if r.lowWord then some (k - 4) else none
  | none => none

/-- A write of an aligned word that has passed the checks and found its register: the low half of a 64-bit quantity is held;
the high half commits both; every field follows its type; a privileged-view write is recorded (R11, R13, R55). `eff` is
what the write starts, given the low word of a 64-bit quantity. -/
def Hw.commitWrite (h : Hw) (a : BusAcc) (k : Nat) (r : RegDef) (v : Word) (eff : Word → Hw → Hw) : Hw :=
  if r.lowWord then
    let h := h.holdLow a.master.num k v
    let h := if a.unpriv then h else h.stage a.master.num k v false false false
    h.answer .done
  else
    let (lowRej, low, h) :=
      match lowWordOf k with
      | none => (false, (0 : Word), h)
      | some kl =>
        let (held, h) := h.takeLow a.master.num kl
        let low := held.getD (h.reg kl)
        match regFind kl with
        | some rl => let (h, rej) := h.storeReg kl rl low; (rej, low, h)
        | none => (false, low, h)
    let (h, rej) := h.storeReg k r v
    let h := if a.unpriv then h else h.stage a.master.num k v (rej || lowRej) false false
    eff low ((h.markModified k).answer .done)

/-- A write of an aligned word to register space, with what the register's write starts (`eff`, given the low word of a 64-bit
quantity). A privileged-view write that finds the staging queue full waits (R56). -/
def Hw.regWrite (h : Hw) (a : BusAcc) (k : Nat) (v : Word) (eff : Word → Hw → Hw) : Hw :=
  if h.busError a k true then h.failAccess a k
  else match a.sees k with
    | none => h.answer .done
    | some r =>
      if !a.unpriv && h.stagingFull then
        ({ h with bus := { h.bus with waiting := h.bus.waiting ++ [Held.mk a k v] } }).answer .held
      else h.commitWrite a k r v eff

/-- A read of an aligned word of register space: `view` gives the live word of a register, `eff` what the read starts. A read
of the low word of a 64-bit quantity takes the shadow of the high word for the reading master; a read of the high word
returns the shadow, if the master has one (R11). A stopped block reads zero and counts an access error (R20). -/
def Hw.regRead (h : Hw) (a : BusAcc) (k : Nat) (view : Hw → Nat → Word) (eff : Hw → Hw) : Hw :=
  if h.busError a k false then h.failAccess a k
  else if memb (k / 0x10000) h.pwr.stopped then (h.accessError (k / 0x10000) a.master).answer (.data [0])
  else match a.sees k with
    | none => h.answer (.data [0])
    | some r =>
      let h' := if r.lowWord then h.setReadShadow a.master.num (k + 4) (view h (k + 4)) else h
      let w := (h.readShadow a.master.num k).getD (view h k)
      eff (h'.answer (.data [w]))

/-- A read whose value and effect are one operation: it gives the new state and the word. -/
def Hw.regReadWith (h : Hw) (a : BusAcc) (k : Nat) (op : Hw → Hw × Word) : Hw :=
  if h.busError a k false then h.failAccess a k
  else if memb (k / 0x10000) h.pwr.stopped then (h.accessError (k / 0x10000) a.master).answer (.data [0])
  else match a.sees k with
    | none => h.answer (.data [0])
    | some _ => let (h, w) := op h; h.answer (.data [w])

/-- A write by hardware on a master's behalf to a privileged-view offset, recorded with its flags (R53, R55). The staging queue
takes it whatever its length (log entry 12). -/
def Hw.hwWrite (h : Hw) (m k : Nat) (v : Word) (preset reload : Bool) : Hw × Bool :=
  match regFind k with
  | none => (h, false)
  | some r =>
    let (h, rej) := h.storeReg k r v
    (h.stage m k v rej preset reload, rej)

end Machine

end Sys2Proof
end

