-- ==== Sys2Proof/Machine/Operands.lean ====
section
/-! DEFINITION. How engines reach memory: translation by the System Memory Unit (R76–R79), and reads and writes of records in a
context's address space. -/

namespace Sys2Proof.Machine

open Reg

/-! ### Translation -/

/-- Fault kinds (R79). -/
def kindNotValid : Nat := 1
def kindPermission : Nat := 2
def kindRange : Nat := 3
def kindFormat : Nat := 4
def kindRegister : Nat := 5
def kindWalk : Nat := 6
def kindHost : Nat := 7

/-- A table entry, 8 octets at a physical address in SRAM or DRAM; `none` is a bus error (R77). -/
def Hw.tableEntry (h : Hw) (a : Nat) : Option Nat := (h.readPhys a 8).map leNat

/-- The output of a leaf entry for an input address, with `low` offset bits, or the fault kind (R77, R79). -/
def leafOut (e addr low : Nat) (write : Bool) : Except Nat Nat :=
  if ¬bit e 0 then .error kindNotValid
  else if ¬(e / 16 % 4 < 2) ∨ (low = 21 ∧ e / 2 ^ 12 % 2 ^ 9 ≠ 0) then .error kindFormat
  else if write ∧ ¬bit e 3 then .error kindPermission
  else if ¬write ∧ ¬bit e 2 then .error kindPermission
  else .ok (e / 2 ^ low * 2 ^ low % 2 ^ 40 + addr % 2 ^ low)

/-- The leaf entry of an input address and its number of offset bits (R77). -/
def Hw.walk (h : Hw) (ctx addr : Nat) : Except Nat (Nat × Nat) :=
  let base := h.reg64 (SMU_CTX_BASE_LO ctx) % 2 ^ 40
  match h.tableEntry (base + addr / 2 ^ 21 * 8) with
  | none => .error kindWalk
  | some e =>
    if ¬bit e 0 then .error kindNotValid
    else if bit e 1 then .ok (e, 21)
    else if e / 16 % 4 ≥ 2 then .error kindFormat
    else match h.tableEntry (e / 2 ^ 12 * 2 ^ 12 % 2 ^ 40 + addr / 2 ^ 12 % 512 * 8) with
      | none => .error kindWalk
      | some e2 =>
        if ¬bit e2 0 then .error kindNotValid
        else if ¬bit e2 1 then .error kindFormat
        else .ok (e2, 12)

/-- The walk an access uses: a fresh one, or a cached translation that a change of the tables has made stale (R77, R78; log
entry 8). -/
def Hw.walkCached (h : Hw) (ctx addr : Nat) : Except Nat (Nat × Nat) :=
  match h.smu.cached.at (ctx * 2 ^ 24 + addr / 2 ^ 12) with
  | some e => if Config.staleHit h.freeCtr then .ok (e / 2, if e % 2 = 1 then 21 else 12) else h.walk ctx addr
  | none => h.walk ctx addr

/-- Whether an output address lies in register space. -/
def isRegSpace (a : Nat) : Bool := decide (0x0100000000 ≤ a ∧ a < 0x0100200000)

/-- Translate an address of a context (R76–R79), or give the fault kind. -/
def Hw.translate (h : Hw) (ctx addr : Nat) (write : Bool) : Except Nat Nat :=
  if ¬h.flag (SMU_CTX_CFG ctx) SMU_CTX_CFG.enable then .error kindHost
  else if addr ≥ 2 ^ (h.f (SMU_CTX_CFG ctx) SMU_CTX_CFG.l1_log2 + 21) then .error kindRange
  else match h.walkCached ctx addr with
    | .error k => .error k
    | .ok (e, low) =>
      match leafOut e addr low write with
      | .error k => .error k
      | .ok a =>
        if isRegSpace a ∧ (e / 16 % 4 ≠ 1 ∨ h.f (SMU_CTX_CFG ctx) SMU_CTX_CFG.master = 0) then .error kindRegister
        else .ok a

/-- Keep a translation that an access used, while it may be cached (R77). -/
def Hw.keepCached (h : Hw) (ctx addr : Nat) : Hw :=
  match h.walk ctx addr with
  | .ok (e, low) =>
    if h.smu.cached.at (ctx * 2 ^ 24 + addr / 2 ^ 12) = none then
      let c := h.smu.cached.set (ctx * 2 ^ 24 + addr / 2 ^ 12) (some (e * 2 + (if low = 21 then 1 else 0)))
      { h with smu := { h.smu with cached := c } }
    else h
  | .error _ => h

/-- What stops an engine's access: a translation fault at an address, or a bus error (R79, R21). -/
inductive MemErr
  | fault (addr kind : Nat)
  | bus
deriving DecidableEq, Repr, Inhabited

/-- The octets of the page (or of the rest of it) that an access of `n` octets at `addr` covers first. -/
def pagePart (addr n : Nat) : Nat := min n (4096 - addr % 4096)

/-- Read octets in a context's address space, page by page (at most `fuel` pages). -/
def Hw.readCtxGo (h : Hw) (ctx : Nat) : Nat → Nat → Nat → Except MemErr (List Byte)
  | 0, _, _ => .ok []
  | fuel + 1, addr, n =>
    if n = 0 then .ok []
    else
      let m := pagePart addr n
      match h.translate ctx addr false with
      | .error k => .error (.fault addr k)
      | .ok pa =>
        match h.readPhys pa m with
        | none => .error .bus
        | some bs =>
          match h.readCtxGo ctx fuel (addr + m) (n - m) with
          | .error e => .error e
          | .ok rest => .ok (bs ++ rest)

/-- Read `n` octets in a context's address space. -/
def Hw.readCtx (h : Hw) (ctx addr n : Nat) : Except MemErr (List Byte) := h.readCtxGo ctx (n / 4096 + 2) addr n

/-- Write octets in a context's address space, page by page (at most `fuel` pages): the new state, how many octets were
written, and what stopped the access. -/
def Hw.writeCtxGo (ctx : Nat) : Nat → Hw → Nat → List Byte → Nat → Hw × Nat × Option MemErr
  | 0, h, _, _, k => (h, k, none)
  | fuel + 1, h, addr, bs, k =>
    if bs.isEmpty then (h, k, none)
    else
      let m := pagePart addr bs.length
      match h.translate ctx addr true with
      | .error e => (h, k, some (.fault addr e))
      | .ok pa =>
        match h.writePhys pa (bs.take m) with
        | none => (h, k, some .bus)
        | some h' => Hw.writeCtxGo ctx fuel (h'.keepCached ctx addr) (addr + m) (bs.drop m) (k + m)

/-- Write octets in a context's address space. -/
def Hw.writeCtx (h : Hw) (ctx addr : Nat) (bs : List Byte) : Hw × Nat × Option MemErr :=
  Hw.writeCtxGo ctx (bs.length / 4096 + 2) h addr bs 0

end Sys2Proof.Machine
end

