-- ==== Sys2Proof/Machine/Streams.lean ====
section
/-! DEFINITION. Notices and Spindle's token delivery, and the packet FIFOs (R66–R75, R95–R101). -/

namespace Sys2Proof.Machine

open Reg

/-! ### Spindle: tasks, tokens, offers (R66–R75) -/

/-- A core as Spindle sees it. -/
def Hw.spnCore (h : Hw) (n : Nat) : SpnCore := h.spn.cores.at n

/-- A task slot. -/
def Hw.task (h : Hw) (slot : Nat) : Task := h.spn.tasks.at slot

/-- Change a task slot. -/
def Hw.updTask (h : Hw) (slot : Nat) (f : Task → Task) : Hw :=
  { h with spn := { h.spn with tasks := h.spn.tasks.upd slot f } }

/-- Change a core as Spindle sees it. -/
def Hw.updCore (h : Hw) (n : Nat) (f : SpnCore → SpnCore) : Hw :=
  { h with spn := { h.spn with cores := h.spn.cores.upd n f } }

/-- Change the ready list of a priority. -/
def Hw.updReady (h : Hw) (p : Nat) (f : List Nat → List Nat) : Hw :=
  { h with spn := { h.spn with ready := h.spn.ready.upd p f } }

/-- A handle names its slot's current task: the generation agrees and is not 0 (R66). -/
def Hw.handleSlot (h : Hw) (handle : Nat) : Option Nat :=
  let slot := handle % 512
  if handle / 512 ≠ 0 ∧ (h.task slot).gen = handle / 512 then some slot else none

/-- A handle names a task in the waiting state (R69). -/
def Hw.namesWaiting (h : Hw) (handle : Nat) : Bool :=
  match h.handleSlot handle with
  | some slot => decide ((h.task slot).state = .waiting)
  | none => false

/-- The handle of a slot's current task. -/
def Hw.handleOf (h : Hw) (slot : Nat) : Nat := (h.task slot).gen * 512 + slot

/-- A core to which tasks are offered: in service, deliver set, not halted (R70, R43). -/
def Hw.delivers (h : Hw) (n : Nat) : Bool :=
  h.flag (SPN_CORE_EN n) SPN_CORE_EN.in_service && h.flag (SPN_CORE_EN n) SPN_CORE_EN.deliver &&
    !(h.cores.at n).halted

/-- The priority a core runs, plus one: 0 when it is idle and has no offer. An offer counts as the task it offers (log entry
13). -/
def Hw.corePrio (h : Hw) (n : Nat) : Nat :=
  let c := h.spnCore n
  match c.offer, c.running with
  | some o, _ => (h.task o).prio + 1
  | none, some r => (h.task r).prio + 1
  | none, none => if c.saving.isEmpty then 0 else 1

/-- A core can take a task of priority `p` at once: it is idle or runs a lower priority (R70). -/
def Hw.canTake (h : Hw) (n p : Nat) : Bool := h.delivers n && decide (h.corePrio n < p + 1)

/-- Put a task at the head of its ready list (R71, R72). -/
def Hw.readyHead (h : Hw) (slot : Nat) : Hw := h.updReady (h.task slot).prio fun l => slot :: without slot l

/-- Put a task at the tail of its ready list, in the order it became ready (R70). -/
def Hw.readyTail (h : Hw) (slot : Nat) : Hw := h.updReady (h.task slot).prio fun l => without slot l ++ [slot]

/-- The cluster of a core is ungated: an interrupt or an offer has been routed to it (R379). -/
def Hw.ungate (h : Hw) (n : Nat) : Hw := if n < 8 then h.setFlag (SYS_CLUSTER (n / 4)) SYS_CLUSTER.gated false else h

/-- Offer a task to a core: the delivery interrupt at the task's level (R71, R38). A displaced offer returns to the head of its
ready list. -/
def Hw.offer (h : Hw) (n slot : Nat) : Hw :=
  let h := match (h.spnCore n).offer with
    | some o => (h.updTask o fun t => { t with state := if t.resumed then .preempted else .ready }).readyHead o
    | none => h
  let h := h.updReady (h.task slot).prio (without slot)
  let h := h.updTask slot fun t => { t with state := .offered, window := true }
  ((h.updCore n fun c => { c with offer := some slot }).ungate n).emit (.interrupt n (h.task slot).prio 0xFFFF)

/-- The cores of an affinity mask to which tasks are offered, lowest first. -/
def Hw.eligible (h : Hw) (mask : Nat) : List Nat := (List.range 8).filter fun n => bit mask n && h.delivers n

/-- The core of some to which a task goes as a stolen one: the lowest idle core, else the core running the lowest priority below the task's
(R70). -/
def Hw.stealFrom (h : Hw) (prio : Nat) (cs : List Nat) : Option Nat :=
  match cs.find? fun n => decide (h.corePrio n = 0) with
  | some n => some n
  | none =>
    (cs.filter fun n => decide (h.corePrio n < prio + 1)).foldl
      (fun best n => match best with
        | none => some n
        | some b => if h.corePrio n < h.corePrio b then some n else some b) none

/-- The core a stolen task goes to, of the eligible cores of its affinity mask (R70). -/
def Hw.stealTarget (h : Hw) (slot : Nat) : Option Nat := h.stealFrom (h.task slot).prio (h.eligible (h.task slot).affinity)

/-- A task that has just become ready: offered to its last core if that core can take it, else it waits in its affinity window;
with no usable last core it is offered as a stolen task is (R70). -/
def Hw.placeReady (h : Hw) (slot : Nat) : Hw :=
  let t := h.task slot
  if !t.noHome && bit t.affinity t.lastCore && h.canTake t.lastCore t.prio then h.offer t.lastCore slot
  else if !t.noHome && bit t.affinity t.lastCore then
    h.updTask slot fun t => { t with window := true }
  else match h.stealTarget slot with
    | some n => h.offer n slot
    | none => h.updTask slot fun t => { t with window := false }

/-- All ready and pre-empted tasks, highest priority first, in order within a priority. -/
def Hw.readyOrder (h : Hw) : List Nat := ([7, 6, 5, 4, 3, 2, 1, 0] : List Nat).flatMap fun p => h.spn.ready.at p

/-- A core has ended, saved or left a task: it takes the highest-priority ready task whose last core it is, or, failing that,
the next ready task whose window is lost (R70, R73). -/
def Hw.coreFree (h : Hw) (n : Nat) : Hw :=
  let can := fun s => bit (h.task s).affinity n && h.canTake n (h.task s).prio
  match h.readyOrder.find? fun s => can s && decide ((h.task s).lastCore = n) && !(h.task s).noHome with
  | some s => h.offer n s
  | none =>
    match h.readyOrder.find? fun s => can s && !(h.task s).window with
    | some s => h.offer n s
    | none => h

/-- A task's dependence count has reached zero: it becomes ready (R68). -/
def Hw.becomeReady (h : Hw) (slot : Nat) : Hw :=
  ((h.updTask slot fun t => { t with state := .ready }).readyTail slot).placeReady slot

/-- A token for a handle (R66, R68). -/
def Hw.token (h : Hw) (handle : Nat) (err : Bool) : Hw :=
  match h.handleSlot handle with
  | none => h.bump SPN_ERR SPN_ERR.stray SPN_ERR.stray_sat
  | some slot =>
    if (h.task slot).count = 0 then h.bump SPN_ERR SPN_ERR.excess SPN_ERR.excess_sat
    else
      let h := h.updTask slot fun t => { t with count := t.count - 1, errIn := t.errIn || err }
      if (h.task slot).count = 0 ∧ (h.task slot).state = .waiting then h.becomeReady slot else h

/-! ### Notices (R69) -/

/-- The handle and pending fields of a notice register (all notice registers have this layout). -/
def noticeHandle : Fld := ⟨0, 16⟩
def noticePending : Fld := ⟨31, 1⟩

/-- A notice finds a register (R69). -/
def Hw.notice (h : Hw) (k : Nat) : Hw :=
  let hd := h.f k noticeHandle
  if hd ≠ 0 ∧ h.namesWaiting hd then (h.token hd false).setF k noticeHandle 0
  else h.setF k noticePending 1

/-- A write of a handle to a notice register (R69). -/
def Hw.armNotice (h : Hw) (k hd : Nat) : Hw :=
  if hd = 0 then h.setF k noticeHandle 0
  else if h.namesWaiting hd ∧ h.flag k noticePending then
    ((h.token hd false).setF k noticePending 0).setF k noticeHandle 0
  else h.setF k noticeHandle hd

/-! ### Interrupt delivery to cores (R38, R64) -/

/-- The level a core runs at (R38). -/
def Hw.runLevel (h : Hw) (n : Nat) : Nat :=
  match (h.cores.at n).taken with
  | (_, l) :: _ => l
  | [] => match (h.spnCore n).running with
    | some s => (h.task s).prio
    | none => 0

/-- Whether a core takes an interrupt of a level now: above the running level; an idle core takes any (R38). -/
def Hw.takes (h : Hw) (n level : Nat) : Bool :=
  decide (level > h.runLevel n) || ((h.cores.at n).taken.isEmpty && (h.spnCore n).running.isNone)

/-- Give an interrupt to a core: taken if above its running level, else it waits there (R38). -/
def Hw.toCore (h : Hw) (n line level : Nat) : Hw :=
  let h := h.ungate n
  if h.takes n level then
    ({ h with cores := h.cores.upd n fun c => { c with taken := (line, level) :: c.taken, idle := false } }).emit
      (.interrupt n level line)
  else { h with cores := h.cores.upd n fun c => { c with waiting := c.waiting ++ (if memb line c.waiting then [] else [line]) } }

/-- A core has returned from its device interrupts, as an accepted delivery and a task's end show (log entry 75): the lines that
wait for it are taken where they are above its running level (R38). -/
def Hw.coreReturns (h : Hw) (n : Nat) : Hw :=
  let ls := (h.cores.at n).waiting
  let h := { h with cores := h.cores.upd n fun c => { c with taken := [], waiting := [] } }
  ls.foldl (fun h l => h.toCore n l (h.f (CFG_IRQ_ROUTE l) CFG_IRQ_ROUTE.level)) h

/-- A line drives the vectors of the host ports that map it: an MSI-X message while the link is up, HPx_IRQn low in SPI mode
(HPx_MSIX_MAP, R61). -/
def Hw.hostVectors (h : Hw) (line : Nat) : Hw :=
  (List.range 2).foldl (fun h p =>
    let vs := (List.range 32).filter fun v =>
      h.flag (HP_MSIX_MAP p v) HP_MSIX_MAP.enable && decide (h.f (HP_MSIX_MAP p v) HP_MSIX_MAP.line = line)
    let mode := h.f (HP_CFG p) HP_CFG.mode
    if mode = 0 then (if h.f (HP_LINK p) HP_LINK.state = 2 then vs.foldl (fun h v => h.emit (.host p v)) h else h)
    else if mode = 1 ∧ ¬vs.isEmpty then h.emit (.pin (if p = 0 then "HA_IRQn" else "HB_IRQn") false)
    else h) h

/-- A device interrupt line is delivered by its routing entry (R64), and to the hosts that map it. -/
def Hw.deviceLine (h : Hw) (line : Nat) : Hw :=
  let k := CFG_IRQ_ROUTE line
  let h := h.hostVectors line
  if ¬h.flag k CFG_IRQ_ROUTE.enable then h
  else
    let level := h.f k CFG_IRQ_ROUTE.level
    let h := if h.flag k CFG_IRQ_ROUTE.sp then h.toCore 8 line level else h
    let cs := (List.range 8).filter fun n =>
      bit (h.f k CFG_IRQ_ROUTE.cores) n && h.flag (SPN_CORE_EN n) SPN_CORE_EN.in_service
    match cs.find? fun n => h.takes n level with
    | some n => h.toCore n line level
    | none =>
      match cs with
      | n :: _ => h.toCore n line level
      | [] =>
        if h.flag k CFG_IRQ_ROUTE.sp then h
        else
          let h := { h with cfg := { h.cfg with unroutable :=
            h.cfg.unroutable ++ (if memb line h.cfg.unroutable then [] else [line]) } }
          h.setFlag HLT_STAT HLT_STAT.unroutable true

/-! ### Packet FIFOs (R95–R101) -/

/-- The modes of a FIFO (STM_GEOM.mode). -/
def modeFramed : Nat := 1
def modeCut : Nat := 2

/-- A FIFO beyond its registers. -/
def Hw.fifo (h : Hw) (f : Nat) : Fifo := h.fifos.at f

/-- Replace a FIFO. -/
def Hw.setFifo (h : Hw) (f : Nat) (x : Fifo) : Hw := { h with fifos := h.fifos.set f x }

/-- The mode of a FIFO. -/
def Hw.fifoMode (h : Hw) (f : Nat) : Nat := h.f (STM_GEOM f) STM_GEOM.mode

/-- The size of a FIFO in words, 2^(size_log2 - 2). -/
def Hw.fifoWords (h : Hw) (f : Nat) : Nat := 2 ^ (h.f (STM_GEOM f) STM_GEOM.size_log2 - 2)

/-- The words between the read and the write pointer (pointers are one bit wider than the word index). -/
def Hw.fifoUsed (h : Hw) (f : Nat) : Nat :=
  ((h.fifo f).wr + 2 * h.fifoWords f - (h.fifo f).rd) % (2 * h.fifoWords f)

/-- Free words for the producer (STM_STAT.space). -/
def Hw.fifoSpace (h : Hw) (f : Nat) : Nat := h.fifoWords f - h.fifoUsed f

/-- Words of a packet of `n` octets. -/
def wordsFor (n : Nat) : Nat := (n + 3) / 4

/-- The largest packet in octets: 65,535 or the FIFO size less 4 (R96). -/
def Hw.packetLimit (h : Hw) (f : Nat) : Nat := min 65535 (h.fifoWords f * 4 - 4)

/-- Advance a pointer by `n` words. -/
def Hw.advance (h : Hw) (f p n : Nat) : Nat := (p + n) % (2 * h.fifoWords f)

/-- One notice for a packet that became complete or ended aborted: the FIFO's line 96 + f and STM_NOTICE (R98). -/
def Hw.fifoNotice (h : Hw) (f : Nat) : Hw := (h.deviceLine (96 + f)).notice (STM_NOTICE f)

/-- The open cut-through packet, if the last packet is one. -/
def Fifo.openPkt (x : Fifo) : Option Pkt := x.pkts.getLast?.filter fun p => !p.complete

/-- Change the last packet. -/
def Fifo.updLast (x : Fifo) (g : Pkt → Pkt) : Fifo :=
  match x.pkts.reverse with
  | p :: ps => { x with pkts := (g p :: ps).reverse }
  | [] => x

/-- Remove the first packet, whose `left` words still stand in the FIFO. -/
def Hw.dropFirst (h : Hw) (f : Nat) : Hw :=
  let x := h.fifo f
  match x.pkts with
  | [] => h
  | p :: ps =>
    let left := (if x.begun then 0 else 1) + (if p.skipped then 0 else p.words.length - x.taken)
    h.setFifo f { x with pkts := ps, begun := false, taken := 0, rd := h.advance f x.rd left }

/-- Discard the complete packets that a flush covers and that the consumer has not begun: the first `flushFrom` packets that were
complete when the flush acts are all complete ones (R100). -/
def Hw.flushNow (h : Hw) (f : Nat) : Hw :=
  let x := h.fifo f
  let keep := x.pkts.filter fun p => !p.complete
  let gone := (x.pkts.filter fun p => p.complete).foldl (fun n p => n + 1 + p.words.length) 0
  h.setFifo f { x with pkts := keep, rd := h.advance f x.rd gone, flushPending := false }

/-- The consumer stands at a packet boundary: a pending flush acts there (R100). -/
def Hw.atBoundary (h : Hw) (f : Nat) : Hw :=
  if (h.fifo f).flushPending ∧ ¬(h.fifo f).begun then h.flushNow f else h

/-- A push of one word by software (R96, R97, R99). -/
def Hw.push (h : Hw) (f : Nat) (w : Word) : Hw :=
  let x := h.fifo f
  let lost := fun (h : Hw) => h.setFlag (STM_STAT f) STM_STAT.overflow true
  if h.fifoMode f = modeFramed then
    if x.dropping then lost h
    else if x.reserved then
      if h.fifoSpace f ≥ 1 then
        h.setFifo f { x with openWords := x.openWords ++ [w], wr := h.advance f x.wr 1 }
      else lost (h.setFifo f { x with dropping := true })
    else if h.fifoSpace f ≥ 2 then
      h.setFifo f { x with openWords := [w], reserved := true, wr := h.advance f x.wr 2 }
    else lost (h.setFifo f { x with dropping := true })
  else if h.fifoMode f = modeCut then
    match x.openPkt with
    | none => lost h
    | some p =>
      if p.skipped then
        let n := p.words.length + 1
        if n ≥ wordsFor p.length then
          (h.setFifo f { x with pkts := x.pkts.dropLast, begun := false, taken := 0 }).fifoNotice f |>.atBoundary f
        else h.setFifo f (x.updLast fun p => { p with words := p.words ++ [w] })
      else if h.fifoSpace f = 0 then
        lost ((h.setFifo f (x.updLast fun p => { p with abort := true, complete := true })).fifoNotice f)
      else
        let done := decide (p.words.length + 1 ≥ wordsFor p.length)
        let x' := x.updLast fun p => { p with words := p.words ++ [w], complete := done }
        let h := h.setFifo f { x' with wr := h.advance f x.wr 1 }
        if done then h.fifoNotice f else h
  else lost h

/-- Withdraw the open framed packet: the write pointer returns to the reserved word (R96). -/
def Hw.withdraw (h : Hw) (f : Nat) : Hw :=
  let x := h.fifo f
  let back := if x.reserved then 1 + x.openWords.length else 0
  h.setFifo f { x with openWords := [], reserved := false, dropping := false,
                       wr := h.advance f x.wr (2 * h.fifoWords f - back) }

/-- End the open cut-through packet, marked aborted and truncated at the words pushed (R97). A packet the consumer has skipped
goes away. -/
def Hw.endAborted (h : Hw) (f : Nat) : Hw :=
  let x := h.fifo f
  match x.openPkt with
  | none => h
  | some p =>
    if p.skipped then
      ((h.setFifo f { x with pkts := x.pkts.dropLast, begun := false, taken := 0 }).fifoNotice f).atBoundary f
    else (h.setFifo f (x.updLast fun p => { p with abort := true, complete := true })).fifoNotice f

/-- A framed commit (R96, R99). -/
def Hw.commitFramed (h : Hw) (f length tag : Nat) : Hw :=
  let x := h.fifo f
  if x.dropping then h.withdraw f
  else if ¬x.reserved ∧ length = 0 then
    if h.fifoSpace f = 0 then h.setFlag (STM_STAT f) STM_STAT.overflow true
    else (h.setFifo f { x with pkts := x.pkts ++ [⟨tag, 0, false, false, [], true, false⟩],
                               wr := h.advance f x.wr 1 }).fifoNotice f
  else if length > h.packetLimit f ∨ wordsFor length ≠ x.openWords.length then
    (h.withdraw f).setFlag (STM_STAT f) STM_STAT.bad_commit true
  else (h.setFifo f { x with pkts := x.pkts ++ [⟨tag, length, false, false, x.openWords, true, false⟩], openWords := [],
                             reserved := false }).fifoNotice f

/-- A cut-through start header (R97). A header that finds no free word is dropped and sets overflow, as a push is (log entry
14). -/
def Hw.startCut (h : Hw) (f length tag : Nat) : Hw :=
  let h := if (h.fifo f).openPkt.isSome then (h.endAborted f).setFlag (STM_STAT f) STM_STAT.bad_commit true else h
  if h.fifoSpace f = 0 then h.setFlag (STM_STAT f) STM_STAT.overflow true
  else
    let x := h.fifo f
    let h := h.setFifo f { x with pkts := x.pkts ++ [⟨tag, length, false, false, [], decide (length = 0), false⟩],
                                  wr := h.advance f x.wr 1 }
    if length = 0 then h.fifoNotice f else h

/-- A write of STM_COMMIT (R95–R97). -/
def Hw.commit (h : Hw) (f : Nat) (v : Word) : Hw :=
  let length := STM_COMMIT.length.get v
  let tag := STM_COMMIT.tag.get v
  if h.fifoMode f = modeFramed then
    if STM_COMMIT.abort.get v = 1 then h.withdraw f else h.commitFramed f length tag
  else if h.fifoMode f = modeCut then
    if STM_COMMIT.abort.get v = 1 then h.endAborted f
    else if STM_COMMIT.start.get v = 1 then h.startCut f length tag
    else h.setFlag (STM_STAT f) STM_STAT.bad_commit true
  else h

/-- Whether the first packet has crossed the threshold (STM_STAT.threshold_met). -/
def Hw.pastThreshold (h : Hw) (f : Nat) : Bool :=
  match (h.fifo f).pkts with
  | [] => false
  | p :: _ => !p.skipped && decide (p.words.length ≥ max 1 (h.f (STM_GEOM f) STM_GEOM.threshold))

/-- Whether the first packet may be read: complete, or past the threshold in cut-through mode (R97; STM_HEAD.avail). -/
def Hw.avail (h : Hw) (f : Nat) : Bool :=
  match (h.fifo f).pkts with
  | [] => false
  | p :: _ =>
    !p.skipped && (p.complete || decide (p.words.length ≥ max 1 (h.f (STM_GEOM f) STM_GEOM.threshold)))

/-- A pop that finds no word returns 0 and counts (R99). -/
def Hw.emptyPop (h : Hw) : Hw × Word := (h.bump STM_ERR STM_ERR.empty_pop STM_ERR.pop_sat, 0)

/-- A read of STM_POP: the word and the new state (R97, R99). -/
def Hw.pop (h : Hw) (f : Nat) : Hw × Word :=
  let x := h.fifo f
  match x.pkts with
  | [] => h.emptyPop
  | p :: ps =>
    if h.fifoMode f = 0 ∨ (¬x.begun ∧ ¬h.avail f) ∨ p.skipped then h.emptyPop
    else
      let h := if p.abort then h.setFlag (STM_STAT f) STM_STAT.aborted_seen true else h
      match p.words[x.taken]? with
      | none =>
        if p.complete then
          ((h.setFifo f { x with pkts := ps, begun := false, taken := 0,
                                 rd := h.advance f x.rd (if x.begun then 0 else 1) }).atBoundary f, 0)
        else h.emptyPop
      | some w =>
        let rd := h.advance f x.rd (if x.begun then 1 else 2)
        if p.complete ∧ x.taken + 1 = p.words.length then
          ((h.setFifo f { x with pkts := ps, begun := false, taken := 0, rd := rd }).atBoundary f, w)
        else (h.setFifo f { x with begun := true, taken := x.taken + 1, rd := rd }, w)

/-- A write of STM_CTRL.flush (R100). -/
def Hw.flush (h : Hw) (f : Nat) : Hw :=
  if (h.fifo f).begun then h.setFifo f { h.fifo f with flushPending := true }
  else h.flushNow f

/-- A write of STM_CTRL.skip (R101). -/
def Hw.skip (h : Hw) (f : Nat) : Hw :=
  let x := h.fifo f
  match x.pkts with
  | [] => h
  | p :: _ =>
    if p.skipped ∨ ¬(x.begun ∨ h.avail f) then h
    else if p.complete then (h.dropFirst f).atBoundary f
    else
      let left := (if x.begun then 0 else 1) + (p.words.length - x.taken)
      h.setFifo f { x with pkts := [{ p with skipped := true }] ++ x.pkts.drop 1, begun := true, taken := p.words.length,
                           rd := h.advance f x.rd left }

/-- Whether a hardware producer can place a whole packet of `n` octets now (R99: it is held by back-pressure otherwise). -/
def Hw.fifoFits (h : Hw) (f n : Nat) : Bool := decide (h.fifoSpace f ≥ 1 + wordsFor n ∧ n ≤ h.packetLimit f)

/-- A hardware producer writes one complete packet. -/
def Hw.hwPacket (h : Hw) (f tag : Nat) (bs : List Byte) : Hw :=
  let x := h.fifo f
  let ws := bytesToWords bs
  (h.setFifo f { x with pkts := x.pkts ++ [⟨tag, bs.length, false, false, ws, true, false⟩],
                        wr := h.advance f x.wr (1 + ws.length) }).fifoNotice f

/-- The packets that back-pressure holds enter as the FIFO has room (R99). -/
def Hw.settleGo (f : Nat) : Nat → Hw → Hw
  | 0, h => h
  | n + 1, h =>
    match (h.fifo f).waiting with
    | [] => h
    | (_, tag, bs) :: ws =>
      if h.fifoFits f bs.length then
        Hw.settleGo f n ((h.setFifo f { h.fifo f with waiting := ws }).hwPacket f tag bs)
      else h

/-- Let held packets of a FIFO enter. -/
def Hw.settle (h : Hw) (f : Nat) : Hw := Hw.settleGo f (h.fifo f).waiting.length h

/-- The hardware producers whose packets back-pressure may hold. -/
def prodGns : Nat := 1
def prodEcho : Nat := 2
def prodPub : Nat := 3
def prodRsv : Nat := 4
def prodLth : Nat := 5
def prodRx : Nat := 6
def prodMtr : Nat := 7
def prodHlt : Nat := 8

/-- A hardware producer offers a packet to FIFO `f`: it is written, held by back-pressure (R99), or discarded by a FIFO that is off
(R95). The Bool says that it was discarded. -/
def Hw.hwSend (h : Hw) (prod f tag : Nat) (bs : List Byte) : Hw × Bool :=
  if h.fifoMode f = 0 then (h, true)
  else if (h.fifo f).waiting.isEmpty && h.fifoFits f bs.length then (h.hwPacket f tag bs, false)
  else (h.setFifo f { h.fifo f with waiting := (h.fifo f).waiting ++ [(prod, tag, bs)] }, false)

/-- A hardware producer offers a packet whose tag the specification does not state: the tag is a free value. -/
def Hw.hwSendFree (h : Hw) (prod f : Nat) (bs : List Byte) : Hw × Bool :=
  (h.useFree 1).hwSend prod f ((Config.freeWord h.freeCtr).toNat % 8192) bs

/-- A producer has a packet held by FIFO `f`. -/
def Hw.holdsPacket (h : Hw) (prod f : Nat) : Bool := (h.fifo f).waiting.any fun p => decide (p.1 = prod)

/-- Drop a producer's oldest packet held by FIFO `f`. -/
def Hw.dropHeld (h : Hw) (prod f : Nat) : Hw :=
  h.setFifo f { h.fifo f with waiting := (h.fifo f).waiting.eraseP fun p => decide (p.1 = prod) }

/-- A software pop, after which held packets enter. -/
def Hw.popFifo (h : Hw) (f : Nat) : Hw × Word :=
  let (h, w) := h.pop f
  (h.settle f, w)

/-- A write of flush, after which held packets enter. -/
def Hw.flushFifo (h : Hw) (f : Nat) : Hw := (h.flush f).settle f

/-- A write of skip, after which held packets enter. -/
def Hw.skipFifo (h : Hw) (f : Nat) : Hw := (h.skip f).settle f

/-- The first complete packet a hardware consumer may take whole (R98); packets with the drop bit are skipped at its boundary
(R101): the packet, how many dropped packets were skipped, and the new state. -/
def Hw.takePacket (h : Hw) (f : Nat) : Nat → Option (Pkt × Nat × Hw)
  | 0 => none
  | fuel + 1 =>
    if h.fifoMode f = 0 then none
    else match (h.fifo f).pkts with
      | [] => none
      | p :: _ =>
        if ¬p.complete ∨ (h.fifo f).begun then none
        else
          let h' := ((h.dropFirst f).atBoundary f).settle f
          if p.drop then (h'.takePacket f fuel).map fun (q, n, s) => (q, n + 1, s)
          else
            let h' := if p.abort then h'.setFlag (STM_STAT f) STM_STAT.aborted_seen true else h'
            some (p, 0, h')

/-- The octets of a packet. -/
def Pkt.octets (p : Pkt) : List Byte := (wordsToBytes p.words).take (if p.abort then p.words.length * 4 else p.length)

/-! ### Memory descriptors -/

/-- Read a record at a physical address; `none` is a bus error. -/
def Hw.record (h : Hw) (a n : Nat) : Option (List Byte) := h.readPhys a n

end Sys2Proof.Machine
end

