-- ==== Sys2Proof/Machine/Spindle.lean ====
section
/-! DEFINITION. Spindle's commands (R66–R75) and the view of its registers. -/

namespace Sys2Proof.Machine

open Reg

/-! ### Submission, spill and refill (R67, R74) -/

/-- A task descriptor is well made: reserved octets zero, an affinity that names a core still in service (R67). -/
def Hw.taskDescOk (h : Hw) (d : List Byte) : Bool :=
  let mask := fieldAt d 21 1
  decide (fieldAt d 20 1 < 8) && decide (fieldAt d 22 1 % 128 < 8) && zeroAt d 23 9 && decide (mask ≠ 0) &&
    (List.range 8).any fun n => bit mask n && h.flag (SPN_CORE_EN n) SPN_CORE_EN.in_service

/-- The free slots. -/
def Hw.freeSlots (h : Hw) : List Nat := (List.range 512).filter fun s => decide ((h.task s).state = .free)

/-- The slot a submission of a priority may use: the lowest free one, unless only the reserve for priorities 6 and 7 is left
(R74). -/
def Hw.usableSlot (h : Hw) (prio : Nat) : Option Nat :=
  let free := h.freeSlots
  if prio < 6 ∧ free.length ≤ h.f SPN_GEOM SPN_GEOM.hi_reserve then none else free.head?

/-- The next generation of a slot: 1 to 127 (R66). -/
def nextGen (g : Nat) : Nat := if g = 127 then 1 else g + 1

/-- Place a descriptor in a slot; a task with no dependence is ready at once. -/
def Hw.placeTask (h : Hw) (slot : Nat) (d : List Byte) : Hw :=
  let dep := fieldAt d 16 2
  let t : Task :=
    { gen := nextGen (h.task slot).gen, state := .waiting, prio := fieldAt d 20 1 % 8, affinity := fieldAt d 21 1,
      lastCore := fieldAt d 22 1 % 8, noHome := bit (fieldAt d 22 1) 7, count := dep, errIn := false, resumed := false,
      window := false, entry := BitVec.ofNat 64 (fieldAt d 0 8), arg := BitVec.ofNat 64 (fieldAt d 8 8),
      succ := fieldAt d 18 2 }
  let h := h.updTask slot fun _ => t
  if dep = 0 then h.becomeReady slot else h

/-- The entries of the spill ring. -/
def Hw.ringSize (h : Hw) : Nat := 2 ^ h.f SPN_GEOM SPN_GEOM.ring_log2

/-- The physical address of a ring entry. -/
def Hw.ringAddr (h : Hw) (i : Nat) : Nat := h.reg64 SPN_RING_LO % 2 ^ 40 + i % h.ringSize * 32

/-- The outcome word of a submission (SPN_SUBMIT_RES). -/
def spnResult (status handle : Nat) : Word := BitVec.ofNat 32 (status * 2 ^ 16 + handle)

/-- Store a master's submission result. -/
def Hw.spnAnswer (h : Hw) (m status handle : Nat) : Hw :=
  { h with spn := { h.spn with results := h.spn.results.set m (spnResult status handle) } }

/-- A refused submission changes nothing, counts, and raises line 21 (R67). -/
def Hw.spnRefuse (h : Hw) (m status : Nat) : Hw :=
  ((h.bump SPN_ERR SPN_ERR.refused SPN_ERR.refused_sat).deviceLine 21).spnAnswer m status 0

/-- Append a descriptor to the spill ring (R74). -/
def Hw.spill (h : Hw) (d : List Byte) : Hw :=
  let h := h.storeBytes (h.ringAddr (h.spn.ringRead + h.spn.ringCount)) d
  { h with spn := { h.spn with ringCount := h.spn.ringCount + 1 } }

/-- The SPN_SUBMIT_HI write: place, spill or refuse (R67, R74). -/
def Hw.submitTask (h : Hw) (m : Nat) (low high : Word) : Hw :=
  let addr := SPN_SUBMIT_LO.addr_lo.get low * 32 + SPN_SUBMIT_HI.addr_hi.get high * 2 ^ 32
  match h.record addr 32 with
  | none => h.spnRefuse m 5
  | some d =>
    if ¬h.taskDescOk d then h.spnRefuse m 4
    else
      let dep := fieldAt d 16 2
      match (if dep = 0 ∧ h.spn.ringCount > 0 then none else h.usableSlot (fieldAt d 20 1)) with
      | some slot =>
        let h := h.placeTask slot d
        h.spnAnswer m 0 (h.handleOf slot)
      | none =>
        if dep ≠ 0 then h.spnRefuse m 2
        else if h.spn.ringCount ≥ h.ringSize then h.spnRefuse m 3
        else (h.spill d).spnAnswer m 1 0

/-- A slot has freed: Spindle loads the oldest ring entry into it (R74). An entry that only a retired core could run is taken as
it stands in the ring, where retirement widened it (R75). -/
def Hw.refill (h : Hw) : Hw :=
  if h.spn.ringCount = 0 then h
  else match h.record (h.ringAddr h.spn.ringRead) 32 with
    | none => h
    | some d =>
      match h.usableSlot (fieldAt d 20 1) with
      | none => h
      | some slot =>
        let h := { h with spn := { h.spn with ringRead := (h.spn.ringRead + 1) % h.ringSize,
                                              ringCount := h.spn.ringCount - 1 } }
        h.placeTask slot d

/-! ### Running, saving, ending (R71–R73) -/

/-- The bits of SPN_SELF for a core's own task. -/
def Hw.selfWord (h : Hw) (n : Nat) : Word :=
  match (h.spnCore n).running with
  | none => 0
  | some s =>
    let t := h.task s
    BitVec.ofNat 32 (2 ^ 31 + t.resumed.toNat * 2 ^ 21 + t.errIn.toNat * 2 ^ 20 + t.prio * 2 ^ 16 + h.handleOf s)

/-- A core's read of SPN_SELF accepts a pending offer: the task runs, and a task that ran enters the saving state (R71, R72). -/
def Hw.acceptOffer (h : Hw) (n : Nat) : Hw :=
  let c := h.spnCore n
  match c.offer with
  | none => h
  | some slot =>
    let h := match c.running with
      | some old => h.updTask old fun t => { t with state := .saving }
      | none => h
    let h := h.updTask slot fun t => { t with state := .running, lastCore := n, noHome := false, window := false }
    let h := { h with cores := h.cores.upd n fun c => { c with deliveries := min 0xFFFFFFFF (c.deliveries + 1), idle := false } }
    let h := h.updCore n fun c => { c with
      offer := none, running := some slot,
      saving := c.saving ++ (match c.running with | some old => [old] | none => []) }
    h.coreReturns n

/-- A write of SPN_SAVED: a saving task becomes pre-empted at the head of its ready list (R72). A handle that names no saving
task is ignored; a stale generation is a stray (R66). -/
def Hw.savedTask (h : Hw) (handle : Nat) : Hw :=
  match h.handleSlot handle with
  | none => h.bump SPN_ERR SPN_ERR.stray SPN_ERR.stray_sat
  | some slot =>
    if (h.task slot).state ≠ .saving then h
    else
      let n := (h.task slot).lastCore
      let h := h.updCore n fun c => { c with saving := without slot c.saving }
      let h := (h.updTask slot fun t => { t with state := .preempted, resumed := true }).readyHead slot
      (h.placeReady slot).coreFree n

/-- A core's write of SPN_DONE: the slot frees, the successor's token is posted, a ring entry is loaded, and the core is free
(R73, R74). A task not running on that core is a stray. -/
def Hw.doneTask (h : Hw) (n handle : Nat) (err : Bool) : Hw :=
  match h.handleSlot handle with
  | none => h.bump SPN_ERR SPN_ERR.stray SPN_ERR.stray_sat
  | some slot =>
    if (h.task slot).state ≠ .running ∨ (h.spnCore n).running ≠ some slot then
      h.bump SPN_ERR SPN_ERR.stray SPN_ERR.stray_sat
    else
      let succ := (h.task slot).succ
      let h := h.updTask slot fun t => { (default : Task) with gen := t.gen }
      let h := (h.updCore n fun c => { c with running := none }).coreReturns n
      let h := if succ = 0 then h else h.token succ err
      (h.refill).coreFree n

/-- A steal, as a core's event counters count it: saturating (R41). -/
def Hw.countSteal (h : Hw) (n : Nat) : Hw := { h with cores := h.cores.upd n fun c => { c with steals := min 0xFFFFFFFF (c.steals + 1) } }

/-- A core holds the task as its running one: with the task shown pre-empted, a halted core (R43). -/
def Hw.heldByCore (h : Hw) (slot : Nat) : Bool := (List.range 8).any fun n => decide ((h.spnCore n).running = some slot)

/-- The affinity window of a task ends: an offer not accepted is withdrawn, and a ready task is stolen (R70, R71); an offer goes to
another core than the one that let it pass. -/
def Hw.stealTask (h : Hw) (slot : Nat) : Hw :=
  let t := h.task slot
  let held := if t.state = .offered then (List.range 8).filter fun n => decide ((h.spnCore n).offer = some slot) else []
  let h := if t.state = .offered then
      let h := held.foldl (fun h n => h.updCore n fun c => { c with offer := none }) h
      (h.updTask slot fun t => { t with state := if t.resumed then .preempted else .ready }).readyHead slot
    else h
  if t.state = .offered ∨ t.state = .ready ∨ (t.state = .preempted ∧ ¬h.heldByCore slot) then
    match h.stealFrom t.prio ((h.eligible t.affinity).filter fun n => !memb n held) with
    | some n => (h.offer n slot).countSteal n
    | none => h.updTask slot fun t => { t with window := false }
  else h

/-- A write of SPN_CORE_EN.deliver = 0 withdraws an outstanding offer at once (R75). -/
def Hw.withdrawOffer (h : Hw) (n : Nat) : Hw :=
  match (h.spnCore n).offer with
  | none => h
  | some slot =>
    let h := h.updCore n fun c => { c with offer := none }
    (h.updTask slot fun t => { t with state := if t.resumed then .preempted else .ready, window := true }).readyHead slot

/-- What a write of SPN_CORE_EN starts: deliver = 0 withdraws an offer; deliver = 1 makes the core a taker again (R75). -/
def Hw.coreEnWritten (h : Hw) (n : Nat) (v : Word) : Hw :=
  if SPN_CORE_EN.deliver.get v = 0 then h.withdrawOffer n else h.coreFree n

/-! ### The commands -/

/-- A core's access through the unprivileged view at supervisor level, as its dispatch code makes it (log entry 15). -/
def coreAcc (n : Fin 8) : BusAcc := ⟨.ac n, .supervisor, true, .word, true⟩

/-- TASK_SUBMIT (R67). -/
def execTaskSubmit (via : BusAcc) (high : Word) (s : State) : Host.Outcome State Fault Refusal :=
  run s fun h => h.regWrite via SPN_SUBMIT_HI high fun low h => h.submitTask via.master.num low high

/-- TOKEN_POST (R68). -/
def execTokenPost (handle : BitVec 16) (err : Bool) (s : State) : Host.Outcome State Fault Refusal :=
  run s fun h => h.token handle.toNat err

/-- AFFINITY_WINDOW_EXPIRY (R70, R71). -/
def execAffinityWindowExpiry (slot : Fin 512) (s : State) : Host.Outcome State Fault Refusal :=
  run s fun h => h.stealTask slot.val

/-- TASK_ACCEPT (R71). -/
def execTaskAccept (core : Fin 8) (s : State) : Host.Outcome State Fault Refusal :=
  run s fun h => h.regReadWith (coreAcc core) SPN_SELF fun h =>
    let h := h.acceptOffer core.val
    (h, h.selfWord core.val)

/-- TASK_SAVED (R72). -/
def execTaskSaved (via : BusAcc) (handle : BitVec 16) (s : State) : Host.Outcome State Fault Refusal :=
  run s fun h => h.regWrite via SPN_SAVED (handle.setWidth 32) fun _ h => h.savedTask handle.toNat

/-- TASK_DONE (R73). -/
def execTaskDone (core : Fin 8) (handle : BitVec 16) (err : Bool) (s : State) : Host.Outcome State Fault Refusal :=
  run s fun h => h.regWrite (coreAcc core) SPN_DONE (BitVec.ofNat 32 (handle.toNat + err.toNat * 2 ^ 16)) fun _ h =>
    h.doneTask core.val handle.toNat err

/-- CORE_DELIVER_DISABLE (R75). -/
def execCoreDeliverDisable (via : BusAcc) (core : Fin 8) (s : State) : Host.Outcome State Fault Refusal :=
  run s fun h => h.regWrite via (SPN_CORE_EN core.val) 0 fun _ h => h.withdrawOffer core.val

/-! ### Registers -/

/-- The number of a task state in SPN_TASK_STAT. -/
def TaskState.code : TaskState → Nat
  | .free => 0 | .waiting => 1 | .ready => 2 | .offered => 3 | .running => 4 | .saving => 5 | .preempted => 6

/-- The low and high words of a 64-bit quantity. -/
def loWord (b : BitVec 64) : Word := b.setWidth 32
def hiWord (b : BitVec 64) : Word := (b >>> 32).setWidth 32

/-- The live word of an SPN register for a reading master. -/
def Hw.viewSpn (h : Hw) (m k : Nat) : Word :=
  let core := if 1 ≤ m ∧ m ≤ 8 then m - 1 else 8
  let running : Option Task := ((h.spnCore core).running).map h.task
  if k = SPN_STAT then
    BitVec.ofNat 32 ((512 - h.freeSlots.length) * 2 ^ 22 + h.spn.ringCount)
  else if k = SPN_SUBMIT_RES then h.spn.results.at m
  else if k = SPN_SELF then h.selfWord core
  else if k = SPN_SELF_ENTRY_LO then (running.map (loWord ·.entry)).getD 0
  else if k = SPN_SELF_ENTRY_HI then (running.map (hiWord ·.entry)).getD 0
  else if k = SPN_SELF_ARG_LO then (running.map (loWord ·.arg)).getD 0
  else if k = SPN_SELF_ARG_HI then (running.map (hiWord ·.arg)).getD 0
  else if SPN_CORE_STAT 0 ≤ k ∧ k < SPN_CORE_STAT 8 then
    let n := (k - SPN_CORE_STAT 0) / 4
    let c := h.spnCore n
    BitVec.ofNat 32 (c.offer.isSome.toNat * 2 ^ 20 + (c.running.isSome || !c.saving.isEmpty).toNat * 2 ^ 19 +
      (match c.running with | some s => (h.task s).prio * 2 ^ 16 + h.handleOf s | none => 0))
  else if SPN_TASK_STAT 0 ≤ k ∧ k < SPN_TASK_STAT 512 then
    let t := h.task ((k - SPN_TASK_STAT 0) / 4)
    BitVec.ofNat 32 (t.state.code * 2 ^ 29 + t.prio * 2 ^ 26 + t.lastCore * 2 ^ 23 + t.gen * 2 ^ 16 + t.count)
  else h.reg k

end Sys2Proof.Machine
end

