-- ==== Sys2Proof/Machine/Smu.lean ====
section
/-! DEFINITION. Parking on a translation fault, invalidation, and the SMU's commands (R78, R79, R84–R86); starting DMA (R80). -/

namespace Sys2Proof.Machine

open Reg

/-! ### Faults and parking -/

/-- The states of a unit (SMU_UNIT.state). -/
def unitParked : Nat := 1
def unitResuming : Nat := 2

/-- A fault record enters the queue, or sets overflow when it is full; line 19 is raised and the context's handler notified
(R79). -/
def Hw.faultRecord (h : Hw) (r : FaultRec) : Hw :=
  let h := if h.smu.queue.length < 64 then { h with smu := { h.smu with queue := h.smu.queue ++ [r] } }
    else h.setFlag SMU_FAULT_STAT SMU_FAULT_STAT.overflow true
  let h := h.bump SMU_FAULT_STAT SMU_FAULT_STAT.total SMU_FAULT_STAT.sat
  (h.deviceLine 19).notice (SMU_CTX_HANDLER r.ctx)

/-- A unit enters the parked state and keeps its own record (R79, R84). -/
def Hw.setParked (h : Hw) (u ctx kind : Nat) : Hw :=
  let h := ((h.setF (SMU_UNIT u) SMU_UNIT.state unitParked).setF (SMU_UNIT u) SMU_UNIT.kind kind).setF
    (SMU_UNIT u) SMU_UNIT.ctx ctx
  if u < 128 then h.setF (DMA_CH_STAT u) DMA_CH_STAT.state 2 else h

/-- A translation fault of a unit: the record, the notice, and parking; host BAR 2 accesses do not park (R79, R84, R85). -/
def Hw.park (h : Hw) (u ctx addr : Nat) (write : Bool) (kind : Nat) : Hw :=
  let h := if u = 294 ∨ u = 295 then h else h.setParked u ctx kind
  h.faultRecord ⟨addr, kind, write, ctx, u⟩

/-- Whether a unit is parked. -/
def Hw.isParked (h : Hw) (u : Nat) : Bool := decide (h.f (SMU_UNIT u) SMU_UNIT.state = unitParked)

/-- Resume a parked unit; its next access walks afresh (R86). A unit that is not parked ignores it. -/
def Hw.resumeUnit (h : Hw) (u : Nat) : Hw :=
  if h.isParked u then
    let h := h.setF (SMU_UNIT u) SMU_UNIT.state unitResuming
    if u < 128 then h.setF (DMA_CH_STAT u) DMA_CH_STAT.state 1 else h
  else h

/-- A unit that goes on after a resume is normal again. -/
def Hw.unitNormal (h : Hw) (u : Nat) : Hw := h.setF (SMU_UNIT u) SMU_UNIT.state 0

/-! ### Invalidation (R78) -/

/-- Whether a cached translation lies in an invalidation's scope: one page, one context, or all. -/
def inScope (scope ctx page key : Nat) (e : Option Nat) : Bool :=
  let c := key / 2 ^ 24
  let p := key % 2 ^ 24
  if scope = 2 then true
  else if scope = 1 then decide (c = ctx)
  else decide (c = ctx) && (decide (p = page) || (decide (p / 512 = page / 512) && decide (e.getD 0 % 2 = 1)))

/-- Start, queue or hold an invalidation (R78). -/
def Hw.invalidate (h : Hw) (scope ctx : Nat) : Hw :=
  let page := h.f SMU_INVAL_ADDR SMU_INVAL_ADDR.page
  if h.flag SMU_INVAL SMU_INVAL.busy then
    let h' := { h with smu := { h.smu with queuedInval := h.smu.queuedInval ++ [(scope, ctx, page)] } }
    if h.smu.queuedInval.length ≥ 1 then h'.answer .held else h'
  else
    ({ h with smu := { h.smu with running := (scope, ctx, page) } }).setFlag SMU_INVAL SMU_INVAL.busy true

/-- An invalidation completes; a queued one begins (R78). -/
def Hw.invalidateDone (h : Hw) : Hw :=
  if h.flag SMU_INVAL SMU_INVAL.busy then
    let (scope, ctx, page) := h.smu.running
    let cached := h.smu.cached.filter fun p => !inScope scope ctx page p.1 p.2
    let h := { h with smu := { h.smu with cached := cached } }
    match h.smu.queuedInval with
    | [] => h.setFlag SMU_INVAL SMU_INVAL.busy false
    | q :: qs => { h with smu := { h.smu with running := q, queuedInval := qs } }
  else h

/-! ### DMA: fetching a descriptor (R80, R81) -/

/-- The status word of a DMA descriptor (R80): done, error code, octets transferred. -/
def dmaStatus (err n : Nat) : List Byte := leBytes 4 (2 ^ 31 + err * 2 ^ 24 + n)

/-- A descriptor as its 64 octets say (R80); `bad` is 0x1 for a context that differs from the channel's, 0x2 for a length or
reserved octets that are invalid or a FIFO that is off (R81, R95), else 0. -/
def Hw.parseDma (h : Hw) (ch : Nat) (d : List Byte) : DmaDesc :=
  let ctx := fieldAt d 28 1
  let space := fieldAt d 29 1
  let flags := fieldAt d 30 1
  let offFifo := fun (sp addr : Nat) => decide (sp = 3) && (decide (addr % 64 ≥ 48) || decide (h.fifoMode (addr % 64) = 0))
  let bad :=
    if ctx ≠ h.f (DMA_CH_CFG ch) DMA_CH_CFG.ctx then 1
    else if fieldAt d 24 4 = 0 ∨ fieldAt d 24 4 ≥ 2 ^ 24 ∨ space ≥ 16 ∨ flags ≥ 16 ∨ ¬zeroAt d 31 1 ∨ ¬zeroAt d 34 26 ∨
      (offFifo (space % 4) (fieldAt d 8 8) ∧ ¬bit flags 3) ∨ offFifo (space / 4) (fieldAt d 16 8) then 2
    else 0
  { next := fieldAt d 0 8, src := fieldAt d 8 8, dst := fieldAt d 16 8, length := fieldAt d 24 4, ctx := ctx,
    srcSpace := space % 4, dstSpace := space / 4 % 4, flags := flags, token := fieldAt d 32 2, bad := bad }

/-- A DMA channel beyond its registers. -/
def Hw.dmaCh (h : Hw) (ch : Nat) : DmaCh := h.dma.at ch

/-- Change a DMA channel. -/
def Hw.setDma (h : Hw) (ch : Nat) (d : DmaCh) : Hw := { h with dma := h.dma.set ch d }

/-- The context address of a channel's current descriptor. -/
def Hw.dmaCur (h : Hw) (ch : Nat) : Nat := h.reg64 (DMA_CH_CUR_LO ch)

/-- Set a channel's state and error (DMA_CH_STAT). -/
def Hw.dmaState (h : Hw) (ch st err : Nat) : Hw :=
  (h.setF (DMA_CH_STAT ch) DMA_CH_STAT.state st).setF (DMA_CH_STAT ch) DMA_CH_STAT.error err

/-- End the current descriptor in error: status, the token with the error flag, and the chain stops (R81, R86). -/
def Hw.dmaFail (h : Hw) (ch err : Nat) : Hw :=
  match (h.dmaCh ch).desc with
  | none => h.dmaState ch 3 err
  | some d =>
    let n := h.f (DMA_CH_PROG ch) DMA_CH_PROG.progress
    let (h, _, _) := h.writeCtx (h.f (DMA_CH_CFG ch) DMA_CH_CFG.ctx) (h.dmaCur ch + 60) (dmaStatus err n)
    let h := if bit d.flags 0 then h.token d.token true else h
    let h := (h.bump DMA_ERR DMA_ERR.desc_err DMA_ERR.desc_sat).unitNormal ch
    (h.setDma ch { desc := none, paused := false }).dmaState ch 3 err

/-- Fetch the descriptor at the channel's current address: run it, end it in error, or park (R80, R81, R84). A fetch that is a
bus error ends the chain as a bad descriptor does (log entry 16). -/
def Hw.dmaFetch (h : Hw) (ch : Nat) : Hw :=
  let ctx := h.f (DMA_CH_CFG ch) DMA_CH_CFG.ctx
  let h := h.setF (DMA_CH_PROG ch) DMA_CH_PROG.progress 0
  match h.readCtx ctx (h.dmaCur ch) 64 with
  | .error (.fault a k) => (h.setDma ch { desc := none, paused := false }).park ch ctx a false k
  | .error .bus => ((h.setDma ch { desc := none, paused := false }).dmaState ch 3 2).bump DMA_ERR DMA_ERR.desc_err DMA_ERR.desc_sat
  | .ok bs =>
    let d := h.parseDma ch bs
    let h := (h.keepCached ctx (h.dmaCur ch)).setDma ch { desc := some d, paused := false }
    if d.bad ≠ 0 then h.dmaFail ch d.bad else h.dmaState ch 1 0

/-- The DMA_CH_START_HI write (R80). -/
def Hw.dmaStart (h : Hw) (ch : Nat) (low high : Word) : Hw :=
  let st := h.f (DMA_CH_STAT ch) DMA_CH_STAT.state
  if st = 1 ∨ st = 2 ∨ ¬h.flag (DMA_CH_CFG ch) DMA_CH_CFG.enable ∨ h.flag (DMA_CH_CFG ch) DMA_CH_CFG.retired then
    h.bump DMA_ERR DMA_ERR.start_refused DMA_ERR.start_sat
  else
    let addr := DMA_CH_START_LO.addr_lo.get low * 64 + DMA_CH_START_HI.addr_hi.get high * 2 ^ 32
    (h.setReg64 (DMA_CH_CUR_LO ch) addr).dmaFetch ch

/-! ### The commands -/

/-- SMU_INVALIDATE (R78). -/
def execSmuInvalidate (via : BusAcc) (scope : Fin 4) (ctx : Fin 64) (s : State) : Host.Outcome State Fault Refusal :=
  run s fun h => h.regWrite via SMU_INVAL (BitVec.ofNat 32 (2 ^ 31 + scope.val * 64 + ctx.val)) fun _ h =>
    h.invalidate scope.val ctx.val

/-- INVALIDATE_COMPLETE (R78). -/
def execInvalidateComplete (s : State) : Host.Outcome State Fault Refusal := run s Hw.invalidateDone

/-- TRANSLATION_FAULT (R79, R84, R85). -/
def execTranslationFault (unit : Fin 320) (ctx : Fin 64) (addr : BitVec 36) (write : Bool) (kind : Fin 8) (s : State) :
    Host.Outcome State Fault Refusal :=
  run s fun h => h.park unit.val ctx.val addr.toNat write kind.val

/-- The two words of a fault record (SMU_FAULT_POP). -/
def FaultRec.words (r : FaultRec) : Word × Word :=
  (BitVec.ofNat 32 r.addr,
   BitVec.ofNat 32 (2 ^ 31 + r.kind * 2 ^ 28 + r.write.toNat * 2 ^ 27 + r.ctx * 2 ^ 21 + r.unit * 2 ^ 12 + r.addr / 2 ^ 32 % 16))

/-- Take the oldest fault record for a master: its low word, with the high word in the master's shadow (R79, R11). -/
def Hw.popFault (h : Hw) (m : Nat) : Hw × Word :=
  match h.smu.queue with
  | [] => (h.setReadShadow m SMU_FAULT_POP_HI 0, 0)
  | r :: rs =>
    (({ h with smu := { h.smu with queue := rs } }).setReadShadow m SMU_FAULT_POP_HI r.words.2, r.words.1)

/-- FAULT_POP (R79). -/
def execFaultPop (via : BusAcc) (s : State) : Host.Outcome State Fault Refusal :=
  run s fun h => h.regReadWith via SMU_FAULT_POP_LO fun h => h.popFault via.master.num

/-- UNIT_RESUME (R86). -/
def execUnitResume (via : BusAcc) (unit : Fin 320) (s : State) : Host.Outcome State Fault Refusal :=
  run s fun h => h.regWrite via (SMU_UNIT unit.val) (BitVec.ofNat 32 (2 ^ 31)) fun _ h => h.resumeUnit unit.val

/-- DMA_START (R80). -/
def execDmaStart (via : BusAcc) (ch : Fin 128) (high : Word) (s : State) : Host.Outcome State Fault Refusal :=
  run s fun h => h.regWrite via (DMA_CH_START_HI ch.val) high fun low h => h.dmaStart ch.val low high

/-! ### Registers -/

/-- The live word of an SMU register. -/
def Hw.viewSmu (h : Hw) (k : Nat) : Word :=
  if k = SMU_FAULT_STAT then SMU_FAULT_STAT.queued.set (h.reg k) h.smu.queue.length
  else if k = SMU_FAULT_POP_HI then (h.smu.queue.head?.map fun r => r.words.2).getD 0
  else if SMU_PARKED 0 ≤ k ∧ k < SMU_PARKED 10 then
    let w := (k - SMU_PARKED 0) / 4
    (List.range 32).foldl (fun (acc : Word) b => if h.isParked (32 * w + b) then acc ||| BitVec.ofNat 32 (2 ^ b) else acc) 0
  else h.reg k

end Sys2Proof.Machine
end

