-- ==== Sys2Proof/Machine/Geometry.lean ====
section
/-! DEFINITION. The geometry of a segment's centreline (R420): nearest point, distance, distance along and heading. Lengths are
integers in units of 2^-20 mm, angles in units of 2^-48 of a turn, counter-clockwise from east; where the exact value is no
such integer the last place is rounded down (log entry 18). -/

namespace Sys2Proof.Machine

/-- A quarter and a whole turn. -/
def quarterTurn : Nat := 2 ^ 46
def wholeTurn : Nat := 2 ^ 48

/-- The square root rounded down, bit by bit from bit `n`. -/
def isqrtGo (v : Nat) : Nat → Nat → Nat
  | 0, r => r
  | n + 1, r => isqrtGo v n (if (r + 2 ^ n) * (r + 2 ^ n) ≤ v then r + 2 ^ n else r)

/-- The square root rounded down, of a number below 2^128. -/
def isqrt (v : Nat) : Nat := isqrtGo v 64 0

/-- The angles whose tangents are 2^0, 2^-1, …, in units of 2^-48 of a turn. -/
def atanTable : List Nat :=
  [35184372088832, 20770547670515, 10974586953444, 5570871696862, 2796246208089, 1399486241028, 699913886760, 349978300884] ++
  [174991820497, 87496244017, 43748163730, 21874087080, 10937044192, 5468522177, 2734261099, 1367130551] ++
  [683565276, 341782638, 170891319, 85445659, 42722830, 21361415, 10680707, 5340354] ++
  [2670177, 1335088, 667544, 333772, 166886, 83443, 41722, 20861] ++
  [10430, 5215, 2608, 1304, 652, 326, 163, 81] ++
  [41, 20, 10, 5, 3, 1, 1, 0]

/-- Rotate the vector (x, y) onto the east axis by the table's angles, adding up the turn. -/
def atanGo : List Nat → Nat → Int → Int → Int → Int
  | [], _, _, _, a => a
  | t :: ts, i, x, y, a =>
    if y ≥ 0 then atanGo ts (i + 1) (x + y / (2 ^ i : Nat)) (y - x / (2 ^ i : Nat)) (a + t)
    else atanGo ts (i + 1) (x - y / (2 ^ i : Nat)) (y + x / (2 ^ i : Nat)) (a - t)

/-- The direction of a vector, counter-clockwise from east; 0 for the null vector. -/
def direction (x y : Int) : Nat :=
  if x = 0 ∧ y = 0 then 0
  else
    let k : Int := (2 ^ 50 : Nat)
    let a := if x ≥ 0 then atanGo atanTable 0 (x * k) (y * k) 0
      else (wholeTurn / 2 : Nat) + atanGo atanTable 0 (-x * k) (-y * k) 0
    (a % (wholeTurn : Nat)).toNat

/-- The length of a vector. -/
def norm (x y : Int) : Nat := isqrt (x * x + y * y).toNat

/-- An arc angle's length for a radius: radius × angle × 2π / whole turn. -/
def arcLength (radius angle : Nat) : Nat := radius * angle * 6908435304715 / 2 ^ 88

/-- Units of 2^-20 mm in a millimetre. -/
def mmUnits : Nat := 2 ^ 20

/-- What R420 defines for a position and a segment: the distance *d*, the distance along, and the heading there. -/
structure OnSeg where
  dist : Nat
  along : Nat
  heading : Nat
deriving DecidableEq, Repr, Inhabited

/-- A centreline: straight, or an arc by its centre, radius, start angle, sweep and sense of turning. -/
inductive Centreline
  | line
  | arc (cx cy : Int) (radius start sweep : Nat) (left : Bool)
deriving DecidableEq, Repr, Inhabited

/-- The centreline of a segment (R420): an arc where one of its radius joins the end points, minor or major by which length is
nearer to the record's. -/
def Seg.centreline (g : Seg) : Centreline :=
  let u : Int := (mmUnits : Nat)
  let dx := (g.endE - g.startE) * u
  let dy := (g.endN - g.startN) * u
  let c2 := (dx * dx + dy * dy).toNat
  if g.curv = 0 ∨ c2 = 0 then .line
  else
    let r := 2 ^ 44 / g.curv.natAbs
    if c2 > 4 * r * r then .line
    else
      let c := isqrt c2
      let hh := isqrt (r * r - c2 / 4)
      let minor := 2 * direction (hh : Int) ((c / 2 : Nat) : Int)
      let len := g.length * mmUnits
      let lMin := arcLength r minor
      let lMaj := arcLength r (wholeTurn - minor)
      let useMinor := decide ((len : Int) - lMin ≤ (lMaj : Int) - len)
      let left := decide (g.curv > 0)
      let side : Int := if left = useMinor then 1 else -1
      let mx := (g.startE + g.endE) * u / 2
      let my := (g.startN + g.endN) * u / 2
      let cx := mx - side * hh * dy / (c : Int)
      let cy := my + side * hh * dx / (c : Int)
      .arc cx cy r (direction (g.startE * u - cx) (g.startN * u - cy)) (if useMinor then minor else wholeTurn - minor) left

/-- The heading of an arc at an angle swept from its start. -/
def arcHeading (start phi : Nat) (left : Bool) : Nat :=
  if left then (start + phi + quarterTurn) % wholeTurn
  else (start + 2 * wholeTurn - phi - quarterTurn) % wholeTurn

/-- The distance, distance along and heading of a position (in mm east and north) on a segment (R420). -/
def Seg.locate (g : Seg) (e n : Int) : OnSeg :=
  let u : Int := (mmUnits : Nat)
  let px := e * u
  let py := n * u
  let sx := g.startE * u
  let sy := g.startN * u
  let ex := g.endE * u
  let ey := g.endN * u
  let len := g.length * mmUnits
  match g.centreline with
  | .line =>
    let dx := ex - sx
    let dy := ey - sy
    let l2 := dx * dx + dy * dy
    let t := (px - sx) * dx + (py - sy) * dy
    let hd := direction dx dy
    if t ≤ 0 ∨ l2 = 0 then ⟨norm (px - sx) (py - sy), 0, hd⟩
    else if t ≥ l2 then ⟨norm (px - ex) (py - ey), len, hd⟩
    else ⟨((px - sx) * dy - (py - sy) * dx).natAbs / isqrt l2.toNat, (len * t.toNat) / l2.toNat, hd⟩
  | .arc cx cy r start sweep left =>
    let q := direction (px - cx) (py - cy)
    let phi := if px = cx ∧ py = cy then 0
      else if left then (q + wholeTurn - start) % wholeTurn else (start + wholeTurn - q) % wholeTurn
    if phi ≤ sweep then
      ⟨((norm (px - cx) (py - cy) : Int) - r).natAbs, if sweep = 0 then 0 else len * phi / sweep, arcHeading start phi left⟩
    else
      let ds := norm (px - sx) (py - sy)
      let de := norm (px - ex) (py - ey)
      if ds ≤ de then ⟨ds, 0, arcHeading start 0 left⟩ else ⟨de, len, arcHeading start sweep left⟩

/-- The heading of a segment's centreline at a distance along (in 2^-20 mm). -/
def Seg.headingAt (g : Seg) (along : Nat) : Nat :=
  match g.centreline with
  | .line => direction (g.endE - g.startE) (g.endN - g.startN)
  | .arc _ _ _ start sweep left =>
    arcHeading start (if g.length = 0 then 0 else sweep * along / (g.length * mmUnits)) left

end Sys2Proof.Machine
end

