-- ==== Sys2Proof/Machine/Reserve.lean ====
section
/-! DEFINITION. Track reservation (R173–R198): the graph, the calendars, tokens, tests and offers, release, expiry, revocation and
holds, edits, and the operations that Lathe, FIX and the stop sequencer use. -/

namespace Sys2Proof.Machine

open Reg

/-! ### The graph (R173, R174) -/

/-- Change the engine. -/
def Hw.updRsv (h : Hw) (g : RsvSt → RsvSt) : Hw := { h with rsv := g h.rsv }

/-- A segment record, 48 octets (R173). -/
def segOfBytes (b : List Byte) : Seg :=
  let c := fieldAt b 28 1
  { startE := toInt 32 (fieldAt b 0 4), startN := toInt 32 (fieldAt b 4 4), endE := toInt 32 (fieldAt b 8 4),
    endN := toInt 32 (fieldAt b 12 4), length := fieldAt b 16 4, curv := toInt 16 (fieldAt b 20 2), speed := fieldAt b 22 2,
    fromNode := fieldAt b 24 2, toNode := fieldAt b 26 2, cls := c % 16, closed := bit c 4, valid := bit c 5,
    sets := (List.range (fieldAt b 29 1)).map fun i => fieldAt b (32 + 2 * i) 2 }

/-- A segment record as read: one with valid = 0 takes no membership, and only its valid bit counts (R173). -/
def readSeg (b : List Byte) : Seg := if bit (fieldAt b 28 1) 5 then segOfBytes b else default

/-- No element occurs twice. -/
def noRepeat : List Nat → Bool
  | [] => true
  | x :: xs => !memb x xs && noRepeat xs

/-- A malformed segment record (R173). -/
def segMalformed (b : List Byte) : Bool :=
  let c := fieldAt b 28 1
  let n := fieldAt b 29 1
  bit c 5 &&
    (decide (c ≥ 64) || !zeroAt b 30 2 || !zeroAt b 40 8 || decide (n > 4) ||
      (segOfBytes b).sets.any (fun s => decide (s ≥ 1024)) || !noRepeat (segOfBytes b).sets ||
      (List.range (4 - n)).any (fun i => decide (fieldAt b (32 + 2 * (n + i)) 2 ≠ 0xFFFF)) ||
      decide (fieldAt b 16 4 = 0) || decide (fieldAt b 22 2 = 0))

/-- A segment. -/
def Hw.seg (h : Hw) (n : Nat) : Seg := h.rsv.segs.at n

/-- The memberships of the graph. -/
def Hw.memberships (h : Hw) : Nat := h.rsv.segs.foldl (fun n p => n + p.2.sets.length) 0

/-- The calendar number of a conflict set. -/
def setCal (s : Nat) : Nat := 65536 + s

/-- The calendars a reservation of a segment is tested on: the segment's own, then its sets' in the record's order (R177, R184). -/
def Hw.cals (h : Hw) (n : Nat) : List Nat := n :: (h.seg n).sets.map setCal

/-! ### Time, parameters -/

/-- The current tick of 10 ms (R176). -/
def Hw.tick (h : Hw) : Nat := h.now / 10000000 % 2 ^ 32

/-- The sum of a tick and a number of ticks. -/
def tickAdd (a n : Nat) : Nat := (a + n) % 2 ^ 32

/-- Tick `a` is later than tick `b` (R176). -/
def later (a b : Nat) : Bool := laterSeq 32 a b

/-- The guard, the hold reach and the horizon, in ticks (RSV_CFG). -/
def Hw.guard (h : Hw) : Nat := h.f RSV_CFG RSV_CFG.guard_ticks
def Hw.holdTicks (h : Hw) : Nat := h.f RSV_CFG RSV_CFG.hold_ticks
def Hw.horizon (h : Hw) : Nat := 100 * min 600 (max 10 (h.f RSV_CFG RSV_CFG.horizon_s))

/-- Free pool entries (R178). -/
def Hw.poolFree (h : Hw) : Nat := 262144 - h.rsv.entries.length

/-! ### Events and mirror records (R196, R197) -/

/-- The source number of the reservation engine. -/
def rsvSource : Nat := 0x0E00

/-- Publish an event of 16 octets to the named FIFO; the engine's source sequence advances (R197, R362). -/
def Hw.rsvEvent (h : Hw) (ev robot seg token : Nat) : Hw :=
  let seq := h.alm.seqs.at rsvSource
  let h := { h with alm := h.alm.advance rsvSource }
  if h.flag RSV_EVT_CFG RSV_EVT_CFG.enable then
    let bs := leBytes 1 ev ++ leBytes 1 robot ++ leBytes 2 seg ++ leBytes 4 token ++ leBytes 4 h.tick ++ leBytes 4 seq
    let (h, lost) := h.hwSendFree prodRsv (h.f RSV_EVT_CFG RSV_EVT_CFG.fifo) bs
    if lost then h.bump RSV_ERR2 RSV_ERR2.evt_dropped RSV_ERR2.evt_sat else h
  else h

/-- A mirror record of the engine. -/
def Hw.mirrorRsv (h : Hw) (c : RsvChange) : Hw := h.mirror (.rsv c)

/-! ### Tokens (R179, R180) -/

/-- The record a token names. -/
def tokIdx (t : Nat) : Nat := t % 4096

/-- A token is in force: its record is in use under its generation. -/
def Hw.inForce (h : Hw) (t : Nat) : Bool :=
  let r := h.rsv.toks.at (tokIdx t)
  decide (t ≠ 0 ∧ r.state ≠ 0 ∧ r.gen = t / 4096)

/-- The validity table holds a token as valid (R180). -/
def Hw.tokenValid (h : Hw) (t : Nat) : Bool :=
  let v := h.rsv.validity.at (tokIdx t)
  v.valid && decide (t ≠ 0 ∧ v.gen = t / 4096)

/-- The tokens of a robot in force. -/
def Hw.robotTokens (h : Hw) (robot : Nat) : List Nat :=
  (h.rsv.toks.filter fun p => decide (p.2.state ≠ 0 ∧ p.2.robot = robot)).map fun p => p.2.gen * 4096 + p.1

/-- The tokens of all robots in force. -/
def Hw.allTokens (h : Hw) : List Nat :=
  (h.rsv.toks.filter fun p => decide (p.2.state ≠ 0)).map fun p => p.2.gen * 4096 + p.1

/-- A token's validity is cleared (R180), and the lanes' gates act on it (R248). -/
def Hw.clearValid (h : Hw) (t : Nat) : Hw :=
  (h.updRsv fun r => { r with validity := r.validity.upd (tokIdx t) fun v => { v with valid := false },
                              waitAck := r.waitAck.filter fun p => decide (p.1 ≠ t) }).gateToken t

/-- A token's record is free again, last in the order of reuse (R179). -/
def Hw.freeTok (h : Hw) (t : Nat) : Hw :=
  h.updRsv fun r => { r with toks := r.toks.upd (tokIdx t) fun k => { (default : TokRec) with gen := k.gen },
                             freed := r.freed ++ [tokIdx t] }

/-- The record the next commit uses: free records in the order they were freed, those never used first (R179). -/
def Hw.nextTok (h : Hw) : Option Nat := if h.rsv.used < 4096 then some h.rsv.used else h.rsv.freed.head?

/-- Take the record for a new token of a robot: the next generation, 1 to 2^20 - 1 (R179). -/
def Hw.takeTok (h : Hw) (rec robot elements last : Nat) : Hw × Nat :=
  let g := (h.rsv.toks.at rec).gen
  let g := if g ≥ 2 ^ 20 - 1 then 1 else g + 1
  (h.updRsv fun r => { r with
    toks := r.toks.set rec ⟨g, 1, robot, elements, last⟩
    used := if r.used < 4096 then r.used + 1 else r.used
    freed := if r.used < 4096 then r.freed else r.freed.drop 1 }, g * 4096 + rec)

/-- A committed token becomes valid: the validity table, event 0x1 (R179, R180). -/
def Hw.makeValid (h : Hw) (t : Nat) : Hw :=
  let k := h.rsv.toks.at (tokIdx t)
  if h.inForce t ∧ k.state = 1 then
    let h := h.updRsv fun r => { r with
      toks := r.toks.upd (tokIdx t) fun k => { k with state := 2 }
      validity := r.validity.set (tokIdx t) ⟨t / 4096, true, k.robot⟩
      waitAck := r.waitAck.filter fun p => decide (p.1 ≠ t) }
    (h.rsvEvent 0x1 k.robot k.elements t).mirrorRsv (.valid t)
  else h

/-- Whether an entry belongs to a token. -/
def Entry.ofToken (e : Entry) (t : Nat) : Bool := decide (e.token = t ∧ t ≠ 0)

/-- An entry on a segment's calendar. -/
def Entry.onSeg (e : Entry) : Bool := decide (e.cal < 65536)

/-- The place in commit order of a segment entry. -/
def Entry.key (e : Entry) : Nat := (e.elems.head?.map (·.1)).getD 0

/-! ### Conflicts (R177, R194) -/

/-- The end of an entry's window for a conflict test: an open out extends to the end of the horizon (R189). -/
def Hw.endOf (h : Hw) (e : Entry) : Nat := if e.opened then tickAdd h.tick h.horizon else e.tout

/-- A window of a robot conflicts with an entry (R177). -/
def Hw.clash (h : Hw) (robot a b : Nat) (e : Entry) : Bool :=
  decide (e.robot ≠ robot) && later (tickAdd (h.endOf e) h.guard) a && later (tickAdd b h.guard) e.tin

/-- A calendar is poisoned (R194). -/
def Hw.isPoisoned (h : Hw) (cal : Nat) : Bool := h.rsv.poison.any fun p => decide (p.1 = cal)

/-- What blocks a window: a poisoned calendar, or the entry to name with its calendar. -/
inductive Block
  | poison (cal : Nat)
  | entry (cal : Nat) (e : Entry)
deriving DecidableEq, Repr, Inhabited

/-- Of two entries in the order calendars are tried, the one to name: the later out; on equal outs the earlier calendar, then the
lower robot number (R184). -/
def Hw.pick (h : Hw) (best : Option (Nat × Entry)) (cal : Nat) (e : Entry) : Option (Nat × Entry) :=
  match best with
  | none => some (cal, e)
  | some (c, b) =>
    if later (h.endOf e) (h.endOf b) then some (cal, e)
    else if h.endOf e = h.endOf b ∧ c = cal ∧ e.robot < b.robot then some (cal, e)
    else best

/-- What blocks a robot's window on a segment (R177, R184, R194). -/
def Hw.blockOf (h : Hw) (robot seg a b : Nat) : Option Block :=
  match (h.cals seg).find? h.isPoisoned with
  | some c => some (.poison c)
  | none =>
    ((h.cals seg).foldl (fun best cal =>
      (h.rsv.entries.filter fun e => decide (e.cal = cal) && h.clash robot a b e).foldl (fun best e => h.pick best cal e) best)
      none).map fun (c, e) => .entry c e

/-! ### Placing a path (R178) -/

/-- An element of a path: segment, in and out, as ticks. -/
abbrev Win := Nat × Nat × Nat

/-- The entries of a path, from the element of place `key` on: one on each segment's calendar, one on each set's, where the entry
of the element before on the same set is shared if the windows overlap (R178). -/
def Hw.pathEntries (h : Hw) (robot token : Nat) : Nat → Option Win → List Win → List Entry → List Entry
  | _, _, [], acc => acc
  | key, prev, (s, a, b) :: ws, acc =>
    let own : Entry := ⟨robot, token, s, a, b, false, false, [(key, s)]⟩
    let acc := acc ++ [own]
    let acc := (h.seg s).sets.foldl (fun acc st =>
      let shares := match prev with
        | none => false
        | some (ps, _, pb) => memb st (h.seg ps).sets && later pb a
      if shares then
        acc.map fun e =>
          if e.cal = setCal st ∧ e.elems.any (fun p => decide (p.1 + 1 = key)) then
            { e with tout := if later b e.tout then b else e.tout, elems := e.elems ++ [(key, s)] }
          else e
      else acc ++ [⟨robot, token, setCal st, a, b, false, false, [(key, s)]⟩]) acc
    h.pathEntries robot token (key + 1) (some (s, a, b)) ws acc

/-! ### The tests (R183) and the offer (R184) -/

/-- A path element as a request gives it: segment, in and out offsets, and whether its reserved octets are zero. -/
structure Elem where
  seg : Nat
  tin : Nat
  tout : Nat
  zero : Bool
deriving DecidableEq, Repr, Inhabited

/-- What a request of ops RESERVE, CHECK and REPLACE asks. -/
structure RsvAsk where
  op : Nat
  robot : Nat
  noOffer : Bool
  base : Nat
  elems : List Elem
  oldToken : Nat
deriving DecidableEq, Repr, Inhabited

/-- The first index from `i` on at which a test over an element and the one before it fails. -/
def firstBad (bad : Option Elem → Elem → Bool) : Nat → Option Elem → List Elem → Option Nat
  | _, _, [] => none
  | i, prev, e :: es => if bad prev e then some i else firstBad bad (i + 1) (some e) es

/-- The first index at which a test over an element and the one after it fails. -/
def firstBadNext (bad : Elem → Option Elem → Bool) : Nat → List Elem → Option Nat
  | _, [] => none
  | i, e :: es => if bad e es.head? then some i else firstBadNext bad (i + 1) es

/-- bad path (R183). -/
def Hw.badPath (h : Hw) (prev : Option Elem) (e : Elem) : Bool :=
  !e.zero || decide (e.tout ≤ e.tin) ||
    match prev with
    | none => false
    | some p =>
      (decide (p.seg < h.rsv.segCount ∧ e.seg < h.rsv.segCount) && (h.seg p.seg).valid && (h.seg e.seg).valid &&
        decide ((h.seg e.seg).fromNode ≠ (h.seg p.seg).toNode)) ||
      decide (e.tin < p.tin ∨ e.tin > p.tout)

/-- closed (R183, R194). -/
def Hw.segClosed (h : Hw) (n : Nat) : Bool :=
  decide (n ≥ h.rsv.segCount) || (h.seg n).closed || !(h.seg n).valid || memb n h.rsv.eccClosed

/-- The least ticks an element takes: ⌈length × 100 / speed⌉. -/
def Seg.minTicks (g : Seg) : Nat := (g.length * 100 + g.speed - 1) / g.speed

/-- speed (R183). -/
def Hw.tooFast (h : Hw) (e : Elem) (next : Option Elem) : Bool :=
  decide ((match next with
    | some n => n.tin - e.tin
    | none => e.tout - e.tin) < (h.seg e.seg).minTicks)

/-- The tokens a robot may hold at once (RSV_RBT_CFG.max_tokens; 0 acts as 1). -/
def Hw.maxTokens (h : Hw) (robot : Nat) : Nat := max 1 (h.f (RSV_RBT_CFG robot) RSV_RBT_CFG.max_tokens)

/-- Site time has been set since start-up (R176). -/
def Hw.noTime (h : Hw) : Bool := decide (h.f CAL_STAT CAL_STAT.state = 0)

/-- The tests of R183 ahead of conflict, in their order: the failing status and the element's index. -/
def Hw.earlyTests (h : Hw) (q : RsvAsk) : Option (Nat × Nat) :=
  let now := h.tick
  if h.noTime then some (0x0C, 0)
  else if memb q.robot h.rsv.barred then some (0x0B, 0)
  else if q.op = 1 ∧ ((h.robotTokens q.robot).length ≥ h.maxTokens q.robot ∨ h.nextTok = none) then some (0x09, 0)
  else if q.op = 3 ∧ ¬(h.inForce q.oldToken ∧ (h.rsv.toks.at (tokIdx q.oldToken)).robot = q.robot) then some (0x0A, 0)
  else match firstBad h.badPath 0 none q.elems with
  | some i => some (0x02, i)
  | none => match firstBad (fun _ e => h.segClosed e.seg) 0 none q.elems with
  | some i => some (0x04, i)
  | none => match firstBad (fun _ e => decide (h.f (RSV_RBT_CFG q.robot) RSV_RBT_CFG.class > (h.seg e.seg).cls)) 0 none q.elems with
  | some i => some (0x05, i)
  | none => match firstBadNext h.tooFast 0 q.elems with
  | some i => some (0x03, i)
  | none => match firstBad (fun _ e => !later (tickAdd q.base e.tout) now) 0 none q.elems with
  | some i => some (0x06, i)
  | none => match firstBad (fun _ e => later (tickAdd q.base e.tout) (tickAdd now h.horizon)) 0 none q.elems with
  | some i => some (0x07, i)
  | none => none

/-- The windows of a request, clipped to start at the current tick, and whether any was (R183). -/
def Hw.clipped (h : Hw) (q : RsvAsk) : List Win × Bool :=
  let now := h.tick
  let ws := q.elems.map fun e => (e.seg, tickAdd q.base e.tin, tickAdd q.base e.tout)
  (ws.map fun (s, a, b) => (s, if later now a then now else a, b), ws.any fun (_, a, _) => later now a)

/-- The first element in path order that is blocked. -/
def Hw.firstBlocked (h : Hw) (robot : Nat) : Nat → List Win → Option (Nat × Win × Block)
  | _, [] => none
  | i, (s, a, b) :: ws =>
    match h.blockOf robot s a b with
    | some bl => some (i, (s, a, b), bl)
    | none => h.firstBlocked robot (i + 1) ws

/-- The path amended by a delay: element k - 1's out extended, elements k onward shifted (R184). -/
def amend (k d : Nat) (ws : List Win) : List Win :=
  ((List.range ws.length).zip ws).map fun (i, s, a, b) =>
    if i ≥ k then (s, tickAdd a d, tickAdd b d) else if i + 1 = k then (s, a, tickAdd b d) else (s, a, b)

/-- The delay at which a window starting at `a` clears an entry: its out and the guard, at least 1. -/
def Hw.clearDelay (h : Hw) (a : Nat) (e : Entry) : Nat :=
  max 1 ((tickAdd (h.endOf e) h.guard + 2 ^ 32 - a) % 2 ^ 32)

/-- The candidate delays (R184), at most `fuel` of them: each later one clears the entry that blocked the one before. -/
def Hw.offerGo (h : Hw) (robot k : Nat) (ws : List Win) : Nat → Nat → Option Nat
  | 0, _ => none
  | fuel + 1, d =>
    let p := amend k d ws
    let overHorizon : Bool := p.any fun (_, _, b) => later b (tickAdd h.tick h.horizon)
    let stays : Bool := match k with
      | 0 => false
      | j + 1 => match p[j]? with
        | some (s, a, b) => (h.blockOf robot s a b).isSome
        | none => false
    if overHorizon || stays then none
    else match h.firstBlocked robot k (p.drop k) with
      | none => some d
      | some (i, _, .entry _ e) =>
        match ws[i]? with
        | some (_, a, _) => h.offerGo robot k ws fuel (max (d + 1) (h.clearDelay a e))
        | none => none
      | some (_, _, .poison _) => none

/-- The response fields of a conflict, with the offer if one is sought and found (R184, R185). -/
def Hw.conflictResult (h : Hw) (q : RsvAsk) (ws : List Win) (late : Bool) (k : Nat) (w : Win) (bl : Block) : RsvResult :=
  let (s, a, _) := w
  let base : RsvResult := { (default : RsvResult) with status := 0x01, late := late, index := k, segment := s, set := 0xFFFF }
  match bl with
  | .poison c => { base with onSet := decide (c ≥ 65536), set := if c ≥ 65536 then c - 65536 else 0xFFFF }
  | .entry c e =>
    let base := { base with holder := e.robot, onSet := decide (c ≥ 65536), set := if c ≥ 65536 then c - 65536 else 0xFFFF }
    if q.noOffer then base
    else match h.offerGo q.robot k ws (max 1 (h.f RSV_CFG2 RSV_CFG2.offer_max)) (h.clearDelay a e) with
      | some d => { base with offerValid := true, offer := tickAdd a d, delay := d % 65536 }
      | none => base

/-- Free entries fell below pool_warn. -/
def Hw.poolWarn (h : Hw) (before : Nat) : Hw :=
  let w := h.f RSV_CFG2 RSV_CFG2.pool_warn
  if before ≥ w ∧ h.poolFree < w then h.raise RSV_IRQ_STAT RSV_IRQ_STAT.pool_warn 0 else h

/-- Every entry of a token is freed, and its record (R188, R193). -/
def Hw.dropToken (h : Hw) (t : Nat) : Hw :=
  if h.inForce t then
    ((h.clearValid t).updRsv fun r => { r with entries := r.entries.filter fun e => !e.ofToken t }).freeTok t
  else h

/-- Place a committed path under a token (R178). -/
def Hw.placePath (h : Hw) (robot t : Nat) (ws : List Win) : Hw :=
  h.updRsv fun r => { r with
    entries := r.entries ++ h.pathEntries robot t (r.commits * 64) none ws []
    commits := r.commits + 1 }

/-- Test a request of op RESERVE, CHECK or REPLACE and commit it where it may (R183, R188). -/
def Hw.rsvDecide (h : Hw) (q : RsvAsk) : Hw × RsvResult :=
  match h.earlyTests q with
  | some (st, i) =>
    (h, { (default : RsvResult) with status := st, index := i, segment := (q.elems[i]?.map (·.seg)).getD 0, set := 0xFFFF })
  | none =>
    let (ws, late) := h.clipped q
    match h.firstBlocked q.robot 0 ws with
    | some (k, w, bl) => (h, h.conflictResult q ws late k w bl)
    | none =>
      let need := (h.pathEntries q.robot 0 0 none ws []).length
      let old := if q.op = 3 then (h.rsv.entries.filter fun e => e.ofToken q.oldToken).length else 0
      let ok : RsvResult := { (default : RsvResult) with
        late := late, first := (ws.head?.map (·.2.1)).getD 0, last := (ws.getLast?.map (·.2.2)).getD 0, set := 0xFFFF }
      if need > h.poolFree + old then (h, { ok with status := 0x08, first := 0, last := 0 })
      else if q.op = 2 then (h, ok)
      else
        let before := h.poolFree
        let h := if q.op = 3 then
            let k := h.rsv.toks.at (tokIdx q.oldToken)
            (h.dropToken q.oldToken).rsvEvent 0x3 q.robot k.elements q.oldToken
          else h
        match h.nextTok with
        | none => (h, { ok with status := 0x09 })
        | some rec =>
          let (h, t) := h.takeTok rec q.robot ws.length ok.last
          let h := (h.placePath q.robot t ws).poolWarn before
          (h.mirrorRsv (.commit q.robot t (if q.op = 3 then q.oldToken else 0) ws), { ok with token := t })

/-! ### Release and expiry (R187, R188) -/

/-- A robot's track: its holds, then each token's path, in commit order, of the entries not yet released (log entry 20). -/
def Hw.track (h : Hw) (robot : Nat) : List Entry :=
  let es := h.rsv.entries.filter fun e => decide (e.robot = robot) && e.onSeg && !e.released && !h.isPoisoned e.cal
  (es.filter fun e => decide (e.token = 0)) ++ (es.filter fun e => decide (e.token ≠ 0))

/-- An entry's window contains a tick. -/
def Entry.holds (e : Entry) (t : Nat) : Bool := !later e.tin t && (e.opened || later e.tout t)

/-- Release the entries of the path elements in `keys`: each out becomes the current tick unless it is earlier; a set entry follows
when all its elements are released (R187). -/
def Hw.releaseKeys (h : Hw) (robot : Nat) (keys : List Nat) (now : Nat) : Hw :=
  let short := fun (e : Entry) => { e with released := true, opened := false,
                                           tout := if e.opened ∨ later e.tout now then now else e.tout }
  let step1 := h.rsv.entries.map fun (e : Entry) =>
    if e.robot = robot ∧ e.onSeg ∧ ¬e.released ∧ memb e.key keys then short e else e
  let left := (step1.filter fun e => decide (e.robot = robot) && e.onSeg && !e.released).map Entry.key
  let step2 := step1.map fun (e : Entry) =>
    if e.robot = robot ∧ ¬e.onSeg ∧ ¬e.released ∧ e.elems.any (fun p => memb p.1 keys) ∧
        e.elems.all (fun p => !memb p.1 left) then short e else e
  h.updRsv fun r => { r with entries := step2 }

/-- An inside fix of a robot on a segment releases the entries behind it (R187). -/
def Hw.releaseBehind (h : Hw) (robot seg : Nat) (e n : Int) (epochTick : Nat) : Hw :=
  let tr := h.track robot
  match tr.findIdx? fun x => decide (x.cal = seg) && x.holds epochTick with
  | none => h
  | some j =>
    let far := decide (((h.seg seg).locate e n).along ≥ h.f (RSV_RBT_CFG robot) RSV_RBT_CFG.margin_mm * mmUnits)
    let keys := (tr.take (if far then j else j - 1)).map Entry.key
    if keys.isEmpty then h
    else (h.releaseKeys robot keys h.tick).mirrorRsv (.release robot keys h.tick)

/-- Tokens with no entry left end (R188): validity cleared, event 0x2. -/
def Hw.endEmpty (h : Hw) : Hw :=
  (h.allTokens.filter fun t => !h.rsv.entries.any fun e => e.ofToken t).foldl (fun h t =>
    let k := h.rsv.toks.at (tokIdx t)
    ((h.clearValid t).freeTok t).rsvEvent 0x2 k.robot k.elements t) h

/-- Free every entry whose out plus guard is not later than a tick; a hold is never freed so (R188). -/
def Hw.expire (h : Hw) (now : Nat) : Hw :=
  (h.updRsv fun r => { r with entries := r.entries.filter fun e => e.opened || later (tickAdd e.tout h.guard) now }).endEmpty

/-! ### Revocation, holds, bars (R189, R190) -/

/-- What a revocation does to a token's entries: a released entry stays, a future one is freed, every other becomes a hold; a set
entry follows its segment entries (R189). -/
def Hw.toHolds (h : Hw) (t now : Nat) : Hw :=
  let mine := h.rsv.entries.filter fun e => e.ofToken t && e.onSeg && !e.released
  let held := (mine.filter fun e => !later e.tin (tickAdd now h.holdTicks)).map Entry.key
  let freed := (mine.filter fun e => later e.tin (tickAdd now h.holdTicks)).map Entry.key
  let es := h.rsv.entries.filterMap fun (e : Entry) =>
    if e.ofToken t ∧ ¬e.released then
      let keep := e.elems.filter fun p => memb p.1 held
      if ¬keep.isEmpty then some { e with token := 0, opened := true, elems := keep }
      else if e.elems.all fun p => memb p.1 freed then none
      else if later e.tin (tickAdd now h.holdTicks) then none
      else some { e with token := 0, opened := true }
    else some e
  h.updRsv fun r => { r with entries := es }

/-- Revoke a token, with or without holds (R189): validity, then the entries, then event 0x3 and one 0x4 for each segment held. -/
def Hw.revokeToken (h : Hw) (t : Nat) (hold : Bool) (now : Nat) : Hw :=
  if h.inForce t then
    let k := h.rsv.toks.at (tokIdx t)
    let before := (h.rsv.entries.filter fun e => decide (e.robot = k.robot ∧ e.token = 0) && e.onSeg).map Entry.key
    let h := h.clearValid t
    let h := if hold then h.toHolds t now
      else h.updRsv fun r => { r with entries := r.entries.filter fun e => !e.ofToken t }
    let h := ((h.freeTok t).rsvEvent 0x3 k.robot k.elements t).mirrorRsv (.revoke t hold now)
    (h.rsv.entries.filter fun e => decide (e.robot = k.robot ∧ e.token = 0) && e.onSeg && !memb e.key before).foldl
      (fun h e => h.rsvEvent 0x4 k.robot e.cal 0) h
  else h

/-- Revoke every token of a robot, with or without holds. -/
def Hw.revokeRobot (h : Hw) (robot : Nat) (hold : Bool) : Hw :=
  (h.robotTokens robot).foldl (fun h t => h.revokeToken t hold h.tick) h

/-- Free all holds of a robot (R189): one event 0x5 for each segment. -/
def Hw.clearHolds (h : Hw) (robot : Nat) : Hw :=
  let gone := h.rsv.entries.filter fun e => decide (e.robot = robot ∧ e.token = 0)
  let h := h.updRsv fun r => { r with entries := r.entries.filter fun e => decide (¬(e.robot = robot ∧ e.token = 0)) }
  let h := (gone.filter Entry.onSeg).foldl (fun h e => h.rsvEvent 0x5 robot e.cal 0) h
  h.mirrorRsv (.clearHolds robot)

/-- A stop bars a robot, or its release lifts the bar (R190, R273). -/
def Hw.setBar (h : Hw) (robot : Nat) (on : Bool) : Hw :=
  (h.updRsv fun r => { r with barred := if on then without robot r.barred ++ [robot] else without robot r.barred }).mirrorRsv
    (.bar robot on)

/-- A stop of some robots acts on the engine: every token revoked with holds, and the robots barred (R190). -/
def Hw.rsvStop (h : Hw) (robots : List Nat) : Hw :=
  let h := robots.foldl (fun h r => (h.revokeRobot r true).setBar r true) h
  h.raise RSV_IRQ_STAT RSV_IRQ_STAT.revoke (if robots.length = 1 then robots.headD 0 else 0)

/-- The robots of the fleet. -/
def allRobots : List Nat := (List.range 128).map (· + 1)

/-- Any token or hold is in force (R198). -/
def Hw.trackCommitted (h : Hw) : Bool := !h.allTokens.isEmpty || h.rsv.entries.any fun e => decide (e.token = 0)

/-! ### Edits and graph loads (R175, R192) -/

/-- Geometry or nodes of two records differ. -/
def Seg.moved (a b : Seg) : Bool :=
  decide (¬(a.startE = b.startE ∧ a.startN = b.startN ∧ a.endE = b.endE ∧ a.endN = b.endN ∧ a.length = b.length ∧
    a.curv = b.curv ∧ a.fromNode = b.fromNode ∧ a.toNode = b.toNode))

/-- An entry came, at least in part, from a segment. -/
def Entry.fromSeg (e : Entry) (n : Nat) : Bool := e.elems.any fun p => decide (p.2 = n)

/-- A membership is removed: entries on the set's calendar that came from the segment go; a shared one keeps its other elements and
their windows (R192). -/
def Hw.leaveSet (h : Hw) (n s : Nat) : Hw :=
  let es := h.rsv.entries.filterMap fun (e : Entry) =>
    if e.cal = setCal s ∧ e.fromSeg n then
      let keep := e.elems.filter fun p => decide (p.2 ≠ n)
      if keep.isEmpty then none
      else
        let others := h.rsv.entries.filter fun x => x.onSeg && decide (x.robot = e.robot) && keep.any fun p => decide (p.1 = x.key)
        let tin := others.foldl (fun a x => if later a x.tin then x.tin else a) ((others.head?.map (·.tin)).getD e.tin)
        let tout := others.foldl (fun b x => if later x.tout b then x.tout else b) ((others.head?.map (·.tout)).getD e.tout)
        some { e with elems := keep, tin := tin, tout := if e.opened ∨ e.released then e.tout else tout }
    else some e
  h.updRsv fun r => { r with entries := es }

/-- Two entries of different robots conflict (R177). -/
def Hw.entriesClash (h : Hw) (x y : Entry) : Bool := h.clash x.robot x.tin (h.endOf x) y

/-- The effect of an edit on the graph and the pool. -/
def Hw.placeEdit (h : Hw) (n : Nat) (body : List Byte) : Hw :=
  let old := h.seg n
  let new := readSeg body
  let onSeg := h.rsv.entries.filter fun e => decide (e.cal = n)
  let added := new.sets.filter fun s => !memb s old.sets
  let removed := old.sets.filter fun s => !memb s new.sets
  let h := removed.foldl (fun h s => h.leaveSet n s) h
  let copies := added.flatMap fun s => onSeg.map fun e => { e with cal := setCal s }
  h.updRsv fun r => { r with
    segs := r.segs.set n new
    entries := r.entries ++ copies
    eccClosed := without n r.eccClosed }

/-- An EDIT (R183, R192): the status, and the new state where it is ok. -/
def Hw.rsvEdit (h : Hw) (n : Nat) (body : List Byte) : Hw × Nat :=
  let old := h.seg n
  let new := readSeg body
  let onSeg := h.rsv.entries.filter fun e => decide (e.cal = n)
  let added := new.sets.filter fun s => !memb s old.sets
  if h.noTime then (h, 0x0C)
  else if segMalformed body then (h, 0x11)
  else if h.memberships - old.sets.length + new.sets.length > 4096 then (h, 0x12)
  else if old.valid ∧ (old.moved new ∨ ¬new.valid) ∧ ¬onSeg.isEmpty then (h, 0x0D)
  else if added.any (fun s => onSeg.any fun x => h.rsv.entries.any fun y => decide (y.cal = setCal s) && h.entriesClash x y) then
    (h, 0x0E)
  else if added.length * onSeg.length > h.poolFree then (h, 0x08)
  else
    let before := h.poolFree
    ((((h.placeEdit n body).poolWarn before).rsvEvent 0x7 0 n 0).mirrorRsv (.edit n body), 0)

/-- Put a whole graph in force (R175). -/
def Hw.loadGraph (h : Hw) (version count : Nat) (segs : List (Nat × List Byte)) : Hw :=
  let m := segs.foldl (fun (m : Map Seg) p => m.set p.1 (readSeg p.2)) []
  (h.updRsv fun r => { r with segs := m, segCount := count, poison := [], eccClosed := [] }).setReg RSV_GRAPH_VER
    (BitVec.ofNat 32 version)

/-- The state and error of a graph load end (RSV_GRAPH_STAT), with the interrupt. -/
def Hw.graphEnd (h : Hw) (state err bad : Nat) : Hw :=
  (h.setReg RSV_GRAPH_STAT (BitVec.ofNat 32 (state * 2 ^ 30 + err * 2 ^ 16 + bad))).raise RSV_IRQ_STAT RSV_IRQ_STAT.graph_done 0

/-- The RSV_GRAPH_HI write (R175). A write while a load runs is ignored. -/
def Hw.graphStart (h : Hw) : Hw :=
  if h.f RSV_GRAPH_STAT RSV_GRAPH_STAT.state = 1 then h
  else if ¬h.rsv.entries.isEmpty then h.graphEnd 3 0x01 0
  else h.setReg RSV_GRAPH_STAT (BitVec.ofNat 32 (2 ^ 30))

/-- The membership total of records, and the first index whose record is malformed or that carries the total past 4,096. -/
def segCheck : Nat → Nat → List (List Byte) → Nat × Option Nat × Option Nat
  | _, total, [] => (total, none, none)
  | i, total, b :: bs =>
    let t := total + (readSeg b).sets.length
    let (sum, bad, past) := segCheck (i + 1) t bs
    (sum, if segMalformed b then some i else bad, if t > 4096 then some i else past)

/-- The `i`-th free value from the next one on, as a number. -/
def Hw.freeAt (h : Hw) (i : Nat) : Nat := (Config.freeWord (h.freeCtr + i)).toNat

/-- The end of a graph load (R175): the image is read and checked, and put in force or refused. -/
def Hw.graphDone (h : Hw) : Hw :=
  if h.f RSV_GRAPH_STAT RSV_GRAPH_STAT.state ≠ 1 then h
  else
    let ctx := h.f RSV_GRAPH_HI RSV_GRAPH_HI.ctx
    let a := h.f RSV_GRAPH_LO RSV_GRAPH_LO.addr_lo * 4096 + h.f RSV_GRAPH_HI RSV_GRAPH_HI.addr_hi * 2 ^ 32
    match h.readCtx ctx a 16 with
    | .error _ => h.graphEnd 3 0x05 0
    | .ok hd =>
      let count := fieldAt hd 4 4
      if count = 0 ∨ count > 65536 ∨ ¬zeroAt hd 12 4 then h.graphEnd 3 0x02 0
      else match h.readCtx ctx (a + 16) (48 * count) with
        | .error _ => h.graphEnd 3 0x05 0
        | .ok bs =>
          let recs := (List.range count).map fun i => (bs.drop (48 * i)).take 48
          let (sum, bad, past) := segCheck 0 0 recs
          match bad with
          | some i => h.graphEnd 3 0x03 (i % 65536)
          | none =>
            if sum ≠ fieldAt hd 8 4 then h.graphEnd 3 0x02 0
            else match past with
              | some i => h.graphEnd 3 0x04 (i % 65536)
              | none =>
                let segs := (List.range count).zip recs
                let h := h.loadGraph (fieldAt hd 0 4) count segs
                let v := h.freeAt 0
                (((h.useFree 1).graphEnd 2 0 0).rsvEvent 0x8 0 v 0).mirrorRsv (.graph (fieldAt hd 0 4) count segs)

/-! ### Requests (R181, R182) -/

/-- The outcome word of a submission (RSV_SUBMIT_RES). -/
def rsvOutcome (status slot reqId : Nat) : Word := BitVec.ofNat 32 (status * 2 ^ 24 + slot * 2 ^ 16 + reqId)

/-- A submission is refused: counted, raised, shown to the master (R182). -/
def Hw.rsvRefuse (h : Hw) (m status : Nat) : Hw :=
  let h := (h.bump RSV_ERR RSV_ERR.refused RSV_ERR.refused_sat).raise RSV_IRQ_STAT RSV_IRQ_STAT.refused 0
  h.updRsv fun r => { r with results := r.results.set m (rsvOutcome status 0 0) }

/-- A request slot. -/
def Hw.rsvSlot (h : Hw) (s : Nat) : RsvSlot := h.rsv.slots.at s

/-- Change a request slot. -/
def Hw.updSlot (h : Hw) (s : Nat) (g : RsvSlot → RsvSlot) : Hw := h.updRsv fun r => { r with slots := r.slots.upd s g }

/-- The lowest free slot of the 32. -/
def Hw.freeSlot (h : Hw) : Option Nat := (List.range 32).find? fun s => decide ((h.rsvSlot s).phase = .free)

/-- Requests in flight. -/
def Hw.rsvInFlight (h : Hw) : Nat := ((List.range 32).filter fun s => decide ((h.rsvSlot s).phase ≠ .free)).length

/-- The header is good (R181, R182). -/
def headerOk (b : List Byte) (ctx : Nat) : Bool :=
  let op := fieldAt b 0 1
  let robot := fieldAt b 2 1
  let count := fieldAt b 3 1
  let path := decide (1 ≤ op ∧ op ≤ 3)
  decide (1 ≤ op ∧ op ≤ 6) && decide (fieldAt b 1 1 < 16) &&
    (if op = 6 then decide (robot = 0) else decide (1 ≤ robot ∧ robot ≤ 128)) &&
    (if path then decide (1 ≤ count ∧ count ≤ 64) else if op = 6 then decide (count = 1) else decide (count = 0)) &&
    decide (fieldAt b 4 1 = ctx) && zeroAt b 5 1 &&
    (path || (if op = 6 then zeroAt b 10 2 else zeroAt b 8 4)) &&
    (decide (op = 3 ∨ op = 4) || zeroAt b 12 4) && decide (fieldAt b 16 8 % 32 = 0) && zeroAt b 24 8

/-- Take a slot for an accepted request. -/
def Hw.takeSlot (h : Hw) (s : Nat) (q : RsvSlot) : Hw :=
  h.updRsv fun r => { r with
    slots := r.slots.set s { q with phase := .queued, order := r.accepted, reqId := r.nextReq }
    accepted := r.accepted + 1
    nextReq := (r.nextReq + 1) % 65536 }

/-- The RSV_SUBMIT_HI write (R182). -/
def Hw.rsvSubmit (h : Hw) (m : Nat) (low high : Word) : Hw :=
  let ctx := RSV_SUBMIT_HI.ctx.get high
  let a := RSV_SUBMIT_LO.addr_lo.get low * 32 + RSV_SUBMIT_HI.addr_hi.get high * 2 ^ 32
  if ¬h.acts then h.rsvRefuse m 5
  else if ¬h.flag RSV_CFG RSV_CFG.enable then h.rsvRefuse m 4
  else match h.freeSlot with
    | none => h.rsvRefuse m 1
    | some s =>
      match h.readCtx ctx a 32 with
      | .error (.fault fa k) => (h.faultRecord ⟨fa, k, false, ctx, 240 + s⟩).rsvRefuse m 3
      | .error .bus => h.rsvRefuse m 3
      | .ok b =>
        if ¬headerOk b ctx then h.rsvRefuse m 2
        else
          let id := h.rsv.nextReq
          let q : RsvSlot := { (default : RsvSlot) with
            op := fieldAt b 0 1, flags := fieldAt b 1 1, robot := fieldAt b 2 1, count := fieldAt b 3 1, ctx := ctx,
            handle := fieldAt b 6 2, arg := fieldAt b 8 4, oldToken := fieldAt b 12 4, resp := fieldAt b 16 8, addr := a }
          (h.takeSlot s q).updRsv fun r => { r with results := r.results.set m (rsvOutcome 0 s id) }

/-- The 32 octets of a response (R185). -/
def rsvResponse (robot reqId : Nat) (x : RsvResult) : List Byte :=
  leBytes 1 x.status ++ leBytes 1 (x.late.toNat + 2 * x.offerValid.toNat + 4 * x.onSet.toNat) ++ leBytes 1 robot ++
    leBytes 1 x.index ++ leBytes 4 x.token ++ leBytes 4 x.first ++ leBytes 4 x.last ++ leBytes 2 x.segment ++
    leBytes 1 x.holder ++ leBytes 1 0 ++ leBytes 2 x.set ++ leBytes 2 0 ++ leBytes 4 x.offer ++ leBytes 2 x.delay ++
    leBytes 2 reqId

/-- The counters of a response's status (RSV_ERR, RSV_ERR2). -/
def Hw.countStatus (h : Hw) (st : Nat) : Hw :=
  if st = 0x01 then h.bump RSV_ERR RSV_ERR.conflicts RSV_ERR.conflicts_sat
  else if (0x02 ≤ st ∧ st ≤ 0x07) ∨ st = 0x11 ∨ st = 0x12 then h.bump RSV_ERR RSV_ERR.bad RSV_ERR.bad_sat
  else if st = 0x08 then h.bump RSV_ERR2 RSV_ERR2.pool_full RSV_ERR2.pool_sat
  else h

/-- A committed token becomes valid, at once or once the partner has acknowledged its commit (R180, R196). -/
def Hw.startValidity (h : Hw) (t : Nat) : Hw :=
  if h.paired ∧ h.flag RSV_CFG RSV_CFG.mirror_sync then
    h.updRsv fun r => { r with waitAck := r.waitAck ++ [(t, h.eqx.sent)] }
  else h.makeValid t

/-- A request has ended: its slot is free. -/
def Hw.slotFree (h : Hw) (s : Nat) : Hw :=
  (h.updRsv fun r => { r with slots := r.slots.set s default }).unitNormal (240 + s)

/-- A response's fields, with free values in those that R185 gives no meaning under the status: the committed window where nothing is
committed or checked, the element's segment where no element failed a test, the blocking entry without a conflict, an offer
without one (log entry 86). -/
def Hw.openResult (h : Hw) (op : Nat) (x : RsvResult) : RsvResult :=
  let path := decide (op ≤ 3)
  let done := path && decide (x.status = 0)
  let clash := decide (x.status = 1)
  { x with
    first := if done then x.first else h.freeAt 0
    last := if done then x.last else h.freeAt 1
    segment := if path && decide (1 ≤ x.status ∧ x.status ≤ 7) then x.segment else h.freeAt 2
    holder := if clash then x.holder else h.freeAt 3
    set := if clash then x.set else h.freeAt 4
    offer := if x.offerValid then x.offer else h.freeAt 5
    delay := if x.offerValid then x.delay else h.freeAt 6 }

/-- Write a slot's response; the token's validity, the completion token and the interrupt follow (R180, R185, R193). -/
def Hw.rsvRespond (h : Hw) (s : Nat) : Hw :=
  let q := h.rsvSlot s
  let (h, _, err) := (h.useFree 7).writeCtx q.ctx q.resp (rsvResponse q.robot q.reqId (h.openResult q.op q.result))
  match err with
  | some (.fault a k) => h.park (240 + s) q.ctx a true k
  | _ =>
    let h := h.countStatus q.result.status
    let h := if q.committed then h.startValidity q.result.token else h
    let h := if bit q.flags 0 then h.token q.handle (decide (q.result.status ≠ 0)) else h
    let h := if bit q.flags 1 then h.raise RSV_IRQ_STAT RSV_IRQ_STAT.response s else h
    h.slotFree s

/-- The path elements in memory (R181). -/
def elemsOf (count : Nat) (b : List Byte) : List Elem :=
  (List.range count).map fun i =>
    { seg := fieldAt b (8 * i) 2, tin := fieldAt b (8 * i + 2) 2, tout := fieldAt b (8 * i + 4) 2, zero := zeroAt b (8 * i + 6) 2 }

/-- The body of a request whose header has been accepted: the state after the tests, and the result. -/
def Hw.rsvRun (h : Hw) (q : RsvSlot) (body : List Byte) : Hw × RsvResult :=
  let plain := fun st => { (default : RsvResult) with status := st, set := 0xFFFF }
  if q.op ≤ 3 then
    h.rsvDecide ⟨q.op, q.robot, bit q.flags 2, q.arg, elemsOf q.count body, q.oldToken⟩
  else if q.op = 4 then
    if h.noTime then (h, plain 0x0C)
    else if ¬(h.inForce q.oldToken ∧ (h.rsv.toks.at (tokIdx q.oldToken)).robot = q.robot) then (h, plain 0x0A)
    else
      ((h.revokeToken q.oldToken (!bit q.flags 3) h.tick).raise RSV_IRQ_STAT RSV_IRQ_STAT.revoke q.robot, plain 0)
  else if q.op = 5 then (if h.noTime then (h, plain 0x0C) else (h.clearHolds q.robot, plain 0))
  else
    let (h, st) := h.rsvEdit (q.arg % 65536) body
    (h, { plain st with segment := q.arg % 65536 })

/-- The octets of a request's body after its header. -/
def RsvSlot.bodyLength (q : RsvSlot) : Nat := if q.op ≤ 3 then 8 * q.count else if q.op = 6 then 48 else 0

/-- The check unit takes the request of a slot (R183, R186): in acceptance order, among those that are not parked; none while a graph
load runs, which nothing interleaves. -/
def Hw.slotTurn (h : Hw) (s : Nat) : Bool :=
  !h.isParked (240 + s) && decide (h.f RSV_GRAPH_STAT RSV_GRAPH_STAT.state ≠ 1 ∧ (h.rsvSlot s).phase = .queued) &&
    (List.range 32).all fun o => decide ((h.rsvSlot o).phase ≠ .queued) || h.isParked (240 + o) ||
      decide ((h.rsvSlot s).order ≤ (h.rsvSlot o).order)

/-- Serve the request of a slot, if its op is `op` and it is its turn: fetch the body, test, commit, respond; or rewrite the
response after a resume (R183, R193). -/
def Hw.rsvServe (h : Hw) (op s : Nat) : Hw :=
  let q := h.rsvSlot s
  if q.op ≠ op ∨ q.lathe then h
  else if q.phase = .writing ∧ ¬h.isParked (240 + s) then h.rsvRespond s
  else if ¬h.slotTurn s then h
  else match h.readCtx q.ctx (q.addr + 32) q.bodyLength with
    | .error (.fault a k) => h.park (240 + s) q.ctx a false k
    | .error .bus => h.park (240 + s) q.ctx (q.addr + 32) false kindWalk
    | .ok body =>
      let (h, x) := h.rsvRun q body
      let h := h.updSlot s fun q => { q with phase := .writing, result := x, committed := decide (x.token ≠ 0) }
      h.rsvRespond s

/-- A parked slot is aborted, or its park times out (R193): `st` is status 0x0F or 0x10. -/
def Hw.rsvAbort (h : Hw) (s st : Nat) : Hw :=
  let q := h.rsvSlot s
  let fail := fun (h : Hw) =>
    let h := if q.committed then (h.dropToken q.result.token).mirrorRsv (.drop q.result.token) else h
    let h := if bit q.flags 0 then h.token q.handle true else h
    let h := h.event rsvSource ((Config.freeWord h.freeCtr).toNat % 0x100) (BitVec.ofNat 32 s) (BitVec.ofNat 32 q.robot)
      (BitVec.ofNat 32 q.reqId)
    (h.useFree 1).slotFree s
  match q.phase with
  | .free => h
  | .writing => fail h
  | .queued =>
    let x : RsvResult := { (default : RsvResult) with status := st, set := 0xFFFF }
    let (h, _, err) := h.writeCtx q.ctx q.resp (rsvResponse q.robot q.reqId x)
    match err with
    | some _ => fail h
    | none =>
      let h := h.countStatus st
      let h := if bit q.flags 0 then h.token q.handle true else h
      let h := if bit q.flags 1 then h.raise RSV_IRQ_STAT RSV_IRQ_STAT.response s else h
      h.slotFree s

/-! ### The corridor port (R191) -/

/-- The entries of a robot whose window contains a tick, at most 8, in track order (R191). -/
def Hw.corridor (h : Hw) (robot tick : Nat) : List Entry := ((h.track robot).filter fun e => e.holds tick).take 8

/-! ### Engine memory errors (R194) -/

/-- A calendar is poisoned: event 0x6, the interrupt bit, the health manager's class 11. -/
def Hw.poisonCal (h : Hw) (cal : Nat) : Hw :=
  let h := h.updRsv fun r => { r with poison := (r.poison.filter fun p => decide (p.1 ≠ cal)) ++ [(cal, h.tick)] }
  (h.raise RSV_IRQ_STAT RSV_IRQ_STAT.poison 0).mirrorRsv (.poison cal h.tick)

/-- An uncorrectable error in engine memory (R194). -/
def Hw.rsvEcc (h : Hw) (hit : EccHit) : Hw :=
  let h := h.setFlag RSV_ERR2 RSV_ERR2.ecc_unc true
  let (h, seg) := match hit with
    | .segCalendar n => (h.poisonCal n.toNat, n.toNat)
    | .setCalendar n => (h.poisonCal (setCal n.val), n.val)
    | .segment n =>
      ((h.updRsv fun r => { r with eccClosed := without n.toNat r.eccClosed ++ [n.toNat] }).mirrorRsv (.closeSeg n.toNat), n.toNat)
    | .token n =>
      let t := (h.rsv.toks.at n.val).gen * 4096 + n.val
      (if h.inForce t then (h.revokeToken t true h.tick).raise RSV_IRQ_STAT RSV_IRQ_STAT.revoke 0 else h, 0)
  (h.rsvEvent 0x6 0 seg 0).countOpen 11 0

/-- A poisoned calendar clears once the horizon has passed since (R194). -/
def Hw.unpoison (h : Hw) (cal : Nat) : Hw :=
  match h.rsv.poison.find? fun p => decide (p.1 = cal) with
  | none => h
  | some (_, t) =>
    if later (tickAdd t h.horizon) h.tick then h
    else (h.updRsv fun r => { r with poison := r.poison.filter fun p => decide (p.1 ≠ cal) }).mirrorRsv (.unpoison cal)

/-! ### Mirror mode (R196) -/

/-- A standby applies a change of the primary's engine. -/
def Hw.applyRsv (h : Hw) (c : RsvChange) : Hw :=
  match c with
  | .commit robot t old ws =>
    let h := if old = 0 then h else h.dropToken old
    let h := h.updRsv fun r => { r with
      toks := r.toks.set (tokIdx t) ⟨t / 4096, 1, robot, ws.length, (ws.getLast?.map (·.2.2)).getD 0⟩
      used := if r.used < 4096 then max r.used (tokIdx t + 1) else r.used
      freed := without (tokIdx t) r.freed }
    h.placePath robot t ws
  | .valid t => h.makeValid t
  | .drop t => h.dropToken t
  | .release robot keys now => h.releaseKeys robot keys now
  | .expire now => h.expire now
  | .revoke t hold now => h.revokeToken t hold now
  | .clearHolds robot => h.clearHolds robot
  | .bar robot on => h.setBar robot on
  | .edit n body => h.placeEdit n body
  | .graph v count segs => h.loadGraph v count segs
  | .poison cal now => h.updRsv fun r => { r with poison := (r.poison.filter fun p => decide (p.1 ≠ cal)) ++ [(cal, now)] }
  | .unpoison cal => h.updRsv fun r => { r with poison := r.poison.filter fun p => decide (p.1 ≠ cal) }
  | .closeSeg n => h.updRsv fun r => { r with eccClosed := without n r.eccClosed ++ [n] }

/-- The partner has acknowledged mirror records up to `seq`: tokens that wait for theirs become valid (R196). -/
def Hw.ackTokens (h : Hw) (seq : Nat) : Hw :=
  (h.rsv.waitAck.filter fun p => !laterSeq 32 p.2 seq).foldl (fun h p => h.makeValid p.1) h

/-! ### The commands -/

/-- The word of RSV_GRAPH_HI for a context and an address. -/
def graphHi (ctx : Fin 64) (hi : Fin 16) : Word := BitVec.ofNat 32 (ctx.val * 256 + hi.val)

/-- GRAPH_LOAD (R175): the RSV_GRAPH_HI write, whose low word the master has written before it. -/
def execGraphLoad (via : BusAcc) (ctx : Fin 64) (addrHi : Fin 16) (s : State) : Host.Outcome State Fault Refusal :=
  run s fun h =>
    let before := (h.reg RSV_GRAPH_LO, h.reg RSV_GRAPH_HI)
    h.regWrite via RSV_GRAPH_HI (graphHi ctx addrHi) fun _ h =>
      if h.f RSV_GRAPH_STAT RSV_GRAPH_STAT.state = 1 then (h.setReg RSV_GRAPH_LO before.1).setReg RSV_GRAPH_HI before.2
      else h.graphStart

/-- GRAPH_LOAD_DONE (R175). -/
def execGraphLoadDone (s : State) : Host.Outcome State Fault Refusal := run s Hw.graphDone

/-- RSV_SUBMIT (R182). -/
def execRsvSubmit (via : BusAcc) (high : Word) (s : State) : Host.Outcome State Fault Refusal :=
  run s fun h => h.regWrite via RSV_SUBMIT_HI high fun low h => h.rsvSubmit via.master.num low high

/-- RESERVE (R183). -/
def execReserve (slot : Fin 32) (s : State) : Host.Outcome State Fault Refusal := run s fun h => h.rsvServe 1 slot.val

/-- CHECK (R183). -/
def execCheck (slot : Fin 32) (s : State) : Host.Outcome State Fault Refusal := run s fun h => h.rsvServe 2 slot.val

/-- REPLACE (R188). -/
def execReplace (slot : Fin 32) (s : State) : Host.Outcome State Fault Refusal := run s fun h => h.rsvServe 3 slot.val

/-- REVOKE (R189). -/
def execRevoke (slot : Fin 32) (s : State) : Host.Outcome State Fault Refusal := run s fun h => h.rsvServe 4 slot.val

/-- CLEAR_HOLD (R189). -/
def execClearHold (slot : Fin 32) (s : State) : Host.Outcome State Fault Refusal := run s fun h => h.rsvServe 5 slot.val

/-- EDIT (R192). -/
def execEdit (slot : Fin 32) (s : State) : Host.Outcome State Fault Refusal := run s fun h => h.rsvServe 6 slot.val

/-- MIRROR_ACK_TIMEOUT (R196). -/
def execMirrorAckTimeout (token : Word) (s : State) : Host.Outcome State Fault Refusal :=
  run s fun h =>
    if h.rsv.waitAck.any fun p => decide (p.1 = token.toNat) then
      let h := h.makeValid token.toNat
      (h.bump RSV_ERR2 RSV_ERR2.mirror_late RSV_ERR2.mirror_sat).raise RSV_IRQ_STAT RSV_IRQ_STAT.mirror_late 0
    else h

/-- EXPIRY_SWEEP (R188). A standby's engine expires by the primary's records (R196). -/
def execExpirySweep (s : State) : Host.Outcome State Fault Refusal :=
  run s fun h =>
    if ¬h.acts then h
    else
      let n := h.rsv.entries.length
      let h := h.expire h.tick
      if h.rsv.entries.length < n then h.mirrorRsv (.expire h.tick) else h

/-- What a write of RSV_REVOKE starts (R190). -/
def Hw.rsvRevokeWrite (h : Hw) (v : Word) : Hw :=
  let robot := RSV_REVOKE.robot.get v
  let hold := decide (RSV_REVOKE.no_hold.get v = 0)
  if RSV_REVOKE.go.get v = 0 then h
  else if RSV_REVOKE.scope.get v = 1 then (h.revokeRobot robot hold).raise RSV_IRQ_STAT RSV_IRQ_STAT.revoke robot
  else if RSV_REVOKE.scope.get v = 2 then
    (h.allTokens.foldl (fun h t => h.revokeToken t hold h.tick) h).raise RSV_IRQ_STAT RSV_IRQ_STAT.revoke 0
  else h

/-- RSV_REVOKE (R190). -/
def execRsvRevoke (via : BusAcc) (value : Word) (s : State) : Host.Outcome State Fault Refusal :=
  run s fun h => h.regWrite via RSV_REVOKE value fun _ h => h.rsvRevokeWrite value

/-- TOKEN_QUERY (R179): RSV_TOKQ_RES and RSV_TOKQ_LAST show the token selected. -/
def execTokenQuery (via : BusAcc) (token : Word) (s : State) : Host.Outcome State Fault Refusal :=
  run s fun h => h.regWrite via RSV_TOKQ token fun _ h => h

/-- RSV_ECC_ERROR (R194). -/
def execRsvEccError (hit : EccHit) (s : State) : Host.Outcome State Fault Refusal := run s fun h => h.rsvEcc hit

/-- POISON_CLEAR (R194). -/
def execPoisonClear (cal : Fin 66560) (s : State) : Host.Outcome State Fault Refusal := run s fun h => h.unpoison cal.val

/-- EVENT_DROP_TIMEOUT (R197). -/
def execEventDropTimeout (s : State) : Host.Outcome State Fault Refusal :=
  run s fun h =>
    let f := h.f RSV_EVT_CFG RSV_EVT_CFG.fifo
    if h.holdsPacket prodRsv f then
      (((h.dropHeld prodRsv f).settle f).bump RSV_ERR2 RSV_ERR2.evt_dropped RSV_ERR2.evt_sat)
    else h

/-! ### Registers -/

/-- The state shown by RSV_STAT: mirror, off, no time, running (log entry 20). -/
def Hw.rsvState (h : Hw) : Nat :=
  if ¬h.acts then 2 else if ¬h.flag RSV_CFG RSV_CFG.enable then 0 else if h.noTime then 3 else 1

/-- The state number of a slot (RSV_SLOT_STAT). -/
def Hw.slotCode (h : Hw) (s : Nat) : Nat :=
  match (h.rsvSlot s).phase with
  | .free => 0
  | .queued => if h.isParked (240 + s) then 7 else 2
  | .writing => if h.isParked (240 + s) then 7 else 6

/-- The live word of an RSV register for a reading master. -/
def Hw.viewRsv (h : Hw) (m k : Nat) : Word :=
  if k = RSV_STAT then
    BitVec.ofNat 32 (h.rsvState * 2 ^ 30 + h.rsvInFlight * 2 ^ 24 + h.allTokens.length * 2 ^ 11 + min 2047 h.rsv.poison.length)
  else if k = RSV_NOW then BitVec.ofNat 32 h.tick
  else if k = RSV_POOL then RSV_POOL.free.set 0 h.poolFree
  else if k = RSV_SUBMIT_RES then h.rsv.results.at m
  else if k = RSV_TOKQ_RES then
    let t := (h.reg RSV_TOKQ).toNat
    if h.inForce t then
      let r := h.rsv.toks.at (tokIdx t)
      let left := (h.rsv.entries.filter fun e => e.ofToken t && e.onSeg && !e.released).length
      BitVec.ofNat 32 (r.state * 2 ^ 29 + r.robot * 2 ^ 16 + r.elements * 2 ^ 8 + (r.elements - left))
    else 0
  else if k = RSV_TOKQ_LAST then
    let t := (h.reg RSV_TOKQ).toNat
    if h.inForce t then BitVec.ofNat 32 (h.rsv.toks.at (tokIdx t)).last else 0
  else if RSV_SLOT_STAT 0 ≤ k ∧ k < RSV_SLOT_STAT 32 then
    let s := (k - RSV_SLOT_STAT 0) / 8
    let q := h.rsvSlot s
    if (k - RSV_SLOT_STAT 0) % 8 = 0 then BitVec.ofNat 32 (h.slotCode s * 2 ^ 29 + q.op * 2 ^ 25 + q.robot * 2 ^ 16 + q.reqId)
    else BitVec.ofNat 32 ((if q.phase = .writing then 2 ^ 31 else 0) + q.committed.toNat * 2 ^ 30)
  else if RSV_RBT_STAT 1 ≤ k ∧ k < RSV_RBT_STAT 129 ∧ k % 8 = 4 then
    let r := (k - RSV_RBT_STAT 0) / 8
    let mine := h.rsv.entries.filter fun e => decide (e.robot = r)
    BitVec.ofNat 32 ((memb r h.rsv.barred).toNat * 2 ^ 31 + min 15 (h.robotTokens r).length * 2 ^ 24 +
      min 255 (mine.filter fun e => decide (e.token = 0)).length * 2 ^ 16 + min 65535 mine.length)
  else h.reg k

end Sys2Proof.Machine
end

