-- ==== Sys2Proof/Machine/Motion.lean ====
section
/-! DEFINITION. Seven-segment motion (R199–R202). Times are in ps, positions in 2^-20 of their unit; the specification computes in
binary64 with an order of operations it does not give, and the model computes in these fixed-point units (log entry 21). -/

namespace Sys2Proof.Machine

/-- One second in ps, one unit of position in fixed point. -/
def psSec : Nat := 1000000000000
def unitQ : Nat := 1048576

/-- The state of motion: position, speed and acceleration in fixed point. -/
structure Motion where
  s : Int
  v : Int
  a : Int
deriving DecidableEq, Repr, Inhabited

/-- The state within a phase, `t` ps after its start. -/
def phaseAt (p : Phase) (t : Nat) : Motion :=
  let u : Int := (psSec : Nat)
  let q : Int := (unitQ : Nat)
  { a := p.a + p.j * q * t / u
    v := p.v + p.a * t / u + p.j * q * t * t / (2 * u * u)
    s := p.s + p.v * t / u + p.a * t * t / (2 * u * u) + p.j * q * t * t * t / (6 * u * u * u) }

/-- The length of a list of phases in ps. -/
def totalTime (ps : List Phase) : Nat := ps.foldl (fun n p => n + p.dur) 0

/-- The state `t` ps into a list of phases, and whether it stands in a dwell; after the last phase it is at rest. -/
def motionAt : List Phase → Nat → Motion × Bool
  | [], _ => (default, false)
  | [p], t => if t < p.dur then (phaseAt p t, p.dwell) else ({ (phaseAt p p.dur) with v := 0, a := 0 }, false)
  | p :: q :: ps, t => if t < p.dur then (phaseAt p t, p.dwell) else motionAt (q :: ps) (t - p.dur)

/-- A transition from a state of motion to speed `v1` at zero acceleration (R199; from the current acceleration, R209, R218): its
phases of nonzero length, and the position at its end. `up` and `down` are the limits for rising and falling speed. -/
def transition (m : Motion) (v1 : Int) (up down jerk : Nat) : List Phase × Int :=
  let q : Int := (unitQ : Nat)
  let jj : Int := (max 1 jerk : Nat)
  let vz := m.v + m.a * m.a.natAbs / (2 * jj * q)
  if v1 = m.v ∧ m.a = 0 then ([], m.s)
  else
    let dir : Int := if v1 ≥ vz then 1 else -1
    let lim : Nat := max 1 (if v1 ≥ vz then up else down)
    let a' := dir * m.a
    let dv := dir * (v1 - m.v)
    let x := (jj * dv * q + a' * a' / 2).toNat
    let peak : Int := isqrt x
    let cap : Int := max ((lim : Int) * q) a'
    let apk := if peak ≤ cap then peak else cap
    let t1 := ((apk - a') * psSec / (jj * q)).toNat
    let t3 := (apk * psSec / (jj * q)).toNat
    let ta := if peak ≤ cap then 0
      else ((2 * jj * dv * q - (2 * cap * cap - a' * a')) * psSec / (2 * jj * cap * q)).toNat
    let p1 : Phase := ⟨t1, m.s, m.v, m.a, dir * jj, false⟩
    let e1 := phaseAt p1 t1
    let p2 : Phase := ⟨ta, e1.s, e1.v, dir * apk, 0, false⟩
    let e2 := phaseAt p2 ta
    let p3 : Phase := ⟨t3, e2.s, e2.v, dir * apk, -(dir * jj), false⟩
    let e3 := phaseAt p3 t3
    ([p1, p2, p3].filter fun p => decide (p.dur ≠ 0), e3.s)

/-- The distance of a transition. -/
def transDist (m : Motion) (v1 : Int) (up down jerk : Nat) : Int := (transition m v1 up down jerk).2 - m.s

/-- The largest number below `2^n + lo` for which a falling test holds, by halving from `lo`, where it holds. -/
def bisect (ok : Nat → Bool) : Nat → Nat → Nat
  | 0, lo => lo
  | n + 1, lo => bisect ok n (if ok (lo + 2 ^ n) then lo + 2 ^ n else lo)

/-! ### Point to point (R218, R219) -/

/-- A move from a state of motion to a position at rest: one curve where the position lies at or beyond the place where the machine
can stop, else a stop and a move back. -/
def moveTo (m : Motion) (target : Int) (vmax amax jmax : Nat) : List Phase :=
  let vm : Nat := vmax * unitQ
  let (stop, ps) := transition m 0 amax amax jmax
  let from0 := if m.v = 0 ∧ m.a = 0 then false else decide ((target < ps ∧ m.v > 0) ∨ (target > ps ∧ m.v < 0))
  let m' : Motion := if from0 then ⟨ps, 0, 0⟩ else m
  let pre := if from0 then stop else []
  let dir : Int := if target ≥ m'.s then 1 else -1
  let fits := fun (p : Nat) =>
    let (_, s1) := transition m' (dir * p) amax amax jmax
    let s2 := (transition ⟨s1, dir * p, 0⟩ 0 amax amax jmax).2
    decide (dir * s2 ≤ dir * target)
  let peak : Nat := if fits vm then vm else min vm (bisect fits 46 0)
  let (up, s1) := transition m' (dir * peak) amax amax jmax
  let (dn, s2) := transition ⟨s1, dir * peak, 0⟩ 0 amax amax jmax
  let rest : Nat := (dir * (target - s2)).toNat
  let cruise : List Phase := if peak = 0 ∨ rest = 0 then [] else [⟨rest * psSec / peak, s1, dir * peak, 0, 0, false⟩]
  let shift := dir * rest
  let last := dn.map fun p => { p with s := p.s + shift }
  pre ++ up ++ cruise ++ last

/-! ### Robot profiles (R200–R202) -/

/-- A robot's limits (LTH_RBT_LIM0–3): mm/s, mm/s², mm/s³, mm. -/
structure RbtLim where
  vmax : Nat
  amax : Nat
  dmax : Nat
  jmax : Nat
  aLat : Nat
  front : Nat
  rear : Nat
deriving DecidableEq, Repr, Inhabited

/-- A range of constant ceiling: its length in mm, its ceiling or plateau in fixed point, and the stop at its end: `none` for no
stop, else the element that stops there. -/
structure Range where
  len : Nat
  v : Nat
  stop : Option Nat
deriving DecidableEq, Repr, Inhabited

/-- The speed ceiling that a segment sets (R200). -/
def Seg.ceiling (g : Seg) (aLat : Nat) : Nat :=
  let byCurv := isqrt (aLat * 2 ^ 24 / g.curv.natAbs * unitQ * unitQ)
  if g.curv = 0 ∨ aLat = 0 then g.speed * unitQ else min (g.speed * unitQ) byCurv

/-- Insert a position into a sorted list without repeats. -/
def insertPos (x : Int) : List Int → List Int
  | [] => [x]
  | y :: ys => if x < y then x :: y :: ys else if x = y then y :: ys else y :: insertPos x ys

/-- The start of each element, and its end, in mm from the profile's start position. -/
def spans : Int → List Seg → List (Int × Int)
  | _, [] => []
  | s, g :: gs => (s, s + g.length) :: spans (s + g.length) gs

/-- Join neighbouring ranges of equal ceiling with no stop between them. -/
def joinRanges : List Range → List Range
  | r :: r' :: rs =>
    match joinRanges (r' :: rs) with
    | j :: js => if r.stop = none ∧ r.v = j.v then { j with len := r.len + j.len } :: js else r :: j :: js
    | [] => [r]
  | rs => rs

/-- The ranges between the break points (R200, R201). -/
def rangesOf (lim : RbtLim) (gs : List Seg) (sp : List (Int × Int)) (stops : List (Int × Nat)) : List Int → List Range
  | x :: y :: xs =>
    let c := (gs.zip sp).foldl (fun c (g, s, e) =>
      if s - lim.front ≤ x ∧ y ≤ e + lim.rear then min c (g.ceiling lim.aLat) else c) (lim.vmax * unitQ)
    ⟨(y - x).toNat, c, (stops.find? fun p => decide (p.1 = y)).map (·.2)⟩ :: rangesOf lim gs sp stops (y :: xs)
  | _ => []

/-- The speed at which a range is left: 0 at a stop, else the lower of its plateau and the next one's. -/
def exitSpeed (r : Range) (next : Option Range) : Nat :=
  if r.stop.isSome then 0 else match next with
    | none => 0
    | some n => min r.v n.v

/-- Whether both transitions of a range fit at plateau `p` (R201). `m` is the state at its start, its speed lowered to `p` where the
range before may be lowered with it. -/
def fitsAt (lim : RbtLim) (m : Motion) (free : Bool) (len : Nat) (out : Nat) (p : Nat) : Bool :=
  let m := if free then { m with v := min m.v p } else m
  let d1 := transDist m p lim.amax lim.dmax lim.jmax
  let d2 := transDist ⟨0, p, 0⟩ (min out p : Nat) lim.amax lim.dmax lim.jmax
  decide (d1 + d2 ≤ (len * unitQ : Nat))

/-- The highest plateau at which a range's transitions fit (R201): its present one, else the highest whole mm/s, else, below 1 mm/s
or at the start speed, the highest exactly; `none` where there is none. -/
def lowered (lim : RbtLim) (m : Motion) (free : Bool) (r : Range) (out : Nat) : Option Nat :=
  let ok := fitsAt lim m free r.len out
  if ok r.v then some r.v
  else
    let whole := bisect (fun n => decide (n * unitQ ≤ r.v) && ok (n * unitQ)) 17 0
    if whole ≥ 1 ∧ ok (whole * unitQ) then some (whole * unitQ)
    else if ¬free ∧ m.v > 0 then (if ok m.v.toNat ∧ m.v.toNat ≤ r.v then some m.v.toNat else none)
    else
      let fine := bisect ok 20 0
      if fine ≥ 1 then some fine else none

/-- One forward pass over the ranges: each plateau is lowered as far as it must be. `prev` is the plateau before, `none` at the
start or after a stop; `m` is the state at the start. -/
def forwardPass (lim : RbtLim) : Motion → Option Nat → List Range → Option (List Range)
  | _, _, [] => some []
  | m, prev, r :: rs =>
    let start : Motion := match prev with
      | some p => ⟨0, (min p r.v : Nat), 0⟩
      | none => m
    match lowered lim start prev.isSome r (exitSpeed r rs.head?) with
    | none => none
    | some v =>
      match forwardPass lim ⟨0, 0, 0⟩ (if r.stop.isSome then none else some v) rs with
      | none => none
      | some rest => some ({ r with v := v } :: rest)

/-- One backward pass: from the last range to the first. -/
def backwardPass (lim : RbtLim) (m0 : Motion) : Option Range → List Range → Option (List Range)
  | _, [] => some []
  | before, r :: rs =>
    match backwardPass lim m0 (some r) rs with
    | none => none
    | some rest =>
      let start : Motion × Bool := match before with
        | none => (m0, false)
        | some b => if b.stop.isSome then (⟨0, 0, 0⟩, false) else (⟨0, (min b.v r.v : Nat), 0⟩, true)
      match lowered lim start.1 start.2 r (exitSpeed r rest.head?) with
      | none => none
      | some v => some ({ r with v := v } :: rest)

/-- Lower plateaus, a backward pass and then a forward pass, until none changes (R201). -/
def settleRanges (lim : RbtLim) (m0 : Motion) : Nat → List Range → Option (List Range)
  | 0, rs => some rs
  | fuel + 1, rs =>
    match backwardPass lim m0 none rs with
    | none => none
    | some b =>
      match forwardPass lim m0 none b with
      | none => none
      | some f => if f = rs then some f else settleRanges lim m0 fuel f

/-- What the phases of a path gather: the phases, and the ticks that negotiated dwells add. -/
abbrev Built := List Phase × Nat

/-- The phases of the settled ranges (R201), from a state of motion and a time in ps since the start: each range's transition,
cruise and transition, then the dwell of a stop. `dwell` gives an element's own dwell in ps and the end of its negotiated
one, in ps since the start. -/
def buildPhases (lim : RbtLim) (dwell : Nat → Nat × Option Nat) : Motion → Nat → List Range → Built
  | _, _, [] => ([], 0)
  | m, t, r :: rs =>
    let out := exitSpeed r rs.head?
    let (up, s1) := transition m r.v lim.amax lim.dmax lim.jmax
    let (dn, s2) := transition ⟨s1, r.v, 0⟩ (min out r.v : Nat) lim.amax lim.dmax lim.jmax
    let goal := m.s + (r.len * unitQ : Nat)
    let rest := (goal - s2).toNat
    let cruise : List Phase := if r.v = 0 ∨ rest = 0 then [] else [⟨rest * psSec / r.v, s1, r.v, 0, 0, false⟩]
    let here := up ++ cruise ++ dn.map fun p => { p with s := p.s + rest }
    let t1 := t + totalTime here
    let (hold, added) : List Phase × Nat := match r.stop with
      | none => ([], 0)
      | some i =>
        let (own, till) := dwell i
        let extra := match till with
          | none => 0
          | some e => (e - t1) - own
        ((if own + extra = 0 then [] else [⟨own + extra, goal, 0, 0, 0, true⟩]), (extra + 9999999999) / 10000000000)
    let (more, add) := buildPhases lim dwell ⟨goal, (min out r.v : Nat), 0⟩ (t1 + totalTime hold) rs
    (here ++ hold ++ more, added + add)

/-- The first time in ps at which the position exceeds `x` (fixed point), in a list of phases. -/
def crossTime (x : Int) : Nat → List Phase → Option Nat
  | _, [] => none
  | t, p :: ps =>
    if (phaseAt p p.dur).s > x then
      let below := fun (n : Nat) => decide (n ≤ p.dur ∧ (phaseAt p n).s ≤ x)
      some (t + (if (phaseAt p 0).s > x then 0 else bisect below 60 0 + 1))
    else crossTime x (t + p.dur) ps

/-- A time in ps rounded to the µs that outputs are quantised to (R199), then to ticks of 10 ms: down for an in, up for an out. -/
def usOf (t : Nat) : Nat := (t + 500000) / 1000000
def inTick (t : Nat) : Nat := usOf t / 10000
def outTick (t : Nat) : Nat := (usOf t + 9999) / 10000

end Sys2Proof.Machine
end

