-- ==== Sys2Proof/Machine/Lathe.lean ====
section
/-! DEFINITION. Lathe's requests, the negotiate loop and robot profiles (R200–R210, R213, R225, R226). -/

namespace Sys2Proof

namespace Machine

open Reg

/-! ### Slots and parameters -/

/-- Change Lathe. -/
def Hw.updLth (h : Hw) (g : LthSt → LthSt) : Hw := { h with lth := g h.lth }

/-- A computation slot. -/
def Hw.lthSlot (h : Hw) (s : Nat) : LthSlot := h.lth.slots.at s

/-- Change a computation slot. -/
def Hw.updLthSlot (h : Hw) (s : Nat) (g : LthSlot → LthSlot) : Hw :=
  h.updLth fun l => { l with slots := l.slots.upd s g }

/-- A robot's limits (LTH_RBT_LIM0–3). -/
def Hw.rbtLim (h : Hw) (r : Nat) : RbtLim :=
  { vmax := h.f (LTH_RBT_LIM0 r) LTH_RBT_LIM0.vmax, amax := h.f (LTH_RBT_LIM0 r) LTH_RBT_LIM0.amax,
    dmax := h.f (LTH_RBT_LIM1 r) LTH_RBT_LIM1.dmax, jmax := 10 * h.f (LTH_RBT_LIM1 r) LTH_RBT_LIM1.jmax,
    aLat := h.f (LTH_RBT_LIM2 r) LTH_RBT_LIM2.a_lat, front := h.f (LTH_RBT_LIM3 r) LTH_RBT_LIM3.front_mm,
    rear := h.f (LTH_RBT_LIM3 r) LTH_RBT_LIM3.rear_mm }

/-- The lead in ticks, the round limit and kf_repeat (LTH_CFG; 0 acts as 1). -/
def Hw.leadMin (h : Hw) : Nat := max 1 (h.f LTH_CFG LTH_CFG.lead_min)
def Hw.roundLimit (h : Hw) : Nat := max 1 (h.f LTH_CFG LTH_CFG.rounds)
def Hw.kfRepeat (h : Hw) : Nat := max 1 (h.f LTH_CFG LTH_CFG.kf_repeat)

/-- One tick in ns. -/
def tickNs : Nat := 10000000

/-- The ns of site time at which a tick begins, of the ticks nearest the present one (R176). -/
def Hw.tickStart (h : Hw) (t : Nat) : Nat :=
  let now := h.now / tickNs
  let d := (t + 2 ^ 32 - now % 2 ^ 32) % 2 ^ 32
  (if d < 2 ^ 31 then now + d else now + d - 2 ^ 32) * tickNs

/-- The tick of a time in ns. -/
def tickOfNs (t : Nat) : Nat := t / tickNs % 2 ^ 32

/-- A robot's active and pending profiles. -/
def Hw.activeProf (h : Hw) (r : Nat) : Option Profile := h.lth.active.at r
def Hw.pendingProf (h : Hw) (r : Nat) : Option Profile := h.lth.pending.at r

/-- Set a robot's profiles, with the mirror record (R225, R277). -/
def Hw.setProfs (h : Hw) (r : Nat) (a p : Option Profile) : Hw :=
  (h.updLth fun l => { l with active := l.active.set r a, pending := l.pending.set r p }).mirror (.lathe r a p)

end Machine

open Machine

/-- The state of a profile at a time: of its prefix before its own start, if it has one, else the state it starts in (R209, R210). -/
def Profile.motion (p : Profile) (now : Nat) : Motion × Bool :=
  if now ≥ p.startNs then motionAt p.phases ((now - p.startNs) * 1000)
  else if p.prior.isEmpty then (⟨0, (p.v0 * unitQ : Nat), 0⟩, false)
  else
    let (m, d) := motionAt p.prior ((now - p.priorStart) * 1000)
    ({ m with s := m.s - p.priorPos }, d)

/-- The element that contains a position (fixed point) of a profile. -/
def Profile.element (p : Profile) (s : Int) : Nat :=
  match p.ends.findIdx? fun e => decide (s < e * (unitQ : Nat)) with
  | some i => i
  | none => p.ends.length - 1

/-- A profile moves from its start until its arrival, less its dwells (R210). -/
def Profile.moving (p : Profile) (now : Nat) : Bool :=
  if now ≥ p.startNs then decide ((now - p.startNs) * 1000 < p.arrive) && !(p.motion now).2
  else if p.prior.isEmpty then decide (p.v0 > 0) else !(p.motion now).2 && decide ((p.motion now).1.v ≠ 0)

/-- The tick of a profile's arrival (R202). -/
def Profile.arriveTick (p : Profile) : Nat := (tickOfNs p.startNs + outTick p.arrive) % 2 ^ 32

namespace Machine

open Reg

/-! ### Computing a profile (R200–R202) -/

/-- A profile's windows: segment, in and out in ticks after the start tick (R202). -/
def windowsOf (lim : RbtLim) (park arrive : Nat) (phases : List Phase) (first0 : Nat) :
    Nat → List (Nat × Int × Int) → List (Nat × Nat × Nat)
  | _, [] => []
  | i, (seg, s, e) :: rest =>
    let q : Int := (unitQ : Nat)
    let lastOut := outTick arrive + park
    let tin := if i = 0 then first0 else ((crossTime ((s - lim.front) * q) 0 phases).map inTick).getD 0
    let tout := if rest.isEmpty then lastOut else ((crossTime ((e + lim.rear) * q) 0 phases).map outTick).getD lastOut
    (seg, tin, max tout (tin + 1)) :: windowsOf lim park arrive phases first0 (i + 1) rest

/-- What a computation gives: the profile's phases, its arrival in ps, the ticks negotiation added, or an infeasible result. -/
def computePhases (lim : RbtLim) (gs : List Seg) (q : LthSlot) : Option (List Phase × Nat × Nat) :=
  let sp := spans (-(q.startOfs : Int)) gs
  let n := gs.length
  let endPos : Int := match sp.getLast?, q.elems.getLast? with
    | some (s, e), some l => if l.endOfs = 0 then e - lim.front else s + l.endOfs
    | _, _ => 0
  let idx := (List.range n).zip (q.elems.zip (gs.zip sp))
  let marked := fun (l : LthElem) => l.stop || decide (l.dwell ≠ 0) || l.till.isSome
  let noStop := idx.any fun (i, l, g, _) =>
    decide (g.length < lim.front) && ((marked l && decide (i + 1 < n)) || (decide (i + 1 = n) && decide (l.endOfs = 0)))
  let stops : List (Int × Nat) := (idx.filterMap fun (i, l, _, _, e) =>
    if marked l ∧ i + 1 < n then some (e - lim.front, i) else none) ++ [(endPos, n - 1)]
  let bad := noStop || stops.any fun p => decide (p.1 < 0 ∨ (p.1 = 0 ∧ (q.v0 ≠ 0 ∨ q.a0 ≠ 0)))
  if bad ∨ n = 0 then none
  else
    let cuts := (idx.flatMap fun (_, _, _, s, e) => [s - (lim.front : Int), e + (lim.rear : Int)]) ++ stops.map (·.1)
    let cuts := (cuts.filter fun x => decide (0 < x ∧ x < endPos)).foldl (fun l x => insertPos x l)
      (if endPos = 0 then [0] else [0, endPos])
    let ranges := joinRanges (rangesOf lim gs sp stops cuts)
    let m0 : Motion := ⟨0, q.v0, q.a0⟩
    let overCeiling := match ranges.head? with
      | some r => decide (q.v0 > (r.v : Int))
      | none => false
    if overCeiling then none
    else match settleRanges lim m0 (8 * ranges.length + 8) ranges with
      | none => none
      | some rs =>
        let dwell := fun (i : Nat) => match q.elems[i]? with
          | some l => (l.dwell * 100000000000, l.till.map fun t => (t - q.startNs) * 1000)
          | none => (0, none)
        let start := match stops.find? fun p => decide (p.1 = 0) with
          | some (_, i) => if ranges.isEmpty ∨ i + 1 < n then (buildPhases lim dwell m0 0 [⟨0, 0, some i⟩]) else ([], 0)
          | none => ([], 0)
        let (ps, added) := buildPhases lim dwell m0 (totalTime start.1) rs
        let all := start.1 ++ ps
        some (all, totalTime all, start.2 + added)

/-! ### Ending a request (R208, R213) -/

/-- The 32 octets of a response (R208). -/
def lthResponse (q : LthSlot) : List Byte :=
  let x := q.result
  leBytes 1 x.status ++ leBytes 1 x.rsvStatus ++ leBytes 1 q.robot ++ leBytes 1 x.rounds ++ leBytes 4 x.token ++
    leBytes 4 x.first ++ leBytes 4 x.last ++ leBytes 4 x.arrive ++ leBytes 2 (min 65535 x.dwell) ++ leBytes 1 x.index ++
    leBytes 1 x.holder ++ leBytes 4 x.offer ++ leBytes 2 q.reqId ++ leBytes 2 0

/-- A response's fields, with free values in those that R208 gives no meaning: the windows and the arrival where no profile was
computed, the last conflict where none was met, its offer where there was none (log entry 86). -/
def Hw.openLth (h : Hw) (q : LthSlot) : LthSlot :=
  let x := q.result
  let some_ := q.prof.isSome
  { q with result := { x with
    first := if some_ then x.first else h.freeAt 0
    last := if some_ then x.last else h.freeAt 1
    arrive := if some_ then x.arrive else h.freeAt 2
    index := if x.clash then x.index else h.freeAt 3
    holder := if x.clash then x.holder else h.freeAt 4
    offer := if x.offered then x.offer else h.freeAt 5 } }

/-- The octets a slot writes: the response and, for PROFILE that ended ok, the windows (R205), the first one from the tick that the response
gives as its in (R209). -/
def LthSlot.output (q : LthSlot) : List Byte :=
  lthResponse q ++ (if q.op = 3 ∧ q.result.status = 0 then
    ((List.range q.windows.length).zip q.windows).flatMap fun (i, _, a, b) =>
      leBytes 4 (if i = 0 then q.result.first else (tickOfNs q.startNs + a) % 2 ^ 32) ++ leBytes 4 ((tickOfNs q.startNs + b) % 2 ^ 32)
  else [])

/-- The counters and interrupt bits of a request's end. -/
def Hw.countLth (h : Hw) (s st : Nat) : Hw :=
  if st = 0x01 ∨ st = 0x0A then
    let h := h.bump LTH_ERR LTH_ERR.refused LTH_ERR.refused_sat
    if st = 0x01 then h.raise LTH_IRQ_STAT LTH_IRQ_STAT.refused s else h
  else if st = 0x02 then
    (h.bump LTH_ERR LTH_ERR.exhausted LTH_ERR.exhausted_sat).raise LTH_IRQ_STAT LTH_IRQ_STAT.exhausted s
  else h

/-- A slot is free; the robot's next request, if one waits, computes (R204). -/
def Hw.lthFree (h : Hw) (s : Nat) : Hw :=
  let r := (h.lthSlot s).robot
  let h := (h.updLth fun l => { l with slots := l.slots.set s default }).unitNormal (192 + s)
  let waiting := (List.range 48).filter fun o =>
    decide ((h.lthSlot o).phase = .waiting ∧ (h.lthSlot o).robot = r)
  let busy := (List.range 48).any fun o =>
    decide ((h.lthSlot o).phase ≠ .free ∧ (h.lthSlot o).phase ≠ .waiting ∧ (h.lthSlot o).robot = r)
  match waiting.foldl (fun best o => match best with
      | none => some o
      | some b => if (h.lthSlot o).order < (h.lthSlot b).order then some o else some b) none with
  | some o => if busy then h else h.updLthSlot o fun q => { q with phase := .computing }
  | none => h

/-- Write a slot's response; then its token's validity, its completion token and the interrupt (R208, R180). -/
def Hw.lthRespond (h : Hw) (s : Nat) : Hw :=
  let q := h.lthSlot s
  let (h, _, err) := (h.useFree 6).writeCtx q.ctx q.resp (h.openLth q).output
  match err with
  | some (.fault a k) => h.park (192 + s) q.ctx a true k
  | _ =>
    let h := h.countLth s q.result.status
    let h := if q.committed then h.startValidity q.result.token else h
    let h := if bit q.flags 0 then h.token q.handle (decide (q.result.status ≠ 0)) else h
    let h := if bit q.flags 1 then h.raise LTH_IRQ_STAT LTH_IRQ_STAT.response s else h
    h.lthFree s

/-- End a slot's request with a status, the other response fields as they stand. -/
def Hw.lthEnd (h : Hw) (s st : Nat) : Hw :=
  (h.updLthSlot s fun q => { q with phase := .writing, result := { q.result with status := st } }).lthRespond s

/-! ### Taking requests (R203) -/

/-- A request's elements as its packet gives them. -/
def lthElems (count : Nat) (b : List Byte) : List LthElem :=
  (List.range count).map fun i =>
    let o := 32 + 8 * i
    { seg := fieldAt b o 2, stop := bit (fieldAt b (o + 2) 1) 0, dwell := fieldAt b (o + 3) 1, endOfs := fieldAt b (o + 4) 4,
      till := none }

/-- The fields of a request packet's header are well formed (R203). -/
def lthHeaderOk (b : List Byte) : Bool :=
  let op := fieldAt b 0 1
  let count := fieldAt b 3 1
  let flags := fieldAt b 1 1
  decide (flags < 32) && decide (1 ≤ fieldAt b 2 1 ∧ fieldAt b 2 1 ≤ 128) &&
    (if op = 4 then decide (count = 0) else decide (1 ≤ count ∧ count ≤ 64)) && decide (fieldAt b 4 1 < 64) &&
    decide (fieldAt b 5 1 < 16) && (bit flags 2 || zeroAt b 12 4) && decide (fieldAt b 16 8 % 32 = 0) && zeroAt b 30 2 &&
    (List.range count).all fun i => decide (fieldAt b (32 + 8 * i + 2) 1 < 2) &&
      (decide (i + 1 = count) || zeroAt b (32 + 8 * i + 4) 4)

/-- The graph checks of a request (R203). -/
def Hw.lthPathOk (h : Hw) (q : LthSlot) : Bool :=
  let gs := q.elems.map fun l => h.seg l.seg
  let lim := h.rbtLim q.robot
  let joins := ((gs.zip (gs.drop 1)).all fun (a, b) => decide (a.toNode = b.fromNode))
  let endOk := match gs.getLast?, q.elems.getLast? with
    | some g, some l => decide (l.endOfs = 0 ∨ l.endOfs + lim.front ≤ g.length)
    | _, _ => true
  let startOk := match gs.head? with
    | some g => bit q.flags 4 || decide (q.startOfs < g.length)
    | none => true
  (q.elems.all fun l => decide (l.seg < h.rsv.segCount) && (h.seg l.seg).valid) && joins && endOk && startOk

/-- Take a request packet into a slot, or discard it (R203, R204). -/
def Hw.lthTake (h : Hw) : Hw :=
  let f := h.f LTH_CFG LTH_CFG.req_fifo
  match (List.range 48).find? fun s => decide ((h.lthSlot s).phase = .free) with
  | none => h
  | some s =>
    if ¬h.flag LTH_CFG LTH_CFG.enable then h
    else match h.takePacket f 512 with
      | none => h
      | some (p, _, h) =>
        let b := p.octets
        if p.abort ∨ b.length < 32 then h.bump LTH_ERR LTH_ERR.refused LTH_ERR.refused_sat
        else
          let op := fieldAt b 0 1
          let r := fieldAt b 2 1
          let busy := (List.range 48).any fun o => decide ((h.lthSlot o).phase ≠ .free ∧ (h.lthSlot o).robot = r)
          let q : LthSlot := { (default : LthSlot) with
            phase := if busy then .waiting else .computing
            order := h.lth.taken, reqId := h.lth.nextReq, op := op, flags := fieldAt b 1 1, robot := r,
            count := fieldAt b 3 1, ctx := fieldAt b 4 1 % 64,
            limit := if op = 1 then 1 else if fieldAt b 5 1 % 16 = 0 then h.roundLimit else fieldAt b 5 1 % 16,
            handle := fieldAt b 6 2, startTick := fieldAt b 8 4, oldToken := fieldAt b 12 4, resp := fieldAt b 16 8,
            startOfs := fieldAt b 24 4, v0 := (fieldAt b 28 2 * unitQ : Nat), elems := lthElems (fieldAt b 3 1) b }
          let h := h.updLth fun l => { l with
            slots := l.slots.set s q, taken := l.taken + 1, nextReq := (l.nextReq + 1) % 65536 }
          if op = 0 ∨ op > 4 then h.lthEnd s 0x01
          else if b.length ≠ 32 + 8 * fieldAt b 3 1 ∨ ¬lthHeaderOk b then h.lthEnd s 0x06
          else h

/-! ### Fixing the start (R204, R209) -/

/-- The robot's latest profile, the base of a chain (R209). -/
def Hw.latestProf (h : Hw) (r : Nat) : Option Profile :=
  match h.pendingProf r with
  | some p => some p
  | none => h.activeProf r

/-- Fix a request's start: its time, offset and speed, or the status that ends it (R204, R209). -/
def Hw.fixStart (h : Hw) (q : LthSlot) : Except Nat LthSlot :=
  let now := h.now / tickNs
  let earliest := (now + h.leadMin) * tickNs
  let given := h.tickStart q.startTick
  let chain := bit q.flags 4
  let fromProfile := bit q.flags 3
  if chain then
    match h.latestProf q.robot with
    | none => .error 0x08
    | some p =>
      if (q.elems.head?.map (·.seg)) ≠ p.segs.getLast? then .error 0x08
      else
        let arrive := h.tickStart p.arriveTick
        let soonest := max arrive earliest
        if q.startTick ≠ 0 ∧ given < soonest then .error 0x09
        else
          let lastStart : Int := match p.ends.length with
            | 0 => 0
            | 1 => -(p.startOfs : Int)
            | n + 2 => p.ends.getD n 0
          let endPos := (motionAt p.phases (totalTime p.phases)).1.s / (unitQ : Nat)
          .ok { q with startNs := if q.startTick = 0 then soonest else given, startOfs := (endPos - lastStart).toNat,
                       v0 := 0, a0 := 0, fixed := true }
  else
    let free := decide (q.v0 = 0) && !fromProfile
    if (q.startTick = 0 ∨ given < earliest) ∧ ¬free then .error 0x09
    else
      let start := if q.startTick = 0 ∨ given < earliest then earliest else given
      if fromProfile then
        match h.activeProf q.robot with
        | none => .error 0x08
        | some p =>
          let m := (p.motion start).1
          let i := p.element m.s
          if p.token ≠ q.oldToken ∨ ¬bit q.flags 2 ∨ p.element (p.motion h.now).1.s ≠ i ∨
              (q.elems.head?.map (·.seg)) ≠ p.segs[i]? then .error 0x08
          else
            let elemStart : Int := match i with
              | 0 => -(p.startOfs : Int)
              | k + 1 => p.ends.getD k 0
            .ok { q with startNs := start, startOfs := (m.s / (unitQ : Nat) - elemStart).toNat, v0 := m.v, a0 := m.a,
                         fixed := true }
      else .ok { q with startNs := start, fixed := true }

/-! ### Computing and reserving (R205, R206) -/

/-- The phases that a from_profile request carries as its prefix: those of the profile replaced, with its start and the position
of the new start on it (R209). -/
def Hw.prefixOf (h : Hw) (q : LthSlot) : List Phase × Nat × Int :=
  if bit q.flags 3 then
    match h.activeProf q.robot with
    | some p => (p.phases, p.startNs, (p.motion q.startNs).1.s)
    | none => ([], 0, 0)
  else ([], 0, 0)

/-- Compute a slot's profile and windows (R201, R202); `none` is infeasible. -/
def Hw.lthCompute (h : Hw) (q : LthSlot) : Option LthSlot :=
  let lim := h.rbtLim q.robot
  let gs := q.elems.map fun l => h.seg l.seg
  if lim.vmax = 0 ∨ lim.amax = 0 ∨ lim.dmax = 0 ∨ lim.jmax = 0 then none
  else match computePhases lim gs q with
    | none => none
    | some (ps, arrive, added) =>
      let sp := spans (-(q.startOfs : Int)) gs
      let start := q.startNs / tickNs
      let ws := windowsOf lim (h.f LTH_CFG2 LTH_CFG2.park_ticks) arrive ps 0 0
        ((q.elems.zip sp).map fun (l, s, e) => (l.seg, s, e))
      let (pp, pStart, pPos) := h.prefixOf q
      let prof : Profile :=
        { token := 0, robot := q.robot, startNs := q.startNs, segs := q.elems.map (·.seg), startOfs := q.startOfs,
          ends := sp.map (·.2), v0 := (q.v0 / (unitQ : Nat)).toNat, phases := ps, arrive := arrive, prior := pp,
          priorStart := pStart, priorPos := pPos, frames := 0, finals := 0 }
      let first := if bit q.flags 3 then h.tick else (start + (ws.head?.map (·.2.1)).getD 0) % 2 ^ 32
      let last := (start + (ws.getLast?.map (·.2.2)).getD 0) % 2 ^ 32
      some { q with
        prof := some prof
        windows := ws
        result := { q.result with first := first, last := last, arrive := prof.arriveTick, dwell := added } }

/-- The path passed to the reservation engine, with its base tick: a from_profile request's first window opens at the current tick
(R209). -/
def Hw.askPath (h : Hw) (q : LthSlot) : Nat × List (Nat × Nat × Nat) :=
  if bit q.flags 3 then
    let d := q.startNs / tickNs - h.now / tickNs
    (h.tick, ((List.range q.windows.length).zip q.windows).map fun (i, s, a, b) => (s, if i = 0 then 0 else a + d, b + d))
  else (tickOfNs q.startNs, q.windows)

/-- Pass a slot's windows to the reservation engine: a request slot, a busy refusal that is retried, or an outcome that ends the
request (R205). -/
def Hw.lthAsk (h : Hw) (s : Nat) : Hw :=
  let q := h.lthSlot s
  let refused := fun (h : Hw) =>
    (h.bump RSV_ERR RSV_ERR.refused RSV_ERR.refused_sat).raise RSV_IRQ_STAT RSV_IRQ_STAT.refused 0
  if ¬h.acts ∨ ¬h.flag RSV_CFG RSV_CFG.enable then
    ((refused h).updLthSlot s fun q => { q with result := { q.result with rsvStatus := 0 } }).lthEnd s 0x01
  else match h.freeSlot with
    | none =>
      let since := q.busySince.getD h.now
      (refused h).updLthSlot s fun q => { q with phase := .reserving, rsvSlot := none, busySince := some since }
    | some rs =>
      let (base, path) := h.askPath q
      let ask : RsvSlot := { (default : RsvSlot) with
        op := if bit q.flags 2 then 3 else 1, robot := q.robot, count := path.length, arg := base, oldToken := q.oldToken,
        lathe := true, path := path }
      (h.takeSlot rs ask).updLthSlot s fun q => { q with phase := .reserving, rsvSlot := some rs, busySince := none }

/-- One computation, then the reservation request (R205, R206). `st` is the status of an infeasible profile. -/
def Hw.lthRound (h : Hw) (s st : Nat) : Hw :=
  match h.lthCompute (h.lthSlot s) with
  | none => h.lthEnd s st
  | some q =>
    (h.updLthSlot s fun _ => { q with result := { q.result with rounds := q.result.rounds + 1 } }).lthAsk s

/-- Begin a request of a path: checks, start, first round (R203–R206); PROFILE ends after its computation. -/
def Hw.lthBegin (h : Hw) (op s : Nat) : Hw :=
  let q := h.lthSlot s
  if q.op ≠ op ∨ h.isParked (192 + s) then h
  else if q.phase = .writing then h.lthRespond s
  else if q.phase ≠ .computing then h
  else if ¬h.lthPathOk q then h.lthEnd s 0x06
  else match h.fixStart q with
    | .error st => h.lthEnd s st
    | .ok q' =>
      if op = 3 then
        match h.lthCompute q' with
        | none => h.lthEnd s 0x05
        | some q'' => (h.updLthSlot s fun _ => q'').lthEnd s 0
      else (h.updLthSlot s fun _ => q').lthRound s 0x05

/-- A committed profile takes its place: active, or pending with chain; or the robot is busy (R209). Of a profile replaced, the pending
successor stays while its token is in force (R210). -/
def Hw.lthCommit (h : Hw) (s token : Nat) : Hw :=
  let q := h.lthSlot s
  let r := q.robot
  let chain := bit q.flags 4
  let replace := bit q.flags 2
  let busy := match h.activeProf r with
    | some p => !chain && !replace && h.tokenValid p.token
    | none => false
  let busy := busy || (chain && (h.pendingProf r).isSome)
  if busy then (h.revokeToken token false h.tick).lthEnd s 0x07
  else
    let prof := q.prof.map fun p => { p with token := token }
    let h := if chain ∧ (h.activeProf r).isSome then h.setProfs r (h.activeProf r) prof
      else h.setProfs r prof (if replace then (h.pendingProf r).filter fun n => h.inForce n.token else h.pendingProf r)
    (h.updLthSlot s fun q => { q with committed := true, result := { q.result with token := token } }).lthEnd s 0

/-- Amend a request after a conflict with an offer (R206): `none` where the machine cannot stop. -/
def Hw.amendSlot (h : Hw) (q : LthSlot) (k offer : Nat) : Option LthSlot :=
  let at' := h.tickStart offer
  match k with
  | 0 => if q.v0 = 0 then some { q with startNs := at' } else none
  | j + 1 =>
    let g := q.elems.mapIdx fun i l =>
      if i = j then { l with stop := true, till := some (match l.till with | some t => max t at' | none => at') } else l
    some { q with elems := g }

/-- The reservation engine's answer to a slot's request (R207). -/
def Hw.lthAnswer (h : Hw) (s : Nat) (x : RsvResult) : Hw :=
  let h := h.updLthSlot s fun q => { q with
    rsvSlot := none
    result := { q.result with
      rsvStatus := x.status
      first := if x.status = 0 then x.first else q.result.first
      last := if x.status = 0 then x.last else q.result.last
      index := if x.status = 1 then x.index else q.result.index
      holder := if x.status = 1 then x.holder else q.result.holder
      clash := q.result.clash || decide (x.status = 1)
      offered := if x.status = 1 then x.offerValid else q.result.offered
      offer := if x.status = 1 ∧ x.offerValid then x.offer else q.result.offer } }
  let q := h.lthSlot s
  let more := decide (q.result.rounds < q.limit)
  if x.status = 0 then h.lthCommit s x.token
  else if x.status = 1 ∧ ¬x.offerValid then h.lthEnd s 0x03
  else if x.status = 1 then
    if ¬more then h.lthEnd s 0x02
    else match h.amendSlot q x.index x.offer with
      | none => h.lthEnd s 0x04
      | some q' => (h.updLthSlot s fun _ => q').lthRound s 0x04
  else if x.status = 3 ∧ q.op = 2 ∧ more then h.lthRound s 0x05
  else h.lthEnd s 0x01

/-- The check unit tests Lathe's request in a request slot and answers it (R183, R207). -/
def Hw.lthTested (h : Hw) (s : Nat) : Hw :=
  match (h.lthSlot s).rsvSlot with
  | none => h
  | some rs =>
    if ¬h.slotTurn rs then h
    else
      let r := h.rsvSlot rs
      let es := r.path.map fun (g, a, b) => ({ seg := g, tin := a, tout := b, zero := true } : Elem)
      let (h, x) := h.rsvDecide ⟨r.op, r.robot, false, r.arg, es, r.oldToken⟩
      ((h.countStatus x.status).slotFree rs).lthAnswer s x

/-- CANCEL: both profiles end, their tokens are revoked with holds (R205). -/
def Hw.lthCancel (h : Hw) (s : Nat) : Hw :=
  let q := h.lthSlot s
  if q.op ≠ 4 ∨ h.isParked (192 + s) then h
  else if q.phase = .writing then h.lthRespond s
  else if q.phase ≠ .computing then h
  else
    let toks := ([h.activeProf q.robot, h.pendingProf q.robot].filterMap fun p => p.map (·.token))
    let h := h.setProfs q.robot none none
    let h := toks.foldl (fun h t => h.revokeToken t true h.tick) h
    h.lthEnd s 0

/-- A parked slot is aborted, or its park times out: a token committed in the request is revoked without holds (R213). -/
def Hw.lthAbort (h : Hw) (s st : Nat) : Hw :=
  let q := h.lthSlot s
  if q.phase = .free then h
  else
    let h := if q.committed then
        let t := q.result.token
        let drop := fun (p : Option Profile) => p.filter fun x => decide (x.token ≠ t)
        ((h.dropToken t).mirrorRsv (.drop t)).setProfs q.robot (drop (h.activeProf q.robot)) (drop (h.pendingProf q.robot))
      else h
    let h := h.countLth s st
    let h := if bit q.flags 0 then h.token q.handle true else h
    h.lthFree s

/-- A profile ends; its pending successor becomes active, or ends with it if its token is no longer valid (R209, R210). -/
def Hw.profileEnd (h : Hw) (r : Nat) : Hw :=
  match h.activeProf r with
  | none => h
  | some p =>
    let lost := decide (h.inForce p.token = false) ||
      (decide ((h.rsv.toks.at (tokIdx p.token)).state = 2) && !h.tokenValid p.token)
    let done := decide (p.finals ≥ h.kfRepeat)
    if ¬lost ∧ ¬done then h
    else
      let next := h.pendingProf r
      let next := if lost then next.filter fun n => h.inForce n.token else next
      let h := h.setProfs r next none
      if lost then h.raise LTH_IRQ_STAT LTH_IRQ_STAT.ended r else h

/-- Any fleet profile is active or pending (R226). -/
def Hw.anyProfile (h : Hw) : Bool := (h.lth.active ++ h.lth.pending).any fun p => p.2.isSome

/-! ### The commands -/

/-- LTH_REQUEST (R203, R204). -/
def execLthRequest (s : State) : Host.Outcome State Fault Refusal := run s Hw.lthTake

/-- PLAN (R205). -/
def execPlan (slot : Fin 48) (s : State) : Host.Outcome State Fault Refusal := run s fun h => h.lthBegin 1 slot.val

/-- NEGOTIATE (R205, R206). -/
def execNegotiate (slot : Fin 48) (s : State) : Host.Outcome State Fault Refusal := run s fun h => h.lthBegin 2 slot.val

/-- NEGOTIATE_ROUND (R207): the reservation engine tests a slot's request and Lathe takes the answer. -/
def execNegotiateRound (slot : Fin 48) (s : State) : Host.Outcome State Fault Refusal := run s fun h => h.lthTested slot.val

/-- PROFILE (R205). -/
def execProfile (slot : Fin 48) (s : State) : Host.Outcome State Fault Refusal := run s fun h => h.lthBegin 3 slot.val

/-- CANCEL (R205). -/
def execCancel (slot : Fin 48) (s : State) : Host.Outcome State Fault Refusal := run s fun h => h.lthCancel slot.val

/-- RESERVATION_BUSY_RETRY (R205): every 5 µs, and after 2 ms the request ends. -/
def execReservationBusyRetry (slot : Fin 48) (s : State) : Host.Outcome State Fault Refusal :=
  run s fun h =>
    let q := h.lthSlot slot.val
    match q.busySince with
    | none => h
    | some t =>
      if q.phase ≠ .reserving then h
      else if h.now ≥ t + 2000000 then
        (h.updLthSlot slot.val fun q => { q with busySince := none, result := { q.result with rsvStatus := 0 } }).lthEnd
          slot.val 0x0A
      else h.lthAsk slot.val

/-- PROFILE_END (R210). -/
def execProfileEnd (robot : Fin 129) (s : State) : Host.Outcome State Fault Refusal := run s fun h => h.profileEnd robot.val

/-! ### Registers -/

/-- The state number of a slot (LTH_SLOT_STAT). -/
def Hw.lthCode (h : Hw) (s : Nat) : Nat :=
  if h.isParked (192 + s) then 5
  else match (h.lthSlot s).phase with
    | .free => 0 | .waiting => 1 | .computing => 2 | .reserving => 3 | .writing => 4

/-- The live word of an LTH register. -/
def Hw.viewLth (h : Hw) (k : Nat) : Word :=
  if k = LTH_STAT then
    let n := ((List.range 48).filter fun s => decide ((h.lthSlot s).phase ≠ .free)).length
    let count := fun (m : Map (Option Profile)) => (m.filter fun p => p.2.isSome).length
    BitVec.ofNat 32 (n * 2 ^ 26 + count h.lth.active * 2 ^ 18 + count h.lth.pending * 2 ^ 10)
  else if LTH_SLOT_STAT 0 ≤ k ∧ k < LTH_SLOT_STAT 48 then
    let s := (k - LTH_SLOT_STAT 0) / 8
    let q := h.lthSlot s
    if k % 8 = 0 then BitVec.ofNat 32 (h.lthCode s * 2 ^ 29 + q.op % 8 * 2 ^ 26 + q.robot * 2 ^ 16 + q.reqId)
    else BitVec.ofNat 32 ((h.isParked (192 + s)).toNat * 2 ^ 31 + q.committed.toNat * 2 ^ 30 + q.result.rounds * 2 ^ 26)
  else if LTH_RBT_LIM0 1 ≤ k ∧ (k - LTH_RBT_LIM0 0) % 0x20 = 0x10 then
    let r := (k - LTH_RBT_LIM0 0) / 0x20
    let head := (h.activeProf r).isSome.toNat * 2 ^ 31 + (h.pendingProf r).isSome.toNat * 2 ^ 30
    match h.activeProf r with
    | none => BitVec.ofNat 32 head
    | some p =>
      let (m, d) := p.motion h.now
      BitVec.ofNat 32 (head + (p.moving h.now).toNat * 2 ^ 29 + d.toNat * 2 ^ 28 + p.element m.s * 2 ^ 16 +
        (m.v / (unitQ : Nat)).toNat % 65536)
  else if LTH_RBT_LIM0 1 ≤ k ∧ (k - LTH_RBT_LIM0 0) % 0x20 = 0x14 then
    BitVec.ofNat 32 (((h.activeProf ((k - LTH_RBT_LIM0 0) / 0x20)).map (·.token)).getD 0)
  else h.reg k

end Machine

end Sys2Proof
end

