-- ==== Sys2Proof/Machine/Axis.lean ====
section
/-! DEFINITION. Local axes: links, motion, commands, groups, homing, following, and the stop (R214–R225). -/

namespace Sys2Proof.Machine

open Reg

/-! ### Axes -/

/-- A control cycle in ps, ns and the address limit per cycle (R214, R217). -/
def cyclePs : Nat := 20000000
def cycleNs : Nat := 20000
def addrLimit : Nat := 255

/-- An axis. -/
def Hw.axis (h : Hw) (n : Nat) : AxisSt := h.axl.axes.at n

/-- Change an axis. -/
def Hw.updAxis (h : Hw) (n : Nat) (g : AxisSt → AxisSt) : Hw := { h with axl := { h.axl with axes := h.axl.axes.upd n g } }

/-- The mirror record of an axis (R225, R277). -/
def Hw.mirrorAxis (h : Hw) (n : Nat) : Hw := h.mirror (.axis n (h.axis n))

/-- The normal limits of an axis, its speed limited by the address limit (R217). -/
def Hw.axVmax (h : Hw) (n : Nat) : Nat := min 12750000 (h.f (AXL_AX_VMAX n) AXL_AX_VMAX.vmax)
def Hw.axAmax (h : Hw) (n : Nat) : Nat := (h.reg (AXL_AX_AMAX n)).toNat
def Hw.axJmax (h : Hw) (n : Nat) : Nat := (h.reg (AXL_AX_JMAX n)).toNat
def Hw.axStopDec (h : Hw) (n : Nat) : Nat := (h.reg (AXL_AX_STOP_DEC n)).toNat
def Hw.axStopJerk (h : Hw) (n : Nat) : Nat := (h.reg (AXL_AX_STOP_JERK n)).toNat

/-- The 48-bit target of an axis (AXL_AX_TGT). -/
def Hw.axTarget (h : Hw) (n : Nat) : Int := toInt 48 (h.reg64 (AXL_AX_TGT_LO n))

/-- The state of motion of an axis, in fixed point. -/
def motionOf (x : AxisSt) : Motion :=
  if x.phases.isEmpty then ⟨x.pos * (unitQ : Nat), x.v, x.a⟩ else (motionAt x.phases x.time).1

/-- An axis is at rest. -/
def atRest (x : AxisSt) : Bool := x.phases.isEmpty && decide (x.v = 0)

/-- A position in fixed point rounded to a microstep (R199). -/
def toStep (s : Int) : Int := (s + (unitQ / 2 : Nat)) / (unitQ : Nat)

/-- Start phases on an axis. -/
def startPhases (x : AxisSt) (st : AxState) (ps : List Phase) : AxisSt :=
  { x with state := st, phases := ps, time := 0, jog := false, rest := 0 }

/-- The stop modes (AXL_AX_CFG.stop_mode; 0b11 acts as decelerate, log entry 22). -/
def Hw.stopMode (h : Hw) (n : Nat) : Nat := h.f (AXL_AX_CFG n) AXL_AX_CFG.stop_mode

/-- An enabled axis makes its stop by its stop_mode and enters stopped when at rest (R224). -/
def Hw.stopAxis (h : Hw) (n : Nat) : Hw :=
  let x := h.axis n
  if ¬x.enable ∨ x.state = .stopped then h
  else
    let x := { x with home := .none, group := none, pendingCmd := none }
    let x := if h.stopMode n = 1 then { x with state := .stopped, phases := [], v := 0, a := 0, jog := false }
      else if h.stopMode n = 2 then { x with state := .stopped, enable := false, phases := [], v := 0, a := 0, jog := false }
      else
        let ps := (transition (motionOf x) 0 (h.axStopDec n) (h.axStopDec n) (h.axStopJerk n)).1
        if ps.isEmpty then { x with state := .stopped, v := 0, a := 0, jog := false }
        else { startPhases x .stopping ps with toStopped := true }
    (h.updAxis n fun _ => x).mirrorAxis n

/-- Stop an axis with its normal limits (HALT; R218). -/
def Hw.haltAxis (h : Hw) (n : Nat) : Hw :=
  let x := h.axis n
  let ps := (transition (motionOf x) 0 (h.axAmax n) (h.axAmax n) (h.axJmax n)).1
  h.updAxis n fun x => if ps.isEmpty then { x with state := .idle, phases := [], v := 0, a := 0, jog := false }
    else { startPhases x .stopping ps with toStopped := false }

/-- Run at a signed speed until another command (JOG, and the homing moves). -/
def Hw.runAxis (h : Hw) (n : Nat) (v : Int) (st : AxState) : Hw :=
  h.updAxis n fun x =>
    let vq := v * (unitQ : Nat)
    let (ps, s1) := transition (motionOf x) vq (h.axAmax n) (h.axAmax n) (h.axJmax n)
    { startPhases x st (ps ++ [⟨psSec * 1000000, s1, vq, 0, 0, false⟩]) with jog := true }

/-! ### Groups (R219–R221) -/

/-- A group. -/
def Hw.group (h : Hw) (g : Nat) : GroupSt := h.axl.groups.at g

/-- Change a group. -/
def Hw.updGroup (h : Hw) (g : Nat) (u : GroupSt → GroupSt) : Hw :=
  { h with axl := { h.axl with groups := h.axl.groups.upd g u } }

/-- The states of a group (AXL_GRP_STAT.state). -/
def grpIdle : Nat := 0
def grpArmed : Nat := 1
def grpMoving : Nat := 2
def grpStopping : Nat := 3
def grpDone : Nat := 4
def grpSkipped : Nat := 5

/-- The state of a group. -/
def Hw.grpState (h : Hw) (g : Nat) : Nat := h.f (AXL_GRP_STAT g) AXL_GRP_STAT.state

/-- Set the state of a group. -/
def Hw.setGrp (h : Hw) (g st : Nat) : Hw := h.setF (AXL_GRP_STAT g) AXL_GRP_STAT.state st

/-- The members of a group's mask. -/
def maskAxes (mask : Nat) : List Nat := (List.range 16).filter fun n => bit mask n

/-- The longest distance of a group's members, L. -/
def longest (x : GroupSt) : Nat := x.members.foldl (fun m p => max m p.2.2.natAbs) 0

/-- A limit of a group: the smallest over its members of limit × L / |Δ| (R219). -/
def Hw.grpLimit (x : GroupSt) (lim : Nat → Nat) : Nat :=
  (x.members.filter fun p => decide (p.2.2 ≠ 0)).foldl (fun m p => min m (lim p.1 * (longest x) / p.2.2.natAbs)) (2 ^ 60)

/-- Where a member stands at a position on s: start + round(Δ × s / L) (R219). -/
def memberPos (l : Nat) (start d s : Int) : Int :=
  let lq : Int := (l * unitQ : Nat)
  if l = 0 then start else start + (2 * d * s + lq) / (2 * lq)

/-- The count of a schedule axis: ENC0, ENC1, the mains-cycle axis (R221, R298). -/
def Hw.axisCount (h : Hw) (tbase : Nat) : Int :=
  if tbase = 3 then (h.reg64 CAL_MAINS_LO % 2 ^ 63 : Nat) else toInt 64 (h.reg64 (CAL_ENC_CNT_LO (tbase - 1)))

/-- The value a start condition is compared with, in the unit of GRP_START: µs of site time, or counts (R220). -/
def Hw.startNow (h : Hw) (g : Nat) : Int :=
  if h.f (AXL_GRP_CFG g) AXL_GRP_CFG.start = 1 then (h.now / 1000 : Nat)
  else h.axisCount (h.f (AXL_GRP_CFG g) AXL_GRP_CFG.tbase)

/-- The start value of a group (AXL_GRP_START). -/
def Hw.startValue (h : Hw) (g : Nat) : Int := toInt 64 (h.reg64 (AXL_GRP_START_LO g))

/-- The nominal counts per second of a time base (AXL_TB_RATE; 0 acts as 1). -/
def Hw.tbRate (h : Hw) (tbase : Nat) : Nat := max 1 (h.reg (AXL_TB_RATE (tbase - 1))).toNat

/-- Whether a group's start condition holds (R220). -/
def Hw.startMet (h : Hw) (g : Nat) : Bool :=
  let c := h.f (AXL_GRP_CFG g) AXL_GRP_CFG.start
  if c = 0 then true else if c = 3 then (h.group g).fired else decide (h.startNow g ≥ h.startValue g)

/-- A motion towards an active limit of an axis (R218). -/
def towardLimit (x : AxisSt) (d : Int) : Bool := (decide (d > 0) && x.limPos) || (decide (d < 0) && x.limNeg)

/-- Why an axis refuses a move of direction `d`, 0 where it does not (R218). -/
def Hw.moveRefusal (h : Hw) (n : Nat) (d : Int) : Nat :=
  let x := h.axis n
  match x.state with
  | .disabled => 1
  | .stopped => 2
  | .stopping => if x.toStopped then 2 else if x.group.isSome then 3 else if towardLimit x d then 4 else 0
  | .homing => 3
  | .following => 3
  | .armed => 3
  | .moving => if x.group.isSome then 3 else if towardLimit x d then 4 else 0
  | .idle => if towardLimit x d then 4 else 0

/-- Give an axis the result of a command; a refusal counts (R218). -/
def Hw.axResult (h : Hw) (n r : Nat) : Hw :=
  let h := h.updAxis n fun x => { x with result := r }
  if r = 0 then h else h.bump AXL_ERR AXL_ERR.refused AXL_ERR.refused_sat

/-- Members of a group return to a state, out of the group. -/
def Hw.freeMembers (h : Hw) (g : Nat) (st : AxState) : Hw :=
  (h.group g).members.foldl (fun h p => if (h.axis p.1).group = some g then
    (h.updAxis p.1 fun x => { x with state := st, group := none, phases := [], v := 0, a := 0, rest := 0 }).mirrorAxis p.1
    else h) h

/-- The GRP_CFG.go write (R219, R220): the group is armed, or refused by a member; a start already passed follows the late policy. -/
def Hw.groupGo (h : Hw) (g : Nat) : Hw :=
  let ms := maskAxes (h.f (AXL_GRP_CFG g) AXL_GRP_CFG.mask)
  let why := fun (n : Nat) =>
    if ¬h.flag AXL_CFG AXL_CFG.enable then 1
    else if ¬atRest (h.axis n) ∧ h.moveRefusal n 0 = 0 then 3
    else h.moveRefusal n (h.axTarget n - (h.axis n).pos)
  match ms.find? fun n => decide (why n ≠ 0) with
  | some n => h.axResult n (why n)
  | none =>
    let h := ms.foldl (fun h n =>
      (h.updAxis n fun x => { x with state := .armed, group := some g, result := 0 }).mirrorAxis n) h
    let h := h.updGroup g fun _ => { (default : GroupSt) with members := ms.map fun n => (n, 0, 0) }
    let h := h.setReg (AXL_GRP_STAT g) (AXL_GRP_STAT.state.set 0 grpArmed)
    let c := h.f (AXL_GRP_CFG g) AXL_GRP_CFG.start
    let behind := h.startNow g - h.startValue g
    if (c = 1 ∨ c = 2) ∧ behind > 0 then
      let us := if c = 1 then behind.toNat
        else behind.toNat * 1000000 / h.tbRate (h.f (AXL_GRP_CFG g) AXL_GRP_CFG.tbase)
      let h := (h.setF (AXL_GRP_STAT g) AXL_GRP_STAT.late 1).setF (AXL_GRP_STAT g) AXL_GRP_STAT.lateness (min 16777215 us)
      let h := h.raise AXL_IRQ_STAT AXL_IRQ_STAT.late g
      if h.flag (AXL_GRP_CFG g) AXL_GRP_CFG.late_policy then (h.freeMembers g .idle).setGrp g grpSkipped else h
    else h

/-- An armed group's start condition is reached: its profile on s is computed and begins with the next cycle (R219, R220). -/
def Hw.groupStart (h : Hw) (g : Nat) : Hw :=
  if h.grpState g ≠ grpArmed ∨ ¬h.startMet g then h
  else
    let ms := (h.group g).members.map fun p => (p.1, (h.axis p.1).pos, h.axTarget p.1 - (h.axis p.1).pos)
    let x : GroupSt := { (default : GroupSt) with members := ms }
    let l := (longest x)
    let ps := moveTo ⟨0, 0, 0⟩ (l * unitQ : Nat) (Hw.grpLimit x h.axVmax) (Hw.grpLimit x h.axAmax) (Hw.grpLimit x h.axJmax)
    let c := h.axisCount (max 1 (h.f (AXL_GRP_CFG g) AXL_GRP_CFG.tbase))
    let h := h.updGroup g fun _ => { x with phases := ps, lastCount := c }
    let h := ms.foldl (fun h p => (h.updAxis p.1 fun a => { a with state := .moving }).mirrorAxis p.1) h
    h.setGrp g grpMoving

/-- A moving group decelerates along its path with limits of its members scaled (R219, R224); an armed one is disarmed. `stop` says
that its members enter stopped when at rest. -/
def Hw.groupStop (h : Hw) (g : Nat) (stop : Bool) (dec jerk : Nat → Nat) : Hw :=
  let st := h.grpState g
  if st = grpArmed then (h.freeMembers g (if stop then .stopped else .idle)).setGrp g grpIdle
  else if st = grpMoving ∨ st = grpStopping then
    let x := h.group g
    let d := Hw.grpLimit x dec
    let ps := (transition (motionAt x.phases x.time).1 0 d d (Hw.grpLimit x jerk)).1
    let h := h.updGroup g fun x => { x with phases := ps, time := 0, stopTo := stop }
    let h := x.members.foldl (fun h p => if (h.axis p.1).group = some g then
      h.updAxis p.1 fun a => { a with state := .stopping, toStopped := stop } else h) h
    h.setGrp g grpStopping
  else h

/-- The advance of a group's profile time in one cycle, and what remains to be paid back (R221). -/
def Hw.groupAdvance (h : Hw) (g : Nat) : Nat × Int × Int × Bool :=
  let x := h.group g
  let tb := h.f (AXL_GRP_CFG g) AXL_GRP_CFG.tbase
  if tb = 0 then (cyclePs, 0, 0, false)
  else
    let c := h.axisCount tb
    let total := x.lag + (c - x.lastCount) * (psSec : Nat) / (h.tbRate tb : Nat)
    let adv := min 25000000 total.toNat
    (adv, total - adv, c, decide (total > 25000000))

/-- One cycle of a moving or stopping group: its members' positions, and its end (R219–R221). -/
def Hw.groupCycle (h : Hw) (g : Nat) : Hw :=
  let st := h.grpState g
  if st ≠ grpMoving ∧ st ≠ grpStopping then h
  else
    let (adv, lag, count, clamped) := h.groupAdvance g
    let wasLag := h.flag (AXL_GRP_STAT g) AXL_GRP_STAT.sync_lag
    let h := h.updGroup g fun x => { x with time := x.time + adv, lag := lag, lastCount := count }
    let h := h.setFlag (AXL_GRP_STAT g) AXL_GRP_STAT.sync_lag clamped
    let h := if clamped ∧ ¬wasLag then h.raise AXL_IRQ_STAT AXL_IRQ_STAT.sync_lag g else h
    let x := h.group g
    let l := (longest x)
    let m := (motionAt x.phases x.time).1
    let ended := decide (x.time ≥ totalTime x.phases)
    let s : Int := if ended ∧ st = grpMoving then (l * unitQ : Nat) else m.s
    let h := x.members.foldl (fun h p => if (h.axis p.1).group = some g then
      h.updAxis p.1 fun a => { a with
        pos := memberPos l p.2.1 p.2.2 s
        v := if l = 0 then 0 else m.v * p.2.2 / (l : Nat)
        a := if l = 0 then 0 else m.a * p.2.2 / (l : Nat) } else h) h
    if ¬ended then h
    else if st = grpMoving then
      ((h.freeMembers g .idle).setGrp g grpDone).raise AXL_IRQ_STAT AXL_IRQ_STAT.move_done g
    else (h.freeMembers g (if x.stopTo then .stopped else .idle)).setGrp g grpIdle

/-! ### Commands (R218) -/

/-- Start homing (R223). -/
def Hw.homeStart (h : Hw) (n : Nat) : Hw :=
  let dir : Int := if h.flag (AXL_AX_HOME_CFG n) AXL_AX_HOME_CFG.dir then 1 else -1
  let only := decide (h.f (AXL_AX_HOME_CFG n) AXL_AX_HOME_CFG.method = 4)
  let v : Int := (h.reg (AXL_AX_HOME_V n)).toNat
  let h := h.runAxis n (dir * (if only then v / 8 else v)) .homing
  h.updAxis n fun x => { x with home := if only then .index else .seek, homeFrom := x.pos, feCount := 0, latched := false }

/-- A command acts on an axis: the state after it, and its result (R218). -/
def Hw.axCommand (h : Hw) (n op : Nat) : Hw × Nat :=
  let x := h.axis n
  let clear := fun (x : AxisSt) => { x with phases := [], v := 0, a := 0, jog := false, home := .none, group := none }
  if op = 2 then (h.updAxis n fun x => { clear x with enable := false, state := .disabled }, 0)
  else if ¬h.flag AXL_CFG AXL_CFG.enable then (h, 1)
  else if op = 1 then
    if x.state = .stopped then (h, 2)
    else if x.enable then (h, 0)
    else (h.updAxis n fun x => { x with enable := true, state := if h.axl.stop then .stopped else .idle, rest := 0 }, 0)
  else if op = 3 ∨ op = 4 then
    let t := if op = 3 then h.axTarget n else x.pos + h.axTarget n
    match h.moveRefusal n (t - x.pos) with
    | 0 =>
      let ps := moveTo (motionOf x) (t * (unitQ : Nat)) (h.axVmax n) (h.axAmax n) (h.axJmax n)
      (h.updAxis n fun x => startPhases x .moving ps, 0)
    | r => (h, r)
  else if op = 5 then
    let v := toInt 32 (h.reg (AXL_AX_TGT_LO n)).toNat
    match h.moveRefusal n v with
    | 0 => (h.runAxis n (max (-(h.axVmax n : Int)) (min (h.axVmax n : Int) v)) .moving, 0)
    | r => (h, r)
  else if op = 6 then
    match x.state with
    | .disabled => (h, 0)
    | .stopped => (h, 0)
    | _ => if x.toStopped ∧ x.state = .stopping then (h, 0)
      else ((h.updAxis n fun x => { x with home := .none, group := none }).haltAxis n, 0)
  else if op = 7 then
    match h.moveRefusal n 0 with
    | 0 => if h.f (AXL_AX_HOME_CFG n) AXL_AX_HOME_CFG.method = 0 ∨ h.f (AXL_AX_HOME_CFG n) AXL_AX_HOME_CFG.method > 4
      then (h, 5) else (h.homeStart n, 0)
    | r => (h, r)
  else if op = 8 then
    if x.state ≠ .idle then (h, 3)
    else
      let t := h.axTarget n
      (h.updAxis n fun x => { x with phase := x.phase + x.pos - t, pos := t }, 0)
  else if op = 9 then
    match h.moveRefusal n 0 with
    | 0 => (h.updAxis n fun x => { clear x with state := .following, follow := x.pos, interval := 0, time := 0 }, 0)
    | r => (h, r)
  else if op = 10 then
    if h.axl.stop then (h, 2)
    else (h.updAxis n fun x => if x.state = .stopped then { x with state := if x.enable then .idle else .disabled, rest := 0 }
      else x, 0)
  else (h, 5)

/-- A pending command acts at the cycle (R218). -/
def Hw.axTakeCmd (h : Hw) (n : Nat) : Hw :=
  match (h.axis n).pendingCmd with
  | none => h
  | some op =>
    let (h, r) := (h.updAxis n fun x => { x with pendingCmd := none }).axCommand n op
    (h.axResult n r).mirrorAxis n

/-- A write of AX_CMD waits for the next cycle; with a stop in the same cycle it is refused (R218). -/
def Hw.axWrite (h : Hw) (n op : Nat) : Hw := h.updAxis n fun x => { x with pendingCmd := some op }

/-! ### Homing (R223) -/

/-- Homing fails: the axis halts and home_fail is raised. -/
def Hw.homeFail (h : Hw) (n : Nat) : Hw :=
  let h := (h.updAxis n fun x => { x with home := .none }).haltAxis n
  (h.bump AXL_ERR AXL_ERR.home_fail AXL_ERR.home_sat).raise AXL_IRQ_STAT AXL_IRQ_STAT.home_fail n

/-- Position := 0 at the reference point; homing is complete (R223, R217). -/
def Hw.homeZero (h : Hw) (n : Nat) (ref : Int) : Hw :=
  let h := h.updAxis n fun x =>
    { x with pos := x.pos - ref, phase := x.phase + ref, homed := true, home := .none
             phases := x.phases.map fun p => { p with s := p.s - ref * (unitQ : Nat) } }
  (h.haltAxis n).raise AXL_IRQ_STAT AXL_IRQ_STAT.home_done n

/-- One cycle of the homing sequence (R223). -/
def Hw.homeCycle (h : Hw) (n : Nat) : Hw :=
  let x := h.axis n
  let cfg := AXL_AX_HOME_CFG n
  let method := h.f cfg AXL_AX_HOME_CFG.method
  let dir : Int := if h.flag cfg AXL_AX_HOME_CFG.dir then 1 else -1
  let slow : Int := (h.reg (AXL_AX_HOME_V n)).toNat / 8
  let limit := decide (method = 2) && (if dir > 0 then x.limPos else x.limNeg)
  let switch := (decide (method = 1) && x.homeIn) || limit
  let far := decide ((x.pos - x.homeFrom).natAbs > (h.reg (AXL_AX_HOME_MAX n)).toNat)
  let back := fun (h : Hw) (counting : Bool) =>
    (h.runAxis n (-dir * slow) .homing).updAxis n fun x =>
      { x with home := .backOff, homeFrom := x.pos, homeNext := if counting then .backOff else .none }
  match x.home with
  | .none => h
  | .seek =>
    if switch then (h.haltAxis n).updAxis n fun x => { x with state := .homing, home := .halting }
    else if method = 3 ∧ x.feCount ≥ max 1 (h.f cfg AXL_AX_HOME_CFG.fe_cycles) then
      back (h.updAxis n fun x => { x with phases := [], v := 0, a := 0, jog := false }) true
    else if far then h.homeFail n
    else h
  | .halting => if atRest x then back h false else h
  | .backOff =>
    if x.homeNext = .none then
      if switch then h else h.updAxis n fun x => { x with homeFrom := x.pos, homeNext := .backOff }
    else if (x.pos - x.homeFrom).natAbs ≥ (h.reg (AXL_AX_HOME_DIST n)).toNat then
      if h.flag cfg AXL_AX_HOME_CFG.use_index then h.updAxis n fun x => { x with home := .index, homeFrom := x.pos }
      else h.homeZero n x.pos
    else h
  | .index =>
    if x.index then
      (h.setReg64 (AXL_AX_LATCH_LO n) (ofInt 48 x.pos)).updAxis n fun x => { x with home := .zeroing }
    else if far then h.homeFail n
    else h
  | .zeroing => h.homeZero n (toInt 48 (h.reg64 (AXL_AX_LATCH_LO n)))

/-! ### The control cycle (R214–R217, R222) -/

/-- Following: the output moves towards the target at coarse_div per step interval, and jumps to within one step of it, within the
address limit (R222). -/
def Hw.followCycle (h : Hw) (n : Nat) : Hw :=
  let x := h.axis n
  let d : Nat := max 1 (h.f (AXL_AX_COARSE n) AXL_AX_COARSE.coarse_div)
  let left := x.follow - x.pos
  let dir : Int := if left ≥ 0 then 1 else -1
  let gap := left.natAbs
  let rate := if x.interval = 0 then gap else (d * cycleNs + x.time) / x.interval
  let jump := gap - d
  let move := min (min gap addrLimit) (max rate jump)
  h.updAxis n fun x => { x with
    pos := x.pos + dir * move
    v := dir * move * 50000 * (unitQ : Nat)
    time := if x.interval = 0 then 0 else (d * cycleNs + x.time) % x.interval }

/-- The end of an axis's phases: the state it goes to, and move_done (R218, R224). -/
def Hw.axisArrived (h : Hw) (n : Nat) : Hw :=
  let x := h.axis n
  let h := h.updAxis n fun x => { x with phases := [], v := 0, a := 0, jog := false, rest := 0 }
  match x.state with
  | .moving => ((h.updAxis n fun x => { x with state := .idle }).raise AXL_IRQ_STAT AXL_IRQ_STAT.move_done n).mirrorAxis n
  | .stopping =>
    (h.updAxis n fun x => { x with state := if x.toStopped then .stopped else .idle, toStopped := false }).mirrorAxis n
  | _ => h

/-- One cycle of an axis's own motion (R217). -/
def Hw.axisMove (h : Hw) (n : Nat) : Hw :=
  let x := h.axis n
  if x.group.isSome then h
  else if x.state = .following then h.followCycle n
  else if x.phases.isEmpty then h.updAxis n fun x => { x with rest := x.rest + cyclePs }
  else
    let t := x.time + cyclePs
    let m := (motionAt x.phases t).1
    let h := h.updAxis n fun x => { x with time := t, pos := toStep m.s, v := m.v, a := m.a }
    if t ≥ totalTime x.phases then h.axisArrived n else h

/-- Motion towards an active limit makes the axis stop (R218); the limit that homing seeks does not. -/
def Hw.limitCheck (h : Hw) (n : Nat) : Hw :=
  let x := h.axis n
  let seeking := decide (x.home ≠ .none ∧ h.f (AXL_AX_HOME_CFG n) AXL_AX_HOME_CFG.method = 2)
  if towardLimit x x.v && !seeking && decide (x.state ≠ .stopped) && !(decide (x.state = .stopping) && x.toStopped) then
    let h := match x.group with
      | some g => (h.updAxis n fun x => { x with group := none }).groupStop g true h.axStopDec h.axStopJerk
      | none => h
    ((h.stopAxis n).bump AXL_ERR AXL_ERR.limit_stop AXL_ERR.limit_sat).raise AXL_IRQ_STAT AXL_IRQ_STAT.limit n
  else h

/-- One cycle of an axis: command, motion, homing, limits. -/
def Hw.axisCycle (h : Hw) (n : Nat) : Hw := ((((h.axTakeCmd n).axisMove n).homeCycle n).limitCheck n)

/-- The current-scale code of an axis (R217, R224). -/
def Hw.currentCode (h : Hw) (n : Nat) : Nat :=
  let x := h.axis n
  let c := AXL_AX_CFG n
  if ¬x.enable then 0
  else if x.home = .seek ∧ h.f (AXL_AX_HOME_CFG n) AXL_AX_HOME_CFG.method = 3 then h.f c AXL_AX_CFG.cur_home
  else if x.a ≠ 0 then h.f c AXL_AX_CFG.cur_acc
  else if x.v ≠ 0 then h.f c AXL_AX_CFG.cur_run
  else if x.state = .stopped ∧ h.stopMode n = 1 then h.f c AXL_AX_CFG.cur_run
  else if x.rest ≥ h.f c AXL_AX_CFG.hold_delay_ms * 1000000000 then h.f c AXL_AX_CFG.cur_hold
  else h.f c AXL_AX_CFG.cur_run

/-- The table address of an axis (R217). -/
def Hw.tableAddr (h : Hw) (n : Nat) : Nat :=
  let x := h.axis n
  let a := (x.pos + x.phase) % 1024
  (if h.flag (AXL_AX_CFG n) AXL_AX_CFG.invert then (1024 - a) % 1024 else a).toNat

/-- The axis word of a downstream frame (R215). -/
def Hw.axisWord (h : Hw) (n : Nat) : Nat := h.tableAddr n + (h.axis n).enable.toNat * 2 ^ 10 + h.currentCode n * 2 ^ 11

/-- CRC-16, polynomial 0x1021, one octet (R215). -/
def crc16Step (c : Nat) (b : Byte) : Nat :=
  (List.range 8).foldl (fun c _ => if c ≥ 32768 then ((c * 2) % 65536) ^^^ 0x1021 else c * 2) (c ^^^ (b.toNat * 256))

/-- CRC-16 with initial value 0xFFFF (R215). -/
def crc16 (bs : List Byte) : Nat := bs.foldl crc16Step 0xFFFF

/-- A link. -/
def Hw.axLink (h : Hw) (k : Nat) : LinkSt := h.axl.links.at k

/-- Change a link. -/
def Hw.updLink (h : Hw) (k : Nat) (g : LinkSt → LinkSt) : Hw := { h with axl := { h.axl with links := h.axl.links.upd k g } }

/-- The states of a link (AXL_LINK_STAT.state). -/
def Hw.linkState (h : Hw) (k : Nat) : Nat := h.f (AXL_LINK_STAT k) AXL_LINK_STAT.state

/-- The downstream frame of a link (R215). -/
def Hw.downFrame (h : Hw) (k : Nat) : List Byte :=
  let stop := h.axl.stop || decide (h.linkState k = 3)
  let body := leBytes 1 (h.axLink k).seq ++ leBytes 1 stop.toNat ++
    (List.range 4).flatMap (fun i => leBytes 2 (h.axisWord (4 * k + i))) ++ leBytes 2 0
  body ++ leBytes 2 (crc16 body)

/-- One link's part of a cycle: the sequence advances and the frame is sent, by the unit that acts (R214, R225). -/
def Hw.linkCycle (h : Hw) (k : Nat) : Hw :=
  if ¬h.flag (AXL_LINK_CFG k) AXL_LINK_CFG.enable then h.setF (AXL_LINK_STAT k) AXL_LINK_STAT.state 0
  else
    let h := h.updLink k fun l => { l with seq := (l.seq + 1) % 256 }
    let h := if h.linkState k = 0 then h.setF (AXL_LINK_STAT k) AXL_LINK_STAT.state 1 else h
    if h.acts then h.emit (.axis k (h.downFrame k)) else h

/-- Every axis is at rest after a stop (AXL_IRQ_STAT.stop_done). -/
def Hw.stopDoneCheck (h : Hw) : Hw :=
  if h.axl.stop && !h.axl.stopDone && (List.range 16).all fun n => atRest (h.axis n) && (h.axis n).group.isNone then
    ({ h with axl := { h.axl with stopDone := true } }).raise AXL_IRQ_STAT AXL_IRQ_STAT.stop_done 0
  else h

/-- A control cycle (R214): every axis and group moves, then every link sends its frame. -/
def Hw.controlCycle (h : Hw) : Hw :=
  let h := if h.flag AXL_CFG AXL_CFG.enable then h
    else (List.range 16).foldl (fun h n => if (h.axis n).enable then (h.axCommand n 2).1 else h) h
  let h := (List.range 16).foldl (fun h n => h.axisCycle n) h
  let h := (List.range 4).foldl (fun h g => h.groupCycle g) h
  let h := (List.range 4).foldl (fun h k => h.linkCycle k) h
  h.stopDoneCheck

/-! ### Upstream frames and link faults (R215, R216) -/

/-- A missing or invalid upstream frame counts. -/
def Hw.linkMiss (h : Hw) (k : Nat) (missing : Bool) : Hw :=
  let h := if missing then h.bump (AXL_LINK_ERR k) AXL_LINK_ERR.missing AXL_LINK_ERR.miss_sat
    else h.bump (AXL_LINK_ERR k) AXL_LINK_ERR.crc_err AXL_LINK_ERR.crc_sat
  h.updLink k fun l => { l with misses := l.misses + 1 }

/-- An upstream frame is valid: its CRC, and its echo of the current or previous cycle (R215). -/
def Hw.upValid (h : Hw) (k : Nat) (b : List Byte) : Bool :=
  let seq := (h.axLink k).seq
  let echo := fieldAt b 0 1
  decide (b.length = 14) && decide (crc16 (b.take 12) = fieldAt b 12 2) &&
    (decide (echo = seq) || decide (echo = (seq + 255) % 256))

/-- An axis takes its word of an upstream frame (R215, R216). -/
def Hw.upAxis (h : Hw) (n w : Nat) : Hw :=
  let fe := toInt 8 (w % 256)
  let hit := decide (fe.natAbs ≥ max 1 (h.f (AXL_AX_HOME_CFG n) AXL_AX_HOME_CFG.fe_thresh))
  let was := (h.axis n).fault
  let h := h.updAxis n fun x => { x with
    fe := fe, homeIn := bit w 8, limPos := bit w 9, limNeg := bit w 10, index := bit w 11, fault := bit w 12
    feCount := if x.home = .seek ∧ hit then x.feCount + 1 else 0 }
  if bit w 12 ∧ ¬was then h.stopAxis n else h

/-- An upstream frame, or none by the end of the cycle (R215, R216). -/
def Hw.upFrame (h : Hw) (k : Nat) (frame : Option (List Byte)) : Hw :=
  match frame with
  | none => h.linkMiss k true
  | some b =>
    if ¬h.upValid k b then h.linkMiss k false
    else
      let h := h.updLink k fun l => { l with misses := 0 }
      let h := h.setF (AXL_LINK_STAT k) AXL_LINK_STAT.stage (fieldAt b 1 1)
      let h := if h.linkState k = 2 then h.setF (AXL_LINK_STAT k) AXL_LINK_STAT.state 1 else h
      (List.range 4).foldl (fun h i => h.upAxis (4 * k + i) (fieldAt b (2 + 2 * i) 2)) h

/-- The fleet stop at AXL, from the next cycle (R224). -/
def Hw.axlStop (h : Hw) : Hw :=
  let h := { h with axl := { h.axl with stop := true, stopDone := false } }
  let h := (List.range 16).foldl (fun h n => match (h.axis n).pendingCmd with
    | some _ => (h.updAxis n fun x => { x with pendingCmd := none }).axResult n 2
    | none => h) h
  let h := (List.range 4).foldl (fun h g => h.groupStop g true h.axStopDec h.axStopJerk) h
  (List.range 16).foldl (fun h n => if (h.axis n).group.isSome then h else h.stopAxis n) h

/-- The release of the fleet stop at AXL; each axis stays stopped until RELEASE (R224). -/
def Hw.axlRelease (h : Hw) : Hw := { h with axl := { h.axl with stop := false } }

/-- Any axis is enabled (R226). -/
def Hw.anyAxis (h : Hw) : Bool := (List.range 16).any fun n => (h.axis n).enable

/-! ### The commands -/

/-- CONTROL_CYCLE (R214). -/
def execControlCycle (s : State) : Host.Outcome State Fault Refusal := run s Hw.controlCycle

/-- UPSTREAM_FRAME (R215). -/
def execUpstreamFrame (link : Fin 4) (frame : Option (List Byte)) (s : State) : Host.Outcome State Fault Refusal :=
  run s fun h => h.upFrame link.val frame

/-- A write of AX_CMD by a master. -/
def Hw.axCmdWrite (h : Hw) (via : BusAcc) (n op : Nat) : Hw :=
  h.regWrite via (AXL_AX_CMD n) (BitVec.ofNat 32 op) fun _ h => h.axWrite n op

/-- ENABLE (R218). -/
def execEnable (via : BusAcc) (n : Fin 16) (s : State) : Host.Outcome State Fault Refusal :=
  run s fun h => h.axCmdWrite via n.val 1

/-- DISABLE (R218). -/
def execDisable (via : BusAcc) (n : Fin 16) (s : State) : Host.Outcome State Fault Refusal :=
  run s fun h => h.axCmdWrite via n.val 2

/-- MOVE_ABS (R218). -/
def execMoveAbs (via : BusAcc) (n : Fin 16) (s : State) : Host.Outcome State Fault Refusal :=
  run s fun h => h.axCmdWrite via n.val 3

/-- MOVE_REL (R218). -/
def execMoveRel (via : BusAcc) (n : Fin 16) (s : State) : Host.Outcome State Fault Refusal :=
  run s fun h => h.axCmdWrite via n.val 4

/-- JOG (R218). -/
def execJog (via : BusAcc) (n : Fin 16) (s : State) : Host.Outcome State Fault Refusal :=
  run s fun h => h.axCmdWrite via n.val 5

/-- HALT (R218). -/
def execHalt (via : BusAcc) (n : Fin 16) (s : State) : Host.Outcome State Fault Refusal :=
  run s fun h => h.axCmdWrite via n.val 6

/-- HOME (R223). -/
def execHome (via : BusAcc) (n : Fin 16) (s : State) : Host.Outcome State Fault Refusal :=
  run s fun h => h.axCmdWrite via n.val 7

/-- SET_POS (R218). -/
def execSetPos (via : BusAcc) (n : Fin 16) (s : State) : Host.Outcome State Fault Refusal :=
  run s fun h => h.axCmdWrite via n.val 8

/-- FOLLOW (R222). -/
def execFollow (via : BusAcc) (n : Fin 16) (s : State) : Host.Outcome State Fault Refusal :=
  run s fun h => h.axCmdWrite via n.val 9

/-- RELEASE (R218). -/
def execRelease (via : BusAcc) (n : Fin 16) (s : State) : Host.Outcome State Fault Refusal :=
  run s fun h => h.axCmdWrite via n.val 10

/-- STEP_EDGE (R222): `dir` is the level of DIR, `stable` whether it was stable 1 µs before the edge. -/
def execStepEdge (n : Fin 16) (dir stable : Bool) (s : State) : Host.Outcome State Fault Refusal :=
  run s fun h =>
    let x := h.axis n.val
    let d := if stable then dir else x.lastDir
    if x.state ≠ .following then h.updAxis n.val fun x => { x with lastDir := d, lastStep := h.now }
    else
      let k : Int := (max 1 (h.f (AXL_AX_COARSE n.val) AXL_AX_COARSE.coarse_div) : Nat)
      let up := d != h.flag (AXL_AX_COARSE n.val) AXL_AX_COARSE.dir_inv
      h.updAxis n.val fun x => { x with
        follow := if up then x.follow + k else x.follow - k
        lastDir := d, interval := h.now - x.lastStep, lastStep := h.now, time := 0 }

/-- GROUP_GO (R219, R220): a write of GRP_CFG with go = 1. -/
def execGroupGo (via : BusAcc) (g : Fin 4) (value : Word) (s : State) : Host.Outcome State Fault Refusal :=
  run s fun h => h.regWrite via (AXL_GRP_CFG g.val) (AXL_GRP_CFG.go.set value 1) fun _ h => h.groupGo g.val

/-- GROUP_HALT (R219): a write of GRP_CFG with halt = 1. -/
def execGroupHalt (via : BusAcc) (g : Fin 4) (value : Word) (s : State) : Host.Outcome State Fault Refusal :=
  run s fun h => h.regWrite via (AXL_GRP_CFG g.val) (AXL_GRP_CFG.halt.set (AXL_GRP_CFG.go.set value 0) 1) fun _ h =>
    h.groupStop g.val false h.axAmax h.axJmax

/-- GROUP_START (R220). -/
def execGroupStart (g : Fin 4) (s : State) : Host.Outcome State Fault Refusal := run s fun h => h.groupStart g.val

/-! ### Registers -/

/-- The number of an axis state. -/
def axCode : AxState → Nat
  | .disabled => 0 | .idle => 1 | .moving => 2 | .homing => 3 | .following => 4 | .stopping => 5 | .stopped => 6 | .armed => 7

/-- The live word of an AXL register. -/
def Hw.viewAxl (h : Hw) (k : Nat) : Word :=
  if k = AXL_STAT then
    BitVec.ofNat 32 (h.axl.stop.toNat * 2 ^ 31 + ((List.range 16).filter fun n => (h.axis n).enable).foldl (fun a n => a + 2 ^ n) 0)
  else if AXL_LINK_CFG 0 ≤ k ∧ k < AXL_LINK_CFG 4 ∧ k % 16 = 4 then
    let l := (k - AXL_LINK_CFG 0) / 16
    let n := ((h.axLink l).faults.filter fun t => decide (h.now < t + 60000000000)).length
    AXL_LINK_STAT.window.set (h.reg k) (min 15 n)
  else if AXL_AX_CFG 0 ≤ k ∧ k < AXL_AX_CFG 16 then
    let n := (k - AXL_AX_CFG 0) / 0x80
    let x := h.axis n
    if k = AXL_AX_STAT n then
      BitVec.ofNat 32 (axCode x.state * 2 ^ 29 + x.homed.toNat * 2 ^ 28 + (atRest x && decide (x.pos = h.axTarget n)).toNat * 2 ^ 27 +
        x.limPos.toNat * 2 ^ 26 + x.limNeg.toNat * 2 ^ 25 + x.homeIn.toNat * 2 ^ 24 + x.fault.toNat * 2 ^ 23 +
        x.result % 8 * 2 ^ 20 + ofInt 8 x.fe * 2 ^ 12)
    else if k = AXL_AX_POS_LO n then BitVec.ofNat 32 (ofInt 48 x.pos)
    else if k = AXL_AX_POS_HI n then BitVec.ofNat 32 (ofInt 48 x.pos / 2 ^ 32)
    else if k = AXL_AX_VEL n then BitVec.ofNat 32 (ofInt 32 (x.v / (unitQ : Nat)))
    else h.reg k
  else h.reg k

end Sys2Proof.Machine
end

