-- ==== Sys2Proof/Machine/Calends.lean ====
section
/-! DEFINITION. Calends: the site-time counter, its servo and states, the encoders and the sixteen triggers
(spec/11_calends.md, R285–R302). -/

namespace Sys2Proof.Machine

open Reg

/-! ### The counter (R285, R286) -/

/-- Change Calends. -/
def Hw.updCal (h : Hw) (f : CalSt → CalSt) : Hw := { h with cal := f h.cal }

/-- The nominal increment, 8 ns, in 2^-32 ns, and the limits of 8 ns × (1 ± 500 ppm) (R286). -/
def incNominal : Nat := 34359738368
def incMin : Nat := 34342558499
def incMax : Nat := 34376918237

/-- An increment held within the limits. -/
def incClamp (i : Int) : Nat := (max (incMin : Int) (min (incMax : Int) i)).toNat

/-- Set the counter to a time in ns. -/
def CalSt.setTime (c : CalSt) (t : Nat) : CalSt := { c with sec := t / 1000000000, ns := t % 1000000000 }

/-- The increment applied from now on: held within the limits, with slewing while it is held at one (R286); increments of the
last 60 s are kept for the mean of R289. -/
def Hw.setInc (h : Hw) (raw : Int) : Hw :=
  let inc := incClamp raw
  let old := h.cal.hist.filter fun p => decide (h.now < p.1 + 60000000000)
  let base := match (h.cal.hist.filter fun p => decide (h.now ≥ p.1 + 60000000000)).getLast? with
    | some p => [p]
    | none => []
  (h.updCal fun c => { c with inc := inc, incNext := none, hist := base ++ old ++ [(h.now, inc)] }).setFlag
    CAL_STAT CAL_STAT.slewing (decide ((inc : Int) ≠ raw))

/-- One tick: the increment is added with its carry, then a written increment is committed (R285, R286). -/
def Hw.calTick (h : Hw) : Hw :=
  let f := h.cal.ns * 2 ^ 32 + h.cal.frac + h.cal.inc
  let ns := f / 2 ^ 32
  let h := h.updCal fun c => { c with sec := c.sec + ns / 1000000000, ns := ns % 1000000000, frac := f % 2 ^ 32 }
  match h.cal.incNext with
  | some i => h.setInc i
  | none => h

/-- The INC_INT write: both words commit at the next tick; a value beyond the limits is counted (R286). -/
def Hw.incWritten (h : Hw) : Hw :=
  let raw : Nat := h.f CAL_INC_INT CAL_INC_INT.ns * 2 ^ 32 + (h.reg CAL_INC_FRAC).toNat
  let h := if incClamp (raw : Int) ≠ raw then h.bump CAL_ERR CAL_ERR.inc_clamp CAL_ERR.clamp_sat else h
  h.updCal fun c => { c with incNext := some raw }

/-- The mean increment of the last 60 s (R289). -/
def Hw.meanInc (h : Hw) : Nat :=
  let from_ := h.now - 60000000000
  let segs := h.cal.hist.zip ((h.cal.hist.drop 1).map (fun p => p.1) ++ [h.now])
  let total := segs.foldl (fun n p => n + (p.2 - max from_ p.1.1)) 0
  let sum := segs.foldl (fun n p => n + (p.2 - max from_ p.1.1) * p.1.2) 0
  if total = 0 then h.cal.inc else sum / total

/-! ### Schedule axes (R298) -/

/-- The value of an axis: site time in ns, the encoder counts, the mains axis in 1/1024 cycle (R299). -/
def Hw.axisValue (h : Hw) (axis : Nat) : Int := if axis = 0 then (h.now : Int) else h.axisCount axis

/-- The place of an encoder's levels in the cycle in which A leads B; that order counts up (log entry 25). -/
def quadPlace (a b : Bool) : Nat := if a then (if b then 2 else 1) else (if b then 3 else 0)

/-- New filtered levels of an encoder (R298). -/
def Hw.encoderEdge (h : Hw) (n : Nat) (a b : Bool) : Hw :=
  let (a0, b0) := h.cal.enc.at n
  let h := h.updCal fun c => { c with enc := c.enc.set n (a, b) }
  let d := (quadPlace a b + 4 - quadPlace a0 b0) % 4
  if ¬h.flag (CAL_ENC_CFG n) CAL_ENC_CFG.enable ∨ d = 0 then h
  else if d = 2 then h.bump (CAL_ENC_ERR n) CAL_ENC_ERR.illegal CAL_ENC_ERR.illegal_sat
  else
    let up := decide (d = 1) != h.flag (CAL_ENC_CFG n) CAL_ENC_CFG.invert
    let v : Int := toInt 64 (h.reg64 (CAL_ENC_CNT_LO n)) + (if up then 1 else -1)
    h.setReg64 (CAL_ENC_CNT_LO n) (ofInt 64 v)

/-! ### Triggers (R299–R301) -/

/-- The states and reasons of CAL_TRIG_STAT. -/
def trigIdle : Nat := 0
def trigArmed : Nat := 1
def trigFired : Nat := 2
def trigSkipped : Nat := 3
def trigRefused : Nat := 4

/-- The state of a trigger. -/
def Hw.trigState (h : Hw) (t : Nat) : Nat := h.f (CAL_TRIG_STAT t) CAL_TRIG_STAT.state

/-- Set the state of a trigger. -/
def Hw.setTrig (h : Hw) (t st : Nat) : Hw := h.setF (CAL_TRIG_STAT t) CAL_TRIG_STAT.state st

/-- A field of a trigger's configuration. -/
def Hw.trigCfg (h : Hw) (t : Nat) (f : Fld) : Nat := h.f (CAL_TRIG_CFG t) f

/-- The direction in which a trigger's axis reaches values: −1 on an encoder with dir set, else 1. -/
def Hw.trigSign (h : Hw) (t : Nat) : Int :=
  let a := h.trigCfg t CAL_TRIG_CFG.axis
  if (a = 1 ∨ a = 2) ∧ h.trigCfg t CAL_TRIG_CFG.dir = 1 then -1 else 1

/-- A trigger's period in axis units; 0 means once. -/
def Hw.trigPeriod (h : Hw) (t : Nat) : Nat :=
  (h.reg (CAL_TRIG_PERIOD t)).toNat * (if h.trigCfg t CAL_TRIG_CFG.scale = 1 then 1000 else 1)

/-- How far an axis has gone past a trigger's next value, in the trigger's direction. -/
def Hw.trigPast (h : Hw) (t : Nat) : Int :=
  h.trigSign t * (h.axisValue (h.trigCfg t CAL_TRIG_CFG.axis) - h.cal.next.at t)

/-- Advance a trigger's next value by `n` periods. -/
def Hw.trigAdvance (h : Hw) (t n : Nat) : Hw :=
  let d : Int := h.trigSign t * ((n * h.trigPeriod t : Nat) : Int)
  h.updCal fun c => { c with next := c.next.set t (c.next.at t + d) }

/-- The level of a TRIG_OUT ball: active is high with polarity 0. -/
def trigLevel (polarity : Nat) (active : Bool) : Bool := active != decide (polarity = 1)

/-- The names of the TRIG_OUT balls. -/
def trigOutName (n : Nat) : String := "TRIG_OUT" ++ toString n

/-- What a firing does at its target (R299); field triggers drive nothing on a unit that does not hold the interlock (R282). -/
def Hw.trigTarget (h : Hw) (t : Nat) : Hw :=
  let target := h.trigCfg t CAL_TRIG_CFG.target
  if h.trigCfg t CAL_TRIG_CFG.class = 0 then
    if ¬h.acts then h
    else
      let h := h.updCal fun c => { c with pulses := c.pulses.set t (max 1 (h.trigCfg t CAL_TRIG_CFG.width)) }
      h.emit (.pin (trigOutName target) (trigLevel (h.trigCfg t CAL_TRIG_CFG.polarity) true))
  else if target = 0 then h.updCal fun c => { c with meterAlign := true }
  else if target ≤ 4 then
    let g := target - 1
    if h.grpState g = grpArmed ∧ h.f (AXL_GRP_CFG g) AXL_GRP_CFG.start = 3 then h.updGroup g fun x => { x with fired := true }
    else h
  else
    let gps : Int := h.now - toInt 31 (h.f GNS_TIME_OFS GNS_TIME_OFS.offset)
    if h.flag GNS_TIME_OFS GNS_TIME_OFS.valid then h.setReg64 (CAL_TRIG_LATE_LO t) (ofInt 64 gps)
    else
      let free := (Config.freeWord h.freeCtr).toNat + (Config.freeWord (h.freeCtr + 1)).toNat * 2 ^ 32
      (h.useFree 2).setReg64 (CAL_TRIG_LATE_LO t) free

/-- A trigger fires (R299). -/
def Hw.trigFire (h : Hw) (t : Nat) : Hw :=
  let h := (h.trigTarget t).countUp (CAL_TRIG_STAT t) CAL_TRIG_STAT.fires
  let h := if h.trigPeriod t = 0 then h.setTrig t trigFired else h
  h.raise CAL_IRQ_STAT CAL_IRQ_STAT.trig_fired t

/-- Multiples of a trigger are missed. -/
def Hw.trigMiss (h : Hw) (t n : Nat) : Hw :=
  h.setF (CAL_TRIG_STAT t) CAL_TRIG_STAT.missed (min 255 (h.f (CAL_TRIG_STAT t) CAL_TRIG_STAT.missed + n))

/-- An armed trigger whose next value lies behind the axis follows its late policy (R300). -/
def Hw.trigLate (h : Hw) (t : Nat) : Hw :=
  let past := h.trigPast t
  if h.trigState t ≠ trigArmed ∨ past ≤ 0 then h
  else
    let h := ((h.setFlag (CAL_TRIG_STAT t) CAL_TRIG_STAT.late true).setReg64 (CAL_TRIG_LATE_LO t) past.toNat).raise
      CAL_IRQ_STAT CAL_IRQ_STAT.trig_late t
    let p := h.trigPeriod t
    let passed := if p = 0 then 0 else (past.toNat - 1) / p
    if h.trigCfg t CAL_TRIG_CFG.late_policy = 0 then
      let h := (h.trigMiss t passed).trigFire t
      if p = 0 then h else h.trigAdvance t (passed + 1)
    else if p = 0 then h.setTrig t trigSkipped
    else (h.trigMiss t (passed + 1)).trigAdvance t (passed + 1)

/-- Armed triggers of the site axis are judged again after a step or a wake (R300). -/
def Hw.trigRejudge (h : Hw) : Hw :=
  (List.range 16).foldl (fun h t => if h.trigCfg t CAL_TRIG_CFG.axis = 0 then h.trigLate t else h) h

/-- Why a go is refused, 0 where it is not: pin in use, axis unavailable, bad target (R301, CAL_TRIG_STAT.reason). -/
def Hw.trigRefusal (h : Hw) (t : Nat) : Nat :=
  let axis := h.trigCfg t CAL_TRIG_CFG.axis
  let target := h.trigCfg t CAL_TRIG_CFG.target
  let field := decide (h.trigCfg t CAL_TRIG_CFG.class = 0)
  if (field ∧ target > 7) ∨ (¬field ∧ target > 5) then 3
  else if field ∧ (List.range 16).any fun u => decide (u ≠ t ∧ h.trigState u = trigArmed ∧
      h.trigCfg u CAL_TRIG_CFG.class = 0 ∧ h.trigCfg u CAL_TRIG_CFG.target = target) then 1
  else if ((axis = 1 ∨ axis = 2) ∧ ¬h.flag (CAL_ENC_CFG (axis - 1)) CAL_ENC_CFG.enable) ∨
      (axis = 3 ∧ ¬h.flag CAL_MAINS_HI CAL_MAINS_HI.valid) then 2
  else 0

/-- A write of CAL_TRIG_CFG.go or cancel (R299–R301). A write with both leaves the trigger disarmed (log entry 26). -/
def Hw.trigWritten (h : Hw) (t : Nat) (v : Word) : Hw :=
  if CAL_TRIG_CFG.cancel.get v = 1 then (if h.trigState t = trigArmed then h.setTrig t trigIdle else h)
  else if CAL_TRIG_CFG.go.get v = 0 then h
  else
    let h := h.setReg (CAL_TRIG_STAT t) 0
    match h.trigRefusal t with
    | 0 =>
      let h := h.updCal fun c => { c with next := c.next.set t (toInt 64 (h.reg64 (CAL_TRIG_START_LO t))) }
      (h.setTrig t trigArmed).trigLate t
    | r => (h.setTrig t trigRefused).setF (CAL_TRIG_STAT t) CAL_TRIG_STAT.reason r

/-- An armed trigger's axis reaches its value (R299). -/
def Hw.trigReached (h : Hw) (t : Nat) : Hw :=
  if h.trigState t ≠ trigArmed then h
  else
    let p := h.trigPeriod t
    let h := h.trigFire t
    if p = 0 then h else h.trigAdvance t 1

/-- The pulses of TRIG_OUT balls run down, tick by tick; a pulse that ends makes the ball inactive (R299). -/
def Hw.pulseTick (h : Hw) : Hw :=
  (List.range 16).foldl (fun h t =>
    match h.cal.pulses.at t with
    | 0 => h
    | n + 1 =>
      let h := h.updCal fun c => { c with pulses := c.pulses.set t n }
      if n = 0 then
        h.emit (.pin (trigOutName (h.trigCfg t CAL_TRIG_CFG.target)) (trigLevel (h.trigCfg t CAL_TRIG_CFG.polarity) false))
      else h) h

/-! ### States, steps and the servo (R287–R290) -/

/-- The states of CAL_STAT.state. -/
def calUnset : Nat := 0
def calTracking : Nat := 1
def calHoldover : Nat := 2
def calSlept : Nat := 3
def calFree : Nat := 4

/-- The state of Calends. -/
def Hw.calState (h : Hw) : Nat := h.f CAL_STAT CAL_STAT.state

/-- Set the state of Calends. -/
def Hw.setCalState (h : Hw) (st : Nat) : Hw := h.setF CAL_STAT CAL_STAT.state st

/-- CAL_UNC as it stands: in holdover it grows at hold_ppb from the value at entry; it saturates (R289). -/
def Hw.unc (h : Hw) : Nat :=
  if h.calState = calHoldover then
    min 0xFFFFFFFF (h.cal.uncBase + (h.now - h.cal.uncSince) * max 1 (h.f CAL_CFG CAL_CFG.hold_ppb) / 1000000000)
  else (h.reg CAL_UNC).toNat

/-- Store CAL_UNC, saturated. -/
def Hw.setUnc (h : Hw) (u : Nat) : Hw := h.setReg CAL_UNC (BitVec.ofNat 32 (min 0xFFFFFFFF u))

/-- The uncertainty while tracking: |o| + 100 ns with the last offset (R289). -/
def Hw.trackUnc (h : Hw) : Hw := h.setUnc ((toInt 31 (h.f CAL_OFS CAL_OFS.offset)).natAbs + 100)

/-- Enter tracking. -/
def Hw.enterTracking (h : Hw) : Hw :=
  if h.calState = calTracking then h.trackUnc
  else ((h.setCalState calTracking).trackUnc).raise CAL_IRQ_STAT CAL_IRQ_STAT.tracking 0

/-- No token is held by the reservation engine (R287). -/
def Hw.noToken (h : Hw) : Bool := !h.rsv.toks.any fun p => decide (p.2.state ≠ 0)

/-- Count a refused step or unset (R287). -/
def Hw.stepRefused (h : Hw) : Hw := h.bump CAL_ERR CAL_ERR.step_refused CAL_ERR.step_sat

/-- A step of site time is allowed (R287). -/
def Hw.stepAllowed (h : Hw) : Bool := decide (h.calState = calUnset) || (decide (h.calState = calSlept) && h.noToken)

/-- Step site time, or refuse it (R287): the record's stamp is taken after the step. -/
def Hw.step (h : Hw) (off : Int) : Hw :=
  if ¬h.stepAllowed ∨ (h.now : Int) + off < 0 then h.stepRefused
  else
    let t := ((h.now : Int) + off).toNat
    let h := h.updCal fun c => { c.setTime t with sum := 0, hist := [] }
    let w := ofInt 64 off
    let h := h.event (srcOf 0x14 0) 0x0007 (BitVec.ofNat 32 w) (BitVec.ofNat 32 (w / 2 ^ 32)) 0
    let h := h.raise CAL_IRQ_STAT CAL_IRQ_STAT.step 0
    let h := if h.f CAL_CFG CAL_CFG.source = 0 then h.setCalState calFree else h.enterTracking
    h.trigRejudge

/-- The rate of the servo: 8 ns × (1 − (o × 2^−kp + Σo × 2^−ki) × 10^−9), in 2^-32 ns (R288). -/
def Hw.servoInc (h : Hw) (o sum : Int) : Int :=
  let kp := h.f CAL_SERVO CAL_SERVO.kp
  let ki := h.f CAL_SERVO CAL_SERVO.ki
  (incNominal : Int) - (incNominal : Int) * (o * (2 ^ ki : Nat) + sum * (2 ^ kp : Nat)) / ((2 ^ (kp + ki) * 1000000000 : Nat) : Int)

/-- A source offset arrives (R287–R289). -/
def Hw.calOffset (h : Hw) (o : Int) : Hw :=
  let sat : Int := max (-1073741823) (min 1073741823 o)
  let h := (h.setFlag CAL_OFS CAL_OFS.valid true).setF CAL_OFS CAL_OFS.offset (ofInt 31 sat)
  let servo := h.flag CAL_CFG CAL_CFG.servo_hw
  if servo ∧ h.stepAllowed then h.step (-o)
  else
    let h := if servo then
        let sum := h.cal.sum + o
        (h.updCal fun c => { c with sum := sum }).setInc (h.servoInc o sum)
      else h
    let st := h.calState
    if st = calTracking ∨ ((st = calHoldover ∨ st = calSlept) ∧ o.natAbs ≤ 1000) then h.enterTracking else h

/-- The source is lost: holdover, from tracking (R289). -/
def Hw.sourceLost (h : Hw) : Hw :=
  if h.calState ≠ calTracking then h
  else
    let h := h.setInc h.meanInc
    let h := h.updCal fun c => { c with uncBase := (h.reg CAL_UNC).toNat, uncSince := h.now }
    (h.setCalState calHoldover).raise CAL_IRQ_STAT CAL_IRQ_STAT.holdover 0

/-- The CAL_CTRL.unset write (R287). -/
def Hw.calUnsetWritten (h : Hw) : Hw :=
  if ¬h.noToken ∨ h.f STP_STAT STP_STAT.state = 2 then h.stepRefused
  else h.setCalState calUnset

/-- The Time domain restarts after `count` Vigil counts: the counter advances, and Calends enters slept (R290). -/
def Hw.calWake (h : Hw) (count : Nat) : Hw :=
  let ps := count * 30517578125 / 1000
  let f := h.now * 2 ^ 32 + h.cal.frac + ps * 2 ^ 32 / 1000
  let ns := f / 2 ^ 32
  let unc := h.unc + ps * 30 / 1000000000 + 30518
  let h := h.updCal fun c => { c with sec := ns / 1000000000, ns := ns % 1000000000, frac := f % 2 ^ 32, hist := [] }
  let h := (h.setCalState calSlept).setUnc unc
  (h.setReg64 CAL_SLEEP_LO (count % 2 ^ 48)).trigRejudge

/-! ### Transmit timestamps (R293) -/

/-- A transmit timestamp enters the queue, or is discarded by a full one. -/
def Hw.tsqPush (h : Hw) (port msgType seqId : Nat) : Hw :=
  if h.cal.tsq.length ≥ 16 then
    (h.bump CAL_ERR CAL_ERR.tsq_overflow CAL_ERR.tsq_sat).raise CAL_IRQ_STAT CAL_IRQ_STAT.tsq_overflow 0
  else
    (h.updCal fun c => { c with tsq := c.tsq ++ [⟨port, msgType, seqId, c.sec, c.ns⟩] }).raise
      CAL_IRQ_STAT CAL_IRQ_STAT.tsq_ready 0

/-- The three words of a queue entry. -/
def TsEntry.words (e : TsEntry) : Word × Word × Word :=
  (CAL_TSQ_ID.valid.set (CAL_TSQ_ID.port.set (CAL_TSQ_ID.msg_type.set (CAL_TSQ_ID.seq_id.set 0 e.seqId) e.msgType) e.port) 1,
   BitVec.ofNat 32 e.ns, BitVec.ofNat 32 e.sec)

/-- Pop the oldest timestamp for a master (R293). -/
def Hw.tsqPop (h : Hw) (m : Nat) : Hw × Word :=
  let ((w0, w1, w2), rest) := match h.cal.tsq with
    | [] => (((0 : Word), (0 : Word), (0 : Word)), [])
    | e :: es => (e.words, es)
  let h := h.updCal fun c => { c with tsq := rest }
  ((h.setReadShadow m CAL_TSQ_NS w1).setReadShadow m CAL_TSQ_S w2, w0)

/-! ### Registers -/

/-- The advertised clockClass (R289). -/
def Hw.clockClass (h : Hw) : Nat :=
  let st := h.calState
  if h.flag ETH_PTP_CFG ETH_PTP_CFG.slave_only then 255
  else if st = calTracking ∧ h.f CAL_CFG CAL_CFG.source = 1 then 6
  else if st = calHoldover ∨ st = calSlept then 7
  else 248

/-- The live word of a CAL register. -/
def Hw.viewCal (h : Hw) (k : Nat) : Word :=
  if k = CAL_STAT then CAL_STAT.clock_class.set (h.reg k) h.clockClass
  else if k = CAL_UNC then BitVec.ofNat 32 h.unc
  else if k = CAL_TIME_NS then BitVec.ofNat 32 h.cal.ns
  else if k = CAL_TIME_S_LO then BitVec.ofNat 32 h.cal.sec
  else if k = CAL_TIME_S_HI then BitVec.ofNat 32 (h.cal.sec / 2 ^ 32 % 2 ^ 16)
  else match h.cal.tsq with
    | e :: _ => if k = CAL_TSQ_ID then e.words.1 else if k = CAL_TSQ_NS then e.words.2.1
      else if k = CAL_TSQ_S then e.words.2.2 else h.reg k
    | [] => h.reg k

/-! ### The commands -/

/-- TIME_SNAPSHOT: a read of CAL_TIME_NS (R285). -/
def execTimeSnapshot (via : BusAcc) (s : State) : Host.Outcome State Fault Refusal :=
  run s fun h => h.regReadWith via CAL_TIME_NS fun h =>
    ((h.setReadShadow via.master.num CAL_TIME_S_LO (h.viewCal CAL_TIME_S_LO)).setReadShadow via.master.num CAL_TIME_S_HI
      (h.viewCal CAL_TIME_S_HI), h.viewCal CAL_TIME_NS)

/-- INCREMENT_WRITE: a write of CAL_INC_INT (R286). -/
def execIncrementWrite (via : BusAcc) (value : Word) (s : State) : Host.Outcome State Fault Refusal :=
  run s fun h => h.regWrite via CAL_INC_INT value fun _ h => h.incWritten

/-- STEP: a write of CAL_STEP_HI (R287). -/
def execStep (via : BusAcc) (high : Word) (s : State) : Host.Outcome State Fault Refusal :=
  run s fun h => h.regWrite via CAL_STEP_HI high fun low h => h.step (toInt 64 (low.toNat + high.toNat * 2 ^ 32))

/-- UNSET: a write of CAL_CTRL.unset = 1 (R287). -/
def execUnset (via : BusAcc) (s : State) : Host.Outcome State Fault Refusal :=
  run s fun h => h.regWrite via CAL_CTRL (BitVec.ofNat 32 (2 ^ 31)) fun _ h => h.calUnsetWritten

/-- A PTP offset: it counts where PTP is the source (R288). -/
def Hw.ptpOffset (h : Hw) (o : Int) : Hw := if h.f CAL_CFG CAL_CFG.source = 2 then h.calOffset o else h

/-- OFFSET_IN: a write of CAL_OFS_IN (R288). -/
def execOffsetIn (via : BusAcc) (value : Word) (s : State) : Host.Outcome State Fault Refusal :=
  run s fun h => h.regWrite via CAL_OFS_IN value fun _ h => h.ptpOffset (toInt 32 value.toNat)

/-- SOURCE_LOST (R289). -/
def execSourceLost (s : State) : Host.Outcome State Fault Refusal := run s Hw.sourceLost

/-- TSQ_POP: a read of CAL_TSQ_ID (R293). -/
def execTsqPop (via : BusAcc) (s : State) : Host.Outcome State Fault Refusal :=
  run s fun h => h.regReadWith via CAL_TSQ_ID fun h => h.tsqPop via.master.num

/-- ENCODER_EDGE: the filtered levels of an encoder's inputs (R298). -/
def execEncoderEdge (n : Fin 2) (a b : Bool) (s : State) : Host.Outcome State Fault Refusal :=
  run s fun h => h.encoderEdge n.val a b

/-- TRIGGER_ARM: a write of CAL_TRIG_CFG with go = 1 (R299–R301). -/
def execTriggerArm (via : BusAcc) (t : Fin 16) (value : Word) (s : State) : Host.Outcome State Fault Refusal :=
  run s fun h => h.regWrite via (CAL_TRIG_CFG t.val) (CAL_TRIG_CFG.go.set value 1) fun _ h =>
    h.trigWritten t.val (CAL_TRIG_CFG.go.set value 1)

/-- TRIGGER_CANCEL: a write of CAL_TRIG_CFG with cancel = 1 (R301). -/
def execTriggerCancel (via : BusAcc) (t : Fin 16) (value : Word) (s : State) : Host.Outcome State Fault Refusal :=
  run s fun h => h.regWrite via (CAL_TRIG_CFG t.val) (CAL_TRIG_CFG.cancel.set value 1) fun _ h =>
    h.trigWritten t.val (CAL_TRIG_CFG.cancel.set value 1)

/-- TRIGGER_FIRE (R299). -/
def execTriggerFire (t : Fin 16) (s : State) : Host.Outcome State Fault Refusal := run s fun h => h.trigReached t.val

end Sys2Proof.Machine
end

