-- ==== Sys2Proof/Machine/Gnss.lean ====
section
/-! DEFINITION. The GNSS reference receiver: band links, channels, acquisition, the consistency monitor and the record writer
(spec/04_gnss_reference.md, R102–R118, R121–R123). -/

namespace Sys2Proof.Machine

open Reg

/-! ### Signals (R105, R106) -/

/-- The constellation of a signal code: 0 GPS, 1 Galileo, 2 BeiDou, 3 GLONASS, 4 QZSS (R106, R121). -/
def conOf (sig : Nat) : Nat := [0, 0, 0, 1, 1, 1, 2, 2, 2, 2, 3, 3, 4, 4, 4].getD sig 5

/-- The band of a signal (R106). -/
def bandOf (sig : Nat) : Nat := [0, 1, 2, 0, 2, 2, 0, 0, 2, 1, 0, 1, 0, 1, 2].getD sig 0

/-- The satellites of a constellation (R106). -/
def satsOf (con : Nat) : Nat := [32, 36, 63, 24, 10].getD con 0

/-- The carrier frequency of a signal in Hz, with the GLONASS k + 7 (15 elsewhere, and where it is not known: taken as k = 0). The
interface documents of the constellations give these values (log entry 27). -/
def carrierHz (sig k : Nat) : Nat :=
  let kk := if k ≤ 13 then k else 7
  if sig = 10 then 1602000000 - 7 * 562500 + kk * 562500
  else if sig = 11 then 1246000000 - 7 * 437500 + kk * 437500
  else [1575420000, 1227600000, 1176450000, 1575420000, 1176450000, 1207140000, 1561098000, 1575420000, 1176450000,
    1268520000, 0, 0, 1575420000, 1227600000, 1176450000].getD sig 0

/-- The sample rate of a band (R102). -/
def sampleRate (code : Nat) : Nat := [81840000, 40920000, 20460000].getD code 20460000

/-- A signal is trackable on an antenna: its carrier lies within ±0.4 × the sample rate of the band's LO (R105). -/
def Hw.fitsBand (h : Hw) (ant sig k : Nat) : Bool :=
  let b := GNS_BAND_CFG ant (bandOf sig)
  let d : Int := (carrierHz sig k : Int) - (h.f b GNS_BAND_CFG.lo * 10 : Nat)
  decide (sig < 15) && h.flag b GNS_BAND_CFG.enable &&
    decide (d.natAbs * 10 ≤ sampleRate (h.f b GNS_BAND_CFG.rate) * 4)

/-! ### Channels and allocation (R107, R108) -/

/-- Change the receiver. -/
def Hw.updGns (h : Hw) (f : GnsSt → GnsSt) : Hw := { h with gns := f h.gns }

/-- A channel. -/
def Hw.gch (h : Hw) (c : Nat) : GnsCh := h.gns.chs.at c

/-- Replace a channel. -/
def Hw.setGch (h : Hw) (c : Nat) (x : GnsCh) : Hw := h.updGns fun g => { g with chs := g.chs.set c x }

/-- The states of GNS_STAT.state. -/
def gnsOff : Nat := 0
def gnsSearching : Nat := 1
def gnsRunning : Nat := 2
def gnsHalted : Nat := 3

/-- The state of the receiver. -/
def Hw.gnsState (h : Hw) : Nat := h.f GNS_STAT GNS_STAT.state

/-- The receiver runs: it searches or has its time solution. -/
def Hw.gnsUp (h : Hw) : Bool := decide (h.gnsState = gnsSearching ∨ h.gnsState = gnsRunning)

/-- The number of a satellite in the table. -/
def satKey (con sv : Nat) : Nat := con * 64 + sv

/-- The satellite of a signal and number. -/
def Hw.satOf (h : Hw) (sig sv : Nat) : Sat := h.gns.sats.at (satKey (conOf sig) sv)

/-- The elevation mask of a signal in degrees; above 90 acts as 90 (GNS_SIG_CFG). -/
def Hw.elevMask (h : Hw) (sig : Nat) : Nat := min 90 (h.f (GNS_SIG_CFG sig) GNS_SIG_CFG.elev_mask)

/-- The channel cap of an antenna; 0 turns it off (R107). -/
def Hw.quota (h : Hw) (ant : Nat) : Nat := h.f (GNS_ANT_CFG ant) GNS_ANT_CFG.quota

/-- A satellite-signal that an antenna is to track: signal enabled and trackable there, antenna on, satellite healthy and at or
above the mask (R105, R107, R108). -/
def Hw.wantsSignal (h : Hw) (ant sig sv : Nat) : Bool :=
  let s := h.satOf sig sv
  h.gnsUp && h.flag (GNS_SIG_CFG sig) GNS_SIG_CFG.enable && decide (h.quota ant > 0) && h.fitsBand ant sig s.k &&
    s.healthy && decide (h.elevMask sig * 100 ≤ s.elev)

/-- The active reference antenna, and the other antenna of the configured pair (R107, R115). -/
def Hw.activeRef (h : Hw) : Nat := h.f GNS_STAT GNS_STAT.active_ref
def Hw.otherRef (h : Hw) : Nat :=
  if h.activeRef = h.f GNS_CFG GNS_CFG.ref_ant then h.f GNS_CFG GNS_CFG.alt_ant else h.f GNS_CFG GNS_CFG.ref_ant

/-- The allocation key of a triple, smaller is better: antenna rank, priority descending, elevation descending (R107). -/
def Hw.allocKey (h : Hw) (ant sig sv : Nat) : Nat :=
  let rank := if ant = h.activeRef then 0 else if ant = h.otherRef then 1 else 2
  rank * 2 ^ 20 + (15 - h.f (GNS_SIG_CFG sig) GNS_SIG_CFG.prio) * 2 ^ 16 + (9000 - (h.satOf sig sv).elev)

/-- Channels in use: listed, neither idle nor retired. -/
def Hw.usedChs (h : Hw) : List (Nat × GnsCh) := h.gns.chs.filter fun p => decide (p.2.phase ≠ .idle ∧ p.2.phase ≠ .retired)

/-- The channel that a triple holds. -/
def Hw.chanOf (h : Hw) (ant sig sv : Nat) : Option Nat :=
  (h.usedChs.find? fun p => decide (p.2.ant = ant ∧ p.2.sig = sig ∧ p.2.sv = sv)).map fun p => p.1

/-- A triple is queued or searched for. -/
def Hw.sought (h : Hw) (ant sig sv : Nat) : Bool :=
  (h.gns.queue.any fun q => decide (q.ant = ant ∧ q.sig = sig ∧ q.sv = sv)) ||
    (h.gns.searches.any fun p => match p.2 with
      | some (q, _) => decide (q.ant = ant ∧ q.sig = sig ∧ q.sv = sv)
      | none => false)

/-- The lowest free channel in service. -/
def Hw.freeChan (h : Hw) : Option Nat := (List.range 512).find? fun c => decide ((h.gch c).phase = .idle)

/-- The tracking channel with the worst key. -/
def Hw.worstChan (h : Hw) : Option Nat :=
  ((h.usedChs.filter fun p => decide (p.2.phase = .tracking)).foldl
    (fun (best : Option (Nat × Nat)) p =>
      let k := h.allocKey p.2.ant p.2.sig p.2.sv
      match best with
      | none => some (p.1, k)
      | some (_, bk) => if k > bk then some (p.1, k) else best) none).map fun p => p.1

/-- Release a channel: it goes idle (R108). -/
def Hw.releaseChan (h : Hw) (c : Nat) : Hw := if (h.gch c).phase = .retired then h else h.setGch c default

/-- Start a channel in pull-in for a triple, if R107 gives it one: a free channel, or the worst tracking channel where the
demand's key is better. -/
def Hw.allocate (h : Hw) (ant sig sv k : Nat) : Hw :=
  let x : GnsCh := { (default : GnsCh) with phase := .pullIn, ant := ant, sig := sig, sv := sv, k := k }
  let count := (h.usedChs.filter fun p => decide (p.2.ant = ant)).length
  if ¬h.fitsBand ant sig k ∨ count ≥ h.quota ant then h
  else match h.freeChan with
    | some c => h.setGch c x
    | none =>
      match h.worstChan with
      | some c =>
        let w := h.gch c
        if h.allocKey ant sig sv < h.allocKey w.ant w.sig w.sv then h.setGch c x else h
      | none => h

/-! ### The acquisition queue and the scheduler (R109) -/

/-- A retired search slot (R109, R373 class 5). -/
def Hw.slotRetired (h : Hw) (n : Nat) : Bool := h.hlt.retired.any fun r => decide (r.cls = 5 ∧ r.inst = n)

/-- Queue a triple, merging with an entry or a channel it already has (R109). -/
def Hw.queueTriple (h : Hw) (q : AcqReq) : Hw :=
  if h.sought q.ant q.sig q.sv || (h.chanOf q.ant q.sig q.sv).isSome then h
  else h.updGns fun g => { g with queue := g.queue ++ [q] }

/-- Begin searches in the free slots, in queue order, leaving held triples where they are (R109, R28). -/
def Hw.fillSearches (h : Hw) : Hw :=
  if ¬h.gnsUp then h
  else (List.range 32).foldl (fun h n =>
    if h.slotRetired n || (h.gns.searches.at n).isSome then h
    else match h.gns.queue.find? fun q => !q.held with
      | none => h
      | some q =>
        let h := h.updGns fun g => { g with queue := g.queue.erase q, searches := g.searches.set n (some (q, h.now)) }
        let w := GNS_ACQ_STAT.state.set (GNS_ACQ_STAT.ant.set (GNS_ACQ_STAT.sig.set (GNS_ACQ_STAT.sv.set 0 q.sv) q.sig) q.ant) 1
        h.setReg (GNS_ACQ_STAT n) w) h

/-- The enabled signals of a satellite that an antenna is to track, highest priority first (lowest code where equal). -/
def Hw.wantedSignals (h : Hw) (ant con sv : Nat) : List Nat :=
  let l := (List.range 15).filter fun s => decide (conOf s = con) && h.wantsSignal ant s sv
  (List.range 16).flatMap fun p => l.filter fun s => decide (15 - h.f (GNS_SIG_CFG s) GNS_SIG_CFG.prio = p)

/-- A satellite has a channel. -/
def Hw.satHeld (h : Hw) (con sv : Nat) (tracking : Bool) : Bool :=
  h.usedChs.any fun p => decide (conOf p.2.sig = con ∧ p.2.sv = sv) && (!tracking || decide (p.2.phase = .tracking))

/-- The scheduler queues every visible satellite without a channel, on each antenna with its highest-priority signal (R109). -/
def Hw.schedule (h : Hw) : Hw :=
  h.gns.sats.foldl (fun h p =>
    let con := p.1 / 64
    let sv := p.1 % 64
    if h.satHeld con sv false then h
    else (List.range 4).foldl (fun h a =>
      match h.wantedSignals a con sv with
      | s :: _ => h.queueTriple ⟨a, s, sv, none, false⟩
      | [] => h) h) h

/-- Aided hand-off: every wanted satellite-signal that has no channel and is not sought starts from a channel already tracking its
satellite, best key first (R107, R108). -/
def Hw.handOff (h : Hw) : Hw :=
  let wants : List (Nat × Nat × Nat × Nat) := h.gns.sats.flatMap fun p =>
    let con := p.1 / 64
    let sv := p.1 % 64
    if !h.satHeld con sv true then []
    else (List.range 4).flatMap fun a => (h.wantedSignals a con sv).filterMap fun s =>
      if (h.chanOf a s sv).isSome || h.sought a s sv then none else some (h.allocKey a s sv, a, s, sv)
  (sortBy (fun w => w.1) wants).foldl (fun h w => h.allocate w.2.1 w.2.2.1 w.2.2.2 (h.satOf w.2.2.1 w.2.2.2).k) h

/-- What follows every change of channels, satellites or queue: hand-offs, requests of the scheduler, searches. -/
def Hw.gnsSettle (h : Hw) : Hw := if h.gnsUp then h.handOff.schedule.fillSearches else h

/-- Without a time solution the source of a GNSS-disciplined Calends is lost (R289). -/
def Hw.gnsSourceLost (h : Hw) : Hw := if h.f CAL_CFG CAL_CFG.source = 1 then h.sourceLost else h

/-- Every channel and search ends (R104, GNS_CFG.enable). -/
def Hw.gnsEnd (h : Hw) (st : Nat) : Hw :=
  let h := h.updGns fun g => { g with
    chs := g.chs.filter (fun p => decide (p.2.phase = .retired)), queue := [], searches := [] }
  let h := (List.range 32).foldl (fun h n => h.setReg (GNS_ACQ_STAT n) 0) h
  ((h.setF GNS_STAT GNS_STAT.state st).setFlag GNS_TIME_OFS GNS_TIME_OFS.valid false).gnsSourceLost

/-- The receiver starts searching. -/
def Hw.gnsStart (h : Hw) : Hw := (h.setF GNS_STAT GNS_STAT.state gnsSearching).gnsSettle

/-- A change of GNS_CFG.enable. -/
def Hw.gnsEnableWritten (h : Hw) : Hw :=
  if h.flag GNS_CFG GNS_CFG.enable then
    (if h.gnsState = gnsOff then h.gnsStart else h)
  else h.gnsEnd gnsOff

/-! ### Band links and the reference clock (R103, R104) -/

/-- The link conditions of GNS_BAND_STAT.link. -/
def linkTraining : Nat := 1
def linkLocked : Nat := 2
def linkError : Nat := 3

/-- Set a band link's condition. -/
def Hw.setLink (h : Hw) (a b st : Nat) : Hw := h.setF (GNS_BAND_STAT a b) GNS_BAND_STAT.link st

/-- The links of an antenna that are in a condition. -/
def Hw.anyLink (h : Hw) (a st : Nat) : Bool :=
  (List.range 3).any fun b => h.flag (GNS_BAND_CFG a b) GNS_BAND_CFG.enable && decide (h.f (GNS_BAND_STAT a b) GNS_BAND_STAT.link = st)

/-- BAND_LOCK (R103). -/
def execBandLock (ant : Fin 4) (band : Fin 3) (s : State) : Host.Outcome State Fault Refusal :=
  run s fun h => h.setLink ant.val band.val linkLocked

/-- FRAME_ERROR (R103). -/
def execFrameError (ant : Fin 4) (band : Fin 3) (s : State) : Host.Outcome State Fault Refusal :=
  run s fun h => (h.bump (GNS_BAND_STAT ant.val band.val) GNS_BAND_STAT.frame_err GNS_BAND_STAT.frame_sat).setLink
    ant.val band.val linkTraining

/-- BAND_LINK_ERROR (R103): the antenna is faulted at the next epoch. -/
def execBandLinkError (ant : Fin 4) (band : Fin 3) (s : State) : Host.Outcome State Fault Refusal :=
  run s fun h => (h.setLink ant.val band.val linkError).raise GNS_IRQ_STAT GNS_IRQ_STAT.port_fault ant.val

/-- GNSS_REF_LOST (R104). -/
def execGnssRefLost (s : State) : Host.Outcome State Fault Refusal :=
  run s fun h => ((h.setF GNS_STAT GNS_STAT.clk_state 2).gnsEnd gnsHalted).raise GNS_IRQ_STAT GNS_IRQ_STAT.clk_lost 0

/-- GNSS_REF_RESTORED (R104): the receiver restarts as after Sleep. -/
def execGnssRefRestored (s : State) : Host.Outcome State Fault Refusal :=
  run s fun h =>
    let h := h.setF GNS_STAT GNS_STAT.clk_state 1
    if h.gnsState = gnsHalted then
      (if h.flag GNS_CFG GNS_CFG.enable then h.gnsStart else h.setF GNS_STAT GNS_STAT.state gnsOff)
    else h

/-! ### Searches and channels (R108, R109) -/

/-- The GNS_ACQ_REQ write (R109): a triple that exists and is trackable on its antenna is queued, with its hint unless wide. -/
def Hw.acqRequest (h : Hw) (v : Word) : Hw :=
  let sig := GNS_ACQ_REQ.sig.get v
  let sv := GNS_ACQ_REQ.sv.get v
  let ant := GNS_ACQ_REQ.ant.get v
  if GNS_ACQ_REQ.go.get v = 0 ∨ ¬h.gnsUp ∨ sig > 14 ∨ sv = 0 ∨ sv > satsOf (conOf sig) ∨ ¬h.fitsBand ant sig (h.satOf sig sv).k then h
  else
    let hint := if GNS_ACQ_REQ.wide.get v = 1 then none else some (toInt 16 (GNS_ACQ_REQ.hint.get v))
    (h.queueTriple ⟨ant, sig, sv, hint, false⟩).fillSearches

/-- ACQ_REQUEST: a write of GNS_ACQ_REQ with go = 1 (R109). -/
def execAcqRequest (via : BusAcc) (value : Word) (s : State) : Host.Outcome State Fault Refusal :=
  run s fun h => h.regWrite via GNS_ACQ_REQ (GNS_ACQ_REQ.go.set value 1) fun _ h => h.acqRequest (GNS_ACQ_REQ.go.set value 1)

/-- A search ends: its slot is free, and its status shows the result and the time it took. -/
def Hw.endSearch (h : Hw) (n since st : Nat) : Hw :=
  let h := h.updGns fun g => { g with searches := g.searches.set n none }
  (h.setF (GNS_ACQ_STAT n) GNS_ACQ_STAT.state st).setF (GNS_ACQ_STAT n) GNS_ACQ_STAT.elapsed_ms
    (min 65535 ((h.now - since) / 1000000))

/-- A search succeeds, at GLONASS k + 7 or 15: its channel starts in pull-in (R108). -/
def Hw.searchFound (h : Hw) (n k : Nat) : Hw :=
  match h.gns.searches.at n with
  | none => h
  | some (q, since) =>
    let kk := if conOf q.sig = 3 then k else 15
    ((h.endSearch n since 2).allocate q.ant q.sig q.sv kk).gnsSettle

/-- SEARCH_FOUND (R108). -/
def execSearchFound (slot : Fin 32) (k : Fin 16) (s : State) : Host.Outcome State Fault Refusal :=
  run s fun h => h.searchFound slot.val k.val

/-- A search finds nothing: its triple returns to the tail of the queue for at least 10 s (R109). -/
def Hw.searchNotFound (h : Hw) (n : Nat) : Hw :=
  match h.gns.searches.at n with
  | none => h
  | some (q, since) => ((h.endSearch n since 3).queueTriple { q with held := true }).gnsSettle

/-- SEARCH_NOT_FOUND (R109). -/
def execSearchNotFound (slot : Fin 32) (s : State) : Host.Outcome State Fault Refusal :=
  run s fun h => h.searchNotFound slot.val

/-- The 10 s hold of a triple ends (R109). -/
def Hw.searchAgain (h : Hw) (ant sig sv : Nat) : Hw :=
  (h.updGns fun g => { g with queue := g.queue.map fun q =>
    if q.ant = ant ∧ q.sig = sig ∧ q.sv = sv then { q with held := false } else q }).fillSearches

/-- SEARCH_AGAIN (R109). -/
def execSearchAgain (ant : Fin 4) (sig : Fin 15) (sv : BitVec 6) (s : State) : Host.Outcome State Fault Refusal :=
  run s fun h => h.searchAgain ant.val sig.val sv.toNat

/-- Act on a channel in a phase, and let what follows from it happen. -/
def Hw.inPhase (h : Hw) (c : Nat) (p : ChPhase) (f : GnsCh → Hw) : Hw :=
  if (h.gch c).phase = p then (f (h.gch c)).gnsSettle else h

/-- PULL_IN_LOCK (R108): lock time starts at 0, lock_loss set for the first epoch. -/
def execPullInLock (ch : Fin 512) (s : State) : Host.Outcome State Fault Refusal :=
  run s fun h => h.inPhase ch.val .pullIn fun x =>
    h.setGch ch.val { x with phase := .tracking, lockLoss := true, lockAt := h.now, cmc := [], res := none, align := none }

/-- Release a channel and queue its triple (R108). -/
def Hw.releaseToQueue (h : Hw) (c : Nat) (x : GnsCh) : Hw := (h.releaseChan c).queueTriple ⟨x.ant, x.sig, x.sv, none, false⟩

/-- PULL_IN_TIMEOUT (R108). -/
def execPullInTimeout (ch : Fin 512) (s : State) : Host.Outcome State Fault Refusal :=
  run s fun h => h.inPhase ch.val .pullIn (h.releaseToQueue ch.val)

/-- LOCK_LOSS (R108): lock_loss set at the next epoch, lock time reset, coasting. -/
def execLockLoss (ch : Fin 512) (s : State) : Host.Outcome State Fault Refusal :=
  run s fun h => h.inPhase ch.val .tracking fun x =>
    h.setGch ch.val { x with phase := .lost, lockLoss := true, lockAt := h.now, cmc := [], res := none, align := none }

/-- RELOCK (R108): lock time from 0. -/
def execRelock (ch : Fin 512) (s : State) : Host.Outcome State Fault Refusal :=
  run s fun h => h.inPhase ch.val .lost fun x => h.setGch ch.val { x with phase := .pullIn, lockAt := h.now }

/-- LOST_TIMEOUT (R108). -/
def execLostTimeout (ch : Fin 512) (s : State) : Host.Outcome State Fault Refusal :=
  run s fun h => h.inPhase ch.val .lost (h.releaseToQueue ch.val)

/-- Record a satellite's elevation (0.01°), health and GLONASS k + 7. -/
def Hw.setSat (h : Hw) (con sv elev k : Nat) (healthy : Bool) : Hw :=
  h.updGns fun g => { g with sats := g.sats.set (satKey con sv) ⟨min 9000 elev, healthy, if con = 3 then k else 15⟩ }

/-- A satellite falls below the masks or becomes unhealthy: its tracking channels below elev_mask − 1°, or all of them, are released
(R108); the other commands that name a satellite find its new elevation. -/
def Hw.satelliteSet (h : Hw) (con sv elev : Nat) (healthy : Bool) : Hw :=
  let h := h.setSat con sv elev (h.gns.sats.at (satKey con sv)).k healthy
  (h.usedChs.foldl (fun h p =>
    if conOf p.2.sig = con ∧ p.2.sv = sv ∧ p.2.phase = .tracking ∧ (¬healthy ∨ elev + 100 < h.elevMask p.2.sig * 100)
    then h.releaseChan p.1 else h) h).gnsSettle

/-- SATELLITE_SET (R108). -/
def execSatelliteSet (con : Fin 5) (sv : BitVec 6) (elev : Fin 9001) (healthy : Bool) (s : State) :
    Host.Outcome State Fault Refusal :=
  run s fun h => h.satelliteSet con.val sv.toNat elev.val healthy

/-- SATELLITE_RISE (R109): the scheduler queues its triples. -/
def execSatelliteRise (con : Fin 5) (sv : BitVec 6) (elev : Fin 9001) (k : Fin 16) (s : State) :
    Host.Outcome State Fault Refusal :=
  run s fun h => (h.setSat con.val sv.toNat elev.val k.val true).gnsSettle

/-- TIME_SOLUTION (R111): searching turns into running; the offset is site time minus GPS time in ns. -/
def Hw.setTimeOfs (h : Hw) (o : Int) : Hw :=
  let sat : Int := max (-1073741823) (min 1073741823 o)
  (h.setF GNS_TIME_OFS GNS_TIME_OFS.offset (ofInt 31 sat)).setFlag GNS_TIME_OFS GNS_TIME_OFS.valid true

/-- TIME_SOLUTION (R111). -/
def execTimeSolution (offset : Int) (s : State) : Host.Outcome State Fault Refusal :=
  run s fun h => if h.gnsState = gnsSearching then (h.setTimeOfs offset).setF GNS_STAT GNS_STAT.state gnsRunning else h

/-! ### Antennas (R115, R116) -/

/-- An antenna beyond its registers. -/
def Hw.gant (h : Hw) (a : Nat) : GnsAnt := h.gns.ants.at a

/-- Change an antenna. -/
def Hw.updAnt (h : Hw) (a : Nat) (f : GnsAnt → GnsAnt) : Hw := h.updGns fun g => { g with ants := g.ants.upd a f }

/-- GNS_ANT_STAT.state: off, no link, up, faulted. -/
def Hw.antState (h : Hw) (a : Nat) : Nat :=
  if h.quota a = 0 then 0
  else if (h.gant a).faulted then 3
  else if h.anyLink a linkLocked then 2
  else 1

/-- An antenna is up. -/
def Hw.antUp (h : Hw) (a : Nat) : Bool := decide (h.antState a = 2)

/-- The GNS_CTRL.restore write (R116). -/
def Hw.restoreWritten (h : Hw) : Hw :=
  if h.antUp (h.f GNS_CFG GNS_CFG.ref_ant) then h.updGns fun g => { g with restore := true } else h

/-- REFERENCE_RESTORE: a write of GNS_CTRL.restore = 1 (R116). -/
def execReferenceRestore (via : BusAcc) (s : State) : Host.Outcome State Fault Refusal :=
  run s fun h => h.regWrite via GNS_CTRL (BitVec.ofNat 32 (2 ^ 31)) fun _ h => h.restoreWritten

/-- An observation of an epoch (R112): channel, measurement with the GLONASS correction applied, lock_loss, lock time in 0.1 s,
verdict and score. -/
structure EpochObs where
  ch : Nat
  ant : Nat
  sig : Nat
  sv : Nat
  k : Nat
  pr : Nat
  cp : Int
  dop : Int
  cn0 : Nat
  half : Bool
  lockLoss : Bool
  lock : Nat
  res : Int
  verdict : Nat
  score : Nat
deriving DecidableEq, Repr, Inhabited

/-- The GLONASS code bias of a signal in mm (R118). -/
def Hw.gloBias (h : Hw) (sig k : Nat) : Int :=
  if sig = 10 ∧ k ≤ 13 then toInt 16 (h.f (GNS_GLO_IFB k) GNS_GLO_IFB.l1_mm)
  else if sig = 11 ∧ k ≤ 13 then toInt 16 (h.f (GNS_GLO_IFB k) GNS_GLO_IFB.l2_mm)
  else 0

/-- A pseudorange less its GLONASS bias, to the nearest 2^-10 m (R118). -/
def Hw.corrected (h : Hw) (sig k pr : Nat) : Nat := ((pr : Int) - (h.gloBias sig k * 1024 + 500) / 1000).toNat

/-- The observations of the tracking channels, in channel order (R108, R112). -/
def Hw.epochObs (h : Hw) (meas : List ObsMeas) : List EpochObs :=
  h.gns.chs.filterMap fun p =>
    let x := p.2
    if x.phase ≠ .tracking ∨ x.skipNext then none
    else match meas.find? fun m => decide (m.ch.val = p.1) with
      | none => none
      | some m =>
        some { ch := p.1, ant := x.ant, sig := x.sig, sv := x.sv, k := x.k, pr := h.corrected x.sig x.k m.pr.toNat,
               cp := m.cp.toInt, dop := m.dop.toInt, cn0 := m.cn0.toNat, half := m.half, lockLoss := x.lockLoss,
               lock := min 65535 ((h.now - x.lockAt) / 100000000), res := m.cp.toInt - m.pred, verdict := 3, score := 0 }

/-- Code minus carrier in µm (R114): pr × 10^6 / 2^10 − cp × λ. -/
def EpochObs.cmc (o : EpochObs) : Int :=
  (o.pr : Int) * 1000000 / 1024 - o.cp * 299792458000000 / ((65536 * carrierHz o.sig o.k : Nat) : Int)

/-- The window of the monitor in ns; 0 acts as 1 s. -/
def Hw.monWindow (h : Hw) : Nat := max 1 (h.f GNS_MON_CFG GNS_MON_CFG.window_s) * 1000000000

/-- A list's median: the middle value, or the floor of the mean of the two middle ones (log entry 28). -/
def median (l : List Nat) : Option Nat :=
  let s := sortBy id l
  let n := s.length
  if n = 0 then none
  else if n % 2 = 1 then s[n / 2]?
  else some ((s.getD (n / 2 - 1) 0 + s.getD (n / 2) 0) / 2)

/-- Enter an epoch's observations into the channels' windows, half cycle and C/N0. -/
def Hw.enterObs (h : Hw) (obs : List EpochObs) : Hw :=
  obs.foldl (fun h o =>
    let x := h.gch o.ch
    let old := x.cmc.filter fun p => decide (h.now < p.1 + h.monWindow)
    h.setGch o.ch { x with half := o.half, cn0 := o.cn0, cmc := old ++ [(h.now, o.cmc)] }) h

/-- The deviation of two channels' code-minus-carrier difference from its mean over the window that both have, in µm (R114). -/
def Hw.deviation (h : Hw) (c d : Nat) : Int :=
  let ds := (h.gch c).cmc.filterMap fun p => ((h.gch d).cmc.find? fun q => decide (q.1 = p.1)).map fun q => p.2 - q.2
  match ds.getLast? with
  | none => 0
  | some l => l - ds.foldl (· + ·) 0 / (ds.length : Nat)

/-- The multipath score of two channels (R114). -/
def Hw.mpScore (h : Hw) (c d : Nat) : Nat :=
  min 15 (8 * (h.deviation c d).natAbs / (max 1 (h.f GNS_MON_CFG GNS_MON_CFG.mp_thresh) * 50000))

/-- A carrier jump between two observations: the change of their residuals' difference since the last epoch exceeds 0.1 cycle
(R114). -/
def Hw.jump (h : Hw) (o p : EpochObs) : Bool :=
  match (h.gch o.ch).res, (h.gch p.ch).res with
  | some a, some b => decide (((o.res - a) - (p.res - b)).natAbs * 10 > 65536)
  | _, _ => false

/-- Two observations of one satellite-signal disagree, by score or jump (R114). -/
def Hw.disagree (h : Hw) (o p : EpochObs) : Bool := decide (h.mpScore o.ch p.ch ≥ 8) || h.jump o p

/-- The disagreement of `x` is placed on it: it disagrees with two of the group that agree with each other (R114). -/
def Hw.placedOn (h : Hw) (x : EpochObs) (group : List EpochObs) : Bool :=
  let d := group.filter fun y => decide (y.ch ≠ x.ch) && h.disagree x y
  d.any fun y => d.any fun z => decide (y.ch ≠ z.ch) && !h.disagree y z

/-- Verdict and score of an observation against the others of its satellite-signal (R114). A disagreement that is placed on the
other antenna leaves this one clean (log entry 29). -/
def Hw.judge (h : Hw) (o : EpochObs) (others : List EpochObs) : Nat × Nat :=
  let top := fun (l : List EpochObs) => l.foldl (fun m p => max m (h.mpScore o.ch p.ch)) 0
  let bad := others.filter (h.disagree o)
  if others.isEmpty then (3, 0)
  else if bad.isEmpty then (0, top others)
  else if h.placedOn o (o :: others) then (2, top others)
  else if bad.all fun x => h.placedOn x (o :: others) then (0, top (others.filter fun x => !h.disagree o x))
  else (1, top others)

/-- The other observations of a satellite-signal on antennas that are not faulted (R115). -/
def Hw.peersOf (h : Hw) (o : EpochObs) (obs : List EpochObs) : List EpochObs :=
  obs.filter fun p => decide (p.sig = o.sig ∧ p.sv = o.sv ∧ p.ant ≠ o.ant) && !(h.gant p.ant).faulted

/-- Fault an antenna (R115). -/
def Hw.faultAnt (h : Hw) (a reason : Nat) : Hw :=
  if (h.gant a).faulted then h
  else (h.updAnt a fun x => { x with faulted := true, reason := reason, missing := 0, lowSince := none, cleanSince := none }).raise
    GNS_IRQ_STAT GNS_IRQ_STAT.ant_fault a

/-- Satellite-signals tracked on other antennas that are up and allocated to antenna `a`, and how many of them it lacks (R115).
Allocated is a signal with a channel or a search on that antenna (log entry 30). -/
def Hw.lacking (h : Hw) (a : Nat) : Nat × Nat :=
  let all := (h.usedChs.filter fun p => decide (p.2.ant ≠ a ∧ p.2.phase = .tracking) && h.antUp p.2.ant).map
    fun p => (p.2.sig, p.2.sv)
  let mine := (dedup all).filter fun q => (h.chanOf a q.1 q.2).isSome || h.sought a q.1 q.2
  let lacks := mine.filter fun q => !h.usedChs.any fun p =>
    decide (p.2.ant = a ∧ p.2.sig = q.1 ∧ p.2.sv = q.2 ∧ p.2.phase = .tracking)
  (mine.length, lacks.length)

/-- An antenna's C/N0 is low: its median lies below the median of the others that are up by more than cn0_drop (R115). -/
def Hw.lowCn0 (h : Hw) (a : Nat) (obs : List EpochObs) : Bool :=
  match median ((obs.filter fun o => decide (o.ant = a)).map fun o => o.cn0),
    median ((obs.filter fun o => decide (o.ant ≠ a) && h.antUp o.ant).map fun o => o.cn0) with
  | some m, some n => decide (m + h.f GNS_MON_CFG GNS_MON_CFG.cn0_drop < n)
  | _, _ => false

/-- An antenna's faults are judged at an epoch (R103, R115). -/
def Hw.judgeAnt (h : Hw) (obs : List EpochObs) (a : Nat) : Hw :=
  if h.quota a = 0 ∨ (h.gant a).faulted then h
  else if h.anyLink a linkError then h.faultAnt a 1
  else
    let (n, l) := h.lacking a
    let missing := if n > 0 ∧ 2 * l ≥ n then (h.gant a).missing + 1 else 0
    let since := if h.lowCn0 a obs then some ((h.gant a).lowSince.getD h.now) else none
    let h := h.updAnt a fun x => { x with missing := missing, lowSince := since }
    if missing ≥ max 1 (h.f GNS_MON_CFG GNS_MON_CFG.fault_epochs) then h.faultAnt a 2
    else match since with
      | some t => if h.now ≥ t + h.monWindow then h.faultAnt a 3 else h
      | none => h

/-- A faulted antenna recovers once every verdict it would give has been clean for window_s (R115). -/
def Hw.recoverAnt (h : Hw) (obs : List EpochObs) (a : Nat) : Hw :=
  if ¬(h.gant a).faulted then h
  else
    let mine := obs.filter fun o => decide (o.ant = a)
    let clean := !mine.isEmpty && !h.anyLink a linkError && mine.all fun o => decide ((h.judge o (h.peersOf o obs)).1 = 0)
    if ¬clean then h.updAnt a fun x => { x with cleanSince := none }
    else
      let t := (h.gant a).cleanSince.getD h.now
      if h.now ≥ t + h.monWindow then h.updAnt a fun _ => default
      else h.updAnt a fun x => { x with cleanSince := some t }

/-- Move the reference at this epoch (R115, R116): the Bool says that it moved. -/
def Hw.moveRef (h : Hw) : Hw × Bool :=
  let ref := h.f GNS_CFG GNS_CFG.ref_ant
  let go := fun (h : Hw) (a : Nat) => ((h.setF GNS_STAT GNS_STAT.active_ref a).raise GNS_IRQ_STAT GNS_IRQ_STAT.ref_switch a, true)
  let want := h.gns.restore
  let h := h.updGns fun g => { g with restore := false }
  if want ∧ h.antUp ref ∧ h.activeRef ≠ ref then go h ref
  else if (h.gant h.activeRef).faulted ∧ h.otherRef ≠ h.activeRef ∧ h.antUp h.otherRef then go h h.otherRef
  else (h, false)

/-! ### The base-observation record (R121–R123) -/

/-- The epoch interval in ns (GNS_CFG.rate; reserved codes act as 1 Hz, log entry 31). -/
def Hw.epochNs (h : Hw) : Nat := 1000000000 / [1, 5, 10, 20, 50].getD (h.f GNS_CFG GNS_CFG.rate) 1

/-- GPS time in ns since 1980-01-06 of a site time, with the offset site minus GPS (R111, R285). -/
def gpsFrom (site : Nat) (offset : Int) : Int := (site : Int) - offset - 315964819000000000

/-- The nominal epoch nearest to a GPS time. -/
def nominalEpoch (gps : Int) (step : Nat) : Nat := ((gps + (step / 2 : Nat)) / (step : Int)).toNat * step

/-- The order of entries: constellation, satellite, signal, antenna (R121). -/
def EpochObs.order (o : EpochObs) : Nat := ((conOf o.sig * 64 + o.sv) * 16 + o.sig) * 4 + o.ant

/-- An entry's 24 octets (R121). -/
def EpochObs.octets (o : EpochObs) (switch : Bool) : List Byte :=
  leBytes 1 (conOf o.sig + o.ant * 8) ++ leBytes 1 o.sv ++ leBytes 1 (o.sig + (if conOf o.sig = 3 then o.k else 15) * 16) ++
    leBytes 1 ((o.lockLoss || switch).toNat + o.half.toNat * 2 + o.verdict * 4 + o.score * 16) ++ leBytes 5 o.pr ++
    leBytes 7 (ofInt 56 o.cp) ++ leBytes 4 (ofInt 32 o.dop) ++ leBytes 1 o.cn0 ++ leBytes 2 o.lock ++ [0]

/-- The record's header (R121). -/
def Hw.recHeader (h : Hw) (count gps : Nat) (switch dropped : Bool) : List Byte :=
  let hold := decide (h.calState = calHoldover ∨ h.calState = calSlept)
  leBytes 2 1 ++ leBytes 2 count ++ leBytes 4 (h.reg GNS_EPOCH).toNat ++ leBytes 8 gps ++ leBytes 6 h.cal.sec ++
    leBytes 4 h.cal.ns ++ leBytes 1 (h.activeRef + switch.toNat * 4 + hold.toNat * 8 + dropped.toNat * 16) ++
    leBytes 1 (h.f GNS_CFG GNS_CFG.rate) ++ leBytes 2 (h.f (GNS_ANT_CFG h.activeRef) GNS_ANT_CFG.station_id) ++ leBytes 2 0

/-- Buffers of the ring: 2^ring_log2, 0 acting as 1. -/
def Hw.ringBufs (h : Hw) : Nat := 2 ^ max 1 (h.f GNS_REC_CFG GNS_REC_CFG.ring_log2)

/-- The context address of a buffer (R121). -/
def Hw.bufAddr (h : Hw) (i : Nat) : Nat :=
  h.f GNS_REC_BASE_LO GNS_REC_BASE_LO.base_lo * 2 ^ 14 + h.f GNS_REC_BASE_HI GNS_REC_BASE_HI.base_hi * 2 ^ 32 + i * 0x4000

/-- The context of the ring. -/
def Hw.recCtx (h : Hw) : Nat := h.f GNS_REC_CFG GNS_REC_CFG.ctx

/-- The SMU unit of the record writer. -/
def recUnit : Nat := 290

/-- Write octets of the record; an error parks the writer. A bus error parks with the walk kind (log entry 32). -/
def Hw.recStore (h : Hw) (addr : Nat) (bs : List Byte) : Hw × Bool :=
  match h.writeCtx h.recCtx addr bs with
  | (h, _, none) => (h, true)
  | (h, _, some (.fault a k)) => (h.park recUnit h.recCtx a true k, false)
  | (h, _, some .bus) => (h.park recUnit h.recCtx addr true kindWalk, false)

/-- The writer first marks its buffer invalid (R122). -/
def Hw.markBuf (h : Hw) (j : RecJob) : Hw × Bool :=
  if j.marked then (h, true)
  else
    let (h, ok) := h.recStore (h.bufAddr j.index + 4) (leBytes 4 0xFFFFFFFF)
    if ok then (h.updGns fun g => { g with job := g.job.map fun j => { j with marked := true } }, true) else (h, false)

/-- A record is dropped (R122). -/
def Hw.recDrop (h : Hw) : Hw :=
  ((h.updGns fun g => { g with dropped := true }).bump GNS_ERR GNS_ERR.rec_dropped GNS_ERR.rec_sat).raise
    GNS_IRQ_STAT GNS_IRQ_STAT.rec_dropped 0

/-- Whether a buffer is held by the fix manager or by software (R122). -/
def Hw.bufHeld (h : Hw) (i : Nat) : Bool :=
  bit (h.f GNS_REC_HOLD GNS_REC_HOLD.fix_hold) i || bit (h.f GNS_REC_HOLD GNS_REC_HOLD.sw_hold) i

/-- An epoch's record begins, or is dropped while the writer is busy or the next buffer is held (R122, R123). -/
def Hw.recStart (h : Hw) (entries : List (List Byte)) (gps : Nat) (switch : Bool) : Hw :=
  let i := h.gns.nextBuf
  if h.gns.job.isSome ∨ h.bufHeld i then h.recDrop
  else
    let j : RecJob := ⟨i, (h.reg GNS_EPOCH).toNat, false, h.recHeader entries.length gps switch h.gns.dropped, entries, 0⟩
    let h := h.updGns fun g => { g with job := some j, nextBuf := (i + 1) % h.ringBufs, dropped := false }
    ((h.setFlag GNS_REC_STAT GNS_REC_STAT.writing true).markBuf j).1

/-- Write the entries from the restart point on; the Bool says that all are written (R122, R123). -/
def Hw.writeEntries (base : Nat) : List (List Byte) → Nat → Hw → Hw × Bool
  | [], _, h => (h, true)
  | e :: es, i, h =>
    match h.recStore (base + 32 + 24 * i) e with
    | (h, true) => Hw.writeEntries base es (i + 1) (h.updGns fun g => { g with job := g.job.map fun j => { j with next := i + 1 } })
    | (h, false) => (h, false)

/-- The record completes (R122): the new state, and the completed record. -/
def Hw.recComplete (h : Hw) : Hw × Option RecJob :=
  match h.gns.job with
  | none => (h, none)
  | some j =>
    if h.isParked recUnit then (h, none)
    else
      let (h, ok) := h.markBuf j
      if ¬ok then (h, none)
      else
        let (h, ok) := Hw.writeEntries (h.bufAddr j.index) (j.entries.drop j.next) j.next h
        if ¬ok then (h, none)
        else
          let (h, ok) := h.recStore (h.bufAddr j.index) j.header
          if ¬ok then (h, none)
          else
            let h := (h.updGns fun g => { g with job := none }).unitNormal recUnit
            let w := GNS_REC_STAT.last_index.set (GNS_REC_STAT.last_epoch.set 0 (j.epoch % 65536)) j.index
            let h := (h.setReg GNS_REC_STAT w).raise GNS_IRQ_STAT GNS_IRQ_STAT.epoch 0
            (h.notice GNS_REC_NOTICE, some j)

/-- The parked record is aborted: its buffer keeps 0xFFFF_FFFF (R123). -/
def Hw.recAbort (h : Hw) : Hw :=
  ((h.updGns fun g => { g with job := none }).setFlag GNS_REC_STAT GNS_REC_STAT.writing false).unitNormal recUnit

/-! ### An epoch (R111) -/

/-- The record of the observations that an epoch gives, the verdicts entered, and whether the reference moved. -/
def Hw.epochMonitor (h : Hw) (meas : List ObsMeas) : Hw × List EpochObs × Bool :=
  let obs := h.epochObs meas
  let h := h.enterObs obs
  let h := (List.range 4).foldl (fun h a => h.judgeAnt obs a) h
  let (h, moved) := h.moveRef
  let obs := obs.map fun o =>
    let (v, sc) := h.judge o (h.peersOf o obs)
    { o with verdict := if (h.gant o.ant).faulted then 2 else v, score := sc }
  let h := (List.range 4).foldl (fun h a => h.recoverAnt obs a) h
  let h := obs.foldl (fun h o => h.setGch o.ch { h.gch o.ch with verdict := o.verdict, res := some o.res, lockLoss := false }) h
  let h := h.updGns fun g => { g with chs := g.chs.map fun p => (p.1, { p.2 with skipNext := false }) }
  (h, obs, moved)

/-- The entries of the record: the antennas of ant_mask and the active reference, sorted (R121). -/
def Hw.recEntries (h : Hw) (obs : List EpochObs) : List EpochObs :=
  sortBy EpochObs.order
    (obs.filter fun o => bit (h.f GNS_REC_CFG GNS_REC_CFG.ant_mask) o.ant || decide (o.ant = h.activeRef))

/-! ### Registers -/

/-- CH_STAT of a channel. -/
def GnsCh.stat (x : GnsCh) : Word :=
  let n := match x.phase with
    | .idle => 0 | .pullIn => 1 | .tracking => 2 | .lost => 3 | .retired => 4
  if n = 0 then 0
  else GNS_CH_STAT.state.set (GNS_CH_STAT.ant.set (GNS_CH_STAT.sig.set (GNS_CH_STAT.sv.set (GNS_CH_STAT.glo_k.set 0 x.k) x.sv) x.sig) x.ant) n

/-- The live word of a GNS register. -/
def Hw.viewGns (h : Hw) (k : Nat) : Word :=
  if k = GNS_STAT then
    GNS_STAT.ch_free.set (GNS_STAT.acq_queued.set (h.reg k) h.gns.queue.length)
      (512 - (h.gns.chs.filter fun p => decide (p.2.phase ≠ .idle)).length)
  else if GNS_CH_STAT 0 ≤ k ∧ k < GNS_CH_STAT 512 then
    let c := (k - GNS_CH_STAT 0) / 8
    let x := h.gch c
    if k = GNS_CH_STAT c then x.stat
    else
      let lock := if x.phase = .tracking then (h.now - x.lockAt) / 100000000 else 0
      let w := GNS_CH_OBS.cn0.set (GNS_CH_OBS.verdict.set (GNS_CH_OBS.half_cycle.set 0 x.half.toNat) x.verdict) x.cn0
      GNS_CH_OBS.lock_sat.set (GNS_CH_OBS.lock_ds.set w (min 1048575 lock)) (decide (lock > 1048575)).toNat
  else if GNS_ACQ_STAT 0 ≤ k ∧ k < GNS_ACQ_STAT 32 then
    match h.gns.searches.at ((k - GNS_ACQ_STAT 0) / 4) with
    | some (_, since) => GNS_ACQ_STAT.elapsed_ms.set (h.reg k) (min 65535 ((h.now - since) / 1000000))
    | none => h.reg k
  else match (List.range 4).find? fun a => decide (k = GNS_ANT_STAT a) with
    | some a =>
      let mine := h.usedChs.filter fun p => decide (p.2.ant = a)
      let med := median ((mine.filter fun p => decide (p.2.phase = .tracking)).map fun p => p.2.cn0)
      GNS_ANT_STAT.state.set (GNS_ANT_STAT.channels.set (GNS_ANT_STAT.cn0_med.set (GNS_ANT_STAT.reason.set 0 (h.gant a).reason)
        (med.getD 0)) mine.length) (h.antState a)
    | none => h.reg k

end Sys2Proof.Machine
end

