-- ==== Sys2Proof/Machine/Floats.lean ====
section
/-! DEFINITION. IEEE 754 numbers as octets spell them: decoding, exact comparison, and rounding to nearest, ties to even, with
subnormal values flushed to zero (R127). -/

namespace Sys2Proof.Machine

/-- A binary format: bits of the significand with its hidden bit, bits of the exponent. -/
structure FloatFmt where
  p : Nat
  w : Nat
deriving DecidableEq, Repr

/-- binary64 and binary32. -/
def f64 : FloatFmt := ⟨53, 11⟩
def f32 : FloatFmt := ⟨24, 8⟩

/-- The exponent field, the fraction, the sign of a number's bits. -/
def FloatFmt.expo (f : FloatFmt) (v : Nat) : Nat := v / 2 ^ (f.p - 1) % 2 ^ f.w
def FloatFmt.frac (f : FloatFmt) (v : Nat) : Nat := v % 2 ^ (f.p - 1)
def FloatFmt.sign (f : FloatFmt) (v : Nat) : Bool := v.testBit (f.p - 1 + f.w)

/-- NaN or infinite. -/
def FloatFmt.special (f : FloatFmt) (v : Nat) : Bool := decide (f.expo v = 2 ^ f.w - 1)

/-- The exponent bias. -/
def FloatFmt.bias (f : FloatFmt) : Nat := 2 ^ (f.w - 1) - 1

/-- The magnitude as mant × 2^(e − offset) with a common offset of bias + p − 1; a subnormal number is zero. -/
def FloatFmt.mant (f : FloatFmt) (v : Nat) : Nat := if f.expo v = 0 then 0 else 2 ^ (f.p - 1) + f.frac v

/-- The value as an integer multiple of the smallest step, 2^(1 − bias − (p − 1)) × 1. -/
def FloatFmt.scaled (f : FloatFmt) (v : Nat) : Int :=
  let m : Int := (f.mant v * 2 ^ (f.expo v - 1) : Nat)
  if f.sign v then -m else m

/-- The bits of a sign and the value q × 2^e (e in steps of the format's smallest exponent), rounded to nearest, ties to even;
`none` is overflow. `sticky` says that the exact value lies a little above. -/
def FloatFmt.round (f : FloatFmt) (neg : Bool) (m : Nat) (e : Int) (sticky : Bool) : Option Nat :=
  let s := if neg then 2 ^ (f.p - 1 + f.w) else 0
  if m = 0 then some s
  else
    let len := Nat.log2 m + 1
    let sh := len - f.p
    let q := m / 2 ^ sh * 2 ^ (f.p - len)
    let r := m % 2 ^ sh
    let up := decide (2 * r > 2 ^ sh ∨ (2 * r = 2 ^ sh ∧ sh > 0 ∧ (sticky ∨ q % 2 = 1)))
    let q1 := if up then q + 1 else q
    let e1 := e + (sh : Nat) - (f.p - len : Nat) + (if q1 = 2 ^ f.p then 1 else 0)
    let q2 := if q1 = 2 ^ f.p then 2 ^ (f.p - 1) else q1
    if e1 + 1 ≤ 0 then some s
    else if e1 + 1 ≥ (2 ^ f.w - 1 : Nat) then none
    else some (s + (e1 + 1).toNat * 2 ^ (f.p - 1) + (q2 - 2 ^ (f.p - 1)))

/-- The sum of two finite numbers, rounded once; `none` is overflow. -/
def FloatFmt.add (f : FloatFmt) (a b : Nat) : Option Nat :=
  let x := f.scaled a + f.scaled b
  if x = 0 then some (if f.sign a ∧ f.sign b then 2 ^ (f.p - 1 + f.w) else 0)
  else f.round (decide (x < 0)) x.natAbs 0 false

/-- A free word made a finite number that is not subnormal. -/
def FloatFmt.clean (f : FloatFmt) (v : Nat) : Nat :=
  let s := if f.sign v then 2 ^ (f.p - 1 + f.w) else 0
  if f.expo v = 0 then s
  else if f.special v then v - 2 ^ (f.p - 1 + f.w - 1)
  else v

/-- A free word made a positive finite number. -/
def FloatFmt.pos (f : FloatFmt) (v : Nat) : Nat :=
  let c := f.clean v % 2 ^ (f.p - 1 + f.w)
  if c = 0 then 2 ^ (f.p - 1) else c

/-- The number one. -/
def FloatFmt.one (f : FloatFmt) : Nat := f.bias * 2 ^ (f.p - 1)

/-- The number of octets. -/
def FloatFmt.size (f : FloatFmt) : Nat := (f.p + f.w) / 8

/-- The elements that octets spell. -/
def FloatFmt.elems (f : FloatFmt) (count : Nat) (bs : List Byte) : List Nat :=
  (List.range count).map fun i => fieldAt bs (i * f.size) f.size

/-- The octets of elements. -/
def FloatFmt.bytes (f : FloatFmt) (xs : List Nat) : List Byte := xs.flatMap (leBytes f.size)

/-- The quotient of two positive binary64 numbers in binary32, capped at 65,535 (R137). -/
def ratio32 (num den : Nat) : Nat :=
  let n := f64.scaled num
  let d := f64.scaled den
  let cap := (127 + 15) * 2 ^ 23 + (65535 - 32768) * 2 ^ 8
  if d ≤ 0 then cap
  else if n ≥ 65535 * d then cap
  else
    let q := n.toNat * 2 ^ 64 / d.toNat
    let sticky := decide (n.toNat * 2 ^ 64 % d.toNat ≠ 0)
    (f32.round false q (127 + 22 - 64) sticky).getD 0

end Sys2Proof.Machine
end

