-- ==== Sys2Proof/Machine/Matrix.lean ====
section
/-! DEFINITION. The matrix engine: submission, dispatch, results and write-back (spec/05_matrix_engine.md, R125–R145). -/

namespace Sys2Proof.Machine

open Reg

/-! ### Jobs and their slots -/

/-- Change the engine. -/
def Hw.updMtx (h : Hw) (f : MtxSt → MtxSt) : Hw := { h with mtx := f h.mtx }

/-- The job in a slot. -/
def Hw.job (h : Hw) (s : Nat) : Option MtxJob := h.mtx.slots.at s

/-- Put a job in a slot, or free it. -/
def Hw.setJob (h : Hw) (s : Nat) (j : Option MtxJob) : Hw := h.updMtx fun x => { x with slots := x.slots.set s j }

/-- Change the job of a slot. -/
def Hw.updJob (h : Hw) (s : Nat) (f : MtxJob → MtxJob) : Hw := h.setJob s ((h.job s).map f)

/-- The SMU unit of a slot (R141). -/
def mtxUnit (s : Nat) : Nat := 128 + s

/-- Jobs in flight, with their slots. -/
def Hw.jobs (h : Hw) : List (Nat × MtxJob) := h.mtx.slots.filterMap fun p => p.2.map fun j => (p.1, j)

/-- A tile in service (a self-test leaves it so). -/
def Hw.tileUp (h : Hw) (t : Nat) : Bool := decide (h.f (MTX_TILE_STAT t) MTX_TILE_STAT.state ≠ 2)

/-- The tiles in service. -/
def Hw.tilesUp (h : Hw) : List Nat := (List.range 4).filter h.tileUp

/-- The slot in a tile half. -/
def Hw.half (h : Hw) (t b : Nat) : Option Nat := h.mtx.halves.at (2 * t + b)

/-- Put a slot in a tile half, or free it. -/
def Hw.setHalf (h : Hw) (t b : Nat) (s : Option Nat) : Hw := h.updMtx fun x => { x with halves := x.halves.set (2 * t + b) s }

/-- A tile has a job computing. -/
def Hw.computing (h : Hw) (t : Nat) : Bool :=
  [0, 1].any fun b => match h.half t b with
    | some s => ((h.job s).map fun j => decide (j.phase = .computing)).getD false
    | none => false

/-- A free half of a tile. -/
def Hw.freeHalf (h : Hw) (t : Nat) : Option Nat := [0, 1].find? fun b => (h.half t b).isNone

/-! ### Layouts (R126, R129, R132) -/

/-- The elements of a packed matrix. -/
def packed (n : Nat) : Nat := n * (n + 1) / 2

/-- The format of a job's real elements. -/
def MtxJob.fmt (j : MtxJob) : FloatFmt := if bit j.flags 2 then f32 else f64

/-- The address of operand `i` (0–5: A–F). -/
def MtxJob.at (j : MtxJob) (i : Nat) : Nat := j.addrs.getD i 0

/-- The count of instances of a RESID job; 0 acts as 1. -/
def MtxJob.count (j : MtxJob) : Nat := max 1 j.aux

/-- The elements of an LDLT record: D, L, ẑ (R136). -/
def ldltElems (q : Nat) : Nat := 2 * q + packed q

/-- The input operands of a job: number and length in octets (R132). An operand with address 0 is left out where the table
allows it. -/
def MtxJob.inputs (j : MtxJob) : List (Nat × Nat) :=
  let z := j.fmt.size
  let opt := fun (i len : Nat) => if j.at i = 0 then [] else [(i, len)]
  match j.op with
  | 1 => [(0, j.aux * j.aux * z), (1, packed j.n * z), (2, packed j.n * z), (3, j.n * z)]
  | 2 => [(0, j.m * j.n * z), (1, packed j.n * z), (2, packed j.m * z), (3, j.n * z), (4, j.m * z)]
  | 3 => [(0, packed j.n * z)] ++ (if j.m = 0 then [] else [(1, j.m * j.n * z)])
  | 4 => [(0, packed j.n * z), (1, j.n * z)]
  | 5 => [(0, ldltElems j.n * 8)] ++ opt 1 (j.n * j.n * 4)
  | 6 => [(0, j.count * j.m * j.n * z), (1, j.count * j.n * z), (2, j.count * j.m * z)] ++ opt 3 (j.count * j.m * z)
  | _ => []

/-- The outputs of a job: operand and length in octets, in the order of their write-back (R132, R133). MEAS writes P and x in place
before its diagnostics (log entry 39). -/
def MtxJob.outputs (j : MtxJob) : List (Nat × Nat) :=
  let z := j.fmt.size
  let opt := fun (i len : Nat) => if j.at i = 0 then [] else [(i, len)]
  match j.op with
  | 1 => [(4, packed j.n * z), (5, j.n * z)]
  | 2 => [(1, packed j.n * z), (3, j.n * z)] ++ opt 5 ((j.m + 1) * z)
  | 3 => [(4, packed j.n * z)] ++ (if j.m = 0 then [] else [(5, j.m * j.n * z)])
  | 4 => [(4, j.n * j.n * 4), (5, ldltElems j.n * 8)]
  | 5 => [(4, 24 + 2 * j.n * 4)]
  | 6 => [(4, j.count * j.m * z), (5, j.count * 16)]
  | _ => []

/-- The operands that the table requires (R132). -/
def MtxJob.required (j : MtxJob) : List Nat :=
  match j.op with
  | 1 => [0, 1, 2, 3, 4, 5]
  | 2 => [0, 1, 2, 3, 4]
  | 3 => if j.m = 0 then [0, 4] else [0, 1, 4, 5]
  | 4 => [0, 1, 4, 5]
  | 5 => [0, 4]
  | _ => [0, 1, 2, 4, 5]

/-- The operands that an operation uses. -/
def MtxJob.used (j : MtxJob) : List Nat := dedup (j.required ++ (j.inputs.map fun p => p.1) ++ (j.outputs.map fun p => p.1))

/-- The dimensions and aux lie within R132. -/
def MtxJob.dimsOk (j : MtxJob) : Bool :=
  let top := if bit j.flags 2 then 128 else 96
  let within := fun (lo hi v : Nat) => decide (lo ≤ v ∧ v ≤ hi)
  match j.op with
  | 1 => within 1 top j.n && within 1 j.n j.aux
  | 2 => within 1 top j.n && within 1 top j.m && decide (j.aux = 0)
  | 3 => within 1 top j.n && within 0 top j.m && decide (j.aux = 0)
  | 4 => within 1 64 j.n && decide (j.m = 0)
  | 5 => within 1 64 j.n && decide (j.m = 0)
  | 6 => within 1 96 j.n && within 1 96 j.m && within 1 128 j.count &&
      decide (j.fmt.size * j.count * (j.m * j.n + j.n + 3 * j.m) ≤ 262144)
  | _ => false

/-- A job as the 64 octets of its descriptor say (R129). -/
def parseJob (b : List Byte) (ctx desc : Nat) : MtxJob :=
  { (default : MtxJob) with
    op := fieldAt b 0 1, flags := fieldAt b 1 1, n := fieldAt b 2 1, m := fieldAt b 3 1, aux := fieldAt b 4 1, ctx := ctx,
    handle := fieldAt b 6 2, addrs := (List.range 6).map fun i => fieldAt b (8 + 8 * i) 8, param := fieldAt b 56 4, desc := desc }

/-- A descriptor that is not bad (R130): a known op, reserved fields and param zero, its own context, dimensions of R132, operands
aligned and present, no fp32 on LDLT or SEARCH. -/
def MtxJob.sound (j : MtxJob) (b : List Byte) : Bool :=
  decide (1 ≤ j.op ∧ j.op ≤ 6) && decide (j.flags < 16) && decide (fieldAt b 5 1 = j.ctx) &&
    (decide (j.op = 5) || decide (j.param = 0)) && j.dimsOk && j.required.all (fun i => decide (j.at i ≠ 0)) &&
    j.used.all (fun i => decide (j.at i % 8 = 0)) && !(bit j.flags 2 && (decide (j.op = 4) || decide (j.op = 5)))

/-! ### Submission (R130, R131) -/

/-- The outcome word of a submission (MTX_SUBMIT_RES). -/
def mtxOutcome (st slot id : Nat) : Word :=
  MTX_SUBMIT_RES.status.set (MTX_SUBMIT_RES.slot.set (MTX_SUBMIT_RES.job_id.set 0 id) slot) st

/-- A refused submission changes nothing but its count, the interrupt and the outcome (R130). -/
def Hw.mtxRefuse (h : Hw) (m st : Nat) : Hw :=
  (((h.bump MTX_ERR MTX_ERR.refused MTX_ERR.refused_sat).raise MTX_IRQ_STAT MTX_IRQ_STAT.refused 0)).updMtx
    fun x => { x with results := x.results.set m (mtxOutcome st 0 0) }

/-- The MTX_SUBMIT_HI write (R130). -/
def Hw.mtxSubmit (h : Hw) (m : Nat) (low high : Word) : Hw :=
  let ctx := MTX_SUBMIT_HI.ctx.get high
  let a := MTX_SUBMIT_LO.addr_lo.get low * 64 + MTX_SUBMIT_HI.addr_hi.get high * 2 ^ 32
  if ¬h.flag MTX_CFG MTX_CFG.enable then h.mtxRefuse m 4
  else if h.tilesUp.isEmpty then h.mtxRefuse m 5
  else match (List.range 64).find? fun s => (h.job s).isNone with
    | none => h.mtxRefuse m 1
    | some s =>
      match h.readCtx ctx a 64 with
      | .error (.fault fa k) => (h.faultRecord ⟨fa, k, false, ctx, mtxUnit s⟩).mtxRefuse m 3
      | .error .bus => h.mtxRefuse m 3
      | .ok b =>
        let j := parseJob b ctx a
        if ¬j.sound b then h.mtxRefuse m 2
        else
          let id := h.mtx.nextId
          let h := h.setJob s (some { j with phase := .queued, order := h.mtx.accepted, jobId := id })
          h.updMtx fun x => { x with accepted := x.accepted + 1, nextId := (id + 1) % 65536, results := x.results.set m (mtxOutcome 0 s id) }

/-- JOB_SUBMIT: a write of MTX_SUBMIT_HI (R130). -/
def execJobSubmit (via : BusAcc) (high : Word) (s : State) : Host.Outcome State Fault Refusal :=
  run s fun h => h.regWrite via MTX_SUBMIT_HI high fun low h => h.mtxSubmit via.master.num low high

/-! ### Dispatch (R139) -/

/-- A job waits for dispatch: queued, to be retried, or resumed after it parked while loading (R141, R142). -/
def Hw.waits (h : Hw) (s : Nat) (j : MtxJob) : Bool :=
  match j.phase with
  | .queued => true
  | .retrying => true
  | .parkedLoad => !h.isParked (mtxUnit s)
  | _ => false

/-- The waiting jobs of a queue, first first: a retried job stands at the head, others in acceptance order (R139, R142). -/
def Hw.queueOrder (h : Hw) (urgent : Bool) : List (Nat × MtxJob) :=
  sortBy (fun p => if p.2.phase = .retrying then p.2.order else 2 ^ 64 + p.2.order)
    (h.jobs.filter fun p => decide (bit p.2.flags 3 = urgent) && h.waits p.1 p.2)

/-- The job dispatched next, and whether it is urgent while a normal one waits (R139). -/
def Hw.nextJob (h : Hw) : Option (Nat × MtxJob × Nat) :=
  let k := h.f MTX_CFG MTX_CFG.normal_every
  match h.queueOrder true, h.queueOrder false with
  | [], [] => none
  | (s, j) :: _, [] => some (s, j, 0)
  | [], (s, j) :: _ => some (s, j, 0)
  | (s, j) :: _, (t, i) :: _ => if k ≠ 0 ∧ h.mtx.streak ≥ k then some (t, i, 0) else some (s, j, h.mtx.streak + 1)

/-- The tile a job goes to: the lowest in service with no job computing, else the lowest with a free half; a retry prefers a tile that
it has not failed on (R139, R142). -/
def Hw.tileFor (h : Hw) (j : MtxJob) : Option Nat :=
  let open_ := h.tilesUp.filter fun t => (h.freeHalf t).isSome
  let others := h.tilesUp.filter fun t => !memb t j.failed
  let ts := if j.failed.isEmpty || others.isEmpty then open_ else open_.filter fun t => memb t others
  match ts.find? fun t => !h.computing t with
  | some t => some t
  | none => ts.head?

/-- Read the operands of a job in order: their octets, or what stopped the load and at which operand. -/
def Hw.loadOperands (h : Hw) (ctx : Nat) (addr : Nat → Nat) : List (Nat × Nat) → Except (Nat × MemErr) (List (Nat × List Byte))
  | [] => .ok []
  | (i, len) :: rest =>
    match h.readCtx ctx (addr i) len with
    | .error e => .error (i, e)
    | .ok bs =>
      match h.loadOperands ctx addr rest with
      | .error e => .error e
      | .ok xs => .ok ((i, bs) :: xs)

/-- MTX_SLOT_PROG of a restart point. -/
def Hw.setProg (h : Hw) (s phase operand offset : Nat) : Hw :=
  h.setReg (MTX_SLOT_PROG s) (MTX_SLOT_PROG.phase.set (MTX_SLOT_PROG.operand.set (MTX_SLOT_PROG.offset.set 0 offset) operand) phase)

/-- A tile that dispatches abandons its self-test at once (R144). -/
def Hw.endSelftest (h : Hw) (t : Nat) : Hw :=
  if h.f (MTX_TILE_STAT t) MTX_TILE_STAT.state = 1 then h.setF (MTX_TILE_STAT t) MTX_TILE_STAT.state 0 else h

/-- Dispatch the next job to a free tile half: it loads its operands, and computes unless the other half does; a fault parks it and
frees the half (R139, R141). -/
def Hw.mtxDispatch (h : Hw) : Hw :=
  match h.nextJob with
  | none => h
  | some (s, j, streak) =>
    match h.tileFor j with
    | none => h
    | some t =>
      let b := (h.freeHalf t).getD 0
      let h := (h.endSelftest t).updMtx fun x => { x with streak := streak }
      let h := h.unitNormal (mtxUnit s)
      match h.loadOperands j.ctx j.at j.inputs with
      | .error (i, e) =>
        let h := (h.updJob s fun j => { j with phase := .parkedLoad, tile := t, operand := i }).setProg s 0 i 0
        (match e with
          | .fault a k => h.park (mtxUnit s) j.ctx a false k
          | .bus => h.park (mtxUnit s) j.ctx (j.at i) false kindWalk)
      | .ok xs =>
        let ph := if h.computing t then MtxPhase.loading else .computing
        (h.updJob s fun j => { j with phase := ph, tile := t, half := b, loaded := xs }).setHalf t b (some s)

/-- JOB_DISPATCH (R139). -/
def execJobDispatch (s : State) : Host.Outcome State Fault Refusal := run s Hw.mtxDispatch

/-! ### Results (R127, R132, R135–R138) -/

/-- The octets of an operand that a job has loaded. -/
def MtxJob.input (j : MtxJob) (i : Nat) : List Byte := ((j.loaded.find? fun p => decide (p.1 = i)).map fun p => p.2).getD []

/-- Octet `k` of what the engine computes: a function of the operation and its operands alone, which R128 fixes and no rule states
(log entry 9). -/
def MtxJob.free (j : MtxJob) (pdExp k : Nat) : Byte :=
  Config.matrix [j.op, j.flags % 8 / 4, j.n, j.m, j.aux, j.param, pdExp] (j.loaded.flatMap fun p => p.2) k

/-- Elements from octet `k` of the computed values on. -/
def MtxJob.freeElems (j : MtxJob) (f : FloatFmt) (pdExp k count : Nat) : List Nat :=
  (List.range count).map fun i => leNat ((List.range f.size).map fun o => j.free pdExp (k + i * f.size + o))

/-- An input element that is NaN or infinite (R127). -/
def MtxJob.badInput (j : MtxJob) : Bool :=
  j.loaded.any fun p => !(decide (j.op = 5) && decide (p.1 = 1)) &&
    (j.fmt.elems (p.2.length / j.fmt.size) p.2).any j.fmt.special

/-- The place of element (i, i) in a packed upper triangle. -/
def diagAt (n i : Nat) : Nat := i * n - i * (i - 1) / 2

/-- The diagonal of a packed input. -/
def MtxJob.diag (j : MtxJob) (i n : Nat) : List Int :=
  let xs := j.fmt.elems (packed n) (j.input i)
  (List.range n).map fun k => j.fmt.scaled (xs.getD (diagAt n k) 0)

/-- Status, index and outcome of a job (R127, R135–R138): what its operands decide, else a free choice among the outcomes that the
operation has. -/
def MtxJob.judge (j : MtxJob) (pdExp : Nat) : Nat × Nat × Nat :=
  let pick := (j.free pdExp 0).toNat
  let idx := (j.free pdExp 1).toNat
  if j.badInput then (3, 0, 0)
  else match j.op with
    | 2 => [(0, 0, 0), (1, idx % j.m, 0), (2, idx % j.n, 0), (4, 0, 0)].getD (pick % 4) (0, 0, 0)
    | 3 =>
      if (j.diag 0 j.n).all fun d => decide (d ≤ 0) then (1, 0, 0)
      else [(0, 0, 0), (1, idx % j.n, 0), (4, 0, 0)].getD (pick % 3) (0, 0, 0)
    | 4 => [(0, 0, 0), (0, 0, 1), (3, 0, 0), (4, 0, 0)].getD (pick % 4) (0, 0, 0)
    | _ => if pick % 2 = 0 then (0, 0, 0) else (4, 0, 0)

/-- P′ and x′ of a TIME job (R132): the states from d on pass unchanged, so that their block of P′ is P + Q; the rest is a free value
with a finite result. `none` is an overflow of a sum. -/
def MtxJob.timeOut (j : MtxJob) (pdExp : Nat) : Option (List Nat × List Nat) :=
  let f := j.fmt
  let p := f.elems (packed j.n) (j.input 1)
  let q := f.elems (packed j.n) (j.input 2)
  let x := f.elems j.n (j.input 3)
  let fp := (j.freeElems f pdExp 8 (packed j.n)).map f.clean
  let fx := (j.freeElems f pdExp (8 + packed j.n * f.size) j.n).map f.clean
  let rows := (List.range j.n).flatMap fun r => (List.range (j.n - r)).map fun _ => r
  let es := (rows.zip (List.range (packed j.n))).map fun (r, i) =>
    if r ≥ j.aux then f.add (p.getD i 0) (q.getD i 0) else some (fp.getD i 0)
  if es.any fun e => e.isNone then none
  else some (es.map fun e => e.getD 0, (List.range j.n).map fun i => if i ≥ j.aux then x.getD i 0 else fx.getD i 0)

/-- The index of the largest w y² of a RESID instance, the first where equal (R132), by the exact values of the y written. -/
def largestAt (f : FloatFmt) (ys ws : List Nat) : Nat :=
  ((ys.zip ws).foldl (fun (acc : Nat × Nat × Option Int) p =>
    let v := f.scaled p.2 * f.scaled p.1 * f.scaled p.1
    match acc.2.2 with
    | none => (acc.1 + 1, acc.1, some v)
    | some b => if v > b then (acc.1 + 1, acc.1, some v) else (acc.1 + 1, acc.2.1, some b)) (0, 0, none)).2.1

/-- The result record of SEARCH and its outcome (R137): free norms (the best not above the second), nodes and vectors; ratio and
outcome follow from them. -/
def MtxJob.searchOut (j : MtxJob) (pdExp : Nat) : List Byte × Nat :=
  let ns := (j.freeElems f64 pdExp 8 2).map fun v => f64.clean v % 2 ^ 63
  let n1 := min (ns.getD 0 0) (ns.getD 1 0)
  let n2 := max (ns.getD 0 0) (ns.getD 1 0)
  let limit := 2 ^ max 10 (min 24 j.aux)
  let nodes := (j.freeElems f32 pdExp 24 1).getD 0 0 % (limit + 1)
  let ratio := ratio32 n2 n1
  let vec := (List.range (2 * j.n * 4)).map fun i => j.free pdExp (32 + i)
  let met := if f32.sign j.param then true else decide (ratio ≥ j.param)
  (leBytes 8 n1 ++ leBytes 8 n2 ++ leBytes 4 ratio ++ leBytes 4 nodes ++ vec,
    if nodes ≥ limit then 2 else if met then 0 else 1)

/-- The outputs of a job with status ok: operand and octets, and the outcome; `none` is an overflow (R132, R136, R137). -/
def MtxJob.results (j : MtxJob) (pdExp : Nat) : Option (List (Nat × List Byte) × Nat) :=
  let f := j.fmt
  let reals := fun (g : FloatFmt) (k count : Nat) => (j.freeElems g pdExp k count).map g.clean
  match j.op with
  | 1 => (j.timeOut pdExp).map fun (p, x) => ([(4, f.bytes p), (5, f.bytes x)], 0)
  | 2 =>
    let diags := (List.range j.n).map (diagAt j.n)
    let p := ((reals f 8 (packed j.n)).zip (List.range (packed j.n))).map fun (v, i) => if memb i diags then f.pos v else v
    some (j.outputs.map fun o =>
      if o.1 = 1 then (1, f.bytes p) else (o.1, f.bytes (reals f (8 + packed j.n * f.size + o.1 * 4096) (o.2 / f.size))), 0)
  | 4 =>
    let rec' := reals f64 (8 + 4 * j.n * j.n) (ldltElems j.n)
    let ones := (List.range j.n).map fun i => j.n + i * (i + 1) / 2 + i
    let rec' := (rec'.zip (List.range rec'.length)).map fun (v, i) => if memb i ones then f64.one else v
    some ([(4, (List.range (4 * j.n * j.n)).map fun i => j.free pdExp (8 + i)), (5, f64.bytes rec')], 0)
  | 5 => let (r, o) := j.searchOut pdExp; some ([(4, r)], o)
  | 6 =>
    let ys := reals f 8 (j.count * j.m)
    let ws := if j.at 3 = 0 then List.replicate (j.count * j.m) f.one else f.elems (j.count * j.m) (j.input 3)
    let sums := reals f64 (8 + j.count * j.m * f.size) j.count
    let recs := (List.range j.count).flatMap fun c =>
      leBytes 8 (sums.getD c 0) ++ leBytes 4 (largestAt f ((ys.drop (c * j.m)).take j.m) ((ws.drop (c * j.m)).take j.m)) ++ leBytes 4 0
    some ([(4, f.bytes ys), (5, recs)], 0)
  | _ => some (j.outputs.map fun o => (o.1, f.bytes (reals f (8 + o.1 * 65536) (o.2 / f.size))), 0)

/-- pd_exp within its limits (MTX_PD_TOL). -/
def Hw.pdExp (h : Hw) : Nat := max 16 (min 52 (h.f MTX_PD_TOL MTX_PD_TOL.pd_exp))

/-- A job has computed: its status, and its outputs where it is ok (R133). -/
def MtxJob.compute (j : MtxJob) (pdExp : Nat) : MtxJob :=
  let (st, idx, oc) := j.judge pdExp
  if st ≠ 0 then { j with done := true, status := st, index := idx, outs := [] }
  else match j.results pdExp with
    | none => { j with done := true, status := 4, outs := [] }
    | some (outs, oc2) =>
      { j with done := true, status := 0, outcome := if j.op = 5 then oc2 else oc, outs := outs.map fun o => (o.1, j.at o.1, o.2) }

/-! ### Write-back (R133, R138, R141) -/

/-- The status word of a job (R138). -/
def MtxJob.word (j : MtxJob) (partly : Bool) : List Byte :=
  leBytes 4 (2 ^ 31 + j.outcome * 2 ^ 29 + partly.toNat * 2 ^ 28 + j.status * 2 ^ 24 + j.index * 2 ^ 16 + j.jobId)

/-- The other half of a tile may compute now. -/
def Hw.startLoaded (h : Hw) (t : Nat) : Hw :=
  if h.computing t then h
  else [0, 1].foldl (fun h b => match h.half t b with
    | some s => if h.computing t then h
      else h.updJob s fun j => if j.phase = .loading then { j with phase := .computing } else j
    | none => h) h

/-- A job's tile half is free. -/
def Hw.leaveTile (h : Hw) (s : Nat) : Hw :=
  match h.job s with
  | none => h
  | some j => if h.half j.tile j.half = some s then (h.setHalf j.tile j.half none).startLoaded j.tile else h

/-- A job ends: its slot, unit and half are free; its token carries the error flag unless it is ok; interrupts (R133, R138). -/
def Hw.jobEnd (h : Hw) (s : Nat) (j : MtxJob) : Hw :=
  let h := ((h.leaveTile s).setJob s none).unitNormal (mtxUnit s)
  let h := h.setReg (MTX_SLOT_PROG s) 0
  let h := if bit j.flags 0 then h.token j.handle (decide (j.status ≠ 0)) else h
  let h := if j.status ≠ 0 then h.raise MTX_IRQ_STAT MTX_IRQ_STAT.job_err s else h
  if bit j.flags 1 then h.raise MTX_IRQ_STAT MTX_IRQ_STAT.job_irq s else h

/-- End a job with a status, writing only its status word (R133, R138, R141–R143). -/
def Hw.jobFail (h : Hw) (s st : Nat) (partly : Bool) : Hw :=
  match h.job s with
  | none => h
  | some j =>
    let j := { j with status := st, outcome := 0, index := 0 }
    let (h, _, _) := h.writeCtx j.ctx (j.desc + 60) (j.word partly)
    h.jobEnd s j

/-- Park a job in write-back at a restart point (R141). -/
def Hw.parkWrite (h : Hw) (s : Nat) (j : MtxJob) (operand n addr : Nat) (e : MemErr) : Hw :=
  let h := (h.updJob s fun j => { j with phase := .parkedWrite, operand := operand }).setProg s 1 operand n
  match e with
  | .fault a k => h.park (mtxUnit s) j.ctx a true k
  | .bus => h.park (mtxUnit s) j.ctx addr true kindWalk

/-- Write the outputs from the restart point on, then the status word (R133). At most `fuel` outputs remain. -/
def Hw.writeBack (s : Nat) : Nat → Hw → Hw
  | 0, h => h
  | fuel + 1, h =>
    match h.job s with
    | none => h
    | some j =>
      match j.outs with
      | (o, a, bs) :: rest =>
        match h.writeCtx j.ctx (a + j.offset) (bs.drop j.offset) with
        | (h, _, none) => Hw.writeBack s fuel (h.updJob s fun j => { j with outs := rest, offset := 0 })
        | (h, n, some e) =>
          let h := h.updJob s fun j => { j with offset := j.offset + n }
          h.parkWrite s j o (j.offset + n) (a + j.offset + n) e
      | [] =>
        match h.writeCtx j.ctx (j.desc + 60) (j.word false) with
        | (h, _, none) => h.jobEnd s j
        | (h, _, some e) => h.parkWrite s j 5 0 (j.desc + 60) e

/-- A computing job completes, or a resumed write-back goes on (R133, R141). -/
def Hw.jobComplete (h : Hw) (s : Nat) : Hw :=
  match h.job s with
  | none => h
  | some j =>
    if h.isParked (mtxUnit s) then h
    else if j.phase = .computing then Hw.writeBack s 8 (h.updJob s fun j => j.compute h.pdExp)
    else if j.phase = .parkedWrite then Hw.writeBack s 8 (h.unitNormal (mtxUnit s))
    else h

/-- JOB_COMPLETE (R133). -/
def execJobComplete (slot : Fin 64) (s : State) : Host.Outcome State Fault Refusal := run s fun h => h.jobComplete slot.val

/-- End a parked job: aborted 0x5 or park timeout 0x6; during write-back its outputs may be partly written (R86, R133, R141). -/
def Hw.mtxAbort (h : Hw) (s st : Nat) : Hw :=
  match h.job s with
  | none => h
  | some j => h.jobFail s st (decide (j.phase = .parkedWrite))

/-! ### Retries and retirement of tiles (R142, R143) -/

/-- The outputs of a job lie over its inputs (R142). -/
def MtxJob.inPlace (j : MtxJob) : Bool :=
  j.outputs.any fun o => j.inputs.any fun i => decide (j.at o.1 < j.at i.1 + i.2 ∧ j.at i.1 < j.at o.1 + o.2)

/-- An attempt of a job fails on its tile: retried at the head of its queue, or ended with tile failure after 3 retries, or at once
where its write-back may have overwritten its inputs (R142). -/
def Hw.attemptFails (h : Hw) (s : Nat) : Hw :=
  match h.job s with
  | none => h
  | some j =>
    if j.phase = .parkedWrite ∧ j.inPlace then h.jobFail s 7 true
    else if j.retries ≥ 3 then h.jobFail s 7 (decide (j.phase = .parkedWrite))
    else
      let h := ((h.leaveTile s).unitNormal (mtxUnit s)).bump MTX_ERR MTX_ERR.retried MTX_ERR.retry_sat
      h.updJob s fun j => { j with phase := .retrying, retries := j.retries + 1, failed := j.tile :: j.failed, loaded := [], done := false, outs := [], offset := 0 }

/-- A retired tile: its jobs are retried elsewhere, one parked in write-back ends with tile failure; with no tile left, queued jobs end
with no tile (R143). -/
def Hw.tileRetired (h : Hw) (t : Nat) : Hw :=
  let h := (h.setF (MTX_TILE_STAT t) MTX_TILE_STAT.state 2).raise MTX_IRQ_STAT MTX_IRQ_STAT.tile_retired t
  let h := h.jobs.foldl (fun h p =>
    if h.half p.2.tile p.2.half = some p.1 ∧ p.2.tile = t then
      (if p.2.phase = .parkedWrite then h.jobFail p.1 7 true else h.attemptFails p.1)
    else h) h
  if h.tilesUp.isEmpty then h.jobs.foldl (fun h p => if h.waits p.1 p.2 then h.jobFail p.1 8 false else h) h else h

/-- SELFTEST_START (R144): an idle tile in service starts its known-answer job. -/
def execSelftestStart (tile : Fin 4) (s : State) : Host.Outcome State Fault Refusal :=
  run s fun h =>
    if h.f MTX_CFG MTX_CFG.selftest_ms ≠ 0 ∧ h.f (MTX_TILE_STAT tile.val) MTX_TILE_STAT.state = 0 ∧
        (h.half tile.val 0).isNone ∧ (h.half tile.val 1).isNone then
      h.setF (MTX_TILE_STAT tile.val) MTX_TILE_STAT.state 1
    else h

/-! ### Registers -/

/-- MTX_SLOT_STAT of a slot. -/
def Hw.slotStat (h : Hw) (s : Nat) : Word :=
  match h.job s with
  | none => 0
  | some j =>
    let st := match j.phase with
      | .queued => 1 | .retrying => 6 | .loading => 2 | .computing => 3
      | .parkedLoad => if h.isParked (mtxUnit s) then 5 else 1
      | .parkedWrite => if h.isParked (mtxUnit s) then 5 else 4
    MTX_SLOT_STAT.state.set (MTX_SLOT_STAT.tile.set (MTX_SLOT_STAT.op.set (MTX_SLOT_STAT.urgent.set
      (MTX_SLOT_STAT.retries.set (MTX_SLOT_STAT.job_id.set 0 j.jobId) j.retries) (bit j.flags 3).toNat) j.op) j.tile) st

/-- The live word of an MTX register, for a master. -/
def Hw.viewMtx (h : Hw) (m k : Nat) : Word :=
  if k = MTX_STAT then
    MTX_STAT.tiles.set (MTX_STAT.in_flight.set (MTX_STAT.queued_urgent.set (MTX_STAT.queued_normal.set 0
      (h.queueOrder false).length) (h.queueOrder true).length) h.jobs.length) h.tilesUp.length
  else if k = MTX_SUBMIT_RES then h.mtx.results.at m
  else match (List.range 4).find? fun t => decide (k = MTX_TILE_STAT t) with
    | some t =>
      let w := MTX_TILE_STAT.half0_busy.set (MTX_TILE_STAT.half1_busy.set (h.reg k) (h.half t 1).isSome.toNat) (h.half t 0).isSome.toNat
      let w := MTX_TILE_STAT.half0_slot.set (MTX_TILE_STAT.half1_slot.set w ((h.half t 1).getD 0)) ((h.half t 0).getD 0)
      MTX_TILE_STAT.window.set w (min 8 ((h.hlt.windows.at (2 * 4096 + t)).filter fun x => decide (h.now < x + 60000000000)).length)
    | none =>
      if MTX_SLOT_STAT 0 ≤ k ∧ k < MTX_SLOT_STAT 64 ∧ (k - MTX_SLOT_STAT 0) % 8 = 0 then h.slotStat ((k - MTX_SLOT_STAT 0) / 8)
      else h.reg k

end Sys2Proof.Machine
end

