-- ==== Sys2Proof/Machine/Stop.lean ====
section
/-! DEFINITION. The stop sequencer (spec/10_stop_and_equinox.md, R260–R274): sources, states, stops and releases, stop frames and
permit marks on the lanes, outputs, and its commands. -/

namespace Sys2Proof.Machine

open Reg

/-! ### State -/

/-- Change the stop sequencer. -/
def Hw.updStp (h : Hw) (g : StpSt → StpSt) : Hw := { h with stp := g h.stp }

/-- STP_STAT.state: unarmed, stopped, running (R266). -/
def stpUnarmed : Nat := 0
def stpStopped : Nat := 1
def stpRunning : Nat := 2

/-- The sequencer's state. -/
def Hw.stpState (h : Hw) : Nat := h.f STP_STAT STP_STAT.state

/-- SP works: its lockstep compare holds, and it is not halted (R43, R274). -/
def Hw.spWorks (h : Hw) : Bool := !h.stp.spBad && !(h.cores.at 8).halted

/-- The stop floor is complete (R31, R32). -/
def Hw.floorComplete (h : Hw) : Bool := h.spWorks && !h.floorLanes.isEmpty

/-- The mask of source codes. -/
def srcMask (l : List Nat) : Nat := (List.range 16).foldl (fun m c => if memb c l then m + 2 ^ c else m) 0

/-- The sources asserting now (STP_SRC_STAT.asserting): the pins, those SP asserts, a readback that differs, the floor. -/
def Hw.stpAsserting (h : Hw) : List Nat :=
  (if (h.stp.pins.at 0).active then [1] else []) ++ (if (h.stp.pins.at 1).active then [2] else []) ++ h.stp.sp ++
    h.stp.targets.flatMap Target.asserting ++ (if h.stp.rbBad.isEmpty then [] else [10]) ++
    (if h.floorComplete then [] else [11])

/-- The stop state as a mirror record carries it (R277). -/
def Hw.stopMirror (h : Hw) : StopMirror :=
  { state := h.stpState, latched := h.f STP_SRC_STAT STP_SRC_STAT.latched, reason := h.f STP_STAT STP_STAT.reason
    stopId := h.f STP_STAT STP_STAT.stop_id, tms := (h.reg STP_EVT).toNat, hold := h.fleetHold
    fleet := h.stp.fleet
    targets := h.stp.targets.map fun t => (t.robot, t.sources, t.reason, t.stopId, t.tms, t.hold)
    permitSeq := h.stp.permitSeq, markAt := h.stp.markAt }

/-- A change of the stop state is mirrored (R277). -/
def Hw.mirrorStop (h : Hw) : Hw := h.mirror (.stop h.stopMirror)

/-- The STP source number. -/
def stpSource : Nat := 0x1200

/-- The sequencer's own record of a stop, a release or a refused command: kind, source code, stop_id (R262, R266, R363). -/
def Hw.stpRecord (h : Hw) (kind src : Nat) : Hw :=
  h.event stpSource 0x0010 (BitVec.ofNat 32 kind) (BitVec.ofNat 32 src) (BitVec.ofNat 32 (h.f STP_STAT STP_STAT.stop_id))

/-! ### PERMIT_OUT (R272) -/

/-- An output is driven active. -/
def Hw.outActive (h : Hw) (n : Nat) : Bool :=
  h.stp.outsOn && decide (h.stpState = stpRunning) && h.flag (STP_OUT_CFG n) STP_OUT_CFG.enable &&
    decide (h.pwr.power = .run) && !memb n h.stp.pulsing

/-- The level an output is driven at: polarity 0 makes high the active level. -/
def Hw.outLevel (h : Hw) (n : Nat) : Bool := h.outActive n != h.flag (STP_OUT_CFG n) STP_OUT_CFG.polarity

/-- The name of an output. -/
def permitName (n : Nat) : String := "PERMIT_OUT" ++ toString n

/-- The balls follow a change of the sequencer: each new level goes out, and a readback that differed is judged anew. -/
def Hw.driveOuts (old h : Hw) : Hw :=
  (List.range 4).foldl (fun h n =>
    if old.outLevel n = h.outLevel n then h
    else (h.updStp fun p => { p with rbBad := without n p.rbBad }).emit (.pin (permitName n) (h.outLevel n))) h

/-- Change the sequencer, with the outputs following. -/
def Hw.withOuts (h : Hw) (g : Hw → Hw) : Hw := Hw.driveOuts h (g h)

/-! ### Frames of the sequencer (R242, R267, R270) -/

/-- A stop-key counter of a lane advances; at 0xFFF0_0000 key_low is raised (R270). -/
def Hw.advanceStopCtr (h : Hw) (n : Nat) : Hw :=
  let c := (h.reg (STP_LANE_CTR n)).toNat + 1
  let h := h.setReg (STP_LANE_CTR n) (BitVec.ofNat 32 c)
  if c = 0xFFF00000 then h.raise STP_IRQ_STAT STP_IRQ_STAT.key_low n else h

/-- The sequencer sends a data frame to everybody on a lane: header, stop key at level 1, the lane's counter. A lane whose
counter stands at its end, and a unit that may not transmit, send nothing (R265, R267, R270). -/
def Hw.stpSend (h : Hw) (n ft robot : Nat) (permit : Option Nat) (flood : Option (Nat × Nat × Nat)) (payload : List Byte) :
    Hw :=
  let ctr := (h.reg (STP_LANE_CTR n)).toNat
  match h.airKey keyStop none with
  | none => h
  | some key =>
    if ¬h.sends ∨ ¬h.laneUp n ∨ ctr = 2 ^ 32 - 1 then h
    else
      let l := h.lane n
      let header := mhrBytes macData l.stpSeq (h.f RAD_ID RAD_ID.pan_id) broadcast h.baseAddr false false ++
        auxBytes 1 ctr keyStop ++ flizenIe (h.f RAD_OUI RAD_OUI.oui) ft robot h.epochField 0 permit flood true
      let psdu := secureFrame key (h.laneEui n) ctr 1 header payload
      let h := (h.advanceStopCtr n).updLane n fun l => { l with
        stpSeq := (l.stpSeq + 1) % 256
        onAir := some ⟨true, decide (ft = ftPermit), false, 0, none, h.now, psdu.length + 4⟩ }
      (h.laneCmd n cmdTxLoad psdu).laneCmd n cmdTxGo []

/-- The next flood_id of the sequencer, 0x8000–0xFFFF (R268). -/
def Hw.takeFlood (h : Hw) : Nat × Hw :=
  let v := h.f STP_FLOOD_ID STP_FLOOD_ID.next_id
  let h := h.setF STP_FLOOD_ID STP_FLOOD_ID.next_id (if v ≥ 0xFFFF then 0x8000 else v + 1)
  (v, h.enterSeen h.unitAddr v)

/-- The payload of a stop frame (R267). -/
def stopPayload (kind reason id tms : Nat) : List Byte := leBytes 1 kind ++ leBytes 1 reason ++ leBytes 2 id ++ leBytes 4 tms

/-- A fleet stop frame on a lane. -/
def Hw.sendFleetFrame (fid : Nat) (h : Hw) (n : Nat) : Hw :=
  let (reason, id, tms) := h.stp.fleet
  h.stpSend n ftStop 0 none (some (h.unitAddr, fid, h.f STP_CFG STP_CFG.ttl)) (stopPayload 1 reason id tms)

/-- A fleet stop frame on every lane in service, as one flood. -/
def Hw.sendFleet (h : Hw) : Hw :=
  if h.stpState = stpUnarmed ∨ ¬h.sends then h
  else
    let (fid, h) := h.takeFlood
    h.lanesUp.foldl (Hw.sendFleetFrame fid) h

/-! ### Stops (R265, R266, R271) -/

/-- On a stop the gate of RAD closes on every lane, and a frame on the air is cut; a frame of RAD's that awaits an ACK stays in
its buffer for repetition (R249, R265). -/
def Hw.shutLane (h : Hw) (n : Nat) : Hw :=
  match (h.lane n).onAir with
  | none => h.updLane n fun l => { l with shut := true }
  | some a =>
    let keep := match a.frame with
      | some f => if f.ar then [{ f with waitAck := some h.now }] else []
      | none => []
    (if h.sends then h.abortLane n else h).updLane n fun l =>
      { l with shut := true, onAir := none, frames := keep ++ l.frames }

/-- A stop event: stop_id advances, its time is kept (R267). -/
def Hw.stopEvent (h : Hw) : Hw :=
  let h := h.setF STP_STAT STP_STAT.stop_id (h.f STP_STAT STP_STAT.stop_id + 1)
  (h.setReg STP_EVT (BitVec.ofNat 32 h.nowMs)).updStp fun p => { p with newest := h.now }

/-- A source is latched. -/
def Hw.latchSource (h : Hw) (src : Nat) : Hw :=
  h.setF STP_SRC_STAT STP_SRC_STAT.latched (h.f STP_SRC_STAT STP_SRC_STAT.latched ||| 2 ^ src)

/-- Lanes on which no frame of the sequencer stands after a stop give RAD its gate back. -/
def Hw.openIdleGates (h : Hw) : Hw :=
  (List.range 8).foldl (fun h n => match (h.lane n).onAir with
    | some _ => h
    | none => h.updLane n fun l => { l with shut := false }) h

/-- A fleet stop of a source: the gates close, the outputs go inactive, AXL and RSV are signalled, the first stop frames go out
(R265, R266, R271). An unarmed sequencer only latches the source. -/
def Hw.fleetStop (h : Hw) (src : Nat) : Hw :=
  let was := h.stpState
  let h := ((h.stopEvent.setF STP_STAT STP_STAT.reason src).latchSource src)
  let h := h.updStp fun p => { p with fleet := (src, h.f STP_STAT STP_STAT.stop_id, (h.reg STP_EVT).toNat) }
  if was = stpUnarmed then (h.stpRecord 1 src).mirrorStop
  else
    let h := (List.range 8).foldl Hw.shutLane h
    let h := h.withOuts fun h => (h.setF STP_STAT STP_STAT.state stpStopped).updStp fun p =>
      { p with outsOn := false, pulsing := [], awaitMark := false, marked := false }
    let h := h.setFlag STP_STAT STP_STAT.hold true
    let h := (h.axlStop).rsvStop allRobots
    let h := h.sendFleet.openIdleGates
    let h := h.updStp fun p => { p with firstAt := some h.now }
    let h := if was = stpRunning then h.raise STP_IRQ_STAT STP_IRQ_STAT.stop 0 else h.setIrq STP_IRQ_STAT STP_IRQ_STAT.stop
    (h.stpRecord 1 src).mirrorStop

/-- Every lane in service is without stop-key counters: a stop with source 12, once (R270). -/
def Hw.exhaustCheck (h : Hw) : Hw :=
  if ¬h.lanesUp.isEmpty ∧ h.lanesUp.all (fun n => decide ((h.reg (STP_LANE_CTR n)).toNat = 2 ^ 32 - 1)) ∧
      ¬bit (h.f STP_SRC_STAT STP_SRC_STAT.latched) 12 then h.fleetStop 12 else h

/-- The bit of a robot in STP_TGT. -/
def Hw.setTgt (h : Hw) (robot : Nat) (on : Bool) : Hw :=
  let k := STP_TGT ((robot - 1) / 32)
  h.setF k ⟨(robot - 1) % 32, 1⟩ on.toNat

/-- A robot's targeted stop, if one is in force. -/
def Hw.target (h : Hw) (robot : Nat) : Option Target := h.stp.targets.find? fun t => decide (t.robot = robot)

/-- Put a robot's targeted stop in its place, in robot order. -/
def putTarget (t : Target) : List Target → List Target
  | [] => [t]
  | u :: us => if t.robot < u.robot then t :: u :: us else if t.robot = u.robot then t :: us else u :: putTarget t us

/-- Add a code to a list of codes. -/
def addCode (c : Nat) (l : List Nat) : List Nat := if memb c l then l else l ++ [c]

/-- A targeted stop of a robot: its bit is set, RSV revokes and bars it, its frames are due (R266, R269). -/
def Hw.targetStop (h : Hw) (src robot : Nat) : Hw :=
  let isNew := (h.target robot).isNone
  let h := (h.stopEvent).latchSource src
  let old := (h.target robot).getD { (default : Target) with robot := robot }
  let t : Target := { robot := robot, sources := addCode src old.sources
                      asserting := if 8 ≤ src ∧ src ≤ 10 then addCode src old.asserting else old.asserting
                      hold := decide (h.stpState ≠ stpUnarmed), first := true, reason := src
                      stopId := h.f STP_STAT STP_STAT.stop_id, tms := (h.reg STP_EVT).toNat }
  let h := (h.updStp fun p => { p with targets := putTarget t p.targets }).setTgt robot true
  let h := h.rsvStop [robot]
  let h := if isNew then h.raise STP_IRQ_STAT STP_IRQ_STAT.targeted robot else h
  (h.stpRecord 2 src).mirrorStop

/-- A stop of a source, of the fleet (robot 0) or of one robot. -/
def Hw.stop (h : Hw) (src robot : Nat) : Hw := if robot = 0 then h.fleetStop src else h.targetStop src robot

/-! ### The interlock and the floor (R32, R274, R279) -/

/-- Vigil releases EQX_HOLD: the unit is no longer primary, and its lanes' transmit commands are blocked (R265, R279). -/
def Hw.releaseHold (h : Hw) : Hw :=
  if h.paired then
    let was := h.flag EQX_STAT EQX_STAT.hold
    let h := (h.setFlag EQX_STAT EQX_STAT.hold false).setF EQX_STAT EQX_STAT.role 1
    let h := (h.setFlag RAD_CFG RAD_CFG.listen true)
    let h := { h with eqx := { h.eqx with handover := .none } }
    if was then h.emit (.pin "EQX_HOLD" true) else h
  else h

/-- The floor is judged: incomplete, it is a stop with source 11, and in a pair the interlock goes (R32, R274). -/
def Hw.floorCheck (h : Hw) : Hw :=
  if h.floorComplete ∨ bit (h.f STP_SRC_STAT STP_SRC_STAT.latched) 11 then h else (h.fleetStop 11).releaseHold

/-! ### Releases (R273) -/

/-- Sources still latched after a fleet release: those of robots under a targeted stop. -/
def Hw.targetSources (h : Hw) : Nat := srcMask (h.stp.targets.flatMap Target.sources)

/-- A fleet release: marks resume at the next mark cell, bars go but those of targeted robots, AXL's signal ends. -/
def Hw.releaseFleet (h : Hw) (issuer : Nat) : Hw :=
  let h := h.setF STP_SRC_STAT STP_SRC_STAT.latched h.targetSources
  let h := h.setF STP_STAT STP_STAT.state stpRunning
  let h := h.setFlag STP_STAT STP_STAT.hold false
  let h := h.updStp fun p => { p with awaitMark := true, marked := false }
  let h := allRobots.foldl (fun h r => if (h.target r).isSome then h else h.setBar r false) h
  let h := h.axlRelease.raise STP_IRQ_STAT STP_IRQ_STAT.release 0
  (h.stpRecord 3 issuer).mirrorStop

/-- A targeted release of a robot: its bit goes, and its bar unless the fleet is stopped. -/
def Hw.releaseTarget (h : Hw) (issuer robot : Nat) : Hw :=
  let h := (h.updStp fun p => { p with targets := p.targets.filter fun t => decide (t.robot ≠ robot) }).setTgt robot false
  let h := if h.stpState = stpRunning then
      (h.setF STP_SRC_STAT STP_SRC_STAT.latched h.targetSources).setBar robot false
    else h
  let h := h.raise STP_IRQ_STAT STP_IRQ_STAT.release robot
  (h.stpRecord 3 issuer).mirrorStop

/-- The first source that blocks a fleet release: one latched and asserting, any that SP asserts, the floor (R273). -/
def Hw.fleetBlock (h : Hw) : Option Nat :=
  let a := h.stpAsserting
  (List.range 16).find? fun c => memb c a &&
    (bit (h.f STP_SRC_STAT STP_SRC_STAT.latched) c || decide (c = 11 ∨ (8 ≤ c ∧ c ≤ 10)))

/-- The least time since the newest stop has passed. -/
def Hw.stopMinPassed (h : Hw) : Bool :=
  decide (h.now ≥ h.stp.newest + h.f STP_CFG2 STP_CFG2.stop_min_ms * 1000000)

/-- STP_CMD_RES results (R262, R273). -/
def resAccepted : Nat := 0
def resBadTag : Nat := 1
def resOldCtr : Nat := 2
def resDisabled : Nat := 3
def resActive : Nat := 4
def resSoon : Nat := 5
def resUnarmed : Nat := 6

/-- A release of the fleet (robot 0) or of one robot: the result, the blocking source, and the state after it (R273). -/
def Hw.tryRelease (h : Hw) (issuer robot : Nat) : Nat × Nat × Hw :=
  if robot = 0 then
    if h.stpState ≠ stpStopped then (resAccepted, 0, h)
    else match h.fleetBlock with
      | some c => (resActive, c, h)
      | none =>
        if ¬h.stopMinPassed then (resSoon, 0, h)
        else if h.paired ∧ h.role ≠ 2 then (resActive, 0, h)
        else (resAccepted, 0, h.releaseFleet issuer)
  else match h.target robot with
    | none => (resAccepted, 0, h)
    | some t =>
      match t.asserting with
      | c :: cs => (resActive, (c :: cs).foldl min c, h)
      | [] => (resAccepted, 0, h.releaseTarget issuer robot)

/-! ### Host commands (R262) -/

/-- The tag of a command (R262). -/
def cmdTag (key ident : List Byte) (ctr arg : Nat) : List Byte := (hmac key (ident ++ leBytes 4 ctr ++ leBytes 4 arg)).take 8

/-- The device identity (BRL_ID). -/
def Hw.ident (h : Hw) : List Byte := (List.range 4).flatMap fun w => leBytes 4 (h.reg (BRL_ID w)).toNat

/-- An event that fails authentication (STP_ERR.auth_fail). -/
def Hw.stpAuthFail (h : Hw) : Hw :=
  (h.bump STP_ERR STP_ERR.auth_fail STP_ERR.auth_sat).raise STP_IRQ_STAT STP_IRQ_STAT.auth_fail 0

/-- The result of a command in STP_CMD_RES. -/
def Hw.stpResult (h : Hw) (res blocking : Nat) : Hw :=
  (h.setF STP_CMD_RES STP_CMD_RES.result res).setF STP_CMD_RES STP_CMD_RES.blocking blocking

/-- The command that the write of STP_CMD_TAG_HI executes (R262, R273). -/
def Hw.stpCommand (h : Hw) (a : BusAcc) (low high : Word) : Hw :=
  let arg := h.reg STP_CMD_ARG
  let kind := STP_CMD_ARG.kind.get arg
  let robot := STP_CMD_ARG.robot.get arg
  let ctr := (h.reg STP_CMD_CTR).toNat
  let good := !h.ports.cmd.isEmpty &&
    decide (cmdTag h.ports.cmd h.ident ctr arg.toNat = leBytes 4 low.toNat ++ leBytes 4 high.toNat)
  let src := match a.master with
    | .ha => 3
    | .hb => 4
    | _ => 0
  let refuse := fun (r : Nat) (h : Hw) => (h.stpResult r 0).stpRecord kind src
  if kind = 0 then h
  else if h.stpState = stpUnarmed then refuse resUnarmed h
  else if src = 0 ∨ ¬h.flag STP_SRC_CFG STP_SRC_CFG.host_en then refuse resDisabled (if good then h else h.stpAuthFail)
  else if ¬good ∧ ¬(kind ≠ 3 ∧ ¬a.unpriv ∧ h.flag STP_CFG STP_CFG.open_stop) then refuse resBadTag h.stpAuthFail
  else if good ∧ ctr ≤ h.stp.lastCtr then refuse resOldCtr h
  else
    let h := if good then (h.updStp fun p => { p with lastCtr := ctr }).setF STP_CMD_RES STP_CMD_RES.last_ctr ctr else h
    if kind = 3 then
      let (r, c, h') := h.tryRelease src robot
      if r = resAccepted then h'.stpResult r c else (h.stpResult r c).stpRecord 3 src
    else (h.stop src (if kind = 2 ∧ 1 ≤ robot ∧ robot ≤ 128 then robot else 0)).stpResult resAccepted 0

/-- A write of STP_CMD_TAG_HI, from which a command follows. -/
def Hw.writeTagHi (h : Hw) (via : BusAcc) (high : Word) : Hw :=
  h.regWrite via STP_CMD_TAG_HI high fun low h => h.stpCommand via low high

/-- FLEET_STOP_COMMAND: the write of STP_CMD_TAG_HI; STP_CMD_ARG holds the command's kind (R262). -/
def execFleetStopCommand (via : BusAcc) (tagHi : Word) (s : State) : Host.Outcome State Fault Refusal :=
  run s fun h => h.writeTagHi via tagHi

/-- TARGETED_STOP_COMMAND: the write of STP_CMD_TAG_HI; STP_CMD_ARG holds the command's kind (R262). -/
def execTargetedStopCommand (via : BusAcc) (tagHi : Word) (s : State) : Host.Outcome State Fault Refusal :=
  run s fun h => h.writeTagHi via tagHi

/-- RELEASE_COMMAND: the write of STP_CMD_TAG_HI; STP_CMD_ARG holds the command's kind (R262, R273). -/
def execReleaseCommand (via : BusAcc) (tagHi : Word) (s : State) : Host.Outcome State Fault Refusal :=
  run s fun h => h.writeTagHi via tagHi

/-! ### SP's port (R263, R273) -/

/-- SP asserts a source, and the sequencer acts (R263). -/
def Hw.spStop (h : Hw) (src robot : Nat) : Hw :=
  if robot = 0 then (h.updStp fun p => { p with sp := addCode src p.sp }).fleetStop src else h.targetStop src robot

/-- SP ends its assertion of a source, and releases what it alone stopped, where R273 lets a release pass. -/
def Hw.spRelease (h : Hw) (src robot : Nat) : Hw :=
  if robot = 0 then
    let h := (h.updStp fun p => { p with sp := without src p.sp })
    let own := h.f STP_SRC_STAT STP_SRC_STAT.latched &&& (2 ^ 16 - 1 - 2 ^ 9 - 2 ^ 10)
    if own &&& (2 ^ 16 - 1 - h.targetSources) = 0 then (h.tryRelease src 0).2.2 else h
  else match h.target robot with
    | none => h
    | some t =>
      let t := { t with asserting := without src t.asserting }
      let h := h.updStp fun p => { p with targets := putTarget t p.targets }
      if t.sources.all (fun c => decide (8 ≤ c ∧ c ≤ 10)) then (h.tryRelease src robot).2.2 else h

/-- SP_DECISION: SP passes a stop, or a release of a stop of its own, for the fleet (robot 0) or a robot (R263, R273). -/
def execSpDecision (release : Bool) (source : Fin 3) (robot : Fin 129) (s : State) : Host.Outcome State Fault Refusal :=
  run s fun h => if release then h.spRelease (8 + source.val) robot.val else h.spStop (8 + source.val) robot.val

/-! ### Arming (R266) -/

/-- Arm the sequencer. -/
def Hw.arm (h : Hw) : Hw :=
  if h.stpState ≠ stpUnarmed then h
  else if h.ports.stop.isEmpty ∨ h.ports.cmd.isEmpty ∨ ¬memb 3 h.cfg.applied then h.setF STP_CMD_RES STP_CMD_RES.result resUnarmed
  else (h.setF STP_STAT STP_STAT.state stpStopped).mirrorStop

/-- What a write of STP_CTRL starts: arming. The self-test is a dry run, a command of its own. -/
def Hw.stpCtrlWritten (h : Hw) (v : Word) : Hw := if STP_CTRL.arm.get v = 1 then h.arm else h

/-- ARM: a write of STP_CTRL.arm (R266). -/
def execArm (via : BusAcc) (s : State) : Host.Outcome State Fault Refusal :=
  run s fun h => h.regWrite via STP_CTRL (BitVec.ofNat 32 (2 ^ 31)) fun _ h => h.stpCtrlWritten (BitVec.ofNat 32 (2 ^ 31))

/-! ### The stop inputs (R261) -/

/-- The number of an input, and the source it is. -/
def pinNo : StopInput → Nat
  | .a => 0
  | .b => 1

/-- The input reads run. -/
def readsRun (p : StopPin) : Bool := p.hi && !p.lo

/-- The input reads stop. -/
def readsStop (p : StopPin) : Bool := !p.hi && p.lo

/-- The discrepancy latch of an input (STP_PINS). -/
def discFld : StopInput → Fld
  | .a => STP_PINS.disc_a
  | .b => STP_PINS.disc_b

/-- Change an input. -/
def Hw.updPin (h : Hw) (i : StopInput) (g : StopPin → StopPin) : Hw :=
  h.updStp fun p => { p with pins := p.pins.upd (pinNo i) g }

/-- STOP_PIN: the levels of an input change (R261). -/
def execStopPin (i : StopInput) (hi lo : Bool) (s : State) : Host.Outcome State Fault Refusal :=
  run s fun h => h.updPin i fun p =>
    { p with hi := hi, lo := lo, since := h.now, seenStop := p.seenStop || (!hi && lo), stopped := p.stopped && !(hi && !lo) }

/-- The source of an input is enabled (STP_SRC_CFG; STOPA always, R46). -/
def Hw.pinEnabled (h : Hw) : StopInput → Bool
  | .a => true
  | .b => h.flag STP_SRC_CFG STP_SRC_CFG.stopb_en

/-- A reading other than run has lasted filt: a fleet stop, one for each time that the input leaves run (R261, R271). -/
def Hw.pinStop (h : Hw) (i : StopInput) : Hw :=
  let p := h.stp.pins.at (pinNo i)
  if readsRun p ∨ (p.active ∧ p.stopped) ∨ ¬h.pinEnabled i then h
  else (h.updPin i fun p => { p with active := true, stopped := true }).fleetStop (1 + pinNo i)

/-- STOP_PIN_FILTERED: the filter time of a reading other than run ends (R261). -/
def execStopPinFiltered (i : StopInput) (s : State) : Host.Outcome State Fault Refusal := run s fun h => h.pinStop i

/-- A discrepancy has lasted disc_ms: latched and counted (R261). -/
def Hw.latchDisc (h : Hw) (i : StopInput) : Hw :=
  let p := h.stp.pins.at (pinNo i)
  if p.hi = p.lo ∧ ¬h.flag STP_PINS (discFld i) then
    let h := (h.updPin i fun p => { p with seenStop := false }).setFlag STP_PINS (discFld i) true
    (h.bump STP_ERR STP_ERR.disc STP_ERR.disc_sat).raise STP_IRQ_STAT STP_IRQ_STAT.discrepancy (pinNo i)
  else h

/-- DISCREPANCY_LATCH: a discrepancy has lasted disc_ms (R261). -/
def execDiscrepancyLatch (i : StopInput) (s : State) : Host.Outcome State Fault Refusal := run s fun h => h.latchDisc i

/-- An input has read run for rel: it counts as inactive, unless its latched discrepancy has not been followed by a stop reading
(R261). -/
def Hw.pinRun (h : Hw) (i : StopInput) : Hw :=
  let p := h.stp.pins.at (pinNo i)
  if readsRun p ∧ (¬h.flag STP_PINS (discFld i) ∨ p.seenStop) then
    ((h.updPin i fun p => { p with active := false, seenStop := false }).setFlag STP_PINS (discFld i) false)
  else h

/-- PIN_RUN_CONFIRMED: an input has read run for rel (R261). -/
def execPinRunConfirmed (i : StopInput) (s : State) : Host.Outcome State Fault Refusal := run s fun h => h.pinRun i

/-! ### Received stop frames (R260, R268) -/

/-- The source a stop frame comes from, by its flood origin, or where the origin is no neighbour by the neighbour it came from:
the code (0 for none) and the robot where it is one. -/
def Hw.stopOrigin (h : Hw) (x : StopIn) : Nat × Nat :=
  let o := x.flood.1
  if 0xFF00 ≤ o ∧ o ≤ 0xFF1F then (6, 0)
  else
    let i := (h.nbOf o).getD x.nb
    match h.nbKind i with
    | 0 => (7, h.nbShort i)
    | 2 => (5, 0)
    | 3 => (6, 0)
    | _ => (0, 0)

/-- The pair a base address belongs to. -/
def pairOf (addr : Nat) : Nat := (addr - 0xFF00) / 4

/-- A received stop frame is queued for relay on every lane in service but the one it came on (R268). -/
def Hw.queueRelay (h : Hw) (x : StopIn) (fleet : Bool) : Hw :=
  let (o, i, ttl) := x.flood
  let lanes := without x.lane h.lanesUp
  if ttl = 0 ∨ lanes.isEmpty ∨ h.stpState = stpUnarmed then h
  else h.updStp fun p => { p with relays := p.relays ++ [⟨fleet, h.now, x.robot, (o, i, ttl - 1), x.payload, lanes⟩] }

/-- The enable of a source and scope (STP_SRC_CFG): none where the scope is not allowed for the source (R260). -/
def Hw.frameAllowed (h : Hw) (src self robot : Nat) (fleet : Bool) : Option Bool :=
  if src = 5 then
    some (if fleet then h.flag STP_SRC_CFG STP_SRC_CFG.pendant_fleet else h.flag STP_SRC_CFG STP_SRC_CFG.pendant_tgt)
  else if src = 6 ∧ fleet then some (h.flag STP_SRC_CFG STP_SRC_CFG.base_fleet)
  else if src = 7 ∧ ¬fleet ∧ robot = self then some (h.flag STP_SRC_CFG STP_SRC_CFG.robot_self)
  else none

/-- The sequencer takes a received stop frame (R260, R268). -/
def Hw.takeStopFrame (h : Hw) (x : StopIn) : Hw :=
  let kind := fieldAt x.payload 0 1
  let fleet := decide (kind = 1)
  if ¬(kind = 1 ∨ kind = 2) ∨ fleet ≠ decide (x.robot = 0) ∨ x.robot > 128 ∨ x.payload.length ≠ 8 then h.stpAuthFail
  else
    let (src, self) := h.stopOrigin x
    if ¬fleet ∧ src = 6 ∧ 0xFF00 ≤ x.flood.1 ∧ pairOf x.flood.1 ≠ pairOf (max 0xFF00 h.unitAddr) then h.queueRelay x false
    else match h.frameAllowed src self x.robot fleet with
      | none => h.stpAuthFail
      | some en =>
        let h := h.queueRelay x fleet
        if en then h.stop src x.robot else h

/-- STOP_FRAME: the oldest stop frame that RAD passed on is taken (R246, R268). -/
def execStopFrame (s : State) : Host.Outcome State Fault Refusal :=
  run s fun h => match h.rad.toStp with
    | [] => h
    | x :: xs => (h.updRad fun r => { r with toStp := xs }).takeStopFrame x

/-! ### Marks, repeats and stop runs (R242, R269) -/

/-- The sequencer passes SP's kick on to the interlock watchdog, while it is at most 10 ms old (R279). -/
def Hw.passKick (h : Hw) : Hw :=
  match h.eqx.spKick with
  | some t => if h.now ≤ t + 10000000 then { h with eqx := { h.eqx with wdogKick := h.now } } else h
  | none => h

/-- The first mark or stop frame after a takeover gives the time from its detection (EQX_TAKEOVER). -/
def Hw.noteFirstMark (h : Hw) : Hw :=
  if h.eqx.firstMark then
    let us := (h.now - (h.eqx.detectAt.getD h.now)) / 1000
    ({ h with eqx := { h.eqx with firstMark := false } }).setF EQX_TAKEOVER EQX_TAKEOVER.detect_to_mark_us (min us (2 ^ 24 - 1))
  else h

/-- The payload of a permit mark (R242). -/
def Hw.markPayload (h : Hw) (j : Nat) : List Byte :=
  let flags := h.paired.toNat + (if h.paired && decide (h.now < h.eqx.flagUntil) then 2 else 0)
  leBytes 1 j ++ leBytes 1 flags ++ leBytes 4 h.nowMs ++ leBytes 2 (h.f RAD_STAT RAD_STAT.bind_ver)

/-- A mark cell: while running, a permit mark on every lane in service; the watchdog's kick in any state. -/
def Hw.permitMark (h : Hw) (j : Nat) : Hw :=
  let h := h.passKick
  if h.stpState = stpRunning ∧ h.sends then
    let h := h.lanesUp.foldl (fun h n => h.stpSend n ftPermit 0 (some h.stp.permitSeq) none (h.markPayload j)) h
    let h := h.updStp fun p => { p with
      permitSeq := (p.permitSeq + 1) % 65536, markAt := h.now, marked := p.marked || p.awaitMark, awaitMark := false }
    h.noteFirstMark.exhaustCheck.mirrorStop
  else h

/-- PERMIT_MARK: the mark cell of mark j begins (R242, R266, R279). -/
def execPermitMark (mark : Fin 5) (s : State) : Host.Outcome State Fault Refusal := run s fun h => h.permitMark mark.val

/-- A mark or mid cell within a fleet hold: a stop frame on every lane, unless the first frame went less than 2 ms before (R269). -/
def Hw.stopRepeat (h : Hw) : Hw :=
  let soon : Bool := match h.stp.firstAt with
    | some t => decide (h.now < t + 2000000)
    | none => false
  if h.fleetHold ∧ h.stpState = stpStopped ∧ ¬soon then
    (h.sendFleet.updStp fun p => { p with firstAt := none }).noteFirstMark.exhaustCheck
  else h

/-- STOP_REPEAT: a mark or mid cell begins within a fleet hold (R269). -/
def execStopRepeat (s : State) : Host.Outcome State Fault Refusal := run s Hw.stopRepeat

/-- The first run of mark_cells downlink cells of a window of a lane (R269). -/
def Hw.findRun (h : Hw) (n j : Nat) : Option Nat :=
  let mc := h.markCells n
  ((List.range (100 - mc)).map (100 * j + mc + ·)).find? fun c =>
    decide (c + mc ≤ 100 * j + 100) && (List.range mc).all fun i => h.isDownlink n (c + i)

/-- The robot that the next window's own frame names: a new one first, else the next in robot order (R269). -/
def Hw.nextTarget (h : Hw) : Option Nat :=
  let due := h.stp.targets.filter Target.hold
  if h.fleetHold then none
  else match due.find? Target.first with
    | some t => some t.robot
    | none => match due.find? fun t => decide (t.robot > h.stp.named) with
      | some t => some t.robot
      | none => due.head?.map Target.robot

/-- Whether a lane has a frame for a stop run. -/
def Hw.runDue (h : Hw) (n : Nat) : Bool := h.stp.window.isSome || h.stp.relays.any fun r => memb n r.lanes

/-- The start of a window: the robot to be named is chosen, and each lane with a frame due claims a run (R269). -/
def Hw.claimRuns (h : Hw) (j : Nat) : Hw :=
  let h := (List.range 8).foldl (fun h n => h.updLane n fun l => { l with run := none }) h
  let h := h.updStp fun p => { p with window := none }
  if h.stpState = stpUnarmed ∨ ¬h.sends then h
  else
    let h := match h.nextTarget with
      | none => h
      | some r =>
        let (fid, h) := h.takeFlood
        h.updStp fun p => { p with window := some (r, fid), named := r,
                                   targets := p.targets.map fun (t : Target) => if t.robot = r then { t with first := false } else t }
    h.lanesUp.foldl (fun h n => if h.runDue n then
      let c := h.findRun n j
      h.updLane n fun l => { l with run := c } else h) h

/-- Send a relay on a lane. -/
def Hw.sendRelay (h : Hw) (n : Nat) (r : StopRelay) : Hw := h.stpSend n ftStop r.robot none (some r.flood) r.payload

/-- A relay has gone on a lane. -/
def Hw.relayGone (h : Hw) (n : Nat) (r : StopRelay) : Hw :=
  h.updStp fun p => { p with
    relays := (p.relays.map fun q => if q = r then { q with lanes := without n q.lanes } else q).filter fun q => !q.lanes.isEmpty }

/-- A claimed run begins on a lane: one frame, chosen in the order of R269. -/
def Hw.sendRun (h : Hw) (n : Nat) : Hw :=
  match (h.lane n).run with
  | none => h
  | some _ =>
    let mine := h.stp.relays.filter fun r => memb n r.lanes
    let own := match h.stp.window with
      | some (r, fid) => (h.target r).map fun t => (t, fid)
      | none => none
    let h := match mine.find? StopRelay.fleet, own with
      | some r, _ => (h.sendRelay n r).relayGone n r
      | none, some (t, fid) =>
        if h.fleetHold then h
        else h.stpSend n ftStop t.robot none (some (h.unitAddr, fid, h.f STP_CFG STP_CFG.ttl))
          (stopPayload 2 t.reason t.stopId t.tms)
      | none, none => match mine.head? with
        | some r => (h.sendRelay n r).relayGone n r
        | none => h
    h.exhaustCheck

/-- STOP_RUN: a window begins, or the run claimed on a lane does (R269). -/
def execStopRun (step : RunStep) (s : State) : Host.Outcome State Fault Refusal :=
  run s fun h => match step with
    | .claim j => h.claimRuns j.val
    | .send n => h.sendRun n.val

/-- RELAY_TIMEOUT: the oldest relay has waited 50 ms and is dropped (R269). -/
def execRelayTimeout (s : State) : Host.Outcome State Fault Refusal :=
  run s fun h => h.updStp fun p => { p with relays := p.relays.drop 1 }

/-- A hold ends: the fleet's (robot 0) or a robot's; the stop stays in force (R269). A key kept only for the hold goes (R341). -/
def Hw.holdEnds (h : Hw) (robot : Nat) : Hw :=
  let h := if robot = 0 then h.setFlag STP_STAT STP_STAT.hold false
    else h.updStp fun p => { p with targets := p.targets.map fun (t : Target) => if t.robot = robot then { t with hold := false } else t }
  let h := if robot = 0 ∧ h.stp.eraseKey then
      { h.updStp fun p => { p with eraseKey := false } with ports := { h.ports with stop := [], stopOld := [], cmd := [] } }
    else h
  h.mirrorStop

/-- STOP_HOLD_EXPIRY: hold_s after the newest stop event of a kind (R269). -/
def execStopHoldExpiry (robot : Fin 129) (s : State) : Host.Outcome State Fault Refusal := run s fun h => h.holdEnds robot.val

/-! ### Outputs (R272) -/

/-- OUTPUT_DELAY_EXPIRY: out_delay_ms after the first mark the outputs become active (R272). -/
def execOutputDelayExpiry (s : State) : Host.Outcome State Fault Refusal :=
  run s fun h => if h.stpState = stpRunning ∧ h.stp.marked then
    h.withOuts fun h => h.updStp fun p => { p with outsOn := true } else h

/-- TEST_PULSE: a test pulse of an active output begins or ends (R272). -/
def execTestPulse (out : Fin 4) (begin : Bool) (s : State) : Host.Outcome State Fault Refusal :=
  run s fun h =>
    if begin then
      if h.f (STP_OUT_CFG out.val) STP_OUT_CFG.pulse_us ≠ 0 ∧ h.outActive out.val then
        h.withOuts fun h => h.updStp fun p => { p with pulsing := p.pulsing ++ [out.val] } else h
    else h.withOuts fun h => h.updStp fun p => { p with pulsing := without out.val p.pulsing }

/-- A readback that differs for 50 µs outside a test pulse: counted, and a fleet stop with source 10 (R272). -/
def Hw.readbackBad (h : Hw) (n : Nat) : Hw :=
  if memb n h.stp.pulsing then h
  else
    let h := (h.bump STP_ERR STP_ERR.readback STP_ERR.rb_sat).raise STP_IRQ_STAT STP_IRQ_STAT.readback n
    (h.updStp fun p => { p with rbBad := addCode n p.rbBad }).fleetStop 10

/-- READBACK_MISMATCH: the level at an output's ball has differed from the driven level for 50 µs (R272). -/
def execReadbackMismatch (out : Fin 4) (s : State) : Host.Outcome State Fault Refusal := run s fun h => h.readbackBad out.val

/-! ### Supervision (R274) -/

/-- A dry run ends: `raised` says which of the five gate signals the sequencer raised. A missing one is a fleet stop with source 10,
which SP asserts (R274). -/
def Hw.dryRun (h : Hw) (raised : Nat) : Hw :=
  if raised = 31 then { h with hlt := { h.hlt with dryRunFailed := false } }
  else
    let h := { h with hlt := { h.hlt with dryRunFailed := true } }
    ((h.updStp fun p => { p with sp := addCode 10 p.sp }).fleetStop 10).raise STP_IRQ_STAT STP_IRQ_STAT.selftest_fail 0

/-- DRY_RUN: SP injects a masked test stop and checks the gate signals (R274). -/
def execDryRun (raised : BitVec 5) (s : State) : Host.Outcome State Fault Refusal := run s fun h => h.dryRun raised.toNat

/-- SP_LOCKSTEP_FAIL: SP's compare fails or its TCM has an uncorrectable error: recorded as a fault of class 9, the floor incomplete,
the interlock released (R32, R274, R373). -/
def execSpLockstepFail (kind : Word) (s : State) : Host.Outcome State Fault Refusal :=
  run s fun h => ((h.countTransient 9 0 kind).updStp fun p => { p with spBad := true }).floorCheck

/-- SP_KICK: SP kicks the interlock watchdog through its port (R279). -/
def execSpKick (s : State) : Host.Outcome State Fault Refusal :=
  run s fun h => if h.spWorks then { h with eqx := { h.eqx with spKick := some h.now } } else h

/-! ### Registers -/

/-- The live word of an STP register. -/
def Hw.viewStp (h : Hw) (k : Nat) : Word :=
  let w := h.reg k
  if k = STP_STAT then STP_STAT.targeted.set w h.stp.targets.length
  else if k = STP_SRC_STAT then STP_SRC_STAT.asserting.set w (srcMask h.stpAsserting)
  else if k = STP_PINS then
    let a := h.stp.pins.at 0
    let b := h.stp.pins.at 1
    let bits := fun (g : Nat → Bool) => (List.range 4).foldl (fun m n => m + (g n).toNat * 2 ^ n) 0
    let w := STP_PINS.stop_in.set w (a.hi.toNat + a.lo.toNat * 2 + b.hi.toNat * 4 + b.lo.toNat * 8)
    let w := STP_PINS.readback.set w (bits fun n => h.outLevel n != memb n h.stp.rbBad)
    STP_PINS.active.set w (bits h.outActive)
  else w

end Sys2Proof.Machine
end

