-- ==== Sys2Proof/Machine/Health.lean ====
section
/-! DEFINITION. The health manager (spec/01_one_machine.md R34, R35; spec/15_almanac_health.md R373–R375): classification, retirement and
replacement of units, and the health report. -/

namespace Sys2Proof.Machine

open Reg

/-- Change the health manager's part of the state. -/
def Hw.updHlt (h : Hw) (g : HltSt → HltSt) : Hw := { h with hlt := g h.hlt }

/-- Whether a unit's retirement has been decided, or it is kept degraded. -/
def Hw.isRetired (h : Hw) (cls inst : Nat) : Bool := h.hlt.retired.any fun r => decide (r.cls = cls ∧ r.inst = inst)
def Hw.isDegraded (h : Hw) (cls inst : Nat) : Bool := h.hlt.degraded.any fun r => decide (r.cls = cls ∧ r.inst = inst)

/-- A count of HLT_STAT saturates without a flag. -/
def satUp (f : Fld) (w : Word) : Word := f.set w (min f.max (f.get w + 1))

/-! ### Replacement of an application core (R75) -/

/-- Cores in service. -/
def Hw.coresUp (h : Hw) : List Nat := (List.range 8).filter fun n => h.flag (SPN_CORE_EN n) SPN_CORE_EN.in_service

/-- An affinity mask without a retired core; one left empty is widened to the core's cluster, or to every core in service: the Bool says so. -/
def Hw.lessCore (h : Hw) (n mask : Nat) : Nat × Bool :=
  let m := if bit mask n then mask - 2 ^ n else mask
  let near := h.coresUp.filter fun c => decide (c / 4 = n / 4)
  if m % 256 ≠ 0 then (m, false)
  else ((if near.isEmpty then h.coresUp else near).foldl (fun m c => m + 2 ^ c) 0, true)

/-- Clear a core in a resident task's mask. -/
def Hw.clearTask (n : Nat) (h : Hw) (slot : Nat) : Hw :=
  let t := h.task slot
  if t.state = .free ∨ ¬bit t.affinity n then h
  else
    let (m, w) := h.lessCore n t.affinity
    let h := (h.updTask slot fun t => { t with affinity := m }).updHlt fun x => { x with widened := x.widened || w }
    if t.state = .ready ∨ t.state = .preempted then h.placeReady slot else h

/-- Clear a core in the mask of the spill ring's entry `i`. -/
def Hw.clearSpilled (n : Nat) (h : Hw) (i : Nat) : Hw :=
  let a := h.ringAddr (h.spn.ringRead + i)
  match h.record a 32 with
  | none => h
  | some d =>
    if ¬bit (fieldAt d 21 1) n then h
    else
      let (m, w) := h.lessCore n (fieldAt d 21 1)
      (h.storeBytes (a + 21) (leBytes 1 m)).updHlt fun x => { x with widened := x.widened || w }

/-- A retired core leaves delivery: its bit is cleared in every mask, and its running task is treated as pre-empted without a saved context
and reported to SP (R75). -/
def Hw.coreRetired (h : Hw) (n : Nat) : Hw :=
  let h := h.withdrawOffer n
  let h := match (h.spnCore n).running with
    | none => h
    | some slot =>
      let h := (h.emit (.lostTask (h.handleOf slot))).updCore n fun c => { c with running := none }
      (h.updTask slot fun t => { t with state := .preempted, resumed := true }).readyHead slot
  let h := (List.range 512).foldl (Hw.clearTask n) h
  (List.range h.spn.ringCount).foldl (Hw.clearSpilled n) h

/-! ### Replacement of an SRAM bank (R23, R89) -/

/-- A bank's retirement: a spare that is free takes it over, by a copy that MIGRATION_COPY_DONE ends; else its addresses are bus errors. The
retirement of the spare leaves the bank it replaced without one. -/
def Hw.bankRetired (h : Hw) (b : Nat) : Hw :=
  match h.hlt.bankMap.find? fun p => decide (p.2 = b + 1) with
  | some (old, _) => h.updHlt fun x => { x with bankMap := x.bankMap.set old 0, deadBanks := addCode old x.deadBanks }
  | none =>
    match h.hlt.spareBank with
    | some s =>
      if s ≠ b ∧ h.hlt.bankMap.isEmpty ∧ h.hlt.migrating.isNone ∧ ¬h.isRetired 1 s then h.updHlt fun x => { x with migrating := some (b, s) }
      else h.updHlt fun x => { x with deadBanks := addCode b x.deadBanks }
    | none => h.updHlt fun x => { x with deadBanks := addCode b x.deadBanks }

/-- The base address of a bank, and its octets. -/
def bankBase (b : Nat) : Nat := 0x10000000 + b * 0x200000
def bankSize : Nat := 0x200000

/-- Move what a bank holds to the spare (R89). -/
def moveBank (mem : List Host.Cell) (b s : Nat) : List Host.Cell :=
  let inBank := fun (k : Nat) (c : Host.Cell) => decide (bankBase k ≤ c.1 ∧ c.1 < bankBase k + bankSize)
  let rest := mem.filter fun c => !inBank b c && !inBank s c
  (mem.filter (inBank b)).foldl (fun m c => Map.put memDefault m (c.1 - bankBase b + bankBase s) c.2) rest

/-- The copy of a retired bank ends: the spare answers at its address; the lines that could not be corrected are poisoned and recorded. -/
def Hw.migrated (h : Hw) (bad : List Nat) : Hw :=
  match h.hlt.migrating with
  | none => h
  | some (b, s) =>
    let h := { h with mem := moveBank h.mem b s }
    let h := h.updHlt fun x => { x with migrating := none, bankMap := x.bankMap.set b (s + 1) }
    (bad.filter fun l => decide (l < 32768)).foldl (fun h l =>
      let a := bankBase b + l * 64
      (h.updHlt fun x => { x with poisoned := addCode (a / 64) x.poisoned }).event hltSource 0x000D (BitVec.ofNat 32 a)
        (BitVec.ofNat 32 (a / 2 ^ 32)) (BitVec.ofNat 32 b)) h

/-! ### Replacement of a radio lane (R243, R256) -/

/-- The lane that takes over a retired lane's robots and neighbours. -/
def Hw.fallbackOf (h : Hw) (n : Nat) : Option Nat :=
  let f := h.f (RAD_LANE_CFG n) RAD_LANE_CFG.fallback
  if h.laneUp f then some f else h.lanesUp.head?

/-- A robot takes a free entry of a lane's tables, or is bound without a slot. -/
def Hw.bindRobot (h : Hw) (lane r : Nat) : Hw :=
  match (List.range 16).find? fun k => decide (h.f (RAD_SLOT lane k) RAD_SLOT.robot = 0) with
  | some k => h.setF (RAD_SLOT lane k) RAD_SLOT.robot r
  | none => h.updRad fun x => { x with unslotted := (x.unslotted.filter fun p => decide (p.1 ≠ r)) ++ [(r, lane)] }

/-- Free a robot's entries of a lane's table. -/
def Hw.unbindRobot (h : Hw) (lane r : Nat) : Hw :=
  let h := h.updRad fun x => { x with unslotted := x.unslotted.filter fun p => decide (p.1 ≠ r) }
  (List.range 16).foldl (fun h k =>
    if h.f (RAD_SLOT lane k) RAD_SLOT.robot = r then h.setF (RAD_SLOT lane k) RAD_SLOT.robot 0 else h) h

/-- The count of robots bound without a slot (RAD_STAT.unslotted). -/
def Hw.countUnslotted (h : Hw) : Hw := h.setF RAD_STAT RAD_STAT.unslotted (min 255 h.rad.unslotted.length)

/-- A binding change: bind_ver advances, and the notices run for 20 superframes (R243). -/
def Hw.bindingChange (h : Hw) (notices : List (Nat × Nat × List Nat)) : Hw :=
  let h := h.setF RAD_STAT RAD_STAT.bind_ver ((h.f RAD_STAT RAD_STAT.bind_ver + 1) % 65536)
  let h := h.updRad fun x => { x with notices := notices, noticeLeft := 20 }
  h.countUnslotted.raiseFrom 0x1108 RAD_IRQ_STAT RAD_IRQ_STAT.binding 0

/-- The robots and neighbours of a retired lane move, at a superframe start (R243, R256). -/
def Hw.moveLane (h : Hw) (n : Nat) : Hw × List (Nat × Nat × List Nat) :=
  match h.fallbackOf n with
  | none => (h, [])
  | some dst =>
    let rs := h.robotsOn n
    let h := rs.foldl (fun h r => (h.unbindRobot n r).bindRobot dst r) h
    let h := (List.range 512).foldl (fun h i =>
      if h.nbValid i && decide (h.f (RAD_NB_CFG i) RAD_NB_CFG.lane = n) then h.setF (RAD_NB_CFG i) RAD_NB_CFG.lane dst else h) h
    (h, rs.map fun r => (r, dst, [dst]))

/-- The binding changes due at a superframe start. -/
def Hw.applyBindings (h : Hw) : Hw :=
  if h.rad.bindDue.isEmpty then h
  else
    let (h, ns) := h.rad.bindDue.foldl (fun p n => let (h, ns) := p.1.moveLane n; (h, p.2 ++ ns)) (h, [])
    (h.updRad fun x => { x with bindDue := [] }).bindingChange ns

/-- A retired lane: its port is idled and its queued frames are discarded (R256). -/
def Hw.laneRetired (h : Hw) (n : Nat) : Hw :=
  let h := (h.abortLane n).laneCmd n cmdIdle []
  let h := h.updLane n fun l => { l with frames := [], rtcm := [], rx := [], rxOn := false, infoDue := false }
  let h := [h.f (RAD_LANE_FIFO n) RAD_LANE_FIFO.tx_track, h.f (RAD_LANE_FIFO n) RAD_LANE_FIFO.tx_echo,
    h.f (RAD_LANE_FIFO n) RAD_LANE_FIFO.tx_data].foldl Hw.flushFifo h
  let h := h.updRad fun x => { x with
    bindDue := x.bindDue ++ [n], relays := x.relays.map fun r => { r with lanes := without n r.lanes } }
  h.raiseFrom (0x1100 + n) RAD_IRQ_STAT RAD_IRQ_STAT.lane_retired n

/-! ### Replacement of a DMA channel (R88) -/

/-- A retired channel's running chain moves to an idle channel of the same context, from its recorded progress; with none left the descriptor is
aborted with error 0x3 (log entry 49). -/
def Hw.dmaRetired (h : Hw) (ch : Nat) : Hw :=
  let st := h.f (DMA_CH_STAT ch) DMA_CH_STAT.state
  if st ≠ 1 ∧ st ≠ 2 then h
  else
    let ctx := h.f (DMA_CH_CFG ch) DMA_CH_CFG.ctx
    match (List.range 128).find? fun c =>
        decide (c ≠ ch ∧ h.f (DMA_CH_CFG c) DMA_CH_CFG.ctx = ctx) && h.flag (DMA_CH_CFG c) DMA_CH_CFG.enable &&
          !h.flag (DMA_CH_CFG c) DMA_CH_CFG.retired && !h.isRetired 6 c &&
          decide (h.f (DMA_CH_STAT c) DMA_CH_STAT.state ≠ 1 ∧ h.f (DMA_CH_STAT c) DMA_CH_STAT.state ≠ 2) with
    | none => h.dmaFail ch 3
    | some c =>
      let cur := h.dmaCur ch
      let prog := h.f (DMA_CH_PROG ch) DMA_CH_PROG.progress
      let d := h.dmaCh ch
      let h := ((h.unitNormal ch).setDma ch { desc := none, paused := false }).dmaState ch 0 0
      let h := (h.setReg64 (DMA_CH_CUR_LO c) cur).setF (DMA_CH_PROG c) DMA_CH_PROG.progress prog
      if d.desc.isSome then (h.setDma c d).dmaState c 1 0 else h.dmaFetch c

/-! ### Replacement of an axis link (R216) -/

/-- Every axis of a link makes its stop (R216, R224). -/
def Hw.stopLink (h : Hw) (k : Nat) : Hw :=
  [0, 1, 2, 3].foldl (fun h i =>
    let n := 4 * k + i
    match (h.axis n).group with
    | some g => h.groupStop g true h.axStopDec h.axStopJerk
    | none => h.stopAxis n) h

/-! ### Retirement (R34, R35, R374) -/

/-- A retirement that R35 forbids: the last lane in service; bank 0 with no spare to take it over, or the spare that holds bank 0; the last
application core while SP does not work (R30, R31). -/
def Hw.forbidden (h : Hw) (cls inst : Nat) : Bool :=
  match cls with
  | 0 => decide (h.coresUp = [inst]) && !h.spWorks
  | 1 =>
    let free := h.hlt.spareBank.isSome && h.hlt.bankMap.isEmpty && h.hlt.migrating.isNone &&
      !(h.hlt.spareBank.any fun s => h.isRetired 1 s)
    (decide (inst = 0) && !free) || decide (h.hlt.bankMap.at 0 = inst + 1)
  | 3 => decide (h.lanesUp = [inst])
  | _ => false

/-- From its decision a unit takes no new work (R374). -/
def Hw.noNewWork (h : Hw) (cls inst : Nat) : Hw :=
  match cls with
  | 0 => h.setFlag (SPN_CORE_EN inst) SPN_CORE_EN.in_service false
  | 2 => h.setF (MTX_TILE_STAT inst) MTX_TILE_STAT.state 2
  | 3 =>
    let m := h.f RAD_STAT RAD_STAT.in_service
    (h.setF RAD_STAT RAD_STAT.in_service (if bit m inst then m - 2 ^ inst else m)).setF (RAD_LANE_STAT inst) RAD_LANE_STAT.state 2
  | 6 => h.setFlag (DMA_CH_CFG inst) DMA_CH_CFG.retired true
  | 7 => h.setF (AXL_LINK_STAT inst) AXL_LINK_STAT.state 3
  | 8 => h.setF (MTR_CH_STAT inst) MTR_CH_STAT.state 3
  | _ => h

/-- A channel is retired: its signal is acquired again on a free channel (R34, R117). -/
def Hw.chanRetired (h : Hw) (c : Nat) : Hw :=
  let x := h.gch c
  let h := h.setGch c { (default : GnsCh) with phase := .retired }
  let h := if x.phase = .idle ∨ x.phase = .retired then h else h.queueTriple ⟨x.ant, x.sig, x.sv, none, false⟩
  (h.raise GNS_IRQ_STAT GNS_IRQ_STAT.ch_retired c).gnsSettle

/-- A search slot is retired: the search under way on it is queued again (R109, R373). -/
def Hw.searchRetired (h : Hw) (n : Nat) : Hw :=
  match h.gns.searches.at n with
  | some (q, since) => ((h.endSearch n since 3).queueTriple { q with held := false }).gnsSettle
  | none => h

/-- The replacement of a unit begins; but for an SRAM bank's copy it also ends at once (R34). -/
def Hw.replaceUnit (h : Hw) (r : Retire) : Hw :=
  match r.cls with
  | 0 => h.coreRetired r.inst
  | 1 => h.bankRetired r.inst
  | 2 => h.tileRetired r.inst
  | 3 => h.laneRetired r.inst
  | 4 => h.chanRetired r.inst
  | 5 => h.searchRetired r.inst
  | 6 => h.dmaRetired r.inst
  | 7 => h.stopLink r.inst
  | _ => h

/-- A permanent fault: the unit is retired, or, where R35 forbids that, kept degraded (R35, R374). Retirements proceed one at a time. -/
def Hw.retire (h : Hw) (cls inst cause : Nat) : Hw :=
  let rec_ := fun (h : Hw) code arg => h.event hltSource code (BitVec.ofNat 32 cls) (BitVec.ofNat 32 inst) (BitVec.ofNat 32 arg)
  if h.forbidden cls inst then
    let h := (rec_ h 0x0009 0).updHlt fun x => { x with degraded := x.degraded ++ [⟨cls, inst⟩] }
    let h := h.setReg (HLT_CLASS cls) (satUp HLT_CLASS.degraded (h.reg (HLT_CLASS cls)))
    let h := h.setReg HLT_STAT (satUp HLT_STAT.degraded (h.reg HLT_STAT))
    let h := h.raise HLT_IRQ_STAT HLT_IRQ_STAT.degraded inst
    if cls = 3 then h.floorCheck else h
  else
    let h := (rec_ h 0x0008 cause).updHlt fun x => { x with retired := x.retired ++ [⟨cls, inst⟩] }
    let h := if cls = 1 then { h with pwr := { h.pwr with bankRec := ⟨true, some inst, (h.pwr.bankRec.count + 1) % 65536⟩ } } else h
    let w := h.reg (HLT_CLASS cls)
    let h := h.setReg (HLT_CLASS cls) (HLT_CLASS.in_service.set (satUp HLT_CLASS.retired w) (HLT_CLASS.in_service.get w - 1))
    let h := h.setReg HLT_STAT (satUp HLT_STAT.retired (h.reg HLT_STAT))
    let h := (h.raise HLT_IRQ_STAT HLT_IRQ_STAT.retired inst).noNewWork cls inst
    let h := if h.hlt.migrating.isSome then h.updHlt fun x => { x with queue := x.queue ++ [⟨cls, inst⟩] } else h.replaceUnit ⟨cls, inst⟩
    if cls = 3 then h.floorCheck else h

/-- A detected fault of a unit (R34, R373, R374): counted and recorded; of classes 0–8 and of a unit not yet retired or degraded it is also
classified: permanent when the retries fail, or at the eighth transient within 60 s. -/
def Hw.fault (h : Hw) (cls inst : Nat) (kind : Word) (retriesFailed : Bool) : Hw :=
  let known := h.isRetired cls inst || h.isDegraded cls inst
  let h := h.countTransient cls inst kind
  if cls ≥ 9 ∨ inst ≥ classUnits.getD cls 0 ∨ known then h
  else
    let key := cls * 4096 + inst
    let ws := ((h.hlt.windows.at key).filter fun t => decide (h.now < t + 60000000000)) ++ [h.now]
    let h := h.updHlt fun x => { x with windows := x.windows.set key ws }
    if retriesFailed then h.retire cls inst 1 else if ws.length ≥ 8 then h.retire cls inst 2 else h

/-- A fault whose kind has no number in the specification: the number is a free value. -/
def Hw.faultOpen (h : Hw) (cls inst : Nat) (retriesFailed : Bool) : Hw :=
  (h.useFree 1).fault cls inst (Config.freeWord h.freeCtr) retriesFailed

/-- Transient faults of a unit within the last 60 s. -/
def Hw.faultsIn (h : Hw) (cls inst : Nat) : Nat :=
  ((h.hlt.windows.at (cls * 4096 + inst)).filter fun t => decide (h.now < t + 60000000000)).length

/-- A transient fault of a lane (R231): also permanent at the third in a row. -/
def Hw.laneFault (h : Hw) (n : Nat) (kind : Word) (permanent : Bool) : Hw :=
  if h.isRetired 3 n then h.fault 3 n kind false
  else
    let row := min 3 (h.f (RAD_LANE_STAT n) RAD_LANE_STAT.consec + 1)
    let h := h.setF (RAD_LANE_STAT n) RAD_LANE_STAT.consec row
    let h := h.raiseFrom (0x1100 + n) RAD_IRQ_STAT RAD_IRQ_STAT.lane_fault n
    h.fault 3 n kind (permanent || decide (row ≥ 3))

/-- TRANSIENT_FAULT (R34): a detected fault of a unit or of a class that is only counted. -/
def execTransientFault (cls : Fin 15) (inst : Fin 512) (kind : Word) (retriesFailed : Bool) (s : State) :
    Host.Outcome State Fault Refusal :=
  run s fun h => if cls.val = 3 ∧ inst.val < 8 then h.laneFault inst.val kind retriesFailed else h.fault cls.val inst.val kind retriesFailed

/-- RETIREMENT_NEXT (R374): the retirement ahead has completed, and the next one's replacement begins. -/
def execRetirementNext (s : State) : Host.Outcome State Fault Refusal :=
  run s fun h =>
    match h.hlt.queue with
    | [] => h
    | r :: rest => if h.hlt.migrating.isSome then h else (h.updHlt fun x => { x with queue := rest }).replaceUnit r

/-- MIGRATION_COPY_DONE (R89): the lines named could not be corrected. -/
def execMigrationCopyDone (badLines : List Nat) (s : State) : Host.Outcome State Fault Refusal := run s fun h => h.migrated badLines

/-! ### Faults of channels, tiles and links -/

/-- CHANNEL_FAULT (R117): a parity error of a channel's accumulators; the channel is reloaded, and the next epoch omits it. -/
def execChannelFault (ch : Fin 512) (retriesFailed : Bool) (s : State) : Host.Outcome State Fault Refusal :=
  run s fun h =>
    let x := h.gch ch.val
    let h := if x.phase = .idle ∨ x.phase = .retired then h else h.setGch ch.val { x with skipNext := true }
    (h.bump GNS_ERR GNS_ERR.ch_fault GNS_ERR.ch_sat).faultOpen 4 ch.val retriesFailed

/-- TILE_FAULT (R142, R143): the affected job's attempt fails; the tile is retired when all four attempts failed on it. -/
def Hw.tileFault (h : Hw) (t b : Nat) (kind : TileError) : Hw :=
  match kind with
  | .corrected => h.bump (MTX_TILE_ERR t) MTX_TILE_ERR.ecc_corr MTX_TILE_ERR.corr_sat
  | k =>
    let h := if k = .residue then h.bump (MTX_TILE_ERR t) MTX_TILE_ERR.residue MTX_TILE_ERR.residue_sat
      else h.bump (MTX_TILE_ERR t) MTX_TILE_ERR.ecc_unc MTX_TILE_ERR.unc_sat
    match h.half t b with
    | none => h.faultOpen 2 t false
    | some s =>
      let all := (h.job s).any fun j => decide (j.retries ≥ 3) && j.failed.all (fun x => decide (x = t)) && decide (j.tile = t)
      (h.attemptFails s).faultOpen 2 t all

/-- TILE_FAULT (R142). -/
def execTileFault (tile : Fin 4) (half : Fin 2) (kind : TileError) (s : State) : Host.Outcome State Fault Refusal :=
  run s fun h => h.tileFault tile.val half.val kind

/-- SELFTEST_COMPLETE (R144): the end of a tile's known-answer job that no dispatch has abandoned. -/
def execSelftestComplete (tile : Fin 4) (ok : Bool) (s : State) : Host.Outcome State Fault Refusal :=
  run s fun h =>
    if h.f (MTX_TILE_STAT tile.val) MTX_TILE_STAT.state ≠ 1 then h
    else
      let h := (h.endSelftest tile.val).updHlt fun x => { x with
        tileTestFailed := if ok then without tile.val x.tileTestFailed else addCode tile.val x.tileTestFailed }
      if ok then h else h.faultOpen 2 tile.val false

/-- LINK_FAULT (R216): a transient fault of the link; its axes stop. -/
def execLinkFault (link : Fin 4) (s : State) : Host.Outcome State Fault Refusal :=
  run s fun h =>
    if h.linkState link.val = 3 then h.faultOpen 7 link.val false
    else
      let h := (h.setF (AXL_LINK_STAT link.val) AXL_LINK_STAT.state 2).updLink link.val fun l => { l with
        misses := 0, faults := (l.faults.filter fun t => decide (h.now < t + 60000000000)) ++ [h.now] }
      ((h.raise AXL_IRQ_STAT AXL_IRQ_STAT.link_fault link.val).stopLink link.val).faultOpen 7 link.val false

/-! ### The health report (R375) -/

/-- The self-test flag (R375). -/
def Hw.selftestOk (h : Hw) : Bool := !(h.hlt.tileTestFailed.any fun t => memb t h.tilesUp) && !h.hlt.dryRunFailed

/-- SRAM banks that answer with good contents: those in service, and the banks whose address a spare holds (R375). -/
def Hw.banksUp (h : Hw) : Nat :=
  (List.range 12).foldl (fun m b => if h.isRetired 1 b ∨ h.hlt.spareBank = some b ∧ h.hlt.bankMap.isEmpty then m else m + 2 ^ b) 0

/-- The spare bank is available, and in use. -/
def Hw.spareFree (h : Hw) : Bool :=
  h.hlt.spareBank.any (fun s => !h.isRetired 1 s) && h.hlt.bankMap.isEmpty && h.hlt.migrating.isNone
def Hw.spareUsed (h : Hw) : Bool := !h.hlt.bankMap.isEmpty || h.hlt.migrating.isSome

/-- A mask of the numbers below `n` that satisfy a test. -/
def maskOf (n : Nat) (p : Nat → Bool) : Nat := (List.range n).foldl (fun m i => if p i then m + 2 ^ i else m) 0

/-- Units of a class in service. -/
def Hw.inService (h : Hw) (cls : Nat) : Nat := h.f (HLT_CLASS cls) HLT_CLASS.in_service

/-- The 64 octets of the report (R375). -/
def Hw.reportOctets (h : Hw) : List Byte :=
  let recent := (h.hlt.recent.filter fun t => decide (h.now < t + 60000000000)).length
  let st := h.f ALM_STAT ALM_STAT.state
  let flags := h.floorComplete.toNat + h.selftestOk.toNat * 2 + (!h.hlt.degraded.isEmpty).toNat * 4 + (decide (st = almHalted)).toNat * 8 +
    (decide (st = almFull)).toNat * 16 + (!h.cfg.unroutable.isEmpty).toNat * 32 + h.hlt.widened.toNat * 64
  leBytes 4 h.hlt.reportSeq ++ leBytes 8 h.now ++ leBytes 1 (h.coresUp.foldl (fun m c => m + 2 ^ c) 0) ++ leBytes 1 flags ++
    leBytes 1 (h.f RAD_STAT RAD_STAT.in_service) ++ leBytes 1 h.tilesUp.length ++ leBytes 2 (h.inService 4) ++ leBytes 1 (h.inService 5) ++
    leBytes 1 (maskOf 4 h.antUp + maskOf 4 (fun k => !h.isRetired 7 k) * 16) ++
    leBytes 2 (h.banksUp + h.spareFree.toNat * 4096 + h.spareUsed.toNat * 8192) ++ leBytes 1 (h.inService 6) ++
    leBytes 1 (maskOf 7 fun c => !h.isRetired 8 c) ++
    [2, 3, 4, 7].flatMap (fun p => leBytes 4 (h.reg (CFG_PART_HASH p)).toNat) ++ leBytes 4 recent ++ leBytes 4 (h.hlt.retired.length - h.hlt.inherited) ++
    leBytes 1 (min 255 h.hlt.degraded.length) ++ leBytes 1 (h.f RAD_STAT RAD_STAT.unslotted) ++ leBytes 14 0

/-- The report is rebuilt: written to HLT_REPORT, raised where it has changed, and published (R375). -/
def Hw.rebuild (h : Hw) : Hw :=
  let h := h.updHlt fun x => { x with reportSeq := (x.reportSeq + 1) % 2 ^ 32 }
  let bs := h.reportOctets
  let changed := (List.range 13).any fun i => decide ((h.reg (HLT_REPORT (i + 3))).toNat ≠ fieldAt bs (4 * (i + 3)) 4)
  let h := (List.range 16).foldl (fun h k => h.setReg (HLT_REPORT k) (BitVec.ofNat 32 (fieldAt bs (4 * k) 4))) h
  let h := if changed then h.raise HLT_IRQ_STAT HLT_IRQ_STAT.report 0 else h
  if h.flag HLT_CFG HLT_CFG.fifo_en then
    let (h, lost) := h.hwSendFree prodHlt (h.f HLT_CFG HLT_CFG.fifo) bs
    if lost then h.bump HLT_ERR HLT_ERR.report_dropped HLT_ERR.drop_sat else h
  else h

/-- HEALTH_REPORT (R375). -/
def execHealthReport (s : State) : Host.Outcome State Fault Refusal := run s Hw.rebuild

/-- REPORT_DROP_TIMEOUT (R375). -/
def execReportDropTimeout (s : State) : Host.Outcome State Fault Refusal :=
  run s fun h =>
    let f := h.f HLT_CFG HLT_CFG.fifo
    if h.holdsPacket prodHlt f then (h.dropHeld prodHlt f).bump HLT_ERR HLT_ERR.report_dropped HLT_ERR.drop_sat else h

/-- REPORT_SNAPSHOT (R375): a read of word 0 takes the whole report for the reading master. -/
def execReportSnapshot (via : BusAcc) (s : State) : Host.Outcome State Fault Refusal :=
  run s fun h => h.regRead via (HLT_REPORT 0) Hw.reg fun h =>
    (List.range 16).foldl (fun h w => if w = 0 then h else h.setReadShadow via.master.num (HLT_REPORT w) (h.reg (HLT_REPORT w))) h

/-- The live word of an HLT register. -/
def Hw.viewHlt (h : Hw) (k : Nat) : Word :=
  if k = HLT_STAT then
    let st := h.f ALM_STAT ALM_STAT.state
    HLT_STAT.floor.set (HLT_STAT.selftest_ok.set (HLT_STAT.log_failed.set (HLT_STAT.log_full.set (HLT_STAT.unroutable.set (h.reg k)
      (!h.cfg.unroutable.isEmpty).toNat) (decide (st = almFull)).toNat) (decide (st = almHalted)).toNat) h.selftestOk.toNat) h.floorComplete.toNat
  else h.reg k

end Sys2Proof.Machine
end

