-- ==== Sys2Proof/Machine/Almanac.lean ====
section
/-! DEFINITION. The Almanac (spec/15_almanac_health.md, R361–R372): the staging queue, page programs, the open record, clears, the
last-gasp store and firmware posts. -/

namespace Sys2Proof.Machine

open Reg

/-- Change the Almanac. -/
def Hw.updAlm (h : Hw) (g : AlmSt → AlmSt) : Hw := { h with alm := g h.alm }

/-- ALM_STAT.state. -/
def Hw.almState (h : Hw) : Nat := h.f ALM_STAT ALM_STAT.state

/-- Set ALM_STAT.state. -/
def Hw.setAlmState (h : Hw) (st : Nat) : Hw := h.setF ALM_STAT ALM_STAT.state st

/-- ALM_COUNT. -/
def Hw.almCount (h : Hw) : Nat := (h.reg ALM_COUNT).toNat

/-- The address of a LOG slot (R21, R364). -/
def logSlot (n : Nat) : Nat := 0x0900000000 + 32 * n

/-- Lay octets into flash. -/
def Hw.flashBytes (h : Hw) (a : Nat) : List Byte → Hw
  | [] => h
  | b :: bs => (h.setByte a b).flashBytes (a + 1) bs

/-- Erase a range of flash: it reads 0xFF, as memory that nothing has written does there. -/
def Hw.flashErase (h : Hw) (a n : Nat) : Hw := { h with mem := h.mem.filter fun c => decide (c.1 < a ∨ a + n ≤ c.1) }

/-! ### The staging queue (R56, R364) -/

/-- The configuration staging queue drains one record into the write buffer, while the buffer has room; a full or halted log keeps no
write waiting (R56, R366, R370). -/
def Hw.drainStaging (h : Hw) : Hw :=
  match h.bus.staging with
  | [] => h
  | r :: rs =>
    if h.almState = almFull ∨ h.almState = almHalted ∨ h.alm.absorbs r ∨ h.alm.room then
      ({ h with bus := { h.bus with staging := rs } }).placeCfg r
    else h

/-! ### Programs (R364, R366) -/

/-- Slots that may be programmed from the write position on: to the end of its page, and not in a block that a clear has still to erase
(R364, R367). -/
def Hw.almRoomAhead (h : Hw) : Nat :=
  let n := h.almCount
  match h.alm.clear with
  | some c => if n / 2048 < c.nextBlock then 8 - n % 8 else 0
  | none => 8 - n % 8

/-- PAGE_PROGRAM (R364): every closed record waiting, to the end of the page. -/
def execPageProgram (s : State) : Host.Outcome State Fault Refusal :=
  run s fun h =>
    if h.alm.programming ≠ 0 ∨ h.almState = 0 ∨ h.almState = almHalted then h
    else h.updAlm fun a => { a with programming := min h.almRoomAhead h.alm.buffer.length }

/-- Programmed records that came out of the last-gasp store leave it (R371). -/
def gaspWritten (rs : List AlmRec) : Nat := (rs.filter fun r => bit r.flags 2).length

/-- A page program has been read back and verified: ALM_COUNT advances (R364), and the 90 % mark is reported. -/
def Hw.programmed (h : Hw) : Hw :=
  let n := h.alm.programming
  let rs := h.alm.buffer.take n
  let was := h.almCount
  let cap := (h.reg ALM_CAP).toNat
  let h := h.flashBytes (logSlot was) (rs.flatMap AlmRec.octets)
  let h := h.setReg ALM_COUNT (BitVec.ofNat 32 (was + n))
  let h := h.updAlm fun a => { a with
    buffer := a.buffer.drop n, programming := 0, attempts := (0, 0, a.attempts.2.2), lastGasp := a.lastGasp.drop (gaspWritten rs) }
  if was * 10 < cap * 9 ∧ cap * 9 ≤ (was + n) * 10 then h.raise ALM_IRQ_STAT ALM_IRQ_STAT.fill_90 0 else h

/-- The log medium has failed (R370): operation, LOG offset and attempts go to the last-gasp store, recording to flash stops. -/
def Hw.mediumFailed (h : Hw) (op offset attempts : Nat) : Hw :=
  let r := h.mkRec almSource 0x0004 (BitVec.ofNat 32 op) (BitVec.ofNat 32 offset) (BitVec.ofNat 32 attempts)
  let h := (h.gasp { r with flags := r.flags % 8 }).updAlm fun a => { a.advance almSource with programming := 0, attempts := (0, 0, 0), clear := none }
  let h := (h.setFlag HLT_STAT HLT_STAT.log_failed true).setAlmState almHalted
  h.raise ALM_IRQ_STAT ALM_IRQ_STAT.halted 0

/-- Slots of a program that failed hold octets that are no record (R368): free values. -/
def Hw.spoilSlots (h : Hw) (n : Nat) : Hw :=
  let bs := h.freeOctets (32 * n)
  (h.useFree (32 * n)).flashBytes (logSlot h.almCount) bs

/-- PROGRAM_COMPLETE (R364, R370): the third failure of a program, or of its read-back, fails the medium. -/
def execProgramComplete (result : FlashResult) (s : State) : Host.Outcome State Fault Refusal :=
  run s fun h =>
    let n := h.alm.programming
    if n = 0 then h
    else
      let (p, v, e) := h.alm.attempts
      match result with
      | .ok => h.programmed
      | .failed =>
        let h := (h.spoilSlots n).bump ALM_ERR ALM_ERR.prog_retry ALM_ERR.retry_sat
        if p + 1 ≥ 3 then h.mediumFailed 1 (32 * h.almCount) (p + 1) else h.updAlm fun a => { a with attempts := (p + 1, v, e) }
      | .unverified =>
        let h := (h.spoilSlots n).bump ALM_ERR ALM_ERR.prog_retry ALM_ERR.retry_sat
        if v + 1 ≥ 3 then h.mediumFailed 4 (32 * h.almCount) (v + 1) else h.updAlm fun a => { a with attempts := (p, v + 1, e) }

/-! ### The open record (R365) -/

/-- An event equal to the open record: it repeats, and its source's sequence advances. -/
def Hw.absorbOne (h : Hw) : Hw :=
  match h.alm.opened with
  | none => h
  | some o =>
    if o.source = cfgSource then
      let r := h.mkRec cfgSource o.code o.a0 o.a1 o.a2
      (h.updAlm fun a => a.advance cfgSource).placeCfg r
    else h.event o.source o.code o.a0 o.a1 o.a2

/-- EVENT_ABSORB (R365). -/
def execEventAbsorb (s : State) : Host.Outcome State Fault Refusal := run s Hw.absorbOne

/-- Close the open record. -/
def Hw.almClose (h : Hw) : Hw := h.updAlm AlmSt.close

/-- FLUSH_TIMEOUT (R365): flush_ms after its first occurrence the open record closes. -/
def execFlushTimeout (s : State) : Host.Outcome State Fault Refusal := run s Hw.almClose

/-- What a write of ALM_CTRL does. -/
def Hw.almCtrl (h : Hw) (v : Word) : Hw := if bit v.toNat ALM_CTRL.close.lo then h.almClose else h

/-- CLOSE (R365). -/
def execClose (via : BusAcc) (s : State) : Host.Outcome State Fault Refusal :=
  run s fun h => h.regWrite via ALM_CTRL (BitVec.ofNat 32 (2 ^ 31)) fun _ h => h.almCtrl (BitVec.ofNat 32 (2 ^ 31))

/-! ### Burl's slots as hardware uses them -/

/-- A slot's contents in force. -/
def Hw.keySlot (h : Hw) (n : Nat) : KeySlot := h.brl.slots.at n

/-- Burl answers: it has its root and is not locked (R325, R341). -/
def Hw.brlRuns (h : Hw) : Bool := decide (h.f BRL_STAT BRL_STAT.state = 2 ∨ h.f BRL_STAT BRL_STAT.state = 3)

/-- The key of a slot for a use of its class; an empty list where there is none (R327). -/
def Hw.slotKey (h : Hw) (n cls : Nat) : List Byte :=
  if h.brlRuns && decide (h.f (BRL_SLOT_DEF n) BRL_SLOT_DEF.class = cls) then (h.keySlot n).key else []

/-- The key of slot 0 (update verification) or 4 (image decryption), whose roles are fixed: boot uses them before an image has laid down
any slot definition (R330, R347, R357). -/
def Hw.fixedKey (h : Hw) (n : Nat) : List Byte := if h.brlRuns then (h.keySlot n).key else []

/-- The device identity, 16 octets (R324). -/
def Hw.identity (h : Hw) : List Byte := (List.range 4).flatMap fun w => leBytes 4 (h.reg (BRL_ID w)).toNat

/-! ### Clears (R367) -/

/-- The tag of a clear: the leftmost 8 octets of the HMAC of identity, counter and count. -/
def Hw.clearTag (h : Hw) : List Byte :=
  (hmac (h.slotKey (h.f ALM_CFG ALM_CFG.clear_slot) 2)
    (h.identity ++ leBytes 4 (h.reg ALM_CLR_CTR).toNat ++ leBytes 4 (h.reg ALM_CLR_COUNT).toNat)).take 8

/-- Set the outcome of a clear. -/
def Hw.clearRes (h : Hw) (r : Nat) : Hw := (h.setFlag ALM_CLR_RES ALM_CLR_RES.busy false).setF ALM_CLR_RES ALM_CLR_RES.result r

/-- The write of ALM_CLR_TAG_HI (R367). -/
def Hw.logClear (h : Hw) (low high : Word) : Hw :=
  let key := h.slotKey (h.f ALM_CFG ALM_CFG.clear_slot) 2
  if h.alm.clear.isSome then h.clearRes 4
  else if key.isEmpty ∨ h.clearTag ≠ leBytes 4 low.toNat ++ leBytes 4 high.toNat then h.clearRes 1
  else if (h.reg ALM_CLR_CTR).toNat ≤ h.alm.clearCtr then h.clearRes 2
  else if h.reg ALM_CLR_COUNT ≠ h.reg ALM_COUNT then h.clearRes 3
  else
    let c := (h.reg ALM_CLR_CTR).toNat
    let h := h.updAlm fun a => { a with clearCtr := c, clear := some ⟨0, c⟩, programming := 0, attempts := (0, 0, 0) }
    ((h.clearRes 0).setAlmState almClearing).raise ALM_IRQ_STAT ALM_IRQ_STAT.cleared 0

/-- LOG_CLEAR (R367). -/
def execLogClear (via : BusAcc) (tagHi : Word) (s : State) : Host.Outcome State Fault Refusal :=
  run s fun h => h.regWrite via ALM_CLR_TAG_HI tagHi fun low h => h.logClear low tagHi

/-- Blocks of 64 KiB in LOG. -/
def Hw.logBlocks (h : Hw) : Nat := h.flash.logSize / 65536

/-- The first block is erased: record 0 of the new log says what was cleared, the epoch advances and the count restarts. The record stands
first in the buffer, so that every waiting record follows it. -/
def Hw.newLog (h : Hw) (counter : Nat) : Hw :=
  let r := h.mkRec almSource 0x0002 (h.reg ALM_COUNT) (BitVec.ofNat 32 (h.f ALM_LOST ALM_LOST.lost)) (BitVec.ofNat 32 counter)
  let h := h.updAlm fun a => { (a.cover r).advance almSource with buffer := r :: a.buffer }
  let h := ((h.setReg ALM_COUNT 0).setF ALM_LOST ALM_LOST.lost 0).setF ALM_STAT ALM_STAT.epoch ((h.f ALM_STAT ALM_STAT.epoch + 1) % 65536)
  ((h.setFlag HLT_STAT HLT_STAT.log_full false).setFlag HLT_STAT HLT_STAT.log_failed false).fillCheck

/-- BLOCK_ERASE_COMPLETE (R367, R370): the next block of a clear follows; the third failure fails the medium. -/
def execBlockEraseComplete (result : FlashResult) (s : State) : Host.Outcome State Fault Refusal :=
  run s fun h =>
    match h.alm.clear with
    | none => h
    | some c =>
      let (p, v, e) := h.alm.attempts
      if result = .ok then
        let h := h.flashErase (0x0900000000 + 65536 * c.nextBlock) 65536
        let last := decide (c.nextBlock + 1 ≥ h.logBlocks)
        let h := h.updAlm fun a => { a with
          attempts := (p, v, 0), clear := if last then none else some { c with nextBlock := c.nextBlock + 1 } }
        let h := if last && decide (h.almState = almClearing) then h.setAlmState almRecording else h
        if c.nextBlock = 0 then h.newLog c.counter else h
      else
        let h := h.bump ALM_ERR ALM_ERR.prog_retry ALM_ERR.retry_sat
        if e + 1 ≥ 3 then h.mediumFailed 2 (65536 * c.nextBlock) (e + 1) else h.updAlm fun a => { a with attempts := (p, v, e + 1) }

/-! ### Supply failure and start (R369–R371) -/

/-- Records go to the last-gasp store when the supply fails: the open record, the buffered ones, the staging queue (R369). -/
def Hw.carryOver (h : Hw) : Hw :=
  let rs := h.alm.opened.toList ++ h.alm.buffer ++ h.bus.staging
  let n := min rs.length (16 - h.alm.lastGasp.length)
  let h := rs.foldl Hw.gasp h
  h.updAlm fun a => { a with carried := a.carried + n, carriedLost := a.carriedLost + (rs.length - n) }

/-- Whether the 32 octets of a slot hold a record (R361). -/
def slotHolds (bs : List Byte) : Bool :=
  decide (bs.length = 32) && !bit (fieldAt bs 30 1) 7 && decide (crc8 (bs.take 31) = fieldAt bs 31 1)

/-- Octets of flash as they stand. -/
def Hw.flashRead (h : Hw) (a n : Nat) : List Byte := (List.range n).map fun i => h.byteAt (a + i)

/-- The records in LOG: one more than the last slot that holds one. -/
def Hw.logLength (h : Hw) : Nat :=
  h.mem.foldl (fun n c =>
    if c.1 < 0x0900000000 ∨ 0x0A00000000 ≤ c.1 then n
    else
      let k := (c.1 - 0x0900000000) / 32
      if n ≤ k ∧ slotHolds (h.flashRead (logSlot k) 32) then k + 1 else n) 0

/-- Discovery at start (R366, R369, R370): capacity and count; the last clear counter, which record 0 of a cleared log shows; then the
last-gasp entries enter the log first, with the record that follows a carry-over. -/
def Hw.almStart (h : Hw) (discovered : Bool) : Hw :=
  if !discovered || decide (h.flash.logSize < 1048576) then h.mediumFailed 3 0 1
  else
    let cap := min (h.flash.logSize / 32) 2097152
    let n := h.logLength
    let first := h.flashRead (logSlot 0) 32
    let ctr := if slotHolds first ∧ fieldAt first 14 2 = 0x0002 then fieldAt first 24 4 else h.alm.clearCtr
    let h := (h.setReg ALM_CAP (BitVec.ofNat 32 cap)).setReg ALM_COUNT (BitVec.ofNat 32 n)
    let carried := h.alm.carried + h.alm.carriedLost
    let old := h.alm.lastGasp.map fun r => { r with flags := r.flags % 16 / 8 * 8 + 4 + r.flags % 4 }
    let h := h.updAlm fun a => { a with clearCtr := ctr, buffer := old ++ a.buffer }
    let h := if n ≥ cap then (h.setAlmState almFull).setFlag HLT_STAT HLT_STAT.log_full true else h.setAlmState almRecording
    let h := if carried ≠ 0 then h.event almSource 0x0005 (BitVec.ofNat 32 h.alm.carried) (BitVec.ofNat 32 h.alm.carriedLost) 0 else h
    (h.updAlm fun a => { a with carried := 0, carriedLost := 0 }).fillCheck

/-- An event that is recorded first in the last-gasp store, and copied to the Almanac when it next runs (R340, R371): the copy in the
buffer carries the flag of the store's records. -/
def Hw.gaspEvent (h : Hw) (src code : Nat) (a0 a1 a2 : Word) : Hw :=
  let r := h.mkRec src code a0 a1 a2
  let kept := decide (h.alm.lastGasp.length < 16)
  let h := (h.gasp { r with flags := r.flags % 8 }).updAlm fun a => a.advance src
  if (h.almState = almRecording ∨ h.almState = almClearing) ∧ h.alm.room then
    let h := h.updAlm fun a => (a.close).cover r
    (h.updAlm fun a => { a with buffer := a.buffer ++ [if kept then { r with flags := r.flags + 4 } else r] }).fillCheck
  else h

/-! ### Firmware posts (R372) -/

/-- A posting word is held for its master: 0 the code, 1 and 2 the first two arguments. -/
def Hw.holdPost (h : Hw) (m i : Nat) (v : Word) : Hw :=
  h.updAlm fun a => { a with posts := a.posts.upd m fun p =>
    if i = 0 then (v, p.2.1, p.2.2) else if i = 1 then (p.1, v, p.2.2) else (p.1, p.2.1, v) }

/-- The write of ALM_POST_ARG[2]: the record of the words held is posted (R372). -/
def Hw.post (h : Hw) (m : Nat) (v : Word) : Hw :=
  let (c, a0, a1) := h.alm.posts.at m
  let src := ALM_POST_CODE.source.get c
  let code := ALM_POST_CODE.code.get c
  let h := h.updAlm fun a => { a with posts := a.posts.set m default }
  let (h, res) : Hw × Nat :=
    if ¬(0x2000 ≤ src ∧ src ≤ 0x2FFF ∧ 0x8000 ≤ code) then (h, 1)
    else if h.almState = almFull ∨ h.almState = almHalted then (h.event src code a0 a1 v, 3)
    else
      let fits := h.alm.room || h.alm.absorbs (h.mkRec src code a0 a1 v)
      (h.event src code a0 a1 v, if fits then 0 else 2)
  h.updAlm fun a => { a with postResult := a.postResult.set m res }

/-- POST (R372). -/
def execPost (via : BusAcc) (value : Word) (s : State) : Host.Outcome State Fault Refusal :=
  run s fun h => h.regWrite via (ALM_POST_ARG 2) value fun _ h => h.post via.master.num value

/-! ### Registers -/

/-- A record's word in ALM_OPEN or ALM_LG; without a record the flags octet shows bit 7 (R361). -/
def recWord (r : Option AlmRec) (w : Nat) : Word :=
  match r with
  | some r => BitVec.ofNat 32 (fieldAt r.octets (4 * w) 4)
  | none => 0xFFFFFFFF

/-- The live word of an Almanac register, for a reading master. -/
def Hw.viewAlm (h : Hw) (m k : Nat) : Word :=
  if k = ALM_STAT then ALM_STAT.buffered.set (h.reg k) h.alm.held
  else if k = ALM_POST_RES then ALM_POST_RES.result.set 0 (h.alm.postResult.at m)
  else if ALM_OPEN 0 ≤ k ∧ k < ALM_OPEN 8 then recWord h.alm.opened ((k - ALM_OPEN 0) / 4)
  else if ALM_LG 0 0 ≤ k ∧ k < ALM_LG 16 0 then recWord (h.alm.lastGasp[(k - ALM_LG 0 0) / 0x20]?) ((k - ALM_LG 0 0) / 4 % 8)
  else if k = ALM_LG_STAT then ALM_LG_STAT.entries.set (h.reg k) h.alm.lastGasp.length
  else h.reg k

end Sys2Proof.Machine
end

