-- ==== Sys2Proof/Machine/Mailbox.lean ====
section
/-! DEFINITION. Mailboxes and doorbells (R90–R94), locks and host semaphores (R27, R62, R63, R93). -/

namespace Sys2Proof.Machine

open Reg

/-! ### Locks (R62, R93) -/

/-- A read of a lock register: a free lock returns 0 and the reader becomes the owner; a held one returns its owner (R62). -/
def Hw.lockRead (h : Hw) (k m : Nat) : Hw × Word :=
  let owner := h.f k SEM_LOCK.owner
  if owner = 0 then (h.setF k SEM_LOCK.owner m, 0) else (h, BitVec.ofNat 32 owner)

/-- Semaphore `n` is acquired now (SEM_PEEK.held_ms). -/
def Hw.semAcquired (h : Hw) (n : Nat) : Hw := { h with semSince := h.semSince.set n h.now }

/-- A read of SEM_LOCK (R62). -/
def Hw.semRead (h : Hw) (n m : Nat) : Hw × Word :=
  if h.f (SEM_LOCK n) SEM_LOCK.owner = 0 then ((h.setF (SEM_LOCK n) SEM_LOCK.owner m).semAcquired n, 0)
  else (h, h.reg (SEM_LOCK n))

/-- A wrong release or a bad key counts, with the offender (R62, R63). -/
def Hw.semError (h : Hw) (n m : Nat) : Hw :=
  ((h.bump SEM_ERR SEM_ERR.wrong_write SEM_ERR.sat).setF SEM_ERR SEM_ERR.last_master m).setF SEM_ERR SEM_ERR.last_index n

/-- A semaphore is freed. -/
def Hw.semFree (h : Hw) (n : Nat) : Hw :=
  let h := h.setF (SEM_LOCK n) SEM_LOCK.owner 0
  { h with semSince := h.semSince.set n 0 }

/-- A write of SEM_LOCK, given the owner before it: 0 by the owner releases; anything else is ignored and counts (R62). -/
def Hw.semWrite (h : Hw) (n m owner : Nat) (v : Word) : Hw :=
  if v = 0 ∧ owner = m then h.semFree n
  else (h.setF (SEM_LOCK n) SEM_LOCK.owner owner).semError n m

/-- A write of SEM_FORCE (R63). -/
def Hw.semForce (h : Hw) (m : Nat) (v : Word) : Hw :=
  let n := SEM_FORCE.index.get v
  if SEM_FORCE.key.get v = 0x5E3A then h.semFree n else h.semError n m

/-- The masters bound to a mailbox channel: side a and side b; none where the channel is disabled (R90). -/
def Hw.mbxSides (h : Hw) (ch : Nat) : Option (Nat × Nat) :=
  let a := h.f (MBX_BIND ch) MBX_BIND.master_a
  let b := h.f (MBX_BIND ch) MBX_BIND.master_b
  if a = 0 ∨ b = 0 ∨ a = b then none else some (a, b)

/-- The side of a channel that a master is bound to: `true` is side b (R90). -/
def Hw.mbxSide (h : Hw) (ch m : Nat) : Option Bool :=
  match h.mbxSides ch with
  | none => none
  | some (a, b) => if m = a then some false else if m = b then some true else none

/-- Where a side's copy of a channel register stands. -/
def sideReg (k : Nat) (b : Bool) : Nat := if b then k + 0x8000 else k

/-- The device interrupt line of a side (R91). -/
def mbxLine (ch : Nat) (b : Bool) : Nat := 32 + 2 * ch + b.toNat

/-- An access by an unbound master is a bus error and counts in MBX_ERR too (R90). -/
def Hw.mbxUnbound (h : Hw) (a : BusAcc) : Hw :=
  ((h.bump MBX_ERR MBX_ERR.unbound MBX_ERR.unbound_sat).accessError 0x05 a.master).answer .busError

/-- The channel whose registers hold word number `k`, if any. -/
def mbxChOf (k : Nat) : Option Nat :=
  if MBX_BIND 0 + 4 ≤ k ∧ k < MBX_BIND 32 ∧ (k - MBX_BIND 0) % 0x40 ≥ 4 then some ((k - MBX_BIND 0) / 0x40) else none

/-- The messages waiting for a side. -/
def MbxCh.inbound (c : MbxCh) (b : Bool) : List (Nat × Nat) := if b then c.toB else c.toA

/-- Replace the messages waiting for a side. -/
def MbxCh.setInbound (c : MbxCh) (b : Bool) (q : List (Nat × Nat)) : MbxCh :=
  if b then { c with toB := q } else { c with toA := q }

/-- The MBX_POST_HI write of a side: queue the message for the other side, with its line and notice, or refuse it (R91). -/
def Hw.mbxPost (h : Hw) (ch : Nat) (b : Bool) (low high : Word) : Hw :=
  let q := sideReg (MBX_QSTAT ch) b
  let c := h.mbx.at ch
  if (c.inbound !b).length ≥ 8 then
    (h.setFlag q MBX_QSTAT.last_refused true).bump q MBX_QSTAT.refused MBX_QSTAT.refused_sat
  else
    let ptr := MBX_POST_LO.ptr_lo.get low * 8 + MBX_POST_HI.ptr_hi.get high * 2 ^ 32
    let c := c.setInbound (!b) (c.inbound (!b) ++ [(ptr, MBX_POST_HI.tag.get high)])
    let h := ({ h with mbx := h.mbx.set ch c }).setFlag q MBX_QSTAT.last_refused false
    (h.deviceLine (mbxLine ch !b)).notice (sideReg (MBX_NOTICE ch) !b)

/-- A read of MBX_RECV_LO takes the oldest message; its high word goes to the reader's shadow (R91, R11). -/
def Hw.mbxRecv (h : Hw) (ch : Nat) (b : Bool) (m : Nat) : Hw × Word :=
  let c := h.mbx.at ch
  match c.inbound b with
  | [] => (h.setReadShadow m (MBX_RECV_HI ch) 0, 0)
  | (ptr, tag) :: q =>
    let h := { h with mbx := h.mbx.set ch (c.setInbound b q) }
    (h.setReadShadow m (MBX_RECV_HI ch) (BitVec.ofNat 32 (2 ^ 31 + tag * 256 + ptr / 2 ^ 32 % 256)),
      BitVec.ofNat 32 (ptr / 8 * 8))

/-- Doorbell bits ring at the other side; a set bit whose mask bit is 1 raises that side's line (R94). -/
def Hw.mbxRing (h : Hw) (ch : Nat) (b : Bool) (bits : Word) : Hw :=
  let k := sideReg (MBX_DB_STAT ch) !b
  let h := (h.setReg k (h.reg k ||| bits)).setReg (sideReg (MBX_DB_RING ch) b) 0
  if bits &&& h.reg (sideReg (MBX_DB_MASK ch) !b) ≠ 0 then h.deviceLine (mbxLine ch !b) else h

/-- A write of MBX_CH_LOCK, given the owner before it: 0 by the owner releases, anything else is ignored (R93, R62). -/
def Hw.mbxLockWrite (h : Hw) (ch m owner : Nat) (v : Word) : Hw :=
  h.setF (MBX_CH_LOCK ch) MBX_CH_LOCK.owner (if v = 0 ∧ owner = m then 0 else owner)

/-- A write to a side's DB_MASK raises its line for a bit that is set (R94, R419). -/
def Hw.mbxUnmasked (h : Hw) (ch : Nat) (b : Bool) : Hw :=
  if h.reg (sideReg (MBX_DB_STAT ch) b) &&& h.reg (sideReg (MBX_DB_MASK ch) b) ≠ 0 then h.deviceLine (mbxLine ch b) else h

/-- A write to a channel register by the master of an access: the binding is checked first (R90). -/
def Hw.mbxWrite (h : Hw) (a : BusAcc) (ch k : Nat) (v : Word) (eff : Bool → Word → Hw → Hw) : Hw :=
  if h.busError a k true then h.failAccess a k
  else match h.mbxSide ch a.master.num with
    | none => h.mbxUnbound a
    | some b => h.regWrite a (if k = MBX_CH_LOCK ch then k else sideReg k b) v (eff b)

/-- A read of a channel register by the master of an access: the binding is checked first (R90). -/
def Hw.mbxRead (h : Hw) (a : BusAcc) (ch k : Nat) (op : Bool → Hw → Hw × Word) : Hw :=
  if h.busError a k false then h.failAccess a k
  else match h.mbxSide ch a.master.num with
    | none => h.mbxUnbound a
    | some b => h.regReadWith a k (op b)

/-- Release the locks and semaphores that a master holds, each with a record: kind, index, master (R27). -/
def Hw.releaseLocks (h : Hw) (m : Nat) : Hw :=
  let h := (List.range 32).foldl (fun h ch =>
    if h.f (MBX_CH_LOCK ch) MBX_CH_LOCK.owner = m then
      (h.setF (MBX_CH_LOCK ch) MBX_CH_LOCK.owner 0).event (srcOf 0x05 0) 0x0006 1 (BitVec.ofNat 32 ch) (BitVec.ofNat 32 m)
    else h) h
  (List.range 16).foldl (fun h n =>
    if h.f (SEM_LOCK n) SEM_LOCK.owner = m then
      (h.semFree n).event (srcOf 0x04 0) 0x0006 2 (BitVec.ofNat 32 n) (BitVec.ofNat 32 m)
    else h) h

/-! ### The commands -/

/-- MASTER_RESET (R27). The master's shadows stay as they are (log entry 17). -/
def execMasterReset (m : Master) (s : State) : Host.Outcome State Fault Refusal := run s fun h => h.releaseLocks m.num

/-- SEM_LOCK_READ (R62). -/
def execSemLockRead (via : BusAcc) (n : Fin 16) (s : State) : Host.Outcome State Fault Refusal :=
  run s fun h => h.regReadWith via (SEM_LOCK n.val) fun h => h.semRead n.val via.master.num

/-- SEM_LOCK_WRITE (R62). -/
def execSemLockWrite (via : BusAcc) (n : Fin 16) (value : Word) (s : State) : Host.Outcome State Fault Refusal :=
  run s fun h =>
    let owner := h.f (SEM_LOCK n.val) SEM_LOCK.owner
    h.regWrite via (SEM_LOCK n.val) value fun _ h => h.semWrite n.val via.master.num owner value

/-- SEM_FORCE (R63). -/
def execSemForce (via : BusAcc) (value : Word) (s : State) : Host.Outcome State Fault Refusal :=
  run s fun h => h.regWrite via SEM_FORCE value fun _ h => h.semForce via.master.num value

/-- MBX_POST (R91). -/
def execMbxPost (via : BusAcc) (ch : Fin 32) (high : Word) (s : State) : Host.Outcome State Fault Refusal :=
  run s fun h => h.mbxWrite via ch.val (MBX_POST_HI ch.val) high fun b low h => h.mbxPost ch.val b low high

/-- MBX_RECV (R91). -/
def execMbxRecv (via : BusAcc) (ch : Fin 32) (s : State) : Host.Outcome State Fault Refusal :=
  run s fun h => h.mbxRead via ch.val (MBX_RECV_LO ch.val) fun b h => h.mbxRecv ch.val b via.master.num

/-- MBX_CH_LOCK_READ (R93). -/
def execMbxChLockRead (via : BusAcc) (ch : Fin 32) (s : State) : Host.Outcome State Fault Refusal :=
  run s fun h => h.mbxRead via ch.val (MBX_CH_LOCK ch.val) fun _ h => h.lockRead (MBX_CH_LOCK ch.val) via.master.num

/-- MBX_DB_RING (R94). -/
def execMbxDbRing (via : BusAcc) (ch : Fin 32) (bits : Word) (s : State) : Host.Outcome State Fault Refusal :=
  run s fun h => h.mbxWrite via ch.val (MBX_DB_RING ch.val) bits fun b _ h => h.mbxRing ch.val b bits

/-- The word number of a notice register, on the side of the master of an access (R69, R90). -/
def noticeKey (via : BusAcc) (h : Hw) : NoticeReg → Nat
  | .smu c => SMU_CTX_HANDLER c.val
  | .mbx ch => sideReg (MBX_NOTICE ch.val) ((h.mbxSide ch.val via.master.num).getD false)
  | .stm f => STM_NOTICE f.val
  | .gns => GNS_REC_NOTICE
  | .obs r => OBS_RBT_NOTICE (r.val + 1)

/-- What a write to a notice register starts: the register's field write is undone, and R69's rule decides. -/
def Hw.noticeWritten (h : Hw) (k : Nat) (before : Word) (hd : Nat) : Hw := (h.setReg k before).armNotice k hd

/-- NOTICE_ARM (R69). -/
def execNoticeArm (via : BusAcc) (reg : NoticeReg) (handle : BitVec 16) (s : State) : Host.Outcome State Fault Refusal :=
  run s fun h =>
    let v := handle.setWidth 32
    match reg with
    | .mbx ch =>
      let k := noticeKey via h reg
      let before := h.reg k
      h.mbxWrite via ch.val (MBX_NOTICE ch.val) v fun _ _ h => h.noticeWritten k before handle.toNat
    | _ =>
      let k := noticeKey via h reg
      let before := h.reg k
      h.regWrite via k v fun _ h => h.noticeWritten k before handle.toNat

/-! ### Registers -/

/-- The live word of a MBX register for a reading master. -/
def Hw.viewMbx (h : Hw) (m k : Nat) : Word :=
  match mbxChOf k with
  | none => h.reg k
  | some ch =>
    match h.mbxSide ch m with
    | none => 0
    | some b =>
      let c := h.mbx.at ch
      if k = MBX_CH_LOCK ch then h.reg k
      else if k = MBX_QSTAT ch then
        MBX_QSTAT.outbound.set (MBX_QSTAT.inbound.set (h.reg (sideReg k b)) (c.inbound b).length) (c.inbound !b).length
      else if k = MBX_DB_RING ch then h.reg (sideReg (MBX_DB_STAT ch) !b)
      else if k = MBX_RECV_HI ch then
        ((c.inbound b).head?.map fun (ptr, tag) => BitVec.ofNat 32 (2 ^ 31 + tag * 256 + ptr / 2 ^ 32 % 256)).getD 0
      else h.reg (sideReg k b)

/-- The live word of a SEM register. -/
def Hw.viewSem (h : Hw) (k : Nat) : Word :=
  if SEM_PEEK 0 ≤ k ∧ k < SEM_PEEK 16 then
    let n := (k - SEM_PEEK 0) / 4
    let owner := h.f (SEM_LOCK n) SEM_LOCK.owner
    let ms := if owner = 0 then 0 else (h.now - h.semSince.at n) / 1000000
    BitVec.ofNat 32 (owner + min ms 16777215 * 16 + (if ms > 16777215 then 2 ^ 28 else 0))
  else h.reg k

end Sys2Proof.Machine
end

