-- ==== Sys2Proof/Machine/Rtcm.lean ====
section
/-! DEFINITION. RTCM 3.3 output of the reference receiver: messages and routes (spec/04_gnss_reference.md, R119, R120). The bits of
the messages are those of RTCM 10403.3 as published, which the specification names and does not restate (log entry 27). -/

namespace Sys2Proof.Machine

open Reg

/-! ### Bits and framing -/

/-- `n` bits of a number, most significant first. -/
def bitsOf : Nat → Nat → List Bool
  | 0, _ => []
  | n + 1, v => v.testBit n :: bitsOf n v

/-- A two's complement number in `n` bits. -/
def sbits (n : Nat) (i : Int) : List Bool := bitsOf n (ofInt n i)

/-- A number of up to eight bits, first bit most significant, padded with zeros to eight. -/
def octetOf (bs : List Bool) : Byte :=
  BitVec.ofNat 8 ((bs.foldl (fun n b => n * 2 + b.toNat) 0) * 2 ^ (8 - bs.length))

/-- Octets of a list of bits, the last padded with zeros; `fuel` is at least the number of octets. -/
def octetsOf : Nat → List Bool → List Byte
  | 0, _ => []
  | fuel + 1, bs => if bs.isEmpty then [] else octetOf (bs.take 8) :: octetsOf fuel (bs.drop 8)

/-- CRC-24Q over one octet. -/
def crc24Step (c : Nat) (b : Byte) : Nat :=
  (List.range 8).foldl (fun c _ => let d := c * 2; if d ≥ 2 ^ 24 then (d ^^^ 0x1864CFB) % 2 ^ 24 else d) (c ^^^ b.toNat * 2 ^ 16)

/-- An RTCM frame: preamble 0xD3, ten bits of length, payload, CRC-24Q: 6 framing octets. -/
def rtcmFrame (payload : List Byte) : List Byte :=
  let n := payload.length
  let body := BitVec.ofNat 8 0xD3 :: BitVec.ofNat 8 (n / 256) :: BitVec.ofNat 8 n :: payload
  let c := body.foldl crc24Step 0
  body ++ [BitVec.ofNat 8 (c / 65536), BitVec.ofNat 8 (c / 256), BitVec.ofNat 8 c]

/-- Bits as an RTCM payload. -/
def payloadOf (bs : List Bool) : List Byte := octetsOf (bs.length / 8 + 1) bs

/-! ### 1005, 1006, 1033, 1230 (R113, R118, R119) -/

/-- A coordinate of an antenna in 0.1 mm. -/
def Hw.arp (h : Hw) (lo : Nat) : Int := toInt 64 (h.reg64 lo)

/-- 1005, or 1006 with the antenna height: the active reference's ARP; the system indicators follow the route's constellations. -/
def Hw.rtcmArp (h : Hw) (r : Nat) : List Byte :=
  let a := h.activeRef
  let m := h.f (GNS_ROUTE_CFG r) GNS_ROUTE_CFG.const_mask
  let six := h.flag (GNS_ROUTE_MSG r) GNS_ROUTE_MSG.arp_1006
  payloadOf (bitsOf 12 (if six then 1006 else 1005) ++ bitsOf 12 (h.f (GNS_ANT_CFG a) GNS_ANT_CFG.station_id) ++ bitsOf 6 0 ++
    [m.testBit 0, m.testBit 1, m.testBit 2, false] ++ sbits 38 (h.arp (GNS_ARP_X_LO a)) ++ [true, false] ++
    sbits 38 (h.arp (GNS_ARP_Y_LO a)) ++ bitsOf 2 0 ++ sbits 38 (h.arp (GNS_ARP_Z_LO a)) ++
    (if six then bitsOf 16 (h.f (GNS_ANT_HGT a) GNS_ANT_HGT.height) else []))

/-- A string held in words, up to its first 0x00 and 31 characters. -/
def Hw.chars (h : Hw) (word : Nat → Nat) : List Byte :=
  (((List.range 8).flatMap fun w => leBytes 4 (h.reg (word w)).toNat).takeWhile (fun b => decide (b ≠ 0))).take 31

/-- A counted string of 1033. -/
def counted (s : List Byte) : List Bool := bitsOf 8 s.length ++ s.flatMap fun b => bitsOf 8 b.toNat

/-- 1033: antenna and receiver descriptors. -/
def Hw.rtcmDesc (h : Hw) : List Byte :=
  let a := h.activeRef
  payloadOf (bitsOf 12 1033 ++ bitsOf 12 (h.f (GNS_ANT_CFG a) GNS_ANT_CFG.station_id) ++
    counted (h.chars (GNS_ANT_DESC a)) ++ bitsOf 8 (h.f (GNS_ANT_CFG a) GNS_ANT_CFG.setup_id) ++
    counted (h.chars fun w => GNS_ANT_DESC a (8 + w)) ++ counted (h.chars GNS_RCV_DESC) ++
    counted (h.chars fun w => GNS_RCV_DESC (8 + w)) ++ counted (h.chars fun w => GNS_RCV_DESC (16 + w)))

/-- 1230: indicator 1 (aligned), biases for L1 C/A and L2 C/A only (R118). -/
def Hw.rtcmBias (h : Hw) : List Byte :=
  payloadOf (bitsOf 12 1230 ++ bitsOf 12 (h.f (GNS_ANT_CFG h.activeRef) GNS_ANT_CFG.station_id) ++ [true] ++ bitsOf 3 0 ++
    [true, false, true, false] ++ bitsOf 16 (h.f GNS_GLO_CPB GNS_GLO_CPB.l1_cpb) ++ bitsOf 16 (h.f GNS_GLO_CPB GNS_GLO_CPB.l2_cpb))

/-! ### MSM (R119) -/

/-- The MSM signal identifier of a signal code. -/
def msmSignal (sig : Nat) : Nat := [2, 16, 23, 2, 23, 15, 2, 31, 23, 8, 2, 8, 2, 16, 23].getD sig 1

/-- The number of a constellation's MSM4 message, three more for MSM7. -/
def msmNumber (con : Nat) : Nat := [1074, 1094, 1124, 1084, 1114].getD con 0

/-- The constellations in the order of emission: GPS, GLONASS, Galileo, BeiDou, QZSS, each with its bit in const_mask. -/
def msmOrder : List (Nat × Nat) := [(0, 0), (3, 1), (1, 2), (2, 3), (4, 4)]

/-- The epoch field of an MSM, 30 bits: time of week in ms; BeiDou time is 14 s behind GPS time; GLONASS gives day of week and time
of day of UTC + 3 h, which needs the leap seconds. -/
def msmEpoch (con gps leap : Nat) : List Bool :=
  let ms := gps / 1000000
  let week := 604800000
  if con = 3 then
    let t := (ms + 10800000 + week - leap * 1000) % week
    bitsOf 3 (t / 86400000) ++ bitsOf 27 (t % 86400000)
  else if con = 2 then bitsOf 30 ((ms + week - 14000) % week)
  else bitsOf 30 (ms % week)

/-- Nearest integer to a quotient. -/
def roundDiv (a : Int) (b : Nat) : Int := (2 * a + (b : Nat)) / (2 * (b : Nat) : Nat)

/-- The rough range of a pseudorange, in 2^-10 ms. -/
def roughRange (pr : Nat) : Int := roundDiv ((pr : Int) * 1000) 299792458

/-- The fine pseudorange against a rough range, in 2^-n ms. -/
def fineRange (n pr : Nat) (rough : Int) : Int := roundDiv ((pr : Int) * 1000 * (2 ^ (n - 10) : Nat)) 299792458 - rough * (2 ^ (n - 10) : Nat)

/-- The fine phase range against a rough range, in 2^-n ms, with `al` whole cycles that align it with the pseudorange. -/
def finePhase (n : Nat) (o : EpochObs) (al rough : Int) : Int :=
  roundDiv ((o.cp + al * 65536) * 1000 * (2 ^ n : Nat)) (65536 * carrierHz o.sig o.k) - rough * (2 ^ (n - 10) : Nat)

/-- A value out of the range of `n` bits is sent as invalid, the most negative number. -/
def fitBits (n : Nat) (i : Int) : Int := if i.natAbs < 2 ^ (n - 1) then i else -(2 ^ (n - 1) : Nat)

/-- The phase range rate in 0.0001 m/s: −Doppler × wavelength. -/
def phaseRate (o : EpochObs) : Int := roundDiv (-(o.dop * 299792458 * 10000)) (1024 * carrierHz o.sig o.k)

/-- The lock time indicator of MSM4, from lock time in ms. -/
def lockMsm4 (ms : Nat) : Nat := ((List.range 16).filter fun n => decide (n > 0 ∧ ms ≥ 2 ^ (n + 4))).length

/-- The lock time indicator of MSM7, from lock time in ms. -/
def lockMsm7 (ms : Nat) : Nat :=
  if ms < 64 then ms
  else
    let n := ((List.range 21).filter fun n => decide (n > 0 ∧ ms ≥ 2 ^ (n + 5))).length
    if n ≥ 21 then 704 else 32 * n + ms / 2 ^ n

/-- The whole cycles that bring a carrier phase next to its pseudorange. -/
def alignOf (o : EpochObs) : Int := roundDiv ((o.pr : Int) * (carrierHz o.sig o.k : Nat) * 64 - o.cp * 299792458) (65536 * 299792458)

/-- The satellite part and the signal part of an MSM for the observations of one constellation, sorted by satellite and signal. -/
def msmBody (msm7 : Bool) (sats : List Nat) (obs : List (EpochObs × Int)) : List Bool :=
  let first := fun (sv : Nat) => (obs.find? fun p => decide (p.1.sv = sv)).map fun p => p.1
  let rough := fun (sv : Nat) => ((first sv).map fun o => roughRange o.pr).getD 0
  let rate := fun (sv : Nat) => ((first sv).map fun o => roundDiv (phaseRate o) 10000).getD 0
  let sat := sats.flatMap (fun sv => bitsOf 8 ((rough sv).toNat / 1024)) ++
    (if msm7 then sats.flatMap (fun sv => bitsOf 4 (((first sv).map fun o => if conOf o.sig = 3 then o.k else 0).getD 0)) else []) ++
    sats.flatMap (fun sv => bitsOf 10 ((rough sv).toNat % 1024)) ++
    (if msm7 then sats.flatMap (fun sv => sbits 14 (fitBits 14 (rate sv))) else [])
  let each := fun (f : EpochObs × Int → List Bool) => obs.flatMap f
  if msm7 then
    sat ++ each (fun p => sbits 20 (fitBits 20 (fineRange 29 p.1.pr (rough p.1.sv)))) ++
      each (fun p => sbits 24 (fitBits 24 (finePhase 31 p.1 p.2 (rough p.1.sv)))) ++
      each (fun p => bitsOf 10 (lockMsm7 (p.1.lock * 100))) ++ each (fun p => [p.1.half]) ++ each (fun p => bitsOf 10 (p.1.cn0 * 4)) ++
      each (fun p => sbits 15 (fitBits 15 (phaseRate p.1 - rate p.1.sv * 10000)))
  else
    sat ++ each (fun p => sbits 15 (fitBits 15 (fineRange 24 p.1.pr (rough p.1.sv)))) ++
      each (fun p => sbits 22 (fitBits 22 (finePhase 29 p.1 p.2 (rough p.1.sv)))) ++
      each (fun p => bitsOf 4 (lockMsm4 (p.1.lock * 100))) ++ each (fun p => [p.1.half]) ++ each (fun p => bitsOf 6 (min 63 ((p.1.cn0 + 2) / 4)))

/-- The payload of one MSM: header with the multiple message bit, clock steering indicator 1 and smoothing 0 (R119), masks, cells. -/
def Hw.msm (h : Hw) (msm7 : Bool) (con gps leap : Nat) (more : Bool) (obs : List (EpochObs × Int)) : List Byte :=
  let sats := (List.range 64).filter fun sv => obs.any fun p => decide (p.1.sv = sv)
  let sigs := (List.range 33).filter fun s => obs.any fun p => decide (msmSignal p.1.sig = s)
  let cells := sats.flatMap fun sv => sigs.map fun s => obs.any fun p => decide (p.1.sv = sv ∧ msmSignal p.1.sig = s)
  let sorted := sortBy (fun p => p.1.sv * 64 + msmSignal p.1.sig) obs
  payloadOf (bitsOf 12 (msmNumber con + if msm7 then 3 else 0) ++ bitsOf 12 (h.f (GNS_ANT_CFG h.activeRef) GNS_ANT_CFG.station_id) ++
    msmEpoch con gps leap ++ [more] ++ bitsOf 3 0 ++ bitsOf 7 0 ++ bitsOf 2 1 ++ bitsOf 2 0 ++ [false] ++ bitsOf 3 0 ++
    ((List.range 64).map fun i => memb (i + 1) sats) ++ ((List.range 32).map fun i => memb (i + 1) sigs) ++ cells ++
    msmBody msm7 sats sorted)

/-- The payload bits of an MSM of some satellites, signals and cells (R120's table). -/
def msmBits (msm7 : Bool) (obs : List (EpochObs × Int)) : Nat :=
  let sats := dedup (obs.map fun p => p.1.sv)
  let sigs := dedup (obs.map fun p => p.1.sig)
  169 + sats.length * sigs.length + sats.length * (if msm7 then 36 else 18) + obs.length * (if msm7 then 80 else 48)

/-- A constellation's observations as one message's, or split by satellites where it would exceed 1,023 octets (R119). -/
def msmSplit (msm7 : Bool) (obs : List (EpochObs × Int)) : List (List (EpochObs × Int)) :=
  if msmBits msm7 obs ≤ 1023 * 8 then [obs]
  else
    let sats := sortBy id (dedup (obs.map fun p => p.1.sv))
    let low := sats.take (sats.length / 2)
    [obs.filter fun p => memb p.1.sv low, obs.filter fun p => !memb p.1.sv low]

/-- The whole cycles of a channel's RTCM phase. -/
def Hw.alignCh (h : Hw) (o : EpochObs) : Int := (h.gch o.ch).align.getD (alignOf o)

/-- The MSMs of a route at an epoch, in order; the multiple message bit is set on all but the last (R119, R120). -/
def Hw.routeMsms (h : Hw) (r gps leap : Nat) (obs : List EpochObs) : List (List Byte) :=
  let cfg := GNS_ROUTE_CFG r
  let msm7 := h.flag cfg GNS_ROUTE_CFG.msm7
  let parts : List (Nat × List (EpochObs × Int)) := msmOrder.flatMap fun (con, bitNo) =>
    let mine := obs.filter fun o => decide (conOf o.sig = con) &&
      (h.flag cfg GNS_ROUTE_CFG.bds3 || !(decide (o.sig = 7) || decide (o.sig = 8)))
    if !bit (h.f cfg GNS_ROUTE_CFG.const_mask) bitNo || mine.isEmpty then []
    else (msmSplit msm7 (mine.map fun o => (o, h.alignCh o))).map fun l => (con, l)
  (parts.zip (List.range parts.length)).map fun (p, i) => h.msm msm7 p.1 gps leap (decide (i + 1 < parts.length)) p.2

/-! ### Routes (R120) -/

/-- A message of interval `n` seconds is due at the first emitted epoch of every interval counted from the whole GPS second. -/
def dueNow (n sec last : Nat) : Bool := decide (n > 0 ∧ last ≠ sec / n + 1)

/-- The messages of a route at an epoch, and the intervals then reached (R115, R119, R120). -/
def Hw.routeMessages (h : Hw) (r gps leap : Nat) (obs : List EpochObs) (moved : Bool) : List (List Byte) × (Nat × Nat × Nat) :=
  let epoch := (h.reg GNS_EPOCH).toNat
  let emits := decide (epoch % max 1 (h.f (GNS_ROUTE_CFG r) GNS_ROUTE_CFG.divisor) = 0)
  let sec := gps / 1000000000
  let (d1, d2, d3) := h.gns.due.at r
  let n1 := h.f (GNS_ROUTE_MSG r) GNS_ROUTE_MSG.arp_s
  let n2 := h.f (GNS_ROUTE_MSG r) GNS_ROUTE_MSG.desc_s
  let n3 := h.f (GNS_ROUTE_MSG r) GNS_ROUTE_MSG.bias_s
  let s1 := moved || h.gns.resend || (emits && dueNow n1 sec d1)
  let s2 := moved || h.gns.resend || (emits && dueNow n2 sec d2)
  let s3 := moved || (emits && dueNow n3 sec d3)
  ((if s1 then [rtcmFrame (h.rtcmArp r)] else []) ++ (if s2 then [rtcmFrame h.rtcmDesc] else []) ++
      (if s3 then [rtcmFrame h.rtcmBias] else []) ++ (if emits then (h.routeMsms r gps leap obs).map rtcmFrame else []),
    (if s1 then sec / max 1 n1 + 1 else d1, if s2 then sec / max 1 n2 + 1 else d2, if s3 then sec / max 1 n3 + 1 else d3))

/-- The producer number of a route's packets. -/
def prodRoute (r : Nat) : Nat := 16 + r

/-- An epoch's messages that a full FIFO holds and of which none has started are discarded whole when the next epoch's are ready
(R120). -/
def Hw.dropRouteEpoch (h : Hw) (r : Nat) : Hw :=
  let f := h.f (GNS_ROUTE_CFG r) GNS_ROUTE_CFG.fifo
  let held := ((h.fifo f).waiting.filter fun p => decide (p.1 = prodRoute r)).length
  if held > 0 ∧ held = h.gns.sent.at r then
    let x := h.fifo f
    (h.setFifo f { x with waiting := x.waiting.filter fun p => decide (p.1 ≠ prodRoute r) }).bump GNS_ERR GNS_ERR.rec_dropped
      GNS_ERR.rec_sat
  else h

/-- A route writes one packet per message (R120); the packet's tag is not stated and is a free value. -/
def Hw.routeSend (h : Hw) (r : Nat) (m : List Byte) : Hw :=
  (h.hwSendFree (prodRoute r) (h.f (GNS_ROUTE_CFG r) GNS_ROUTE_CFG.fifo) m).1

/-- Route 0 hands a message to every in-service lane of its mask; it emits nothing on a unit that does not hold the interlock
(R120, R250). -/
def Hw.routeLanes (h : Hw) (m : List Byte) : Hw :=
  (List.range 8).foldl (fun h n =>
    if bit (h.f (GNS_ROUTE_CFG 0) GNS_ROUTE_CFG.lane_mask) n && h.laneUp n then
      h.updLane n fun l => { l with rtcm := l.rtcm ++ [m] }
    else h) h

/-- A route emits at an epoch (R120). -/
def Hw.routeEmit (h : Hw) (gps leap : Nat) (obs : List EpochObs) (moved : Bool) (r : Nat) : Hw :=
  if ¬h.flag (GNS_ROUTE_CFG r) GNS_ROUTE_CFG.enable ∨ (r = 0 ∧ ¬h.acts) then h
  else
    let (ms, due) := h.routeMessages r gps leap obs moved
    let h := h.updGns fun g => { g with due := g.due.set r due }
    if ms.isEmpty then h
    else if r = 0 then ms.foldl Hw.routeLanes h
    else
      let h := h.dropRouteEpoch r
      (ms.foldl (fun h m => h.routeSend r m) h).updGns fun g => { g with sent := g.sent.set r ms.length }

/-- All routes emit the entries of the active reference; excluded entries are omitted with GNS_MON_CFG.omit (R114, R119, R120). -/
def Hw.rtcmEmit (h : Hw) (gps leap : Nat) (obs : List EpochObs) (moved : Bool) : Hw :=
  let mine := obs.filter fun o => decide (o.ant = h.activeRef)
  let omitOn := h.flag GNS_MON_CFG GNS_MON_CFG.omit
  let sent := mine.filter fun o => !(omitOn && decide (o.verdict = 2))
  let h := if sent.length < mine.length then h.raise GNS_IRQ_STAT GNS_IRQ_STAT.excluded 0 else h
  let h := sent.foldl (fun h o => h.setGch o.ch { h.gch o.ch with align := some (h.alignCh o) }) h
  let h := (List.range 4).foldl (fun h r => h.routeEmit gps leap sent moved r) h
  h.updGns fun g => { g with resend := false }

/-- A base epoch but for what Calends and Ethernet take from it (R111–R123): the Bool says that an epoch was latched. -/
def Hw.epochLatch (h : Hw) (offset : Int) (leap : Nat) (meas : List ObsMeas) : Hw × Bool :=
  if h.gnsState ≠ gnsRunning then (h, false)
  else
    let h := (h.setReg GNS_EPOCH (h.reg GNS_EPOCH + 1)).setTimeOfs offset
    let gps := nominalEpoch (gpsFrom h.now offset) h.epochNs
    let h := h.updGns fun g => { g with lastGps := gps }
    let (h, obs, moved) := h.epochMonitor meas
    let moved := moved || h.eqx.switchNext
    let h := { h with eqx := { h.eqx with switchNext := false } }
    let h := h.rtcmEmit gps leap obs moved
    (h.recStart ((h.recEntries obs).map fun o => o.octets moved) gps moved, true)

end Sys2Proof.Machine
end

