-- ==== Sys2Proof/Machine/Ethernet.lean ====
section
/-! DEFINITION. The Ethernet switch: forwarding, PTP timestamps and corrections, the ring, RTCM datagrams (spec/11_calends.md,
R292–R297, R302), and the base epoch with all that takes part in it (R111). -/

namespace Sys2Proof.Machine

open Reg

/-! ### Frames -/

/-- The number that octets spell, most significant first, as Ethernet sends numbers. -/
def beVal (bs : List Byte) : Nat := bs.foldl (fun n b => n * 256 + b.toNat) 0

/-- Octets of a number, most significant first. -/
def beOctets (n v : Nat) : List Byte := (leBytes n v).reverse

/-- The number in octets `i` to `i + n - 1` of a frame, most significant first. -/
def netAt (f : List Byte) (i n : Nat) : Nat := beVal ((f.drop i).take n)

/-- A frame has a VLAN tag. -/
def tagged (f : List Byte) : Bool := decide (netAt f 12 2 = 0x8100)

/-- The place of a frame's Ethertype. -/
def typeAt (f : List Byte) : Nat := if tagged f then 16 else 12

/-- A frame's Ethertype, destination, source, priority. -/
def etype (f : List Byte) : Nat := netAt f (typeAt f) 2
def dstMac (f : List Byte) : Nat := netAt f 0 6
def srcMac (f : List Byte) : Nat := netAt f 6 6
def pcpOf (f : List Byte) : Nat := if tagged f then netAt f 14 1 / 32 else 0

/-- The Ethertypes of PTP (R292) and of the ring (R296). -/
def typePtp : Nat := 0x88F7
def typeRing : Nat := 0x88B5

/-- A group address. -/
def isGroup (mac : Nat) : Bool := bit mac 40

/-- The device's own address. -/
def Hw.ownMac (h : Hw) : Nat := h.reg64 ETH_MAC_LO % 2 ^ 48

/-! ### PTP (R292–R294) -/

/-- The message of a PTP frame: type, sequenceId, and the place of the message in the frame. -/
def ptpAt (f : List Byte) : Nat := typeAt f + 2
def ptpType (f : List Byte) : Nat := netAt f (ptpAt f) 1 % 16
def ptpSeq (f : List Byte) : Nat := netAt f (ptpAt f + 30) 2

/-- A PTP message that can be corrected: version 2 and a whole header of 34 octets. -/
def ptpSound (f : List Byte) : Bool := decide (f.length ≥ ptpAt f + 34) && decide (netAt f (ptpAt f + 1) 1 % 16 = 2)

/-- The source port identity and sequenceId that join a Sync and its Follow_Up. -/
def ptpKey (f : List Byte) : Nat := netAt f (ptpAt f + 20) 10 * 65536 + ptpSeq f

/-- Replace octets of a frame. -/
def patch (f : List Byte) (i : Nat) (bs : List Byte) : List Byte := f.take i ++ bs ++ f.drop (i + bs.length)

/-- Add nanoseconds to the correctionField, whose unit is 2^-16 ns. -/
def addCorrection (f : List Byte) (ns : Nat) : List Byte :=
  let i := ptpAt f + 8
  patch f i (beOctets 8 ((netAt f i 8 + ns * 65536) % 2 ^ 64))

/-- Write a time into originTimestamp. -/
def setOrigin (f : List Byte) (t : Nat) : List Byte :=
  patch f (ptpAt f + 34) (beOctets 6 (t / 1000000000) ++ beOctets 4 (t % 1000000000))

/-- What PTP does to a frame that came in at a port (R293, R294): 0 for a frame that is no PTP message, or not of the domain. -/
def Hw.ptpKind (h : Hw) (src : Nat) (f : List Byte) : Nat :=
  if etype f ≠ typePtp then 0
  else if src = 2 then (if ptpType f < 4 ∧ h.flag ETH_PTP_CFG ETH_PTP_CFG.oc_en then 2 else 0)
  else if ¬(h.flag ETH_PTP_CFG ETH_PTP_CFG.tc_en ∧ h.flag ETH_CFG ETH_CFG.switch) then 0
  else if ptpSound f ∧ netAt f (ptpAt f + 4) 1 ≠ h.f ETH_PTP_CFG ETH_PTP_CFG.domain then 0
  else if ptpType f < 4 then 1
  else if ptpType f = 8 ∧ ¬h.flag ETH_PTP_CFG ETH_PTP_CFG.one_step then 3
  else 0

/-- The link delay that peer delay adds for a message's ingress port (R294). -/
def Hw.linkDelay (h : Hw) (port : Nat) : Nat :=
  if h.flag ETH_PTP_CFG ETH_PTP_CFG.p2p ∧ port < 2 then h.f (ETH_PORT_STAT port) ETH_PORT_STAT.path_delay else 0

/-- Change the switch. -/
def Hw.updEth (h : Hw) (g : EthSt → EthSt) : Hw := { h with eth := g h.eth }

/-- A frame leaves by a port now: its PTP correction or timestamp is applied (R293, R294). A two-step transparent clock keeps a
Sync's residence for its Follow_Up (log entry 36). -/
def Hw.ptpEgress (h : Hw) (port : Nat) (x : EthItem) : Hw × List Byte :=
  let f := x.octets
  let err := fun (h : Hw) => h.bump (ETH_PORT_ERR port) ETH_PORT_ERR.ptp_err ETH_PORT_ERR.ptp_sat
  let stay := h.now - x.time + h.linkDelay x.from_
  if x.ptp = 1 then
    if ¬ptpSound f then (err h, f)
    else if ptpType f = 0 ∧ ¬h.flag ETH_PTP_CFG ETH_PTP_CFG.one_step then
      (h.updEth fun e => { e with syncs := (ptpKey f, port, stay) :: e.syncs.take 63 }, f)
    else (h, addCorrection f stay)
  else if x.ptp = 3 then
    if ¬ptpSound f then (err h, f)
    else match h.eth.syncs.find? fun p => decide (p.1 = ptpKey f ∧ p.2.1 = port) with
      | some p => (h.updEth fun e => { e with syncs := e.syncs.erase p }, addCorrection f p.2.2)
      | none => (err h, f)
  else if x.ptp = 2 then
    if h.flag ETH_PTP_CFG ETH_PTP_CFG.one_step then
      (h, if f.length ≥ ptpAt f + 44 then setOrigin f h.now else f)
    else (h.tsqPush port (ptpType f) (ptpSeq f), f)
  else (h, f)

/-! ### Egress (R295) -/

/-- A port's egress. -/
def Hw.ethPort (h : Hw) (p : Nat) : EthPort := h.eth.ports.at p

/-- Change a port's egress. -/
def Hw.updPort (h : Hw) (p : Nat) (g : EthPort → EthPort) : Hw := h.updEth fun e => { e with ports := e.ports.upd p g }

/-- Add to an octet accumulator of 48 bits, counting its wraps (R376). -/
def Hw.addOctets (h : Hw) (lo hi n : Nat) : Hw :=
  let v := (h.reg lo).toNat + h.f hi ETH_PORT_TXO_HI.octets_hi * 2 ^ 32 + n
  let h := (h.setReg lo (BitVec.ofNat 32 v)).setF hi ETH_PORT_TXO_HI.octets_hi (v / 2 ^ 32)
  if v ≥ 2 ^ 48 then
    (h.setF hi ETH_PORT_TXO_HI.wrap 1).setF hi ETH_PORT_TXO_HI.wraps (min 127 (h.f hi ETH_PORT_TXO_HI.wraps + 1))
  else h

/-- Count a dropped frame at a port (R295). -/
def Hw.ethDrop (h : Hw) (p : Nat) : Hw :=
  (h.bump (ETH_PORT_ERR p) ETH_PORT_ERR.drop ETH_PORT_ERR.drop_sat).raise ETH_IRQ_STAT ETH_IRQ_STAT.drop p

/-- The producer number of E2's receive stream. -/
def prodEth : Nat := 9

/-- A frame goes out by a port: into an egress queue of E0 or E1, or into the E2 receive stream (R295). The depth of a queue is not
given (log entry 35). -/
def Hw.ethOut (h : Hw) (p q : Nat) (x : EthItem) : Hw :=
  if p = 2 then
    let (h, f) := h.ptpEgress 2 x
    let (h, lost) := h.hwSendFree prodEth (h.f ETH_STREAMS ETH_STREAMS.rx_fifo) f
    if lost then h.ethDrop 2 else h.addOctets (ETH_PORT_TXO_LO 2) (ETH_PORT_TXO_HI 2) f.length
  else if h.f (ETH_PORT_STAT p) ETH_PORT_STAT.link ≠ 1 then h
  else if ((h.ethPort p).queues.at q).length ≥ Config.ethQueueDepth then h.ethDrop p
  else h.updPort p fun e => { e with queues := e.queues.upd q fun l => l ++ [x] }

/-- The queue served next: 7, then 6, then 0–5 in turn (R295). -/
def EthPort.nextQueue (e : EthPort) : Option Nat :=
  let full := fun (q : Nat) => !(e.queues.at q).isEmpty
  if full 7 then some 7
  else if full 6 then some 6
  else ((List.range 6).map fun i => (e.last + 1 + i) % 6).find? full

/-- One tick of a port: the line sends one octet per tick at 1 Gbit/s; a free line takes the next frame, which passes its start-of-frame
delimiter now; 24 octets stand for preamble, delimiter, FCS and gap (log entry 35). -/
def Hw.ethTickPort (h : Hw) (p : Nat) : Hw :=
  let e := h.ethPort p
  if e.busy > 0 then h.updPort p fun e => { e with busy := e.busy - 1 }
  else match e.nextQueue with
    | none => h
    | some q =>
      match e.queues.at q with
      | [] => h
      | x :: xs =>
        let (h, f) := h.ptpEgress p x
        let h := h.updPort p fun e => { e with queues := e.queues.set q xs, busy := f.length + 24, last := if q < 6 then q else e.last }
        (h.addOctets (ETH_PORT_TXO_LO p) (ETH_PORT_TXO_HI p) f.length).emit (.eth p f)

/-- One tick of the switch. -/
def Hw.ethTick (h : Hw) : Hw := (h.ethTickPort 0).ethTickPort 1

/-! ### Forwarding (R295, R296) -/

/-- The VLAN of a frame: its tag's, or its port's pvid. -/
def Hw.vlanOf (h : Hw) (p : Nat) (f : List Byte) : Nat :=
  if tagged f then netAt f 14 2 % 4096 else h.f (ETH_PORT_CFG p) ETH_PORT_CFG.pvid

/-- The member ports of a VLAN in the table. -/
def Hw.vlanMembers (h : Hw) (vid : Nat) : Option Nat :=
  ((List.range 64).find? fun v => h.flag (ETH_VLAN v) ETH_VLAN.valid && decide (h.f (ETH_VLAN v) ETH_VLAN.vid = vid)).map
    fun v => h.f (ETH_VLAN v) ETH_VLAN.members

/-- A port blocked by the ring to a frame: PTP and ring frames pass (R296). -/
def Hw.ringBlocks (h : Hw) (p : Nat) (f : List Byte) : Bool :=
  h.flag (ETH_PORT_STAT p) ETH_PORT_STAT.blocked && decide (etype f ≠ typePtp) && decide (etype f ≠ typeRing)

/-- The queue of a frame: PTP in 7, stop-class frames in 6, others by PCP (R295). -/
def Hw.queueOf (h : Hw) (f : List Byte) : Nat :=
  if etype f = typePtp then 7 else if etype f = h.f ETH_CFG ETH_CFG.stop_etype then 6 else pcpOf f

/-- The kind octet of a ring frame, 0 check and 1 change; the specification gives no layout (log entry 37). -/
def ringKind (f : List Byte) : Nat := netAt f (typeAt f + 2) 1

/-- A ring frame that the device originates. -/
def Hw.ringFrame (h : Hw) (kind port : Nat) : List Byte :=
  beOctets 6 0xFFFFFFFFFFFF ++ beOctets 6 h.ownMac ++ beOctets 2 typeRing ++ [BitVec.ofNat 8 kind, BitVec.ofNat 8 port]

/-- Send a ring frame from every ring port. -/
def Hw.ringSend (h : Hw) (kind : Nat) : Hw :=
  (List.range 2).foldl (fun h p =>
    if h.flag (ETH_PORT_CFG p) ETH_PORT_CFG.ring then h.ethOut p 6 ⟨h.ringFrame kind p, 2, h.now, 0⟩ else h) h

/-- Flush the address table. -/
def Hw.ethFlush (h : Hw) : Hw := h.updEth fun e => { e with table := [] }

/-- The master of the ring. -/
def Hw.ringMaster (h : Hw) : Bool := h.flag ETH_RING ETH_RING.enable && h.flag ETH_RING ETH_RING.master

/-- Forward a frame that entered at a port (R295). -/
def Hw.forward (h : Hw) (src : Nat) (f : List Byte) (vid members : Nat) : Hw :=
  let x : EthItem := ⟨f, src, h.now, h.ptpKind src f⟩
  let h := h.updEth fun e => { e with
    table := (vid, srcMac f, src) :: e.table.filter fun t => decide (¬(t.1 = vid ∧ t.2.1 = srcMac f)) }
  let known := if dstMac f = h.ownMac then some 2
    else (h.eth.table.find? fun t => decide (t.1 = vid ∧ t.2.1 = dstMac f)).map fun t => t.2.2
  let outs := (List.range 3).filter fun p => decide (p ≠ src) && bit members p &&
    h.flag (ETH_PORT_CFG p) ETH_PORT_CFG.enable && !h.ringBlocks p f && (isGroup (dstMac f) || decide (known.getD p = p))
  outs.foldl (fun h p => h.ethOut p (h.queueOf f) x) h

/-- A frame enters the switch at a port (R295, R296). -/
def Hw.ethIn (h : Hw) (src : Nat) (f : List Byte) : Hw :=
  let h := h.addOctets (ETH_PORT_RXO_LO src) (ETH_PORT_RXO_HI src) f.length
  if f.length > 2000 ∨ f.length < 14 then h.ethDrop src
  else if etype f = typeRing ∧ src < 2 ∧ srcMac f = h.ownMac then h
  else
    let h := if etype f = typeRing ∧ ringKind f = 1 then h.ethFlush else h
    let h := if etype f = h.f ETH_CFG ETH_CFG.stop_etype ∧ src < 2 then
        ((h.hwSendFree prodEth (h.f ETH_STREAMS ETH_STREAMS.stop_fifo) f).1).raise ETH_IRQ_STAT ETH_IRQ_STAT.stop_frame src
      else h
    if h.ringBlocks src f then h
    else if ¬h.flag ETH_CFG ETH_CFG.switch then
      let x : EthItem := ⟨f, src, h.now, h.ptpKind src f⟩
      if src = 0 then h.ethOut 2 0 x else if src = 2 then h.ethOut 0 (h.queueOf f) x else h
    else
      let vid := h.vlanOf src f
      match h.vlanMembers vid with
      | none => h.ethDrop src
      | some m => h.forward src f vid m

/-- ETH_FRAME: a frame from the wire with its FCS checked, or the next packet of the E2 transmit stream (R295). -/
def Hw.ethFrame (h : Hw) : EthSource → Hw
  | .wire p f ok =>
    if ¬h.flag (ETH_PORT_CFG p.val) ETH_PORT_CFG.enable ∨ h.f (ETH_PORT_STAT p.val) ETH_PORT_STAT.link ≠ 1 ∨
        (p.val = 1 ∧ ¬h.flag ETH_CFG ETH_CFG.switch) then h
    else if ¬ok then h.bump (ETH_PORT_ERR p.val) ETH_PORT_ERR.fcs_err ETH_PORT_ERR.fcs_sat
    else h.ethIn p.val f
  | .stream =>
    match h.takePacket (h.f ETH_STREAMS ETH_STREAMS.tx_fifo) 512 with
    | some (q, _, h) => if q.abort then h.ethDrop 2 else h.ethIn 2 q.octets
    | none => h

/-- ETH_FRAME (R292–R295). -/
def execEthFrame (src : EthSource) (s : State) : Host.Outcome State Fault Refusal := run s fun h => h.ethFrame src

/-- PEER_DELAY_MEASURE (R294): the port's measurement of its peer delay, with p2p = 1. -/
def execPeerDelayMeasure (port : Fin 2) (delay : Word) (s : State) : Host.Outcome State Fault Refusal :=
  run s fun h => if h.flag ETH_PTP_CFG ETH_PTP_CFG.p2p then
      h.setF (ETH_PORT_STAT port.val) ETH_PORT_STAT.path_delay (min 0xFFFFFF delay.toNat)
    else h

/-- The states of ETH_STAT.ring. -/
def ringClosed : Nat := 1
def ringOpened : Nat := 2

/-- The ring takes a state: E1 is blocked while it is closed (R296). -/
def Hw.setRing (h : Hw) (st : Nat) : Hw :=
  (h.setF ETH_STAT ETH_STAT.ring st).setFlag (ETH_PORT_STAT 1) ETH_PORT_STAT.blocked (decide (st = ringClosed))

/-- RING_CHECK (R296): the master sends its checks; a ring that was off begins closed (log entry 37). -/
def execRingCheck (s : State) : Host.Outcome State Fault Refusal :=
  run s fun h => if h.ringMaster then
      (if h.f ETH_STAT ETH_STAT.ring = 0 then h.setRing ringClosed else h).ringSend 0
    else h

/-- The ring changes: the master tells every device, and flushes its own table (R296). -/
def Hw.ringChange (h : Hw) (st : Nat) : Hw :=
  (((h.setRing st).ringSend 1).ethFlush).raise ETH_IRQ_STAT ETH_IRQ_STAT.ring_change 0

/-- RING_OPEN (R296). -/
def execRingOpen (s : State) : Host.Outcome State Fault Refusal :=
  run s fun h => if h.ringMaster ∧ h.f ETH_STAT ETH_STAT.ring = ringClosed then
      (h.bump ETH_STAT ETH_STAT.breaks ETH_STAT.breaks_sat).ringChange ringOpened
    else h

/-- RING_CLOSE (R296). -/
def execRingClose (s : State) : Host.Outcome State Fault Refusal :=
  run s fun h => if h.ringMaster ∧ h.f ETH_STAT ETH_STAT.ring = ringOpened then h.ringChange ringClosed else h

/-- ETH_LINK_UP (R302): PTP and the ring run afresh. -/
def execEthLinkUp (port : Fin 2) (s : State) : Host.Outcome State Fault Refusal :=
  run s fun h =>
    let h := ((h.setF (ETH_PORT_STAT port.val) ETH_PORT_STAT.link 1).setF (ETH_PORT_STAT port.val) ETH_PORT_STAT.path_delay 0).ethFlush
    (h.updEth fun e => { e with syncs := [] }).raise ETH_IRQ_STAT ETH_IRQ_STAT.link_up port.val

/-- A port loses its link: what it had queued is gone. -/
def Hw.ethLinkDown (h : Hw) (p : Nat) : Hw :=
  ((h.setF (ETH_PORT_STAT p) ETH_PORT_STAT.link 0).updPort p fun _ => default).raise ETH_IRQ_STAT ETH_IRQ_STAT.link_down p

/-- ETH_LINK_DOWN (R302). -/
def execEthLinkDown (port : Fin 2) (s : State) : Host.Outcome State Fault Refusal := run s fun h => h.ethLinkDown port.val

/-! ### RTCM datagrams (R297) -/

/-- The IPv4 header checksum: ones' complement of the ones' complement sum of its 16-bit words. -/
def ipChecksum (hdr : List Byte) : Nat :=
  let sum := (List.range 10).foldl (fun n i => n + netAt hdr (2 * i) 2) 0
  let once := sum / 65536 + sum % 65536
  65535 - (once / 65536 + once % 65536)

/-- The datagram of an RTCM message (R297). Its IPv4 identification is not stated and is a free value. -/
def Hw.rtcmDatagram (h : Hw) (m : List Byte) : List Byte :=
  let port := h.f ETH_RTCM_PORT ETH_RTCM_PORT.dst_port
  let ident := (Config.freeWord h.freeCtr).toNat % 65536
  let tag := if h.flag ETH_RTCM_PORT ETH_RTCM_PORT.tagged then
      beOctets 2 0x8100 ++ beOctets 2 (h.f ETH_RTCM_PORT ETH_RTCM_PORT.pcp * 8192 + h.f ETH_RTCM_PORT ETH_RTCM_PORT.vid)
    else []
  let ip := fun (sum : Nat) => beOctets 2 0x4500 ++ beOctets 2 (28 + m.length) ++ beOctets 2 ident ++ beOctets 2 0 ++
    [1, 17] ++ beOctets 2 sum ++ beOctets 4 (h.reg ETH_IP).toNat ++ beOctets 4 (h.reg ETH_RTCM_IP).toNat
  beOctets 6 (h.reg64 ETH_RTCM_MAC_LO % 2 ^ 48) ++ beOctets 6 h.ownMac ++ tag ++ beOctets 2 0x0800 ++ ip (ipChecksum (ip 0)) ++
    beOctets 2 port ++ beOctets 2 port ++ beOctets 2 (8 + m.length) ++ beOctets 2 0 ++ m

/-- ETH sends every complete message of the RTCM stream as one datagram (R297). -/
def Hw.ethRtcm : Nat → Hw → Hw
  | 0, h => h
  | n + 1, h =>
    match h.takePacket (h.f ETH_STREAMS ETH_STREAMS.rtcm_fifo) 512 with
    | some (q, _, h') => Hw.ethRtcm n (((h'.ethIn 2 (h'.rtcmDatagram q.octets))).useFree 1)
    | none => h

/-- A base epoch (R111–R123, R288, R297): the receiver's part, the datagrams of route 1, and the offset that Calends takes. -/
def Hw.baseEpoch (h : Hw) (offset : Int) (leap : Nat) (meas : List ObsMeas) : Hw × Bool :=
  let (h, latched) := h.epochLatch offset leap meas
  if ¬latched then (h, false)
  else
    let h := if h.flag (GNS_ROUTE_CFG 1) GNS_ROUTE_CFG.enable then Hw.ethRtcm 64 h else h
    (if h.f CAL_CFG CAL_CFG.source = 1 then h.calOffset offset else h, true)

end Sys2Proof.Machine
end

