-- ==== Sys2Proof/Machine/Obs.lean ====
section
/-! DEFINITION. Seeds, the observation intake OBS, and resets of robots (spec/06_robot_fixes.md, R146–R156, R163). -/

namespace Sys2Proof.Machine

open Reg

/-! ### Robots (R146, R163) -/

/-- Change OBS and FIX. -/
def Hw.updObs (h : Hw) (g : ObsSt → ObsSt) : Hw := { h with obs := g h.obs }
def Hw.updFix (h : Hw) (g : FixSt → FixSt) : Hw := { h with fix := g h.fix }

/-- A robot as OBS and as FIX sees it. -/
def Hw.orob (h : Hw) (r : Nat) : ObsRbt := h.obs.robots.at r
def Hw.frob (h : Hw) (r : Nat) : FixRbt := h.fix.robots.at r

/-- Change a robot. -/
def Hw.updOrob (h : Hw) (r : Nat) (g : ObsRbt → ObsRbt) : Hw := h.updObs fun o => { o with robots := o.robots.upd r g }
def Hw.updFrob (h : Hw) (r : Nat) (g : FixRbt → FixRbt) : Hw := h.updFix fun f => { f with robots := f.robots.upd r g }

/-- A robot's mode: 1 central, 2 broadcast, else off (R146). -/
def Hw.robotMode (h : Hw) (r : Nat) : Nat :=
  let m := h.f (FIX_RBT_CFG r) FIX_RBT_CFG.mode
  if 1 ≤ r ∧ r ≤ 128 ∧ m ≤ 2 then m else 0

/-- The statuses of a fix (R165). -/
def fixNone : Nat := 0
def fixFixed : Nat := 1
def fixFloat : Nat := 2
def fixCoast : Nat := 3
def fixLost : Nat := 4
def fixReported : Nat := 5

/-- The states of an epoch buffer (OBS_RBT_STAT). -/
def bufFree : Nat := 0
def bufFilling : Nat := 1
def bufComplete : Nat := 2

/-- The field of a buffer's state. -/
def bufFld (b : Nat) : Fld := if b = 0 then OBS_RBT_STAT.buf0 else OBS_RBT_STAT.buf1

/-- Free a robot's buffer; one being written is no longer written. -/
def Hw.freeBuf (h : Hw) (r b : Nat) : Hw :=
  let h := h.updObs fun o => { o with job := o.job.filter fun j => decide (¬(j.robot = r ∧ j.buf = b)) }
  h.setF (OBS_RBT_STAT r) (bufFld b) bufFree

/-- A robot is reset: status none, set and buffers gone (R163). The last accepted epoch stays. -/
def Hw.robotReset (h : Hw) (r : Nat) : Hw :=
  let h := ((h.freeBuf r 0).freeBuf r 1).setF (OBS_RBT_STAT r) OBS_RBT_STAT.set_held 0
  let h := h.updOrob r fun o => { o with set := [], sendFull := false }
  let h := h.updFrob r fun f => { f with status := fixNone, coasts := 0, notPd := 0, lostAt := 0, resetDue := false, own := none }
  h.raise FIX_IRQ_STAT FIX_IRQ_STAT.reset r

/-! ### Ranges and predictions (R149, R150) -/

/-- A quotient rounded to nearest, halves away from zero (R150). -/
def roundAway (a : Int) (b : Nat) : Int :=
  let q := (2 * a.natAbs + b) / (2 * b)
  if a < 0 then -(q : Int) else q

/-- The reference range of a satellite-signal for a robot, in 2^-8 m modulo 2^32 (R149). -/
def Seed.range (s : Seed) (robot con sig sv : Nat) : Option Nat :=
  match s.sats.find? fun x => decide (x.con = con ∧ x.sv = sv), s.robots.find? fun x => decide (x.robot = robot) with
  | some x, some q =>
    if memb (q.lane, con * 256 + sv) s.left then none
    else (x.sigs.find? fun y => decide (y.sig = sig)).map fun y =>
      let r : Int := (x.r0 : Int) + 32 * y.ofs
      ofInt 32 (r - (x.east * q.d.1 + x.north * q.d.2.1 + x.up * q.d.2.2 + 2 ^ 14) / 2 ^ 15)
  | _, _ => none

/-- GLONASS k + 7 of a satellite-signal of a seed. -/
def Seed.gloK (s : Seed) (con sig sv : Nat) : Nat :=
  (((s.sats.find? fun x => decide (x.con = con ∧ x.sv = sv)).bind fun x => x.sigs.find? fun y => decide (y.sig = sig)).map
    SeedSig.k).getD 15

/-- The predicted carrier change between two reference ranges, in 1/512 cycle (R150). -/
def carrierChange (sig k now before : Nat) : Int :=
  roundAway (2 * (carrierHz sig k : Nat) * toInt 32 (ofInt 32 ((now : Int) - before))) 299792458

/-- The predicted Doppler of a carrier change over Δ' in ms, in 0.05 Hz (R150). -/
def dopplerOf (p : Int) (ms : Nat) : Int := roundAway (-1250 * p) (32 * max 1 ms)

/-- Base epochs from one robot epoch to the next. -/
def Hw.epochStep (h : Hw) : Nat := h.robotInterval / h.baseInterval

/-- Robot epochs between the frames of a robot that are differenced: the shadow interval in broadcast mode (R150). -/
def Hw.frameStep (h : Hw) (r : Nat) : Nat :=
  if h.robotMode r = 2 then max 1 (h.f (FIX_RBT_CFG r) FIX_RBT_CFG.shadow_div) else 1

/-- The seed of an epoch. -/
def Hw.seedOf (h : Hw) (epoch : Nat) : Option Seed := h.fix.seeds.find? fun s => decide (s.epoch = epoch)

/-- The newest seed whose epoch has these low 16 bits. -/
def Hw.seedOfField (h : Hw) (low : Nat) : Option Seed := h.fix.seeds.find? fun s => decide (s.epoch % 65536 = low)

/-! ### Entries of an epoch buffer (R121, R156) -/

/-- An entry of a buffer: antenna 0, verdict 0b11, mp_score 0 (R156). -/
def obsEntry (con sig sv k : Nat) (lockLoss half : Bool) (pr : Nat) (cp dop : Int) (cn0 lock : Nat) : List Byte :=
  leBytes 1 con ++ leBytes 1 sv ++ leBytes 1 (sig + (if con = 3 then k else 15) * 16) ++
    leBytes 1 (lockLoss.toNat + half.toNat * 2 + 12) ++ leBytes 5 pr ++ leBytes 7 (ofInt 56 cp) ++ leBytes 4 (ofInt 32 dop) ++
    leBytes 1 cn0 ++ leBytes 2 (min 65535 lock) ++ [0]

/-- A Doppler in 0.05 Hz in units of 2^-10 Hz (log entry 43). -/
def dopOut (d : Int) : Int := roundAway (d * 256) 5

/-- Lock time in 0.1 s. -/
def lockTenths (now since : Nat) : Nat := (now - since) / 100000000

/-- A residual frame's codes of entry `i`: pr, cp, and dop and cn0 where aux is set (R151). -/
def resCodes (bits aux : Nat) (hasAux : Bool) (i : Nat) : Int × Int × Option (Int × Nat) :=
  let w := bits / 2 ^ (26 * i)
  let a := aux / 2 ^ (18 * i)
  (toInt 10 w, toInt 16 (w / 1024), if hasAux then some (toInt 12 a, a / 4096 % 64) else none)

/-- Expand one entry of a residual frame: the entry of the set as it then stands, and its octets if it is not omitted (R152, R156). `before` is
the seed of the frame before, and `cont` says that that frame was accepted. -/
def expandEntry (r : Nat) (now : Seed) (before : Option Seed) (cont : Bool) (ms t : Nat) (x : SetEntry)
    (c : Int × Int × Option (Int × Nat)) : SetEntry × Option (List Byte) :=
  match now.range r x.con x.sig x.sv with
  | none => ({ x with gone := true }, none)
  | some rng =>
    if x.gone then (x, none)
    else
      let k := now.gloK x.con x.sig x.sv
      let p := (before.bind fun b => b.range r x.con x.sig x.sv).map fun b => carrierChange x.sig k rng b
      let phase : Option Int := if cont ∧ c.2.1 ≠ -32768 then p.map fun p => x.cp + 128 * (p + c.2.1) else none
      let dop : Int := match c.2.2, p with
        | some (d, _), some p => if d = -2048 then x.dop else dopplerOf p ms + d
        | _, _ => x.dop
      let cn0 : Nat := match c.2.2 with
        | some (_, q) => q
        | none => x.cn0
      let lock := if phase.isSome then x.lockAt else t
      let y := { x with cp := phase.getD 0, dop := dop, cn0 := cn0, lockAt := lock }
      let pr : Nat := if c.1 = -512 then 0 else (4 * ofInt 32 ((rng : Int) + 32 * c.1)) % 2 ^ 34
      if c.1 = -512 ∧ phase.isNone then (y, none)
      else (y, some (obsEntry x.con x.sig x.sv k phase.isNone phase.isNone pr (phase.getD 0) (dopOut dop) (4 * cn0) (lockTenths t lock)))

/-- Expand a residual frame: the set and the entries' octets. -/
def expandResidual (r : Nat) (now : Seed) (before : Option Seed) (cont : Bool) (ms t bits aux : Nat) (hasAux : Bool) :
    Nat → List SetEntry → List SetEntry × List (List Byte)
  | _, [] => ([], [])
  | i, x :: xs =>
    let (y, o) := expandEntry r now before cont ms t x (resCodes bits aux hasAux i)
    let (ys, os) := expandResidual r now before cont ms t bits aux hasAux (i + 1) xs
    (y :: ys, o.toList ++ os)

/-- An entry of a full frame (R153): the entry of the set it would be, its octets if it is not omitted. The lock time runs on where the old
set has the signal and its lock is not lost. -/
def fullEntry (old : List SetEntry) (sats : Nat → Nat) (t : Nat) (b : List Byte) : SetEntry × Option (List Byte) :=
  let con := fieldAt b 0 1 % 8
  let sig := fieldAt b 0 1 / 8 % 16
  let sv := fieldAt b 1 1
  let pr := fieldAt b 2 5
  let dop := toInt 24 (fieldAt b 12 3)
  let q := fieldAt b 15 1
  let loss := bit q 6
  let absent := bit q 7
  let cp : Int := if absent then 0 else toInt 40 (fieldAt b 7 5) * 256
  let since : Nat := match old.find? fun x => decide (x.con = con ∧ x.sig = sig ∧ x.sv = sv) with
    | some x => if loss ∨ absent then t else x.lockAt
    | none => t
  ({ con := con, sig := sig, sv := sv, cp := cp, dop := roundAway (dop * 5) 4, cn0 := q % 64, lockAt := since, gone := false },
   if pr = 0 ∧ absent then none
   else some (obsEntry con sig sv (sats sv) loss absent pr cp (dop * 64) (4 * (q % 64)) (lockTenths t since)))

/-- The 16-octet entries of a full frame. -/
def fullEntries : Nat → List Byte → List (List Byte)
  | 0, _ => []
  | n + 1, b => b.take 16 :: fullEntries n (b.drop 16)

/-! ### Intake (R155) -/

/-- A frame as its payload's first octets give it. -/
def frameFmt (p : List Byte) : Nat := fieldAt p 0 1 % 4
def frameAux (p : List Byte) : Bool := bit (fieldAt p 0 1) 2
def frameReset (p : List Byte) : Bool := bit (fieldAt p 0 1) 3
def frameCount (p : List Byte) : Nat := fieldAt p 2 1

/-- A payload has the length its format and count call for (R151, R153, R167; log entry 42). -/
def frameSound (p : List Byte) : Bool :=
  let c := frameCount p
  match frameFmt p with
  | 1 => decide (1 ≤ c ∧ c ≤ 48 ∧ p.length ≥ 3 + (26 * c + 7) / 8 + (if frameAux p then (18 * c + 7) / 8 else 0))
  | 2 => decide (1 ≤ c ∧ c ≤ 48 ∧ p.length ≥ 4 + 16 * c)
  | 3 => decide (p.length ≥ 24)
  | _ => false

/-- A robot's mode allows a frame's format (R146, R167). -/
def Hw.formatAllowed (h : Hw) (r fmt : Nat) : Bool :=
  match h.robotMode r with
  | 1 => decide (fmt = 1 ∨ fmt = 2)
  | 2 => decide (1 ≤ fmt ∧ fmt ≤ 3)
  | _ => false

/-- The intake deadline in ns after the epoch (OBS_CFG.late_ms). -/
def Hw.lateNs (h : Hw) : Nat := min 150 (max 20 (h.f OBS_CFG OBS_CFG.late_ms)) * 1000000

/-- A frame is discarded and counted. -/
def Hw.obsDiscard (h : Hw) (r k : Nat) (cnt sat : Fld) : Hw := (h.bump k cnt sat).raise OBS_IRQ_STAT OBS_IRQ_STAT.discard r

/-- A robot's free buffer. -/
def Hw.freeObsBuf (h : Hw) (r : Nat) : Option Nat :=
  [0, 1].find? fun b => decide (h.f (OBS_RBT_STAT r) (bufFld b) = bufFree)

/-- The SMU unit of OBS. -/
def obsUnit : Nat := 288

/-- The context address of a buffer (R156). -/
def Hw.obsBufAddr (h : Hw) (r b : Nat) : Nat :=
  h.f OBS_BUF_LO OBS_BUF_LO.base_lo * 2 ^ 17 + h.f OBS_BUF_HI OBS_BUF_HI.base_hi * 2 ^ 32 + ((r - 1) * 2 + b) * 0x800

/-- A buffer's header (R156). -/
def obsHeader (x : ObsIn) (epoch count : Nat) (setNew : Bool) : List Byte :=
  let p := x.payload
  leBytes 2 1 ++ leBytes 2 count ++ leBytes 4 epoch ++ leBytes 1 x.robot ++
    leBytes 1 (frameFmt p + (frameAux p).toNat * 4 + (frameReset p).toNat * 8 + setNew.toNat * 16 + (decide (frameFmt p = 1)).toNat * 32) ++
    leBytes 1 x.lane ++ [0] ++ leBytes 6 (x.time / 1000000000) ++ leBytes 4 (x.time % 1000000000) ++ leBytes 2 (x.robot - 1) ++ leBytes 8 0

/-- Write the buffer under way; a fault parks the unit, and a resume writes it again from its start. On completion the notice is posted and
epoch raised (R84, R155). -/
def Hw.obsWrite (h : Hw) : Hw :=
  match h.obs.job with
  | none => h
  | some j =>
    let ctx := h.f OBS_CFG OBS_CFG.ctx
    match h.writeCtx ctx j.addr j.octets with
    | (h, _, some (.fault a k)) => h.park obsUnit ctx a true k
    | (h, _, some .bus) => h.park obsUnit ctx j.addr true kindWalk
    | (h, _, none) =>
      let h := (h.updObs fun o => { o with job := none }).unitNormal obsUnit
      let h := (h.setF (OBS_RBT_STAT j.robot) (bufFld j.buf) bufComplete).updOrob j.robot fun o =>
        { o with epochs := if j.buf = 0 then (j.epoch, o.epochs.2) else (o.epochs.1, j.epoch) }
      (h.notice (OBS_RBT_NOTICE j.robot)).raise OBS_IRQ_STAT OBS_IRQ_STAT.epoch j.robot

/-- A frame is accepted: its epoch becomes the last one, and its buffer begins to fill. -/
def Hw.obsStart (h : Hw) (x : ObsIn) (epoch b : Nat) (setNew : Bool) (entries : List (List Byte)) : Hw :=
  let h := h.updOrob x.robot fun o => { o with last := some epoch, counter := x.counter }
  let h := (h.setF (OBS_RBT_STAT x.robot) OBS_RBT_STAT.last_epoch (epoch % 65536)).setF (OBS_RBT_STAT x.robot) (bufFld b) bufFilling
  let octets := obsHeader x epoch entries.length setNew ++ entries.flatten
  (h.updObs fun o => { o with job := some ⟨x.robot, b, epoch, h.obsBufAddr x.robot b, octets⟩ }).obsWrite

/-- A full frame is accepted: it replaces the set with its entries that the current seed has (R153, R154). -/
def Hw.takeFull (h : Hw) (x : ObsIn) (epoch : Nat) : Hw :=
  let h := if frameReset x.payload then h.robotReset x.robot else h
  match h.freeObsBuf x.robot with
  | none => h.obsDiscard x.robot OBS_ERR2 OBS_ERR2.overrun OBS_ERR2.overrun_sat
  | some b =>
    let old := (h.orob x.robot).set
    let es := (fullEntries (frameCount x.payload) (x.payload.drop 4)).map
      (fullEntry old (fun sv => (h.gns.sats.at (satKey 3 sv)).k) x.time)
    let inSeed := fun (e : SetEntry) => h.fix.seeds.head?.any fun s => (s.range x.robot e.con e.sig e.sv).isSome
    let h := h.updOrob x.robot fun o => { o with set := (es.map Prod.fst).filter inSeed }
    let h := (h.setF (OBS_RBT_STAT x.robot) OBS_RBT_STAT.set_tag (epoch % 256)).setF (OBS_RBT_STAT x.robot) OBS_RBT_STAT.set_held 1
    let h := h.raise OBS_IRQ_STAT OBS_IRQ_STAT.full_frame x.robot
    h.obsStart x epoch b true (es.filterMap Prod.snd)

/-- A residual frame is accepted where it matches the set (R151, R154, R156). -/
def Hw.takeResidual (h : Hw) (x : ObsIn) (now : Seed) (b : Nat) : Hw :=
  let o := h.orob x.robot
  let c := frameCount x.payload
  let st := OBS_RBT_STAT x.robot
  if h.f st OBS_RBT_STAT.set_held = 0 ∨ fieldAt x.payload 1 1 ≠ h.f st OBS_RBT_STAT.set_tag ∨ c ≠ o.set.length then
    (h.updOrob x.robot fun o => { o with sendFull := true }).obsDiscard x.robot OBS_ERR OBS_ERR.set_mismatch OBS_ERR.set_sat
  else
    let prior := now.epoch - h.frameStep x.robot * h.epochStep
    let main := (26 * c + 7) / 8
    let aux := frameAux x.payload
    let ms := h.frameStep x.robot * h.robotInterval / 1000000
    let (set, es) := expandResidual x.robot now (h.seedOf prior) (decide (o.last = some prior)) ms x.time
      (fieldAt x.payload 3 main) (fieldAt x.payload (3 + main) ((18 * c + 7) / 8)) aux 0 o.set
    (h.updOrob x.robot fun o => { o with set := set }).obsStart x now.epoch b false es

/-- OBS takes a frame (R146, R155): the tests in order, then by format. -/
def Hw.obsTake (h : Hw) (x : ObsIn) : Hw :=
  let fmt := frameFmt x.payload
  if ¬h.flag OBS_CFG OBS_CFG.enable then h.raise OBS_IRQ_STAT OBS_IRQ_STAT.discard x.robot
  else if ¬h.formatAllowed x.robot fmt ∨ ¬frameSound x.payload then
    h.obsDiscard x.robot OBS_ERR2 OBS_ERR2.unregistered OBS_ERR2.unreg_sat
  else
    let late := h.obsDiscard x.robot OBS_ERR OBS_ERR.late OBS_ERR.late_sat
    match h.seedOfField x.epoch with
    | none => late
    | some s =>
      if x.time > s.time + h.lateNs then late
      else if fmt = 3 then h.updFix fun f => { f with reports := f.reports ++ [(x.robot, s.epoch, x.payload)] }
      else match (h.orob x.robot).last.map fun l => (decide (l > s.epoch), decide (l = s.epoch)) with
        | some (true, _) => h.obsDiscard x.robot OBS_ERR OBS_ERR.stale OBS_ERR.stale_sat
        | some (_, true) => h.obsDiscard x.robot OBS_ERR2 OBS_ERR2.dup_epoch OBS_ERR2.dup_sat
        | _ =>
          match h.freeObsBuf x.robot with
          | none =>
            if fmt = 2 ∧ frameReset x.payload then h.takeFull x s.epoch
            else h.obsDiscard x.robot OBS_ERR2 OBS_ERR2.overrun OBS_ERR2.overrun_sat
          | some b => if fmt = 2 then h.takeFull x s.epoch else h.takeResidual x s b

/-- OBS_FRAME (R155): a buffer under way is finished first; then the oldest frame from RAD is taken. -/
def Hw.obsFrame (h : Hw) : Hw :=
  if h.isParked obsUnit then h
  else if h.obs.job.isSome then h.obsWrite
  else match h.rad.toObs with
    | [] => h
    | x :: rest => (h.updRad fun r => { r with toObs := rest }).obsTake x

/-- OBS_FRAME (R155). -/
def execObsFrame (s : State) : Host.Outcome State Fault Refusal := run s Hw.obsFrame

/-- A write of OBS_RBT_CTRL: release0, release1, force_full (R154, R155). -/
def Hw.obsCtrlWritten (h : Hw) (r : Nat) (v : Word) : Hw :=
  let h := if OBS_RBT_CTRL.release0.get v = 1 then h.freeBuf r 0 else h
  let h := if OBS_RBT_CTRL.release1.get v = 1 then h.freeBuf r 1 else h
  if OBS_RBT_CTRL.force_full.get v = 1 then h.updOrob r fun o => { o with sendFull := true } else h

/-- BUFFER_RELEASE (R155): a write of OBS_RBT_CTRL with release0 (bit 0 of `bufs`), release1 (bit 1) or both. -/
def execBufferRelease (via : BusAcc) (robot : Fin 129) (bufs : Fin 4) (s : State) : Host.Outcome State Fault Refusal :=
  run s fun h => h.regWrite via (OBS_RBT_CTRL robot.val) (BitVec.ofNat 32 bufs.val) fun _ h =>
    h.obsCtrlWritten robot.val (BitVec.ofNat 32 bufs.val)

/-- FORCE_FULL (R154): a write of OBS_RBT_CTRL.force_full. -/
def execForceFull (via : BusAcc) (robot : Fin 129) (s : State) : Host.Outcome State Fault Refusal :=
  run s fun h => h.regWrite via (OBS_RBT_CTRL robot.val) 0x80000000 fun _ h => h.obsCtrlWritten robot.val 0x80000000

/-- The unit of OBS is aborted: the frame being written is lost and its buffer free (R84). -/
def Hw.obsAbort (h : Hw) : Hw :=
  match h.obs.job with
  | none => h.unitNormal obsUnit
  | some j => (h.freeBuf j.robot j.buf).unitNormal obsUnit

/-! ### Seeds (R147, R148) -/

/-- The first signal code of a constellation. -/
def firstSig (con : Nat) : Nat := [0, 3, 6, 10, 12].getD con 0

/-- A satellite of a seed from a base record: each range extrapolated by its Doppler over `dt` ns and moved to the site origin (R147; rounding:
log entry 44). -/
def seedSat (b : BaseRec) (g : SatGeo) (dt : Nat) : Option SeedSat :=
  let mine := sortBy BaseObs.sig (b.entries.filter fun o => decide (o.con = g.con ∧ o.sv = g.sv))
  let range := fun (o : BaseObs) =>
    (o.pr : Int) + g.shift + roundAway (-(o.dop * 299792458 * (dt : Int))) (max 1 (carrierHz o.sig o.k) * 1000000000)
  match mine with
  | [] => none
  | o :: _ =>
    let r0 := range o
    some { con := g.con, sv := g.sv, r0 := ofInt 32 (roundAway r0 4), east := g.east, north := g.north, up := g.up,
           sigs := mine.map fun (q : BaseObs) =>
             ⟨q.sig, max (-128) (min 127 (roundAway (range q - r0) 128)), q.k⟩ }

/-- The order of a seed's satellites. -/
def SeedSat.order (x : SeedSat) : Nat := x.con * 256 + x.sv

/-- The seed position of a robot at an instant, in 2^-8 m (R148). -/
def seedPos (s : FixSol) (from_ t : Nat) : Int × Int × Int :=
  let dt : Int := (t : Int) - from_
  let one := fun (p v : Int) =>
    max (-8388608) (min 8388607 (roundAway ((p * 1000000000 + v * dt) * 256) 1000000000000))
  (one s.e s.ve, one s.n s.vn, one s.u s.vu)

/-- A robot's entry of the seed of an epoch (R148, R154, R167). -/
def Hw.seedRobot (h : Hw) (epoch t r : Nat) : SeedRbt :=
  let f := h.frob r
  let ok := decide (f.status = fixFixed ∨ f.status = fixFloat ∨ f.status = fixCoast ∨ f.status = fixReported)
  let div := h.f (FIX_RBT_CFG r) FIX_RBT_CFG.shadow_div
  { robot := r, lane := (h.laneOf r).getD 8, held := h.flag (OBS_RBT_STAT r) OBS_RBT_STAT.set_held, posValid := ok, sendFull := (h.orob r).sendFull,
    shadow := decide (h.robotMode r = 2 ∧ div > 0 ∧ epoch % (div * h.epochStep) = 0), tag := h.f (OBS_RBT_STAT r) OBS_RBT_STAT.set_tag,
    d := if ok then seedPos f.sol f.time t else (0, 0, 0) }

/-- The seed of the robot epoch `epoch` at `t` (R147, R148): from the newest base record of an earlier robot epoch, within 1 s. A request for
a full frame and a change of reference are shown once. -/
def Hw.makeSeed (h : Hw) (epoch t : Nat) (nav : List SatGeo) : Hw :=
  let base := h.fix.bases.find? fun b => decide (b.epoch + h.epochStep ≤ epoch ∧ t ≤ b.time + 1000000000)
  let mask := 100 * h.f FIX_CFG FIX_CFG.elev_mask
  let sats := match base with
    | none => []
    | some b => (sortBy SeedSat.order
        ((nav.filter fun g => decide (g.elev ≥ mask)).filterMap fun g => seedSat b g (t - b.time))).take 64
  let s : Seed :=
    { epoch := epoch, time := t, valid := base.isSome, stale := base.any fun b => decide (b.epoch + h.epochStep < epoch)
      switch := h.fix.switchDue, sats := sats, robots := allRobotNumbers.map (h.seedRobot epoch t), left := [] }
  let h := h.updFix fun f => { f with seeds := (s :: f.seeds).take 256, switchDue := false }
  h.updObs fun o => { o with robots := o.robots.foldl (fun m p => m.upd p.1 fun q => { q with sendFull := false }) o.robots }
where
  /-- Robot numbers. -/
  allRobotNumbers : List Nat := (List.range 128).map (· + 1)

/-- A signed number of 16 or 24 bits in octets. -/
def sBytes (n : Nat) (i : Int) : List Byte := leBytes n (ofInt (8 * n) i)

/-- A satellite's octets in a seed. -/
def SeedSat.octets (x : SeedSat) : List Byte :=
  let mask := x.sigs.foldl (fun m y => m + 2 ^ (y.sig - firstSig x.con)) 0
  leBytes 1 (x.con + mask * 8) ++ leBytes 1 x.sv ++ leBytes 4 x.r0 ++ sBytes 2 x.east ++ sBytes 2 x.north ++ sBytes 2 x.up ++
    (x.sigs.drop 1).flatMap fun y => sBytes 1 y.ofs

/-- A robot's octets in a seed. -/
def SeedRbt.octets (q : SeedRbt) : List Byte :=
  leBytes 1 q.robot ++ leBytes 1 (q.held.toNat + q.posValid.toNat * 2 + q.sendFull.toNat * 4 + q.shadow.toNat * 8) ++ leBytes 1 q.tag ++
    sBytes 3 q.d.1 ++ sBytes 3 q.d.2.1 ++ sBytes 3 q.d.2.2

/-- The seed element of a lane (R148), less the satellites left out of its beacon. -/
def Seed.octets (s : Seed) (lane : Nat) : List Byte :=
  let mine := s.robots.filter fun q => decide (q.lane = lane)
  let sats := s.sats.filter fun x => !memb (lane, x.order) s.left
  leBytes 2 s.epoch ++ leBytes 1 sats.length ++ leBytes 1 mine.length ++
    leBytes 1 (s.valid.toNat + s.stale.toNat * 2 + s.switch.toNat * 4) ++ [0] ++
    sats.flatMap SeedSat.octets ++ mine.flatMap SeedRbt.octets

/-- The satellite of a lane's element with the lowest elevation (R241). -/
def Seed.lowest (s : Seed) (lane : Nat) : Option SeedSat :=
  (s.sats.filter fun x => !memb (lane, x.order) s.left).foldl (fun (m : Option SeedSat) x =>
    match m with
    | some y => if x.up < y.up then some x else some y
    | none => some x) none

/-- Leave satellites out of a lane's element, lowest first, until it takes at most `room` octets (R241). -/
def Seed.shorten (lane room : Nat) : Nat → Seed → Seed
  | 0, s => s
  | n + 1, s =>
    if (s.octets lane).length ≤ room then s
    else match s.lowest lane with
      | some x => Seed.shorten lane room n { s with left := (lane, x.order) :: s.left }
      | none => s

/-- Read the satellites of a seed element. -/
def readSats (sats : Nat → Nat) : Nat → List Byte → List SeedSat × List Byte
  | 0, b => ([], b)
  | n + 1, b =>
    let con := fieldAt b 0 1 % 8
    let mask := fieldAt b 0 1 / 8 % 16
    let codes := ((List.range 4).filter (bit mask)).map (· + firstSig con)
    let ofs := (b.drop 12).take (codes.length - 1)
    let k := if con = 3 then sats (fieldAt b 1 1) else 15
    let sigs := (codes.zip (0 :: ofs.map fun o => toInt 8 o.toNat)).map fun p => (⟨p.1, p.2, k⟩ : SeedSig)
    let (xs, rest) := readSats sats n (b.drop (11 + max 1 codes.length))
    (⟨con, fieldAt b 1 1, fieldAt b 2 4, toInt 16 (fieldAt b 6 2), toInt 16 (fieldAt b 8 2), toInt 16 (fieldAt b 10 2), sigs⟩ :: xs, rest)

/-- Read the robots of a seed element. -/
def readRobots : Nat → List Byte → List SeedRbt
  | 0, _ => []
  | n + 1, b =>
    let g := fieldAt b 1 1
    ⟨fieldAt b 0 1, 8, bit g 0, bit g 1, bit g 2, bit g 3, fieldAt b 2 1,
      (toInt 24 (fieldAt b 3 3), toInt 24 (fieldAt b 6 3), toInt 24 (fieldAt b 9 3))⟩ :: readRobots n (b.drop 12)

/-- A standby keeps the seed it hears in place of its own (R158, R257): the satellites, and the robots that this lane's element lists. -/
def Hw.hearSeed (h : Hw) (b : List Byte) : Hw :=
  match h.seedOfField (fieldAt b 0 2) with
  | none => h
  | some s =>
    let (sats, rest) := readSats (fun sv => (h.gns.sats.at (satKey 3 sv)).k) (fieldAt b 2 1) (b.drop 6)
    let qs := readRobots (fieldAt b 3 1) rest
    let g := fieldAt b 4 1
    let s' := { s with valid := bit g 0, stale := bit g 1, switch := bit g 2, sats := sats,
                       robots := s.robots.map fun q => ((qs.find? fun x => decide (x.robot = q.robot)).map fun x => { x with lane := q.lane }).getD q }
    h.updFix fun f => { f with seeds := f.seeds.map fun x => if x.epoch = s.epoch then s' else x }

end Sys2Proof.Machine
end

