-- ==== Sys2Proof/Machine/Fix.lean ====
section
/-! DEFINITION. The fix manager FIX (spec/06_robot_fixes.md, R157–R168, R171; R187), and the base epoch and record that it takes part
in (spec/04_gnss_reference.md, R111, R122). -/

namespace Sys2Proof.Machine

open Reg

/-! ### Base records (R157) -/

/-- The active reference's observations in a record's entries (R121, R158). -/
def baseEntries (header : List Byte) (entries : List (List Byte)) : List BaseObs :=
  let ref := fieldAt header 26 1 % 4
  (entries.filter fun b => decide (fieldAt b 0 1 / 8 % 4 = ref)).map fun b =>
    ⟨fieldAt b 0 1 % 8, fieldAt b 2 1 % 16, fieldAt b 1 1, fieldAt b 2 1 / 16, fieldAt b 4 5, toInt 32 (fieldAt b 16 4)⟩

/-- The robots in central mode. -/
def Hw.centralRobots (h : Hw) : List Nat := ((List.range 128).map (· + 1)).filter fun r => decide (h.robotMode r = 1)

/-- A hold on a record buffer ends once every central robot has solved or coasted its epoch (R157). -/
def Hw.settleHolds (h : Hw) : Hw :=
  let over_ := fun (epoch : Nat) => h.centralRobots.all fun r => ((h.frob r).done.map fun d => decide (d ≥ epoch)).getD false
  let (gone, kept) := h.fix.holds.partition fun p => over_ p.2
  let mask := gone.foldl (fun m p => if bit m p.1 then m - 2 ^ p.1 else m) (h.f GNS_REC_HOLD GNS_REC_HOLD.fix_hold)
  (h.updFix fun f => { f with holds := kept }).setF GNS_REC_HOLD GNS_REC_HOLD.fix_hold mask

/-- FIX takes a completed record (R157): one with no entries counts as none; a robot epoch's is held, and the primary mirrors it (R277). -/
def Hw.takeRecord (h : Hw) (j : RecJob) : Hw :=
  let gps := fieldAt j.header 8 8
  let grid := decide (gps % 50000000 = 0)
  let switch := bit (fieldAt j.header 26 1) 2
  let h := if switch then h.updFix fun f => { f with switchDue := true } else h
  if j.entries.isEmpty then h
  else
    let rec_ : BaseRec := ⟨j.epoch, fieldAt j.header 16 6 * 1000000000 + fieldAt j.header 22 4, switch, grid, baseEntries j.header j.entries⟩
    let h := h.updFix fun f => { f with bases := rec_ :: (f.bases.filter fun b => decide (b.time + 2000000000 > rec_.time)) }
    if ¬grid then h
    else
      let hold := h.f GNS_REC_HOLD GNS_REC_HOLD.fix_hold
      let h := h.setF GNS_REC_HOLD GNS_REC_HOLD.fix_hold (if bit hold j.index then hold else hold + 2 ^ j.index)
      let h := h.updFix fun f => { f with holds := (f.holds.filter fun p => decide (p.1 ≠ j.index)) ++ [(j.index, j.epoch)] }
      h.settleHolds.mirror (.base (j.header ++ j.entries.flatten))

/-- RECORD_COMPLETE (R122, R157). -/
def execRecordComplete (s : State) : Host.Outcome State Fault Refusal :=
  run s fun h =>
    match h.recComplete with
    | (h, some j) => h.takeRecord j
    | (h, none) => h

/-- The base record that a robot epoch uses. -/
def Hw.baseOf (h : Hw) (epoch : Nat) : Option BaseRec := h.fix.bases.find? fun b => decide (b.epoch = epoch) && b.grid

/-- BASE_HOLD_EXPIRY (R157): the time limit of the oldest hold has passed. -/
def execBaseHoldExpiry (s : State) : Host.Outcome State Fault Refusal :=
  run s fun h =>
    match h.fix.holds with
    | [] => h
    | (i, _) :: rest =>
      let hold := h.f GNS_REC_HOLD GNS_REC_HOLD.fix_hold
      (h.updFix fun f => { f with holds := rest }).setF GNS_REC_HOLD GNS_REC_HOLD.fix_hold (if bit hold i then hold - 2 ^ i else hold)

/-! ### Resets (R163) -/

/-- Resets asked for by FIX_RBT_CTRL act at a robot epoch (R163). -/
def Hw.dueResets (h : Hw) : Hw :=
  h.fix.robots.foldl (fun h p => if p.2.resetDue then h.robotReset p.1 else h) h

/-- The base epoch latched last lies on the grid of robot epochs (R147). -/
def Hw.onGrid (h : Hw) : Bool :=
  decide (nominalEpoch (gpsFrom h.now (toInt 31 (h.f GNS_TIME_OFS GNS_TIME_OFS.offset))) h.epochNs % 50000000 = 0)

/-- EPOCH_LATCH (R111–R123, R288, R297), with the resets due at a robot epoch (R163). -/
def execEpochLatch (offset : Int) (leap : BitVec 8) (meas : List ObsMeas) (s : State) : Host.Outcome State Fault Refusal :=
  run s fun h =>
    let (h, latched) := h.baseEpoch offset leap.toNat meas
    if latched && h.onGrid then h.dueResets else h

/-- A write of FIX_RBT_CTRL. -/
def Hw.fixCtrlWritten (h : Hw) (r : Nat) (v : Word) : Hw :=
  if FIX_RBT_CTRL.reset.get v = 1 then h.updFrob r fun f => { f with resetDue := true } else h

/-- ROBOT_RESET (R163): a write of FIX_RBT_CTRL.reset. -/
def execRobotReset (via : BusAcc) (robot : Fin 129) (s : State) : Host.Outcome State Fault Refusal :=
  run s fun h => h.regWrite via (FIX_RBT_CTRL robot.val) 0x80000000 fun _ h => h.fixCtrlWritten robot.val 0x80000000

/-- A change of a robot's mode resets it (R146, R163). -/
def Hw.modeWas (h : Hw) (r old : Nat) : Hw := if h.robotMode r = old then h else h.robotReset r

/-! ### Records, publication and echo (R165, R166, R171) -/

/-- FIX's source number. -/
def fixSource : Nat := 0x0D00

/-- A number that saturates at a signed 16-bit field. -/
def sat16 (i : Int) : Int := max (-32768) (min 32767 i)

/-- What a fix record holds beside its solution. -/
structure FixRec where
  epoch : Nat
  robot : Nat
  status : Nat
  verdict : Nat
  intrusion : Bool
  pairs : Nat
  ratio : Nat
  segment : Nat
  flags : Nat
  latency : Nat
deriving DecidableEq, Repr, Inhabited

/-- The 40 octets of a fix record (R165). -/
def FixRec.octets (r : FixRec) (sol : FixSol) (standby : Bool) (seq : Nat) : List Byte :=
  leBytes 4 r.epoch ++ leBytes 1 r.robot ++
    leBytes 1 (r.status + r.verdict * 8 + r.intrusion.toNat * 64 + standby.toNat * 128) ++ leBytes 1 (min 255 r.pairs) ++
    leBytes 1 (min 255 r.ratio) ++ sBytes 4 sol.e ++ sBytes 4 sol.n ++ sBytes 4 sol.u ++ sBytes 2 (sat16 sol.ve) ++
    sBytes 2 (sat16 sol.vn) ++ sBytes 2 (sat16 sol.vu) ++ leBytes 2 (min 65535 sol.r95) ++ leBytes 2 r.segment ++ leBytes 2 r.flags ++
    leBytes 4 seq ++ leBytes 2 (min 65535 r.latency) ++ leBytes 2 0

/-- Enter a record whole in FIX_TBL. -/
def Hw.enterFix (h : Hw) (r : Nat) (bs : List Byte) : Hw :=
  (List.range 10).foldl (fun h w => h.setReg (FIX_TBL r w) (BitVec.ofNat 32 (fieldAt bs (4 * w) 4))) h

/-- Publish a record to its FIFO (R165). -/
def Hw.publishFix (h : Hw) (bs : List Byte) : Hw :=
  if h.flag FIX_PUB_CFG FIX_PUB_CFG.enable then
    let (h, lost) := h.hwSendFree prodPub (h.f FIX_PUB_CFG FIX_PUB_CFG.fifo) bs
    if lost then h.bump FIX_ERR FIX_ERR.pub_dropped FIX_ERR.pub_sat else h
  else h

/-- The 12-octet transmit header of a lane stream (R247). -/
def txHeader (ftype flags dst robot retries token : Nat) : List Byte :=
  leBytes 1 ftype ++ leBytes 1 flags ++ leBytes 2 dst ++ leBytes 1 robot ++ leBytes 1 retries ++ leBytes 2 0 ++ leBytes 4 token

/-- The fix echo to the robot's lane (R166); a robot bound to no lane has none. -/
def Hw.echoFix (h : Hw) (r : FixRec) (sol : FixSol) : Hw :=
  let div := h.f (FIX_RBT_CFG r.robot) FIX_RBT_CFG.echo_div
  match h.laneOf r.robot with
  | none => h
  | some n =>
    if h.acts && decide (div ≠ 0 ∧ r.epoch % div = 0) then
      let bs := txHeader ftEcho 0 r.robot r.robot 0 0 ++ leBytes 1 r.robot ++ leBytes 1 (r.status + r.verdict * 8) ++ leBytes 2 r.epoch ++
        sBytes 4 sol.e ++ sBytes 4 sol.n ++ sBytes 4 sol.u
      (h.hwSendFree prodEcho (h.f (RAD_LANE_FIFO n) RAD_LANE_FIFO.tx_echo) bs).1
    else h

/-- PUB_DROP_TIMEOUT (R165): the oldest record held by a full FIFO is dropped from the stream. -/
def execPubDropTimeout (s : State) : Host.Outcome State Fault Refusal :=
  run s fun h =>
    let f := h.f FIX_PUB_CFG FIX_PUB_CFG.fifo
    if h.holdsPacket prodPub f then (h.dropHeld prodPub f).bump FIX_ERR FIX_ERR.pub_dropped FIX_ERR.pub_sat else h

/-! ### The corridor check (R168, R191, R420) -/

/-- The half-width of a segment's clearance class in 2^-20 mm. -/
def Hw.halfWidth (h : Hw) (seg : Nat) : Nat := h.f (FIX_CLASS_HW (h.seg seg).cls) FIX_CLASS_HW.hw_mm * mmUnits

/-- The verdict codes (R168). -/
def vInside : Nat := 0
def vPossible : Nat := 1
def vDefinite : Nat := 2
def vUnverifiable : Nat := 3
def vStill : Nat := 4
def vMoving : Nat := 5
def vShadow : Nat := 6
def vUnchecked : Nat := 7

/-- Horizontal speed in mm/s, rounded up: it exceeds a whole threshold where the exact speed does (log entry 46). -/
def fixSpeed (s : FixSol) : Nat :=
  let v := (s.ve * s.ve + s.vn * s.vn).toNat
  if isqrt v * isqrt v = v then isqrt v else isqrt v + 1

/-- What the corridor check finds. -/
structure Corridor where
  verdict : Nat
  segment : Nat
  intruded : Option Nat
deriving DecidableEq, Repr, Inhabited

/-- The segment with the smallest d − h, with d and h. -/
def nearest : List (Nat × Nat × Nat) → Option (Nat × Nat × Nat)
  | [] => none
  | x :: xs =>
    match nearest xs with
    | none => some x
    | some y => if (x.2.1 : Int) - x.2.2 ≤ (y.2.1 : Int) - y.2.2 then some x else some y

/-- The holder of a segment on one of whose conflict sets another robot's entry contains a tick (R168). -/
def Hw.setHolder (h : Hw) (robot seg tick : Nat) : Option Nat :=
  ((h.rsv.entries.find? fun e => decide (e.robot ≠ robot) && (h.seg seg).sets.any (fun c => decide (e.cal = setCal c)) && e.holds tick)).map
    Entry.robot

/-- The robot whose segment the circle of a position meets (R168): of several, the one on the lowest segment number (log entry 47). -/
def Hw.intrusion (h : Hw) (robot tick : Nat) (sol : FixSol) : Option Nat :=
  h.rsv.segs.findSome? fun p =>
    if p.2.valid ∧ (p.2.locate sol.e sol.n).dist ≤ h.halfWidth p.1 + sol.r95 * mmUnits then h.setHolder robot p.1 tick else none

/-- The corridor check of a fix (R168). -/
def Hw.check (h : Hw) (robot status tick : Nat) (mismatch : Bool) (sol : FixSol) : Corridor :=
  let segs := ((h.corridor robot tick).map Entry.cal).map fun n => (n, ((h.seg n).locate sol.e sol.n).dist, h.halfWidth n)
  let r := sol.r95 * mmUnits
  let hit := h.intrusion robot tick sol
  let seg := ((nearest segs).map Prod.fst).getD 0xFFFF
  let v :=
    if status = fixNone ∨ ¬h.flag FIX_CFG FIX_CFG.enable then vUnchecked
    else if mismatch then vShadow
    else if status = fixCoast ∨ status = fixLost ∨ segs.any (fun s => decide (r > s.2.2)) then vUnverifiable
    else if segs.isEmpty then
      if fixSpeed sol ≤ h.f FIX_STOP_CFG2 FIX_STOP_CFG2.still_mm_s then vStill else vMoving
    else if segs.any fun s => decide (s.2.1 + r ≤ s.2.2) then vInside
    else if segs.any fun s => decide (s.2.1 ≤ s.2.2 + r) then vPossible
    else vDefinite
  ⟨v, seg, hit⟩

/-- Send a verdict to SP's queue (R169, R171); with FIX_CFG.enable = 0 none is sent. -/
def Hw.sendVerdict (h : Hw) (robot epoch status : Nat) (c : Corridor) (sol : FixSol) : Hw :=
  if h.acts && h.flag FIX_CFG FIX_CFG.enable then
    let h := h.updFix fun f => { f with verdicts := f.verdicts ++ [⟨robot, epoch, c.verdict, c.intruded, fixSpeed sol, h.now,
      decide (h.robotMode robot = 2 ∧ status ≠ fixReported)⟩] }
    if c.verdict = vInside ∨ c.verdict = vUnchecked ∨ c.verdict = vStill then h else h.raise FIX_IRQ_STAT FIX_IRQ_STAT.verdict robot
  else h

/-- The instant of a robot epoch. -/
def Hw.epochTime (h : Hw) (epoch : Nat) : Nat := ((h.seedOf epoch).map Seed.time).getD h.now

/-- A fix of any status enters FIX_TBL, is checked, published and echoed, and where it is fixed or float and inside releases the segments
left behind (R165–R168, R187). -/
def Hw.fixOut (h : Hw) (robot epoch status pairs ratio flags latency : Nat) (mismatch : Bool) (sol : FixSol) : Hw :=
  let t := h.epochTime epoch
  let tick := tickOfNs t
  let c := h.check robot status tick mismatch sol
  let seq := h.alm.seqs.at fixSource
  let h := { h with alm := h.alm.advance fixSource }
  let r : FixRec := ⟨epoch, robot, status, c.verdict, c.intruded.isSome, pairs, ratio, c.segment, flags, latency⟩
  let bs := r.octets sol (!h.acts) seq
  let lost := decide (status = fixLost ∧ (h.frob robot).status ≠ fixLost)
  let h := (h.enterFix robot bs).updFrob robot fun f =>
    { f with status := status, sol := sol, time := t, done := some epoch, lostAt := if lost then h.now else f.lostAt }
  let h := (h.publishFix bs).echoFix r sol
  let h := h.raise FIX_IRQ_STAT FIX_IRQ_STAT.fix robot
  let h := if lost then h.raise FIX_IRQ_STAT FIX_IRQ_STAT.lost robot else h
  let h := h.sendVerdict robot epoch status c sol
  let h := if (status = fixFixed ∨ status = fixFloat) ∧ c.verdict = vInside ∧ h.acts then h.releaseBehind robot c.segment sol.e sol.n tick else h
  h.settleHolds

/-! ### The outcome of an epoch (R159–R163, R167) -/

/-- Whether the validation sum over `m` measurements is at most chi × m (R159). -/
def validSum (sum chi m : Nat) : Bool :=
  !f64.special sum && !f32.special chi && decide (f64.scaled sum ≤ f32.scaled chi * (m : Int) * 2 ^ 925)

/-- The ratio in 0.1, rounded down, at most 255 (R165). -/
def ratioTenths (w : Nat) : Nat := if f32.special w then 255 else min 255 ((f32.scaled w * 10).toNat / 2 ^ 149)

/-- The flags of a record (R165). -/
def Hw.fixFlags (h : Hw) (robot epoch : Nat) (excluded restored : Bool) : Nat :=
  ((h.baseOf epoch).any BaseRec.switch).toNat + ((h.seedOf epoch).any Seed.stale).toNat * 2 + excluded.toNat * 4 + restored.toNat * 8 +
    (decide (h.robotMode robot = 2)).toNat * 16

/-- A shadow fix differs from the report of its epoch, or there is none (R167). -/
def Hw.shadowMismatch (h : Hw) (robot epoch : Nat) (sol : FixSol) : Bool :=
  decide (h.robotMode robot = 2) &&
    match (h.frob robot).report with
    | some (e, p) =>
      let lim := h.f FIX_SHADOW_CFG FIX_SHADOW_CFG.tol_mm + sol.r95 + p.r95
      let de := sol.e - p.e
      let dn := sol.n - p.n
      decide (e ≠ epoch ∨ de * de + dn * dn > lim * lim)
    | none => true

/-- A robot's epoch coasts, or after coast_max coasting epochs is lost; one lost for 2 s is reset (R161, R163). -/
def Hw.coast (h : Hw) (robot epoch : Nat) (restored : Bool) (predicted : FixSol) : Hw :=
  let f := h.frob robot
  if f.status = fixNone then (h.updFrob robot fun f => { f with done := some epoch }).settleHolds
  else
    let flags := h.fixFlags robot epoch false restored
    if f.status = fixLost ∨ f.coasts ≥ max 1 (h.f (FIX_RBT_CFG robot) FIX_RBT_CFG.coast_max) then
      if f.status = fixLost ∧ h.now ≥ f.lostAt + 2000000000 then
        (h.updFrob robot fun f => { f with done := some epoch }).robotReset robot |>.settleHolds
      else
        let sol := { f.sol with r95 := 65535 }
        h.fixOut robot epoch fixLost 0 0 flags 0 (h.shadowMismatch robot epoch sol) sol
    else
      (h.updFrob robot fun f => { f with coasts := f.coasts + 1 }).fixOut robot epoch fixCoast 0 0 flags 0
        (h.shadowMismatch robot epoch predicted) predicted

/-- A shadow fix differs from the primary's (R277): counted, raised, and reported to the health manager as a transient of class 12. -/
def Hw.compareFail (h : Hw) (robot : Nat) : Hw :=
  ((h.bump EQX_ERR EQX_ERR.compare_fail EQX_ERR.cmp_sat).raise EQX_IRQ_STAT EQX_IRQ_STAT.compare_fail robot).countOpen 12 0

/-- Compare the standby's own checkpoint of a robot with the primary's of the same epoch, where its run started from the primary's checkpoint and
took the frame with the same counter (R277). -/
def Hw.compareCkpt (h : Hw) (robot : Nat) : Hw :=
  match (h.frob robot).own with
  | some (e, c, true, o) =>
    if (h.eqx.checkpoints.at robot).any fun x => decide (x.1 = e ∧ x.2.1 = c ∧ x.2.2 ≠ o) then h.compareFail robot else h
  | _ => h

/-- The primary mirrors a checkpoint at its epochs, and the standby keeps its own for the comparison (R158, R277). -/
def Hw.checkpoint (h : Hw) (r : FixRun) : Hw :=
  let ctr := (h.orob r.robot).counter
  let div := max 1 (h.f EQX_CFG EQX_CFG.ckpt_div)
  if h.acts then
    if r.epoch % div = 0 then h.mirror (.checkpoint r.robot r.epoch ctr r.checkpoint) else h
  else
    let prior := r.epoch - h.frameStep r.robot * h.epochStep
    let from_ := (h.eqx.checkpoints.at r.robot).any fun x => decide (x.1 = prior)
    (h.updFrob r.robot fun f => { f with own := some (r.epoch, ctr, from_, r.checkpoint) }).compareCkpt r.robot

/-- A run of a robot's filter ends (R159–R162). -/
def Hw.fixRun (h : Hw) (r : FixRun) : Hw :=
  let f := h.frob r.robot
  if h.robotMode r.robot = 0 then h
  else if (h.baseOf r.epoch).isNone then
    (h.bump FIX_ERR FIX_ERR.base_missing FIX_ERR.base_sat).coast r.robot r.epoch false r.predicted
  else
    let flags := h.fixFlags r.robot r.epoch r.excluded false
    let go := fun (h : Hw) (fixed : Bool) =>
      let sol := if fixed then r.conditioned else r.filtered
      let h := h.updFrob r.robot fun f => { f with coasts := 0, notPd := 0 }
      let h := h.fixOut r.robot r.epoch (if fixed then fixFixed else fixFloat) r.pairs (ratioTenths r.ratio) flags r.latency
        (h.shadowMismatch r.robot r.epoch sol) sol
      h.checkpoint r
    match r.how with
    | .invalid => ((h.updFrob r.robot fun f => { f with done := some r.epoch }).robotReset r.robot).settleHolds
    | .notPd =>
      let h := h.bump FIX_ERR FIX_ERR.not_pd FIX_ERR.pd_sat
      if f.notPd ≥ 2 then ((h.updFrob r.robot fun f => { f with done := some r.epoch }).robotReset r.robot).settleHolds
      else (h.updFrob r.robot fun f => { f with notPd := f.notPd + 1 }).coast r.robot r.epoch false r.predicted
    | .inPlaceLost => h.coast r.robot r.epoch true r.predicted
    | .noTile => h.coast r.robot r.epoch false r.predicted
    | .searchLost => if r.pairs < h.f FIX_CFG FIX_CFG.min_sig then h.coast r.robot r.epoch false r.predicted else go h false
    | .solved =>
      if r.pairs < h.f FIX_CFG FIX_CFG.min_sig then h.coast r.robot r.epoch false r.predicted
      else
        go h (r.searchFixed && decide (r.held ≥ h.f FIX_CFG FIX_CFG.min_fix ∧ f.status ≠ fixNone ∧ f.status ≠ fixLost) &&
          validSum r.sum (h.reg FIX_VAL_CHI).toNat r.m)

/-- FIX_PUBLISH (R165): firmware hands FIX what a robot's filter gave at an epoch. -/
def execFixPublish (r : FixRun) (s : State) : Host.Outcome State Fault Refusal := run s fun h => h.fixRun r

/-- A robot's frame of an epoch was accepted: it is the last one, or the one that a buffer was completed with. -/
def Hw.frameIn (h : Hw) (r epoch : Nat) : Bool :=
  let o := h.orob r
  (o.last.map fun l => decide (l = epoch ∨ (l > epoch ∧ (o.epochs.1 = epoch ∨ o.epochs.2 = epoch)))).getD false

/-- EPOCH_DEADLINE (R161): a robot epoch without a usable buffer or base record coasts; `predicted` is what TIME alone gives. -/
def Hw.epochDeadline (h : Hw) (r epoch : Nat) (predicted : FixSol) : Hw :=
  let div := h.f (FIX_RBT_CFG r) FIX_RBT_CFG.shadow_div
  let due := decide (h.robotMode r = 1) || decide (h.robotMode r = 2 ∧ div > 0 ∧ epoch % (div * h.epochStep) = 0)
  if ¬due ∨ ((h.frob r).done.map fun d => decide (d ≥ epoch)).getD false then h
  else
    let arrived := h.frameIn r epoch
    let h := if arrived then h else h.bump (OBS_RBT_MISS r) OBS_RBT_MISS.missed OBS_RBT_MISS.missed_sat
    let base := (h.baseOf epoch).isSome
    let h := if base then h else h.bump FIX_ERR FIX_ERR.base_missing FIX_ERR.base_sat
    if arrived && base then h else h.coast r epoch false predicted

/-- EPOCH_DEADLINE (R161). -/
def execEpochDeadline (robot : Fin 129) (epoch : Word) (predicted : FixSol) (s : State) : Host.Outcome State Fault Refusal :=
  run s fun h => h.epochDeadline robot.val epoch.toNat predicted

/-! ### Broadcast mode (R167) -/

/-- The solution that a position report gives. -/
def reportSol (p : List Byte) : FixSol :=
  let i := fun k => toInt 32 (fieldAt p k 4)
  let v := fun k => toInt 16 (fieldAt p k 2)
  ⟨i 4, i 8, i 12, v 16, v 18, v 20, fieldAt p 22 2⟩

/-- POSITION_REPORT (R167): the oldest report is entered with status reported and checked like a fix. -/
def execPositionReport (s : State) : Host.Outcome State Fault Refusal :=
  run s fun h =>
    match h.fix.reports with
    | [] => h
    | (robot, epoch, p) :: rest =>
      let h := (h.updFix fun f => { f with reports := rest }).updFrob robot fun f => { f with report := some (epoch, reportSol p) }
      let done := (h.frob robot).done
      let h := h.fixOut robot epoch fixReported 0 0 0 ((h.now - h.epochTime epoch) / 1000) false (reportSol p)
      h.updFrob robot fun f => { f with done := done }

/-! ### Registers -/

/-- FIX_TBL_SNAPSHOT (R165): a read of word 0 of a robot's record takes the whole record for the reading master. -/
def execFixTblSnapshot (via : BusAcc) (robot : Fin 129) (s : State) : Host.Outcome State Fault Refusal :=
  run s fun h => h.regRead via (FIX_TBL robot.val 0) Hw.reg fun h =>
    (List.range 10).foldl (fun h w => if w = 0 then h else h.setReadShadow via.master.num (FIX_TBL robot.val w) (h.reg (FIX_TBL robot.val w))) h

/-- The live word of a FIX register: FIX_STAT counts the robots. -/
def Hw.viewFix (h : Hw) (k : Nat) : Word :=
  if k = FIX_STAT then
    let n := fun (p : Nat → Bool) => (((List.range 128).map (· + 1)).filter p).length
    let st := fun s r => decide (h.robotMode r ≠ 0 ∧ (h.frob r).status = s)
    FIX_STAT.fixed.set (FIX_STAT.float.set (FIX_STAT.degraded.set (FIX_STAT.active.set 0 (n fun r => decide (h.robotMode r ≠ 0)))
      (n fun r => st fixCoast r || st fixLost r)) (n (st fixFloat))) (n (st fixFixed))
  else h.reg k

end Sys2Proof.Machine
end

