-- ==== Sys2Proof/Machine/Burl.lean ====
section
/-! DEFINITION. The key store Burl (spec/13_burl_keys.md, R323–R339): the root and its derivations, the sealed store, slots, key-update
messages, atomic replacement, operations, provisioning, debug sessions. -/

namespace Sys2Proof.Machine

open Reg

/-- Change Burl. -/
def Hw.updBrl (h : Hw) (g : BrlSt → BrlSt) : Hw := { h with brl := g h.brl }

/-- BRL_STAT.state. -/
def Hw.brlState (h : Hw) : Nat := h.f BRL_STAT BRL_STAT.state

/-- States of Burl. -/
def brlNoRoot : Nat := 0
def brlUnsealing : Nat := 1
def brlOpen : Nat := 2
def brlClosed : Nat := 3
def brlLocked : Nat := 4
def brlDestroyed : Nat := 5

/-- Burl is locked, or has lost its root: every operation ends with status locked (R341, R342). -/
def Hw.brlIsLocked (h : Hw) : Bool := decide (h.brlState = brlLocked ∨ h.brlState = brlDestroyed)

/-! ### Status codes (R335) -/

def brlOk : Nat := 0x0
def brlAuth : Nat := 0x1
def brlClass : Nat := 0x2
def brlEmpty : Nat := 0x3
def brlExhausted : Nat := 0x4
def brlOldCounter : Nat := 0x5
def brlIdentity : Nat := 0x6
def brlBadDesc : Nat := 0x7
def brlStLocked : Nat := 0x8
def brlAborted : Nat := 0x9
def brlParkTimeout : Nat := 0xA
def brlTamper : Nat := 0xB
def brlNotPermitted : Nat := 0xC
def brlBadMessage : Nat := 0xD
def brlBusyStore : Nat := 0xE

/-! ### The root (R324) -/

/-- A key derived from the root under a label; an empty list while there is no root. -/
def Hw.rootKey (h : Hw) (label : String) (n : Nat) : List Byte :=
  if h.brl.root.isEmpty then [] else hkdf zeroSalt h.brl.root (labelBytes label) n

/-- The words of octets into consecutive registers. -/
def Hw.setWords (h : Hw) (k : Nat) : List Word → Hw
  | [] => h
  | w :: ws => (h.setReg k w).setWords (k + 4) ws

/-- The device identity and the public halves of the identity keys follow from the root (R324). -/
def Hw.deriveIdentity (h : Hw) : Hw :=
  let h := h.setWords (BRL_ID 0) (bytesToWords (h.rootKey "device-id" 16))
  let pub := fun (label : String) => bytesToWords (pointBytes (pmul (privOf (h.rootKey label 32)) g256))
  (h.setWords (BRL_PUB 0 0) (pub "id-sign")).setWords (BRL_PUB 1 0) (pub "id-agree")

/-! ### Slots (R326–R328) -/

/-- The class of a slot. -/
def Hw.slotClass (h : Hw) (n : Nat) : Nat := h.f (BRL_SLOT_DEF n) BRL_SLOT_DEF.class

/-- The key length of a slot, in octets. -/
def Hw.slotLen (h : Hw) (n : Nat) : Nat := 16 * 2 ^ h.f (BRL_SLOT_DEF n) BRL_SLOT_DEF.key_len

/-- A slot of derived keys, never persisted. -/
def Hw.slotVolatile (h : Hw) (n : Nat) : Bool := h.flag (BRL_SLOT_DEF n) BRL_SLOT_DEF.volatile

/-- A slot holds a key. -/
def Hw.slotValid (h : Hw) (n : Nat) : Bool := !(h.keySlot n).key.isEmpty

/-- Replace a slot's contents. -/
def Hw.setSlot (h : Hw) (n : Nat) (x : KeySlot) : Hw := h.updBrl fun b => { b with slots := b.slots.set n x }

/-- The shadow of a slot. -/
def Hw.shadow (h : Hw) (n : Nat) : Option Shadow := h.brl.shadows.at n

/-- Replace or discard a slot's shadow; without one its challenge reads 0 (R332). -/
def Hw.setShadow (h : Hw) (n : Nat) (x : Option Shadow) : Hw :=
  let h := h.updBrl fun b => { b with shadows := b.shadows.set n x }
  if x.isNone then h.setWords (BRL_STG_CHAL n 0) [0, 0, 0, 0] else h

/-- A key written with its count and attribute (R328). -/
def newSlot (key : List Byte) (uses : Nat) (expire : Bool) : KeySlot := ⟨key, decide (uses ≠ 0), uses, uses - 1024, expire⟩

/-! ### The sealed store (R325) -/

/-- What the store holds of the slots: those that persist, with the counts it records. -/
def Hw.storedSlots (h : Hw) : Map KeySlot :=
  h.brl.slots.filterMap fun p =>
    if h.slotVolatile p.1 ∨ p.2.expire then none else some (p.1, { p.2 with uses := if p.2.limited then p.2.margin else p.2.uses })

/-- The copy in force: the one that opens with the higher generation. -/
def BrlSt.newest (b : BrlSt) : Option StoreCopy :=
  match b.copyA.ok, b.copyB.ok with
  | true, true => some (if b.copyA.gen ≥ b.copyB.gen then b.copyA else b.copyB)
  | true, false => some b.copyA
  | false, true => some b.copyB
  | false, false => none

/-- Write the other copy, with the next generation; Vigil retention keeps the generation too. -/
def Hw.storeWrite (h : Hw) : Hw :=
  let gen := (h.brl.newest.map StoreCopy.gen).getD 0 + 1
  let toA := match h.brl.copyA.ok, h.brl.copyB.ok with
    | true, true => decide (h.brl.copyA.gen < h.brl.copyB.gen)
    | true, false => false
    | _, _ => true
  let c : StoreCopy := ⟨true, gen % 2 ^ 32, (h.reg BRL_KU_CTR).toNat, h.storedSlots, h.brl.shadows⟩
  h.updBrl fun b => { (if toA then { b with copyA := c } else { b with copyB := c }) with retained := some (gen % 2 ^ 32) }

/-! ### Key ports (R337) -/

/-- A slot's key where the slot has a class. -/
def Hw.portKey (h : Hw) (n cls : Nat) : List Byte := h.slotKey n cls

/-- The port copies follow the slots: RAD, STP and EQX (R337). -/
def Hw.deliverKeys (h : Hw) : Hw :=
  let stop := h.portKey 1 7
  let pair := h.portKey 2 6
  let (g, j, m) := h.rad.keySlots
  { h with ports := { h.ports with
      stop := stop, cmd := if stop.isEmpty then [] else hkdf zeroSalt stop (labelBytes "stop-cmd") 32,
      group := h.portKey g 7, join := h.portKey j 7, pairMaster := h.portKey m 6,
      link := if pair.isEmpty then [] else hkdf zeroSalt pair (labelBytes "pair-link") 32 } }

/-- Empty a slot: key erased, port copies with it. -/
def Hw.emptySlot (h : Hw) (n : Nat) : Hw := (h.setSlot n default).deliverKeys

/-! ### Operations in flight (R334–R336) -/

/-- The SMU unit of an operation slot. -/
def brlUnit (q : Nat) : Nat := 272 + q

/-- The operation in a slot. -/
def Hw.brlOp (h : Hw) (q : Nat) : Option BrlOp := h.brl.ops.at q

/-- Replace the operation of a slot. -/
def Hw.setOp (h : Hw) (q : Nat) (o : Option BrlOp) : Hw := h.updBrl fun b => { b with ops := b.ops.set q o }

/-- Operations in flight, with their slots. -/
def Hw.brlOps (h : Hw) : List (Nat × BrlOp) := h.brl.ops.filterMap fun p => p.2.map fun o => (p.1, o)

/-- The key slot that an operation is on: a key-update message names its own, and HASH and RANDOM are on none. -/
def Hw.opSlot (h : Hw) (o : BrlOp) : Nat :=
  if o.op = 0xA then
    match h.readCtx o.ctx o.src 4 with
    | .ok b => fieldAt b 2 1
    | .error _ => o.slot
  else if o.op = 3 ∨ o.op = 9 then 256 + o.order
  else o.slot

/-- The status word of a descriptor (R334). -/
def brlWord (st n : Nat) : List Byte := leBytes 4 (2 ^ 31 + st * 2 ^ 24 + n)

/-- Count an error of an operation that fails to verify. -/
def Hw.brlAuthFail (h : Hw) : Hw := h.bump BRL_ERR BRL_ERR.auth_fail BRL_ERR.auth_sat

/-- Count a refused submission or write. -/
def Hw.brlRefused (h : Hw) : Hw := h.bump BRL_ERR BRL_ERR.refused BRL_ERR.refused_sat

/-- End an operation: what has been written of dst is zeroed where R335 says so, then the status word, the token and the interrupts. -/
def Hw.brlEnd (h : Hw) (q : Nat) (o : BrlOp) (st n : Nat) : Hw :=
  let zero := o.wrote && memb st [brlAuth, brlTamper, brlAborted, brlParkTimeout]
  let h := if zero then (h.writeCtx o.ctx o.dst (List.replicate o.length 0)).1 else h
  let h := (h.writeCtx o.ctx (o.desc + 60) (brlWord st n)).1
  let h := (h.setOp q none).unitNormal (brlUnit q)
  let h := if st = brlAuth then h.brlAuthFail else h
  let h := if bit o.flags 0 then h.token o.handle (decide (st ≠ 0)) else h
  let h := if st ≠ 0 then h.raise BRL_IRQ_STAT BRL_IRQ_STAT.op_err q else h
  if bit o.flags 1 then h.raise BRL_IRQ_STAT BRL_IRQ_STAT.op_irq q else h

/-- An operation parks on a translation fault (R84, R336); a bus error parks it too (log entry 58). -/
def Hw.brlPark (h : Hw) (q : Nat) (o : BrlOp) (addr : Nat) (write : Bool) (e : MemErr) : Hw :=
  let h := h.setOp q (some { o with state := 4 })
  match e with
  | .fault a k => h.park (brlUnit q) o.ctx a write k
  | .bus => h.park (brlUnit q) o.ctx addr write kindWalk

/-- Read an operand of an operation, or park. -/
def Hw.brlRead (h : Hw) (q : Nat) (o : BrlOp) (addr n : Nat) (k : List Byte → Hw) : Hw :=
  match h.readCtx o.ctx addr n with
  | .ok bs => k bs
  | .error e => h.brlPark q o addr false e

/-- Write the result of an operation and end it, or park. -/
def Hw.brlWrite (h : Hw) (q : Nat) (o : BrlOp) (bs : List Byte) : Hw :=
  match h.writeCtx o.ctx o.dst bs with
  | (h, _, none) => h.brlEnd q o brlOk bs.length
  | (h, n, some e) => h.brlPark q { o with wrote := o.wrote || decide (n ≠ 0) } o.dst true e

/-- An operation may be dispatched: it is the oldest on its key slot, and does not stand parked (R336). -/
def Hw.brlMayRun (h : Hw) (q : Nat) (o : BrlOp) : Bool :=
  !h.isParked (brlUnit q) && (h.brlOps.all fun p => decide (p.2.order ≥ o.order) || decide (h.opSlot p.2 ≠ h.opSlot o))

/-- One row of the operation table: the operation in slot `q`, where it has that code and may run. -/
def Hw.brlRow (h : Hw) (q code : Nat) (eff : Hw → BrlOp → Hw) : Hw :=
  match h.brlOp q with
  | none => h
  | some o =>
    if o.op ≠ code ∨ ¬h.brlMayRun q o then h
    else if h.brlIsLocked then h.brlEnd q o brlStLocked 0
    else
      let o := { o with state := 2 }
      eff ((h.unitNormal (brlUnit q)).setOp q (some o)) o

/-- A use of a slot of a class: the key goes on; wrong class, an empty slot and an exhausted one end the operation (R327, R328). A count is taken
once per dispatch, and the store follows when its margin is spent. -/
def Hw.brlUse (h : Hw) (q : Nat) (o : BrlOp) (cls : Nat) (k : Hw → BrlOp → List Byte → Hw) : Hw :=
  let x := h.keySlot o.slot
  if h.slotClass o.slot ≠ cls then h.brlEnd q o brlClass 0
  else if x.key.isEmpty then h.brlEnd q o brlEmpty 0
  else if ¬x.limited ∨ o.counted then k h o x.key
  else if x.uses = 0 then
    let h := if h.slotVolatile o.slot || x.expire then h.emptySlot o.slot else (h.emptySlot o.slot).storeWrite
    (h.raise BRL_IRQ_STAT BRL_IRQ_STAT.exhausted o.slot).brlEnd q o brlExhausted 0
  else
    let o := { o with counted := true }
    let h := (h.setOp q (some o)).setSlot o.slot { x with uses := x.uses - 1 }
    let spent := decide (x.uses - 1 ≤ x.margin ∧ 0 < x.margin)
    let h := if spent then
        let h := h.setSlot o.slot { x with uses := x.uses - 1, margin := x.uses - 1 - 1024 }
        if h.slotVolatile o.slot || x.expire then h else h.storeWrite
      else h
    k h o x.key

/-! ### Submission (R334) -/

/-- An operation as the 64 octets of its descriptor say. -/
def parseOp (b : List Byte) (ctx desc : Nat) : BrlOp :=
  { (default : BrlOp) with
    state := 1, op := fieldAt b 0 1, flags := fieldAt b 1 1, slot := fieldAt b 2 1, dstSlot := fieldAt b 3 1, ctx := ctx,
    micLen := fieldAt b 5 1, handle := fieldAt b 6 2, src := fieldAt b 8 8, dst := fieldAt b 16 8, length := fieldAt b 24 4,
    aadLen := fieldAt b 28 4, aux := fieldAt b 32 8, auxLen := fieldAt b 40 4, swapS := fieldAt b 44 4, desc := desc }

/-- A descriptor that is not bad: a known op, its reserved bits zero, its own context, a slot that exists, a length and MIC length of the table
(log entry 59 for the lengths that the table does not state). -/
def BrlOp.sound (o : BrlOp) (b : List Byte) : Bool :=
  decide (1 ≤ o.op ∧ o.op ≤ 0xB ∧ o.flags < 16 ∧ o.length < 2 ^ 24) && decide (fieldAt b 4 1 = o.ctx) && zeroAt b 48 12 &&
    (decide (o.slot < 64) || (decide (o.op = 5 ∧ o.slot = 0xFF))) &&
    (decide (o.op ≠ 7 ∧ o.op ≠ 8) || decide (o.dstSlot < 64)) &&
    (!(decide (o.op = 1 ∨ o.op = 2)) || bit o.flags 2 || memb o.micLen [4, 8, 16]) &&
    (decide (o.op ≠ 5 ∧ o.op ≠ 6) || decide (o.length = 32)) && (decide (o.op ≠ 6) || decide (o.auxLen = 64)) &&
    (decide (o.op ≠ 8) || decide (o.auxLen = 64))

/-- A master may submit: an application core at monitor level, SP, the update engine. -/
def mayCrypt (a : BusAcc) : Bool :=
  match a.master with
  | .ac _ => decide (a.level = .monitor)
  | .sp => true
  | .update => true
  | _ => false

/-- The outcome word of a submission. -/
def brlOutcome (st q id : Nat) : Word :=
  BRL_SUBMIT_RES.status.set (BRL_SUBMIT_RES.slot.set (BRL_SUBMIT_RES.op_id.set 0 id) q) st

/-- A submission is refused. -/
def Hw.brlRefuse (h : Hw) (m st : Nat) : Hw :=
  h.brlRefused.updBrl fun b => { b with results := b.results.set m (brlOutcome st 0 0) }

/-- The write of BRL_SUBMIT_HI. -/
def Hw.brlSubmit (h : Hw) (a : BusAcc) (low high : Word) : Hw :=
  let m := a.master.num
  let ctx := BRL_SUBMIT_HI.ctx.get high
  let addr := BRL_SUBMIT_LO.addr_lo.get low * 64 + BRL_SUBMIT_HI.addr_hi.get high * 2 ^ 32
  if ¬mayCrypt a then h.brlRefuse m 4
  else if h.brlIsLocked then h.brlRefuse m 5
  else match (List.range 16).find? fun q => (h.brlOp q).isNone with
    | none => h.brlRefuse m 1
    | some q =>
      match h.readCtx ctx addr 64 with
      | .error (.fault fa k) => (h.faultRecord ⟨fa, k, false, ctx, brlUnit q⟩).brlRefuse m 3
      | .error .bus => h.brlRefuse m 3
      | .ok b =>
        let o := parseOp b ctx addr
        if ¬o.sound b then h.brlRefuse m 2
        else
          let id := h.brl.nextId
          let h := h.setOp q (some { o with order := h.brl.accepted, opId := id })
          h.updBrl fun b => { b with accepted := b.accepted + 1, nextId := (id + 1) % 65536, results := b.results.set m (brlOutcome 0 q id) }

/-- CRYPTO_SUBMIT (R334). -/
def execCryptoSubmit (via : BusAcc) (high : Word) (s : State) : Host.Outcome State Fault Refusal :=
  run s fun h => h.regWrite via BRL_SUBMIT_HI high fun low h => h.brlSubmit via low high

/-! ### Data operations (R334) -/

/-- The additional data and the data of an operation: src holds the one, then the other. -/
def Hw.brlInput (h : Hw) (q : Nat) (o : BrlOp) (k : List Byte → List Byte → Hw) : Hw :=
  h.brlRead q o o.src (o.aadLen + o.length) fun bs => k (bs.take o.aadLen) (bs.drop o.aadLen)

/-- A nonce fits its mode: 13 octets for CCM*, some for GCM. -/
def BrlOp.nonceOk (o : BrlOp) : Bool := if bit o.flags 2 then decide (o.auxLen ≠ 0) else decide (o.auxLen = 13)

/-- AEAD_ENC (R334). -/
def execAeadEnc (q : Fin 16) (s : State) : Host.Outcome State Fault Refusal :=
  run s fun h => h.brlRow q.val 1 fun h o =>
    if ¬o.nonceOk then h.brlEnd q.val o brlBadDesc 0
    else h.brlUse q.val o 1 fun h o key =>
      h.brlRead q.val o o.aux o.auxLen fun nonce => h.brlInput q.val o fun aad m =>
        let (c, tag) := if bit o.flags 2 then gcmEnc key nonce aad m else ccmEnc key nonce aad m o.micLen
        h.brlWrite q.val o (c ++ tag)

/-- AEAD_DEC (R334): plaintext only with a verified tag, which follows the ciphertext. -/
def execAeadDec (q : Fin 16) (s : State) : Host.Outcome State Fault Refusal :=
  run s fun h => h.brlRow q.val 2 fun h o =>
    let tl := if bit o.flags 2 then 16 else o.micLen
    if ¬o.nonceOk ∨ o.length < tl then h.brlEnd q.val o brlBadDesc 0
    else h.brlUse q.val o 1 fun h o key =>
      h.brlRead q.val o o.aux o.auxLen fun nonce => h.brlInput q.val o fun aad m =>
        let c := m.take (o.length - tl)
        let tag := m.drop (o.length - tl)
        match if bit o.flags 2 then gcmDec key nonce aad c tag else ccmDec key nonce aad c tag with
        | some p => h.brlWrite q.val o p
        | none => h.brlEnd q.val o brlAuth 0

/-- HASH (R334): no slot. -/
def execHash (q : Fin 16) (s : State) : Host.Outcome State Fault Refusal :=
  run s fun h => h.brlRow q.val 3 fun h o =>
    h.brlRead q.val o o.src o.length fun m => h.brlWrite q.val o (if bit o.flags 3 then sha384 m else sha256 m)

/-- HMAC (R334). -/
def execHmac (q : Fin 16) (s : State) : Host.Outcome State Fault Refusal :=
  run s fun h => h.brlRow q.val 4 fun h o => h.brlUse q.val o 2 fun h o key =>
    h.brlRead q.val o o.src o.length fun m => h.brlWrite q.val o (hmac key m)

/-- Sign a digest with a private key; the per-signature secret is a free value (log entry 60). -/
def Hw.brlSign (h : Hw) (q : Nat) (o : BrlOp) (d : Nat) : Hw :=
  h.brlRead q o o.src 32 fun digest =>
    let k := privOf (h.freeOctets 32)
    (h.useFree 32).brlWrite q o (ecdsaSign d k digest)

/-- SIGN (R334): a slot of class sign, or the identity signing key as slot 0xFF. -/
def execSign (q : Fin 16) (s : State) : Host.Outcome State Fault Refusal :=
  run s fun h => h.brlRow q.val 5 fun h o =>
    if o.slot = 0xFF then
      if h.brl.root.isEmpty then h.brlEnd q.val o brlEmpty 0 else h.brlSign q.val o (privOf (h.rootKey "id-sign" 32))
    else h.brlUse q.val o 3 fun h o key => h.brlSign q.val o (beNat key)

/-- VERIFY (R334): a digest at src, a signature at aux. -/
def execVerify (q : Fin 16) (s : State) : Host.Outcome State Fault Refusal :=
  run s fun h => h.brlRow q.val 6 fun h o => h.brlUse q.val o 4 fun h o key =>
    h.brlRead q.val o o.aux 64 fun sig => h.brlRead q.val o o.src 32 fun digest =>
      h.brlEnd q.val o (if ecdsaVerify (readPoint key) digest sig then brlOk else brlAuth) 0

/-- Write a derived key into its destination slot, which is volatile and takes the class of its definition. -/
def Hw.brlDerived (h : Hw) (q : Nat) (o : BrlOp) (key : List Byte) : Hw :=
  ((h.setSlot o.dstSlot (newSlot key 0 false)).deliverKeys).brlEnd q o brlOk 0

/-- Whether a derivation may write its destination. -/
def Hw.dstOk (h : Hw) (o : BrlOp) : Bool := h.slotVolatile o.dstSlot && decide (h.slotClass o.dstSlot ≠ 0)

/-- DERIVE (R334). -/
def execDerive (q : Fin 16) (s : State) : Host.Outcome State Fault Refusal :=
  run s fun h => h.brlRow q.val 7 fun h o =>
    if ¬h.dstOk o then h.brlEnd q.val o brlNotPermitted 0
    else h.brlUse q.val o 6 fun h o key => h.brlRead q.val o o.aux o.auxLen fun info =>
      h.brlDerived q.val o (hkdf zeroSalt key info (h.slotLen o.dstSlot))

/-- AGREE (R334): the public key at aux, the info at dst. A public key that is no point of the curve ends as a bad message (log entry 59). -/
def execAgree (q : Fin 16) (s : State) : Host.Outcome State Fault Refusal :=
  run s fun h => h.brlRow q.val 8 fun h o =>
    if ¬h.dstOk o then h.brlEnd q.val o brlNotPermitted 0
    else h.brlUse q.val o 5 fun h o key => h.brlRead q.val o o.aux 64 fun pub => h.brlRead q.val o o.dst o.length fun info =>
      match ecdh (beNat key) (readPoint pub) with
      | some z => h.brlDerived q.val o (hkdf zeroSalt z info (h.slotLen o.dstSlot))
      | none => h.brlEnd q.val o brlBadMessage 0

/-- RANDOM (R334): free values. -/
def execRandom (q : Fin 16) (s : State) : Host.Outcome State Fault Refusal :=
  run s fun h => h.brlRow q.val 9 fun h o =>
    let bs := h.freeOctets o.length
    (h.useFree o.length).brlWrite q.val o bs

/-! ### Key-update messages (R331) -/

/-- Draw a challenge for a staged slot, and say that it awaits a proof (R332). -/
def Hw.stageChallenge (h : Hw) (s : Nat) : Hw :=
  let bs := h.freeOctets 16
  ((h.useFree 16).setWords (BRL_STG_CHAL s 0) (bytesToWords bs)).raise BRL_IRQ_STAT BRL_IRQ_STAT.stage_ready s

/-- Version, op, slot, key length and reserved octets of a message. -/
def kuForm (b : List Byte) : Bool :=
  decide (b.length = 252) && decide (fieldAt b 0 1 = 1) && decide (1 ≤ fieldAt b 1 1 ∧ fieldAt b 1 1 ≤ 4) && decide (fieldAt b 2 1 < 64) &&
    decide (fieldAt b 28 1 < 2) && zeroAt b 30 2 && (memb (fieldAt b 29 1) [16, 32, 64] || decide (fieldAt b 1 1 = 2 ∨ fieldAt b 1 1 = 4))

/-- Class and slot policy of a message: the status where it fails (R327–R332). -/
def Hw.kuPolicy (h : Hw) (b : List Byte) : Nat :=
  let op := fieldAt b 1 1
  let s := fieldAt b 2 1
  let cls := fieldAt b 3 1
  if cls = 0 ∨ h.slotClass s ≠ cls then brlClass
  else if (op = 1 ∨ op = 3) ∧ (fieldAt b 29 1 ≠ h.slotLen s ∨ h.slotVolatile s) then brlNotPermitted
  else if op = 1 ∧ s < 3 ∧ ¬(h.brlState = brlOpen ∧ ¬h.slotValid s) then brlNotPermitted
  else if op = 2 ∧ s < 3 then brlNotPermitted
  else if op = 3 ∧ 3 ≤ s then brlNotPermitted
  else if cls = 7 ∧ op ≠ 2 ∧ fieldAt b 24 4 ≠ 0 then brlNotPermitted
  else if op = 4 ∧ ¬h.slotValid s then brlEmpty
  else brlOk

/-- The key material of a message, where its tag verifies. -/
def Hw.kuUnwrap (h : Hw) (b : List Byte) : Option (List Byte) :=
  match ecdh (privOf (h.rootKey "id-agree" 32)) (readPoint ((b.drop 32).take 64)) with
  | none => none
  | some z =>
    let wrap := hkdf h.identity z (labelBytes "key-wrap") 32
    gcmDec wrap ((b.drop 96).take 12) (b.take 108) ((b.drop 108).take 64) ((b.drop 172).take 16)

/-- A message's signature under slot 3, once provisioning is closed; none is needed while open (R329). -/
def Hw.kuSigned (h : Hw) (b : List Byte) : Bool :=
  decide (h.brlState = brlOpen) || ecdsaVerify (readPoint (h.slotKey 3 4)) (sha256 (b.take 188)) (b.drop 188)

/-- The status of a message before the unwrapping: the first failing check in the order of R331. -/
def Hw.kuCheck (h : Hw) (b : List Byte) : Nat :=
  if ¬kuForm b then brlBadMessage
  else if (b.drop 8).take 16 ≠ h.identity then brlIdentity
  else if fieldAt b 4 4 ≤ (h.reg BRL_KU_CTR).toNat then brlOldCounter
  else if ¬h.kuSigned b then brlAuth
  else h.kuPolicy b

/-- What a message does to its slot once every check has passed. -/
def Hw.kuApply (h : Hw) (b key : List Byte) : Hw :=
  let s := fieldAt b 2 1
  let uses := fieldAt b 24 4
  let k := key.take (fieldAt b 29 1)
  let expire := bit (fieldAt b 28 1) 0
  match fieldAt b 1 1 with
  | 1 => h.setSlot s (newSlot k uses expire)
  | 2 => h.setSlot s default
  | 3 => (h.setShadow s (some ⟨k, uses, expire, h.now, 0, none⟩)).stageChallenge s
  | _ => h.setSlot s (newSlot (h.keySlot s).key uses (h.keySlot s).expire)

/-- KEY_UPDATE (R331, R336): slot, counter and store in one step; while the update engine writes IMG the store write waits. -/
def execKeyUpdate (q : Fin 16) (s : State) : Host.Outcome State Fault Refusal :=
  run s fun h => h.brlRow q.val 0xA fun h o => h.brlRead q.val o o.src o.length fun b =>
    let st := if h.brlRuns then h.kuCheck b else brlStLocked
    if st ≠ brlOk then h.brlEnd q.val o st 0
    else match h.kuUnwrap b with
      | none => h.brlEnd q.val o brlAuth 0
      | some key =>
        if h.upd.writing then h.setOp q.val (some { o with state := 3 })
        else
          let h := (h.kuApply b key).setReg BRL_KU_CTR (BitVec.ofNat 32 (fieldAt b 4 4))
          h.storeWrite.deliverKeys.brlEnd q.val o brlOk 0

/-! ### Atomic replacement (R332, R333) -/

/-- The proof of a staged slot: a signature by the new private key for slot 0, an HMAC under the new key for slots 1 and 2. -/
def Hw.proofOk (h : Hw) (s : Nat) (x : Shadow) (proof : List Byte) : Bool :=
  let m := ((List.range 4).flatMap fun w => leBytes 4 (h.reg (BRL_STG_CHAL s w)).toNat) ++ h.identity
  if s = 0 then ecdsaVerify (readPoint x.key) (sha256 m) proof else decide (proof = hmac x.key m)

/-- The site time in ns of a swap second given by its low 32 bits; one already past acts at the next whole second. -/
def Hw.swapTime (h : Hw) (lowSec : Nat) : Nat :=
  let s := h.cal.sec / 2 ^ 32 * 2 ^ 32 + lowSec
  if s * 1000000000 > h.now then s * 1000000000 else (h.cal.sec + 1) * 1000000000

/-- A swap takes effect: the staged key replaces the old one in the slot and the port copies (R333). -/
def Hw.swapNow (h : Hw) (s : Nat) (x : Shadow) : Hw :=
  let old := h.ports
  let h := ((h.setSlot s (newSlot x.key x.uses x.expire)).setShadow s none).deliverKeys
  let h := if s = 1 then
      let h := { h with ports := { h.ports with stopOld := old.stop } }
      (List.range 8).foldl (fun h n => h.setReg (STP_LANE_CTR n) 0) h
    else if s = 2 then { h with ports := { h.ports with linkOld := old.link } } else h
  let h := h.storeWrite.event (srcOf 0x17 0) 0x0011 (BitVec.ofNat 32 s) 0 0
  h.raise BRL_IRQ_STAT BRL_IRQ_STAT.swapped s

/-- SWAP (R332): a correct proof records the swap; for slot 0 it takes effect at once. A wrong one draws a new challenge, and the third discards
the shadow. -/
def execSwap (q : Fin 16) (s : State) : Host.Outcome State Fault Refusal :=
  run s fun h => h.brlRow q.val 0xB fun h o => h.brlRead q.val o o.aux o.auxLen fun proof =>
    if 3 ≤ o.slot then h.brlEnd q.val o brlNotPermitted 0
    else match h.shadow o.slot with
      | none => h.brlEnd q.val o brlEmpty 0
      | some x =>
        if x.swapAt.isSome then h.brlEnd q.val o brlNotPermitted 0
        else if h.proofOk o.slot x proof then
          if h.upd.writing then h.setOp q.val (some { o with state := 3 })
          else
            let t := if o.slot = 0 then h.now else h.swapTime o.swapS
            let h := (h.setShadow o.slot (some { x with swapAt := some t })).storeWrite
            let h := if o.slot = 0 then h.swapNow 0 x else h
            h.brlEnd q.val o brlOk 0
        else
          let h := if x.fails + 1 ≥ 3 then (h.setShadow o.slot none).storeWrite
            else (h.setShadow o.slot (some { x with fails := x.fails + 1 })).stageChallenge o.slot
          h.brlEnd q.val o brlAuth 0

/-- SWAP_TAKE_EFFECT (R333). -/
def execSwapTakeEffect (slot : Fin 3) (s : State) : Host.Outcome State Fault Refusal :=
  run s fun h =>
    match h.shadow slot.val with
    | some x => if x.swapAt.isSome then h.swapNow slot.val x else h
    | none => h

/-- OLD_KEY_EXPIRY (R333): the key before the swap is accepted no longer. -/
def execOldKeyExpiry (slot : Fin 3) (s : State) : Host.Outcome State Fault Refusal :=
  run s fun h =>
    if slot.val = 1 then { h with ports := { h.ports with stopOld := [] } }
    else if slot.val = 2 then { h with ports := { h.ports with linkOld := [] } }
    else h

/-- SHADOW_EXPIRY (R332, R336): a shadow not swapped in time is discarded, once the operations on its slot have completed. -/
def execShadowExpiry (slot : Fin 3) (s : State) : Host.Outcome State Fault Refusal :=
  run s fun h =>
    match h.shadow slot.val with
    | some x =>
      if x.swapAt.isSome ∨ (h.brlOps.any fun p => decide (h.opSlot p.2 = slot.val)) then h else (h.setShadow slot.val none).storeWrite
    | none => h

/-- STORE_WAIT_TIMEOUT (R336): a store write that has waited 2 s ends busy. -/
def execStoreWaitTimeout (q : Fin 16) (s : State) : Host.Outcome State Fault Refusal :=
  run s fun h =>
    match h.brlOp q.val with
    | some o => if o.state = 3 then h.brlEnd q.val o brlBusyStore 0 else h
    | none => h

/-! ### Provisioning (R329) -/

/-- A write of BRL_PROV. -/
def Hw.provWritten (h : Hw) (v : Word) : Hw :=
  if BRL_PROV.key.get v ≠ 0xC105 ∨ BRL_PROV.close.get v = 0 ∨ h.brlState ≠ brlOpen then h
  else if [0, 1, 2, 3].all h.slotValid then
    (h.updBrl fun b => { b with closed := true }).setF BRL_STAT BRL_STAT.state brlClosed
  else h.brlRefused.raise BRL_IRQ_STAT BRL_IRQ_STAT.close_refused 0

/-- PROVISIONING_CLOSE (R329). -/
def execProvisioningClose (via : BusAcc) (value : Word) (s : State) : Host.Outcome State Fault Refusal :=
  run s fun h => h.regWrite via BRL_PROV value fun _ h => h.provWritten value

/-- A write of BRL_ESTATE, given the words before it: once, while open; else it is ignored and counted. -/
def Hw.estateWritten (h : Hw) (lo hi : Word) : Hw :=
  if h.brlState = brlOpen ∧ ¬h.brl.estateSet then h.updBrl fun b => { b with estateSet := true }
  else ((h.setReg BRL_ESTATE_LO lo).setReg BRL_ESTATE_HI hi).brlRefused

/-- ESTATE_WRITE (R329). -/
def execEstateWrite (via : BusAcc) (high : Word) (s : State) : Host.Outcome State Fault Refusal :=
  run s fun h =>
    let lo := h.reg BRL_ESTATE_LO
    let hi := h.reg BRL_ESTATE_HI
    h.regWrite via BRL_ESTATE_HI high fun _ h => h.estateWritten lo hi

/-! ### Debug (R338) -/

/-- A write of BRL_CTRL: a fresh challenge, unless three answers have failed. -/
def Hw.brlCtrl (h : Hw) (v : Word) : Hw :=
  if BRL_CTRL.debug_chal.get v = 0 ∨ h.brl.debugFails ≥ 3 then h
  else
    let bs := h.freeOctets 16
    ((h.useFree 16).setWords (BRL_CHAL 0) (bytesToWords bs)).updBrl fun b => { b with challenged := true }

/-- DEBUG_CHALLENGE (R338). -/
def execDebugChallenge (via : BusAcc) (s : State) : Host.Outcome State Fault Refusal :=
  run s fun h => h.regWrite via BRL_CTRL (BitVec.ofNat 32 (2 ^ 31)) fun _ h => h.brlCtrl (BitVec.ofNat 32 (2 ^ 31))

/-- A word of a debug answer is held. -/
def Hw.holdAnswer (h : Hw) (w : Nat) (v : Word) : Hw := h.updBrl fun b => { b with answer := b.answer.set w v }

/-- The last word of a debug answer submits it: it unlocks debug where it verifies under the debug slot. -/
def Hw.debugAnswer (h : Hw) (v : Word) : Hw :=
  let h := h.holdAnswer 15 v
  let sig := (List.range 16).flatMap fun w => leBytes 4 (h.brl.answer.at w).toNat
  let chal := (List.range 4).flatMap fun w => leBytes 4 (h.reg (BRL_CHAL w)).toNat
  let key := h.slotKey (h.f BRL_CFG BRL_CFG.debug_slot) 4
  if h.brl.challenged && !key.isEmpty && ecdsaVerify (readPoint key) (sha256 (chal ++ h.identity)) sig then
    h.updBrl fun b => { b with unlocked := true }
  else h.brlAuthFail.updBrl fun b => { b with debugFails := b.debugFails + 1 }

/-- DEBUG_ANSWER (R338). -/
def execDebugAnswer (via : BusAcc) (value : Word) (s : State) : Host.Outcome State Fault Refusal :=
  run s fun h => h.regWrite via (BRL_DBG_ANS 15) value fun _ h => h.debugAnswer value

/-! ### Aborts, erasure, registers -/

/-- Abort an operation that stands parked: by software, or by the park timeout (R86, R336). -/
def Hw.brlAbort (h : Hw) (q : Nat) (byTimeout : Bool) : Hw :=
  match h.brlOp q with
  | some o => h.brlEnd q o (if byTimeout then brlParkTimeout else brlAborted) 0
  | none => h.unitNormal (brlUnit q)

/-- Every operation in flight ends with status tamper (R341). -/
def Hw.brlTamperOps (h : Hw) : Hw := h.brlOps.foldl (fun h p => h.brlEnd p.1 p.2 brlTamper 0) h

/-- Key RAM and port copies are erased, and Burl is locked; the stop-authentication copies of STP stay where `keepStop` says so (R341). -/
def Hw.brlLock (h : Hw) (reason : Nat) (keepStop : Bool) : Hw :=
  let p := h.ports
  let h := (h.updBrl fun b => { b with slots := [], shadows := [], root := [] }).setF BRL_STAT BRL_STAT.state brlLocked
  let h := [0, 1, 2].foldl (fun h s => h.setWords (BRL_STG_CHAL s 0) [0, 0, 0, 0]) h
  let ports : KeyPorts := if keepStop then { (default : KeyPorts) with stop := p.stop, stopOld := p.stopOld } else default
  ({ h with ports := ports }).setF BRL_STAT BRL_STAT.lock_reason reason

/-- The live word of a Burl register, for a reading master. -/
def Hw.viewBrl (h : Hw) (m k : Nat) : Word :=
  if k = BRL_STAT then
    BRL_STAT.in_flight.set (BRL_STAT.valid.set (h.reg k) (min 63 ((List.range 64).filter h.slotValid).length)) h.brlOps.length
  else if k = BRL_SUBMIT_RES then h.brl.results.at m
  else if BRL_OP_STAT 0 ≤ k ∧ k < BRL_OP_STAT 16 then
    match h.brlOp ((k - BRL_OP_STAT 0) / 4) with
    | none => 0
    | some o =>
      let st := if h.isParked (brlUnit ((k - BRL_OP_STAT 0) / 4)) then 4 else if o.state = 4 then 1 else o.state
      BRL_OP_STAT.state.set (BRL_OP_STAT.op.set (BRL_OP_STAT.slot.set (BRL_OP_STAT.op_id.set 0 o.opId) o.slot) o.op) st
  else if BRL_SLOT_DEF 0 ≤ k ∧ k < BRL_SLOT_DEF 64 then
    let n := (k - BRL_SLOT_DEF 0) / 16
    let x := h.keySlot n
    match k % 16 with
    | 4 =>
      let sh := h.shadow n
      BitVec.ofNat 32 ((h.slotValid n).toNat * 2 ^ 31 + sh.isSome.toNat * 2 ^ 30 + (sh.any fun y => y.swapAt.isSome).toNat * 2 ^ 29 +
        x.expire.toNat * 2 ^ 28 + (sh.map Shadow.fails).getD 0 * 2 ^ 24)
    | 8 => BitVec.ofNat 32 x.uses
    | _ => h.reg k
  else h.reg k

end Sys2Proof.Machine
end

