-- ==== Sys2Proof/Machine/Radio.lean ====
section
/-! DEFINITION. The fleet radio RAD: superframes, sending, receiving, flooding, the indirect store and rendezvous
(spec/09_fleet_radio.md, R227–R258). -/

namespace Sys2Proof.Machine

open Reg

/-! ### Lanes -/

/-- Frame classes (TxFrame.kind). -/
def kLaneInfo : Nat := 0
def kTrack : Nat := 1
def kEcho : Nat := 2
def kRtcm : Nat := 3
def kData : Nat := 4
def kSite : Nat := 5
def kRelay : Nat := 6
def kIndirect : Nat := 7
def kRendezvous : Nat := 8
def kBeacon : Nat := 9

/-- The source numbers of a lane and of RAD's common events (R362). -/
def laneSource (n : Nat) : Nat := 0x1100 + n
def radSource : Nat := 0x1108

/-- Frames in flight in a lane's eight buffers (R28, R247). The beacon has its own. -/
def LaneSt.inFlight (l : LaneSt) : Nat :=
  (l.frames.filter fun f => decide (f.kind ≠ kBeacon)).length +
    (match l.onAir with
     | some a => if (a.frame.any fun f => decide (f.kind ≠ kBeacon)) then 1 else 0
     | none => 0)

/-- A lane has a buffer free. -/
def Hw.laneRoom (h : Hw) (n : Nat) : Bool := decide ((h.lane n).inFlight < 8)

/-- A frame count wraps, with its wrap flag and wraps count (R376). -/
def Hw.countWrap (h : Hw) (k : Nat) : Hw :=
  let w := h.reg k
  let n := RAD_LANE_TXCNT.frames.get w + 1
  if n < 2 ^ 28 then h.setReg k (RAD_LANE_TXCNT.frames.set w n)
  else h.setReg k (RAD_LANE_TXCNT.wrap.set (RAD_LANE_TXCNT.wraps.set (RAD_LANE_TXCNT.frames.set w 0)
    (min 7 (RAD_LANE_TXCNT.wraps.get w + 1))) 1)

/-- A packet of a lane is skipped and counted in bad_tx. -/
def Hw.badTx (h : Hw) (n : Nat) : Hw := h.bump (RAD_LANE_DROP n) RAD_LANE_DROP.bad_tx RAD_LANE_DROP.bad_sat

/-- A token-gated frame is dropped before its transmission (R248). -/
def Hw.tokDropped (h : Hw) (n : Nat) : Hw := h.bump (RAD_LANE_DROP n) RAD_LANE_DROP.tok_dropped RAD_LANE_DROP.dropped_sat

/-- Put a frame in a lane's buffers. -/
def Hw.addFrame (h : Hw) (n : Nat) (f : TxFrame) : Hw := h.updLane n fun l => { l with frames := l.frames ++ [f] }

/-- A token is none or valid in the Field domain's table (R180, R248). -/
def Hw.tokenOpen (h : Hw) (t : Nat) : Bool := decide (t = 0) || h.tokenValid t

/-! ### Securing a frame (R232–R236) -/

/-- The octets a frame has on the air with its FCS: MHR, security header, IE, termination, payload, MIC, FCS (R232, R235). -/
def TxFrame.octets (f : TxFrame) : Nat :=
  (if f.ftype = ftBeacon then 7 else 9) + 6 + 9 + (if f.token = 0 then 0 else 4) + (if f.flood.isSome then 5 else 0) +
    (if f.payload.isEmpty then 0 else 2) + f.payload.length + 8

/-- A sending counter advances; at 0xFFF0_0000 key_low is raised (R234). -/
def Hw.advanceCtr (h : Hw) (n k : Nat) : Hw :=
  let c := (h.reg k).toNat + 1
  let h := h.setReg k (BitVec.ofNat 32 c)
  if c = 0xFFF00000 then h.raiseFrom (laneSource n) RAD_IRQ_STAT RAD_IRQ_STAT.key_low n else h

/-- The register of the counter that a frame uses: the lane's for the group key, else the neighbour's. -/
def ctrReg (n : Nat) (f : TxFrame) : Nat := if keyOfType f.ftype = keyGroup then RAD_LANE_BCTR n else RAD_NB_TXCTR (f.nb.getD 0)

/-- A frame gets its sequence number, counter and security at its first transmission; `none` where no key has been delivered. -/
def Hw.secureTx (h : Hw) (n : Nat) (f : TxFrame) : Option (TxFrame × Hw) :=
  let index := keyOfType f.ftype
  match h.airKey index f.nb with
  | none => none
  | some key =>
    let k := ctrReg n f
    let ctr := (h.reg k).toNat
    let seq := if index = keyGroup then (h.lane n).bseq else h.f (RAD_NB_SEQ (f.nb.getD 0)) RAD_NB_SEQ.tx_next
    let header := mhrBytes (if f.ftype = ftBeacon then macBeacon else macData) seq (h.f RAD_ID RAD_ID.pan_id) f.dst h.baseAddr f.pend f.ar ++
      auxBytes (levelOfType f.ftype) ctr index ++
      flizenIe (h.f RAD_OUI RAD_OUI.oui) f.ftype f.robot h.epochField f.token none f.flood (!f.payload.isEmpty)
    let psdu := secureFrame key (h.laneEui n) ctr (levelOfType f.ftype) header f.payload
    let h := h.advanceCtr n k
    let h := if index = keyGroup then h.updLane n fun l => { l with bseq := (l.bseq + 1) % 256 }
      else h.setF (RAD_NB_SEQ (f.nb.getD 0)) RAD_NB_SEQ.tx_next ((seq + 1) % 256)
    some ({ f with psdu := psdu, seq := seq }, h)

/-! ### Sending (R230, R240, R247–R249) -/

/-- A class that uses the downlink region only, and one that assesses the channel first (R240). -/
def isDownKind (k : Nat) : Bool := decide (k ≤ kData)
def isCcaKind (k : Nat) : Bool := decide (5 ≤ k ∧ k ≤ kRendezvous)

/-- Whether a frame may start on a lane now (R238, R240). -/
def Hw.mayStart (h : Hw) (n : Nat) (f : TxFrame) : Bool :=
  if f.kind = kBeacon then
    let last := h.rad.tsf + (h.markCells n + h.f (RAD_LANE_SF n) RAD_LANE_SF.beacon_cells) * cellNs
    decide (h.now + h.airNs n f.octets ≤ last)
  else h.fits n h.now f.octets (isDownKind f.kind)

/-- The frame a lane would start now: in order, the downlink frames not overtaking one another (R247). -/
def pickTx (now : Nat) (ok : TxFrame → Bool) : Bool → List TxFrame → Option TxFrame
  | _, [] => none
  | behind, f :: fs =>
    if f.waitAck.isSome ∨ f.notBefore > now then pickTx now ok behind fs
    else if isDownKind f.kind then
      if behind then pickTx now ok true fs else if ok f then some f else pickTx now ok true fs
    else if ok f then some f else pickTx now ok behind fs

/-- Remove one frame from a lane's buffers. -/
def Hw.takeFrame (h : Hw) (n : Nat) (f : TxFrame) : Hw :=
  h.updLane n fun l => { l with frames := dropOne (fun x => decide (x = f)) l.frames }

/-- A lane starts a frame: the token gate, the counter's end, security, TX_LOAD and TX_GO or TX_CCA (R230, R234, R248). -/
def Hw.startFrame (h : Hw) (n : Nat) (f : TxFrame) : Hw :=
  if ¬h.tokenOpen f.token then (h.takeFrame n f).tokDropped n
  else if f.psdu.isEmpty ∧ h.reg (ctrReg n f) = 0xFFFFFFFF then (h.takeFrame n f).badTx n
  else
    match (if f.psdu.isEmpty then h.secureTx n f else some (f, h)) with
    | none => h
    | some (g, h) =>
      let cca := isCcaKind g.kind
      let h := (h.takeFrame n f).updLane n fun l => { l with onAir := some ⟨false, false, cca, g.token, some g, h.now, g.psdu.length + 4⟩ }
      (h.laneCmd n cmdTxLoad g.psdu).laneCmd n (if cca then cmdTxCca else cmdTxGo) []

/-- The time before a permit-mark cell in which RAD issues no command on a lane (R230). -/
def Hw.quiet (h : Hw) (n : Nat) : Bool :=
  h.rad.started && decide (10000000 - (h.now - h.rad.tsf) % 10000000 ≤ h.f (RAD_LANE_TIME n) RAD_LANE_TIME.tx_lat * 20 + 20000)

/-- A lane may be commanded by RAD to send: it sends, the gate is open, nothing is on the air (R257, R265). -/
def Hw.laneFree (h : Hw) (n : Nat) : Bool :=
  h.radSends && h.laneUp n && !(h.lane n).shut && (h.lane n).onAir.isNone && !h.quiet n

/-- FRAME_TRANSMIT, the start. -/
def Hw.txGo (h : Hw) (n : Nat) : Hw :=
  if ¬h.laneFree n then h
  else match pickTx h.now (h.mayStart n) false (h.lane n).frames with
    | some f => h.startFrame n f
    | none => h

/-- A frame that is not acknowledged or could not be sent is repeated while retries remain, else given up (R231, R249). -/
def Hw.repeatOrEnd (h : Hw) (n : Nat) (f : TxFrame) : Hw :=
  if f.retries > 0 then h.addFrame n { f with retries := f.retries - 1, waitAck := none, notBefore := h.now }
  else match f.nb with
    | some i => h.bump (RAD_NB_CNT i) RAD_NB_CNT.retries RAD_NB_CNT.retry_sat
    | none => h

/-- The site time of a frame that waits for a back-off to end. -/
def backOff : Nat := 2 ^ 80

/-- A busy channel: the frame waits for CCA_RETRY, up to 4 times, and then for the next open cell (R240). -/
def Hw.channelBusy (h : Hw) (n : Nat) (f : TxFrame) : Hw :=
  let h := h.bump (RAD_LANE_ERR n) RAD_LANE_ERR.cca_busy RAD_LANE_ERR.cca_sat
  if f.busy < 4 then h.addFrame n { f with busy := f.busy + 1, notBefore := backOff }
  else h.addFrame n { f with busy := 0, notBefore := h.rad.tsf + (h.cellOf h.now + 1) * cellNs }

/-- The edges and status of a transmission are those of success (R230): TS rises within shr_us + 5 µs of the scheduled start, and falls within
20 µs of the end that length and rate give. -/
def Hw.txOk (h : Hw) (n : Nat) (a : OnAir) (rise fall : Option Int) (fail : Bool) : Bool :=
  match rise, fall with
  | some r, some f =>
    let air : Int := ((a.octets * 8000000 / h.rate n : Nat) : Int)
    !fail && decide (0 ≤ r ∧ r ≤ ((h.f (RAD_LANE_TIME n) RAD_LANE_TIME.shr_us + 5) * 1000 : Nat) ∧ (f - r - air).natAbs ≤ 20000)
  | _, _ => false

/-- A transient fault of a lane whose kind number is free (R231). -/
def Hw.laneFaultOpen (h : Hw) (n : Nat) (permanent : Bool) : Hw := (h.useFree 1).laneFault n (Config.freeWord h.freeCtr) permanent

/-- What becomes of a frame after a failure: one sent at a fixed time is lost (R231). -/
def Hw.frameEnd (h : Hw) (n : Nat) (a : OnAir) : Hw :=
  match a.frame with
  | some f => if f.kind = kBeacon ∨ ¬h.laneUp n then h else h.repeatOrEnd n f
  | none => h

/-- A transient fault during a transmission. -/
def Hw.txFault (h : Hw) (n : Nat) (a : OnAir) (cnt sat : Fld) : Hw :=
  ((((h.emit (.lanePin n "ABORT")).bump (RAD_LANE_ERR n) cnt sat).laneFaultOpen n false).frameEnd n a)

/-- FRAME_TRANSMIT, the end: edges and status of the frame on the air (R230, R231, R240). -/
def Hw.txDone (h : Hw) (n : Nat) (rise fall : Option Int) (status : Nat) : Hw :=
  match (h.lane n).onAir with
  | none => h
  | some a =>
    let h := h.updLane n fun l => { l with onAir := none, shut := if a.stp then false else l.shut }
    if status = 0xFFFF then h.txFault n a RAD_LANE_ERR.if_err RAD_LANE_ERR.if_sat
    else if bit status 4 then (h.laneFaultOpen n true).frameEnd n a
    else if a.cca && bit status 2 && bit status 8 then
      match a.frame with
      | some f => h.channelBusy n f
      | none => h
    else if h.txOk n a rise fall (bit status 2) then
      let h := (h.setF (RAD_LANE_STAT n) RAD_LANE_STAT.consec 0).countWrap (RAD_LANE_TXCNT n)
      match a.frame with
      | some f => if f.ar then h.addFrame n { f with waitAck := some h.now } else h
      | none => h
    else h.txFault n a RAD_LANE_ERR.tx_fail RAD_LANE_ERR.tx_sat

/-- FRAME_TRANSMIT (R230): a frame is loaded and sent, or its end is reported. -/
def execFrameTransmit (lane : Fin 8) (step : TxStep) (s : State) : Host.Outcome State Fault Refusal :=
  run s fun h => match step with
    | .go => h.txGo lane.val
    | .done rise fall status => h.txDone lane.val rise fall status.toNat

/-- ACK_TIMEOUT (R249): no valid ACK came within ack_wait. -/
def execAckTimeout (lane : Fin 8) (s : State) : Host.Outcome State Fault Refusal :=
  run s fun h => match (h.lane lane.val).frames.find? fun f => f.waitAck.isSome with
    | some f => (h.takeFrame lane.val f).repeatOrEnd lane.val f
    | none => h

/-- CCA_RETRY (R240): the back-off of the lane's frame ends, and it is tried again. -/
def execCcaRetry (lane : Fin 8) (s : State) : Host.Outcome State Fault Refusal :=
  run s fun h => match (h.lane lane.val).frames.find? fun f => decide (f.notBefore = backOff) with
    | some f =>
      let f' := { f with notBefore := h.now }
      let h := (h.takeFrame lane.val f).addFrame lane.val f'
      if h.laneFree lane.val && h.mayStart lane.val f' then h.startFrame lane.val f' else h
    | none => h

/-! ### Commands of the transceiver (R228) -/

/-- RAD may issue a command on a lane now (R230). -/
def Hw.cmdOpen (h : Hw) (n : Nat) : Bool :=
  h.laneUp n && !(h.lane n).shut && !h.quiet n && !((h.lane n).onAir.any fun a => a.mark)

/-- RX_ON (R228). -/
def execRxOn (lane : Fin 8) (s : State) : Host.Outcome State Fault Refusal :=
  run s fun h => if h.cmdOpen lane.val then
    (h.updLane lane.val fun l => { l with rxOn := true }).laneCmd lane.val cmdRxOn [] else h

/-- IDLE (R228). -/
def execIdle (lane : Fin 8) (s : State) : Host.Outcome State Fault Refusal :=
  run s fun h => if h.cmdOpen lane.val then
    (h.updLane lane.val fun l => { l with rxOn := false }).laneCmd lane.val cmdIdle [] else h

/-- REG_WRITE (R228): a register address and data for the transceiver. -/
def execRegWrite (lane : Fin 8) (addr : BitVec 16) (data : List Byte) (s : State) : Host.Outcome State Fault Refusal :=
  run s fun h => if h.cmdOpen lane.val then h.laneCmd lane.val cmdRegWrite (leBytes 2 addr.toNat ++ data) else h

/-- REG_READ (R228): a register address and a count; the transceiver returns `data`. -/
def execRegRead (lane : Fin 8) (addr : BitVec 16) (count : Byte) (data : List Byte) (s : State) : Host.Outcome State Fault Refusal :=
  run s fun h => if h.cmdOpen lane.val then
    (h.laneCmd lane.val cmdRegRead (leBytes 2 addr.toNat ++ leBytes 1 count.toNat)).answer (.octets (data.take count.toNat)) else h

/-- LANE_IRQ (R227–R231): the lane reads the status, and a received frame where one waits: its PSDU without FCS, RSSI, LQI, and the ns since
LN*n*_TS fell. -/
def Hw.laneIrq (h : Hw) (n status : Nat) (psdu : List Byte) (rssi lqi : Byte) (age : Nat) : Hw :=
  if ¬h.laneUp n then h
  else
    let h := h.laneCmd n cmdStatus []
    if status = 0xFFFF then (h.bump (RAD_LANE_ERR n) RAD_LANE_ERR.if_err RAD_LANE_ERR.if_sat).laneFaultOpen n false
    else if bit status 4 then h.laneFaultOpen n true
    else
      let h := if bit status 0 then h.laneCmd n cmdRxRead [] else h
      if bit status 0 && !psdu.isEmpty then
        h.updLane n fun l => { l with idleReads := 0, rx := l.rx ++ [⟨psdu, rssi.toNat, lqi.toNat, h.now - age⟩] }
      else if bit status 1 || bit status 2 then h.updLane n fun l => { l with idleReads := 0 }
      else if (h.lane n).idleReads ≥ 1 then
        ((h.updLane n fun l => { l with idleReads := 0 }).bump (RAD_LANE_ERR n) RAD_LANE_ERR.if_err RAD_LANE_ERR.if_sat).laneFaultOpen n false
      else h.updLane n fun l => { l with idleReads := l.idleReads + 1 }

/-- LANE_IRQ. -/
def execLaneIrq (lane : Fin 8) (status : BitVec 16) (psdu : List Byte) (rssi lqi : Byte) (age : Nat) (s : State) :
    Host.Outcome State Fault Refusal :=
  run s fun h => h.laneIrq lane.val status.toNat psdu rssi lqi age

/-! ### The superframe (R237, R239, R241, R243) -/

/-- The nearest multiple of 50 ms. -/
def near50 (t : Nat) : Nat := (t + 25000000) / 50000000 * 50000000

/-- The instant of the superframe grid nearest to a site time: of GPS time with a time solution, else of site time (R237). -/
def Hw.gridNear (h : Hw) (t : Nat) : Nat :=
  if h.gpsKnown then ((near50 (h.gpsOf t) : Int) + toInt 31 (h.f GNS_TIME_OFS GNS_TIME_OFS.offset)).toNat else near50 t

/-- The superframe start that now begins: 50 ms after the last, moved by at most 10 µs towards the grid (R237). -/
def Hw.nextTsf (h : Hw) : Nat :=
  let p := h.rad.tsf + 50000000
  if h.rad.started ∧ ((h.now : Int) - p).natAbs ≤ 25000000 then
    let d : Int := (h.gridNear p : Int) - p
    ((p : Int) + max (-10000) (min 10000 d)).toNat
  else h.gridNear h.now

/-- The robot epoch that starts at an instant, where one does (R147). -/
def Hw.robotEpochAt (h : Hw) (t : Nat) : Option Nat :=
  let g := near50 (h.gpsOf t)
  if ¬h.gpsKnown ∨ g % h.robotInterval ≠ 0 then none
  else some ((((h.reg GNS_EPOCH).toNat : Int) + ((g : Int) - h.gns.lastGps) / h.baseInterval) % 2 ^ 32).toNat

/-- A frame of RAD's own to everybody. -/
def ownFrame (kind ft : Nat) (payload : List Byte) : TxFrame :=
  { (default : TxFrame) with kind := kind, ftype := ft, dst := broadcast, payload := payload }

/-- The octets that a seed may take in a lane's beacon cells (R241). -/
def Hw.seedRoom (h : Hw) (n : Nat) : Nat :=
  let ns := h.f (RAD_LANE_SF n) RAD_LANE_SF.beacon_cells * cellNs -
    (h.f (RAD_LANE_TIME n) RAD_LANE_TIME.shr_us + h.f (RAD_LANE_TIME n) RAD_LANE_TIME.guard_us) * 1000
  ns * h.rate n / 8000000 - 37

/-- A seed was late or had to be cut (R241). -/
def Hw.seedCut (h : Hw) (n : Nat) : Hw :=
  (h.bump RAD_ERR2 RAD_ERR2.seed RAD_ERR2.seed_sat).raiseFrom radSource RAD_IRQ_STAT RAD_IRQ_STAT.seed n

/-- The seed element of a lane's beacon; a seed that came too late leaves its header only (R241). -/
def Hw.beaconSeed (h : Hw) (n e : Nat) (late : Bool) : List Byte × Hw :=
  match h.seedOf e with
  | none => (leBytes 2 e ++ leBytes 4 0, h)
  | some s =>
    if late then (leBytes 2 e ++ leBytes 4 0, h.seedCut n)
    else if (s.octets n).length ≤ h.seedRoom n then (s.octets n, h)
    else
      let s' := s.shorten n (h.seedRoom n) 65
      (s'.octets n, (h.updFix fun f => { f with seeds := f.seeds.map fun x => if x.epoch = e then s' else x }).seedCut n)

/-- A lane's beacon (R241). -/
def Hw.beacon (h : Hw) (e : Option Nat) (late n : Nat) : Hw :=
  let (seed, h) := match e with
    | some e => h.beaconSeed n e (bit late n)
    | none => ([], h)
  let payload := leBytes 4 (h.reg RAD_SFNUM).toNat ++ leBytes 1 (e.isSome.toNat + (h.lane n).aux.toNat * 2) ++ seed
  h.addFrame n { ownFrame kBeacon ftBeacon payload with notBefore := h.rad.tsf + h.markCells n * cellNs }

/-- What a superframe start does on a lane: the layout, lane info due, the beacon (R239, R241, R243). -/
def Hw.laneStart (e : Option Nat) (late : Nat) (h : Hw) (n : Nat) : Hw :=
  let div := max 1 (h.f (RAD_LANE_SF n) RAD_LANE_SF.aux_div)
  let aux : Bool := e.any fun k => decide (k % div = 0)
  let due : Bool := decide ((h.reg RAD_SFNUM).toNat % 20 = 0 ∨ h.rad.noticeLeft > 0)
  let h := h.updLane n fun l => { l with
    aux := aux, infoDue := due || l.infoDue, frames := l.frames.filter fun f => decide (f.kind ≠ kBeacon) }
  if h.radSends && h.laneUp n then h.beacon e late n else h

/-- A superframe starts (R237): the count advances, binding changes take effect (R243), and each lane gets its beacon with the seed. -/
def Hw.superframe (h : Hw) (nav : List SatGeo) (late : Nat) : Hw :=
  let t := h.nextTsf
  let h := h.updRad fun r => { r with tsf := t, started := true, noticeLeft := r.noticeLeft - 1,
                                      notices := if r.noticeLeft ≤ 1 then [] else r.notices }
  let h := (h.setReg RAD_SFNUM (h.reg RAD_SFNUM + 1)).applyBindings
  let e := h.robotEpochAt t
  let h := match e with
    | some k => (h.updRad fun r => { r with epoch := k }).makeSeed k t nav
    | none => h
  let h := (List.range 8).foldl (Hw.laneStart e late) h
  h.mirror (.superframe t (h.reg RAD_SFNUM).toNat (h.f RAD_STAT RAD_STAT.bind_ver)
    (allRobots.map fun r => h.f (OBS_RBT_STAT r) OBS_RBT_STAT.set_tag))

/-- SUPERFRAME_START (R237): `nav` is the navigation store's view of the satellites, `late` the lanes whose seed has not arrived 1 ms before. -/
def execSuperframeStart (nav : List SatGeo) (late : BitVec 8) (s : State) : Host.Outcome State Fault Refusal :=
  run s fun h => h.superframe nav late.toNat

/-! ### Taking packets (R247, R248, R253) -/

/-- The payload of a lane info frame (R243). -/
def Hw.laneInfo (h : Hw) (n : Nat) : List Byte :=
  let notes := h.rad.notices.filter fun x => memb n x.2.2
  let ks := (List.range 16).filter fun k => decide (h.f (RAD_SLOT n k) RAD_SLOT.robot ≠ 0)
  leBytes 2 (h.f RAD_STAT RAD_STAT.bind_ver) ++
    (List.range 8).flatMap (fun m => leBytes 1 (h.f (RAD_LANE_CFG m) RAD_LANE_CFG.fallback + (h.laneUp m).toNat * 128)) ++
    leBytes 1 (h.f (RAD_LANE_SF n) RAD_LANE_SF.mark_cells) ++ leBytes 1 (h.f (RAD_LANE_SF n) RAD_LANE_SF.beacon_cells) ++
    leBytes 1 (h.f (RAD_LANE_SF n) RAD_LANE_SF.aux_div) ++
    leBytes 2 (h.f (RAD_LANE_DL n) RAD_LANE_DL.start) ++ leBytes 2 (h.f (RAD_LANE_DL n) RAD_LANE_DL.cells) ++
    leBytes 2 (h.f (RAD_LANE_DL_AUX n) RAD_LANE_DL_AUX.start) ++ leBytes 2 (h.f (RAD_LANE_DL_AUX n) RAD_LANE_DL_AUX.cells) ++
    leBytes 1 ks.length ++
    ks.flatMap (fun k => leBytes 1 (h.f (RAD_SLOT n k) RAD_SLOT.robot) ++ leBytes 2 (h.f (RAD_SLOT n k) RAD_SLOT.start) ++
      leBytes 1 (h.f (RAD_SLOT n k) RAD_SLOT.cells) ++ leBytes 2 (h.f (RAD_SLOT_AUX n k) RAD_SLOT_AUX.start) ++
      leBytes 1 (h.f (RAD_SLOT_AUX n k) RAD_SLOT_AUX.cells)) ++
    leBytes 1 notes.length ++ notes.flatMap fun x => leBytes 1 x.1 ++ leBytes 1 x.2.1

/-- A frame cannot be kept indirectly: dropped and counted (R253). -/
def Hw.indirectDrop (h : Hw) (nb : Nat) : Hw :=
  (h.bump RAD_IND_STAT RAD_IND_STAT.indirect_drop RAD_IND_STAT.drop_sat).raiseFrom radSource RAD_IRQ_STAT RAD_IRQ_STAT.indirect_drop nb

/-- Frames kept for each sleepy neighbour. -/
def Hw.perNb (h : Hw) : Nat :=
  let v := h.f RAD_SLEEPY_CFG RAD_SLEEPY_CFG.per_nb
  if 1 ≤ v ∧ v ≤ 4 then v else 4

/-- Put a frame into the indirect store (R253). -/
def Hw.keepIndirect (h : Hw) (nb : Nat) (f : TxFrame) : Hw :=
  if h.rad.indirect.length ≥ 512 ∨ (h.rad.indirect.filter fun x => decide (x.nb = nb)).length ≥ h.perNb then h.indirectDrop nb
  else h.updRad fun r => { r with indirect := r.indirect ++ [⟨nb, h.now, { f with kind := kIndirect }⟩] }

/-- A frame type whose frames another block builds, or a reserved code: not sent from a stream (R236, R247). -/
def badType (ft : Nat) : Bool := decide (ft = 0 ∨ ft > 0x0E ∨ ft = ftPermit ∨ ft = ftStop)

/-- A sleepy neighbour (entries 128–511; R253). -/
def Hw.sleepy (h : Hw) (i : Nat) : Bool := decide (128 ≤ i) && h.nbValid i && h.flag (RAD_NB_CFG i) RAD_NB_CFG.sleepy

/-- A packet taken from a lane's stream becomes a frame in flight, goes to the indirect store, or is skipped (R247, R248, R253). -/
def Hw.judgeTx (h : Hw) (n kind : Nat) (p : Pkt) : Hw :=
  let b := p.octets
  let ft := fieldAt b 0 1 % 32
  let flags := fieldAt b 1 1
  let dst := fieldAt b 2 2
  let token := fieldAt b 8 4
  let payload := b.drop 12
  let nb := h.nbOf dst
  if p.abort ∨ b.length < 12 ∨ badType ft ∨ (ft = ftTrack ∧ token = 0) ∨ payload.length > 1900 ∨
      (keyOfType ft ≠ keyGroup ∧ nb.isNone) then h.badTx n
  else if ¬h.tokenOpen token then h.tokDropped n
  else
    let ar := if ftJoinReq ≤ ft ∧ ft ≤ ftUpdate then true else decide (ft = ftData) && bit flags 0
    let f : TxFrame := { (default : TxFrame) with
      kind := kind, ftype := ft, dst := dst, nb := nb, ar := ar, retries := fieldAt b 5 1 % 8, token := token, robot := fieldAt b 4 1,
      payload := payload }
    match nb with
    | some i => if bit flags 1 && decide (kind = kData) && h.sleepy i then h.keepIndirect i f else h.addFrame n f
    | none => h.addFrame n f

/-- The next packet of a lane's stream, if one can be taken. -/
def Hw.takeStream (h : Hw) (n kind fifo : Nat) : Option Hw := (h.takePacket fifo 512).map fun (p, _, h') => h'.judgeTx n kind p

/-- A lane takes one frame, in the order of R247. -/
def Hw.takeTx (h : Hw) (n : Nat) : Hw :=
  if ¬h.radSends ∨ ¬h.laneUp n ∨ ¬h.laneRoom n then h
  else if (h.lane n).infoDue then
    (h.updLane n fun l => { l with infoDue := false }).addFrame n (ownFrame kLaneInfo ftLaneInfo (h.laneInfo n))
  else match h.takeStream n kTrack (h.f (RAD_LANE_FIFO n) RAD_LANE_FIFO.tx_track) with
    | some h' => h'
    | none => match h.takeStream n kEcho (h.f (RAD_LANE_FIFO n) RAD_LANE_FIFO.tx_echo) with
      | some h' => h'
      | none => match (h.lane n).rtcm with
        | m :: ms => (h.updLane n fun l => { l with rtcm := ms }).addFrame n (ownFrame kRtcm ftRtcm m)
        | [] => (h.takeStream n kData (h.f (RAD_LANE_FIFO n) RAD_LANE_FIFO.tx_data)).getD h

/-- TX_PACKET_TAKE (R247). -/
def execTxPacketTake (lane : Fin 8) (s : State) : Host.Outcome State Fault Refusal := run s fun h => h.takeTx lane.val

/-! ### Receiving (R244–R246, R249, R251) -/

/-- Sets the counter and interrupt bit of a frame that fails authentication, or of a replay (R244). -/
def Hw.rxAuth (h : Hw) (n : Nat) (cnt sat : Fld) : Hw := (h.bump RAD_ERR cnt sat).raiseFrom radSource RAD_IRQ_STAT RAD_IRQ_STAT.auth n

/-- A frame outside R232 or R236. -/
def Hw.unsupported (h : Hw) : Hw := h.bump RAD_ERR2 RAD_ERR2.unsupported RAD_ERR2.unsup_sat

/-- The Flizen IE of a received frame: ftype, robot, epoch, token, flood fields. -/
def ieType (c : List Byte) : Nat := fieldAt c 3 1 % 32
def ieRobot (c : List Byte) : Nat := fieldAt c 4 1
def ieEpoch (c : List Byte) : Nat := fieldAt c 5 2
def ieFlood (c : List Byte) : Option (Nat × Nat × Nat) :=
  let o := 7 + (if bit (fieldAt c 3 1) 5 then 4 else 0) + (if bit (fieldAt c 3 1) 6 then 2 else 0)
  if bit (fieldAt c 3 1) 7 then some (fieldAt c o 2, fieldAt c (o + 2) 2, fieldAt c (o + 4) 1 % 16) else none

/-- Step 1 of R244. -/
def Hw.rxStep1 (h : Hw) (p : Parsed) : Bool :=
  p.wellFormed && p.security && decide (p.version = 2 ∧ p.keyMode = 1 ∧ p.pan = h.f RAD_ID RAD_ID.pan_id ∧ p.body.length ≤ 1900) &&
    match p.mac with
    | 0 => p.dst.isNone && p.src.isSome
    | 1 => (p.dst.any fun d => decide (d = h.baseAddr ∨ d = broadcast)) && p.src.isSome
    | 2 => p.dst.any fun d => decide (d = h.baseAddr)
    | 3 => (p.dst.any fun d => decide (d = h.baseAddr ∨ d = broadcast)) && p.src.isSome
    | _ => false

/-- Step 2 of R244. -/
def rxStep2 (p : Parsed) : Bool :=
  if p.mac = macBeacon ∨ p.mac = macData then
    match p.ie with
    | none => false
    | some c =>
      let ft := ieType c
      decide (1 ≤ ft ∧ ft ≤ 0x0E) && (decide (ft = ftBeacon) == decide (p.mac = macBeacon)) &&
        (decide (ft ≠ ftStop ∧ ft ≠ ftSite) || (ieFlood c).isSome)
  else true

/-- The key index and level that a frame has to have (R236; a Data Request has those of pairwise data). -/
def wantKey (p : Parsed) (ft : Nat) : Nat × Nat :=
  if p.mac = macAck then (keyPair, 1) else if p.mac = macCommand then (keyPair, 5) else (keyOfType ft, levelOfType ft)

/-- Verify and decrypt a received frame with the extended address of its sender (R234); a frame under the stop key may still carry the key before
it while that one is held (R333). -/
def Hw.rxOpen (h : Hw) (p : Parsed) (ft eui : Nat) (nb : Option Nat) : Option (List Byte) :=
  let (k, lv) := wantKey p ft
  if p.keyIndex ≠ k ∨ p.level ≠ lv then none
  else
    let try_ := fun (key : List Byte) => openFrame key eui p.ctr lv p.header p.body p.mic
    match (h.airKey k nb).bind try_ with
    | some m => some m
    | none => if k = keyStop ∧ ¬h.ports.stopOld.isEmpty then try_ h.ports.stopOld else none

/-- The outcomes of R245. -/
inductive Fresh
  | new | dup | replay
deriving DecidableEq, Repr

/-- A neighbour's record of accepted sequence numbers. -/
def Hw.seqRecord (h : Hw) (i : Nat) : Nat := h.rad.records.at i

/-- What the counter and sequence number of a frame make of it (R245). -/
def Hw.freshOf (h : Hw) (i ctr seq : Nat) : Fresh :=
  if ctr > (h.reg (RAD_NB_RXCTR i)).toNat then .new
  else
    let back := (h.f (RAD_NB_SEQ i) RAD_NB_SEQ.rx_last + 256 - seq) % 256
    if back < 64 ∧ bit (h.seqRecord i) back then .dup else .replay

/-- A new frame advances the neighbour's receive state (R245). -/
def Hw.acceptSeq (h : Hw) (i ctr seq : Nat) : Hw :=
  let d := (seq + 256 - h.f (RAD_NB_SEQ i) RAD_NB_SEQ.rx_last) % 256
  let h := if 2 ≤ d ∧ d ≤ 191 then
      h.setF (RAD_NB_LINK i) RAD_NB_LINK.lost (min 65535 (h.f (RAD_NB_LINK i) RAD_NB_LINK.lost + (d - 1))) else h
  let r := if d < 64 then (h.seqRecord i * 2 ^ d ||| 1) % 2 ^ 64 else 1
  let h := (h.setReg (RAD_NB_RXCTR i) (BitVec.ofNat 32 ctr)).setF (RAD_NB_SEQ i) RAD_NB_SEQ.rx_last seq
  h.updRad fun x => { x with records := x.records.set i r }

/-- Answer with an Enhanced ACK (R240, R249): of 21 octets, under the pairwise key. One to a join request is under the join key with a counter
that the specification does not state (log entry 53). -/
def Hw.sendAck (h : Hw) (n : Nat) (nb : Option Nat) (dst seq time : Nat) (pend : Bool) : Hw :=
  if ¬h.radSends then h
  else
    let t := max h.now (time + h.f (RAD_LANE_ACK n) RAD_LANE_ACK.ack_us * 1000)
    let index := if nb.isSome then keyPair else keyJoin
    match h.airKey index nb with
    | none => h.bump (RAD_LANE_ACK n) RAD_LANE_ACK.ack_skipped RAD_LANE_ACK.skip_sat
    | some key =>
      if ¬h.laneFree n ∨ ¬h.fits n t 21 false then h.bump (RAD_LANE_ACK n) RAD_LANE_ACK.ack_skipped RAD_LANE_ACK.skip_sat
      else
        let go := fun (ctr : Nat) (h : Hw) =>
          let header := mhrBytes macAck seq (h.f RAD_ID RAD_ID.pan_id) dst h.baseAddr pend false ++ auxBytes 1 ctr index
          let psdu := secureFrame key (h.laneEui n) ctr 1 header []
          let h := h.updLane n fun l => { l with onAir := some ⟨false, false, false, 0, none, t, psdu.length + 4⟩ }
          (h.laneCmd n cmdTxLoad psdu).laneCmd n cmdTxGo []
        match nb with
        | none => go (Config.freeWord h.freeCtr).toNat (h.useFree 1)
        | some i =>
          if h.reg (RAD_NB_TXCTR i) = 0xFFFFFFFF then h.badTx n
          else go (h.reg (RAD_NB_TXCTR i)).toNat (h.advanceCtr n (RAD_NB_TXCTR i))

/-- A received Enhanced ACK ends the wait of the frame it answers (R249). -/
def Hw.takeAck (h : Hw) (n : Nat) (p : Parsed) : Hw :=
  match (h.lane n).frames.find? fun f => f.waitAck.isSome && decide (f.seq = p.seq) with
  | none => h.bump RAD_ERR RAD_ERR.unknown RAD_ERR.unknown_sat
  | some f =>
    let i := f.nb.getD 0
    match h.rxOpen p 0 (h.nbEui i) f.nb with
    | none => h.rxAuth n RAD_ERR.auth_fail RAD_ERR.auth_sat
    | some _ =>
      if p.ctr ≤ (h.reg (RAD_NB_RXCTR i)).toNat then
        (h.bump (RAD_NB_CNT i) RAD_NB_CNT.replay RAD_NB_CNT.replay_sat).rxAuth n RAD_ERR.replay RAD_ERR.replay_sat
      else ((h.setReg (RAD_NB_RXCTR i) (BitVec.ofNat 32 p.ctr)).takeFrame n f).countWrap (RAD_LANE_RXCNT n)

/-- The receive packet of a frame for software (R246). -/
def rxPacket (n ft : Nat) (nb : Option Nat) (src robot epoch : Nat) (flood : Bool) (x : RxFrame) (payload : List Byte) : List Byte :=
  leBytes 1 (n + flood.toNat * 128) ++ leBytes 1 ft ++ leBytes 2 (nb.getD 0xFFFF) ++ leBytes 2 src ++ leBytes 1 robot ++
    leBytes 1 x.rssi ++ leBytes 6 (x.time / 1000000000) ++ leBytes 4 (x.time % 1000000000) ++ leBytes 2 epoch ++ leBytes 4 0 ++ payload

/-- Pass a frame to the receive stream (R246). -/
def Hw.toStream (h : Hw) (bs : List Byte) : Hw :=
  let (h, lost) := h.hwSendFree prodRx (h.f RAD_STREAMS RAD_STREAMS.rx_fifo) bs
  if lost then h.bump RAD_ERR2 RAD_ERR2.rx_dropped RAD_ERR2.rx_sat else h

/-- A site broadcast waits for its relays (R252). -/
def Hw.keepRelay (h : Hw) (robot : Nat) (fl : Nat × Nat × Nat) (payload : List Byte) : Hw :=
  let mask := h.f RAD_FLOOD_CFG RAD_FLOOD_CFG.relay_mask
  let lanes := h.lanesUp.filter (bit mask)
  if ¬h.flag RAD_FLOOD_CFG RAD_FLOOD_CFG.relay ∨ fl.2.2 = 0 ∨ lanes.isEmpty then h
  else
    let f := { ownFrame kRelay ftSite payload with robot := robot, flood := some (fl.1, fl.2.1, fl.2.2 - 1) }
    h.updRad fun r => { r with relays := r.relays ++ [⟨f, lanes⟩] }

/-- Deliver an accepted frame (R246). While RAD is disabled only stop frames pass. -/
def Hw.deliver (h : Hw) (n ft : Nat) (nb : Option Nat) (p : Parsed) (x : RxFrame) (m : List Byte) : Hw :=
  let c := p.ie.getD []
  let src := p.src.getD 0
  let fl := ieFlood c
  let packet := rxPacket n ft nb src (ieRobot c) (ieEpoch c) fl.isSome x m
  if ft = ftStop then
    h.updRad fun r => { r with toStp := r.toStp ++ [⟨n, nb.getD 0, ieRobot c, fl.getD (0, 0, 0), m⟩] }
  else if ¬h.flag RAD_CFG RAD_CFG.enable then h
  else if p.mac = macCommand then h.updRad fun r => { r with polls := r.polls ++ [(n, nb.getD 0)] }
  else if ft = ftObs then
    h.updRad fun r => { r with toObs := r.toObs ++ [⟨n, ieRobot c, ieEpoch c, p.ctr, m, x.time⟩] }
  else if ft = ftBeacon ∨ ft = ftPermit ∨ ft = ftRendezvous ∨ ft = ftLaneInfo then h
  else if ft = ftSite then (h.toStream packet).keepRelay (ieRobot c) (fl.getD (0, 0, 0)) m
  else h.toStream packet

/-- A frame from a neighbour has been heard in an open rendezvous window (R255). -/
def Hw.rdvHeard (h : Hw) (i : Nat) : Hw :=
  match h.rad.window with
  | none => h
  | some l => (h.updRad fun r => { r with window := some (addCode i l) }).setF (RAD_NB_CFG i) RAD_NB_CFG.rdv_miss 0

/-- Step 6 of R244: a flooded frame is new, or counted as seen before (R251). -/
def Hw.floodStep (h : Hw) (fl : Option (Nat × Nat × Nat)) : Bool × Hw :=
  match fl with
  | none => (true, h)
  | some (o, i, _) =>
    if h.wasSeen o i then (false, h.bump RAD_FLOOD_STAT RAD_FLOOD_STAT.flood_dup RAD_FLOOD_STAT.dup_sat) else (true, h.enterSeen o i)

/-- Frames held indirectly for a neighbour. -/
def Hw.heldFor (h : Hw) (i : Nat) : Nat := (h.rad.indirect.filter fun x => decide (x.nb = i)).length

/-- A frame that has passed steps 1–4, from a neighbour: counter, ACK, seen-cache, delivery. -/
def Hw.rxAccept (h : Hw) (n ft i : Nat) (p : Parsed) (x : RxFrame) (m : List Byte) : Hw :=
  let ack := fun (h : Hw) =>
    if p.ar then h.sendAck n (some i) (h.nbShort i) p.seq x.time (decide (p.mac = macCommand) && decide (h.heldFor i > 0)) else h
  let link := fun (h : Hw) => (h.setF (RAD_NB_LINK i) RAD_NB_LINK.rssi x.rssi).setF (RAD_NB_LINK i) RAD_NB_LINK.lqi x.lqi
  match h.freshOf i p.ctr p.seq with
  | .replay => (h.bump (RAD_NB_CNT i) RAD_NB_CNT.replay RAD_NB_CNT.replay_sat).rxAuth n RAD_ERR.replay RAD_ERR.replay_sat
  | .dup => ack ((link h).bump (RAD_NB_CNT i) RAD_NB_CNT.dup RAD_NB_CNT.dup_sat)
  | .new =>
    let h := ack (((link h).acceptSeq i p.ctr p.seq).rdvHeard i)
    let (fresh, h) := h.floodStep (ieFlood (p.ie.getD []))
    if fresh then (h.countWrap (RAD_LANE_RXCNT n)).deliver n ft (some i) p x m else h

/-- A frame in listen mode (R257): observations go to OBS, the pair's own beacon gives the seed, nothing else changes. -/
def Hw.rxListen (h : Hw) (n ft i : Nat) (p : Parsed) (x : RxFrame) (m : List Byte) : Hw :=
  if ft = ftObs ∧ p.mac = macData then h.deliver n ft (some i) p x m else h

/-- FRAME_RECEIVE (R244): the oldest frame that the lane has read is tested and delivered. -/
def Hw.rxFrame (h : Hw) (n : Nat) (x : RxFrame) : Hw :=
  let p := parseFrame (h.f RAD_OUI RAD_OUI.oui) x.psdu
  if ¬h.rxStep1 p ∨ ¬rxStep2 p then h.unsupported
  else if p.mac = macAck then (if h.sends then h.takeAck n p else h)
  else
    let ft := ieType (p.ie.getD [])
    let src := p.src.getD 0
    let nb := h.nbOf src
    if ¬h.sends ∧ p.mac = macBeacon ∧ src = h.baseAddr then
      match h.rxOpen p ft (h.laneEui n) none with
      | some m => if bit (fieldAt m 4 1) 0 then h.hearSeed (m.drop 5) else h
      | none => h.rxAuth n RAD_ERR.auth_fail RAD_ERR.auth_sat
    else if p.mac = macData ∧ ft = ftJoinReq then
      let free := (Config.freeWord h.freeCtr).toNat + (Config.freeWord (h.freeCtr + 1)).toNat * 2 ^ 32
      let eui := (nb.map h.nbEui).getD free
      let h := h.useFree 2
      match h.rxOpen p ft eui none with
      | none => h.rxAuth n RAD_ERR.auth_fail RAD_ERR.auth_sat
      | some m =>
        if ¬h.sends then h
        else
          let h := if p.ar then h.sendAck n none src p.seq x.time false else h
          (h.countWrap (RAD_LANE_RXCNT n)).deliver n ft none p x m
    else match nb with
      | none => h.bump RAD_ERR RAD_ERR.unknown RAD_ERR.unknown_sat
      | some i =>
        match h.rxOpen p ft (h.nbEui i) nb with
        | none => h.rxAuth n RAD_ERR.auth_fail RAD_ERR.auth_sat
        | some m =>
          if p.mac = macCommand ∧ m ≠ [4] then h.unsupported
          else if h.sends then h.rxAccept n ft i p x m
          else h.rxListen n ft i p x m

/-- FRAME_RECEIVE. -/
def execFrameReceive (lane : Fin 8) (s : State) : Host.Outcome State Fault Refusal :=
  run s fun h => match (h.lane lane.val).rx with
    | [] => h
    | x :: xs => (h.updLane lane.val fun l => { l with rx := xs }).rxFrame lane.val x

/-- RX_DROP_TIMEOUT (R246): a receive packet has waited 1 ms. -/
def execRxDropTimeout (s : State) : Host.Outcome State Fault Refusal :=
  run s fun h =>
    let f := h.f RAD_STREAMS RAD_STREAMS.rx_fifo
    if h.holdsPacket prodRx f then (h.dropHeld prodRx f).bump RAD_ERR2 RAD_ERR2.rx_dropped RAD_ERR2.rx_sat else h

/-! ### Flooding (R252) -/

/-- Put a frame on those lanes that have a buffer free; the lanes left. -/
def Hw.spread (h : Hw) (f : TxFrame) (lanes : List Nat) : Hw × List Nat :=
  let now := lanes.filter fun n => h.laneUp n && h.laneRoom n
  (now.foldl (fun h n => h.addFrame n f) h, lanes.filter fun n => h.laneUp n && !memb n now)

/-- A packet of flood_fifo is sent as a new site broadcast (R252). One that R247 would skip is discarded. -/
def Hw.floodOriginate (h : Hw) : Hw :=
  let lanes := h.lanesUp.filter (bit (h.f RAD_STREAMS RAD_STREAMS.flood_mask))
  if ¬h.radSends ∨ ¬lanes.all h.laneRoom then h
  else match h.takePacket (h.f RAD_STREAMS RAD_STREAMS.flood_fifo) 512 with
    | none => h
    | some (p, _, h) =>
      let b := p.octets
      let ttl := fieldAt b 1 1 / 16
      if p.abort ∨ b.length < 12 ∨ ttl = 0 ∨ b.length > 1912 then h
      else
        let id := h.f RAD_FLOOD_ID RAD_FLOOD_ID.next_id
        let h := (h.setF RAD_FLOOD_ID RAD_FLOOD_ID.next_id ((id + 1) % 0x8000)).enterSeen h.unitAddr id
        let f := { ownFrame kSite ftSite (b.drop 12) with robot := fieldAt b 4 1, flood := some (h.unitAddr, id, ttl) }
        (h.spread f lanes).1

/-- FLOOD_ORIGINATE (R252). -/
def execFloodOriginate (s : State) : Host.Outcome State Fault Refusal := run s Hw.floodOriginate

/-- The oldest site broadcast waiting is relayed (R252). -/
def Hw.floodRelay (h : Hw) : Hw :=
  match h.rad.relays with
  | [] => h
  | r :: rs =>
    if ¬h.radSends then h
    else
      let (h, left) := h.spread r.frame r.lanes
      h.updRad fun x => { x with relays := if left.isEmpty then rs else { r with lanes := left } :: rs }

/-- FLOOD_RELAY (R252). -/
def execFloodRelay (s : State) : Host.Outcome State Fault Refusal := run s Hw.floodRelay

/-! ### Sleepy nodes and rendezvous (R253–R255) -/

/-- A poll draws the oldest frame held for the neighbour (R253). -/
def Hw.dataRequest (h : Hw) : Hw :=
  match h.rad.polls with
  | [] => h
  | (n, i) :: rest =>
    match h.rad.indirect.find? fun x => decide (x.nb = i) with
    | none => h.updRad fun r => { r with polls := rest }
    | some x =>
      if ¬h.laneUp n ∨ ¬h.laneRoom n then h
      else
        let h := h.updRad fun r => { r with polls := rest, indirect := dropOne (fun y => decide (y = x)) r.indirect }
        h.addFrame n { x.frame with pend := decide (h.heldFor i > 0) }

/-- DATA_REQUEST (R253). -/
def execDataRequest (s : State) : Host.Outcome State Fault Refusal := run s Hw.dataRequest

/-- INDIRECT_EXPIRY (R253): the oldest frame in the store has been held longer than hold_s. -/
def execIndirectExpiry (s : State) : Host.Outcome State Fault Refusal :=
  run s fun h => match h.rad.indirect with
    | [] => h
    | x :: xs => (h.updRad fun r => { r with indirect := xs }).indirectDrop x.nb

/-- A rendezvous falls (R254): the beacon goes out on the lanes of the mask, and the window opens. -/
def Hw.rendezvous (h : Hw) : Hw :=
  if ¬h.flag RAD_RDV_CFG RAD_RDV_CFG.enable then h
  else
    let lanes := h.lanesUp.filter (bit (h.f RAD_RDV_CFG RAD_RDV_CFG.lane_mask))
    let payload := leBytes 6 (h.reg64 VGL_CNT_LO) ++ leBytes 2 (max 1 (h.f RAD_RDV_CFG RAD_RDV_CFG.period_s))
    let h := if h.radSends then (h.spread (ownFrame kRendezvous ftRendezvous payload) lanes).1 else h
    let h := lanes.foldl (fun h n => (h.updLane n fun l => { l with rxOn := true }).laneCmd n cmdRxOn []) h
    h.updRad fun r => { r with window := some [] }

/-- RENDEZVOUS (R254). -/
def execRendezvous (s : State) : Host.Outcome State Fault Refusal := run s Hw.rendezvous

/-- A sleepy neighbour was silent in a window (R255). -/
def Hw.rdvMissed (h : Hw) (i : Nat) : Hw :=
  let k := h.f (RAD_NB_CFG i) RAD_NB_CFG.rdv_miss
  if k < 3 then h.setF (RAD_NB_CFG i) RAD_NB_CFG.rdv_miss (k + 1)
  else
    let h := (h.event radSource 0x000E (BitVec.ofNat 32 i) 0 0).bump RAD_IND_STAT RAD_IND_STAT.drift_loss RAD_IND_STAT.drift_sat
    let h := (h.raiseFrom radSource RAD_IRQ_STAT RAD_IRQ_STAT.drift_loss i).setFlag (RAD_NB_CFG i) RAD_NB_CFG.joined false
    h.updRad fun r => { r with indirect := r.indirect.filter fun x => decide (x.nb ≠ i) }

/-- RENDEZVOUS_WINDOW_END (R255). -/
def execRendezvousWindowEnd (s : State) : Host.Outcome State Fault Refusal :=
  run s fun h => match h.rad.window with
    | none => h
    | some heard =>
      let due := (List.range 512).filter fun i => h.sleepy i && h.flag (RAD_NB_CFG i) RAD_NB_CFG.joined && !memb i heard
      (due.foldl Hw.rdvMissed h).updRad fun r => { r with window := none }

/-! ### Registers -/

/-- The live word of a RAD register. -/
def Hw.viewRad (h : Hw) (k : Nat) : Word :=
  let w := h.reg k
  let o := k % 0x10000
  if k = RAD_IND_STAT then RAD_IND_STAT.held.set w h.rad.indirect.length
  else if 0x4000 ≤ o ∧ o < 0x5000 ∧ o % 0x20 = 0 then
    let i := (o - 0x4000) / 0x20
    RAD_NB_CFG.kind.set (RAD_NB_CFG.short.set w (h.nbShort i)) (h.nbKind i)
  else match (List.range 8).find? fun n => decide (k = RAD_LANE_STAT n) with
    | none => w
    | some n =>
      let st := RAD_LANE_STAT.state.get w
      let st := if st ≥ 2 then st else if h.laneUp n then 1 else 0
      RAD_LANE_STAT.state.set (RAD_LANE_STAT.window.set (RAD_LANE_STAT.in_flight.set (RAD_LANE_STAT.robots.set w (min 31 (h.robotsOn n).length))
        (h.lane n).inFlight) (min 15 (h.faultsIn 3 n))) st

end Sys2Proof.Machine
end

