-- ==== Sys2Proof/Machine/Pair.lean ====
section
/-! DEFINITION. The Equinox pair EQX: heartbeats, mirrored state, the interlock, takeover and handover (spec/10_stop_and_equinox.md,
R275–R284). -/

namespace Sys2Proof.Machine

open Reg

/-- Change the pair's part of the state. -/
def Hw.updEqx (h : Hw) (g : EqxSt → EqxSt) : Hw := { h with eqx := g h.eqx }

/-- The pair link is up. -/
def Hw.linkUp (h : Hw) : Bool := decide (h.f EQX_LINK EQX_LINK.state = 2)

/-! ### Link frames (R276; framing: log entry 23) -/

/-- CRC-32 as Ethernet has it, one octet. -/
def crc32Step (c : Nat) (b : Byte) : Nat :=
  (List.range 8).foldl (fun c _ => if c % 2 = 1 then (c / 2) ^^^ 0xEDB88320 else c / 2) (c ^^^ b.toNat)

/-- CRC-32 of octets. -/
def crc32 (bs : List Byte) : Nat := (bs.foldl crc32Step 0xFFFFFFFF) ^^^ 0xFFFFFFFF

/-- Frame types. -/
def pairHeartbeat : Nat := 0x1
def pairAck : Nat := 0x4

/-- Send a body on the pair link: header, ciphertext, GCM tag, CRC-32. Nothing goes out while the link is down or no key has been delivered. -/
def Hw.pairSend (h : Hw) (type : Nat) (body : List Byte) : Hw :=
  if ¬h.linkUp ∨ h.ports.link.isEmpty then h
  else
    let nonce := leBytes 2 (h.f EQX_CFG EQX_CFG.unit) ++ leBytes 2 type ++ leBytes 8 h.eqx.txCount
    let (c, tag) := gcmEnc h.ports.link nonce [] body
    let fr := leBytes 2 type ++ leBytes 2 (body.length + 16) ++ c ++ tag
    (h.updEqx fun e => { e with txCount := e.txCount + 1 }).emit (.pair type (fr ++ leBytes 4 (crc32 fr)))

/-! ### Readiness (R278) -/

/-- The mirror is in sequence and within 1 ms. -/
def Hw.mirrorOk (h : Hw) : Bool := h.linkUp && h.eqx.inSequence && decide (h.f EQX_MIRROR EQX_MIRROR.lag_us ≤ 1000)

/-- A partition's hash equals the partner's. -/
def Hw.sameHash (h : Hw) (p : Nat) : Bool := h.reg (CFG_PART_HASH p) == h.reg (EQX_PEER_HASH p)

/-- The standby is ready (R278). -/
def Hw.readyNow (h : Hw) : Bool :=
  h.paired && decide (h.role = 1) && h.linkUp && decide (h.f EQX_LINK EQX_LINK.missed = 0) &&
    !(h.eqx.missedAt.any fun t => decide (h.now < t + 3000000)) && h.eqx.resynced && h.mirrorOk &&
    (h.eqx.peer.any fun p => decide (p.format = (Config.mirrorFormat).toNat)) && h.sameHash 4 &&
    (h.flag EQX_CFG EQX_CFG.allow_diff || (h.sameHash 2 && h.sameHash 3 && h.sameHash 7)) &&
    h.floorComplete && !h.tilesUp.isEmpty && decide (h.gnsState = gnsRunning)

/-- EQX_STAT.ready and mirror_ok follow; a fall of ready is raised. -/
def Hw.settleReady (h : Hw) : Hw :=
  let was := h.flag EQX_STAT EQX_STAT.ready
  let is := h.readyNow
  let h := (h.setFlag EQX_STAT EQX_STAT.ready is).setFlag EQX_STAT EQX_STAT.mirror_ok h.mirrorOk
  if was && !is then h.raise EQX_IRQ_STAT EQX_IRQ_STAT.not_ready 0 else h

/-! ### Heartbeats (R276, R280) -/

/-- The health word (EQX_PEER_HEALTH). -/
def Hw.healthWord (h : Hw) : Nat :=
  min 7 h.tilesUp.length * 2 ^ 29 + h.f RAD_STAT RAD_STAT.in_service * 2 ^ 21 + h.inService 4 % 1024 * 2 ^ 11 +
    h.floorComplete.toNat * 2 ^ 10 + h.selftestOk.toNat * 2 ^ 9

/-- The 48 octets of a heartbeat before its tag. -/
def Hw.heartbeat (h : Hw) (releasing : Bool) : List Byte :=
  let st := h.f EQX_CFG EQX_CFG.unit + h.role * 2 + h.f EQX_STAT EQX_STAT.hold * 8 + releasing.toNat * 16 + h.readyNow.toNat * 32 +
    h.mirrorOk.toNat * 64 + (decide (h.stpState = stpStopped)).toNat * 128
  leBytes 1 st ++ leBytes 1 (Config.mirrorFormat).toNat ++ leBytes 2 h.eqx.hbSeq ++ leBytes 4 h.eqx.sent ++
    leBytes 4 (if h.role = 1 then h.eqx.applied else 0) ++ leBytes 4 (h.reg RAD_SFNUM).toNat ++ leBytes 4 (h.rad.tsf % 1000000000) ++
    [2, 3, 4, 7].flatMap (fun p => leBytes 4 (h.reg (CFG_PART_HASH p)).toNat) ++ leBytes 4 h.healthWord ++ leBytes 8 0

/-- Send a heartbeat. -/
def Hw.sendHeartbeat (h : Hw) (releasing : Bool) : Hw :=
  let h := h.updEqx fun e => { e with hbSeq := (e.hbSeq + 1) % 65536 }
  h.pairSend pairHeartbeat (h.heartbeat releasing)

/-- HEARTBEAT_SEND (R276). -/
def execHeartbeatSend (s : State) : Host.Outcome State Fault Refusal :=
  run s fun h => if h.paired then h.settleReady.sendHeartbeat false else h

/-- A link frame fails authentication (R276, R373). -/
def Hw.pairAuthFail (h : Hw) : Hw := (h.bump EQX_ERR EQX_ERR.auth_fail EQX_ERR.auth_sat).countOpen 12 0

/-- The partner's hash of a partition, with its bit of EQX_DIFF. -/
def Hw.setPeerHash (h : Hw) (p : Nat) (w : Word) : Hw :=
  let h := h.setReg (EQX_PEER_HASH p) w
  h.setF EQX_DIFF ⟨p, 1⟩ (!h.sameHash p).toNat

/-- What a heartbeat says. -/
def readPeer (b : List Byte) : Peer :=
  let st := fieldAt b 0 1
  { role := st / 2 % 4, hold := bit st 3, releasing := bit st 4, ready := bit st 5, mirrorOk := bit st 6, stopped := bit st 7,
    format := fieldAt b 1 1, sent := fieldAt b 4 4, applied := fieldAt b 8 4 }

/-- Heartbeats that keep reporting a hold while EQX_SENSE reads high latch the interlock fault (R280). -/
def Hw.heldCheck (h : Hw) (p : Peer) : Hw :=
  if h.role = 1 ∧ h.eqx.senseAt.isSome ∧ p.hold ∧ ¬p.releasing then
    if h.eqx.heldSeen ∧ ¬h.flag EQX_STAT EQX_STAT.interlock_fault then
      (h.setFlag EQX_STAT EQX_STAT.interlock_fault true).raise EQX_IRQ_STAT EQX_IRQ_STAT.interlock_fault 0
    else h.updEqx fun e => { e with heldSeen := true }
  else h

/-- A heartbeat of the partner. -/
def Hw.hearHeartbeat (h : Hw) (b : List Byte) : Hw :=
  let p := readPeer b
  let joined := p.mirrorOk && !(h.eqx.peer.any Peer.mirrorOk)
  let h := h.updEqx fun e => { e with peer := some p }
  let h := (h.setF EQX_LINK EQX_LINK.missed 0).setReg EQX_PEER_HEALTH (BitVec.ofNat 32 (fieldAt b 36 4))
  let h := ((h.setF EQX_STAT EQX_STAT.hb_seq (fieldAt b 2 2)).setF EQX_STAT EQX_STAT.peer_role p.role).setFlag EQX_STAT EQX_STAT.peer_ready p.ready
  let h := [(2, 20), (3, 24), (4, 28), (7, 32)].foldl (fun h q => h.setPeerHash q.1 (BitVec.ofNat 32 (fieldAt b q.2 4))) h
  let h := if h.role = 2 then
      let h := h.ackTokens p.applied
      let h := if joined then h.raise EQX_IRQ_STAT EQX_IRQ_STAT.peer_joined 0 else h
      if h.eqx.handover = .waitReady ∧ p.ready then h.updEqx fun e => { e with handover := .waitMark } else h
    else h
  (h.heldCheck p).settleReady

/-- HEARTBEAT_RECEIVE (R276): the 48 octets of a heartbeat, and whether it authenticates. -/
def execHeartbeatReceive (body : List Byte) (authentic : Bool) (s : State) : Host.Outcome State Fault Refusal :=
  run s fun h =>
    if ¬h.paired ∨ ¬h.linkUp then h
    else if ¬authentic ∨ h.ports.link.isEmpty ∨ body.length ≠ 48 then h.pairAuthFail
    else h.hearHeartbeat body

/-- The standby detects a failed primary (R280). -/
def Hw.detects (h : Hw) : Bool :=
  h.paired && decide (h.role = 1) && h.flag EQX_STAT EQX_STAT.sense && !h.flag EQX_STAT EQX_STAT.interlock_fault &&
    ((h.eqx.senseAt.isSome && !h.eqx.heldSeen) || (h.eqx.peer.any Peer.releasing) || decide (h.f EQX_LINK EQX_LINK.missed = 3))

/-- HEARTBEAT_MISS (R280, R282): the third in a row with EQX_SENSE low is raised, and the outputs of a standby that does not take over go
inactive. -/
def execHeartbeatMiss (s : State) : Host.Outcome State Fault Refusal :=
  run s fun h =>
    if ¬h.paired then h
    else
      let n := min 3 (h.f EQX_LINK EQX_LINK.missed + 1)
      let third := decide (n = 3 ∧ h.f EQX_LINK EQX_LINK.missed = 2)
      let h := ((h.bump EQX_ERR EQX_ERR.hb_lost EQX_ERR.hb_sat).setF EQX_LINK EQX_LINK.missed n).updEqx fun e => { e with missedAt := some h.now }
      let h := if third && !h.flag EQX_STAT EQX_STAT.sense then h.raise EQX_IRQ_STAT EQX_IRQ_STAT.peer_lost 0 else h
      let h := if third && decide (h.role = 1) && !h.detects then
          h.withOuts fun h => h.updStp fun p => { p with outsOn := false }
        else h
      h.settleReady

/-! ### What the primary sends (R277, R278) -/

/-- A neighbour's entry as it stands. -/
def Hw.nbMirror (h : Hw) (i : Nat) : NbMirror :=
  { nb := i, cfg := h.reg (RAD_NB_CFG i), eui := h.nbEui i, txCtr := (h.reg (RAD_NB_TXCTR i)).toNat,
    txNext := h.f (RAD_NB_SEQ i) RAD_NB_SEQ.tx_next, rxCtr := (h.reg (RAD_NB_RXCTR i)).toNat,
    rxLast := h.f (RAD_NB_SEQ i) RAD_NB_SEQ.rx_last, record := h.seqRecord i }

/-- The sending counters of the lanes and the flood numbers. -/
def Hw.counterItem (h : Hw) : MirrorItem :=
  .counters ((List.range 8).map fun n => (h.reg (STP_LANE_CTR n)).toNat) ((List.range 8).map fun n => (h.reg (RAD_LANE_BCTR n)).toNat)
    (h.f STP_FLOOD_ID STP_FLOOD_ID.next_id) (h.f RAD_FLOOD_ID RAD_FLOOD_ID.next_id)

/-- The same as a list of numbers. -/
def Hw.counterList (h : Hw) : List Nat :=
  (List.range 8).map (fun n => (h.reg (STP_LANE_CTR n)).toNat) ++ (List.range 8).map (fun n => (h.reg (RAD_LANE_BCTR n)).toNat) ++
    [h.f STP_FLOOD_ID STP_FLOOD_ID.next_id, h.f RAD_FLOOD_ID RAD_FLOOD_ID.next_id]

/-- The batched items that have changed. -/
def Hw.mirrorBatch (h : Hw) : Hw :=
  if ¬h.paired ∨ h.role ≠ 2 then h
  else
    let ns := ((List.range 512).map h.nbMirror).filter fun x => decide (h.eqx.nbSent.at x.nb ≠ some x) &&
      (h.nbValid x.nb || (h.eqx.nbSent.at x.nb).isSome)
    let h := if ns.isEmpty then h else
      (h.mirror (.neighbours ns)).updEqx fun e => { e with nbSent := ns.foldl (fun m x => m.set x.nb (some x)) e.nbSent }
    if h.eqx.ctrSent = h.counterList then h
    else (h.mirror h.counterItem).updEqx fun e => { e with ctrSent := h.counterList }

/-- MIRROR_BATCH (R277). -/
def execMirrorBatch (s : State) : Host.Outcome State Fault Refusal := run s Hw.mirrorBatch

/-- The reservation engine as a snapshot carries it. -/
def Hw.rsvSnap (h : Hw) : RsvSnap :=
  { version := (h.reg RSV_GRAPH_VER).toNat, count := h.rsv.segCount, segs := h.rsv.segs, entries := h.rsv.entries, toks := h.rsv.toks,
    freed := h.rsv.freed, used := h.rsv.used, validity := h.rsv.validity, barred := h.rsv.barred, commits := h.rsv.commits,
    poison := h.rsv.poison, eccClosed := h.rsv.eccClosed }

/-- Every item of R277 as it stands. -/
def Hw.snapshotItems (h : Hw) : List MirrorItem :=
  [.rsvAll h.rsvSnap, .stop h.stopMirror, .neighbours (((List.range 512).filter h.nbValid).map h.nbMirror), h.counterItem,
    .superframe h.rad.tsf (h.reg RAD_SFNUM).toNat (h.f RAD_STAT RAD_STAT.bind_ver)
      (allRobots.map fun r => h.f (OBS_RBT_STAT r) OBS_RBT_STAT.set_tag)] ++
    (allRobots.filter fun r => (h.lth.active.at r).isSome || (h.lth.pending.at r).isSome).map
      (fun r => MirrorItem.lathe r (h.lth.active.at r) (h.lth.pending.at r)) ++
    (List.range 16).map (fun n => MirrorItem.axis n (h.axis n)) ++ [.base h.eqx.baseRecord] ++
    h.eqx.checkpoints.flatMap fun p => p.2.map fun c => MirrorItem.checkpoint p.1 c.1 c.2.1 c.2.2

/-! ### What the standby applies (R277, R278) -/

/-- The stop state of the primary, joined with the standby's own STOPA and STOPB (R282). -/
def Hw.applyStop (h : Hw) (m : StopMirror) : Hw :=
  let own := srcMask ((if (h.stp.pins.at 0).active then [1] else []) ++ (if (h.stp.pins.at 1).active then [2] else []))
  let st := if h.stpState = stpUnarmed then stpUnarmed else if m.state = stpRunning ∧ own = 0 then stpRunning else stpStopped
  h.withOuts fun h =>
    let h := (h.setF STP_STAT STP_STAT.state st).setF STP_SRC_STAT STP_SRC_STAT.latched (m.latched ||| own)
    let h := ((h.setF STP_STAT STP_STAT.reason m.reason).setF STP_STAT STP_STAT.stop_id m.stopId).setFlag STP_STAT STP_STAT.hold m.hold
    let h := h.setReg STP_EVT (BitVec.ofNat 32 m.tms)
    let h := allRobots.foldl (fun h r => h.setTgt r (m.targets.any fun t => decide (t.1 = r))) h
    h.updStp fun p => { p with
      newest := if p.fleet = m.fleet then p.newest else h.now
      fleet := m.fleet
      targets := m.targets.map fun (r, ss, reason, id, tms, hold) => ⟨r, ss, [], hold, false, reason, id, tms⟩
      permitSeq := m.permitSeq, markAt := m.markAt, marked := decide (st = stpRunning)
      outsOn := p.outsOn && decide (st = stpRunning) }

/-- A neighbour's entry of the primary. -/
def Hw.applyNb (h : Hw) (x : NbMirror) : Hw :=
  let h := (h.setReg (RAD_NB_CFG x.nb) x.cfg).setReg64 (RAD_NB_EUI_LO x.nb) x.eui
  let h := (h.setReg (RAD_NB_TXCTR x.nb) (BitVec.ofNat 32 x.txCtr)).setReg (RAD_NB_RXCTR x.nb) (BitVec.ofNat 32 x.rxCtr)
  let h := (h.setF (RAD_NB_SEQ x.nb) RAD_NB_SEQ.tx_next x.txNext).setF (RAD_NB_SEQ x.nb) RAD_NB_SEQ.rx_last x.rxLast
  h.updRad fun r => { r with records := r.records.set x.nb x.record }

/-- Apply one item through master 14. -/
def Hw.applyItem (h : Hw) : MirrorItem → Hw
  | .rsv c => h.applyRsv c
  | .rsvAll x => (h.updRsv fun r => { r with
      segs := x.segs, segCount := x.count, entries := x.entries, toks := x.toks, freed := x.freed, used := x.used, validity := x.validity,
      barred := x.barred, commits := x.commits, poison := x.poison, eccClosed := x.eccClosed }).setReg RSV_GRAPH_VER (BitVec.ofNat 32 x.version)
  | .lathe r a p => h.updLth fun l => { l with active := l.active.set r a, pending := l.pending.set r p }
  | .axis n ax => h.updAxis n fun _ => ax
  | .stop m => h.applyStop m
  | .neighbours ns => (ns.filter fun x => decide (x.nb < 512)).foldl Hw.applyNb h
  | .counters stop group sf rf =>
    let h := (stop.take 8).zipIdx.foldl (fun h p => h.setReg (STP_LANE_CTR p.2) (BitVec.ofNat 32 p.1)) h
    let h := (group.take 8).zipIdx.foldl (fun h p => h.setReg (RAD_LANE_BCTR p.2) (BitVec.ofNat 32 p.1)) h
    (h.setF STP_FLOOD_ID STP_FLOOD_ID.next_id sf).setF RAD_FLOOD_ID RAD_FLOOD_ID.next_id rf
  | .superframe tsf number ver tags =>
    let h := (h.updRad fun r => { r with tsf := tsf, started := true }).setReg RAD_SFNUM (BitVec.ofNat 32 number)
    let h := h.setF RAD_STAT RAD_STAT.bind_ver ver
    (tags.take 128).zipIdx.foldl (fun h p => h.setF (OBS_RBT_STAT (p.2 + 1)) OBS_RBT_STAT.set_tag p.1) h
  | .base r => h.updEqx fun e => e.keep (.base r)
  | .checkpoint r e c o => (h.updEqx fun x => x.keep (.checkpoint r e c o)).compareCkpt r

/-- The mirror has been lost: a new resync is asked for (R278; the request's frame: log entry 56). -/
def Hw.mirrorLost (h : Hw) : Hw :=
  let h := (h.updEqx fun e => { e with inSequence := false, resynced := false }).raise EQX_IRQ_STAT EQX_IRQ_STAT.mirror_lost 0
  (h.pairSend pairAck []).settleReady

/-- A mirror record of the primary, `lag` µs after its change (R277). -/
def Hw.mirrorRecord (h : Hw) (seq : Nat) (item : MirrorItem) (lag : Nat) : Hw :=
  if ¬h.eqx.resynced then h
  else if seq ≠ (h.eqx.applied + 1) % 2 ^ 32 then h.mirrorLost
  else
    let h := (h.applyItem item).setF EQX_MIRROR EQX_MIRROR.lag_us (min 65535 lag)
    (h.updEqx fun e => { e with applied := seq, appliedAt := h.now }).settleReady

/-- MIRROR_RECORD (R277). -/
def execMirrorRecord (seq : Word) (item : MirrorItem) (lag : Nat) (authentic : Bool) (s : State) : Host.Outcome State Fault Refusal :=
  run s fun h =>
    if ¬h.paired ∨ ¬h.linkUp ∨ h.role ≠ 1 then h
    else if ¬authentic ∨ h.ports.link.isEmpty then h.pairAuthFail
    else h.mirrorRecord seq.toNat item lag

/-- A full snapshot applied on the standby (R278). -/
def Hw.applySnapshot (h : Hw) (seq : Nat) (items : List MirrorItem) (hashes : List Word) : Hw :=
  let h := items.foldl Hw.applyItem h
  let h := (hashes.take 9).zipIdx.foldl (fun h p => h.setPeerHash p.2 p.1) h
  let h := h.updEqx fun e => { e with applied := seq, appliedAt := h.now, resynced := true, inSequence := true }
  (h.setF EQX_MIRROR EQX_MIRROR.lag_us 0).settleReady

/-- SNAPSHOT (R278): the primary sends one of every item; the standby applies the one it receives, with the sequence number it stands at and the
partner's nine partition hashes. -/
def execSnapshot (seq : Word) (items : List MirrorItem) (hashes : List Word) (authentic : Bool) (s : State) :
    Host.Outcome State Fault Refusal :=
  run s fun h =>
    if ¬h.paired ∨ ¬h.linkUp then h
    else if h.role = 2 then h.emit (.snapshot h.eqx.sent h.snapshotItems)
    else if h.role ≠ 1 then h
    else if ¬authentic ∨ h.ports.link.isEmpty then h.pairAuthFail
    else h.applySnapshot seq.toNat items hashes

/-- What a write of EQX_CTRL.resync starts: the primary sends a snapshot, the standby asks for one (R278). -/
def Hw.resync (h : Hw) : Hw :=
  if ¬h.paired then h
  else if h.role = 2 then (if h.linkUp then h.emit (.snapshot h.eqx.sent h.snapshotItems) else h)
  else ((h.updEqx fun e => { e with resynced := false }).pairSend pairAck []).settleReady

/-! ### The interlock (R279–R282) -/

/-- SENSE_HIGH (R280): EQX_SENSE reads high, or again low. -/
def execSenseHigh (high : Bool) (s : State) : Host.Outcome State Fault Refusal :=
  run s fun h =>
    (h.setFlag EQX_STAT EQX_STAT.sense high).updEqx fun e =>
      { e with senseAt := if high then (if e.senseAt.isSome then e.senseAt else some h.now) else none, heldSeen := e.heldSeen && high }

/-- TAKEOVER_DETECT (R280): the standby claims the interlock. -/
def execTakeoverDetect (s : State) : Host.Outcome State Fault Refusal :=
  run s fun h =>
    if ¬h.detects then h
    else
      let warm := h.readyNow
      let h := h.updEqx fun e => { e with detectAt := some h.now, warm := warm }
      ((h.setFlag EQX_STAT EQX_STAT.hold true).setF EQX_STAT EQX_STAT.role 3).emit (.pin "EQX_HOLD" false)

/-- The gap of R281. -/
def Hw.gap (h : Hw) : Nat := if h.eqx.warm then 1024 else min (2 ^ 32 - 1) (1024 + 10 * ((h.now - h.eqx.appliedAt) / 1000000))

/-- A counter advances by the gap, to its end at most (R281). -/
def Hw.gapCounter (g : Nat) (h : Hw) (k : Nat) : Hw := h.setReg k (BitVec.ofNat 32 (min (2 ^ 32 - 1) ((h.reg k).toNat + g)))

/-- The unit becomes primary and prepares (R281): counters, permit_seq, listen mode, the stop of a cold takeover or the inherited one. -/
def Hw.becomePrimary (h : Hw) : Hw :=
  let g := h.gap
  let releasing := h.eqx.peer.any Peer.releasing
  let h := ((List.range 8).map STP_LANE_CTR ++ (List.range 8).map RAD_LANE_BCTR ++ (List.range 512).map RAD_NB_TXCTR).foldl (Hw.gapCounter g) h
  let h := (h.setReg EQX_LAST_GAP (BitVec.ofNat 32 g)).setFlag EQX_TAKEOVER EQX_TAKEOVER.cold (!h.eqx.warm)
  let h := h.updStp fun p => { p with permitSeq := (p.permitSeq + (h.now - p.markAt) / 10000000) % 65536 }
  let h := h.setF EQX_STAT EQX_STAT.role 2
  let h := if h.stpState = stpStopped then h.latchSource 14 else h
  let h := if h.eqx.warm then h else h.fleetStop 13
  let h := (h.setFlag RAD_CFG RAD_CFG.listen false).updEqx fun e => { e with
    wdogKick := h.now, firstMark := true, flagUntil := h.now + 1000000000, switchNext := true, senseAt := none, heldSeen := false,
    nbSent := [], ctrSent := [] }
  let h := h.updFix fun f => { f with switchDue := true }
  let h := h.raise EQX_IRQ_STAT EQX_IRQ_STAT.takeover 0
  let h := if releasing then h.raise EQX_IRQ_STAT EQX_IRQ_STAT.handover_done 0 else h
  h.floorCheck.settleReady

/-- INTERLOCK_CONFIRM (R279): 50 µs after the claim EQX_SENSE is read again; if both units have claimed, unit 1 releases. -/
def execInterlockConfirm (senseHigh : Bool) (s : State) : Host.Outcome State Fault Refusal :=
  run s fun h =>
    if h.role ≠ 3 then h
    else
      let h := h.setFlag EQX_STAT EQX_STAT.sense senseHigh
      if ¬senseHigh ∧ h.f EQX_CFG EQX_CFG.unit = 1 then h.releaseHold else h.becomePrimary

/-- INTERLOCK_WATCHDOG_EXPIRY (R279): no kick for wdog_ms; Vigil releases EQX_HOLD. -/
def execInterlockWatchdogExpiry (s : State) : Host.Outcome State Fault Refusal :=
  run s fun h => if h.paired ∧ h.flag EQX_STAT EQX_STAT.hold then h.releaseHold else h

/-! ### Planned handover (R283) and the other bits of EQX_CTRL -/

/-- What a write of EQX_CTRL.handover starts. -/
def Hw.startHandover (h : Hw) : Hw :=
  if ¬h.paired ∨ h.role ≠ 2 ∨ h.eqx.handover ≠ .none then h
  else h.updEqx fun e => { e with handover := if h.flag EQX_STAT EQX_STAT.peer_ready then .waitMark else .waitReady }

/-- What a write of EQX_CTRL.clear_fault does (R280). -/
def Hw.clearFault (h : Hw) : Hw := (h.setFlag EQX_STAT EQX_STAT.interlock_fault false).updEqx fun e => { e with heldSeen := false }

/-- What a write of EQX_CTRL starts. -/
def Hw.eqxCtrlWritten (h : Hw) (v : Word) : Hw :=
  let h := if EQX_CTRL.clear_fault.get v = 1 then h.clearFault else h
  let h := if EQX_CTRL.resync.get v = 1 then h.resync else h
  if EQX_CTRL.handover.get v = 1 then h.startHandover else h

/-- A write of EQX_CTRL. -/
def Hw.eqxCtrlWrite (h : Hw) (via : BusAcc) (f : Fld) : Hw :=
  h.regWrite via EQX_CTRL (f.set 0 1) fun _ h => h.eqxCtrlWritten (f.set 0 1)

/-- HANDOVER (R283). -/
def execHandover (via : BusAcc) (s : State) : Host.Outcome State Fault Refusal := run s fun h => h.eqxCtrlWrite via EQX_CTRL.handover

/-- RESYNC (R278). -/
def execResync (via : BusAcc) (s : State) : Host.Outcome State Fault Refusal := run s fun h => h.eqxCtrlWrite via EQX_CTRL.resync

/-- CLEAR_FAULT (R280). -/
def execClearFault (via : BusAcc) (s : State) : Host.Outcome State Fault Refusal := run s fun h => h.eqxCtrlWrite via EQX_CTRL.clear_fault

/-- HANDOVER_RELEASE (R283): after the TS falling edge of the next mark the last records and a releasing heartbeat go out, and EQX_HOLD is
released. -/
def execHandoverRelease (s : State) : Host.Outcome State Fault Refusal :=
  run s fun h =>
    if h.eqx.handover ≠ .waitMark ∨ h.role ≠ 2 then h
    else ((h.mirrorBatch.sendHeartbeat true).releaseHold).raise EQX_IRQ_STAT EQX_IRQ_STAT.handover_done 0

/-- HANDOVER_TIMEOUT (R283): the partner was not ready within 1 s. -/
def execHandoverTimeout (s : State) : Host.Outcome State Fault Refusal :=
  run s fun h =>
    if h.eqx.handover = .waitReady then
      (h.updEqx fun e => { e with handover := .none }).raise EQX_IRQ_STAT EQX_IRQ_STAT.not_ready 0
    else h

/-! ### The link (R278, R284) -/

/-- PAIR_LINK_UP (R278): the primary sends a full snapshot. -/
def execPairLinkUp (s : State) : Host.Outcome State Fault Refusal :=
  run s fun h =>
    if ¬h.paired then h
    else
      let h := (h.setF EQX_LINK EQX_LINK.state 2).setF EQX_LINK EQX_LINK.missed 0
      let h := h.updEqx fun e => { e with resynced := false, inSequence := false }
      (if h.role = 2 then h.emit (.snapshot h.eqx.sent h.snapshotItems) else h).settleReady

/-- PAIR_LINK_DOWN (R284). -/
def execPairLinkDown (s : State) : Host.Outcome State Fault Refusal :=
  run s fun h =>
    let h := (h.setF EQX_LINK EQX_LINK.state 0).updEqx fun e => { e with resynced := false, inSequence := false }
    (h.setFlag EQX_STAT EQX_STAT.peer_ready false).settleReady

/-! ### Registers -/

/-- The live word of an EQX register. -/
def Hw.viewEqx (h : Hw) (k : Nat) : Word :=
  if k = EQX_STAT then EQX_STAT.mirror_ok.set (EQX_STAT.ready.set (h.reg k) h.readyNow.toNat) h.mirrorOk.toNat else h.reg k

end Sys2Proof.Machine
end

