-- ==== Sys2Proof/Machine/Update.lean ====
section
/-! DEFINITION. The Vangia image's checks (spec/02_structure_and_host_ports.md, R44–R46) and the update engine (spec/14_field_update.md,
R343–R360): sessions, pieces, verification, activation and trial, settings, the calibration set, recovery records. -/

namespace Sys2Proof.Machine

open Reg

/-! ### The checks of an image (R46) -/

/-- The stepping of the device, as R44 codes it (SYS_ID). -/
def Hw.stepping (h : Hw) : Nat := h.f SYS_ID SYS_ID.stepping

/-- The letter and digit of a stepping: a later letter, or a later digit of the same letter, is a later stepping. -/
def laterStepping (a b : Nat) : Bool := decide (a > b)

/-- The estate tag of an image or a manifest passes (R46). -/
def Hw.estateOk (h : Hw) (tag : Nat) : Bool := !h.brl.estateSet || decide (tag = h.reg64 BRL_ESTATE_LO)

/-- The checks of R46 that are neither signature, hash, estate nor stepping. -/
def imageConsistent (img : Image) : Bool :=
  decide (img.magic = 0x41474E56 ∧ img.formatVersion = 1 ∧ img.headerLength = 64 ∧ img.sectionCount = 9) &&
    decide (img.sectionIds.length = 9) && (List.range 9).all (fun i => memb i img.sectionIds) && decide (img.partitions.length = 9) &&
    !bit img.privMask 0 && [9, 12, 13, 14].all (bit img.privMask) && (bit img.privMask 15 == img.debugEnable) &&
    decide (img.spareBanks.length ≤ 1) && !memb 0 img.spareBanks && img.stopaEnabled && decide (img.stopLanes ≥ 1) && img.keysDefined &&
    (img.partitions.all fun p => p.values.all fun v =>
      !(decide (STM_GEOM 0 ≤ v.1 ∧ v.1 < STM_GEOM 48 ∧ (v.1 - STM_GEOM 0) % (STM_GEOM 1 - STM_GEOM 0) = 0)) || decide (STM_GEOM.mode.get v.2 ≠ 3))

/-- The first check that an image fails, as a reload's error code (R48, R49); 0 where it passes. -/
def Hw.imageError (h : Hw) (img : Image) : Nat :=
  if ¬img.readOk then 0x0C
  else if ¬img.signatureOk then 0x03
  else if ¬img.hashesOk then 0x04
  else if laterStepping img.minStepping h.stepping ∨ ¬h.estateOk img.estateTag then 0x06
  else if ¬imageConsistent img then 0x07
  else 0

/-- A partition of an image. -/
def imagePart (img : Image) (p : Nat) : Partition := img.partitions.getD p default

/-! ### Slots and manifests (R344, R346) -/

/-- Change the update engine. -/
def Hw.updUpd (h : Hw) (g : UpdSt → UpdSt) : Hw := { h with upd := g h.upd }

/-- The SMU unit of the update engine. -/
def updUnit : Nat := 292

/-- The start of a slot in the IMG window; `true` is slot B. -/
def slotBase (part : Nat) (b : Bool) : Nat :=
  0x0800000000 + match part, b with
    | 0, false => 0x00100000
    | 0, true => 0x00600000
    | 1, false => 0x00C00000
    | 1, true => 0x01D00000
    | _, false => 0x02E00000
    | _, true => 0x02F00000

/-- The largest image of a partition (R343). -/
def largestImage (part : Nat) : Nat := if part = 0 then 0x400000 else if part = 1 then 0x1000000 else 0x40000

/-- Fields of a manifest. -/
def mfPart (m : List Byte) : Nat := fieldAt m 5 1
def mfCount (m : List Byte) : Nat := fieldAt m 6 2
def mfVersion (m : List Byte) : Nat := fieldAt m 8 4
def mfLength (m : List Byte) : Nat := fieldAt m 12 4
def mfFormat (m : List Byte) : Nat := fieldAt m 17 1
def mfHash (m : List Byte) : List Byte := (m.drop 40).take 32

/-- Magic, format, partition, piece count and the octets that are zero (R346). -/
def mfSound (m : List Byte) : Bool :=
  decide (m.length = 256 ∧ fieldAt m 0 4 = 0x50554C46 ∧ fieldAt m 4 1 = 1 ∧ mfPart m ≤ 2) &&
    decide (mfLength m ≠ 0 ∧ mfCount m = (mfLength m + 4095) / 4096) && zeroAt m 18 2 && zeroAt m 38 2 && zeroAt m 72 120 &&
    (decide (mfPart m = 1) || decide (mfFormat m = 0))

/-- The boot-ROM key of the stepping, as a point (R330). -/
def bootRomKey : Point := readPoint ((List.range 64).map Config.bootRomKey)

/-- A manifest's signature verifies: under slot 0, its staged shadow, or while Burl is open the boot-ROM key (R330, R349, R357). -/
def Hw.mfSigned (h : Hw) (m : List Byte) : Bool :=
  let d := sha256 (m.take 192)
  let sig := m.drop 192
  ecdsaVerify (readPoint (h.fixedKey 0)) d sig || ((h.shadow 0).any fun x => ecdsaVerify (readPoint x.key) d sig) ||
    (decide (h.brlState = brlOpen) && ecdsaVerify bootRomKey d sig)

/-- The GCM nonce and additional data of a piece (R347). -/
def pieceNonce (m : List Byte) (i : Nat) : List Byte := (m.drop 28).take 10 ++ leBytes 2 i
def pieceAad (m : List Byte) (i : Nat) : List Byte := mfHash m ++ leBytes 2 i

/-- The plaintext of a piece, where its tag verifies under slot 4; while slot 4 is empty and Burl open, a manifest whose nonce_base is zero is
read as plaintext (R330, R347). -/
def Hw.pieceOpen (h : Hw) (m : List Byte) (i : Nat) (c tag : List Byte) : Option (List Byte) :=
  let key := h.fixedKey 4
  if key.isEmpty then
    if h.brlState = brlOpen ∧ zeroAt m 28 12 then some c else none
  else gcmDec key (pieceNonce m i) (pieceAad m i) c tag

/-- The manifest in a slot. -/
def Hw.slotManifest (h : Hw) (part : Nat) (b : Bool) : List Byte := h.flashRead (slotBase part b) 256

/-- The plaintext of a slot as its pieces stand in flash; none where a tag fails (R351). -/
def Hw.slotPlain (h : Hw) (part : Nat) (b : Bool) (m : List Byte) : Option (List Byte) :=
  let base := slotBase part b
  ((List.range (mfCount m)).foldl (fun (acc : Option (List Byte)) i =>
    match acc, h.pieceOpen m i (h.flashRead (base + 0x20000 + 4096 * i) 4096) (h.flashRead (base + 0x1000 + 16 * i) 16) with
    | some a, some p => some (a ++ p)
    | _, _ => none) (some [])).map fun bs => bs.take (mfLength m)

/-- A slot's pieces decrypt and hash to its manifest's image_hash (R351). -/
def Hw.slotHashOk (h : Hw) (part : Nat) (b : Bool) : Bool :=
  let m := h.slotManifest part b
  match h.slotPlain part b m with
  | some p => decide (sha256 p = mfHash m)
  | none => false

/-! ### The activation record (R352) -/

/-- The activation record in force; with no valid copy it is the record of a blank device: slot A of every partition. -/
def UpdSt.act (u : UpdSt) : ActCopy :=
  match u.act0.ok, u.act1.ok with
  | true, true => if u.act0.counter ≥ u.act1.counter then u.act0 else u.act1
  | true, false => u.act0
  | false, true => u.act1
  | false, false => ⟨false, 0, [default, default, default]⟩

/-- A partition's entry. -/
def Hw.actPart (h : Hw) (p : Nat) : ActPart := h.upd.act.parts.getD p default

/-- Write the record with one partition changed, into the copy that does not hold the higher valid counter. -/
def Hw.actWrite (h : Hw) (p : Nat) (x : ActPart) : Hw :=
  let a := h.upd.act
  let c : ActCopy := ⟨true, (a.counter + 1) % 2 ^ 32, a.parts.set p x⟩
  let to0 := match h.upd.act0.ok, h.upd.act1.ok with
    | true, true => decide (h.upd.act0.counter < h.upd.act1.counter)
    | true, false => false
    | _, _ => true
  (h.updUpd fun u => if to0 then { u with act0 := c } else { u with act1 := c }).setReg UPD_ACT_CTR (BitVec.ofNat 32 c.counter)

/-! ### Results -/

/-- Result codes (UPD_RES.code). -/
def resOk : Nat := 0x00
def resBad : Nat := 0x01
def resSignature : Nat := 0x02
def resEstate : Nat := 0x03
def resFloor : Nat := 0x04
def resTooLarge : Nat := 0x05
def resSessionBusy : Nat := 0x06
def resUnknown : Nat := 0x07
def resTag : Nat := 0x08
def resDup : Nat := 0x09
def resHash : Nat := 0x0A
def resStructure : Nat := 0x0B
def resNotReady : Nat := 0x0C
def resFlash : Nat := 0x0D
def resBusy : Nat := 0x0E
def resNoTrial : Nat := 0x0F
def resSettings : Nat := 0x10

/-- Set the result code. -/
def Hw.updCode (h : Hw) (c : Nat) : Hw := h.setF UPD_RES UPD_RES.code c

/-- Set the result of a record. -/
def Hw.updRes (h : Hw) (type piece c : Nat) : Hw := (h.setReg UPD_RES (UPD_RES.piece.set (UPD_RES.rec_type.set 0 type) piece)).updCode c

/-- A record is refused. -/
def Hw.updRefuse (h : Hw) (type piece c : Nat) : Hw :=
  ((h.updRes type piece c).bump UPD_ERR UPD_ERR.refused UPD_ERR.refused_sat).raise UPD_IRQ_STAT UPD_IRQ_STAT.refused 0

/-- Phases of a session (UPD_STAT.state). -/
def phIdle : Nat := 0
def phErasing : Nat := 1
def phReceiving : Nat := 2
def phVerifying : Nat := 3
def phReady : Nat := 4
def phFailed : Nat := 5

/-- A session fails: its slot stays invalid. -/
def Hw.sessionFailed (h : Hw) (c : Nat) : Hw :=
  ((h.updUpd fun u => { u with phase := phFailed, writing := false, fails := 0, inHand := none }).updCode c).raise UPD_IRQ_STAT UPD_IRQ_STAT.failed 0

/-- A program or erase has failed: the third time ends the session with flash error (R351). -/
def Hw.flashFailed (h : Hw) : Hw :=
  if h.upd.fails + 1 ≥ 3 then (h.sessionFailed resFlash).raise UPD_IRQ_STAT UPD_IRQ_STAT.flash_err 0
  else h.updUpd fun u => { u with fails := u.fails + 1 }

/-! ### Sessions (R349) -/

/-- The blocks of 64 KiB that a session erases: manifest and tag area, and what the length needs. -/
def eraseBlocks (len : Nat) : List Nat := List.range (2 + (len + 65535) / 65536)

/-- The checks of a manifest that opens a session, in the order of R349. -/
def Hw.manifestError (h : Hw) (m : List Byte) : Nat :=
  if ¬h.mfSigned m then resSignature
  else if ¬mfSound m then resBad
  else if ¬h.estateOk (fieldAt m 20 8) ∨ laterStepping (fieldAt m 16 1) h.stepping then resEstate
  else if mfVersion m < (h.actPart (mfPart m)).floor then resFloor
  else if mfLength m > largestImage (mfPart m) then resTooLarge
  else if ¬h.slotValid 4 then resNotReady
  else resOk

/-- A manifest record. -/
def Hw.takeManifest (h : Hw) (m : List Byte) : Hw :=
  match h.upd.session with
  | some s => if mfHash m = mfHash s.manifest then h.updRes 1 0 resOk else h.updRefuse 1 0 resSessionBusy
  | none =>
    let e := h.manifestError m
    if e ≠ resOk then h.updRefuse 1 0 e
    else
      let p := mfPart m
      let b := !(h.actPart p).active
      let s : Session := ⟨m, p, b, eraseBlocks (mfLength m), [], []⟩
      (h.updUpd fun u => { u with
        session := some s, phase := phErasing, writing := true, fails := 0, pieces := [],
        versions := u.versions.set (2 * p + b.toNat) none }).updRes 1 0 resOk

/-- ERASE_COMPLETE (R349): blocks of the target slot are erased; with the last one the session receives. The manifest and the slot's layout
are then programmed. -/
def execEraseComplete (result : FlashResult) (blocks : Nat) (s : State) : Host.Outcome State Fault Refusal :=
  run s fun h =>
    match h.upd.session with
    | none => h
    | some x =>
      if h.upd.phase ≠ phErasing ∨ h.isParked updUnit then h
      else if result ≠ .ok then h.flashFailed
      else
        let base := slotBase x.part x.slot
        let h := (x.toErase.take blocks).foldl (fun h b => h.flashErase (base + 65536 * b) 65536) h
        let rest := x.toErase.drop blocks
        let h := h.updUpd fun u => { u with session := some { x with toErase := rest }, fails := 0 }
        if rest.isEmpty then (h.flashBytes base x.manifest).updUpd fun u => { u with phase := phReceiving, writing := false } else h

/-! ### Pieces and fragments (R348, R350) -/

/-- A session identifier matches (R348). -/
def Session.isId (x : Session) (id : Nat) : Bool := decide (fieldAt (mfHash x.manifest) 0 2 = id)

/-- A piece: its checks, and its programming (R350). -/
def Hw.takePiece (h : Hw) (type id i : Nat) (body : List Byte) (result : FlashResult) (rec : List Byte) : Hw :=
  match h.upd.session with
  | none => h.updRefuse type i resUnknown
  | some x =>
    if ¬x.isId id ∨ h.upd.phase ≠ phReceiving then h.updRefuse type i resUnknown
    else if i ≥ mfCount x.manifest then h.updRefuse type i resBad
    else if memb i x.got then (h.updRefuse type i resDup).bump UPD_ERR UPD_ERR.dup UPD_ERR.dup_sat
    else
      let c := body.take 4096
      let tag := body.drop 4096
      if (h.pieceOpen x.manifest i c tag).isNone then
        (h.updRefuse type i resTag).bump UPD_ERR UPD_ERR.tag_fail UPD_ERR.tag_sat
      else if result ≠ .ok then (h.updUpd fun u => { u with inHand := some rec }).flashFailed
      else
        let base := slotBase x.part x.slot
        let h := (h.flashBytes (base + 0x20000 + 4096 * i) c).flashBytes (base + 0x1000 + 16 * i) tag
        let got := x.got ++ [i]
        let h := (h.updUpd fun u => { u with session := some { x with got := got }, fails := 0, inHand := none }).updRes type i resOk
        if got.length = mfCount x.manifest then h.updUpd fun u => { u with phase := phVerifying } else h

/-- A fragment joins its piece; a fifth piece discards the oldest incomplete one (R348). The piece is taken once it is whole. -/
def Hw.takeFragment (h : Hw) (n id i : Nat) (body : List Byte) (result : FlashResult) (rec : List Byte) : Hw :=
  match h.upd.session with
  | none => h.updRefuse 3 i resUnknown
  | some x =>
    if ¬x.isId id ∨ h.upd.phase ≠ phReceiving then h.updRefuse 3 i resUnknown
    else
      let known := h.upd.pieces.any fun p => decide (p.index = i)
      let ps := if known then h.upd.pieces else (if h.upd.pieces.length ≥ 4 then h.upd.pieces.drop 1 else h.upd.pieces) ++ [⟨i, []⟩]
      let ps := ps.map fun p => if p.index = i then { p with frags := p.frags.set n (some body) } else p
      let whole := ((ps.find? fun p => decide (p.index = i)).map PieceBuf.frags).getD []
      if (List.range 33).all fun k => (whole.at k).isSome then
        let h := h.updUpd fun u => { u with pieces := ps.filter fun p => decide (p.index ≠ i) }
        h.takePiece 3 id i ((List.range 33).flatMap fun k => (whole.at k).getD []) result rec
      else (h.updUpd fun u => { u with pieces := ps }).updRes 3 i resOk

/-! ### Settings (R355) -/

/-- The settings record in force: the valid copy of the higher generation. -/
def UpdSt.settings (u : UpdSt) : Settings :=
  match u.set0.ok, u.set1.ok with
  | true, true => if u.set0.gen ≥ u.set1.gen then u.set0 else u.set1
  | true, false => u.set0
  | false, true => u.set1
  | false, false => default

/-- Write a settings record into the copy that does not hold the higher valid generation. -/
def Hw.settingsWrite (h : Hw) (format : Nat) (octets : List Byte) : Hw :=
  let c : Settings := ⟨true, (h.upd.settings.gen + 1) % 2 ^ 32, format, octets⟩
  let to0 := match h.upd.set0.ok, h.upd.set1.ok with
    | true, true => decide (h.upd.set0.gen < h.upd.set1.gen)
    | true, false => false
    | _, _ => true
  h.updUpd fun u => if to0 then { u with set0 := c } else { u with set1 := c }

/-- The settings_format of the active Application image. -/
def Hw.appFormat (h : Hw) : Nat := mfFormat (h.slotManifest 1 (h.actPart 1).active)

/-- A settings record. -/
def Hw.takeSettings (h : Hw) (body : List Byte) (result : FlashResult) (rec : List Byte) : Hw :=
  let format := fieldAt body 0 2
  let l := fieldAt body 2 2
  if body.length ≠ 4 + l ∨ l = 0 ∨ l > 16372 then h.updRefuse 4 0 resBad
  else if format ≠ h.appFormat then h.updRefuse 4 0 resSettings
  else if result ≠ .ok then
    if h.upd.fails + 1 ≥ 3 then ((h.updUpd fun u => { u with fails := 0, inHand := none }).updRefuse 4 0 resFlash).raise UPD_IRQ_STAT UPD_IRQ_STAT.flash_err 0
    else h.updUpd fun u => { u with fails := u.fails + 1, inHand := some rec }
  else ((h.settingsWrite format (body.drop 4)).updUpd fun u => { u with fails := 0, inHand := none }).updRes 4 0 resOk

/-! ### Records (R348) -/

/-- The header of a record is sound and its length is right. -/
def recordSound (r : List Byte) : Bool :=
  let t := fieldAt r 0 1
  let n := fieldAt r 1 1
  decide (r.length ≥ 8) && zeroAt r 6 2 && match t with
    | 1 => decide (n = 0 ∧ r.length = 264) && zeroAt r 2 4
    | 2 => decide (n = 0 ∧ r.length = 8 + 4112)
    | 3 => decide (n ≤ 32 ∧ r.length = 8 + (if n = 32 then 16 else 128))
    | 4 => decide (n = 0 ∧ r.length ≥ 12) && zeroAt r 2 4
    | _ => false

/-- The row that a record's type belongs to; a record of no known type is refused in the row of manifests. -/
def recordRow (r : List Byte) : Nat := if 2 ≤ fieldAt r 0 1 ∧ fieldAt r 0 1 ≤ 4 then fieldAt r 0 1 else 1

/-- The update engine takes a record (R348, R349, R350, R355). -/
def Hw.updRecord (h : Hw) (r : List Byte) (result : FlashResult) : Hw :=
  let t := fieldAt r 0 1
  let i := fieldAt r 4 2
  if ¬h.flag UPD_CFG UPD_CFG.enable ∧ ¬h.upd.recovery then h.updRefuse t i resBusy
  else if h.upd.flashSmall then h.updRefuse t i resFlash
  else if ¬recordSound r then h.updRefuse t i resBad
  else
    let body := r.drop 8
    match t with
    | 1 => h.takeManifest body
    | 2 => h.takePiece 2 (fieldAt r 2 2) i body result r
    | 3 => h.takeFragment (fieldAt r 1 1) (fieldAt r 2 2) i body result r
    | _ => h.takeSettings body result r

/-- The next record of a type: the one in hand after a failed program, else the intake FIFO's next packet (R348). -/
def Hw.updIntake (h : Hw) (row : Nat) (result : FlashResult) : Hw :=
  if h.isParked updUnit then h
  else match h.upd.inHand with
    | some r => if recordRow r = row then (h.updUpd fun u => { u with inHand := none }).updRecord r result else h
    | none =>
      match h.takePacket (h.f UPD_CFG UPD_CFG.in_fifo) 512 with
      | none => h
      | some (p, _, h') =>
        if recordRow p.octets ≠ row then h
        else if p.abort then h'.updRefuse (fieldAt p.octets 0 1) (fieldAt p.octets 4 2) resBad
        else h'.updRecord p.octets result

/-- MANIFEST (R349). -/
def execManifest (s : State) : Host.Outcome State Fault Refusal := run s fun h => h.updIntake 1 .ok

/-- PIECE (R350). -/
def execPiece (result : FlashResult) (s : State) : Host.Outcome State Fault Refusal := run s fun h => h.updIntake 2 result

/-- FRAGMENT (R348). -/
def execFragment (result : FlashResult) (s : State) : Host.Outcome State Fault Refusal := run s fun h => h.updIntake 3 result

/-- SETTINGS_RECORD (R355). -/
def execSettingsRecord (result : FlashResult) (s : State) : Host.Outcome State Fault Refusal := run s fun h => h.updIntake 4 result

/-! ### Verification (R351) -/

/-- VERIFY_COMPLETE (R351): every piece decrypts and hashes to image_hash; of a structure image, the checks of R46. -/
def execVerifyComplete (image : Image) (s : State) : Host.Outcome State Fault Refusal :=
  run s fun h =>
    match h.upd.session with
    | none => h
    | some x =>
      if h.upd.phase ≠ phVerifying ∨ h.isParked updUnit then h
      else if ¬h.slotHashOk x.part x.slot then h.sessionFailed resHash
      else if x.part = 0 ∧ (h.imageError image ≠ 0 ∨ image.imageVersion.toNat ≠ mfVersion x.manifest) then h.sessionFailed resStructure
      else
        let x := if x.part = 0 then { x with foundation := (imagePart image 0).hash } else x
        ((h.updUpd fun u => { u with
          session := some x, phase := phReady,
          versions := u.versions.set (2 * x.part + x.slot.toNat) (some (mfVersion x.manifest)) }).updCode resOk).raise UPD_IRQ_STAT UPD_IRQ_STAT.ready 0

/-! ### Activation, confirmation, rollback (R353, R354) -/

/-- A reload is verifying, waiting or applying. -/
def Hw.reloadBusy (h : Hw) : Bool :=
  decide (1 ≤ h.f CFG_RELOAD_STAT CFG_RELOAD_STAT.state ∧ h.f CFG_RELOAD_STAT CFG_RELOAD_STAT.state ≤ 3)

/-- Activate the ready session's partition. -/
def Hw.activate (h : Hw) (p : Nat) : Hw :=
  match h.upd.session with
  | none => h.updCode resNotReady
  | some x =>
    if h.upd.phase ≠ phReady ∨ x.part ≠ p then h.updCode resNotReady
    else if p = 0 ∧ h.reloadBusy then h.updCode resBusy
    else
      let a := h.actPart p
      let h := h.actWrite p { a with
        active := x.slot, trial := true, tries := max 1 (h.f UPD_CFG UPD_CFG.tries), prev := if a.trial then a.prev else a.active }
      let atOnce := decide (p = 0 ∧ x.foundation = (imagePart h.cfg.image 0).hash)
      let h := if atOnce then h.setFlag CFG_IMG_STAT CFG_IMG_STAT.slot x.slot else h
      let h := h.updUpd fun u => { u with
        session := none, phase := phIdle, pieces := [], rollbackDue := without p u.rollbackDue,
        liveStructure := if p = 0 then atOnce else u.liveStructure }
      (h.updCode resOk).raise UPD_IRQ_STAT UPD_IRQ_STAT.activated p

/-- Confirm a partition in trial: the rollback floor rises. -/
def Hw.confirm (h : Hw) (p : Nat) : Hw :=
  let a := h.actPart p
  if ¬a.trial then h.updCode resNoTrial
  else
    let v := (h.upd.versions.at (2 * p + a.active.toNat)).getD 0
    ((h.actWrite p { a with trial := false, tries := 0, floor := max a.floor v }).updUpd fun u => { u with
      rollbackDue := without p u.rollbackDue }).updCode resOk

/-- Roll a partition back to its previous slot, with its record in the Almanac (R354, R363). -/
def Hw.rollBack (h : Hw) (p : Nat) : Hw :=
  let a := h.actPart p
  let h := h.actWrite p { a with active := a.prev, trial := false, tries := 0 }
  let h := h.updUpd fun u => { u with rollbackDue := without p u.rollbackDue }
  (h.event (srcOf 0x18 0) 0x0012 (BitVec.ofNat 32 p) (BitVec.ofNat 32 a.prev.toNat) 0).raise UPD_IRQ_STAT UPD_IRQ_STAT.rolled_back p

/-- A rollback asked for: at the next reset, or at once for a Structure partition activated at once. -/
def Hw.rollbackAsked (h : Hw) (p : Nat) : Hw :=
  if ¬(h.actPart p).trial then h.updCode resNoTrial
  else if p = 0 ∧ h.upd.liveStructure then
    let h := h.rollBack 0
    ((h.setFlag CFG_IMG_STAT CFG_IMG_STAT.slot (h.actPart 0).active).updUpd fun u => { u with liveStructure := false }).updCode resOk
  else (h.updUpd fun u => { u with rollbackDue := without p u.rollbackDue ++ [p] }).updCode resOk

/-- Abandon the session: its area is cleared, its slot stays invalid. -/
def Hw.abandonSession (h : Hw) : Hw :=
  match h.upd.session with
  | none => h.updCode resNotReady
  | some x =>
    (h.updUpd fun u => { u with
      session := none, phase := phIdle, writing := false, pieces := [], inHand := none, fails := 0,
      versions := u.versions.set (2 * x.part + x.slot.toNat) none }).updCode resOk

/-- Verify the session's slot at once. -/
def Hw.verifyNow (h : Hw) : Hw :=
  if h.upd.session.isSome ∧ h.upd.phase = phReceiving then h.updUpd fun u => { u with phase := phVerifying } else h.updCode resNotReady

/-- A write of UPD_CTRL. -/
def Hw.updCtrl (h : Hw) (v : Word) : Hw :=
  let p := UPD_CTRL.partition.get v
  let keyed := decide (UPD_CTRL.key.get v = 0x0D5A)
  let known := decide (p ≤ 2)
  let h := if UPD_CTRL.verify.get v = 1 then h.verifyNow else h
  let h := if UPD_CTRL.abandon.get v = 1 ∧ keyed then h.abandonSession else h
  let h := if UPD_CTRL.activate.get v = 1 then (if known then h.activate p else h.updCode resNotReady) else h
  let h := if UPD_CTRL.confirm.get v = 1 then (if known then h.confirm p else h.updCode resNoTrial) else h
  let h := if UPD_CTRL.rollback.get v = 1 then (if known then h.rollbackAsked p else h.updCode resNoTrial) else h
  if UPD_CTRL.recovery.get v = 1 ∧ keyed then h.updUpd fun u => { u with recoverNext := true } else h

/-- Write a value to UPD_CTRL. -/
def Hw.ctrlUpd (h : Hw) (via : BusAcc) (v : Nat) : Hw :=
  h.regWrite via UPD_CTRL (BitVec.ofNat 32 v) fun _ h => h.updCtrl (BitVec.ofNat 32 v)

/-- ACTIVATE (R353). -/
def execActivate (via : BusAcc) (partition : Fin 4) (s : State) : Host.Outcome State Fault Refusal :=
  run s fun h => h.ctrlUpd via (2 ^ 31 + partition.val * 2 ^ 16)

/-- CONFIRM (R354). -/
def execConfirm (via : BusAcc) (partition : Fin 4) (s : State) : Host.Outcome State Fault Refusal :=
  run s fun h => h.ctrlUpd via (2 ^ 30 + partition.val * 2 ^ 16)

/-- ROLLBACK (R354). -/
def execRollback (via : BusAcc) (partition : Fin 4) (s : State) : Host.Outcome State Fault Refusal :=
  run s fun h => h.ctrlUpd via (2 ^ 29 + partition.val * 2 ^ 16)

/-- ABANDON (R349). -/
def execAbandon (via : BusAcc) (key : BitVec 16) (s : State) : Host.Outcome State Fault Refusal :=
  run s fun h => h.ctrlUpd via (2 ^ 28 + key.toNat)

/-- RECOVERY (R359). -/
def execRecovery (via : BusAcc) (key : BitVec 16) (s : State) : Host.Outcome State Fault Refusal :=
  run s fun h => h.ctrlUpd via (2 ^ 27 + key.toNat)

/-- UPD_VERIFY (R351). -/
def execUpdVerify (via : BusAcc) (s : State) : Host.Outcome State Fault Refusal := run s fun h => h.ctrlUpd via (2 ^ 26)

/-! ### Recovery records (R360) -/

/-- The length in octets that a recovery record states by its type, once enough of it has been written. -/
def statedLength (r : List Byte) : Option Nat :=
  match fieldAt r 0 1 with
  | 1 => some 264
  | 2 => some 4120
  | 3 => some (8 + (if fieldAt r 1 1 = 32 then 16 else 128))
  | 4 => if r.length ≥ 12 then some (12 + fieldAt r 10 2) else none
  | _ => some 8

/-- A word written to UPD_RCV_DATA; the one that completes a record submits it. -/
def Hw.rcvWord (h : Hw) (v : Word) : Hw :=
  if ¬h.upd.recovery then h
  else
    let r := h.upd.rcv ++ leBytes 4 v.toNat
    match statedLength r with
    | some n => if r.length ≥ n then (h.updUpd fun u => { u with rcv := [] }).updRecord (r.take n) .ok else h.updUpd fun u => { u with rcv := r }
    | none => h.updUpd fun u => { u with rcv := r }

/-- The device's MAC address in recovery: 02 and the low five octets of BRL_ID. -/
def Hw.recoveryMac (h : Hw) : List Byte := (0x02 : Byte) :: h.identity.take 5

/-- A record sent on E0, answered with its header and the result code (log entry 64). -/
def Hw.rcvFrame (h : Hw) (fr : List Byte) : Hw :=
  if ¬h.upd.recovery ∨ fr.take 6 ≠ h.recoveryMac ∨ (fr.drop 12).take 2 ≠ [0x88, 0xB6] then h
  else
    let r := fr.drop 14
    let r := match statedLength r with
      | some n => r.take n
      | none => r
    let h := h.updRecord r .ok
    h.emit (.eth 0 ((fr.drop 6).take 6 ++ h.recoveryMac ++ [0x88, 0xB6] ++ r.take 6 ++ leBytes 1 (h.f UPD_RES UPD_RES.code) ++ [0]))

/-- RECOVERY_RECORD (R360). -/
def execRecoveryRecord (src : RecoverySource) (s : State) : Host.Outcome State Fault Refusal :=
  run s fun h =>
    match src with
    | .word via v => h.regWrite via UPD_RCV_DATA v fun _ h => h.rcvWord v
    | .frame fr => h.rcvFrame fr

/-! ### The calibration set (R345) -/

/-- The cal fields' registers in ascending block and offset order, with the field that is calibration. -/
def calFields : List (Nat × Fld) :=
  ((List.range 14).map fun i => (GNS_GLO_IFB i, (⟨0, 32⟩ : Fld))) ++ [(GNS_GLO_CPB, ⟨0, 32⟩)] ++
    ((List.range 7).flatMap fun c => [(MTR_CH_GAIN c, MTR_CH_GAIN.gain), (MTR_CH_DELAY c, MTR_CH_DELAY.delay), (MTR_CH_OFS c, MTR_CH_OFS.offset)])

/-- The entries of the set as its registers stand. -/
def Hw.calEntries (h : Hw) : List Byte :=
  calFields.flatMap fun p => leBytes 1 (p.1 / 0x10000) ++ [0] ++ leBytes 2 (p.1 % 0x10000) ++ leBytes 4 (h.f p.1 p.2)

/-- The octets of a copy with a generation; the CRC-32 is over header and entries, with its field taken as zero. -/
def calCopy (gen count : Nat) (entries : List Byte) : List Byte :=
  let head := leBytes 4 0x4C414346 ++ [1, 0] ++ leBytes 2 count ++ leBytes 4 gen
  head ++ leBytes 4 (crc32 (head ++ [0, 0, 0, 0] ++ entries)) ++ entries

/-- Where a copy lies. -/
def calBase (n : Nat) : Nat := 0x0800000000 + 0x28000 + 0x2000 * n

/-- A copy's generation, where it is valid. -/
def Hw.calGen (h : Hw) (n : Nat) : Option Nat :=
  let head := h.flashRead (calBase n) 16
  let count := fieldAt head 6 2
  if count > 1022 then none
  else
    let entries := h.flashRead (calBase n + 16) (8 * count)
    if head ++ entries = calCopy (fieldAt head 8 4) count entries then some (fieldAt head 8 4) else none

/-- The valid copy of the higher generation. -/
def Hw.calNewest (h : Hw) : Option (Nat × Nat) :=
  match h.calGen 0, h.calGen 1 with
  | some a, some b => if a ≥ b then some (0, a) else some (1, b)
  | some a, none => some (0, a)
  | none, some b => some (1, b)
  | none, none => none

/-- Load every cal field from the set; with neither copy valid they start at 0 and the Almanac is told. -/
def Hw.calLoad (h : Hw) : Hw :=
  match h.calNewest with
  | none => h.event (srcOf 0x18 0) 0x0015 3 0 0
  | some (n, _) =>
    let count := fieldAt (h.flashRead (calBase n) 16) 6 2
    (List.range count).foldl (fun h i =>
      let e := h.flashRead (calBase n + 16 + 8 * i) 8
      match calFields.find? fun p => decide (p.1 = fieldAt e 0 1 * 0x10000 + fieldAt e 2 2) with
      | some (k, f) => h.setF k f (fieldAt e 4 4)
      | none => h) h

/-- A cal field has been written: the set is to be written within 1 s. -/
def Hw.calWritten (h : Hw) : Hw := (h.updUpd fun u => { u with calDue := true }).setFlag MTR_CAL_STAT MTR_CAL_STAT.pending true

/-- CAL_PERSIST (R345): the set goes into the other copy with the next generation. -/
def execCalPersist (s : State) : Host.Outcome State Fault Refusal :=
  run s fun h =>
    if ¬h.upd.calDue then h
    else
      let (n, gen) : Nat × Nat := match h.calNewest with
        | some (k, g) => (1 - k, (g + 1) % 2 ^ 32)
        | none => (0, 1)
      let h := (h.flashErase (calBase n) 8192).flashBytes (calBase n) (calCopy gen calFields.length h.calEntries)
      (h.updUpd fun u => { u with calDue := false }).setFlag MTR_CAL_STAT MTR_CAL_STAT.pending false

/-! ### Registers -/

/-- Abort the update engine's parked record (R86): the record in hand ends refused. -/
def Hw.updAbort (h : Hw) : Hw := (h.updUpd fun u => { u with inHand := none }).unitNormal updUnit

/-- The live word of an update register. -/
def Hw.viewUpd (h : Hw) (k : Nat) : Word :=
  let u := h.upd
  if k = UPD_STAT then
    let st := if u.recovery then 6 else if u.flashSmall then phFailed else u.phase
    match u.session with
    | some x => UPD_STAT.state.set (UPD_STAT.partition.set (UPD_STAT.session.set 0 (fieldAt (mfHash x.manifest) 0 2)) x.part) st
    | none => UPD_STAT.state.set 0 st
  else if k = UPD_PROG then
    match u.session with
    | some x => UPD_PROG.received.set (UPD_PROG.total.set 0 (mfCount x.manifest)) x.got.length
    | none => 0
  else if UPD_BITMAP 0 ≤ k ∧ k < UPD_BITMAP 128 then
    let w := (k - UPD_BITMAP 0) / 4
    match u.session with
    | some x => BitVec.ofNat 32 (x.got.foldl (fun n i => if i / 32 = w then n + 2 ^ (i % 32) else n) 0)
    | none => 0
  else if UPD_PART_STAT 0 ≤ k ∧ k < UPD_PART_STAT 3 then
    let p := (k - UPD_PART_STAT 0) / 16
    let a := h.actPart p
    let ver := fun (b : Bool) => u.versions.at (2 * p + b.toNat)
    match k % 16 with
    | 0 => BitVec.ofNat 32 (a.active.toNat * 2 ^ 31 + a.trial.toNat * 2 ^ 30 + a.tries % 16 * 2 ^ 26 + (ver false).isSome.toNat * 2 ^ 25 +
        (ver true).isSome.toNat * 2 ^ 24)
    | 4 => BitVec.ofNat 32 ((ver a.active).getD 0)
    | 8 => BitVec.ofNat 32 a.floor
    | _ => BitVec.ofNat 32 ((ver !a.active).getD 0)
  else h.reg k

end Sys2Proof.Machine
end

