-- ==== Sys2Proof/Machine/Meter.lean ====
section
/-! DEFINITION. Charging-yard metering (spec/12_metering.md, R304–R320): conversion frames, quantities, the mains axis, supply status, energy
accumulators, pulse outputs, saves and the last gasp. -/

namespace Sys2Proof.Machine

open Reg

/-- Change the meter. -/
def Hw.updMtr (h : Hw) (g : MtrSt → MtrSt) : Hw := { h with mtr := g h.mtr }

/-- Conversion runs. -/
def Hw.mtrOn (h : Hw) : Bool := h.flag MTR_CFG MTR_CFG.enable

/-- CH_STAT.state: 1 ok, 2 faulted, 3 retired. -/
def Hw.chState (h : Hw) (c : Nat) : Nat := h.f (MTR_CH_STAT c) MTR_CH_STAT.state

/-- A phase is in service: neither its voltage nor its current channel is retired (R306). -/
def Hw.phaseUp (h : Hw) (g : Nat) : Bool := decide (h.chState g ≠ 3 ∧ h.chState (g + 3) ≠ 3)

/-- The phases in service. -/
def Hw.phasesUp (h : Hw) : List Nat := [0, 1, 2].filter h.phaseUp

/-- MTR_STAT.state: off, running, degraded. -/
def Hw.mtrState (h : Hw) : Nat :=
  if ¬h.mtrOn then 0 else if (List.range 7).any fun c => decide (h.chState c = 3) then 2 else 1

/-! ### Channels (R305, R306) -/

/-- One step of a filter of a channel: its next state is kept. -/
def Hw.filterStep (h : Hw) (slot : Nat) (kind : List Nat) (x : Int) : Hw × Int :=
  let (st, y) := Config.meterFilter kind (h.mtr.filters.at slot) x
  (h.updMtr fun m => { m with filters := m.filters.set slot st }, y)

/-- A channel's value in volts or amperes in units of 2^-32, from its sample: offset, integration and delay, gain (R305). The filters give
2^-16 of a sample's least bit. -/
def Hw.condition (h : Hw) (c : Nat) (x : Int) : Hw × Int :=
  let d := h.reg (MTR_CH_DELAY c)
  let integ := if 3 ≤ c then MTR_CH_DELAY.integ.get d else 0
  let (h, y) := h.filterStep (2 * c) [0, integ, MTR_CH_DELAY.delay.get d] (x - toInt 24 (h.f (MTR_CH_OFS c) MTR_CH_OFS.offset))
  (h, y * f32.scaled (h.reg (MTR_CH_GAIN c)).toNat / 2 ^ 156)

/-- A voltage shifted by 90° (R307). -/
def Hw.shift90 (h : Hw) (c : Nat) (v : Int) : Hw × Int := h.filterStep (2 * c + 1) [1] v

/-- The sample of a channel that a frame uses: that of a stalled modulator is the previous one (R306). -/
def Hw.sampleOf (h : Hw) (c : Nat) (s : List Int) : Int := if memb c h.mtr.stalled then h.mtr.prev.getD c 0 else s.getD c 0

/-- A sample at either end of the range is counted (R306). -/
def Hw.countClip (h : Hw) (c : Nat) (x : Int) : Hw :=
  if x ≥ 2 ^ 23 - 1 ∨ x ≤ -(2 ^ 23) then h.bump (MTR_CH_STAT c) MTR_CH_STAT.clip MTR_CH_STAT.clip_sat else h

/-- The values of all channels, and of the shifted voltages, in a frame. -/
def Hw.conditionAll (h : Hw) (s : List Int) : Hw × List Int × List Int :=
  let (h, vs) := (List.range 7).foldl (fun (p : Hw × List Int) c =>
    let x := p.1.sampleOf c s
    let (h, v) := (p.1.countClip c x).condition c x
    (h, p.2 ++ [v])) (h, [])
  let (h, qs) := [0, 1, 2].foldl (fun (p : Hw × List Int) c =>
    let (h, v) := p.1.shift90 c (vs.getD c 0)
    (h, p.2 ++ [v])) (h, [])
  let xs := (List.range 7).map fun c => h.sampleOf c s
  let h := (List.range 7).foldl (fun h c => if h.chState c = 3 then h else h.setF (MTR_CH_STAT c) MTR_CH_STAT.state 1) h
  (h.updMtr fun m => { m with prev := xs, stalled := [] }, vs, qs)

/-! ### Quantities over the cycle (R307) -/

/-- A register's two's complement word. -/
def signedWord (v : Int) : Word := BitVec.ofNat 32 (ofInt 32 v)

/-- Root mean square in thousandths, from a sum of squares in units of 2^-64 over `n` frames. -/
def rmsMilli (sum : Int) (n : Nat) : Nat := Nat.sqrt (sum.toNat * 1000000 / n) / 2 ^ 32

/-- A mean power in thousandths, from a sum in units of 2^-64 over `n` frames. -/
def meanMilli (sum : Int) (n : Nat) : Int := (sum * 1000).tdiv (2 ^ 64 * (n : Int))

/-- The registers of the phase groups and of the total at the end of a cycle. -/
def Hw.endCycle (h : Hw) : Hw :=
  let n := h.mtr.frames
  if n = 0 then h
  else
    let sum := fun (i : Nat) => h.mtr.sums.at i
    let pf := fun (p : Int) (s : Nat) => if s = 0 then (0 : Word) else BitVec.ofNat 32 (ofInt 16 ((p * 32768).tdiv (s : Int)))
    let h := h.phasesUp.foldl (fun h g =>
      let v := rmsMilli (sum g) n
      let i := rmsMilli (sum (g + 3)) n
      let p := meanMilli (sum (g + 7)) n
      let s := v * i / 1000
      ((((((h.setReg (MTR_PH_VRMS g) (BitVec.ofNat 32 v)).setReg (MTR_PH_IRMS g) (BitVec.ofNat 32 i)).setReg (MTR_PH_P g) (signedWord p)).setReg
        (MTR_PH_Q g) (signedWord (meanMilli (sum (g + 10)) n))).setReg (MTR_PH_S g) (BitVec.ofNat 32 s)).setReg (MTR_PH_PF g) (pf p s))) h
    let tot := fun (reg : Nat → Nat) => h.phasesUp.foldl (fun (a : Int) g => a + toInt 32 (h.reg (reg g)).toNat) 0
    let s := h.phasesUp.foldl (fun a g => a + (h.reg (MTR_PH_S g)).toNat) 0
    let h := ((((h.setReg (MTR_PH_IRMS 3) (BitVec.ofNat 32 (rmsMilli (sum 6) n))).setReg (MTR_PH_P 3) (signedWord (tot MTR_PH_P))).setReg
      (MTR_PH_Q 3) (signedWord (tot MTR_PH_Q))).setReg (MTR_PH_S 3) (BitVec.ofNat 32 s)).setReg (MTR_PH_PF 3) (pf (tot MTR_PH_P) s)
    h.updMtr fun m => { m with sums := [], frames := 0 }

/-! ### Energy (R312, R313) -/

/-- The increment of a power in 2^-64 units over a frame of `clocks` modulator clocks, in 2^-52 units of energy; the rest below is dropped. -/
def energyOf (p : Int) (clocks : Nat) : Nat := p.toNat * clocks / (4096000 * 3600 * 2 ^ 12)

/-- The increment of an apparent power in mVA. -/
def energyOfMilli (s clocks : Nat) : Nat := s * clocks * 2 ^ 52 / (1000 * 4096000 * 3600)

/-- The increments of the five quantities of a group. -/
def increments (p q : Int) (s clocks : Nat) : List Nat :=
  [energyOf p clocks, energyOf (-p) clocks, energyOf q clocks, energyOf (-q) clocks, energyOfMilli s clocks]

/-- Add to accumulator `q` of group `g`; a wrap is counted and raised. -/
def Hw.addEnergy (h : Hw) (g q inc : Nat) : Hw :=
  let v := h.reg64 (MTR_E_LO g q) * 2 ^ 32 + h.mtr.fracs.at (5 * g + q) + inc
  let h := (h.setReg64 (MTR_E_LO g q) (v / 2 ^ 32 % 2 ^ 64)).updMtr fun m => { m with fracs := m.fracs.set (5 * g + q) (v % 2 ^ 32) }
  if v ≥ 2 ^ 96 then
    let h := h.setFlag (MTR_E_WRAP g q) MTR_E_WRAP.wrap true
    (h.countUp (MTR_E_WRAP g q) MTR_E_WRAP.wraps).raise MTR_IRQ_STAT MTR_IRQ_STAT.wrap (5 * g + q)
  else h

/-- Add the increments of a group. -/
def Hw.addGroup (h : Hw) (g : Nat) (incs : List Nat) : Hw := incs.zipIdx.foldl (fun h p => h.addEnergy g p.2 p.1) h

/-! ### Pulses (R314, R315) -/

/-- A pulse stage. -/
def Hw.stage_ (h : Hw) (k : Nat) : PulseStage := h.mtr.stages.at k

/-- Change a pulse stage. -/
def Hw.updStage (h : Hw) (k : Nat) (g : PulseStage → PulseStage) : Hw := h.updMtr fun m => { m with stages := m.stages.upd k g }

/-- A stage is enabled. -/
def Hw.stageOn (h : Hw) (k : Nat) : Bool := h.flag (MTR_PULSE_CFG k) MTR_PULSE_CFG.enable

/-- A stage owes pulses: the backlog takes them, and those beyond it are lost. -/
def Hw.owe (h : Hw) (k n : Nat) : Hw :=
  let b := h.f (MTR_PULSE_STAT k) MTR_PULSE_STAT.backlog
  let h' := h.setF (MTR_PULSE_STAT k) MTR_PULSE_STAT.backlog (min 65535 (b + n))
  if b + n ≤ 65535 then h'
  else (h'.bumpBy (MTR_PULSE_STAT k) MTR_PULSE_STAT.lost MTR_PULSE_STAT.lost_sat (b + n - 65535)).raise MTR_IRQ_STAT MTR_IRQ_STAT.pulse_lost k

/-- A stage in a frame, given the total group's increments: a write that waits takes effect first (R315). -/
def Hw.stageFrame (h : Hw) (incs : List Nat) (k : Nat) : Hw :=
  let h := if (h.stage_ k).due then
      let c := h.reg (MTR_PULSE_CFG k)
      h.updStage k fun s => { s with
        const := min 100000 (max 1 (MTR_PULSE_CFG.const.get c)), qty := MTR_PULSE_CFG.qty.get c, due := false, spill := 0 }
    else h
  if ¬h.stageOn k then h.updStage k fun s => { s with spill := 0 }
  else
    let s := h.stage_ k
    let a := incs.getD (2 * k) 0
    let b := incs.getD (2 * k + 1) 0
    let inc := if s.qty = 0 then a else if s.qty = 1 then b else if s.qty = 2 then a + b else 0
    let spill := s.spill + inc * s.const
    let kwh := 1000 * 2 ^ 52
    (h.updStage k fun s => { s with spill := spill % kwh }).owe k (spill / kwh)

/-- The pulse ball of a stage. -/
def Hw.pulseBall (h : Hw) (k : Nat) (active : Bool) : Hw :=
  h.emit (.pin (if k = 0 then "MTR_PLS_P" else "MTR_PLS_Q") (active != h.flag (MTR_PULSE_CFG k) MTR_PULSE_CFG.polarity))

/-- PULSE_OUTPUT (R314): an owed pulse drives the ball active, and it ends width_ms later. -/
def execPulseOutput (k : Fin 2) (begin : Bool) (s : State) : Host.Outcome State Fault Refusal :=
  run s fun h =>
    let st := h.stage_ k.val
    let b := h.f (MTR_PULSE_STAT k.val) MTR_PULSE_STAT.backlog
    if begin then
      if st.active ∨ b = 0 ∨ ¬h.stageOn k.val then h
      else ((h.setF (MTR_PULSE_STAT k.val) MTR_PULSE_STAT.backlog (b - 1)).updStage k.val fun s => { s with active := true }).pulseBall k.val true
    else if st.active then (h.updStage k.val fun s => { s with active := false }).pulseBall k.val false
    else h

/-- What a write of MTR_PULSE_CFG does (R315). -/
def Hw.pulseCfgWritten (h : Hw) (k : Nat) : Hw :=
  let h := h.updStage k fun s => { s with due := true }
  if h.stageOn k then h
  else
    let was := (h.stage_ k).active
    let h := h.updStage k fun s => { s with spill := 0, active := false }
    if was then h.pulseBall k false else h

/-- PULSE_CONFIG (R315). -/
def execPulseConfig (via : BusAcc) (k : Fin 2) (value : Word) (s : State) : Host.Outcome State Fault Refusal :=
  run s fun h => h.regWrite via (MTR_PULSE_CFG k.val) value fun _ h => h.pulseCfgWritten k.val

/-! ### The mains axis and the windows (R308–R310) -/

/-- Nominal phase voltage in mV. -/
def Hw.vNomMilli (h : Hw) : Nat := h.f MTR_NOM MTR_NOM.v_nom * 100

/-- The mains axis follows the fundamental while it is valid (R309). -/
def Hw.mainsAxis (h : Hw) (fr : MeterFrame) : Hw :=
  let ok := decide (h.f MTR_CFG MTR_CFG.mains_ch ≠ 3 ∧ 2 * fr.fundamental > h.vNomMilli ∧ 45000 ≤ fr.freq ∧ fr.freq ≤ 65000)
  let h := (h.setF MTR_FREQ MTR_FREQ.freq fr.freq).setFlag MTR_STAT MTR_STAT.mains_valid ok
  let n := h.reg64 CAL_MAINS_LO % 2 ^ 63
  let n := if ok then (n + fr.steps) % 2 ^ 63 else n
  h.setReg64 CAL_MAINS_LO (n + ok.toNat * 2 ^ 63)

/-- VB lags by 90°–150°, VC by 210°–270°. -/
def sequenceRight (w : MeterWindow) : Bool :=
  let b := w.angB.toNat
  let c := w.angC.toNat
  decide (360 * b ≥ 90 * 65536 ∧ 360 * b ≤ 150 * 65536 ∧ 360 * c ≥ 210 * 65536 ∧ 360 * c ≤ 270 * 65536)

/-- The results of a window replace the previous ones together (R308, R310). -/
def Hw.takeWindow (h : Hw) (w : MeterWindow) : Hw :=
  let entry := fun (c e : Nat) => if e = 0 then w.thd.getD c 0 else if e = 1 then w.fundamentals.getD c 0
    else min 65535 ((w.harmonics.getD c []).getD (e - 2) 0)
  let h := (List.range 7).foldl (fun h c => (List.range 64).foldl (fun h e => h.setReg (MTR_HARM c e) (BitVec.ofNat 32 (entry c e))) h) h
  let h := h.setF MTR_STAT MTR_STAT.harm_seq ((h.f MTR_STAT MTR_STAT.harm_seq + 1) % 65536)
  let h := (h.setReg MTR_ANGLE (MTR_ANGLE.ang_b.set (MTR_ANGLE.ang_c.set 0 w.angC.toNat) w.angB.toNat)).raise MTR_IRQ_STAT MTR_IRQ_STAT.harm_ready 0
  let right := sequenceRight w
  let h := h.setFlag MTR_STAT MTR_STAT.seq_ok right
  let h := if right then h else h.raise MTR_IRQ_STAT MTR_IRQ_STAT.wrong_seq 0
  let limit := max 1 (h.f MTR_SUPPLY_CFG MTR_SUPPLY_CFG.v0_pct) * h.vNomMilli
  if w.zeroSeq * 100 > limit then
    let h := h.updMtr fun m => { m with v0Over := m.v0Over + 1 }
    if h.mtr.v0Over ≥ 2 then (h.setFlag MTR_STAT MTR_STAT.neutral_ok false).raise MTR_IRQ_STAT MTR_IRQ_STAT.neutral_lost 0 else h
  else (h.setFlag MTR_STAT MTR_STAT.neutral_ok true).updMtr fun m => { m with v0Over := 0 }

/-! ### Supply status (R311) -/

/-- Reasons of MTR_STAT. -/
def reasonDebounce : Nat := 6
def reasonOff : Nat := 7

/-- The first condition that fails, by its reason; 0 where all hold. -/
def Hw.supplyReason (h : Hw) : Nat :=
  let tol := h.vNomMilli * h.f MTR_NOM MTR_NOM.v_tol / 100
  let vOk := [0, 1, 2].all fun g =>
    let v := (h.reg (MTR_PH_VRMS g)).toNat
    decide (h.vNomMilli ≤ v + tol ∧ v ≤ h.vNomMilli + tol)
  let f := h.f MTR_FREQ MTR_FREQ.freq
  let nom := if h.flag MTR_CFG MTR_CFG.nom_freq then 60000 else 50000
  let ft := h.f MTR_NOM MTR_NOM.f_tol * 100
  if ¬h.mtrOn then reasonOff
  else if ¬vOk then 1
  else if ¬(nom ≤ f + ft ∧ f ≤ nom + ft) then 2
  else if ¬h.flag MTR_STAT MTR_STAT.seq_ok then 3
  else if ¬h.flag MTR_STAT MTR_STAT.neutral_ok then 4
  else if (List.range 7).any fun c => decide (h.chState c ≥ 2) then 5
  else 0

/-- A change of supply_ok is raised and published. -/
def Hw.supplyChanged (h : Hw) : Hw :=
  let seq := h.alm.seqs.at (srcOf 0x16 0)
  let h := h.raise MTR_IRQ_STAT MTR_IRQ_STAT.supply_change 0
  if ¬h.flag MTR_SUPPLY_CFG MTR_SUPPLY_CFG.evt_en then h
  else
    let bs := leBytes 1 (h.f MTR_STAT MTR_STAT.supply_ok) ++ leBytes 1 (h.f MTR_STAT MTR_STAT.reason) ++
      leBytes 2 (h.f MTR_STAT MTR_STAT.harm_seq) ++ leBytes 8 h.now ++ leBytes 4 seq
    let (h, lost) := h.hwSendFree prodMtr (h.f MTR_SUPPLY_CFG MTR_SUPPLY_CFG.fifo) bs
    if lost then h.bump MTR_ERR MTR_ERR.evt_dropped MTR_ERR.evt_sat else h

/-- The supply status follows its conditions: a failure shows at once, success after the debounce. -/
def Hw.supplySettle (h : Hw) : Hw :=
  let r := h.supplyReason
  if r ≠ 0 then
    let was := h.flag MTR_STAT MTR_STAT.supply_ok
    let h := ((h.setFlag MTR_STAT MTR_STAT.supply_ok false).setF MTR_STAT MTR_STAT.reason r).updMtr fun m => { m with okSince := none }
    if was then h.supplyChanged else h
  else if h.flag MTR_STAT MTR_STAT.supply_ok then h
  else
    let h := h.setF MTR_STAT MTR_STAT.reason reasonDebounce
    if h.mtr.okSince.isSome then h else h.updMtr fun m => { m with okSince := some h.now }

/-- SUPPLY_OK_DEBOUNCE (R311): the conditions have held for ok_s seconds. -/
def execSupplyOkDebounce (s : State) : Host.Outcome State Fault Refusal :=
  run s fun h =>
    if h.mtr.okSince.isSome ∧ ¬h.flag MTR_STAT MTR_STAT.supply_ok then
      ((h.setFlag MTR_STAT MTR_STAT.supply_ok true).setF MTR_STAT MTR_STAT.reason 0).supplyChanged
    else h

/-- SUPPLY_EVENT_DROP (R311). -/
def execSupplyEventDrop (s : State) : Host.Outcome State Fault Refusal :=
  run s fun h =>
    let f := h.f MTR_SUPPLY_CFG MTR_SUPPLY_CFG.fifo
    if h.holdsPacket prodMtr f then (h.dropHeld prodMtr f).bump MTR_ERR MTR_ERR.evt_dropped MTR_ERR.evt_sat else h

/-! ### A conversion frame (R304) -/

/-- Add a frame's values to the sums of the cycle. -/
def Hw.addSums (h : Hw) (xs : List (Nat × Int)) : Hw :=
  h.updMtr fun m => { m with sums := xs.foldl (fun s p => s.upd p.1 (· + p.2)) m.sums, frames := m.frames + 1 }

/-- CONVERSION_FRAME (R304–R314). -/
def Hw.meterFrame (h : Hw) (fr : MeterFrame) : Hw :=
  if ¬h.mtrOn then h
  else
    let (h, xs, qs) := h.conditionAll fr.samples
    let x := fun (c : Nat) => xs.getD c 0
    let p := fun (g : Nat) => x g * x (g + 3)
    let q := fun (g : Nat) => qs.getD g 0 * x (g + 3)
    let h := { h with cal := { h.cal with meterAlign := false } }
    let up := h.phasesUp
    let s := fun (g : Nat) => (h.reg (MTR_PH_S g)).toNat
    let total := increments (up.foldl (fun a g => a + p g) 0) (up.foldl (fun a g => a + q g) 0) (up.foldl (fun a g => a + s g) 0) fr.clocks
    let h := up.foldl (fun h g => h.addGroup g (increments (p g) (q g) (s g) fr.clocks)) h
    let h := (h.addGroup 3 total).addSums (((List.range 7).map fun c => (c, x c * x c)) ++ ([0, 1, 2].flatMap fun g => [(g + 7, p g), (g + 10, q g)]))
    let h := [0, 1].foldl (fun h k => h.stageFrame total k) h
    let h := h.mainsAxis fr
    let valid := h.flag MTR_STAT MTR_STAT.mains_valid
    let h := if (if valid then fr.cycle else decide (h.mtr.frames ≥ 160)) then h.endCycle else h
    let h := match fr.window with
      | some w => if valid then h.takeWindow w else h
      | none => h
    (h.setF MTR_STAT MTR_STAT.state h.mtrState).supplySettle

/-- CONVERSION_FRAME. -/
def execConversionFrame (frame : MeterFrame) (s : State) : Host.Outcome State Fault Refusal := run s fun h => h.meterFrame frame

/-- MODULATOR_STALL (R306): a transient fault of the channel; its sample of the frame will be the previous one. -/
def execModulatorStall (c : Fin 7) (retriesFailed : Bool) (s : State) : Host.Outcome State Fault Refusal :=
  run s fun h =>
    if ¬h.mtrOn ∨ h.chState c.val = 3 then h
    else
      let h := (h.setF (MTR_CH_STAT c.val) MTR_CH_STAT.state 2).updMtr fun m => { m with stalled := without c.val m.stalled ++ [c.val] }
      let h := (h.bump MTR_ERR MTR_ERR.ch_fault MTR_ERR.fault_sat).raise MTR_IRQ_STAT MTR_IRQ_STAT.ch_fault c.val
      let h := h.faultOpen 8 c.val retriesFailed
      ((h.setF (MTR_CH_STAT c.val) MTR_CH_STAT.window (min 15 (h.faultsIn 8 c.val))).setF MTR_STAT MTR_STAT.state h.mtrState).supplySettle

/-- HARM_SNAPSHOT (R308): a read of entry 0 takes the channel's 64 entries for the reading master. -/
def execHarmSnapshot (via : BusAcc) (c : Fin 7) (s : State) : Host.Outcome State Fault Refusal :=
  run s fun h => h.regRead via (MTR_HARM c.val 0) Hw.reg fun h =>
    (List.range 64).foldl (fun h e => if e = 0 then h else h.setReadShadow via.master.num (MTR_HARM c.val e) (h.reg (MTR_HARM c.val e))) h

/-! ### Saves (R316–R318, R320) -/

/-- The 48-bit Vigil counter. -/
def Hw.vigilCount (h : Hw) : Nat := h.reg64 VGL_CNT_LO % 2 ^ 48

/-- The newest valid slot; `true` is slot B. -/
def MtrSt.newest (m : MtrSt) : Option Bool :=
  match m.slotA.ok, m.slotB.ok with
  | true, true => some (laterSeq 16 m.slotB.seq m.slotA.seq)
  | true, false => some false
  | false, true => some true
  | false, false => none

/-- A slot's contents. -/
def MtrSt.slot (m : MtrSt) (b : Bool) : MeterSave := if b then m.slotB else m.slotA

/-- The accumulators in order of group and quantity. -/
def accIndex : List (Nat × Nat) := (List.range 4).flatMap fun g => (List.range 5).map fun q => (g, q)

/-- What a save holds. -/
def Hw.saveContents (h : Hw) (seq : Nat) : MeterSave :=
  { ok := true, seq := seq, acc := accIndex.map fun p => h.reg64 (MTR_E_LO p.1 p.2) * 2 ^ 32 + h.mtr.fracs.at (5 * p.1 + p.2),
    wraps := accIndex.map fun p => h.reg (MTR_E_WRAP p.1 p.2), spills := [0, 1].map fun k => (h.stage_ k).spill,
    backlogs := [0, 1].map fun k => h.f (MTR_PULSE_STAT k) MTR_PULSE_STAT.backlog }

/-- A periodic save into the slot that does not hold the newest valid save. -/
def Hw.meterSave (h : Hw) : Hw :=
  let old := h.mtr.newest
  let seq := (match old with
    | some b => (h.mtr.slot b).seq
    | none => 0) + 1
  let x := h.saveContents (seq % 65536)
  let n := h.vigilCount
  let h := h.updMtr fun m => { (if old = some false then { m with slotB := x } else { m with slotA := x }) with savedAt := n }
  (h.setF MTR_SAVE MTR_SAVE.save_seq (seq % 65536)).raise MTR_IRQ_STAT MTR_IRQ_STAT.save 0

/-- A save that failed, or was abandoned when the supply failed: its slot fails its CRC. -/
def Hw.meterSaveFailed (h : Hw) : Hw :=
  let old := h.mtr.newest
  (h.updMtr fun m => if old = some false then { m with slotB := { m.slotB with ok := false } } else { m with slotA := { m.slotA with ok := false } }).bump
    MTR_ERR MTR_ERR.save_fail MTR_ERR.save_sat

/-- PERIODIC_SAVE (R316). -/
def execPeriodicSave (ok : Bool) (s : State) : Host.Outcome State Fault Refusal :=
  run s fun h => if ¬h.mtrOn then h else if ok then h.meterSave else h.meterSaveFailed

/-- The last gasp (R317): the differences from the newest valid slot, with the bound of what it cannot cover. -/
def Hw.meterGasp (h : Hw) : Hw :=
  match h.mtr.newest with
  | none => h
  | some b =>
    let base := h.mtr.slot b
    let now := h.saveContents 0
    let diff := fun (i : Nat) => (now.acc.getD i 0 / 2 ^ 32 + 2 ^ 64 - base.acc.getD i 0 / 2 ^ 32) % 2 ^ 64
    let ds := (List.range 20).map diff
    let bound := ((h.reg (MTR_PH_S 3)).toNat * 2 * 2 ^ 20 + 3600 * 1000000 - 1) / (3600 * 1000000)
    let n := h.vigilCount
    h.updMtr fun m => { m with
      savedAt := n, gasp := some ⟨base.seq, ds.map fun d => min d (2 ^ 32 - 1), now.spills, now.backlogs, bound, ds.any fun d => decide (d ≥ 2 ^ 32)⟩ }

/-- Put a save's contents into force. -/
def Hw.meterLoad (h : Hw) (x : MeterSave) : Hw :=
  let h := accIndex.zipIdx.foldl (fun h p =>
    let (g, q) := p.1
    let v := x.acc.getD p.2 0
    let h := (h.setReg64 (MTR_E_LO g q) (v / 2 ^ 32 % 2 ^ 64)).updMtr fun m => { m with fracs := m.fracs.set (5 * g + q) (v % 2 ^ 32) }
    h.setReg (MTR_E_WRAP g q) (x.wraps.getD p.2 0)) h
  [0, 1].foldl (fun h k => (h.updStage k fun s => { s with spill := x.spills.getD k 0 }).setF (MTR_PULSE_STAT k) MTR_PULSE_STAT.backlog (x.backlogs.getD k 0)) h

/-- Start-up restores the meter (R316, R318), with its Almanac records; the interval was off (1) or a sleep (2). -/
def Hw.meterStart (h : Hw) (kind : Word) : Hw :=
  match h.mtr.newest with
  | none => (h.setFlag MTR_STAT MTR_STAT.retention_lost true).event (srcOf 0x16 0) 0x0015 1 0 0
  | some b =>
    let x := h.mtr.slot b
    let h := (h.meterLoad x).setF MTR_SAVE MTR_SAVE.save_seq x.seq
    let h := match h.mtr.gasp with
      | none => h
      | some g =>
        if g.base = x.seq then
          let acc := (List.range 20).map fun i => (x.acc.getD i 0 + g.diffs.getD i 0 * 2 ^ 32) % 2 ^ 96
          let h := h.meterLoad { x with acc := acc, spills := g.spills, backlogs := g.backlogs }
          ((h.setFlag MTR_SAVE MTR_SAVE.restored_gasp true).setFlag MTR_SAVE MTR_SAVE.gasp_overflow g.saturated).setReg MTR_LOST_BOUND (BitVec.ofNat 32 g.bound)
        else h.setReg MTR_LOST_BOUND 0xFFFFFFFF
    let off := (h.vigilCount + 2 ^ 48 - h.mtr.savedAt) % 2 ^ 48
    (h.updMtr fun m => { m with gasp := none }).event (srcOf 0x16 0) 0x0014 (BitVec.ofNat 32 off) (BitVec.ofNat 32 (off / 2 ^ 32)) kind

/-- What a write of MTR_CFG does: clearing enable ends conversion after one final save (R320). -/
def Hw.mtrCfgWritten (h : Hw) (was : Bool) : Hw :=
  if was && !h.mtrOn then
    let h := h.meterSave
    let h := (List.range 7).foldl (fun h c => if h.chState c = 3 then h else h.setF (MTR_CH_STAT c) MTR_CH_STAT.state 0) h
    let h := (h.setFlag MTR_STAT MTR_STAT.mains_valid false).setF CAL_MAINS_HI CAL_MAINS_HI.valid 0
    (h.setF MTR_STAT MTR_STAT.state 0).supplySettle
  else if !was && h.mtrOn then
    let h := (List.range 7).foldl (fun h c => if h.chState c = 3 then h else h.setF (MTR_CH_STAT c) MTR_CH_STAT.state 1) h
    (h.setF MTR_STAT MTR_STAT.state h.mtrState).supplySettle
  else h

/-- METER_DISABLE (R320). -/
def execMeterDisable (via : BusAcc) (s : State) : Host.Outcome State Fault Refusal :=
  run s fun h =>
    let was := h.mtrOn
    h.regWrite via MTR_CFG (MTR_CFG.enable.set (h.reg MTR_CFG) 0) fun _ h => h.mtrCfgWritten was

end Sys2Proof.Machine
end

