-- ==== Sys2Proof/Machine/Vangia.lean ====
section
/-! DEFINITION. The Vangia image in force (spec/02_structure_and_host_ports.md, R44–R52): what a partition lays down, at start-up and by
a reload of one partition, and the control of a reload. -/

namespace Sys2Proof.Machine

open Reg

/-- The block windows a partition owns (R47). -/
def ownedBlocks : Nat → List Nat
  | 0 => [0x00, 0x01, 0x02, 0x03, 0x04, 0x05, 0x06, 0x07, 0x08, 0x1A, 0x1B, 0x1C, 0x1D, 0x19, 0x18]
  | 1 => [0x09]
  | 2 => [0x11, 0x0B, 0x0D, 0x0E, 0x0F, 0x0C]
  | 3 => [0x12, 0x13]
  | 4 => [0x17]
  | 5 => [0x16, 0x10]
  | 6 => [0x1E]
  | 7 => [0x0A, 0x14, 0x15]
  | _ => []

/-- Change the configuration block. -/
def Hw.updCfg (h : Hw) (g : CfgSt → CfgSt) : Hw := { h with cfg := g h.cfg }

/-! ### Values (R47, R49) -/

/-- A register's word with its img fields taken from an image; its other fields stay. -/
def imgWord (old v : Word) : List FieldDef → Word
  | [] => old
  | d :: ds =>
    let w := imgWord old v ds
    if d.source = .img then Fld.set ⟨d.lo, d.width⟩ w (Fld.get ⟨d.lo, d.width⟩ v) else w

/-- A value of an image for a register of the blocks that its partition owns. -/
def Hw.takeValue (h : Hw) (owned : List Nat) (v : Nat × Word) : Hw :=
  match regFind v.1 with
  | some r => if memb (v.1 / 0x10000) owned then h.setReg v.1 (imgWord (h.reg v.1) v.2 r.fields) else h
  | none => h

/-- The values of a partition take effect together. -/
def Hw.takeValues (h : Hw) (p : Nat) (x : Partition) : Hw := x.values.foldl (fun h v => h.takeValue (ownedBlocks p) v) h

/-- The lock bits of the blocks a partition owns clear (R13). -/
def Hw.clearLocks (h : Hw) (p : Nat) : Hw :=
  (ownedBlocks p).foldl (fun h b => match lockOf (b * 0x10000) with
    | some (k, f) => h.setFlag k f false
    | none => h) h

/-- The first four octets of a section's hash (CFG_PART_HASH). -/
def hashHead (hash : List Byte) : Word := BitVec.ofNat 32 (leNat (hash.take 4))

/-- CFG's registers of a partition in force, and the names of its presets. -/
def Hw.showPartition (h : Hw) (p : Nat) (x : Partition) (fromMemory : Bool) : Hw :=
  let h := (h.setReg (CFG_PART_VER p) x.version).setReg (CFG_PART_HASH p) (hashHead x.hash)
  let h := h.setFlag (CFG_PART_STAT p) CFG_PART_STAT.volatile fromMemory
  x.presets.foldl (fun h q => (List.range 4).foldl (fun h w =>
    h.setReg (CFG_PRESET_NAME q.function.val q.number.val w) (BitVec.ofNat 32 (fieldAt q.name (4 * w) 4))) h) h

/-! ### What a change of values brings with it -/

/-- Robots whose mode or lane a Fleet reload changes: a mode change resets the robot; moved robots are announced (R51, R164, R243). -/
def Hw.fleetChanged (h old : Hw) : Hw :=
  let robots := (List.range 128).map (· + 1)
  let h := robots.foldl (fun h r => h.modeWas r (old.robotMode r)) h
  let slotted := fun (r : Nat) => (List.range 8).any fun n => (h.slotsOf n false).any fun q => decide (q.1 = r)
  let h := h.updRad fun x => { x with unslotted := x.unslotted.filter fun u => !slotted u.1 }
  let moved := robots.filterMap fun r =>
    match h.laneOf r with
    | some n => if old.laneOf r = some n then none else some (r, n, [n])
    | none => none
  let gone := robots.any fun r => (h.laneOf r).isNone && (old.laneOf r).isSome
  if moved.isEmpty && !gone then h else h.bindingChange moved

/-- Slots whose definition a Keys reload changes are emptied (R51). -/
def Hw.keysChanged (h old : Hw) : Hw :=
  ((List.range 64).foldl (fun h n => if h.reg (BRL_SLOT_DEF n) = old.reg (BRL_SLOT_DEF n) then h else h.emptySlot n) h).deliverKeys

/-- A FIFO whose geometry or mode a Streams reload changes starts empty (R51). -/
def Hw.streamsChanged (h old : Hw) : Hw :=
  (List.range 48).foldl (fun h f => if h.reg (STM_GEOM f) = old.reg (STM_GEOM f) then h else h.setFifo f default) h

/-- Meter channels whose registers a Plant reload changes (R51). -/
def Hw.meterChanged (h old : Hw) : Bool :=
  h.regs.any (fun r => decide (r.1 / 0x10000 = 0x16) && h.reg r.1 != old.reg r.1) ||
    old.regs.any (fun r => decide (r.1 / 0x10000 = 0x16) && h.reg r.1 != old.reg r.1)

/-- A Plant reload that changes the meter restarts conversion and records the gap, whose length and kind the specification does not
give (R51, log entry 69). -/
def Hw.plantChanged (h old : Hw) : Hw :=
  if ¬h.meterChanged old ∨ ¬h.mtrOn then h
  else
    let c := h.freeCtr
    let h := (h.useFree 3).updMtr fun m => { m with prev := [], filters := [], sums := [], frames := 0 }
    h.event (srcOf 0x16 0) 0x0014 (Config.freeWord c) (Config.freeWord (c + 1)) (Config.freeWord (c + 2))

/-- A Reference reload: the reference returns to ref_ant where that is up, messages 1005, 1006 and 1033 are due, triggers on a changed
axis are disarmed and flagged, a changed port retrains its link (R51, R115, R301). -/
def Hw.referenceChanged (h old : Hw) : Hw :=
  let h := h.updGns fun g => { g with resend := true }
  let ref := h.f GNS_CFG GNS_CFG.ref_ant
  let h := if h.antUp ref ∧ h.activeRef ≠ ref then h.updGns fun g => { g with restore := true } else h
  let h := [0, 1].foldl (fun h n =>
    if h.reg (CAL_ENC_CFG n) = old.reg (CAL_ENC_CFG n) then h
    else (List.range 16).foldl (fun h t =>
      if h.trigState t = trigArmed ∧ h.trigCfg t CAL_TRIG_CFG.axis = n + 1 then
        (h.setTrig t trigRefused).setF (CAL_TRIG_STAT t) CAL_TRIG_STAT.reason 2
      else h) h) h
  [0, 1].foldl (fun h p =>
    if h.reg (ETH_PORT_CFG p) = old.reg (ETH_PORT_CFG p) ∨ h.f (ETH_PORT_STAT p) ETH_PORT_STAT.link = 0 then h
    else h.ethLinkDown p) h

/-- What the change of a partition's values brings with it (R51). -/
def Hw.partitionChanged (h old : Hw) : Nat → Hw
  | 1 => h.streamsChanged old
  | 2 => h.fleetChanged old
  | 3 => Hw.driveOuts old h
  | 4 => h.keysChanged old
  | 5 => h.plantChanged old
  | 7 => h.referenceChanged old
  | _ => h

/-! ### Refusals by the owning function (R51) -/

/-- The runs of reserved cells of a lane's layout: the marks, the beacon, the slots (R238). -/
def Hw.reservedRuns (h : Hw) (n : Nat) (aux : Bool) : List (Nat × Nat) :=
  ((List.range 5).map fun j => (100 * j, h.markCells n)) ++
    [(h.markCells n, h.f (RAD_LANE_SF n) RAD_LANE_SF.beacon_cells)] ++ (h.slotsOf n aux).map fun q => (q.2.1, q.2.2)

/-- Two runs of cells overlap. -/
def runsOverlap (a b : Nat × Nat) : Bool := decide (0 < a.2 ∧ 0 < b.2 ∧ a.1 < b.1 + b.2 ∧ b.1 < a.1 + a.2)

/-- No two runs of a list overlap. -/
def runsApart : List (Nat × Nat) → Bool
  | [] => true
  | r :: rs => !rs.any (runsOverlap r) && runsApart rs

/-- A 10 ms window of the downlink region holds a run of mark_cells cells free of reserved cells (R238). -/
def Hw.stopRunFits (h : Hw) (n : Nat) (aux : Bool) : Bool :=
  let (s, k) := h.downlink n aux
  let mc := h.markCells n
  (List.range 5).any fun j => (List.range (101 - mc)).any fun i =>
    (List.range mc).all fun d => inRun s k (100 * j + i + d) && !h.layoutReserved n aux (100 * j + i + d)

/-- Cells that a frame of some octets takes, rounded up (R238, R267). -/
def Hw.cellsFor (h : Hw) (n octets : Nat) : Nat := (h.airNs n octets + cellNs - 1) / cellNs

/-- A lane's layout is one that a Fleet reload may lay down (R238). -/
def Hw.layoutOk (h : Hw) (n : Nat) (aux : Bool) : Bool :=
  runsApart (h.reservedRuns n aux) && (h.slotsOf n aux).all (fun q => decide (q.2.1 + q.2.2 ≤ 500)) && h.stopRunFits n aux

/-- The robots named in the slot tables of a lane. -/
def Hw.slotRobots (h : Hw) (n : Nat) : List Nat := (h.slotsOf n false).map (·.1)

/-- A Fleet reload to these values is allowed (R238, R239). -/
def Hw.fleetOk (h : Hw) : Bool :=
  let lanes := (List.range 8).filter fun n => h.flag (RAD_LANE_CFG n) RAD_LANE_CFG.enable
  lanes.all (fun n => h.layoutOk n false && h.layoutOk n true &&
    decide (h.f (RAD_LANE_SF n) RAD_LANE_SF.mark_cells ≥ h.cellsFor n 44) &&
    (h.slotRobots n).all (fun r => decide (h.f (FIX_RBT_CFG r) FIX_RBT_CFG.aux_div % max 1 (h.f (RAD_LANE_SF n) RAD_LANE_SF.aux_div) = 0)) &&
    lanes.all (fun m => decide (m ≤ n) || (h.slotRobots n).all fun r => !memb r (h.slotRobots m)))

/-- A Stop reload to these values is allowed: mark_cells holds a stop frame on every lane in service (R267). -/
def Hw.stopOk (h : Hw) : Bool :=
  h.lanesUp.all fun n => decide (h.f (RAD_LANE_SF n) RAD_LANE_SF.mark_cells ≥ h.cellsFor n 47)

/-- Whether the owning function refuses the change from `old` to these values (error 0x09). -/
def Hw.reloadRefused (h old : Hw) : Nat → Bool
  | 2 => !h.fleetOk
  | 3 => !h.stopOk
  | 4 => [0, 1, 2].any fun n => decide (h.reg (BRL_SLOT_DEF n) ≠ old.reg (BRL_SLOT_DEF n))
  | 5 => (List.range 16).any fun n => (old.axis n).enable && ((List.range 11).any (fun i =>
      decide (h.reg (AXL_AX_CFG n + 4 * i) ≠ old.reg (AXL_AX_CFG n + 4 * i))) ||
      decide (h.reg (AXL_LINK_CFG (n / 4)) ≠ old.reg (AXL_LINK_CFG (n / 4))))
  | _ => false

/-! ### The control of a reload (R48–R52) -/

/-- CFG_RELOAD_STAT.state: idle, verifying, waiting, applying, done, failed. -/
def rlIdle : Nat := 0
def rlVerifying : Nat := 1
def rlWaiting : Nat := 2
def rlApplying : Nat := 3
def rlDone : Nat := 4
def rlFailed : Nat := 5

/-- The state of the reload. -/
def Hw.rlState (h : Hw) : Nat := h.f CFG_RELOAD_STAT CFG_RELOAD_STAT.state

/-- Its partition. -/
def Hw.rlPart (h : Hw) : Nat := h.f CFG_RELOAD_STAT CFG_RELOAD_STAT.partition

/-- A reload ends: its outcome, line 18, and the configuration record of the outcome (R50; log entry 70). -/
def Hw.reloadEnd (h : Hw) (st err : Nat) : Hw :=
  let h := ((h.setF CFG_RELOAD_STAT CFG_RELOAD_STAT.state st).setF CFG_RELOAD_STAT CFG_RELOAD_STAT.error err).setFlag
    CFG_RELOAD_STAT CFG_RELOAD_STAT.done true
  let h := (h.updCfg fun c => { c with candidate := none }).stage h.cfg.reloadMaster CFG_RELOAD_STAT (h.reg CFG_RELOAD_STAT) false false true
  h.deviceLine 18

/-- go (R48, R52). -/
def Hw.reloadGo (h : Hw) (m : Nat) : Hw :=
  let p := h.f CFG_RELOAD_CTRL CFG_RELOAD_CTRL.partition
  if h.reloadBusy then h.setF CFG_RELOAD_STAT CFG_RELOAD_STAT.error 0x01
  else
    let h := (h.setF CFG_RELOAD_STAT CFG_RELOAD_STAT.partition p).updCfg fun c => { c with
      reloadMaster := m, fromMemory := h.flag CFG_RELOAD_CTRL CFG_RELOAD_CTRL.source }
    if p = 0 ∨ p > 8 then h.reloadEnd rlFailed 0x02
    else if h.f PWR_STAT PWR_STAT.state ≠ 0 then h.reloadEnd rlFailed 0x0A
    else (h.setF CFG_RELOAD_STAT CFG_RELOAD_STAT.state rlVerifying).setF CFG_RELOAD_STAT CFG_RELOAD_STAT.error 0

/-- abort before the applying state (R49). -/
def Hw.reloadAbort (h : Hw) : Hw := if h.rlState = rlVerifying ∨ h.rlState = rlWaiting then h.reloadEnd rlFailed 0x0B else h

/-- What a write of CFG_RELOAD_CTRL starts: abort acts on the reload that runs, before a go of the same write. -/
def Hw.reloadCtrl (h : Hw) (m : Nat) (v : Word) : Hw :=
  let h := if CFG_RELOAD_CTRL.abort.get v = 1 then h.reloadAbort else h
  if CFG_RELOAD_CTRL.go.get v = 1 then h.reloadGo m else h

/-- RELOAD_GO (R48). -/
def execReloadGo (via : BusAcc) (value : Word) (s : State) : Host.Outcome State Fault Refusal :=
  run s fun h =>
    let v := CFG_RELOAD_CTRL.go.set value 1
    h.regWrite via CFG_RELOAD_CTRL v fun _ h => h.reloadCtrl via.master.num v

/-- RELOAD_ABORT (R49). -/
def execReloadAbort (via : BusAcc) (value : Word) (s : State) : Host.Outcome State Fault Refusal :=
  run s fun h =>
    let v := CFG_RELOAD_CTRL.abort.set value 1
    h.regWrite via CFG_RELOAD_CTRL v fun _ h => h.reloadCtrl via.master.num v

/-- The address of an image that software has placed in memory. -/
def Hw.reloadSource (h : Hw) : Nat := (h.reg64 CFG_RELOAD_SRC_LO) % 2 ^ 40 / 4096 * 4096

/-- The error of verification: of the image (R46, R48, R49), then of the owning function (R51). -/
def Hw.verifyError (h : Hw) (img : Image) : Nat :=
  let p := h.rlPart
  if h.cfg.fromMemory ∧ (h.readPhys h.reloadSource 496).isNone then 0x0C
  else if h.imageError img ≠ 0 then h.imageError img
  else if h.cfg.fromMemory ∧ (imagePart img 0).hash ≠ (imagePart h.cfg.image 0).hash then 0x05
  else if (h.takeValues p (imagePart img p)).reloadRefused h p then 0x09
  else 0

/-- RELOAD_VERIFIED (R49): verification ends, and the reload waits for its boundary or fails. -/
def execReloadVerified (image : Image) (s : State) : Host.Outcome State Fault Refusal :=
  run s fun h =>
    if h.rlState ≠ rlVerifying then h
    else if h.verifyError image ≠ 0 then h.reloadEnd rlFailed (h.verifyError image)
    else (h.updCfg fun c => { c with candidate := some image }).setF CFG_RELOAD_STAT CFG_RELOAD_STAT.state rlWaiting

/-- RELOAD_TIMEOUT (R49): the boundary was not reached within the partition's limit after go. -/
def execReloadTimeout (s : State) : Host.Outcome State Fault Refusal :=
  run s fun h => if h.rlState = rlVerifying ∨ h.rlState = rlWaiting then h.reloadEnd rlFailed 0x08 else h

/-- Whether the boundary of a partition that is not an instant of time is reached: no operation in flight on a changed slot; each changed
FIFO between packets, with every completed packet delivered (R47, R51). -/
def Hw.atReloadBoundary (h : Hw) (p : Nat) (x : Partition) : Bool :=
  let n := h.takeValues p x
  match p with
  | 1 => (List.range 48).all fun f => decide (n.reg (STM_GEOM f) = h.reg (STM_GEOM f)) ||
      ((h.fifo f).pkts.isEmpty && (h.fifo f).openWords.isEmpty && !(h.fifo f).reserved)
  | 4 => h.brlOps.all fun q => decide (n.reg (BRL_SLOT_DEF q.2.slot) = h.reg (BRL_SLOT_DEF q.2.slot)) &&
      decide (n.reg (BRL_SLOT_DEF q.2.dstSlot) = h.reg (BRL_SLOT_DEF q.2.dstSlot))
  | _ => true

/-- A partition of a new image takes effect: its values, what they bring with them, the lock bits, CFG's registers (R49, R51). -/
def Hw.applyPartition (h : Hw) (p : Nat) (x : Partition) (fromMemory : Bool) : Hw :=
  let n := h.takeValues p x
  let n := (n.partitionChanged h p).clearLocks p
  (n.showPartition p x fromMemory).updCfg fun c => { c with image := { c.image with partitions := c.image.partitions.set p x } }

/-! ### The image at start-up (R44, R47, R53, R392) -/

/-- The header's values in CFG's registers. -/
def Hw.showHeader (h : Hw) (img : Image) (slot : Bool) : Hw :=
  let h := (h.setReg CFG_IMG_ID img.imageVersion).setF CFG_PRIV_MASK CFG_PRIV_MASK.priv img.privMask
  let h := (h.setF CFG_IMG_STAT CFG_IMG_STAT.min_stepping img.minStepping).setF CFG_IMG_STAT CFG_IMG_STAT.format_version img.formatVersion
  (h.setFlag CFG_IMG_STAT CFG_IMG_STAT.debug_en img.debugEnable).setFlag CFG_IMG_STAT CFG_IMG_STAT.slot slot

/-- The presets selected at start: the image's defaults. -/
def Hw.defaultPresets (h : Hw) (x : Partition) : Hw :=
  x.defaults.foldl (fun h d => h.setF (CFG_PRESET_SEL d.1.val) CFG_PRESET_SEL.preset d.2.val) h

/-- The device takes its image at start-up: the values of every partition, the calibration set, the reference antenna, the pair's role,
the keys of the ports. -/
def Hw.loadImage (h : Hw) (img : Image) (slot : Bool) : Hw :=
  let h := (h.showHeader img slot).updCfg fun c => { c with image := img, applied := List.range 9 }
  let h := (List.range 9).foldl (fun h p =>
    ((h.takeValues p (imagePart img p)).showPartition p (imagePart img p) false).defaultPresets (imagePart img p)) h
  let h := h.calLoad.setF GNS_STAT GNS_STAT.active_ref (h.f GNS_CFG GNS_CFG.ref_ant)
  let h := h.updRad fun r => { r with keySlots := img.radKeys }
  let h := if h.paired then h.setF EQX_STAT EQX_STAT.role 1 else h.setFlag RAD_CFG RAD_CFG.listen false
  h.deliverKeys

end Sys2Proof.Machine
end

