-- ==== Sys2Proof/Machine/Power.lean ====
section
/-! DEFINITION. Power states, resets and the return to Run (spec/16_power_reset_boot.md, R378–R391), the supply (R399) and tamper
(R340–R342). -/

namespace Sys2Proof.Machine

open Reg

/-- Change the power manager and the Vigil domain. -/
def Hw.updPwr (h : Hw) (g : PwrSt → PwrSt) : Hw := { h with pwr := g h.pwr }

/-- PWR_STAT.state: run, entering, rolling back, back-off, returning. -/
def pwrRun : Nat := 0
def pwrEntering : Nat := 1
def pwrBackOff : Nat := 3
def pwrReturning : Nat := 4

/-- The state of the power manager. -/
def Hw.pwrState (h : Hw) : Nat := h.f PWR_STAT PWR_STAT.state

/-- Set it. -/
def Hw.setPwrState (h : Hw) (st : Nat) : Hw := h.setF PWR_STAT PWR_STAT.state st

/-- PWR_STAT.result: none, done, refused, aborted, failed. -/
def pwrDone : Nat := 1
def pwrRefused : Nat := 2
def pwrAborted : Nat := 3
def pwrFailed : Nat := 4

/-- The reason codes of R380 that are no block's own. -/
def rsNoAnswer : Nat := 0x12
def rsWake : Nat := 0x13
def rsAborted : Nat := 0x15

/-- The lower state that a target names. -/
def targetState : Nat → PowerState
  | 1 => .sleep
  | 2 => .deepSleep
  | 3 => .off
  | _ => .run

/-- Every block window but the Vigil domain's. -/
def mainWindows : List Nat := without 0x1B (List.range 0x1F)

/-! ### Idle (R379) -/

/-- No task is ready or offered whose affinity includes a core of the cluster. -/
def Hw.nothingFor (h : Hw) (k : Nat) : Bool :=
  h.spn.tasks.all fun t => !(decide (t.2.state = .ready ∨ t.2.state = .offered ∨ t.2.state = .preempted) &&
    decide (t.2.affinity / 2 ^ (4 * k) % 16 ≠ 0))

/-- CLUSTER_GATE (R379): the four cores wait for an interrupt. -/
def execClusterGate (k : Fin 2) (s : State) : Host.Outcome State Fault Refusal :=
  run s fun h =>
    if h.flag (SYS_CLUSTER k.val) SYS_CLUSTER.gate_en && h.nothingFor k.val then
      let h := (List.range 4).foldl (fun (h : Hw) i => { h with cores := h.cores.upd (4 * k.val + i) fun c => { c with idle := true } }) h
      h.setFlag (SYS_CLUSTER k.val) SYS_CLUSTER.gated true
    else h

/-! ### The handshake (R380, R381, R383) -/

/-- The windows of the blocks asked at a step. -/
def stepWindows : Nat → List Nat
  | 1 => [0x18] | 2 => [0x19] | 3 => [0x17] | 4 => [0x01] | 5 => [0x16] | 6 => [0x14] | 7 => [0x15] | 8 => [0x0A]
  | 9 => [0x13] | 10 => [0x12] | 11 => [0x10] | 12 => [0x0F] | 13 => [0x0E] | 14 => [0x0B, 0x0D] | 15 => [0x11]
  | 16 => [0x0C] | 17 => [0x08] | 18 => [0x09, 0x05, 0x04] | 19 => [0x02, 0x03] | 20 => [0x1C] | 21 => [0x06]
  | 22 => [0x1D] | _ => []

/-- The reason with which the block of a step refuses, if it does: R358, R377, R339, R52, R320, R302, R284, R226, R198, R172,
R258, R145, R380. -/
def Hw.refusal (h : Hw) (refreshOk : Bool) : Nat → Option Nat
  | 1 => if h.upd.writing then some 0x0D else none
  | 2 => if h.alm.clear.isSome ∨ h.alm.held ≠ 0 ∨ ¬h.bus.staging.isEmpty then some 0x0E else none
  | 3 => if h.brlOps.isEmpty then none else some 0x0C
  | 4 => if h.reloadBusy then some 0x01 else none
  | 5 => if h.mtrOn && h.flag MTR_CFG MTR_CFG.block_sleep then some 0x0B else none
  | 6 => if (List.range 16).any fun t => decide (h.trigState t = trigArmed) then some 0x0A else none
  | 9 => if h.linkUp then some 0x09 else none
  | 10 => if h.stpState = stpRunning then some 0x08 else none
  | 11 => if h.anyAxis then some 0x06 else none
  | 12 => if h.lth.active.isEmpty && h.lth.pending.isEmpty then none else some 0x05
  | 13 => if h.noToken && !h.rsv.entries.any (fun e => decide (e.token = 0)) then none else some 0x04
  | 14 => if (List.range 129).any fun r => decide (1 ≤ r) && (decide (h.robotMode r = 1) || decide (h.robotMode r = 2)) then some 0x03 else none
  | 15 => if (List.range 8).any fun n => (h.lane n).onAir.isSome then some 0x07 else none
  | 16 => if h.jobs.isEmpty then none else some 0x02
  | 17 => if (List.range 128).any fun c => let st := h.f (DMA_CH_STAT c) DMA_CH_STAT.state; decide (st = 1 ∨ st = 2) then some 0x10 else none
  | 19 => if [0, 1].any fun p => let st := h.f (HP_LINK p) HP_LINK.state; decide (st = 2 ∨ st = 3) then some 0x0F else none
  | 21 => if (List.range 8).any fun n => (h.spnCore n).running.isSome || !(h.spnCore n).saving.isEmpty then some 0x11 else none
  | 22 => if refreshOk then none else some 0x14
  | _ => none

/-- The blocks already stopped restart, with their state as held, and the device is in Run; the rollback is counted and recorded (R381). -/
def Hw.rollback (h : Hw) (reason block : Nat) : Hw :=
  let h := h.updPwr fun p => { p with stopped := [], step := 0, final := false }
  let h := (h.setF PWR_STAT PWR_STAT.reason reason).setF PWR_STAT PWR_STAT.block block
  (h.bump PWR_ERR PWR_ERR.rollbacks PWR_ERR.rb_sat).raise PWR_IRQ_STAT PWR_IRQ_STAT.rollback 0

/-- The request ends without entering the target. -/
def Hw.endRequest (h : Hw) (result : Nat) : Hw := (h.setPwrState pwrRun).setF PWR_STAT PWR_STAT.result result

/-- A request's retries are not spent (R381): the sixteenth attempt, the last that PWR_CFG.retries admits, has no number in the four bits of
PWR_STAT.attempts. -/
def Hw.mayRetry (h : Hw) : Bool := !h.pwr.pastCount && decide (h.f PWR_STAT PWR_STAT.attempts ≤ h.f PWR_CFG PWR_CFG.retries)

/-- A refused request waits for its retry, or ends failed when its retries are spent (R381). -/
def Hw.retryOrFail (h : Hw) : Hw :=
  if h.mayRetry then
    (h.setPwrState pwrBackOff).setF PWR_STAT PWR_STAT.result pwrRefused
  else (h.endRequest pwrFailed).raise PWR_IRQ_STAT PWR_IRQ_STAT.failed 0

/-- A step is asked. -/
def Hw.askStep (h : Hw) (n : Nat) : Hw := (h.updPwr fun p => { p with step := n }).setF PWR_STAT PWR_STAT.step n

/-- An attempt begins at step 1. -/
def Hw.attempt (h : Hw) : Hw :=
  let n := h.f PWR_STAT PWR_STAT.attempts
  let h := h.updPwr fun p => { p with pastCount := decide (n = 15) }
  ((h.setPwrState pwrEntering).setF PWR_STAT PWR_STAT.attempts (min 15 (n + 1))).askStep 1

/-- A write of PWR_CTRL (R380, R383). -/
def Hw.pwrCtrl (h : Hw) (v : Word) : Hw :=
  if PWR_CTRL.abort.get v = 1 ∧ ¬h.pwr.final ∧ h.pwrState = pwrEntering then (h.rollback rsAborted 0).endRequest pwrAborted
  else if PWR_CTRL.abort.get v = 1 ∧ h.pwrState = pwrBackOff then (h.setF PWR_STAT PWR_STAT.reason rsAborted).endRequest pwrAborted
  else
    let t := PWR_CTRL.target.get v
    if PWR_CTRL.go.get v = 0 ∨ t = 0 ∨ h.pwrState ≠ pwrRun then h
    else
      let h := ((h.setF PWR_STAT PWR_STAT.target t).setF PWR_STAT PWR_STAT.result 0).setF PWR_STAT PWR_STAT.reason 0
      ((h.setF PWR_STAT PWR_STAT.block 0).setF PWR_STAT PWR_STAT.attempts 0).attempt

/-- A write of PWR_CTRL by a master. -/
def Hw.pwrCtrlWrite (h : Hw) (via : BusAcc) (v : Nat) : Hw :=
  h.regWrite via PWR_CTRL (BitVec.ofNat 32 v) fun _ h => h.pwrCtrl (BitVec.ofNat 32 v)

/-- ENTER_SLEEP (R380). -/
def execEnterSleep (via : BusAcc) (s : State) : Host.Outcome State Fault Refusal := run s fun h => h.pwrCtrlWrite via (2 ^ 31 + 1)

/-- ENTER_DEEP_SLEEP (R380, R384). -/
def execEnterDeepSleep (via : BusAcc) (s : State) : Host.Outcome State Fault Refusal := run s fun h => h.pwrCtrlWrite via (2 ^ 31 + 2)

/-- ENTER_OFF (R380). -/
def execEnterOff (via : BusAcc) (s : State) : Host.Outcome State Fault Refusal := run s fun h => h.pwrCtrlWrite via (2 ^ 31 + 3)

/-- POWER_ABORT (R383). -/
def execPowerAbort (via : BusAcc) (s : State) : Host.Outcome State Fault Refusal := run s fun h => h.pwrCtrlWrite via (2 ^ 30)

/-- What a block does when it is asked: the Almanac closes its open record, the meter makes a periodic save (R365, R320). -/
def Hw.beforeAnswer (h : Hw) : Nat → Hw
  | 2 => h.almClose
  | 5 => if h.mtrOn && !h.flag MTR_CFG MTR_CFG.block_sleep then h.meterSave else h
  | _ => h

/-- The words of the mailboxes' doorbells. -/
def doorbellRegs : List Nat := (List.range 32).flatMap fun ch => [sideReg (MBX_DB_STAT ch) false, sideReg (MBX_DB_STAT ch) true]

/-- Calends' registers that its state shows. -/
def calResumeRegs : List Nat := [CAL_STAT, CAL_INC_FRAC, CAL_INC_INT, CAL_UNC, CAL_SERVO, CAL_OFS]

/-- The resume record of a Deep sleep (R384). -/
def Hw.resumeRecord (h : Hw) : ResumeRec :=
  { ok := true, mbx := h.mbx, doorbells := doorbellRegs.map fun k => (k, h.reg k), cal := h.cal
    calRegs := calResumeRegs.map fun k => (k, h.reg k), imgStat := h.reg CFG_IMG_STAT }

/-- DRAM is in self-refresh. -/
def Hw.selfRefresh (h : Hw) : Hw :=
  let h := h.setF DDR_STAT DDR_STAT.state 3
  [0, 1].foldl (fun h i => if h.f (DDR_CH_STAT i) DDR_CH_STAT.state = 1 then h.setF (DDR_CH_STAT i) DDR_CH_STAT.state 2 else h) h

/-- A block agrees: its clock stops and the next is asked; after the last step the final phase begins (R380, R382, R384). -/
def Hw.agree (h : Hw) : Hw :=
  let n := h.pwr.step
  let count := h.vigilCount
  let h := h.updPwr fun p => { p with
    stopped := p.stopped ++ stepWindows n, stoppedAt := if n = 6 then count else p.stoppedAt }
  if n < 22 then h.askStep (n + 1)
  else
    let rec_ := h.resumeRecord
    h.selfRefresh.updPwr fun p => { p with final := true, resume := rec_ }

/-- BLOCK_ANSWER (R380): the block of the step under way answers; `refreshOk` is whether DRAM entered self-refresh. -/
def execBlockAnswer (refreshOk : Bool) (s : State) : Host.Outcome State Fault Refusal :=
  run s fun h =>
    if h.pwrState ≠ pwrEntering ∨ h.pwr.final ∨ h.pwr.step = 0 then h
    else
      let n := h.pwr.step
      let h := h.beforeAnswer n
      match h.refusal refreshOk n with
      | some r => (h.rollback r ((stepWindows n).headD 0)).retryOrFail
      | none => h.agree

/-- BLOCK_ANSWER_TIMEOUT (R380): a block that has not answered within 1 ms, or cores that do not all wait, count as refusing. -/
def execBlockAnswerTimeout (s : State) : Host.Outcome State Fault Refusal :=
  run s fun h =>
    if h.pwrState ≠ pwrEntering ∨ h.pwr.final then h
    else (h.rollback rsNoAnswer ((stepWindows h.pwr.step).headD 0)).retryOrFail

/-- BACKOFF_RETRY (R381). -/
def execBackoffRetry (s : State) : Host.Outcome State Fault Refusal :=
  run s fun h => if h.pwrState = pwrBackOff then h.attempt else h

/-! ### What a reset keeps (R384, R387, R390) -/

/-- The registers that a device reset leaves: the Vigil block, the estate tag of the fuse array, and the tamper configuration and
levels, which the Vigil domain uses (R340; log entry 73). -/
def keptReg (k : Nat) : Bool :=
  decide (k / 0x10000 = 0x1B ∨ k = BRL_ESTATE_LO ∨ k = BRL_ESTATE_HI ∨ (BRL_TMP_CFG 0 ≤ k ∧ k < BRL_TMP_CFG 7))

/-- Memory that a device reset leaves: flash, and in a Deep sleep the retained bank (`bank`; R378). -/
def keptCell (bank : Option Nat) (a : Nat) : Bool :=
  decide (0x0800000000 ≤ a ∧ a < 0x0A00000000) || bank.any fun b => decide (bankBase b ≤ a ∧ a < bankBase b + bankSize)

/-- The bank that a Deep sleep retains (R384). -/
def Hw.retainBank (h : Hw) : Nat :=
  let b := h.f PWR_CFG PWR_CFG.retain_bank
  if b ≥ 12 ∨ h.hlt.spareBank = some b ∨ h.isRetired 1 b then 0 else b

/-- Everything outside the Vigil domain at its reset values; flash, the fuse array and the Vigil domain keep theirs (R390). The
Almanac's sequence numbers start again. -/
def Hw.logicLost (h : Hw) (bank : Option Nat) : Hw :=
  let active := h.f BRL_TMP_STAT BRL_TMP_STAT.active
  let r := Hw.reset
  let n : Hw := { r with
    regs := h.regs.filter fun p => keptReg p.1
    mem := h.mem.filter fun c => keptCell bank c.1
    bus := { r.bus with resp := h.bus.resp, out := h.bus.out }
    balls := h.balls, freeCtr := h.freeCtr, flash := h.flash
    pwr := { h.pwr with stopped := [], step := 0, final := false }
    alm := { r.alm with lastGasp := h.alm.lastGasp, carried := h.alm.carried, carriedLost := h.alm.carriedLost, clearCtr := h.alm.clearCtr }
    brl := { r.brl with
      roots := h.brl.roots, closed := h.brl.closed, estateSet := h.brl.estateSet, copyA := h.brl.copyA, copyB := h.brl.copyB
      retained := h.brl.retained, offTamper := h.brl.offTamper, erasedAsleep := h.brl.erasedAsleep }
    upd := { h.upd with
      phase := if h.upd.session.isSome then h.upd.phase else 0
      recovery := false, liveStructure := false, writing := false, fails := 0, pieces := [], rcv := [], inHand := none }
    mtr := { r.mtr with slotA := h.mtr.slotA, slotB := h.mtr.slotB, gasp := h.mtr.gasp, savedAt := h.mtr.savedAt }
    stp := { r.stp with pins := h.stp.pins.filterMap fun p =>
      let x : StopPin := { (default : StopPin) with hi := p.2.hi, lo := p.2.lo }
      if x = default then none else some (p.1, x) } }
  let n := n.setF BRL_TMP_STAT BRL_TMP_STAT.active active
  if h.flag EQX_STAT EQX_STAT.hold then n.emit (.pin "EQX_HOLD" true) else n

/-- A device reset with its cause (R389, R390): a boot is due. -/
def Hw.deviceReset (h : Hw) (cause : Fld) : Hw :=
  let n := h.logicLost none
  let count := h.vigilCount
  let n := n.updPwr fun p => { p with
    power := .run, stage := .none, causes := 0, retryDue := false, stayDown := false, unpowered := false, bootDue := true, warm := false
    rdvPeriod := 0, kickedAt := count, resume := default }
  (n.updBrl fun b => { b with erasedAsleep := false }).setFlag SYS_RST_CAUSE cause true

/-- The main supply has come back: a device reset, and CAL_SLEEP shows the Vigil count since it was lost (R291). -/
def Hw.supplyPor (h : Hw) : Hw :=
  let off := (h.vigilCount + 2 ^ 48 - h.pwr.lostAt) % 2 ^ 48
  (h.deviceReset SYS_RST_CAUSE.supply_por).setReg64 CAL_SLEEP_LO off

/-- The Vigil domain, its retention and its counter are lost (R387, R389). -/
def Hw.vigilLost (h : Hw) : Hw :=
  let h := { h with regs := h.regs.filter fun p => decide (p.1 / 0x10000 ≠ 0x1B) }
  let h := h.updMtr fun m => { m with slotA := default, slotB := default, gasp := none, savedAt := 0 }
  let h := h.updAlm fun a => { a with lastGasp := [], carried := 0, carriedLost := 0 }
  let h := h.updBrl fun b => { b with retained := none, offTamper := [] }
  h.updPwr fun p => { p with bankRec := default, lostAt := 0, kickedAt := 0, stoppedAt := 0, partCycle := 0, vglWrites := [], rdvPeriod := 0 }

/-- RESET_PIN (R389, R390). -/
def execResetPin (s : State) : Host.Outcome State Fault Refusal := run s fun h => h.deviceReset SYS_RST_CAUSE.pin

/-- What a write of SYS_RST_CTRL does (R389). -/
def Hw.rstCtrl (h : Hw) (v : Word) : Hw :=
  if SYS_RST_CTRL.key.get v = 0x7128 ∧ SYS_RST_CTRL.device.get v = 1 then h.deviceReset SYS_RST_CAUSE.software else h

/-- SOFTWARE_RESET (R389). -/
def execSoftwareReset (via : BusAcc) (value : Word) (s : State) : Host.Outcome State Fault Refusal :=
  run s fun h => h.regWrite via SYS_RST_CTRL value fun _ h => h.rstCtrl value

/-- WATCHDOG_EXPIRY (R388): no kick has arrived for timeout_ms, in Run or Idle. -/
def execWatchdogExpiry (s : State) : Host.Outcome State Fault Refusal :=
  run s fun h =>
    let waited := (h.vigilCount + 2 ^ 48 - h.pwr.kickedAt) % 2 ^ 48 * 1000
    if h.flag VGL_CFG VGL_CFG.wdog_en ∧ h.pwr.power = .run ∧ max 1 (h.f VGL_WDOG VGL_WDOG.timeout_ms) * 32768 ≤ waited then
      h.deviceReset SYS_RST_CAUSE.watchdog
    else h

/-- VBAT_POR (R389). -/
def execVbatPor (s : State) : Host.Outcome State Fault Refusal :=
  run s fun h => ((h.vigilLost).setFlag VGL_STAT VGL_STAT.vbat_por true).deviceReset SYS_RST_CAUSE.vbat_por

/-- VBAT_LOSS (R279, R387): EQX_HOLD is unpowered and its pull-up releases it. -/
def execVbatLoss (s : State) : Host.Outcome State Fault Refusal := run s fun h => h.vigilLost.releaseHold

/-- SUPPLY_POR (R389, R291). -/
def execSupplyPor (s : State) : Host.Outcome State Fault Refusal :=
  run s fun h => if h.pwr.unpowered ∨ h.pwr.power = .off then h.supplyPor else h

/-- SUPPLY_FAIL (R279, R317, R369, R383, R399): the last-gasp saves, EQX_HOLD released; the device goes down. -/
def execSupplyFail (s : State) : Host.Outcome State Fault Refusal :=
  run s fun h =>
    if h.pwr.unpowered ∨ h.pwr.power = .off then h
    else
      let h := (h.meterGasp.carryOver.releaseHold).setFlag VGL_STAT VGL_STAT.supply_fail true
      let count := h.vigilCount
      h.updPwr fun p => { p with
        power := .off, unpowered := true, lostAt := count, stopped := mainWindows, step := 0, final := false, stage := .none, retryDue := false }

/-! ### The final phase (R382, R384) -/

/-- The alarm's level: the counter is at or past VGL_ALARM with alarm_en set (R388). -/
def Hw.alarmNow (h : Hw) : Bool :=
  h.flag VGL_CFG VGL_CFG.alarm_en && decide (h.vigilCount ≥ h.reg64 VGL_ALARM_LO % 2 ^ 48)

/-- WAKE stands at its wake level. -/
def Hw.wakeAsserted (h : Hw) : Bool := h.flag VGL_STAT VGL_STAT.wake_in != h.flag VGL_CFG VGL_CFG.wake_pol

/-- Bits of PWR_LAST.cause. -/
def causeWake : Nat := 1
def causeAlarm : Nat := 2
def causeHa : Nat := 4
def causeHb : Nat := 8
def causeTamper : Nat := 16
def causeRdv : Nat := 32

/-- Whether a cause wakes the device from a lower state (R378). -/
def Hw.wakesFrom (h : Hw) (st : PowerState) (cause : Nat) : Bool :=
  match st with
  | .run => false
  | .sleep => decide (cause ≠ causeHa ∧ cause ≠ causeHb) || h.flag VGL_CFG VGL_CFG.cs_wake
  | .deepSleep => decide (cause ≠ causeHa ∧ cause ≠ causeHb)
  | .off => decide (cause = causeWake)

/-- The levels that wake the device at the end of the final phase (R382). -/
def Hw.levelWakes (h : Hw) (st : PowerState) : Nat :=
  (if h.wakeAsserted && h.flag VGL_CFG VGL_CFG.wake_level then causeWake else 0) +
    (if h.alarmNow && h.wakesFrom st causeAlarm then causeAlarm else 0) +
    (if h.brl.erasedAsleep && h.wakesFrom st causeTamper then causeTamper else 0)

/-- The enables driven. -/
def Hw.setEnables (h : Hw) (n : Nat) : Hw := h.setF VGL_PMIC VGL_PMIC.en n

/-- The return begins (R385): in Sleep the rails are up; from Deep sleep EN1 is raised, from Off EN0. -/
def Hw.beginReturn (h : Hw) (causes : Nat) : Hw :=
  let count := h.vigilCount
  let h := (h.updPwr fun p => { p with causes := causes, returnAt := count }).setF VGL_STAT VGL_STAT.pg_retries 0
  let h := h.setPwrState pwrReturning
  match h.pwr.power with
  | .run => h
  | .sleep => h.updPwr fun p => { p with stage := .oscillator }
  | .deepSleep => (h.setEnables 3).updPwr fun p => { p with stage := .regulator, rail := 1 }
  | .off => (h.setEnables 1).updPwr fun p => { p with stage := .regulator, rail := 0 }

/-- The device is down in its target state (R378, R382, R396). -/
def Hw.powerDown (h : Hw) : Hw :=
  let t := targetState (h.f PWR_STAT PWR_STAT.target)
  let period := if h.flag RAD_RDV_CFG RAD_RDV_CFG.enable && decide (t ≠ .off) then h.f RAD_RDV_CFG RAD_RDV_CFG.period_s * 32768 else 0
  let count := h.vigilCount
  let h := (h.setF PWR_STAT PWR_STAT.result pwrDone).setPwrState pwrRun
  let h := h.releaseHold
  let last := PWR_STAT.target.get (h.reg PWR_STAT)
  let h := match t with
    | .sleep => [0, 1].foldl (fun (h : Hw) p => (h.setF (ETH_PORT_STAT p) ETH_PORT_STAT.link 0).updPort p fun _ => default) (h.gnsEnd gnsOff)
    | .deepSleep => h.logicLost (some h.retainBank)
    | _ => h.logicLost none
  let h := (h.setF PWR_LAST PWR_LAST.from last).setEnables (if t = .sleep then 7 else if t = .deepSleep then 1 else 0)
  let h := if t = .sleep then h else h.setF VGL_PMIC VGL_PMIC.pg (if t = .deepSleep then 1 else 0)
  let h := h.updPwr fun p => { p with
    power := t, stopped := mainWindows, step := 0, final := false, rdvPeriod := period, lostAt := if t = .off then count else p.lostAt }
  let w := h.levelWakes t
  if w = 0 then h else h.beginReturn w

/-- POWER_DOWN (R382): the final phase ends. -/
def execPowerDown (s : State) : Host.Outcome State Fault Refusal := run s fun h => if h.pwr.final then h.powerDown else h

/-! ### Wakes (R382, R386, R388) -/

/-- An edge wake in the final phase is lost (R382). -/
def Hw.edgeLost (h : Hw) : Hw :=
  (h.setFlag VGL_STAT VGL_STAT.edge_in_entry true).raise VGL_IRQ_STAT VGL_IRQ_STAT.edge_lost 0

/-- A wake arrives: during the handshake it ends the request; in the final phase an edge is lost and a level is seen when the phase ends; in
a lower state the return begins (R382). A start that stays down takes WAKE (R385). -/
def Hw.wakeUp (h : Hw) (cause : Nat) (edge : Bool) : Hw :=
  let target := targetState (h.f PWR_STAT PWR_STAT.target)
  if h.pwrState = pwrEntering then
    if ¬h.wakesFrom target cause then h
    else if h.pwr.final then (if edge then h.edgeLost else h)
    else (h.rollback rsWake 0).endRequest pwrRefused
  else if h.pwr.power = .run ∨ h.pwr.unpowered then h
  else if h.pwr.stayDown then
    if cause = causeWake then (h.updPwr fun p => { p with stayDown := false }).beginReturn cause else h
  else if h.pwr.stage = .none ∧ ¬h.pwr.retryDue ∧ h.wakesFrom h.pwr.power cause then h.beginReturn cause
  else h

/-- WAKE (R378, R382). -/
def execWake (cause : WakeCause) (s : State) : Host.Outcome State Fault Refusal :=
  run s fun h =>
    match cause with
    | .pin high =>
      let was := h.wakeAsserted
      let h := h.setFlag VGL_STAT VGL_STAT.wake_in high
      if h.wakeAsserted && !was then h.wakeUp causeWake (!h.flag VGL_CFG VGL_CFG.wake_level) else h
    | .alarm => if h.alarmNow then h.wakeUp causeAlarm false else h
    | .haCs => if h.f (HP_CFG 0) HP_CFG.mode = 1 then h.wakeUp causeHa true else h
    | .hbCs => if h.f (HP_CFG 1) HP_CFG.mode = 1 then h.wakeUp causeHb true else h
    | .tamper => if h.brl.erasedAsleep then h.wakeUp causeTamper false else h

/-- ALARM (R388): the alarm asserts; in Run it raises its interrupt bit, in a lower state it wakes the device. -/
def execAlarm (s : State) : Host.Outcome State Fault Refusal :=
  run s fun h =>
    if ¬h.alarmNow then h
    else
      let h := if h.pwr.power = .run then h.raise VGL_IRQ_STAT VGL_IRQ_STAT.alarm 0 else h
      h.wakeUp causeAlarm false

/-- RENDEZVOUS_WAKE (R254, R386): the return for the next rendezvous begins. -/
def execRendezvousWake (s : State) : Host.Outcome State Fault Refusal :=
  run s fun h =>
    let n := h.pwr.rdvPeriod
    if n = 0 ∨ h.pwr.stage ≠ .none ∨ h.pwr.retryDue ∨ h.pwr.stayDown ∨ ¬(h.pwr.power = .sleep ∨ h.pwr.power = .deepSleep) then h
    else
      let next := (h.vigilCount + n - 1) / n * n
      (h.updPwr fun p => { p with rdvAt := next }).beginReturn causeRdv

/-! ### The locked state (R394) -/

/-- The start ends in the locked state with a halt reason: AC0 and SP halt, STP is unarmed and its outputs inactive, EQX_HOLD is not
driven, and of the blocks only SYS, HPA, HPB and ALM stay reachable. -/
def Hw.lockDevice (h : Hw) (halt : Nat) : Hw :=
  let h := (h.setF SYS_BOOT SYS_BOOT.stage 0xF).setF SYS_BOOT SYS_BOOT.halt halt
  let h := (h.setFlag SYS_SP_STAT SYS_SP_STAT.running false).setFlag (SYS_CORE_CTRL 0) SYS_CORE_CTRL.run false
  let h := h.withOuts fun h => (h.setF STP_STAT STP_STAT.state stpUnarmed).updStp fun p => { p with outsOn := false }
  let h := if h.flag EQX_STAT EQX_STAT.hold then h.releaseHold else h
  h.updPwr fun p => { p with
    power := .run, stage := .none, bootDue := false, stopped := mainWindows.filter fun b => !memb b [0x00, 0x02, 0x03, 0x19] }

/-! ### The return (R385) -/

/-- PG_GOOD (R385): the next enable is raised, or after the last the oscillator stage begins. -/
def execPgGood (n : Fin 3) (s : State) : Host.Outcome State Fault Refusal :=
  run s fun h =>
    let h := h.setF VGL_PMIC VGL_PMIC.pg (h.f VGL_PMIC VGL_PMIC.pg ||| 2 ^ n.val)
    if h.pwr.stage ≠ .regulator ∨ h.pwr.rail ≠ n.val then h
    else if n.val < 2 then (h.setEnables (h.f VGL_PMIC VGL_PMIC.en ||| 2 ^ (n.val + 1))).updPwr fun p => { p with rail := n.val + 1 }
    else h.updPwr fun p => { p with stage := .oscillator }

/-- SRAM whose supply is dropped holds nothing (R378, R385). -/
def Hw.sramLost (h : Hw) : Hw :=
  ({ h with mem := h.mem.filter fun c => keptCell none c.1 } : Hw).updPwr fun p => { p with resume := { p.resume with ok := false } }

/-- PG_TIMEOUT (R385): a regulator failure drops every enable; after three retries the device stays down. -/
def execPgTimeout (s : State) : Host.Outcome State Fault Refusal :=
  run s fun h =>
    if h.pwr.stage ≠ .regulator then h
    else
      let h := (((h.sramLost).setEnables 0).setF VGL_PMIC VGL_PMIC.pg 0).setFlag VGL_STAT VGL_STAT.pg_fail true
      let h := h.raise VGL_IRQ_STAT VGL_IRQ_STAT.pg_fail 0
      let more := decide (h.f VGL_STAT VGL_STAT.pg_retries < 3)
      h.updPwr fun p => { p with stage := .none, retryDue := more, stayDown := !more }

/-- PG_RETRY (R385). -/
def execPgRetry (s : State) : Host.Outcome State Fault Refusal :=
  run s fun h =>
    if ¬h.pwr.retryDue then h
    else
      let h := (h.setEnables 1).setF VGL_STAT VGL_STAT.pg_retries (h.f VGL_STAT VGL_STAT.pg_retries + 1)
      h.updPwr fun p => { p with stage := .regulator, rail := 0, retryDue := false }

/-- PLL_LOCK_TIMEOUT (R385). -/
def execPllLockTimeout (s : State) : Host.Outcome State Fault Refusal :=
  run s fun h => if h.pwr.stage = .oscillator then h.lockDevice 0x5 else h

/-- A channel leaves self-refresh: a failed exit is retrained once (R395). -/
def Hw.leaveRefresh (h : Hw) (i : Nat) (t : DdrTrain) : Hw :=
  if h.f (DDR_CH_STAT i) DDR_CH_STAT.state ≠ 2 then h
  else if t.first then h.setF (DDR_CH_STAT i) DDR_CH_STAT.state 1
  else
    let h := (h.bump (DDR_CH_ERR i) DDR_CH_ERR.sr_fail DDR_CH_ERR.sr_sat).countUp (DDR_CH_STAT i) DDR_CH_STAT.attempts
    h.setF (DDR_CH_STAT i) DDR_CH_STAT.state (if t.second then 1 else 3)

/-- A rendezvous whose return ended after its nominal time is late (R386). -/
def Hw.lateCheck (h : Hw) : Hw :=
  if bit h.pwr.causes 5 && decide (h.vigilCount > h.pwr.rdvAt) then
    (h.bump PWR_ERR PWR_ERR.late_rdv PWR_ERR.late_sat).raise PWR_IRQ_STAT PWR_IRQ_STAT.late_rdv 0
  else h

/-- A return to Run has completed: PWR_LAST, and the interrupt (R385, R386). -/
def Hw.returned (h : Hw) : Hw :=
  let us := (h.vigilCount + 2 ^ 48 - h.pwr.returnAt) % 2 ^ 48 * 15625 / 512
  let h := (h.setF PWR_LAST PWR_LAST.cause h.pwr.causes).setF PWR_LAST PWR_LAST.return_us (min us PWR_LAST.return_us.max)
  let h := (h.setPwrState pwrRun).lateCheck.raise PWR_IRQ_STAT PWR_IRQ_STAT.woke 0
  h.updPwr fun p => { p with causes := 0 }

/-- The return from Sleep ends (R290, R302, R320, R378): the blocks restart, site time advances by the sleep, the receiver restarts. A
device whose keys a tamper erased returns only into the locked state (R341). -/
def Hw.sleepEnds (h : Hw) : Hw :=
  let count := h.vigilCount
  let slept := (count + 2 ^ 48 - h.pwr.stoppedAt) % 2 ^ 48
  let h := h.updPwr fun p => { p with power := .run, stage := .none, stopped := [], rdvPeriod := 0, kickedAt := count }
  let h := (h.calWake slept).setF DDR_STAT DDR_STAT.state 2
  if h.brl.erasedAsleep then
    let st := if h.brlState = brlDestroyed then brlDestroyed else brlLocked
    (((h.brlLock 1 false).setF BRL_STAT BRL_STAT.state st).updBrl fun b => { b with erasedAsleep := false }).lockDevice 0x6
  else
    let h := if h.flag GNS_CFG GNS_CFG.enable then h.gnsStart else h
    let off := (count + 2 ^ 48 - h.mtr.savedAt) % 2 ^ 48
    let h := if h.mtrOn then h.event (srcOf 0x16 0) 0x0014 (BitVec.ofNat 32 off) (BitVec.ofNat 32 (off / 2 ^ 32)) 2 else h
    h.returned

/-- RETURN_STAGE_READY (R385, R395): the stage under way is ready; `training` tells how each DRAM channel leaves self-refresh, and after a
second failure a device reset follows. -/
def execReturnStageReady (training : List DdrTrain) (s : State) : Host.Outcome State Fault Refusal :=
  run s fun h =>
    match h.pwr.stage with
    | .oscillator => h.updPwr fun p => { p with stage := .memory }
    | .memory =>
      if h.pwr.power ≠ .sleep then h.updPwr fun p => { p with stage := .logic }
      else
        let h := [0, 1].foldl (fun h i => h.leaveRefresh i (training.getD i default)) h
        if [0, 1].any fun i => decide (h.f (DDR_CH_STAT i) DDR_CH_STAT.state = 3) then h.deviceReset SYS_RST_CAUSE.supply_por
        else h.updPwr fun p => { p with stage := .logic }
    | .logic =>
      match h.pwr.power with
      | .sleep => h.sleepEnds
      | .deepSleep => h.updPwr fun p => { p with power := .run, stage := .none, stopped := [], bootDue := true, warm := true, rdvPeriod := 0 }
      | .off => h.supplyPor
      | .run => h
    | _ => h

/-! ### Tamper (R340–R342) -/

/-- The level at which a source acts: level 3 acts as 2 where the root may not be destroyed. -/
def Hw.tamperLevel (h : Hw) (src : Nat) : Nat :=
  let l := h.f (BRL_TMP_CFG src) BRL_TMP_CFG.level
  if l = 3 ∧ ¬h.flag BRL_CFG BRL_CFG.root_destroy_en then 2 else l

/-- The last root position used: the one of the root in force (R323). -/
def Hw.rootAt (h : Hw) : Option Nat := [3, 2, 1, 0].find? fun i => decide (h.brl.roots.at i ≠ .unused)

/-- The current root position can never verify again (R342). -/
def Hw.destroyRoot (h : Hw) : Hw :=
  let n := h.rootAt.getD 0
  (h.updBrl fun b => { b with roots := b.roots.set n .void, root := [] }).setF BRL_STAT BRL_STAT.state brlDestroyed

/-- The power state's number in a tamper record: 0 run, 1 sleep, 2 deep sleep, 3 off. -/
def powerCode : PowerState → Nat
  | .run => 0 | .sleep => 1 | .deepSleep => 2 | .off => 3

/-- Start-up: from reset until Burl has left unsealing (R341). -/
def Hw.startingUp (h : Hw) : Bool :=
  h.pwr.bootDue || (decide (1 ≤ h.f SYS_BOOT SYS_BOOT.stage ∧ h.f SYS_BOOT SYS_BOOT.stage ≤ 2) && decide (h.brlState ≤ brlUnsealing))

/-- The response at level 2 or 3 (R341). -/
def Hw.tamperResponse (h : Hw) (level : Nat) : Hw :=
  let asleep := decide (h.pwr.power = .sleep ∨ h.pwr.power = .deepSleep)
  let h :=
    if h.startingUp then (h.brlLock 1 false).lockDevice 0x6
    else if asleep then
      let h := h.updBrl fun b => { b with slots := [], shadows := [], root := [], erasedAsleep := true }
      ({ h with ports := default } : Hw).wakeUp causeTamper false
    else
      let h := h.brlTamperOps
      let keep := !h.paired && decide (h.stpState ≠ stpUnarmed)
      let h := h.brlLock 1 keep
      if h.paired then h.releaseHold
      else (h.updStp fun p => { p with eraseKey := keep }).fleetStop 10
  if level = 3 then h.destroyRoot else h

/-- A tamper source fires after its filter, in any state but Off (R340). -/
def Hw.tamperFires (h : Hw) (src : Nat) : Hw :=
  let level := h.f (BRL_TMP_CFG src) BRL_TMP_CFG.level
  let h := (h.bump BRL_ERR BRL_ERR.tamper BRL_ERR.tamper_sat).setF BRL_TMP_STAT BRL_TMP_STAT.latched
    (h.f BRL_TMP_STAT BRL_TMP_STAT.latched ||| 2 ^ src)
  if level = 0 then h
  else
    let h := h.gaspEvent (srcOf 0x17 0) 0x000F (BitVec.ofNat 32 src) (BitVec.ofNat 32 level) (BitVec.ofNat 32 (powerCode h.pwr.power))
    let h := h.raise BRL_IRQ_STAT BRL_IRQ_STAT.tamper src
    if level ≥ 2 then h.tamperResponse (h.tamperLevel src) else h

/-- TAMPER (R340–R342): a source becomes active, or inactive. In Off an input that leaves its inactive level latches. -/
def execTamper (source : Fin 7) (active : Bool) (s : State) : Host.Outcome State Fault Refusal :=
  run s fun h =>
    let old := h.f BRL_TMP_STAT BRL_TMP_STAT.active
    let rest := old - (if bit old source.val then 2 ^ source.val else 0)
    let h := h.setF BRL_TMP_STAT BRL_TMP_STAT.active (rest + if active then 2 ^ source.val else 0)
    if ¬active then h
    else if h.pwr.power = .off then
      if source.val < 4 then h.updBrl fun b => { b with offTamper := addCode source.val b.offTamper } else h
    else h.tamperFires source.val

/-! ### Application cores (R27, R389, R392) -/

/-- What a write of SYS_CORE_CTRL does: a reset of the core releases what its master holds. -/
def Hw.coreCtrl (h : Hw) (n : Nat) (v : Word) : Hw :=
  if SYS_CORE_CTRL.reset.get v = 0 then h
  else ({ h with cores := h.cores.set n default } : Hw).releaseLocks (n + 1)

/-- CORE_RESET (R27, R389): the run bit stays as it is. -/
def execCoreReset (via : BusAcc) (n : Fin 8) (s : State) : Host.Outcome State Fault Refusal :=
  run s fun h =>
    let v := SYS_CORE_CTRL.run.set (SYS_CORE_CTRL.reset.set 0 1) (h.f (SYS_CORE_CTRL n.val) SYS_CORE_CTRL.run)
    h.regWrite via (SYS_CORE_CTRL n.val) v fun _ h => h.coreCtrl n.val v

/-- CORE_RELEASE (R392). -/
def execCoreRelease (via : BusAcc) (n : Fin 8) (s : State) : Host.Outcome State Fault Refusal :=
  run s fun h =>
    let v := SYS_CORE_CTRL.run.set 0 1
    h.regWrite via (SYS_CORE_CTRL n.val) v fun _ h => h.coreCtrl n.val v

end Sys2Proof.Machine
end

