-- ==== Sys2Proof/Machine/Boot.lean ====
section
/-! DEFINITION. Start-up (spec/16_power_reset_boot.md, R391–R395): the boot ROM's stages, the root and the sealed store, trials and
rollbacks, the image, DRAM, warm starts. -/

namespace Sys2Proof.Machine

open Reg

/-- SYS_BOOT.stage: rom, keys, activation, structure, dram, safety, application, running, recovery. -/
def stRom : Nat := 1
def stKeys : Nat := 2
def stActivation : Nat := 3
def stStructure : Nat := 4
def stDram : Nat := 5
def stSafety : Nat := 6
def stApplication : Nat := 7
def stRunning : Nat := 8
def stRecovery : Nat := 9

/-- The stage under way. -/
def Hw.bootStage (h : Hw) : Nat := h.f SYS_BOOT SYS_BOOT.stage

/-- The next stage begins. -/
def Hw.setStage (h : Hw) (n : Nat) : Hw := h.setF SYS_BOOT SYS_BOOT.stage n

/-- The straps in SYS_STRAP and in the modes of the host ports (R391). -/
def Hw.showStraps (h : Hw) : Hw :=
  let w := h.pwr.straps
  let h := h.setReg SYS_STRAP w
  (h.setF (HP_CFG 0) HP_CFG.mode (SYS_STRAP.ha_mode.get w)).setF (HP_CFG 1) HP_CFG.mode (SYS_STRAP.hb_mode.get w)

/-- A word of strap levels. -/
def strapWord (x : Straps) : Word :=
  BitVec.ofNat 32 (x.haMode.toNat + x.hbMode.toNat * 4 + x.bootRcv.toNat * 16 + x.refSel.toNat * 32)

/-- The boot ROM begins (R392): on AC0, or on SP where AC0 fails its self-check. -/
def Hw.romBegins (h : Hw) (ac0Ok : Bool) : Hw :=
  let h := (h.showStraps.setStage stRom).setFlag (SYS_CORE_CTRL 0) SYS_CORE_CTRL.self_ok ac0Ok
  let h := h.setFlag SYS_BOOT SYS_BOOT.warm h.pwr.warm
  h.updPwr fun p => { p with bootDue := false }

/-- BOOT (R391, R392): the straps are sampled at the release of the logic stage of a device reset. -/
def execBoot (straps : Straps) (ac0Ok : Bool) (s : State) : Host.Outcome State Fault Refusal :=
  run s fun h =>
    if ¬h.pwr.bootDue ∨ h.pwr.warm then h
    else (h.updPwr fun p => { p with straps := strapWord straps }).romBegins ac0Ok

/-- WARM_START (R384, R389): a return from Deep sleep; the straps are those of the last device reset. -/
def execWarmStart (ac0Ok : Bool) (s : State) : Host.Outcome State Fault Refusal :=
  run s fun h =>
    if ¬h.pwr.bootDue ∨ ¬h.pwr.warm then h
    else (h.romBegins ac0Ok).setFlag SYS_RST_CAUSE SYS_RST_CAUSE.deep_sleep true

/-! ### rom (R393) -/

/-- The least element of a list of numbers. -/
def least : List Nat → Option Nat
  | [] => none
  | n :: ns => match least ns with
    | some m => some (min n m)
    | none => some n

/-- The bank-retirement record as the rom stage leaves it: an invalid one is made anew from the march test. -/
def Hw.romBanks (h : Hw) (bad : List Nat) : Hw :=
  if h.pwr.bankRec.ok then h
  else
    let bad := bad.filter fun b => decide (1 ≤ b ∧ b < 12)
    let first := least bad
    let h := h.updPwr fun p => { p with bankRec := ⟨true, first, if first.isSome then 1 else 0⟩ }
    h.updHlt fun x => { x with deadBanks := bad.filter fun b => decide (some b ≠ first) }

/-- The rom stage. -/
def Hw.bootRom (h : Hw) (facts : BootFacts) : Hw :=
  if facts.bank0Ok then (h.romBanks facts.badBanks).setStage stKeys else h.lockDevice 0x1

/-! ### keys (R323, R325, R328, R333, R340, R341) -/

/-- A start-up tamper: an input latched in Off, keys erased while asleep, or a source at level 2 or 3 active (R340, R341). -/
def Hw.startTamper (h : Hw) : Bool :=
  !h.brl.offTamper.isEmpty || h.brl.erasedAsleep ||
    (List.range 7).any fun i => bit (h.f BRL_TMP_STAT BRL_TMP_STAT.active) i && decide (h.tamperLevel i ≥ 2)

/-- The events of inputs that latched in Off are recorded at the next start (R340). -/
def Hw.recordOffTamper (h : Hw) : Hw :=
  let h := h.brl.offTamper.foldl (fun h i =>
    let h := (h.bump BRL_ERR BRL_ERR.tamper BRL_ERR.tamper_sat).setF BRL_TMP_STAT BRL_TMP_STAT.latched
      (h.f BRL_TMP_STAT BRL_TMP_STAT.latched ||| 2 ^ i)
    h.gaspEvent (srcOf 0x17 0) 0x000F (BitVec.ofNat 32 i) (BitVec.ofNat 32 (h.f (BRL_TMP_CFG i) BRL_TMP_CFG.level)) 3) h
  h.updBrl fun b => { b with offTamper := [], erasedAsleep := false }

/-- A root is made in the first unused position after those used (R323): 32 octets of the TRNG. A store of another root cannot be
opened. `none` where no position is left or the entropy fails. -/
def Hw.makeRoot (h : Hw) (entropyOk : Bool) : Option Hw :=
  match (List.range 4).find? fun i => (List.range 4).all fun j => decide (j < i) || decide (h.brl.roots.at j = .unused) with
  | none => none
  | some i =>
    if ¬entropyOk then none
    else
      let v := h.freeOctets 32
      let h := (h.useFree 32).updBrl fun b => { b with
        roots := b.roots.set i (.root v), root := v, copyA := default, copyB := default, retained := none, closed := false }
      some ((h.setF BRL_STAT BRL_STAT.root_pos i).setFlag SYS_BOOT SYS_BOOT.first_start true)

/-- The root in force, made at the first start. -/
def Hw.findRoot (h : Hw) (entropyOk : Bool) : Option Hw :=
  match h.rootAt with
  | some i => match h.brl.roots.at i with
    | .root v => some ((h.updBrl fun b => { b with root := v }).setF BRL_STAT BRL_STAT.root_pos i)
    | _ => h.makeRoot entropyOk
  | none => h.makeRoot entropyOk

/-- Swaps recorded before a power failure complete (R333). -/
def Hw.finishSwaps (h : Hw) : Hw :=
  [0, 1, 2].foldl (fun h n => match h.shadow n with
    | some x => if x.swapAt.isSome then h.swapNow n x else h
    | none => h) h

/-- The sealed store is opened (R325): the higher valid generation, unless Vigil retention knows a higher one; then Burl locks. -/
def Hw.openStore (h : Hw) : Hw :=
  let state := if h.brl.closed then brlClosed else brlOpen
  let stored := decide (h.brl.copyA.gen ≠ 0 ∨ h.brl.copyB.gen ≠ 0)
  match h.brl.newest with
  | none =>
    if h.brl.retained.isSome then h.brlLock 2 false
    else if stored then h.brlLock 3 false
    else h.setF BRL_STAT BRL_STAT.state state
  | some c =>
    if h.brl.retained.any fun g => decide (g > c.gen) then h.brlLock 2 false
    else
      let h := if h.brl.retained.isNone then h.event (srcOf 0x17 0) 0x0015 2 0 0 else h
      let now := h.now
      let h := h.updBrl fun b => { b with
        slots := c.slots, retained := some c.gen
        shadows := c.shadows.map fun p => (p.1, p.2.map fun x => { x with since := now }) }
      ((h.setReg BRL_KU_CTR (BitVec.ofNat 32 c.kuCtr)).setF BRL_STAT BRL_STAT.state state).finishSwaps

/-- The keys stage: Burl unseals; a tamper, or a Burl without root or store, ends the start locked. -/
def Hw.bootKeys (h : Hw) (facts : BootFacts) : Hw :=
  if h.startTamper then (h.recordOffTamper.brlLock 1 false).lockDevice 0x6
  else
    match (h.setF BRL_STAT BRL_STAT.state brlUnsealing).findRoot facts.entropyOk with
    | none => (h.setF BRL_STAT BRL_STAT.state brlNoRoot).lockDevice 0x2
    | some h =>
      let h := h.openStore.deriveIdentity
      if h.brlIsLocked then h.lockDevice 0x2 else h.setStage stActivation

/-! ### activation (R344, R352, R354, R359) -/

/-- A slot may be loaded: its image_hash and its manifest's signature verify, and for a structure image the checks of R46 (R354,
R357). -/
def Hw.slotGood (h : Hw) (part : Nat) (b : Bool) (facts : BootFacts) : Bool :=
  h.slotHashOk part b && h.mfSigned (h.slotManifest part b) &&
    (decide (part ≠ 0) || decide (h.imageError (if b then facts.imageB else facts.imageA) = 0))

/-- What start finds in each slot, for UPD_PART_STAT. -/
def Hw.checkSlots (h : Hw) (facts : BootFacts) : Hw :=
  [0, 1, 2].foldl (fun h p => [false, true].foldl (fun h b =>
    let v := if h.slotGood p b facts then some (mfVersion (h.slotManifest p b)) else none
    h.updUpd fun u => { u with versions := u.versions.set (2 * p + b.toNat) v }) h) h

/-- A slot is valid, as start has found it. -/
def Hw.slotFound (h : Hw) (p : Nat) (b : Bool) : Bool := (h.upd.versions.at (2 * p + b.toNat)).isSome

/-- Trial handling at a device reset (R354): a rollback asked for, or no tries left, rolls back; else one try is spent. -/
def Hw.trialStep (h : Hw) (p : Nat) : Hw :=
  let a := h.actPart p
  if ¬a.trial then h
  else if memb p h.upd.rollbackDue ∨ a.tries = 0 then h.rollBack p
  else h.actWrite p { a with tries := a.tries - 1 }

/-- The active slot where it is valid, else the other where that is (R354): the partition is then rolled back. -/
def Hw.settlePart (h : Hw) (p : Nat) : Hw :=
  let a := h.actPart p
  if h.slotFound p a.active ∨ ¬h.slotFound p !a.active then h
  else (h.actWrite p { a with prev := !a.active }).rollBack p

/-- Recovery (R359). -/
def Hw.enterRecovery (h : Hw) : Hw := (h.updUpd fun u => { u with recovery := true, recoverNext := false }).setStage stRecovery

/-- The activation stage: LOG, the calibration set's lost write (R345), IMG flash, trials, recovery. -/
def Hw.bootActivation (h : Hw) (facts : BootFacts) : Hw :=
  let h := h.almStart facts.logFound
  if h.flash.imgSize < 0x04000000 then (h.updUpd fun u => { u with flashSmall := true }).lockDevice 0x3
  else
    let h := h.setReg UPD_ACT_CTR (BitVec.ofNat 32 h.upd.act.counter)
    let h := if h.pwr.warm then h else [0, 1, 2].foldl Hw.trialStep h
    let h := [0, 1, 2].foldl Hw.settlePart (h.checkSlots facts)
    let missing := [0, 1, 2].any fun p => !h.slotFound p (h.actPart p).active
    if missing ∨ (h.upd.recoverNext ∧ ¬h.pwr.warm) ∨ h.flag SYS_STRAP SYS_STRAP.boot_rcv then h.enterRecovery else h.setStage stStructure

/-! ### structure (R47, R316, R318, R384, R393) -/

/-- The bank-retirement record meets the spare that the Foundation declares (R393). -/
def Hw.mapSpare (h : Hw) (img : Image) : Hw :=
  let spare := img.spareBanks.head?
  let h := h.updHlt fun x => { x with spareBank := spare }
  match h.pwr.bankRec.bank with
  | none => h
  | some b =>
    let w := h.reg (HLT_CLASS 1)
    let h := h.setReg (HLT_CLASS 1) (HLT_CLASS.in_service.set (satUp HLT_CLASS.retired w) (HLT_CLASS.in_service.get w - 1))
    let h := h.updHlt fun x => { x with retired := x.retired ++ [⟨1, b⟩], inherited := x.inherited + 1 }
    match spare with
    | some s => if s = b then h.updHlt fun x => { x with deadBanks := addCode b x.deadBanks }
      else h.updHlt fun x => { x with bankMap := x.bankMap.set b (s + 1) }
    | none => h.updHlt fun x => { x with deadBanks := addCode b x.deadBanks }

/-- The resume record restores the mailboxes and Calends (R290, R384); one whose CRC fails leaves a cold start. -/
def Hw.resumeWarm (h : Hw) : Hw :=
  let r := h.pwr.resume
  if ¬h.pwr.warm then h
  else if ¬r.ok then h.updPwr fun p => { p with resume := default }
  else
    let h := (r.doorbells ++ r.calRegs).foldl (fun h p => h.setReg p.1 p.2) { h with mbx := r.mbx, cal := r.cal }
    let slept := (h.vigilCount + 2 ^ 48 - h.pwr.stoppedAt) % 2 ^ 48
    (h.calWake slept).updPwr fun p => { p with resume := default }

/-- The structure stage. -/
def Hw.bootStructure (h : Hw) (facts : BootFacts) : Hw :=
  let b := (h.actPart 0).active
  let img := if b then facts.imageB else facts.imageA
  let h := (h.loadImage img b).mapSpare img
  let h := h.meterStart (if h.pwr.warm then 2 else 1)
  let h := if h.upd.calDue then (h.setFlag MTR_CAL_STAT MTR_CAL_STAT.commit_fail true).updUpd fun u => { u with calDue := false } else h
  (h.resumeWarm.updPwr fun p => { p with kickedAt := h.vigilCount }).setStage stDram

/-! ### dram (R395) -/

/-- A channel is initialised and trained, with one retry at the same rate. -/
def Hw.trainChannel (h : Hw) (i : Nat) (t : DdrTrain) : Hw :=
  let h := h.countUp (DDR_CH_STAT i) DDR_CH_STAT.attempts
  let h := if t.first then h else h.countUp (DDR_CH_STAT i) DDR_CH_STAT.attempts
  if t.first || t.second then
    let h := (h.setF (DDR_CH_STAT i) DDR_CH_STAT.state 1).setF (DDR_CH_STAT i) DDR_CH_STAT.rate (h.f (DDR_CH_CFG i) DDR_CH_CFG.rate)
    let h := h.setF (DDR_CH_STAT i) DDR_CH_STAT.size t.size.toNat
    let w := DDR_CH_TRAIN.wr_margin.set (DDR_CH_TRAIN.rd_margin.set (DDR_CH_TRAIN.vref_ca.set (DDR_CH_TRAIN.vref_dq.set 0
      t.vrefDq.toNat) t.vrefCa.toNat) t.rdMargin.toNat) t.wrMargin.toNat
    h.setReg (DDR_CH_TRAIN i) w
  else h.setF (DDR_CH_STAT i) DDR_CH_STAT.state 3

/-- Every enabled channel is trained; whether all have succeeded. -/
def Hw.trainAll (h : Hw) (training : List DdrTrain) : Hw × Bool :=
  let on := [0, 1].filter fun i => bit (h.f DDR_CFG DDR_CFG.ch_en) i
  let h := on.foldl (fun h i => h.trainChannel i (training.getD i default)) h
  let ok := on.all fun i => decide (h.f (DDR_CH_STAT i) DDR_CH_STAT.state = 1)
  (h.setF DDR_STAT DDR_STAT.state (if ok then 2 else 4), ok)

/-- The dram stage. -/
def Hw.bootDram (h : Hw) (facts : BootFacts) : Hw :=
  let (h, ok) := h.trainAll facts.training
  if ok then h.setStage stSafety else h.lockDevice 0x4

/-- What a write of DDR_INIT does (R395): a go while trained is ignored. -/
def Hw.ddrInit (h : Hw) (v : Word) (training : List DdrTrain) : Hw :=
  if DDR_INIT.go.get v = 0 ∨ h.f DDR_STAT DDR_STAT.state = 2 then h else (h.trainAll training).1

/-- DDR_INIT (R395). -/
def execDdrInit (via : BusAcc) (training : List DdrTrain) (s : State) : Host.Outcome State Fault Refusal :=
  run s fun h =>
    let v := DDR_INIT.go.set 0 1
    h.regWrite via DDR_INIT v fun _ h => h.ddrInit v training

/-! ### safety, application (R355, R392) -/

/-- The default settings record of the Settings partition (R47): its octets are not given; free values stand for them. -/
def Hw.defaultSettings (h : Hw) : List Byte × Hw := (h.freeOctets 16, h.useFree 16)

/-- The settings record follows the format of the active Application image (R355). -/
def Hw.settleSettings (h : Hw) : Hw :=
  let new := h.appFormat
  let cur := h.upd.settings
  if new = 0 ∨ (cur.ok ∧ cur.format = new) then h
  else
    let old := h.upd.displaced
    let h := if cur.ok then h.updUpd fun u => { u with displaced := cur } else h
    let h := if old.ok ∧ old.format = new then h.settingsWrite new old.octets
      else let (bs, h) := h.defaultSettings; h.settingsWrite new bs
    h.event (srcOf 0x18 0) 0x0013 (BitVec.ofNat 32 cur.format) (BitVec.ofNat 32 new) 0

/-- The application stage: AC0 runs, and a return from Deep sleep is complete. -/
def Hw.bootApplication (h : Hw) (facts : BootFacts) : Hw :=
  let h := (h.settleSettings.setFlag (SYS_CORE_CTRL 0) SYS_CORE_CTRL.run true).setStage stRunning
  let h := h.setF SYS_BOOT SYS_BOOT.boot_ms (min facts.ms SYS_BOOT.boot_ms.max)
  if h.pwr.warm then (h.setF PWR_LAST PWR_LAST.from 2).returned.updPwr fun p => { p with warm := false } else h

/-- BOOT_STAGE_COMPLETE (R392): the stage under way completes with what it finds. -/
def execBootStageComplete (facts : BootFacts) (s : State) : Host.Outcome State Fault Refusal :=
  run s fun h =>
    match h.bootStage with
    | 1 => h.bootRom facts
    | 2 => h.bootKeys facts
    | 3 => h.bootActivation facts
    | 4 => h.bootStructure facts
    | 5 => h.bootDram facts
    | 6 => (h.setFlag SYS_SP_STAT SYS_SP_STAT.running true).setStage stApplication
    | 7 => h.bootApplication facts
    | _ => h

end Sys2Proof.Machine
end

