-- ==== Sys2Proof/Machine/Sp.lean ====
section
/-! DEFINITION. The safety processor's rules on verdicts (spec/06_robot_fixes.md, R169, R170). -/

namespace Sys2Proof.Machine

open Reg

/-- What SP keeps of a robot, and a change of it. -/
def Hw.spRob (h : Hw) (r : Nat) : SpRbt := h.sp.robots.at r
def Hw.updSpRob (h : Hw) (r : Nat) (g : SpRbt → SpRbt) : Hw := { h with sp := { h.sp with robots := h.sp.robots.upd r g } }

/-- A robot's committed profile moves (R169, R210). -/
def Hw.robotMoves (h : Hw) (r : Nat) : Bool := (h.activeProf r).any fun p => p.moving h.now

/-- SP escalates to a fleet stop (source 9), unless it already asserts one (R170). -/
def Hw.spFleet (h : Hw) : Hw := if memb 9 h.stp.sp then h else h.spStop 9 0

/-- SP decides on a targeted stop (source 8) of a robot that it does not already hold under one; fleet_n of them within 1 s escalate
(R169, R170). -/
def Hw.spTarget (h : Hw) (r : Nat) : Hw :=
  if r = 0 ∨ (h.target r).any fun t => memb 8 t.asserting then h
  else
    let h := (h.spStop 8 r).updSpRob r fun x => { x with stopAt := some (x.stopAt.getD h.now) }
    let issued := (h.sp.issued.filter fun t => decide (h.now < t + 1000000000)) ++ [h.now]
    let h := { h with sp := { h.sp with issued := issued } }
    if issued.length ≥ max 2 (h.f FIX_STOP_CFG FIX_STOP_CFG.fleet_n) then h.spFleet else h

/-- Standstill speed. -/
def Hw.stillSpeed (h : Hw) : Nat := h.f FIX_STOP_CFG2 FIX_STOP_CFG2.still_mm_s

/-- stop_lost_ms, at least 50, and stop_confirm in ns. -/
def Hw.stopLostNs (h : Hw) : Nat := max 50 (h.f FIX_STOP_CFG FIX_STOP_CFG.stop_lost_ms) * 1000000
def Hw.stopConfirmNs (h : Hw) : Nat := max 1 (h.f FIX_STOP_CFG FIX_STOP_CFG.stop_confirm) * 10000000

/-- A robot under targeted stop that still moves stop_confirm after the stop escalates (R170). -/
def Hw.confirmStop (h : Hw) (r speed t : Nat) : Hw :=
  if (h.target r).isNone then h.updSpRob r fun x => { x with stopAt := none }
  else
    let since := (h.spRob r).stopAt.getD t
    let h := h.updSpRob r fun x => { x with stopAt := some since }
    if t ≥ since + h.stopConfirmNs ∧ speed > h.stillSpeed then h.spFleet else h

/-- A robot unverifiable for stop_lost_ms while its committed profile moves is stopped (R169). -/
def Hw.lostStop (h : Hw) (r t : Nat) : Hw :=
  match (h.spRob r).unverifiable with
  | some since => if t ≥ since + h.stopLostNs ∧ h.robotMoves r then h.spTarget r else h
  | none => h

/-- SP applies its rules to a verdict (R169, R170). -/
def Hw.spVerdict (h : Hw) (v : Verdict) : Hw :=
  let h := h.updSpRob v.robot fun x => { x with speed := v.speed }
  if v.code = vUnchecked then h
  else
    let h := h.confirmStop v.robot v.speed v.time
    let h := if v.code = vDefinite ∨ v.code = vMoving then h.spTarget v.robot else h
    let n := (h.spRob v.robot).possible + 1
    let h := if v.code = vInside then h.updSpRob v.robot fun x => { x with possible := 0 }
      else if v.code ≠ vPossible then h
      else
        let h := h.updSpRob v.robot fun x => { x with possible := n }
        if n ≥ max 1 (h.f FIX_STOP_CFG FIX_STOP_CFG.excursion_n) then h.spTarget v.robot else h
    let m := (h.spRob v.robot).shadow + 1
    let h := if v.code ≠ vShadow then (if v.ofShadow then h.updSpRob v.robot fun x => { x with shadow := 0 } else h)
      else
        let h := h.updSpRob v.robot fun x => { x with shadow := m }
        if m ≥ max 1 (h.f FIX_SHADOW_CFG FIX_SHADOW_CFG.shadow_n) then h.spTarget v.robot else h
    let h := if v.code = vUnverifiable then
        (h.updSpRob v.robot fun x => { x with unverifiable := some (x.unverifiable.getD v.time) }).lostStop v.robot v.time
      else h.updSpRob v.robot fun x => { x with unverifiable := none }
    match v.intruded with
    | some holder => if v.code = vInside then h else (h.spTarget v.robot).spTarget holder
    | none => h

/-- SP_VERDICT (R169): SP takes the oldest verdict of its queue, while it works. -/
def execSpVerdict (s : State) : Host.Outcome State Fault Refusal :=
  run s fun h =>
    if ¬h.spWorks then h
    else match h.fix.verdicts with
      | [] => h
      | v :: rest => (h.updFix fun f => { f with verdicts := rest }).spVerdict v

/-- STOP_LOST_TIMEOUT (R169): a robot has been unverifiable for stop_lost_ms. -/
def execStopLostTimeout (robot : Fin 129) (s : State) : Host.Outcome State Fault Refusal :=
  run s fun h =>
    if h.spWorks && (h.spRob robot.val).unverifiable.isSome && h.robotMoves robot.val then h.spTarget robot.val else h

/-- STOP_CONFIRM_TIMEOUT (R170): stop_confirm has passed since a robot's targeted stop. -/
def execStopConfirmTimeout (robot : Fin 129) (s : State) : Host.Outcome State Fault Refusal :=
  run s fun h =>
    if h.spWorks && (h.target robot.val).isSome && decide ((h.spRob robot.val).speed > h.stillSpeed) then h.spFleet else h

/-- BASE_LOSS_TIMEOUT (R170): no usable base record for base_loss. -/
def execBaseLossTimeout (s : State) : Host.Outcome State Fault Refusal :=
  run s fun h => if h.spWorks && h.trackCommitted then h.spFleet else h

/-- SILENCE_TIMEOUT (R170): no verdict of any robot for silence. -/
def execSilenceTimeout (s : State) : Host.Outcome State Fault Refusal :=
  run s fun h => if h.spWorks && h.centralRobots.any h.robotMoves then h.spFleet else h

end Sys2Proof.Machine
end

