-- ==== Sys2Proof/Machine/Stm.lean ====
section
/-! DEFINITION. The packet FIFOs' commands (R95–R101) and the view of their registers. -/

namespace Sys2Proof.Machine

open Reg

/-- The word of a commit (STM_COMMIT). -/
def commitWord (abort start : Bool) (length : BitVec 16) (tag : BitVec 13) : Word :=
  BitVec.ofNat 32 (length.toNat + tag.toNat * 2 ^ 16 + start.toNat * 2 ^ 30 + abort.toNat * 2 ^ 31)

/-- STM_PUSH (R96, R97, R99). -/
def execStmPush (via : BusAcc) (f : Fin 48) (data : Word) (s : State) : Host.Outcome State Fault Refusal :=
  run s fun h => h.regWrite via (STM_PUSH f.val) data fun _ h => h.push f.val data

/-- STM_COMMIT (R96). -/
def execStmCommit (via : BusAcc) (f : Fin 48) (length : BitVec 16) (tag : BitVec 13) (s : State) :
    Host.Outcome State Fault Refusal :=
  run s fun h => h.regWrite via (STM_COMMIT f.val) (commitWord false false length tag) fun _ h =>
    h.commit f.val (commitWord false false length tag)

/-- STM_COMMIT_START (R97). -/
def execStmCommitStart (via : BusAcc) (f : Fin 48) (length : BitVec 16) (tag : BitVec 13) (s : State) :
    Host.Outcome State Fault Refusal :=
  run s fun h => h.regWrite via (STM_COMMIT f.val) (commitWord false true length tag) fun _ h =>
    h.commit f.val (commitWord false true length tag)

/-- STM_COMMIT_ABORT (R96, R97). -/
def execStmCommitAbort (via : BusAcc) (f : Fin 48) (s : State) : Host.Outcome State Fault Refusal :=
  run s fun h => h.regWrite via (STM_COMMIT f.val) (commitWord true false 0 0) fun _ h =>
    h.commit f.val (commitWord true false 0 0)

/-- STM_POP (R97, R99). -/
def execStmPop (via : BusAcc) (f : Fin 48) (s : State) : Host.Outcome State Fault Refusal :=
  run s fun h => h.regReadWith via (STM_POP f.val) fun h => h.popFifo f.val

/-- STM_FLUSH (R100). -/
def execStmFlush (via : BusAcc) (f : Fin 48) (s : State) : Host.Outcome State Fault Refusal :=
  run s fun h => h.regWrite via (STM_CTRL f.val) (BitVec.ofNat 32 (2 ^ 31)) fun _ h => h.flushFifo f.val

/-- FLUSH_ACT (R100): a pending flush acts where the consumer stands at a packet boundary. -/
def execFlushAct (f : Fin 48) (s : State) : Host.Outcome State Fault Refusal := run s fun h => (h.atBoundary f.val).settle f.val

/-- STM_SKIP (R101). -/
def execStmSkip (via : BusAcc) (f : Fin 48) (s : State) : Host.Outcome State Fault Refusal :=
  run s fun h => h.regWrite via (STM_CTRL f.val) (BitVec.ofNat 32 (2 ^ 30)) fun _ h => h.skipFifo f.val

/-- The live word of a STM register. -/
def Hw.viewStm (h : Hw) (k : Nat) : Word :=
  if k < STM_GEOM 0 then h.reg k
  else
    let f := (k - STM_GEOM 0) / 0x40
    let x := h.fifo f
    if k = STM_PTR f then BitVec.ofNat 32 (x.wr * 2 ^ 16 + x.rd)
    else if k = STM_STAT f then
      let w := STM_STAT.space.set (h.reg k) (h.fifoSpace f)
      let w := STM_STAT.packets.set w (min 255 (x.pkts.filter fun p => p.complete).length)
      let w := STM_STAT.flush_pending.set w x.flushPending.toNat
      STM_STAT.threshold_met.set w (decide (h.fifoMode f = modeCut) && h.pastThreshold f).toNat
    else if k = STM_HEAD f then
      match x.pkts with
      | [] => 0
      | p :: _ => if p.skipped then 0 else BitVec.ofNat 32 (p.length + p.tag * 2 ^ 16 + p.drop.toNat * 2 ^ 29 + p.abort.toNat * 2 ^ 30 +
          (h.avail f || x.begun).toNat * 2 ^ 31)
    else h.reg k

end Sys2Proof.Machine
end

