-- ==== Sys2Proof/Machine/Units.lean ====
section
/-! DEFINITION. Device interrupt lines as commands, debug halts, the fabric's promotions, aborts of parked units and park
timeouts (R29, R38, R43, R72, R86, R419). -/

namespace Sys2Proof.Machine

open Reg

/-! ### Lines (R38, R64, R419) -/

/-- The IRQ_STAT and IRQ_MASK registers that drive a line as a level: a block's pair, or the doorbells of a mailbox side (R94). A
line that hardware raises at an event as well is listed only where the pair alone drives it. -/
def linePair (line : Nat) : Option (Nat × Nat) :=
  match line with
  | 16 => some (HP_IRQ_STAT 0, HP_IRQ_MASK 0)
  | 17 => some (HP_IRQ_STAT 1, HP_IRQ_MASK 1)
  | 22 => some (GNS_IRQ_STAT, GNS_IRQ_MASK)
  | 23 => some (MTX_IRQ_STAT, MTX_IRQ_MASK)
  | 24 => some (OBS_IRQ_STAT, OBS_IRQ_MASK)
  | 25 => some (FIX_IRQ_STAT, FIX_IRQ_MASK)
  | 26 => some (RSV_IRQ_STAT, RSV_IRQ_MASK)
  | 27 => some (LTH_IRQ_STAT, LTH_IRQ_MASK)
  | 28 => some (AXL_IRQ_STAT, AXL_IRQ_MASK)
  | 29 => some (RAD_IRQ_STAT, RAD_IRQ_MASK)
  | 30 => some (STP_IRQ_STAT, STP_IRQ_MASK)
  | 31 => some (EQX_IRQ_STAT, EQX_IRQ_MASK)
  | 144 => some (CAL_IRQ_STAT, CAL_IRQ_MASK)
  | 145 => some (ETH_IRQ_STAT, ETH_IRQ_MASK)
  | 146 => some (MTR_IRQ_STAT, MTR_IRQ_MASK)
  | 147 => some (BRL_IRQ_STAT, BRL_IRQ_MASK)
  | 148 => some (UPD_IRQ_STAT, UPD_IRQ_MASK)
  | 149 => some (ALM_IRQ_STAT, ALM_IRQ_MASK)
  | 150 => some (HLT_IRQ_STAT, HLT_IRQ_MASK)
  | 151 => some (PWR_IRQ_STAT, PWR_IRQ_MASK)
  | 152 => some (VGL_IRQ_STAT, VGL_IRQ_MASK)
  | _ => none

/-- A line that is a level is asserted: a bit is set in STAT and MASK; line 18 while the reload's done flag is set; a mailbox line
while an unmasked doorbell is rung (R94, R419). -/
def Hw.lineLevel (h : Hw) (line : Nat) : Bool :=
  match linePair line with
  | some (s, m) => h.reg s &&& h.reg m != 0
  | none =>
    if line = 18 then h.flag CFG_RELOAD_STAT CFG_RELOAD_STAT.done
    else if 32 ≤ line ∧ line < 96 then
      let ch := (line - 32) / 2
      let b := decide (line % 2 = 1)
      h.reg (sideReg (MBX_DB_STAT ch) b) &&& h.reg (sideReg (MBX_DB_MASK ch) b) != 0
    else false

/-- Lines that hardware raises at an event, whatever level they show: the SMU's, DMA's and Spindle's, the mailboxes', the FIFOs', and DDR's. -/
def eventLine (line : Nat) : Bool := decide (19 ≤ line ∧ line ≤ 21 ∨ 32 ≤ line ∧ line < 144 ∨ line = 154)

/-- DEVICE_INTERRUPT (R38, R64): a line that its block drives is delivered; a line that nothing drives is not. -/
def execDeviceInterrupt (line : Fin 224) (s : State) : Host.Outcome State Fault Refusal :=
  run s fun h => if h.lineLevel line.val || eventLine line.val then h.deviceLine line.val else h

/-! ### The fabric (R29) -/

/-- The class that a requester has by R29's table. -/
def fabricClass : Requester → Nat
  | .radioMarks | .mirrorAgent | .gnssRecords => 3
  | .obsIntake | .fix | .latheAxis | .radioData | .calends => 2
  | .applicationCores | .sp | .matrix | .reservation | .latheCompute | .dma => 1
  | .update | .almanacReads | .hostBulk | .dmaBulk => 0

/-- A requester's number in the record of promotions. -/
def requesterIndex : Requester → Nat
  | .radioMarks => 0 | .mirrorAgent => 1 | .gnssRecords => 2 | .obsIntake => 3 | .fix => 4 | .latheAxis => 5 | .radioData => 6
  | .calends => 7 | .applicationCores => 8 | .sp => 9 | .matrix => 10 | .reservation => 11 | .latheCompute => 12 | .dma => 13
  | .update => 14 | .almanacReads => 15 | .hostBulk => 16 | .dmaBulk => 17

/-- The class a requester stands in: its own, plus the promotions since its last grant. -/
def Hw.classOf (h : Hw) (who : Requester) : Nat := fabricClass who + h.bus.promoted.at (requesterIndex who)

/-- FABRIC_PROMOTION (R29): one class up, at most to class 3. A grant is no command: a promotion of a requester that stands in class 3
by promotion shows that it was granted meanwhile (log entry 73). -/
def execFabricPromotion (who : Requester) (s : State) : Host.Outcome State Fault Refusal :=
  run s fun h =>
    if fabricClass who = 3 then h
    else
      let n := if h.classOf who < 3 then h.bus.promoted.at (requesterIndex who) + 1 else 1
      { h with bus := { h.bus with promoted := h.bus.promoted.set (requesterIndex who) n } }

/-! ### Debug (R42, R43, R389) -/

/-- The number of a core that can be halted. -/
def cpuNum : Cpu → Nat
  | .ac n => n.val
  | .sp => 8

/-- Mark a core halted or not. -/
def Hw.setHalted (h : Hw) (n : Nat) (b : Bool) : Hw := { h with cores := h.cores.upd n fun c => { c with halted := b } }

/-- The state that a core's running task shows. -/
def Hw.runningShows (h : Hw) (n : Nat) (st : TaskState) : Hw :=
  match (h.spnCore n).running with
  | some slot => h.updTask slot fun t => { t with state := st }
  | none => h

/-- DEBUG_HALT (R43): an application core leaves delivery and its running task stays pre-empted, on that core (log entry 75); SP's halt is
a failure of SP (R32). Debug access is possible only while it is unlocked (R42). -/
def execDebugHalt (cpu : Cpu) (s : State) : Host.Outcome State Fault Refusal :=
  run s fun h =>
    if !h.debugOpen || (h.cores.at (cpuNum cpu)).halted then h
    else
      let h := h.setHalted (cpuNum cpu) true
      match cpu with
      | .ac n => (h.withdrawOffer n.val).runningShows n.val .preempted
      | .sp => h.floorCheck

/-- DEBUG_RESUME (R43): the core returns to delivery, and its task runs on. -/
def execDebugResume (cpu : Cpu) (s : State) : Host.Outcome State Fault Refusal :=
  run s fun h =>
    if !h.debugOpen || !(h.cores.at (cpuNum cpu)).halted then h
    else
      let h := h.setHalted (cpuNum cpu) false
      match cpu with
      | .ac n => (h.runningShows n.val .running).coreFree n.val
      | .sp => h

/-- DEBUG_SESSION_END (R27, R389): master 15 is in reset. -/
def execDebugSessionEnd (s : State) : Host.Outcome State Fault Refusal := run s fun h => h.releaseLocks (Master.num .debug)

/-- SAVING_TIMEOUT (R72): a task that is still saving after 100 µs is a delivery fault of its core. -/
def execSavingTimeout (slot : Fin 512) (s : State) : Host.Outcome State Fault Refusal :=
  run s fun h => if (h.task slot.val).state = .saving then h.faultOpen 0 (h.task slot.val).lastCore false else h

/-! ### Aborts and park timeouts (R86) -/

/-- What the unit's engine does when a parked descriptor or job of its is aborted, by software or by the park timeout. -/
def Hw.abortEngine (h : Hw) (u : Nat) (byTimeout : Bool) : Hw :=
  if u < 128 then h.dmaFail u (if byTimeout then 4 else 3)
  else if u < 192 then h.mtxAbort (u - 128) (if byTimeout then 6 else 5)
  else if u < 240 then h.lthAbort (u - 192) (if byTimeout then 0x0C else 0x0B)
  else if u < 272 then h.rsvAbort (u - 240) (if byTimeout then 0x10 else 0x0F)
  else if u < 288 then h.brlAbort (u - 272) byTimeout
  else if u = obsUnit then h.obsAbort
  else if u = recUnit then h.recAbort
  else if u = updUnit then h.updAbort
  else h

/-- End a parked unit's work; a unit that is not parked is left alone. -/
def Hw.abortUnit (h : Hw) (u : Nat) (byTimeout : Bool) : Hw :=
  if h.isParked u then (h.abortEngine u byTimeout).unitNormal u else h

/-- What a write of SMU_UNIT starts: an abort, or a resume where no abort is written with it (log entry 74). -/
def Hw.unitWritten (h : Hw) (u : Nat) (v : Word) : Hw :=
  if SMU_UNIT.abort.get v = 1 then h.abortUnit u false
  else if SMU_UNIT.resume.get v = 1 then h.resumeUnit u
  else h

/-- UNIT_ABORT (R86): a write of SMU_UNIT with abort = 1. -/
def execUnitAbort (via : BusAcc) (unit : Fin 320) (s : State) : Host.Outcome State Fault Refusal :=
  run s fun h =>
    let v := SMU_UNIT.abort.set 0 1
    h.regWrite via (SMU_UNIT unit.val) v fun _ h => h.unitWritten unit.val v

/-- PARK_TIMEOUT (R86): hardware aborts a unit that is still parked after park_ms, and the Almanac records the unit and its context. -/
def execParkTimeout (unit : Fin 320) (s : State) : Host.Outcome State Fault Refusal :=
  run s fun h =>
    if h.isParked unit.val then
      let ctx := h.f (SMU_UNIT unit.val) SMU_UNIT.ctx
      (h.abortUnit unit.val true).event (srcOf 0x07 0) 0x000C (BitVec.ofNat 32 unit.val) (BitVec.ofNat 32 ctx) 0
    else h

end Sys2Proof.Machine
end

