-- ==== Sys2Proof/Machine/Regs.lean ====
section
/-! DEFINITION. Register space as one thing: what a read of any register shows and does, what a write of any register starts, the presets, the
Vigil domain's delayed writes, and the register commands (R9–R15, R19, R53–R56). -/

namespace Sys2Proof.Machine

open Reg

/-! ### Finding an element of a register array -/

/-- The element of a register array that a word number is. -/
def elem (base stride count k : Nat) : Option Nat :=
  if base ≤ k ∧ (k - base) % stride = 0 ∧ (k - base) / stride < count then some ((k - base) / stride) else none

/-- The effect of a write on an element of an array, where the word number is one. -/
def onElem (base stride count k : Nat) (f : Nat → Hw → Hw) (h : Hw) : Hw :=
  match elem base stride count k with
  | some n => f n h
  | none => h

/-! ### What registers show -/

/-- Every block with a lock bit that a partition owns is locked (CFG_PART_STAT.all_locked). -/
def Hw.allLocked (h : Hw) (p : Nat) : Bool :=
  (ownedBlocks p).all fun b => (lockOf (b * 0x10000)).isNone || h.locked (b * 0x10000)

/-- The live word of a CFG register: the entries of functions that do not exist read zero (R53). -/
def Hw.viewCfg (h : Hw) (k : Nat) : Word :=
  match elem (CFG_PART_STAT 0) 0x10 9 k with
  | some p =>
    let pending := decide (h.rlPart = p ∧ (h.rlState = rlVerifying ∨ h.rlState = rlWaiting ∨ h.rlState = rlApplying))
    CFG_PART_STAT.all_locked.set (CFG_PART_STAT.reload_pending.set (h.reg k) pending.toNat) (h.allLocked p).toNat
  | none =>
    match elem (CFG_PRESET_SEL 0) 4 32 k with
    | some f => if f ≥ 21 then 0 else CFG_PRESET_SEL.busy.set (h.reg k) (decide (h.cfg.presetBusy = some f)).toNat
    | none => h.reg k

/-- The live word of a VGL register: the last-gasp store stands in the first words of retention (R387). -/
def Hw.viewVgl (h : Hw) (k : Nat) : Word :=
  match elem (VGL_RET 0) 4 128 k with
  | some w => recWord (h.alm.lastGasp[w / 8]?) (w % 8)
  | none => h.reg k

/-- The live word of any register, for a reading master; side-relative mailbox registers show the master's side. -/
def Hw.view (h : Hw) (m k : Nat) : Word :=
  match k / 0x10000 with
  | 0x01 => h.viewCfg k
  | 0x04 => h.viewSem k
  | 0x05 => h.viewMbx m k
  | 0x06 => h.viewSpn m k
  | 0x07 => h.viewSmu k
  | 0x09 => h.viewStm k
  | 0x0A => h.viewGns k
  | 0x0C => h.viewMtx m k
  | 0x0D => h.viewFix k
  | 0x0E => h.viewRsv m k
  | 0x0F => h.viewLth k
  | 0x10 => h.viewAxl k
  | 0x11 => h.viewRad k
  | 0x12 => h.viewStp k
  | 0x13 => h.viewEqx k
  | 0x14 => h.viewCal k
  | 0x17 => h.viewBrl m k
  | 0x18 => h.viewUpd k
  | 0x19 => h.viewAlm m k
  | 0x1B => h.viewVgl k
  | 0x1C => h.viewHlt k
  | _ => h.reg k

/-! ### Reads that do something -/

/-- The level at a multiplexed ball: as its unit drives it where it is a step, direction or trigger output (a free value, for the level changes
within a command), the encoder's where it is an encoder input, PIN_OUT where it is a driven output, else the board's (R397, PIN_IN). -/
def Hw.ballLevel (h : Hw) (n : Nat) (free : Word) : Bool :=
  let alt := h.f (PIN_FUNC n) PIN_FUNC.alt
  if alt = 1 ∧ n < 40 then bit free.toNat (n % 32)
  else if alt = 1 ∧ n < 44 then
    let ab := h.cal.enc.at ((n - 40) / 2)
    if n % 2 = 0 then ab.1 else ab.2
  else if alt = 0 ∧ bit (h.reg (PIN_OE (n / 32))).toNat (n % 32) then bit (h.reg (PIN_OUT (n / 32))).toNat (n % 32)
  else h.balls.at n

/-- A read of PIN_IN. -/
def Hw.pinRead (h : Hw) (w : Nat) : Hw × Word :=
  let free := Config.freeWord h.freeCtr
  (h.useFree 1, BitVec.ofNat 32 ((List.range 32).foldl (fun a b => if h.ballLevel (32 * w + b) free then a + 2 ^ b else a) 0))

/-- Take shadows of the words after the first of a snapshot register for a master (R11). -/
def Hw.snapshot (h : Hw) (m count : Nat) (k : Nat → Nat) : Hw :=
  (List.range count).foldl (fun h w => if w = 0 then h else h.setReadShadow m (k w) (h.reg (k w))) h

/-- The reads whose word and effect are one operation: taking a lock, accepting a task, popping, taking a snapshot. -/
def Hw.readOp (a : BusAcc) (k : Nat) : Option (Hw → Hw × Word) :=
  let m := a.master.num
  match k / 0x10000 with
  | 0x04 => (elem (SEM_LOCK 0) 4 16 k).map fun n h => h.semRead n m
  | 0x06 =>
    match a.master with
    | .ac n => if k = SPN_SELF then some fun h => (h.acceptOffer n.val, (h.acceptOffer n.val).selfWord n.val) else none
    | _ => none
  | 0x07 => if k = SMU_FAULT_POP_LO then some fun h => h.popFault m else none
  | 0x09 => (elem (STM_POP 0) 0x40 48 k).map fun f h => h.popFifo f
  | 0x0D => (elem (FIX_TBL 0 0) 0x40 129 k).map fun r h => (h.snapshot m 10 (FIX_TBL r), h.reg k)
  | 0x14 =>
    if k = CAL_TSQ_ID then some fun h => h.tsqPop m
    else if k = CAL_TIME_NS then some fun h =>
      ((h.setReadShadow m CAL_TIME_S_LO (h.viewCal CAL_TIME_S_LO)).setReadShadow m CAL_TIME_S_HI (h.viewCal CAL_TIME_S_HI), h.viewCal k)
    else none
  | 0x16 => (elem (MTR_HARM 0 0) 0x100 7 k).map fun c h => (h.snapshot m 64 (MTR_HARM c), h.reg k)
  | 0x1B => (elem (VGL_RET 128) 4 384 k).map fun _ h => (h.useFree 1, Config.freeWord h.freeCtr)
  | 0x1C => if k = HLT_REPORT 0 then some fun h => (h.snapshot m 16 HLT_REPORT, h.reg k) else none
  | 0x1E => (elem (PIN_IN 0) 4 3 k).map fun w h => h.pinRead w
  | _ => none

/-- The operation of a mailbox channel register's read. -/
def Hw.mbxReadOp (m ch k : Nat) (b : Bool) (h : Hw) : Hw × Word :=
  if k = MBX_RECV_LO ch then h.mbxRecv ch b m
  else if k = MBX_CH_LOCK ch then h.lockRead k m
  else (h, (h.readShadow m k).getD (h.viewMbx m k))

/-- A read of an aligned word of register space by any access (R9–R12, R20, R54). -/
def Hw.busRead (h : Hw) (a : BusAcc) (k : Nat) : Hw :=
  match mbxChOf k with
  | some ch => h.mbxRead a ch k (Hw.mbxReadOp a.master.num ch k)
  | none =>
    match Hw.readOp a k with
    | some op => h.regReadWith a k op
    | none => h.regRead a k (fun h k => h.view a.master.num k) id

/-! ### What writes start -/

/-- The number of a notice register's armed handle (R69). -/
def handleIn (v : Word) : Nat := noticeHandle.get v

/-- A write to a mailbox channel register of one side, at its place in that side's registers (R90–R94). -/
def Hw.wroteMbx (old : Hw) (a : BusAcc) (k : Nat) (v low : Word) (h : Hw) : Hw :=
  let b := decide (k % 0x10000 ≥ 0x8000)
  let ka := k / 0x10000 * 0x10000 + k % 0x8000
  match mbxChOf ka with
  | none => h
  | some ch =>
    if ka = MBX_CH_LOCK ch then h.mbxLockWrite ch a.master.num (old.f (MBX_CH_LOCK ch) MBX_CH_LOCK.owner) v
    else if ka = MBX_POST_HI ch then h.mbxPost ch b low v
    else if ka = MBX_DB_RING ch then h.mbxRing ch b v
    else if ka = MBX_DB_MASK ch then h.mbxUnmasked ch b
    else if ka = MBX_NOTICE ch then h.noticeWritten k (old.reg k) (handleIn v)
    else h

/-- Writes of SYS and PWR: resets of the device and of cores, clock gating, power requests (R379, R380, R389). -/
def Hw.wroteSys (k : Nat) (v : Word) (h : Hw) : Hw :=
  if k = SYS_RST_CTRL then h.rstCtrl v
  else if k = PWR_CTRL then h.pwrCtrl v
  else
    let h := onElem (SYS_CORE_CTRL 0) 4 8 k (fun n h => h.coreCtrl n v) h
    onElem (SYS_CLUSTER 0) 4 2 k (fun c h =>
      if h.flag (SYS_CLUSTER c) SYS_CLUSTER.gate_en then h else h.setFlag (SYS_CLUSTER c) SYS_CLUSTER.gated false) h

/-- Writes of SEM (R62, R63). -/
def Hw.wroteSem (old : Hw) (m k : Nat) (v : Word) (h : Hw) : Hw :=
  if k = SEM_FORCE then h.semForce m v
  else onElem (SEM_LOCK 0) 4 16 k (fun n h => h.semWrite n m (old.f (SEM_LOCK n) SEM_LOCK.owner) v) h

/-- Writes of SPN (R67–R75). -/
def Hw.wroteSpn (a : BusAcc) (k : Nat) (v low : Word) (h : Hw) : Hw :=
  if k = SPN_SUBMIT_HI then h.submitTask a.master.num low v
  else if k = SPN_TOKEN then h.token (SPN_TOKEN.handle.get v) (SPN_TOKEN.err.get v = 1)
  else if k = SPN_SAVED then h.savedTask (SPN_SAVED.handle.get v)
  else if k = SPN_DONE then
    match a.master with
    | .ac n => h.doneTask n.val (SPN_DONE.handle.get v) (SPN_DONE.err.get v = 1)
    | _ => h.bump SPN_ERR SPN_ERR.stray SPN_ERR.stray_sat
  else onElem (SPN_CORE_EN 0) 4 8 k (fun n h => h.coreEnWritten n v) h

/-- Writes of SMU, DMA and STM (R69, R78, R80, R86, R96–R101). -/
def Hw.wroteSmu (old : Hw) (k : Nat) (v low : Word) (h : Hw) : Hw :=
  if k = SMU_INVAL then (if SMU_INVAL.go.get v = 1 then h.invalidate (SMU_INVAL.scope.get v) (SMU_INVAL.ctx.get v) else h)
  else
    let h := onElem (SMU_CTX_HANDLER 0) 0x10 64 k (fun _ h => h.noticeWritten k (old.reg k) (handleIn v)) h
    let h := onElem (SMU_UNIT 0) 4 320 k (fun u h => h.unitWritten u v) h
    let h := onElem (DMA_CH_START_HI 0) 0x20 128 k (fun ch h => h.dmaStart ch low v) h
    let h := onElem (STM_PUSH 0) 0x40 48 k (fun f h => h.push f v) h
    let h := onElem (STM_COMMIT 0) 0x40 48 k (fun f h => h.commit f v) h
    let h := onElem (STM_NOTICE 0) 0x40 48 k (fun _ h => h.noticeWritten k (old.reg k) (handleIn v)) h
    onElem (STM_CTRL 0) 0x40 48 k (fun f h =>
      let h := if STM_CTRL.skip.get v = 1 then h.skipFifo f else h
      if STM_CTRL.flush.get v = 1 then h.flushFifo f else h) h

/-- Writes of GNS, OBS, MTX and FIX (R69, R104, R109, R116, R133, R146, R154). -/
def Hw.wroteRef (old : Hw) (a : BusAcc) (k : Nat) (v low : Word) (h : Hw) : Hw :=
  if k = GNS_CFG then h.gnsEnableWritten
  else if k = GNS_ACQ_REQ then h.acqRequest v
  else if k = GNS_CTRL then (if GNS_CTRL.restore.get v = 1 then h.restoreWritten else h)
  else if k = GNS_REC_NOTICE then h.noticeWritten k (old.reg k) (handleIn v)
  else if k = MTX_SUBMIT_HI then h.mtxSubmit a.master.num low v
  else if GNS_SIG_CFG 0 ≤ k ∧ k < GNS_BAND_CFG 4 0 then h.gnsSettle
  else
    let h := onElem (OBS_RBT_CTRL 0) 0x10 129 k (fun r h => h.obsCtrlWritten r v) h
    let h := onElem (OBS_RBT_NOTICE 0) 0x10 129 k (fun _ h => h.noticeWritten k (old.reg k) (handleIn v)) h
    let h := onElem (FIX_RBT_CTRL 0) 8 129 k (fun r h => h.fixCtrlWritten r v) h
    onElem (FIX_RBT_CFG 0) 8 129 k (fun r h => h.modeWas r (old.robotMode r)) h

/-- Writes of RSV and AXL (R175, R182, R190, R218, R219). -/
def Hw.wroteMotion (old : Hw) (a : BusAcc) (k : Nat) (v low : Word) (h : Hw) : Hw :=
  if k = RSV_SUBMIT_HI then h.rsvSubmit a.master.num low v
  else if k = RSV_REVOKE then h.rsvRevokeWrite v
  else if k = RSV_GRAPH_HI then
    (if h.f RSV_GRAPH_STAT RSV_GRAPH_STAT.state = 1 then
      (h.setReg RSV_GRAPH_LO (old.reg RSV_GRAPH_LO)).setReg RSV_GRAPH_HI (old.reg RSV_GRAPH_HI)
    else h.graphStart)
  else
    let h := onElem (AXL_AX_CMD 0) 0x80 16 k (fun n h => h.axWrite n (AXL_AX_CMD.op.get v)) h
    onElem (AXL_GRP_CFG 0) 0x10 4 k (fun g h =>
      if AXL_GRP_CFG.go.get v = 1 then h.groupGo g
      else if AXL_GRP_CFG.halt.get v = 1 then h.groupStop g false h.axAmax h.axJmax
      else h) h

/-- Writes of STP, EQX, CAL and MTR (R262, R265, R278, R283, R286–R288, R299, R315, R320). -/
def Hw.wroteTime (old : Hw) (a : BusAcc) (k : Nat) (v low : Word) (h : Hw) : Hw :=
  if k = STP_CTRL then h.stpCtrlWritten v
  else if k = STP_CMD_TAG_HI then h.stpCommand a low v
  else if k = EQX_CTRL then h.eqxCtrlWritten v
  else if k = CAL_CTRL then (if CAL_CTRL.unset.get v = 1 then h.calUnsetWritten else h)
  else if k = CAL_INC_INT then h.incWritten
  else if k = CAL_STEP_HI then h.step (toInt 64 (low.toNat + v.toNat * 2 ^ 32))
  else if k = CAL_OFS_IN then h.ptpOffset (toInt 32 v.toNat)
  else if k = MTR_CFG then h.mtrCfgWritten old.mtrOn
  else
    let h := onElem (STP_OUT_CFG 0) 4 4 k (fun _ h => Hw.driveOuts old h) h
    let h := onElem (CAL_TRIG_CFG 0) 0x20 16 k (fun t h => h.trigWritten t v) h
    onElem (MTR_PULSE_CFG 0) 0x10 2 k (fun s h => h.pulseCfgWritten s) h

/-- What training gives where the command does not say it: free values. -/
def Hw.freeTraining (h : Hw) : List DdrTrain :=
  (List.range 2).map fun i =>
    let w := Config.freeWord (h.freeCtr + 2 * i)
    let x := Config.freeWord (h.freeCtr + 2 * i + 1)
    { (default : DdrTrain) with
      first := bit w.toNat 0, second := bit w.toNat 1, size := BitVec.ofNat 10 (w.toNat / 4), wrMargin := BitVec.ofNat 8 x.toNat
      rdMargin := BitVec.ofNat 8 (x.toNat / 256), vrefCa := BitVec.ofNat 8 (x.toNat / 65536), vrefDq := BitVec.ofNat 8 (w.toNat / 65536) }

/-- Writes of BRL, UPD, ALM and DDR (R329, R338, R353, R360, R365, R367, R372, R395). -/
def Hw.wroteStore (old : Hw) (a : BusAcc) (k : Nat) (v low : Word) (h : Hw) : Hw :=
  if k = BRL_CTRL then h.brlCtrl v
  else if k = BRL_PROV then h.provWritten v
  else if k = BRL_ESTATE_HI then h.estateWritten (old.reg BRL_ESTATE_LO) (old.reg BRL_ESTATE_HI)
  else if k = BRL_SUBMIT_HI then h.brlSubmit a low v
  else if k = BRL_DBG_ANS 15 then h.debugAnswer v
  else if k = UPD_CTRL then h.updCtrl v
  else if k = UPD_RCV_DATA then h.rcvWord v
  else if k = ALM_CTRL then h.almCtrl v
  else if k = ALM_CLR_TAG_HI then h.logClear low v
  else if k = ALM_POST_CODE then h.holdPost a.master.num 0 v
  else if k = ALM_POST_ARG 0 then h.holdPost a.master.num 1 v
  else if k = ALM_POST_ARG 1 then h.holdPost a.master.num 2 v
  else if k = ALM_POST_ARG 2 then h.post a.master.num v
  else if k = DDR_INIT then (h.useFree 4).ddrInit v h.freeTraining
  else onElem (BRL_DBG_ANS 0) 4 15 k (fun w h => h.holdAnswer w v) h

/-- What a write of any register but CFG's starts, given the state before it and the low word of a 64-bit quantity. -/
def Hw.wroteBlock (old : Hw) (a : BusAcc) (k : Nat) (v low : Word) (h : Hw) : Hw :=
  let h := match k / 0x10000 with
    | 0x00 | 0x1A => Hw.wroteSys k v h
    | 0x04 => Hw.wroteSem old a.master.num k v h
    | 0x05 => Hw.wroteMbx old a k v low h
    | 0x06 => Hw.wroteSpn a k v low h
    | 0x07 | 0x08 | 0x09 => Hw.wroteSmu old k v low h
    | 0x0A | 0x0B | 0x0C | 0x0D => Hw.wroteRef old a k v low h
    | 0x0E | 0x10 => Hw.wroteMotion old a k v low h
    | 0x12 | 0x13 | 0x14 | 0x16 => Hw.wroteTime old a k v low h
    | 0x17 | 0x18 | 0x19 | 0x1D => Hw.wroteStore old a k v low h
    | _ => h
  if calFields.any fun p => decide (p.1 = k) then h.calWritten else h

/-! ### Presets (R53) -/

/-- A preset's values are written in ascending offset order, each as a privileged write of the master, flagged; whether any was rejected. -/
def Hw.writePreset (h : Hw) (m : Master) (p : Preset) (reload : Bool) : Hw × Bool :=
  p.values.foldl (fun (x : Hw × Bool) v =>
    let (h, rej) := x.1.hwWrite m.num v.1 v.2 true reload
    (Hw.wroteBlock x.1 ⟨m, .monitor, false, .word, true⟩ v.1 v.2 (h.reg (v.1 - 4)) h, x.2 || rej)) (h, false)

/-- Preset `n` of function `f` is applied for a master; a preset with an empty name, or none, changes nothing and sets rejected. -/
def Hw.applyPreset (h : Hw) (m : Master) (f n : Nat) (reload : Bool) : Hw :=
  let sel := CFG_PRESET_SEL f
  match (h.presetOf f n).filter fun p => p.name.any (· ≠ 0) with
  | none => h.setFlag sel CFG_PRESET_SEL.rejected true
  | some p =>
    let (h, rej) := (h.setF sel CFG_PRESET_SEL.preset n).writePreset m p reload
    let h := if rej then h.setFlag sel CFG_PRESET_SEL.rejected true else h
    (h.setFlag sel CFG_PRESET_SEL.modified false).updCfg fun c => { c with presetBusy := if reload then c.presetBusy else some f }

/-- The master of a number. -/
def masterOf (n : Nat) : Master :=
  match n with
  | 1 => .ac 0 | 2 => .ac 1 | 3 => .ac 2 | 4 => .ac 3 | 5 => .ac 4 | 6 => .ac 5 | 7 => .ac 6 | 8 => .ac 7
  | 9 => .sp | 10 => .ha | 11 => .hb | 12 => .vigil | 13 => .update | 14 => .mirror | _ => .debug

/-- A write of CFG_PRESET_SEL: the selection is applied, or waits while another is being applied; the field shows the preset once it is
applied (log entry 76). -/
def Hw.presetWritten (old : Hw) (m : Master) (f n : Nat) (h : Hw) : Hw :=
  let h := h.setF (CFG_PRESET_SEL f) CFG_PRESET_SEL.preset (old.f (CFG_PRESET_SEL f) CFG_PRESET_SEL.preset)
  if f ≥ 21 then h
  else if h.cfg.presetBusy.isSome then h.updCfg fun c => { c with presetQueue := c.presetQueue ++ [(f, n, m.num)] }
  else h.applyPreset m f n false

/-- The sequencer has finished a preset: the next selection that waits is applied. -/
def Hw.presetNext (h : Hw) : Hw :=
  let h := h.updCfg fun c => { c with presetBusy := none }
  match h.cfg.presetQueue with
  | [] => h
  | (f, n, m) :: q => (h.updCfg fun c => { c with presetQueue := q }).applyPreset (masterOf m) f n false

/-! ### A write of any register -/

/-- What a write of any register starts. -/
def Hw.wrote (old : Hw) (a : BusAcc) (k : Nat) (v low : Word) (h : Hw) : Hw :=
  if k = CFG_RELOAD_CTRL then h.reloadCtrl a.master.num v
  else match elem (CFG_PRESET_SEL 0) 4 32 k with
    | some f => Hw.presetWritten old a.master f (CFG_PRESET_SEL.preset.get v) h
    | none => Hw.wroteBlock old a k v low h

/-- Whether a VGL_RET word belongs to a region that hardware owns (R387). -/
def hwRetention (k : Nat) : Bool := (elem (VGL_RET 0) 4 512 k).isSome

/-- A write to the Vigil block completes at once and is recorded; it takes effect in the Vigil domain later (R19). A low word waits in
the shadow and goes with its high word. -/
def Hw.vglWrite (h : Hw) (a : BusAcc) (k : Nat) (r : RegDef) (v : Word) : Hw :=
  let rej := wordRejected (h.locked k) (h.reg k) v r.fields
  let h := if a.unpriv then h else h.stage a.master.num k v (if r.lowWord then false else rej) false false
  if r.lowWord then (h.holdLow a.master.num k v).answer .done
  else
    let (low, h) : List (Nat × Word) × Hw := match lowWordOf k with
      | none => ([], h)
      | some kl =>
        let (held, h) := h.takeLow a.master.num kl
        ((held.map fun w => (kl, w)).toList, h)
    (h.updPwr fun p => { p with vglWrites := p.vglWrites ++ low ++ [(k, v)] }).answer .done

/-- A write of an aligned word that has passed the checks is committed where its block takes it. -/
def Hw.commitAny (h : Hw) (a : BusAcc) (k : Nat) (r : RegDef) (v : Word) : Hw :=
  if k / 0x10000 = 0x1B then
    (if hwRetention k then (h.accessError 0x1B a.master).answer .done else h.vglWrite a k r v)
  else h.commitWrite a k r v fun low h' => Hw.wrote h a k v low h'

/-- A write of an aligned word of register space by any access (R9–R15, R19, R20, R54–R56). -/
def Hw.busWrite (h : Hw) (a : BusAcc) (k : Nat) (v : Word) : Hw :=
  match mbxChOf k with
  | some ch => h.mbxWrite a ch k v fun b low h' => Hw.wrote h a (if k = MBX_CH_LOCK ch then k else sideReg k b) v low h'
  | none =>
    if k / 0x10000 ≠ 0x1B then h.regWrite a k v fun low h' => Hw.wrote h a k v low h'
    else if h.busError a k true then h.failAccess a k
    else match a.sees k with
      | none => h.answer .done
      | some r =>
        if !a.unpriv && h.stagingFull then
          ({ h with bus := { h.bus with waiting := h.bus.waiting ++ [Held.mk a k v] } }).answer .held
        else h.commitAny a k r v

/-! ### The Vigil domain takes a write (R19, R388) -/

/-- A write takes effect on a Vigil register; 0x4B1C in VGL_WDOG.key kicks the watchdog. -/
def Hw.vglStore (h : Hw) (k : Nat) (v : Word) : Hw :=
  match regFind k with
  | none => h
  | some r =>
    let h := (h.storeReg k r v).1
    if k = VGL_WDOG ∧ VGL_WDOG.key.get v = 0x4B1C then h.updPwr fun p => { p with kickedAt := h.vigilCount } else h

/-- The oldest waiting write takes effect, a low word together with its high word. -/
def Hw.vglNext (h : Hw) : Hw :=
  match h.pwr.vglWrites with
  | [] => h
  | (k, v) :: rest =>
    let h := (h.updPwr fun p => { p with vglWrites := rest }).vglStore k v
    match (regFind k).map (·.lowWord), rest with
    | some true, (k', v') :: rest' => (h.updPwr fun p => { p with vglWrites := rest' }).vglStore k' v'
    | _, _ => h

/-- Every waiting write takes effect, oldest first. -/
def Hw.vglAll : Nat → Hw → Hw
  | 0, h => h
  | n + 1, h => Hw.vglAll n h.vglNext

/-- VGL_WRITE_EFFECT (R19). -/
def execVglWriteEffect (s : State) : Host.Outcome State Fault Refusal := run s Hw.vglNext

/-- The word of a kick: the key beside the timeout in force. -/
def kickWord (h : Hw) : Word := VGL_WDOG.key.set (h.reg VGL_WDOG) 0x4B1C

/-- WATCHDOG_KICK (R388): a write of 0x4B1C to VGL_WDOG.key, to the end of its effect in the Vigil domain (R19). -/
def execWatchdogKick (via : BusAcc) (s : State) : Host.Outcome State Fault Refusal :=
  run s fun h =>
    let h := h.busWrite via VGL_WDOG (kickWord h)
    if h.bus.resp = .done then Hw.vglAll h.pwr.vglWrites.length h else h

/-! ### The register commands -/

/-- The word number of an offset in register space: the privileged view's offset of its register (R9). -/
def regKey (reg : BitVec 21) : Nat := reg.toNat / 0x10000 * 0x10000 + reg.toNat % 0x8000

/-- The access at an offset in register space: it uses the unprivileged view in the upper half of a window (R9). -/
def viewAt (via : BusAcc) (reg : BitVec 21) : BusAcc := { via with unpriv := bit reg.toNat 15 }

/-- REGISTER_WRITE (R13–R15, R54–R56, R419). -/
def execRegisterWrite (via : BusAcc) (reg : BitVec 21) (value : Word) (s : State) : Host.Outcome State Fault Refusal :=
  run s fun h => h.busWrite (viewAt via reg) (regKey reg) value

/-- LOW_WORD_READ (R11). -/
def execLowWordRead (via : BusAcc) (reg : BitVec 21) (s : State) : Host.Outcome State Fault Refusal :=
  run s fun h => h.busRead (viewAt via reg) (regKey reg)

/-- LOW_WORD_WRITE (R11). -/
def execLowWordWrite (via : BusAcc) (reg : BitVec 21) (value : Word) (s : State) : Host.Outcome State Fault Refusal :=
  run s fun h => h.busWrite (viewAt via reg) (regKey reg) value

/-- STAGING_DRAIN (R56): a record enters the write buffer, and a write that waited for the room completes. -/
def execStagingDrain (s : State) : Host.Outcome State Fault Refusal :=
  run s fun h =>
    let h := h.drainStaging
    match h.bus.waiting with
    | [] => h
    | w :: ws =>
      if h.stagingFull then h
      else
        let h := { h with bus := { h.bus with waiting := ws } }
        match regFind w.reg with
        | some r => h.commitAny w.via w.reg r w.value
        | none => h

/-- PRESET_SELECT (R53): a write of CFG_PRESET_SEL. -/
def execPresetSelect (via : BusAcc) (f : Fin 32) (value : Word) (s : State) : Host.Outcome State Fault Refusal :=
  run s fun h => h.busWrite via (CFG_PRESET_SEL f.val) value

/-- PRESET_QUEUED_APPLY (R53). -/
def execPresetQueuedApply (s : State) : Host.Outcome State Fault Refusal := run s Hw.presetNext

/-! ### A reload takes effect (R49, R51, R53) -/

/-- The image's default presets of a partition are applied as part of its reload. -/
def Hw.reloadPresets (h : Hw) (x : Partition) : Hw :=
  x.defaults.foldl (fun h d => h.applyPreset (masterOf h.cfg.reloadMaster) d.1.val d.2.val true) h

/-- RELOAD_APPLY (R49): at the partition's boundary all new values take effect together. -/
def execReloadApply (s : State) : Host.Outcome State Fault Refusal :=
  run s fun h =>
    match h.cfg.candidate with
    | none => h
    | some img =>
      let p := h.rlPart
      let x := imagePart img p
      if h.rlState ≠ rlWaiting ∨ ¬h.atReloadBoundary p x then h
      else ((h.applyPartition p x h.cfg.fromMemory).reloadPresets x).reloadEnd rlDone 0

end Sys2Proof.Machine
end

