-- ==== Sys2Proof/Machine/Dma.lean ====
section
/-! DEFINITION. What a DMA channel does between fetching a descriptor and the next: the transfer, its faults and pauses, status, token and
line (R26, R80–R82, R84, R85). -/

namespace Sys2Proof.Machine

open Reg

/-! ### An engine's accesses (R26, R79) -/

/-- The access an engine makes to register space: with the master number of its context (R26). -/
def Hw.engineAcc (h : Hw) (ctx pa : Nat) : BusAcc :=
  ⟨masterOf (h.f (SMU_CTX_CFG ctx) SMU_CTX_CFG.master), .monitor, bit pa 15, .word, true⟩

/-- The word number of a physical address in register space. -/
def physKey (pa : Nat) : Nat := regKey (BitVec.ofNat 21 (pa - 0x0100000000))

/-- Read `n` words of register space; `none` is a bus error. -/
def Hw.readRegs (ctx : Nat) : Nat → Nat → Hw → Hw × Option (List Byte)
  | 0, _, h => (h, some [])
  | n + 1, pa, h =>
    let h := h.busRead (h.engineAcc ctx pa) (physKey pa)
    match h.bus.resp with
    | .data [w] =>
      let (h, rest) := Hw.readRegs ctx n (pa + 4) h
      (h, rest.map fun bs => leBytes 4 w.toNat ++ bs)
    | _ => (h, none)

/-- Write words of register space; false is a bus error. -/
def Hw.writeRegs (ctx : Nat) : List Word → Nat → Hw → Hw × Bool
  | [], _, h => (h, true)
  | w :: ws, pa, h =>
    let h := h.busWrite (h.engineAcc ctx pa) (physKey pa) w
    if h.bus.resp = .busError then (h, false) else Hw.writeRegs ctx ws (pa + 4) h

/-- Read octets of one page in a context's space; register space is read in whole words (R9). -/
def Hw.engineRead (h : Hw) (ctx addr n : Nat) : Hw × Except MemErr (List Byte) :=
  match h.translate ctx addr false with
  | .error k => (h, .error (.fault addr k))
  | .ok pa =>
    if isRegSpace pa then
      if pa % 4 = 0 ∧ n % 4 = 0 then
        match Hw.readRegs ctx (n / 4) pa h with
        | (h, some bs) => (h, .ok bs)
        | (h, none) => (h, .error .bus)
      else (h, .error .bus)
    else match h.readPhys pa n with
      | some bs => (h.keepCached ctx addr, .ok bs)
      | none => (h, .error .bus)

/-- Write octets of one page in a context's space. -/
def Hw.engineWrite (h : Hw) (ctx addr : Nat) (bs : List Byte) : Hw × Option MemErr :=
  match h.translate ctx addr true with
  | .error k => (h, some (.fault addr k))
  | .ok pa =>
    if isRegSpace pa then
      if pa % 4 = 0 ∧ bs.length % 4 = 0 then
        match Hw.writeRegs ctx (bytesToWords bs) pa h with
        | (h, true) => (h, none)
        | (h, false) => (h, some .bus)
      else (h, some .bus)
    else match h.writePhys pa bs with
      | some h => (h.keepCached ctx addr, none)
      | none => (h, some .bus)

/-! ### Host space (R82, R85) -/

/-- A host port is in L0, in L1 or in active SPI. -/
def Hw.portUp (h : Hw) (p : Nat) : Bool := memb (h.f (HP_LINK p) HP_LINK.state) [2, 3, 4]

/-- A context may reach a host's bus addresses, and the port is not in reset. -/
def Hw.hostReach (h : Hw) (ctx p : Nat) : Bool :=
  h.flag (SMU_CTX_CFG ctx) (if p = 0 then SMU_CTX_CFG.host_a else SMU_CTX_CFG.host_b) && h.portUp p

/-! ### The transfer -/

/-- The longest piece from an offset that stays within one page at each side in context space. -/
def DmaDesc.piece (d : DmaDesc) (p left : Nat) : Nat :=
  let m := if d.srcSpace = 0 ∧ ¬bit d.flags 3 then pagePart (d.src + p) left else left
  if d.dstSpace = 0 then pagePart (d.dst + p) m else min m 4096

/-- The octets of one piece of the source: the fill pattern, context memory, host memory (`hostData`, from offset `base` on), or
the packet. -/
def Hw.dmaSource (h : Hw) (d : DmaDesc) (pkt hostData : List Byte) (base p m : Nat) : Hw × Except MemErr (List Byte) :=
  if bit d.flags 3 then (h, .ok ((List.range m).map fun i => BitVec.ofNat 8 (d.src / 256 ^ ((p + i) % 8))))
  else match d.srcSpace with
    | 0 => h.engineRead d.ctx (d.src + p) m
    | 3 => (h, .ok ((pkt.drop p).take m))
    | s =>
      if h.hostReach d.ctx (s - 1) then
        let bs := (hostData.drop (p - base)).take m
        (h.useFree (m - bs.length), .ok (bs ++ h.freeOctets (m - bs.length)))
      else (h, .error (.fault (d.src + p) kindHost))

/-- One piece to the destination: context memory, host memory, or the packet being gathered. -/
def Hw.dmaDest (h : Hw) (d : DmaDesc) (p : Nat) (bs : List Byte) : Hw × Option MemErr :=
  match d.dstSpace with
  | 0 => h.engineWrite d.ctx (d.dst + p) bs
  | 3 => (h, none)
  | s =>
    if h.hostReach d.ctx (s - 1) then (h.emit (.hostWrite (s - 1) (d.dst + p) bs), none)
    else (h, some (.fault (d.dst + p) kindHost))

/-- Move octets from offset `p` to `n`, piece by piece: the state, how far it came, the octets gathered, and what stopped it (with
whether a write did). -/
def Hw.dmaMove (d : DmaDesc) (pkt hostData : List Byte) (base n : Nat) :
    Nat → Nat → List Byte → Hw → Hw × Nat × List Byte × Option (MemErr × Bool)
  | 0, p, acc, h => (h, p, acc, none)
  | fuel + 1, p, acc, h =>
    if p ≥ n then (h, p, acc, none)
    else
      let m := d.piece p (n - p)
      match h.dmaSource d pkt hostData base p m with
      | (h, .error e) => (h, p, acc, some (e, false))
      | (h, .ok bs) =>
        match h.dmaDest d p bs with
        | (h, some e) => (h, p, acc, some (e, true))
        | (h, none) => Hw.dmaMove d pkt hostData base n fuel (p + m) (acc ++ bs) h

/-- The channel parks on what stopped it; a bus error parks as a walk error does (log entry 16). -/
def Hw.dmaStop (h : Hw) (ch ctx : Nat) (e : MemErr) (write : Bool) (addr : Nat) : Hw :=
  match e with
  | .fault a k => h.park ch ctx a write k
  | .bus => h.park ch ctx addr write kindWalk

/-- A packet FIFO pauses the channel (R82). -/
def Hw.dmaPause (h : Hw) (ch : Nat) (d : DmaDesc) : Hw := h.setDma ch { desc := some d, paused := true }

/-- The end of a descriptor (R81): status, token, line 20, and the next descriptor. -/
def Hw.dmaEnd (h : Hw) (ch : Nat) (d : DmaDesc) (err n : Nat) : Hw :=
  match h.engineWrite d.ctx (h.dmaCur ch + 60) (dmaStatus err n) with
  | (h, some e) => h.dmaStop ch d.ctx e true (h.dmaCur ch + 60)
  | (h, none) =>
    let h := if err = 0 then h else h.bump DMA_ERR DMA_ERR.desc_err DMA_ERR.desc_sat
    let h := if bit d.flags 0 then h.token d.token (err ≠ 0) else h
    let h := if bit d.flags 1 then h.deviceLine 20 else h
    let h := (h.setDma ch { desc := none, paused := false }).unitNormal ch
    if d.next = 0 then h.dmaState ch 0 err else (h.setReg64 (DMA_CH_CUR_LO ch) d.next).dmaFetch ch

/-- The descriptor's last writes and its end, with the packet that its FIFO source gives (`n` octets to move, `err` the error it ends
with). Octets towards a FIFO are accepted as one packet, at the end. -/
def Hw.dmaRun (h : Hw) (ch : Nat) (d : DmaDesc) (pkt hostData : List Byte) (n err : Nat) : Hw × Bool :=
  let f := d.dst % 64
  let base := if d.dstSpace = 3 then 0 else h.f (DMA_CH_PROG ch) DMA_CH_PROG.progress
  let (h, p, acc, stop) := Hw.dmaMove d pkt hostData base n (n / 2048 + 3) base [] h
  let h := h.setF (DMA_CH_PROG ch) DMA_CH_PROG.progress (if d.dstSpace = 3 ∧ stop.isSome then 0 else p)
  match stop with
  | some (e, write) => (h.dmaStop ch d.ctx e write (if write then d.dst + p else d.src + p), false)
  | none =>
    let h := if d.dstSpace = 3 ∧ err ≠ 6 then (h.useFree 1).hwPacket f ((Config.freeWord h.freeCtr).toNat % 8192) acc else h
    (h.dmaEnd ch d err p, true)

/-- DMA_DESCRIPTOR_COMPLETE (R81, R82): a running channel moves its descriptor's octets and ends it, or pauses, or parks. A channel that
parked on its fetch fetches again. -/
def Hw.dmaComplete (h : Hw) (ch : Nat) (hostData : List Byte) : Hw :=
  let x := h.dmaCh ch
  if h.f (DMA_CH_STAT ch) DMA_CH_STAT.state ≠ 1 ∨ x.paused then h
  else match x.desc with
    | none => (h.unitNormal ch).dmaFetch ch
    | some d =>
      let h := h.unitNormal ch
      let f := d.dst % 64
      let full := fun (n : Nat) => decide (d.dstSpace = 3) && !h.fifoFits f n
      if d.srcSpace = 3 ∧ ¬bit d.flags 3 then
        match h.takePacket (d.src % 64) 4096 with
        | none => h.dmaPause ch d
        | some (p, _, taken) =>
          let bs := p.octets
          let n := if p.abort then 0 else min bs.length d.length
          let err := if p.abort then 6 else if bs.length > d.length then 5 else 0
          if err ≠ 6 ∧ full n then h.dmaPause ch d
          else
            let (done, ok) := taken.dmaRun ch d (bs.take n) hostData n err
            if ok then done else (h.dmaRun ch d (bs.take n) hostData n err).1
      else if full d.length then h.dmaPause ch d
      else (h.dmaRun ch d [] hostData d.length 0).1

/-- DMA_DESCRIPTOR_COMPLETE (R81). The channel's own register accesses leave no answer to a master. -/
def execDmaDescriptorComplete (ch : Fin 128) (hostData : List Byte) (s : State) : Host.Outcome State Fault Refusal :=
  run s fun h => (h.dmaComplete ch.val hostData).answer .none

/-- DMA_FIFO_READY (R82): a paused channel goes on once its source FIFO has a complete packet and its destination FIFO room. -/
def execDmaFifoReady (ch : Fin 128) (s : State) : Host.Outcome State Fault Refusal :=
  run s fun h =>
    let x := h.dmaCh ch.val
    match x.paused, x.desc with
    | true, some d =>
      let pkt := h.takePacket (d.src % 64) 4096
      let fromFifo := decide (d.srcSpace = 3) && !bit d.flags 3
      let n := if fromFifo then (pkt.map fun p => min p.1.octets.length d.length).getD 0 else d.length
      if (fromFifo && pkt.isNone) || (decide (d.dstSpace = 3) && !h.fifoFits (d.dst % 64) n) then h
      else h.setDma ch.val { x with paused := false }
    | _, _ => h

end Sys2Proof.Machine
end

