-- ==== Sys2Proof/WellFormed.lean ====
section
/-! DEFINITION. Which commands are well formed. The types of the operands leave one thing to check: how many words an SPI write frame carries. -/

namespace Sys2Proof

/-- An SPI write frame carries 1 to 64 words (R60). -/
def spiWordsOk (words : List Word) : Bool := decide (1 ≤ words.length ∧ words.length ≤ 64)

/-- The command is well formed. -/
def WellFormed : Instr → Bool
  | .registerWrite _ _ _ => true
  | .lowWordRead _ _ => true
  | .lowWordWrite _ _ _ => true
  | .vglWriteEffect => true
  | .masterReset _ => true
  | .fabricPromotion _ => true
  | .deviceInterrupt _ => true
  | .debugHalt _ => true
  | .transientFault _ _ _ _ => true
  | .retirementNext => true
  | .reloadGo _ _ => true
  | .reloadAbort _ _ => true
  | .reloadVerified _ => true
  | .reloadApply => true
  | .reloadTimeout => true
  | .presetSelect _ _ _ => true
  | .presetQueuedApply => true
  | .stagingDrain => true
  | .portReset _ _ => true
  | .pcieLinkUp _ _ _ => true
  | .bar0Request _ _ _ _ => true
  | .bar2Request _ _ _ => true
  | .spiWrite _ _ words _ => spiWordsOk words
  | .spiRead _ _ _ => true
  | .spiWaitTimeout _ _ _ => true
  | .spiStatus _ => true
  | .spiResetEnable _ => true
  | .spiReset _ => true
  | .spiWatchdogExpiry _ => true
  | .semLockRead _ _ => true
  | .semLockWrite _ _ _ => true
  | .semForce _ _ => true
  | .taskSubmit _ _ => true
  | .tokenPost _ _ => true
  | .noticeArm _ _ _ => true
  | .affinityWindowExpiry _ => true
  | .taskAccept _ => true
  | .taskSaved _ _ => true
  | .savingTimeout _ => true
  | .taskDone _ _ _ => true
  | .coreDeliverDisable _ _ => true
  | .smuInvalidate _ _ _ => true
  | .invalidateComplete => true
  | .translationFault _ _ _ _ _ => true
  | .faultPop _ => true
  | .unitResume _ _ => true
  | .unitAbort _ _ => true
  | .parkTimeout _ => true
  | .dmaStart _ _ _ => true
  | .dmaDescriptorComplete _ _ => true
  | .dmaFifoReady _ => true
  | .migrationCopyDone _ => true
  | .mbxPost _ _ _ => true
  | .mbxRecv _ _ => true
  | .mbxChLockRead _ _ => true
  | .mbxDbRing _ _ _ => true
  | .stmPush _ _ _ => true
  | .stmCommit _ _ _ _ => true
  | .stmCommitStart _ _ _ _ => true
  | .stmCommitAbort _ _ => true
  | .stmPop _ _ => true
  | .stmFlush _ _ => true
  | .flushAct _ => true
  | .stmSkip _ _ => true
  | .bandLock _ _ => true
  | .frameError _ _ => true
  | .bandLinkError _ _ => true
  | .gnssRefLost => true
  | .gnssRefRestored => true
  | .acqRequest _ _ => true
  | .searchFound _ _ => true
  | .searchNotFound _ => true
  | .pullInLock _ => true
  | .pullInTimeout _ => true
  | .lockLoss _ => true
  | .lostTimeout _ => true
  | .satelliteSet _ _ _ _ => true
  | .channelFault _ _ => true
  | .epochLatch _ _ _ => true
  | .recordComplete => true
  | .referenceRestore _ => true
  | .jobSubmit _ _ => true
  | .jobDispatch => true
  | .jobComplete _ => true
  | .tileFault _ _ _ => true
  | .selftestStart _ => true
  | .selftestComplete _ _ => true
  | .obsFrame => true
  | .bufferRelease _ _ _ => true
  | .forceFull _ _ => true
  | .positionReport => true
  | .baseHoldExpiry => true
  | .epochDeadline _ _ _ => true
  | .fixPublish _ => true
  | .pubDropTimeout => true
  | .fixTblSnapshot _ _ => true
  | .robotReset _ _ => true
  | .spVerdict => true
  | .stopLostTimeout _ => true
  | .stopConfirmTimeout _ => true
  | .baseLossTimeout => true
  | .silenceTimeout => true
  | .graphLoad _ _ _ => true
  | .graphLoadDone => true
  | .rsvSubmit _ _ => true
  | .reserve _ => true
  | .check _ => true
  | .replace _ => true
  | .revoke _ => true
  | .clearHold _ => true
  | .edit _ => true
  | .mirrorAckTimeout _ => true
  | .expirySweep => true
  | .rsvRevoke _ _ => true
  | .tokenQuery _ _ => true
  | .rsvEccError _ => true
  | .poisonClear _ => true
  | .eventDropTimeout => true
  | .lthRequest => true
  | .plan _ => true
  | .negotiate _ => true
  | .negotiateRound _ => true
  | .profile _ => true
  | .cancel _ => true
  | .reservationBusyRetry _ => true
  | .trackFrameQueue _ => true
  | .kfDropTimeout _ => true
  | .profileEnd _ => true
  | .controlCycle => true
  | .upstreamFrame _ _ => true
  | .linkFault _ => true
  | .enable _ _ => true
  | .disable _ _ => true
  | .moveAbs _ _ => true
  | .moveRel _ _ => true
  | .jog _ _ => true
  | .halt _ _ => true
  | .home _ _ => true
  | .setPos _ _ => true
  | .follow _ _ => true
  | .release _ _ => true
  | .stepEdge _ _ _ => true
  | .groupGo _ _ _ => true
  | .groupHalt _ _ _ => true
  | .groupStart _ => true
  | .superframeStart _ _ => true
  | .permitMark _ => true
  | .txPacketTake _ => true
  | .frameTransmit _ _ => true
  | .laneIrq _ _ _ _ _ _ => true
  | .rxOn _ => true
  | .idle _ => true
  | .regWrite _ _ _ => true
  | .regRead _ _ _ _ => true
  | .frameReceive _ => true
  | .ackTimeout _ => true
  | .rxDropTimeout => true
  | .floodOriginate => true
  | .floodRelay => true
  | .dataRequest => true
  | .indirectExpiry => true
  | .rendezvous => true
  | .rendezvousWindowEnd => true
  | .stopPin _ _ _ => true
  | .stopPinFiltered _ => true
  | .discrepancyLatch _ => true
  | .pinRunConfirmed _ => true
  | .fleetStopCommand _ _ => true
  | .targetedStopCommand _ _ => true
  | .releaseCommand _ _ => true
  | .spDecision _ _ _ => true
  | .arm _ => true
  | .stopFrame => true
  | .stopRepeat => true
  | .stopRun _ => true
  | .relayTimeout => true
  | .stopHoldExpiry _ => true
  | .outputDelayExpiry => true
  | .testPulse _ _ => true
  | .readbackMismatch _ => true
  | .dryRun _ => true
  | .spLockstepFail _ => true
  | .heartbeatSend => true
  | .heartbeatReceive _ _ => true
  | .heartbeatMiss => true
  | .mirrorBatch => true
  | .mirrorRecord _ _ _ _ => true
  | .snapshot _ _ _ _ => true
  | .resync _ => true
  | .senseHigh _ => true
  | .takeoverDetect => true
  | .interlockConfirm _ => true
  | .interlockWatchdogExpiry => true
  | .handover _ => true
  | .handoverRelease => true
  | .handoverTimeout => true
  | .clearFault _ => true
  | .timeSnapshot _ => true
  | .incrementWrite _ _ => true
  | .step _ _ => true
  | .unset _ => true
  | .offsetIn _ _ => true
  | .sourceLost => true
  | .tsqPop _ => true
  | .ethFrame _ => true
  | .peerDelayMeasure _ _ => true
  | .ringCheck => true
  | .ringOpen => true
  | .ringClose => true
  | .encoderEdge _ _ _ => true
  | .triggerArm _ _ _ => true
  | .triggerCancel _ _ _ => true
  | .triggerFire _ => true
  | .conversionFrame _ => true
  | .modulatorStall _ _ => true
  | .harmSnapshot _ _ => true
  | .supplyOkDebounce => true
  | .supplyEventDrop => true
  | .pulseOutput _ _ => true
  | .pulseConfig _ _ _ => true
  | .periodicSave _ => true
  | .meterDisable _ => true
  | .calPersist => true
  | .supplyFail => true
  | .provisioningClose _ _ => true
  | .estateWrite _ _ => true
  | .cryptoSubmit _ _ => true
  | .aeadEnc _ => true
  | .aeadDec _ => true
  | .hash _ => true
  | .hmac _ => true
  | .sign _ => true
  | .verify _ => true
  | .derive _ => true
  | .agree _ => true
  | .random _ => true
  | .keyUpdate _ => true
  | .swap _ => true
  | .swapTakeEffect _ => true
  | .oldKeyExpiry _ => true
  | .shadowExpiry _ => true
  | .debugChallenge _ => true
  | .debugAnswer _ _ => true
  | .tamper _ _ => true
  | .manifest => true
  | .eraseComplete _ _ => true
  | .piece _ => true
  | .fragment _ => true
  | .settingsRecord _ => true
  | .verifyComplete _ => true
  | .activate _ _ => true
  | .confirm _ _ => true
  | .rollback _ _ => true
  | .abandon _ _ => true
  | .recovery _ _ => true
  | .updVerify _ => true
  | .recoveryRecord _ => true
  | .pageProgram => true
  | .programComplete _ => true
  | .eventAbsorb => true
  | .flushTimeout => true
  | .close _ => true
  | .logClear _ _ => true
  | .blockEraseComplete _ => true
  | .post _ _ => true
  | .healthReport => true
  | .reportSnapshot _ => true
  | .clusterGate _ => true
  | .enterSleep _ => true
  | .enterDeepSleep _ => true
  | .enterOff _ => true
  | .powerAbort _ => true
  | .blockAnswer _ => true
  | .blockAnswerTimeout => true
  | .backoffRetry => true
  | .powerDown => true
  | .wake _ => true
  | .rendezvousWake => true
  | .pgGood _ => true
  | .pgTimeout => true
  | .pgRetry => true
  | .pllLockTimeout => true
  | .alarm => true
  | .watchdogKick _ => true
  | .watchdogExpiry => true
  | .resetPin => true
  | .softwareReset _ _ => true
  | .vbatPor => true
  | .supplyPor => true
  | .coreReset _ _ => true
  | .coreRelease _ _ => true
  | .boot _ _ => true
  | .bootStageComplete _ => true
  | .ddrInit _ _ => true
  | .warmStart _ => true
  | .relock _ => true
  | .satelliteRise _ _ _ _ => true
  | .searchAgain _ _ _ => true
  | .timeSolution _ => true
  | .pairLinkUp => true
  | .pairLinkDown => true
  | .ethLinkUp _ => true
  | .ethLinkDown _ => true
  | .spKick => true
  | .debugSessionEnd => true
  | .debugResume _ => true
  | .reportDropTimeout => true
  | .storeWaitTimeout _ => true
  | .ccaRetry _ => true
  | .returnStageReady _ => true
  | .vbatLoss => true

end Sys2Proof
end

