-- ==== Sys2Proof/Machine/Ports.lean ====
section
/-! DEFINITION. The host ports HA and HB: port resets, the PCI Express endpoint and the SPI target (R57–R61, R85). -/

namespace Sys2Proof.Machine

open Reg

/-- A port's number, 0 for HA. -/
def portNum : Port → Nat
  | .ha => 0
  | .hb => 1

/-- A port's master (R25). -/
def portMaster : Port → Master
  | .ha => .ha
  | .hb => .hb

/-- Change a port. -/
def Hw.updHost (h : Hw) (p : Nat) (g : HostSt → HostSt) : Hw := { h with hosts := h.hosts.upd p g }

/-- HPx_CFG.mode: PCI Express, SPI. -/
def modePcie : Nat := 0
def modeSpi : Nat := 1

/-- The port's mode. -/
def Hw.portMode (h : Hw) (p : Nat) : Nat := h.f (HP_CFG p) HP_CFG.mode

/-- HPx_LINK.state. -/
def Hw.setLinkState (h : Hw) (p st : Nat) : Hw := h.setF (HP_LINK p) HP_LINK.state st

/-! ### Port reset (R27, R58, R85) -/

/-- Whether a descriptor moves octets to or from a port's host. -/
def DmaDesc.towards (d : DmaDesc) (p : Nat) : Bool := (decide (d.srcSpace = p + 1) && !bit d.flags 3) || decide (d.dstSpace = p + 1)

/-- Channels that run a descriptor towards the port's host park with kind 0b111 (R85). -/
def Hw.parkTowards (h : Hw) (p : Nat) : Hw :=
  (List.range 128).foldl (fun h ch =>
    match (h.dmaCh ch).desc with
    | some d =>
      if h.f (DMA_CH_STAT ch) DMA_CH_STAT.state = 1 ∧ d.towards p then
        let write := decide (d.dstSpace = p + 1)
        h.park ch d.ctx ((if write then d.dst else d.src) + h.f (DMA_CH_PROG ch) DMA_CH_PROG.progress) write kindHost
      else h
    | none => h) h

/-- The port's master is in reset (R58): locks released, the entry counted, the interrupt, units parked. Mailbox messages stay. -/
def Hw.portReset (h : Hw) (p : Port) : Hw :=
  let n := portNum p
  let h := h.releaseLocks (portMaster p).num
  let c := h.f (HP_LINK n) HP_LINK.down_count
  let h := if c = 255 then h.setFlag (HP_LINK n) HP_LINK.down_sat true else h.setF (HP_LINK n) HP_LINK.down_count (c + 1)
  (h.raise (HP_IRQ_STAT n) HP_IRQ_STAT.link_down 0).parkTowards n

/-- The link is in Detect. -/
def Hw.linkDetect (h : Hw) (p : Nat) : Hw :=
  ((h.setLinkState p 0).setF (HP_LINK p) HP_LINK.speed 0).setF (HP_LINK p) HP_LINK.width 0

/-- The SPI watchdog has expired (R61). -/
def Hw.spiExpired (h : Hw) (p : Port) : Hw :=
  let n := portNum p
  let h := (h.setLinkState n 5).updHost n fun x => { x with wdogSeen := true }
  (h.raise (HP_IRQ_STAT n) HP_IRQ_STAT.wdog 0).portReset p

/-- The SPI target is reset (R60; log entry 77). -/
def Hw.spiTargetReset (h : Hw) (p : Port) : Hw :=
  ((h.updHost (portNum p) fun _ => default).setLinkState (portNum p) 0).portReset p

/-- PORT_RESET (R58): a cause of the port's own mode puts its master in reset. A function-level reset leaves the link in L0. -/
def execPortReset (port : Port) (cause : PortCause) (s : State) : Host.Outcome State Fault Refusal :=
  run s fun h =>
    let n := portNum port
    if h.portMode n = modePcie then
      match cause with
      | .linkDown | .hotReset => (h.linkDetect n).portReset port
      | .functionReset => h.portReset port
      | .spiWatchdog | .spiReset => h
    else if h.portMode n = modeSpi then
      match cause with
      | .spiWatchdog => h.spiExpired port
      | .spiReset => h.spiTargetReset port
      | .linkDown | .hotReset | .functionReset => h
    else h

/-! ### PCI Express (R58, R59) -/

/-- The code of a speed (HPx_LINK.speed). -/
def speedCode : PcieSpeed → Nat
  | .gts2_5 => 1
  | .gts5 => 2
  | .gts8 => 3

/-- PCIE_LINK_UP (R58): the link reaches L0 at a speed, on one lane or two. -/
def execPcieLinkUp (port : Port) (speed : PcieSpeed) (two : Bool) (s : State) : Host.Outcome State Fault Refusal :=
  run s fun h =>
    let n := portNum port
    if h.portMode n ≠ modePcie then h
    else
      let h := ((h.setLinkState n 2).setF (HP_LINK n) HP_LINK.speed (speedCode speed)).setF (HP_LINK n) HP_LINK.width (if two then 2 else 1)
      h.raise (HP_IRQ_STAT n) HP_IRQ_STAT.link_up 0

/-- An access that the endpoint fails: counted, with its interrupt; a read receives Completer Abort, a posted write is dropped (R59). -/
def Hw.barFail (h : Hw) (p : Nat) (read : Bool) : Hw :=
  ((h.bump (HP_ERR p) HP_ERR.access_err HP_ERR.access_sat).raise (HP_IRQ_STAT p) HP_IRQ_STAT.access_err 0).answer
    (if read then .completerAbort else .none)

/-- Read the words of a BAR 0 request, low word first (R59, R11): none where one is a bus error. -/
def Hw.barWords (a : Nat → BusAcc) : Nat → Nat → Hw → Hw × Option (List Word)
  | 0, _, h => (h, some [])
  | n + 1, o, h =>
    let h := h.busRead (a o) (regKey (BitVec.ofNat 21 o))
    match h.bus.resp with
    | .data [w] =>
      let (h, rest) := Hw.barWords a n (o + 4) h
      (h, rest.map fun ws => w :: ws)
    | _ => (h, none)

/-- Write the words of a BAR 0 request; whether none was a bus error. -/
def Hw.barStore (a : Nat → BusAcc) : List Word → Nat → Hw → Hw × Bool
  | [], _, h => (h, true)
  | w :: ws, o, h =>
    let h := h.busWrite (a o) (regKey (BitVec.ofNat 21 o)) w
    if h.bus.resp = .busError then (h, false) else Hw.barStore a ws (o + 4) h

/-- A host's access to an offset in register space. -/
def portAcc (p : Port) (o : Nat) : BusAcc := ⟨portMaster p, .monitor, bit o 15, .word, true⟩

/-- A request reaches the endpoint: the port is in its mode, with the link in L0 or L1. -/
def Hw.endpointUp (h : Hw) (p : Nat) : Bool :=
  decide (h.portMode p = modePcie) && memb (h.f (HP_LINK p) HP_LINK.state) [2, 3]

/-- BAR0_REQUEST (R59). -/
def execBar0Request (port : Port) (offset : BitVec 21) (op : PcieOp) (allBytes : Bool) (s : State) :
    Host.Outcome State Fault Refusal :=
  run s fun h =>
    let n := portNum port
    if !h.endpointUp n then h
    else match op with
      | .read dw =>
        if ¬(dw = 1 ∨ dw = 2) ∨ !allBytes then h.barFail n true
        else match Hw.barWords (portAcc port) dw offset.toNat h with
          | (h, some ws) => h.answer (.data ws)
          | (h, none) => h.barFail n true
      | .write ws =>
        if ¬(ws.length = 1 ∨ ws.length = 2) ∨ !allBytes then h.barFail n false
        else match Hw.barStore (portAcc port) ws offset.toNat h with
          | (h, true) => h
          | (h, false) => h.barFail n false

/-- Read device memory through a context, page by page. -/
def Hw.barRead (ctx : Nat) : Nat → Nat → Nat → Hw → Hw × Except MemErr (List Byte)
  | 0, _, _, h => (h, .ok [])
  | fuel + 1, addr, n, h =>
    if n = 0 then (h, .ok [])
    else
      let m := pagePart addr n
      match h.engineRead ctx addr m with
      | (h, .error e) => (h, .error e)
      | (h, .ok bs) =>
        match Hw.barRead ctx fuel (addr + m) (n - m) h with
        | (h, .error e) => (h, .error e)
        | (h, .ok rest) => (h, .ok (bs ++ rest))

/-- Write device memory through a context, page by page. -/
def Hw.barWrite (ctx : Nat) : Nat → Nat → List Byte → Hw → Hw × Option MemErr
  | 0, _, _, h => (h, none)
  | fuel + 1, addr, bs, h =>
    if bs.isEmpty then (h, none)
    else
      let m := pagePart addr bs.length
      match h.engineWrite ctx addr (bs.take m) with
      | (h, some e) => (h, some e)
      | (h, none) => Hw.barWrite ctx fuel (addr + m) (bs.drop m) h

/-- A fault of a BAR 2 access: a record of unit 294 or 295, which does not park (R85), and the answer of R59. -/
def Hw.bar2Fail (h : Hw) (p ctx : Nat) (e : MemErr) (write : Bool) : Hw :=
  let h := match e with
    | .fault a k => h.park (294 + p) ctx a write k
    | .bus => h
  h.barFail p !write

/-- BAR2_REQUEST (R59, R85): an offset beyond the BAR, or an absent BAR, is no request to it. -/
def execBar2Request (port : Port) (offset : BitVec 34) (op : PcieOp) (s : State) : Host.Outcome State Fault Refusal :=
  run s fun h =>
    let n := portNum port
    let size := h.f (HP_CFG n) HP_CFG.bar2_log2
    let ctx := h.f (HP_CFG n) HP_CFG.ctx
    if !h.endpointUp n || decide (size = 0 ∨ offset.toNat ≥ 2 ^ size) then h
    else match op with
      | .read dw =>
        match Hw.barRead ctx (dw / 1024 + 2) offset.toNat (4 * dw) h with
        | (h, .ok bs) => h.answer (.data (bytesToWords bs))
        | (h, .error e) => h.bar2Fail n ctx e false
      | .write ws =>
        match Hw.barWrite ctx (ws.length / 1024 + 2) offset.toNat (wordsToBytes ws) h with
        | (h, none) => h.answer .done
        | (h, some e) => h.bar2Fail n ctx e true

/-! ### SPI (R60, R61) -/

/-- Filler octets before 0xE1: values below 8 act as 8 (HPx_SPI_CFG.wait_max). -/
def Hw.waitMax (h : Hw) (p : Nat) : Nat := max 8 (h.f (HP_SPI_CFG p) HP_SPI_CFG.wait_max)

/-- A valid frame: the port is active, with link_up where it was not; the reset command is armed for the next frame only, by 0x66 (R60,
R61). -/
def Hw.spiFrame (h : Hw) (p : Nat) (arms failed : Bool) : Hw :=
  let was := h.f (HP_LINK p) HP_LINK.state
  let h := (h.setLinkState p 4).updHost p fun x => { x with resetArmed := arms, lastFailed := failed }
  if was = 4 then h else h.raise (HP_IRQ_STAT p) HP_IRQ_STAT.link_up 0

/-- A frame that fails: counted in spi_err, with its interrupt (HPx_ERR). -/
def Hw.spiError (h : Hw) (p : Nat) : Hw :=
  (h.bump (HP_ERR p) HP_ERR.spi_err HP_ERR.spi_sat).raise (HP_IRQ_STAT p) HP_IRQ_STAT.spi_err 0

/-- The registers of the last SPI access: its address, its outcome, whether it wrote, and a word. -/
def Hw.spiLast (h : Hw) (p addr outcome : Nat) (write : Bool) (data : Word) : Hw :=
  let h := h.setReg (HP_SPI_LAST_LO p) (HP_SPI_LAST_LO.addr.set 0 (addr / 4))
  let w := HP_SPI_LAST_HI.outcome.set (HP_SPI_LAST_HI.write.set (HP_SPI_LAST_HI.addr_hi.set 0 (addr / 2 ^ 32)) write.toNat) outcome
  (h.setReg (HP_SPI_LAST_HI p) w).setReg (HP_SPI_LAST_DATA p) data

/-- Write words at device physical addresses from one on; whether any was a bus error. -/
def Hw.spiStore (p : Port) : List Word → Nat → Bool → Hw → Hw × Bool
  | [], _, bad, h => (h, bad)
  | w :: ws, a, bad, h =>
    if isRegSpace a then
      let h := h.busWrite (portAcc p a) (physKey a) w
      Hw.spiStore p ws (a + 4) (bad || decide (h.bus.resp = .busError)) h
    else match h.writePhys a (leBytes 4 w.toNat) with
      | some h => Hw.spiStore p ws (a + 4) bad h
      | none => Hw.spiStore p ws (a + 4) true h

/-- Read words at device physical addresses from one on: those of a bus error are `none`. -/
def Hw.spiLoad (p : Port) : Nat → Nat → Hw → Hw × List (Option Word)
  | 0, _, h => (h, [])
  | n + 1, a, h =>
    let (h, w) : Hw × Option Word :=
      if isRegSpace a then
        let h := h.busRead (portAcc p a) (physKey a)
        (h, match h.bus.resp with
          | .data [w] => some w
          | _ => none)
      else (h, (h.readPhys a 4).map fun bs => BitVec.ofNat 32 (leNat bs))
    let (h, ws) := Hw.spiLoad p n (a + 4) h
    (h, w :: ws)

/-- SPI_WRITE (R60): with CRC enabled the words are written only where the CRC is right. -/
def execSpiWrite (port : Port) (addr : BitVec 40) (words : List Word) (crcOk : Bool) (s : State) : Host.Outcome State Fault Refusal :=
  runIf (spiWordsOk words) "an SPI frame carries 1 to 64 words" s fun h =>
    let n := portNum port
    let first := words.headD 0
    if h.portMode n ≠ modeSpi then h
    else if h.flag (HP_SPI_CFG n) HP_SPI_CFG.crc_en ∧ !crcOk then
      let h := (h.spiError n).updHost n fun x => { x with resetArmed := false, lastFailed := true, crcSeen := true }
      h.spiLast n addr.toNat 2 true first
    else
      let (h, bad) := Hw.spiStore port words addr.toNat false h
      ((h.spiFrame n false bad).spiLast n addr.toNat (if bad then 1 else 0) true first).answer .none

/-- The words that a read has fetched, with free values where a bus error gave none (log entry 77). -/
def Hw.spiWords (h : Hw) (ws : List (Option Word)) : List Word × Hw :=
  ((List.range ws.length).map fun i => ((ws[i]?).getD none).getD (Config.freeWord (h.freeCtr + i)), h.useFree ws.length)

/-- SPI_READ (R60): filler octets, whose number is free up to wait_max, then the marker, the data and the CRC. -/
def execSpiRead (port : Port) (addr : BitVec 40) (count : Fin 64) (s : State) : Host.Outcome State Fault Refusal :=
  run s fun h =>
    let n := portNum port
    if h.portMode n ≠ modeSpi then h
    else
      let (h, got) := Hw.spiLoad port (count.val + 1) addr.toNat h
      let bad := got.any Option.isNone
      let (ws, h) := h.spiWords got
      let body := (0x5A : Byte) :: wordsToBytes ws
      let crc := if h.flag (HP_SPI_CFG n) HP_SPI_CFG.crc_en then leBytes 2 (crc16 body) else []
      let fill := List.replicate (Config.freeNat h.freeCtr % (h.waitMax n + 1)) (0xFF : Byte)
      let h := ((h.useFree 1).spiFrame n false bad).spiLast n addr.toNat (if bad then 1 else 0) false (ws.headD 0)
      h.answer (.octets (fill ++ body ++ crc))

/-- SPI_WAIT_TIMEOUT (R60): the target sends 0xE1 after wait_max filler octets; the fabric read completes all the same. -/
def execSpiWaitTimeout (port : Port) (addr : BitVec 40) (count : Fin 64) (s : State) : Host.Outcome State Fault Refusal :=
  run s fun h =>
    let n := portNum port
    if h.portMode n ≠ modeSpi then h
    else
      let (h, got) := Hw.spiLoad port (count.val + 1) addr.toNat h
      let (ws, h) := h.spiWords got
      let out := if got.any Option.isNone then 1 else 3
      let h := ((h.spiFrame n false true).spiError n).spiLast n addr.toNat out false (ws.headD 0)
      h.answer (.octets (List.replicate (h.waitMax n) (0xFF : Byte) ++ [0xE1]))

/-- HPx_IRQn is asserted: an enabled HPx_MSIX_MAP entry's line is (R61). -/
def Hw.irqnAsserted (h : Hw) (p : Nat) : Bool :=
  (List.range 32).any fun v =>
    h.flag (HP_MSIX_MAP p v) HP_MSIX_MAP.enable && h.lineLevel (h.f (HP_MSIX_MAP p v) HP_MSIX_MAP.line)

/-- SPI_STATUS (R60): the status octet, as the port stood before the frame. -/
def execSpiStatus (port : Port) (s : State) : Host.Outcome State Fault Refusal :=
  run s fun h =>
    let n := portNum port
    if h.portMode n ≠ modeSpi then h
    else
      let x := h.hosts.at n
      let b := (h.irqnAsserted n).toNat + x.lastFailed.toNat * 2 + x.crcSeen.toNat * 4 + x.wdogSeen.toNat * 8
      let h := (h.spiFrame n false false).updHost n fun x => { x with wdogSeen := false }
      h.answer (.octets [BitVec.ofNat 8 b])

/-- SPI_RESET_ENABLE (R60). -/
def execSpiResetEnable (port : Port) (s : State) : Host.Outcome State Fault Refusal :=
  run s fun h => if h.portMode (portNum port) ≠ modeSpi then h else h.spiFrame (portNum port) true false

/-- SPI_RESET (R60): acts immediately after 0x66 only. -/
def execSpiReset (port : Port) (s : State) : Host.Outcome State Fault Refusal :=
  run s fun h =>
    let n := portNum port
    if h.portMode n ≠ modeSpi then h
    else if (h.hosts.at n).resetArmed then (h.spiFrame n false false).spiTargetReset port
    else h.spiFrame n false false

/-- SPI_WATCHDOG_EXPIRY (R61): no valid frame has arrived for wdog_ms; 0 is off. -/
def execSpiWatchdogExpiry (port : Port) (s : State) : Host.Outcome State Fault Refusal :=
  run s fun h =>
    let n := portNum port
    if h.portMode n ≠ modeSpi ∨ h.f (HP_SPI_CFG n) HP_SPI_CFG.wdog_ms = 0 ∨ h.f (HP_LINK n) HP_LINK.state = 5 then h
    else h.spiExpired port

end Sys2Proof.Machine
end

