-- ==== Sys2Proof/Machine/Track.lean ====
section
/-! DEFINITION. Track frames and keyframes of Lathe's profiles (spec/08_lathe.md, R211, R212). -/

namespace Sys2Proof.Machine

open Reg

/-- The keyframe interval in ns. -/
def kfNs : Nat := 100000000

/-- The keyframe times of a series from `start` that lie in (q, hi] and before `stop`, at most four (R211). -/
def kfTimes (start stop q hi : Nat) : List Nat :=
  let k0 := if q < start then 0 else (q - start) / kfNs + 1
  ((List.range 4).map fun i => start + (k0 + i) * kfNs).filter fun t => decide (q < t ∧ t ≤ hi ∧ t < stop)

/-- The instant of a profile's arrival, in ns rounded up. -/
def arriveNs (p : Profile) : Nat := p.startNs + (p.arrive + 999) / 1000

/-- A length in 2^-20 mm, to the nearest mm. -/
def toMm (s : Int) : Int := (s + 524288) / 1048576

/-- A heading clockwise from grid north in 2^-16 turn, of a direction counter-clockwise from east in 2^-48 turn (R212). -/
def gridHeading (d : Nat) : Nat := ((wholeTurn + quarterTurn - d % wholeTurn) % wholeTurn + 2 ^ 31) / 2 ^ 32 % 65536

/-- The octets of the keyframe of a profile at a site time (R212); before the profile's start it is of the prefix. -/
def Hw.keyframe (h : Hw) (p : Profile) (t : Nat) (final : Bool) : List Byte :=
  let (m, _) := p.motion t
  let nextT := min (t + kfNs) (arriveNs p)
  let still : Bool := !final && decide (m.v = 0 ∧ m.a = 0 ∧ (p.motion nextT).1.s = m.s)
  let i := p.element m.s
  let from_ : Int := if i = 0 then -(p.startOfs : Int) else p.ends.getD (i - 1) 0
  let along := (m.s - from_ * (mmUnits : Nat)).toNat
  let head := gridHeading ((h.seg (p.segs.getD i 0)).headingAt along)
  let ms := if final then (arriveNs p + 999999) / 1000000 else t / 1000000
  leBytes 4 ms ++ sBytes 4 (toMm m.s) ++ leBytes 2 (min 65535 (toMm m.v).toNat) ++ sBytes 2 (sat16 (toMm m.a)) ++ leBytes 2 head ++
    leBytes 1 i ++ leBytes 1 (still.toNat + final.toNat * 2 + (decide (t < p.startNs)).toNat * 4)

/-- A track frame's payload at `q`, and whether it carries the final keyframe (R211, R212). -/
def Hw.trackPayload (h : Hw) (p : Profile) (q : Nat) : List Byte × Bool :=
  let hi := q / kfNs * kfNs + kfNs * h.kfRepeat
  let before := if p.prior.isEmpty then [] else kfTimes p.priorStart p.startNs q hi
  let own := kfTimes p.startNs (arriveNs p) q hi
  let final : Bool := decide (q < arriveNs p ∧ arriveNs p ≤ hi)
  let frames := (before ++ own).map (fun t => h.keyframe p t false) ++ (if final then [h.keyframe p (arriveNs p) true] else [])
  let path := decide (p.frames < h.kfRepeat)
  (leBytes 1 (path.toNat + final.toNat * 2) ++ leBytes 1 frames.length ++ leBytes 4 (tickOfNs p.startNs) ++
    (if path then leBytes 4 p.startOfs ++ leBytes 1 p.segs.length ++ p.segs.flatMap (leBytes 2) else []) ++ frames.flatten, final)

/-- A track frame that its stream does not take (R211). -/
def Hw.kfDropped (h : Hw) (lane : Nat) : Hw :=
  (h.bump LTH_ERR LTH_ERR.kf_dropped LTH_ERR.kf_sat).raise LTH_IRQ_STAT LTH_IRQ_STAT.kf_dropped lane

/-- Queue a track frame of a robot's active profile, if its token is valid and the robot is bound to a lane. -/
def Hw.queueTrack (h : Hw) (r : Nat) : Hw :=
  match h.activeProf r, h.laneOf r with
  | some p, some n =>
    if ¬h.acts ∨ ¬h.tokenValid p.token then h
    else
      let (payload, final) := h.trackPayload p h.now
      let h := h.updLth fun l => { l with
        active := l.active.set r (some { p with frames := p.frames + 1, finals := p.finals + final.toNat }) }
      let (h, lost) := h.hwSendFree prodLth (h.f (RAD_LANE_FIFO n) RAD_LANE_FIFO.tx_track) (txHeader ftTrack 0 r r 0 p.token ++ payload)
      if lost then h.kfDropped n else h
  | _, _ => h

/-- TRACK_FRAME_QUEUE (R211): a 100 ms boundary, at which every valid active profile queues a frame, or the moment at which one robot's token
becomes valid. -/
def execTrackFrameQueue (robot : Option (Fin 129)) (s : State) : Host.Outcome State Fault Refusal :=
  run s fun h => match robot with
    | some r => h.queueTrack r.val
    | none => allRobots.foldl Hw.queueTrack h

/-- KF_DROP_TIMEOUT (R211): a track frame has waited 10 ms for its lane's stream. -/
def execKfDropTimeout (lane : Fin 8) (s : State) : Host.Outcome State Fault Refusal :=
  run s fun h =>
    let f := h.f (RAD_LANE_FIFO lane.val) RAD_LANE_FIFO.tx_track
    if h.holdsPacket prodLth f then (h.dropHeld prodLth f).kfDropped lane.val else h

end Sys2Proof.Machine
end

