-- ==== Sys2Proof/Machine/Dispatch.lean ====
section
/-! DEFINITION. The dispatch of a command to its meaning, one arm per constructor. -/

namespace Sys2Proof.Machine

def exec (i : Instr) (s : State) : Host.Outcome State Fault Refusal :=
  match i with
  | .registerWrite via reg value => Sys2Proof.Machine.execRegisterWrite via reg value s
  | .lowWordRead via reg => Sys2Proof.Machine.execLowWordRead via reg s
  | .lowWordWrite via reg value => Sys2Proof.Machine.execLowWordWrite via reg value s
  | .vglWriteEffect => Sys2Proof.Machine.execVglWriteEffect s
  | .masterReset m => Sys2Proof.Machine.execMasterReset m s
  | .fabricPromotion who => Sys2Proof.Machine.execFabricPromotion who s
  | .deviceInterrupt line => Sys2Proof.Machine.execDeviceInterrupt line s
  | .debugHalt cpu => Sys2Proof.Machine.execDebugHalt cpu s
  | .transientFault cls inst kind retriesFailed => Sys2Proof.Machine.execTransientFault cls inst kind retriesFailed s
  | .retirementNext => Sys2Proof.Machine.execRetirementNext s
  | .reloadGo via value => Sys2Proof.Machine.execReloadGo via value s
  | .reloadAbort via value => Sys2Proof.Machine.execReloadAbort via value s
  | .reloadVerified image => Sys2Proof.Machine.execReloadVerified image s
  | .reloadApply => Sys2Proof.Machine.execReloadApply s
  | .reloadTimeout => Sys2Proof.Machine.execReloadTimeout s
  | .presetSelect via f value => Sys2Proof.Machine.execPresetSelect via f value s
  | .presetQueuedApply => Sys2Proof.Machine.execPresetQueuedApply s
  | .stagingDrain => Sys2Proof.Machine.execStagingDrain s
  | .portReset port cause => Sys2Proof.Machine.execPortReset port cause s
  | .pcieLinkUp port speed two => Sys2Proof.Machine.execPcieLinkUp port speed two s
  | .bar0Request port offset op allBytes => Sys2Proof.Machine.execBar0Request port offset op allBytes s
  | .bar2Request port offset op => Sys2Proof.Machine.execBar2Request port offset op s
  | .spiWrite port addr words crcOk => Sys2Proof.Machine.execSpiWrite port addr words crcOk s
  | .spiRead port addr count => Sys2Proof.Machine.execSpiRead port addr count s
  | .spiWaitTimeout port addr count => Sys2Proof.Machine.execSpiWaitTimeout port addr count s
  | .spiStatus port => Sys2Proof.Machine.execSpiStatus port s
  | .spiResetEnable port => Sys2Proof.Machine.execSpiResetEnable port s
  | .spiReset port => Sys2Proof.Machine.execSpiReset port s
  | .spiWatchdogExpiry port => Sys2Proof.Machine.execSpiWatchdogExpiry port s
  | .semLockRead via n => Sys2Proof.Machine.execSemLockRead via n s
  | .semLockWrite via n value => Sys2Proof.Machine.execSemLockWrite via n value s
  | .semForce via value => Sys2Proof.Machine.execSemForce via value s
  | .taskSubmit via high => Sys2Proof.Machine.execTaskSubmit via high s
  | .tokenPost handle err => Sys2Proof.Machine.execTokenPost handle err s
  | .noticeArm via reg handle => Sys2Proof.Machine.execNoticeArm via reg handle s
  | .affinityWindowExpiry slot => Sys2Proof.Machine.execAffinityWindowExpiry slot s
  | .taskAccept core => Sys2Proof.Machine.execTaskAccept core s
  | .taskSaved via handle => Sys2Proof.Machine.execTaskSaved via handle s
  | .savingTimeout slot => Sys2Proof.Machine.execSavingTimeout slot s
  | .taskDone core handle err => Sys2Proof.Machine.execTaskDone core handle err s
  | .coreDeliverDisable via core => Sys2Proof.Machine.execCoreDeliverDisable via core s
  | .smuInvalidate via scope ctx => Sys2Proof.Machine.execSmuInvalidate via scope ctx s
  | .invalidateComplete => Sys2Proof.Machine.execInvalidateComplete s
  | .translationFault unit ctx addr write kind => Sys2Proof.Machine.execTranslationFault unit ctx addr write kind s
  | .faultPop via => Sys2Proof.Machine.execFaultPop via s
  | .unitResume via unit => Sys2Proof.Machine.execUnitResume via unit s
  | .unitAbort via unit => Sys2Proof.Machine.execUnitAbort via unit s
  | .parkTimeout unit => Sys2Proof.Machine.execParkTimeout unit s
  | .dmaStart via ch high => Sys2Proof.Machine.execDmaStart via ch high s
  | .dmaDescriptorComplete ch hostData => Sys2Proof.Machine.execDmaDescriptorComplete ch hostData s
  | .dmaFifoReady ch => Sys2Proof.Machine.execDmaFifoReady ch s
  | .migrationCopyDone badLines => Sys2Proof.Machine.execMigrationCopyDone badLines s
  | .mbxPost via ch high => Sys2Proof.Machine.execMbxPost via ch high s
  | .mbxRecv via ch => Sys2Proof.Machine.execMbxRecv via ch s
  | .mbxChLockRead via ch => Sys2Proof.Machine.execMbxChLockRead via ch s
  | .mbxDbRing via ch bits => Sys2Proof.Machine.execMbxDbRing via ch bits s
  | .stmPush via f data => Sys2Proof.Machine.execStmPush via f data s
  | .stmCommit via f length tag => Sys2Proof.Machine.execStmCommit via f length tag s
  | .stmCommitStart via f length tag => Sys2Proof.Machine.execStmCommitStart via f length tag s
  | .stmCommitAbort via f => Sys2Proof.Machine.execStmCommitAbort via f s
  | .stmPop via f => Sys2Proof.Machine.execStmPop via f s
  | .stmFlush via f => Sys2Proof.Machine.execStmFlush via f s
  | .flushAct f => Sys2Proof.Machine.execFlushAct f s
  | .stmSkip via f => Sys2Proof.Machine.execStmSkip via f s
  | .bandLock ant band => Sys2Proof.Machine.execBandLock ant band s
  | .frameError ant band => Sys2Proof.Machine.execFrameError ant band s
  | .bandLinkError ant band => Sys2Proof.Machine.execBandLinkError ant band s
  | .gnssRefLost => Sys2Proof.Machine.execGnssRefLost s
  | .gnssRefRestored => Sys2Proof.Machine.execGnssRefRestored s
  | .acqRequest via value => Sys2Proof.Machine.execAcqRequest via value s
  | .searchFound slot k => Sys2Proof.Machine.execSearchFound slot k s
  | .searchNotFound slot => Sys2Proof.Machine.execSearchNotFound slot s
  | .pullInLock ch => Sys2Proof.Machine.execPullInLock ch s
  | .pullInTimeout ch => Sys2Proof.Machine.execPullInTimeout ch s
  | .lockLoss ch => Sys2Proof.Machine.execLockLoss ch s
  | .lostTimeout ch => Sys2Proof.Machine.execLostTimeout ch s
  | .satelliteSet con sv elev healthy => Sys2Proof.Machine.execSatelliteSet con sv elev healthy s
  | .channelFault ch retriesFailed => Sys2Proof.Machine.execChannelFault ch retriesFailed s
  | .epochLatch offset leap meas => Sys2Proof.Machine.execEpochLatch offset leap meas s
  | .recordComplete => Sys2Proof.Machine.execRecordComplete s
  | .referenceRestore via => Sys2Proof.Machine.execReferenceRestore via s
  | .jobSubmit via high => Sys2Proof.Machine.execJobSubmit via high s
  | .jobDispatch => Sys2Proof.Machine.execJobDispatch s
  | .jobComplete slot => Sys2Proof.Machine.execJobComplete slot s
  | .tileFault tile half kind => Sys2Proof.Machine.execTileFault tile half kind s
  | .selftestStart tile => Sys2Proof.Machine.execSelftestStart tile s
  | .selftestComplete tile ok => Sys2Proof.Machine.execSelftestComplete tile ok s
  | .obsFrame => Sys2Proof.Machine.execObsFrame s
  | .bufferRelease via robot bufs => Sys2Proof.Machine.execBufferRelease via robot bufs s
  | .forceFull via robot => Sys2Proof.Machine.execForceFull via robot s
  | .positionReport => Sys2Proof.Machine.execPositionReport s
  | .baseHoldExpiry => Sys2Proof.Machine.execBaseHoldExpiry s
  | .epochDeadline robot epoch predicted => Sys2Proof.Machine.execEpochDeadline robot epoch predicted s
  | .fixPublish r => Sys2Proof.Machine.execFixPublish r s
  | .pubDropTimeout => Sys2Proof.Machine.execPubDropTimeout s
  | .fixTblSnapshot via robot => Sys2Proof.Machine.execFixTblSnapshot via robot s
  | .robotReset via robot => Sys2Proof.Machine.execRobotReset via robot s
  | .spVerdict => Sys2Proof.Machine.execSpVerdict s
  | .stopLostTimeout robot => Sys2Proof.Machine.execStopLostTimeout robot s
  | .stopConfirmTimeout robot => Sys2Proof.Machine.execStopConfirmTimeout robot s
  | .baseLossTimeout => Sys2Proof.Machine.execBaseLossTimeout s
  | .silenceTimeout => Sys2Proof.Machine.execSilenceTimeout s
  | .graphLoad via ctx addrHi => Sys2Proof.Machine.execGraphLoad via ctx addrHi s
  | .graphLoadDone => Sys2Proof.Machine.execGraphLoadDone s
  | .rsvSubmit via high => Sys2Proof.Machine.execRsvSubmit via high s
  | .reserve slot => Sys2Proof.Machine.execReserve slot s
  | .check slot => Sys2Proof.Machine.execCheck slot s
  | .replace slot => Sys2Proof.Machine.execReplace slot s
  | .revoke slot => Sys2Proof.Machine.execRevoke slot s
  | .clearHold slot => Sys2Proof.Machine.execClearHold slot s
  | .edit slot => Sys2Proof.Machine.execEdit slot s
  | .mirrorAckTimeout token => Sys2Proof.Machine.execMirrorAckTimeout token s
  | .expirySweep => Sys2Proof.Machine.execExpirySweep s
  | .rsvRevoke via value => Sys2Proof.Machine.execRsvRevoke via value s
  | .tokenQuery via token => Sys2Proof.Machine.execTokenQuery via token s
  | .rsvEccError hit => Sys2Proof.Machine.execRsvEccError hit s
  | .poisonClear cal => Sys2Proof.Machine.execPoisonClear cal s
  | .eventDropTimeout => Sys2Proof.Machine.execEventDropTimeout s
  | .lthRequest => Sys2Proof.Machine.execLthRequest s
  | .plan slot => Sys2Proof.Machine.execPlan slot s
  | .negotiate slot => Sys2Proof.Machine.execNegotiate slot s
  | .negotiateRound slot => Sys2Proof.Machine.execNegotiateRound slot s
  | .profile slot => Sys2Proof.Machine.execProfile slot s
  | .cancel slot => Sys2Proof.Machine.execCancel slot s
  | .reservationBusyRetry slot => Sys2Proof.Machine.execReservationBusyRetry slot s
  | .trackFrameQueue robot => Sys2Proof.Machine.execTrackFrameQueue robot s
  | .kfDropTimeout lane => Sys2Proof.Machine.execKfDropTimeout lane s
  | .profileEnd robot => Sys2Proof.Machine.execProfileEnd robot s
  | .controlCycle => Sys2Proof.Machine.execControlCycle s
  | .upstreamFrame link frame => Sys2Proof.Machine.execUpstreamFrame link frame s
  | .linkFault link => Sys2Proof.Machine.execLinkFault link s
  | .enable via n => Sys2Proof.Machine.execEnable via n s
  | .disable via n => Sys2Proof.Machine.execDisable via n s
  | .moveAbs via n => Sys2Proof.Machine.execMoveAbs via n s
  | .moveRel via n => Sys2Proof.Machine.execMoveRel via n s
  | .jog via n => Sys2Proof.Machine.execJog via n s
  | .halt via n => Sys2Proof.Machine.execHalt via n s
  | .home via n => Sys2Proof.Machine.execHome via n s
  | .setPos via n => Sys2Proof.Machine.execSetPos via n s
  | .follow via n => Sys2Proof.Machine.execFollow via n s
  | .release via n => Sys2Proof.Machine.execRelease via n s
  | .stepEdge n dir stable => Sys2Proof.Machine.execStepEdge n dir stable s
  | .groupGo via g value => Sys2Proof.Machine.execGroupGo via g value s
  | .groupHalt via g value => Sys2Proof.Machine.execGroupHalt via g value s
  | .groupStart g => Sys2Proof.Machine.execGroupStart g s
  | .superframeStart nav late => Sys2Proof.Machine.execSuperframeStart nav late s
  | .permitMark mark => Sys2Proof.Machine.execPermitMark mark s
  | .txPacketTake lane => Sys2Proof.Machine.execTxPacketTake lane s
  | .frameTransmit lane step => Sys2Proof.Machine.execFrameTransmit lane step s
  | .laneIrq lane status psdu rssi lqi age => Sys2Proof.Machine.execLaneIrq lane status psdu rssi lqi age s
  | .rxOn lane => Sys2Proof.Machine.execRxOn lane s
  | .idle lane => Sys2Proof.Machine.execIdle lane s
  | .regWrite lane addr data => Sys2Proof.Machine.execRegWrite lane addr data s
  | .regRead lane addr count data => Sys2Proof.Machine.execRegRead lane addr count data s
  | .frameReceive lane => Sys2Proof.Machine.execFrameReceive lane s
  | .ackTimeout lane => Sys2Proof.Machine.execAckTimeout lane s
  | .rxDropTimeout => Sys2Proof.Machine.execRxDropTimeout s
  | .floodOriginate => Sys2Proof.Machine.execFloodOriginate s
  | .floodRelay => Sys2Proof.Machine.execFloodRelay s
  | .dataRequest => Sys2Proof.Machine.execDataRequest s
  | .indirectExpiry => Sys2Proof.Machine.execIndirectExpiry s
  | .rendezvous => Sys2Proof.Machine.execRendezvous s
  | .rendezvousWindowEnd => Sys2Proof.Machine.execRendezvousWindowEnd s
  | .stopPin pin hi lo => Sys2Proof.Machine.execStopPin pin hi lo s
  | .stopPinFiltered pin => Sys2Proof.Machine.execStopPinFiltered pin s
  | .discrepancyLatch pin => Sys2Proof.Machine.execDiscrepancyLatch pin s
  | .pinRunConfirmed pin => Sys2Proof.Machine.execPinRunConfirmed pin s
  | .fleetStopCommand via tagHi => Sys2Proof.Machine.execFleetStopCommand via tagHi s
  | .targetedStopCommand via tagHi => Sys2Proof.Machine.execTargetedStopCommand via tagHi s
  | .releaseCommand via tagHi => Sys2Proof.Machine.execReleaseCommand via tagHi s
  | .spDecision release source robot => Sys2Proof.Machine.execSpDecision release source robot s
  | .arm via => Sys2Proof.Machine.execArm via s
  | .stopFrame => Sys2Proof.Machine.execStopFrame s
  | .stopRepeat => Sys2Proof.Machine.execStopRepeat s
  | .stopRun step => Sys2Proof.Machine.execStopRun step s
  | .relayTimeout => Sys2Proof.Machine.execRelayTimeout s
  | .stopHoldExpiry robot => Sys2Proof.Machine.execStopHoldExpiry robot s
  | .outputDelayExpiry => Sys2Proof.Machine.execOutputDelayExpiry s
  | .testPulse out begin => Sys2Proof.Machine.execTestPulse out begin s
  | .readbackMismatch out => Sys2Proof.Machine.execReadbackMismatch out s
  | .dryRun raised => Sys2Proof.Machine.execDryRun raised s
  | .spLockstepFail kind => Sys2Proof.Machine.execSpLockstepFail kind s
  | .heartbeatSend => Sys2Proof.Machine.execHeartbeatSend s
  | .heartbeatReceive body authentic => Sys2Proof.Machine.execHeartbeatReceive body authentic s
  | .heartbeatMiss => Sys2Proof.Machine.execHeartbeatMiss s
  | .mirrorBatch => Sys2Proof.Machine.execMirrorBatch s
  | .mirrorRecord seq item lag authentic => Sys2Proof.Machine.execMirrorRecord seq item lag authentic s
  | .snapshot seq items hashes authentic => Sys2Proof.Machine.execSnapshot seq items hashes authentic s
  | .resync via => Sys2Proof.Machine.execResync via s
  | .senseHigh high => Sys2Proof.Machine.execSenseHigh high s
  | .takeoverDetect => Sys2Proof.Machine.execTakeoverDetect s
  | .interlockConfirm senseHigh => Sys2Proof.Machine.execInterlockConfirm senseHigh s
  | .interlockWatchdogExpiry => Sys2Proof.Machine.execInterlockWatchdogExpiry s
  | .handover via => Sys2Proof.Machine.execHandover via s
  | .handoverRelease => Sys2Proof.Machine.execHandoverRelease s
  | .handoverTimeout => Sys2Proof.Machine.execHandoverTimeout s
  | .clearFault via => Sys2Proof.Machine.execClearFault via s
  | .timeSnapshot via => Sys2Proof.Machine.execTimeSnapshot via s
  | .incrementWrite via value => Sys2Proof.Machine.execIncrementWrite via value s
  | .step via high => Sys2Proof.Machine.execStep via high s
  | .unset via => Sys2Proof.Machine.execUnset via s
  | .offsetIn via value => Sys2Proof.Machine.execOffsetIn via value s
  | .sourceLost => Sys2Proof.Machine.execSourceLost s
  | .tsqPop via => Sys2Proof.Machine.execTsqPop via s
  | .ethFrame src => Sys2Proof.Machine.execEthFrame src s
  | .peerDelayMeasure port delay => Sys2Proof.Machine.execPeerDelayMeasure port delay s
  | .ringCheck => Sys2Proof.Machine.execRingCheck s
  | .ringOpen => Sys2Proof.Machine.execRingOpen s
  | .ringClose => Sys2Proof.Machine.execRingClose s
  | .encoderEdge n a b => Sys2Proof.Machine.execEncoderEdge n a b s
  | .triggerArm via t value => Sys2Proof.Machine.execTriggerArm via t value s
  | .triggerCancel via t value => Sys2Proof.Machine.execTriggerCancel via t value s
  | .triggerFire t => Sys2Proof.Machine.execTriggerFire t s
  | .conversionFrame frame => Sys2Proof.Machine.execConversionFrame frame s
  | .modulatorStall c retriesFailed => Sys2Proof.Machine.execModulatorStall c retriesFailed s
  | .harmSnapshot via c => Sys2Proof.Machine.execHarmSnapshot via c s
  | .supplyOkDebounce => Sys2Proof.Machine.execSupplyOkDebounce s
  | .supplyEventDrop => Sys2Proof.Machine.execSupplyEventDrop s
  | .pulseOutput k begin => Sys2Proof.Machine.execPulseOutput k begin s
  | .pulseConfig via k value => Sys2Proof.Machine.execPulseConfig via k value s
  | .periodicSave ok => Sys2Proof.Machine.execPeriodicSave ok s
  | .meterDisable via => Sys2Proof.Machine.execMeterDisable via s
  | .calPersist => Sys2Proof.Machine.execCalPersist s
  | .supplyFail => Sys2Proof.Machine.execSupplyFail s
  | .provisioningClose via value => Sys2Proof.Machine.execProvisioningClose via value s
  | .estateWrite via high => Sys2Proof.Machine.execEstateWrite via high s
  | .cryptoSubmit via high => Sys2Proof.Machine.execCryptoSubmit via high s
  | .aeadEnc q => Sys2Proof.Machine.execAeadEnc q s
  | .aeadDec q => Sys2Proof.Machine.execAeadDec q s
  | .hash q => Sys2Proof.Machine.execHash q s
  | .hmac q => Sys2Proof.Machine.execHmac q s
  | .sign q => Sys2Proof.Machine.execSign q s
  | .verify q => Sys2Proof.Machine.execVerify q s
  | .derive q => Sys2Proof.Machine.execDerive q s
  | .agree q => Sys2Proof.Machine.execAgree q s
  | .random q => Sys2Proof.Machine.execRandom q s
  | .keyUpdate q => Sys2Proof.Machine.execKeyUpdate q s
  | .swap q => Sys2Proof.Machine.execSwap q s
  | .swapTakeEffect slot => Sys2Proof.Machine.execSwapTakeEffect slot s
  | .oldKeyExpiry slot => Sys2Proof.Machine.execOldKeyExpiry slot s
  | .shadowExpiry slot => Sys2Proof.Machine.execShadowExpiry slot s
  | .debugChallenge via => Sys2Proof.Machine.execDebugChallenge via s
  | .debugAnswer via value => Sys2Proof.Machine.execDebugAnswer via value s
  | .tamper source active => Sys2Proof.Machine.execTamper source active s
  | .manifest => Sys2Proof.Machine.execManifest s
  | .eraseComplete result blocks => Sys2Proof.Machine.execEraseComplete result blocks s
  | .piece result => Sys2Proof.Machine.execPiece result s
  | .fragment result => Sys2Proof.Machine.execFragment result s
  | .settingsRecord result => Sys2Proof.Machine.execSettingsRecord result s
  | .verifyComplete image => Sys2Proof.Machine.execVerifyComplete image s
  | .activate via partition => Sys2Proof.Machine.execActivate via partition s
  | .confirm via partition => Sys2Proof.Machine.execConfirm via partition s
  | .rollback via partition => Sys2Proof.Machine.execRollback via partition s
  | .abandon via key => Sys2Proof.Machine.execAbandon via key s
  | .recovery via key => Sys2Proof.Machine.execRecovery via key s
  | .updVerify via => Sys2Proof.Machine.execUpdVerify via s
  | .recoveryRecord src => Sys2Proof.Machine.execRecoveryRecord src s
  | .pageProgram => Sys2Proof.Machine.execPageProgram s
  | .programComplete result => Sys2Proof.Machine.execProgramComplete result s
  | .eventAbsorb => Sys2Proof.Machine.execEventAbsorb s
  | .flushTimeout => Sys2Proof.Machine.execFlushTimeout s
  | .close via => Sys2Proof.Machine.execClose via s
  | .logClear via tagHi => Sys2Proof.Machine.execLogClear via tagHi s
  | .blockEraseComplete result => Sys2Proof.Machine.execBlockEraseComplete result s
  | .post via value => Sys2Proof.Machine.execPost via value s
  | .healthReport => Sys2Proof.Machine.execHealthReport s
  | .reportSnapshot via => Sys2Proof.Machine.execReportSnapshot via s
  | .clusterGate k => Sys2Proof.Machine.execClusterGate k s
  | .enterSleep via => Sys2Proof.Machine.execEnterSleep via s
  | .enterDeepSleep via => Sys2Proof.Machine.execEnterDeepSleep via s
  | .enterOff via => Sys2Proof.Machine.execEnterOff via s
  | .powerAbort via => Sys2Proof.Machine.execPowerAbort via s
  | .blockAnswer refreshOk => Sys2Proof.Machine.execBlockAnswer refreshOk s
  | .blockAnswerTimeout => Sys2Proof.Machine.execBlockAnswerTimeout s
  | .backoffRetry => Sys2Proof.Machine.execBackoffRetry s
  | .powerDown => Sys2Proof.Machine.execPowerDown s
  | .wake cause => Sys2Proof.Machine.execWake cause s
  | .rendezvousWake => Sys2Proof.Machine.execRendezvousWake s
  | .pgGood n => Sys2Proof.Machine.execPgGood n s
  | .pgTimeout => Sys2Proof.Machine.execPgTimeout s
  | .pgRetry => Sys2Proof.Machine.execPgRetry s
  | .pllLockTimeout => Sys2Proof.Machine.execPllLockTimeout s
  | .alarm => Sys2Proof.Machine.execAlarm s
  | .watchdogKick via => Sys2Proof.Machine.execWatchdogKick via s
  | .watchdogExpiry => Sys2Proof.Machine.execWatchdogExpiry s
  | .resetPin => Sys2Proof.Machine.execResetPin s
  | .softwareReset via value => Sys2Proof.Machine.execSoftwareReset via value s
  | .vbatPor => Sys2Proof.Machine.execVbatPor s
  | .supplyPor => Sys2Proof.Machine.execSupplyPor s
  | .coreReset via n => Sys2Proof.Machine.execCoreReset via n s
  | .coreRelease via n => Sys2Proof.Machine.execCoreRelease via n s
  | .boot straps ac0Ok => Sys2Proof.Machine.execBoot straps ac0Ok s
  | .bootStageComplete facts => Sys2Proof.Machine.execBootStageComplete facts s
  | .ddrInit via training => Sys2Proof.Machine.execDdrInit via training s
  | .warmStart ac0Ok => Sys2Proof.Machine.execWarmStart ac0Ok s
  | .relock ch => Sys2Proof.Machine.execRelock ch s
  | .satelliteRise con sv elev k => Sys2Proof.Machine.execSatelliteRise con sv elev k s
  | .searchAgain ant sig sv => Sys2Proof.Machine.execSearchAgain ant sig sv s
  | .timeSolution offset => Sys2Proof.Machine.execTimeSolution offset s
  | .pairLinkUp => Sys2Proof.Machine.execPairLinkUp s
  | .pairLinkDown => Sys2Proof.Machine.execPairLinkDown s
  | .ethLinkUp port => Sys2Proof.Machine.execEthLinkUp port s
  | .ethLinkDown port => Sys2Proof.Machine.execEthLinkDown port s
  | .spKick => Sys2Proof.Machine.execSpKick s
  | .debugSessionEnd => Sys2Proof.Machine.execDebugSessionEnd s
  | .debugResume cpu => Sys2Proof.Machine.execDebugResume cpu s
  | .reportDropTimeout => Sys2Proof.Machine.execReportDropTimeout s
  | .storeWaitTimeout q => Sys2Proof.Machine.execStoreWaitTimeout q s
  | .ccaRetry lane => Sys2Proof.Machine.execCcaRetry lane s
  | .returnStageReady training => Sys2Proof.Machine.execReturnStageReady training s
  | .vbatLoss => Sys2Proof.Machine.execVbatLoss s

end Sys2Proof.Machine
end

