-- ==== Sys2Proof/Machine/Tick.lean ====
section
/-! DEFINITION. One cycle of the Time domain, 8 ns, which passes when no command waits: the site counter, the trigger pulses, the Ethernet
ports, the Vigil counter and the cores' cycle counters (R19, R41, R285, R286, R388; log entry 4). -/

namespace Sys2Proof.Machine

open Reg

/-- A block's clock runs. -/
def Hw.clocked (h : Hw) (block : Nat) : Bool := !memb block h.pwr.stopped

/-- 8 ns on the Vigil counter: a Vigil cycle is 1 s / 32,768; times are kept in 2^-8 ns. The counter is 48 bits and never stops (R388). -/
def Hw.vigilTick (h : Hw) : Hw :=
  let t := h.pwr.partCycle + 2048
  if t < 7812500 then h.updPwr fun p => { p with partCycle := t }
  else
    (h.setReg64 VGL_CNT_LO ((h.vigilCount + 1) % 2 ^ 48)).updPwr fun p => { p with partCycle := t - 7812500 }

/-- 8 ns on the cycle counter of an application core that runs with its cluster's clock on: 12.8 cycles of 1.6 GHz, in fifths of a cycle,
modulo 2^64 cycles (R41). -/
def Hw.coreTick (h : Hw) (n : Nat) : Hw :=
  if h.flag (SYS_CORE_CTRL n) SYS_CORE_CTRL.run && !h.flag (SYS_CLUSTER (n / 4)) SYS_CLUSTER.gated then
    { h with cores := h.cores.upd n fun c => { c with cycles := (c.cycles + 64) % (5 * 2 ^ 64) } }
  else h

/-- A cycle of the Time domain, with what else passes in it. -/
def Hw.timeTick (h : Hw) : Hw :=
  let h := h.vigilTick
  let h := if h.clocked 0x14 then h.calTick.pulseTick else h
  let h := if h.clocked 0x15 then h.ethTick else h
  let h := if h.pwr.power = .run then (List.range 8).foldl (fun h n => h.coreTick n) h else h
  if h.cfg.presetQueue.isEmpty then h.updCfg fun c => { c with presetBusy := none } else h

/-- The idle step of the block: a tick, with the last answer and output cleared. -/
def idle (s : State) : Host.Outcome State Fault Refusal := run s Hw.timeTick

end Sys2Proof.Machine
end

