-- ==== Sys2Proof/Safety.lean ====
section
/-! DEFINITION. The terms in which statements speak of the block: how a command completes, when a register access is permitted, what an access that
is turned away leaves alone, and which queues hold commands that a sender can form. -/

namespace Sys2Proof.Safety

open Sys2Proof.Machine Sys2Proof.Reg

/-- The device as a command finds it: the last answer and the last output are gone. -/
def cleared (h : Hw) : Hw := { h with bus := { h.bus with resp := .none, out := [] } }

/-- The state after an effect on the device; the queue of commands stays. -/
def after (s : State) (e : Hw → Hw) : State := { s with hw := e (cleared s.hw) }

/-- A command completes: it answers a next state whose queue is untouched and whose device is as `P` says. -/
def Completes (c : Instr) (s : State) (P : Hw → Prop) : Prop :=
  ∃ t, exec c s = .next t ∧ t.pending = s.pending ∧ P t.hw

/-- A write of a register is let through and taken at once: no bus error (R9, R20, R24, R37, R54), the view holds the register (R10), and
for a privileged write the staging queue has room (R56). -/
abbrev Permitted (h : Hw) (a : BusAcc) (k : Nat) : Prop :=
  h.busError a k true = false ∧ (a.sees k).isSome = true ∧ (a.unpriv = true ∨ h.stagingFull = false)

/-- A read of a register is let through: no bus error, the block's clock runs (R20), the view holds the register (R10). -/
abbrev Readable (h : Hw) (a : BusAcc) (k : Nat) : Prop :=
  h.busError a k false = false ∧ memb (k / 0x10000) h.pwr.stopped = false ∧ (a.sees k).isSome = true

/-- The low word that a write of a high word at `k` commits with it: the one that its master has written, else the register's (R11). -/
def heldLow (h : Hw) (m k : Nat) : Word := (h.bus.writeShadow.at (shadowKey m (k - 4))).getD (h.reg (k - 4))

/-- A request slot of the reservation engine holds a request of op `op` from memory, it is its turn, and its body reads as `body`
(R181, R183, R186). -/
abbrev Served (h : Hw) (op slot : Nat) (body : List Byte) : Prop :=
  (h.rsvSlot slot).op = op ∧ (h.rsvSlot slot).lathe = false ∧ (h.rsvSlot slot).phase = .queued ∧ h.slotTurn slot = true ∧
    h.readCtx (h.rsvSlot slot).ctx ((h.rsvSlot slot).addr + 32) (h.rsvSlot slot).bodyLength = .ok body

/-- What a request of a path asks (R181). -/
def askOf (q : RsvSlot) (body : List Byte) : RsvAsk :=
  ⟨q.op, q.robot, bit q.flags 2, q.arg, elemsOf q.count body, q.oldToken⟩

/-- The token that a commit into a token record gives: the record's next generation (R179). -/
def freshToken (h : Hw) (rec : Nat) : Nat :=
  (if (h.rsv.toks.at rec).gen ≥ 2 ^ 20 - 1 then 1 else (h.rsv.toks.at rec).gen + 1) * 4096 + rec

/-- A request slot's request has ended, or waits parked for its response to be written (R185, R193). -/
abbrev SlotOver (h : Hw) (slot : Nat) : Prop := (h.rsvSlot slot).phase = .free ∨ h.isParked (240 + slot) = true

/-- A fleet stop of a source has been taken: it is the reason, it is latched, and an armed sequencer is stopped and holds, its outputs off
(R265, R266, R272). -/
abbrev FleetStopped (old h : Hw) (src : Nat) : Prop :=
  h.f STP_STAT STP_STAT.reason = src ∧ bit (h.f STP_SRC_STAT STP_SRC_STAT.latched) src = true ∧
    (old.stpState = stpUnarmed → h.stpState = stpUnarmed) ∧
    (old.stpState ≠ stpUnarmed → h.stpState = stpStopped ∧ h.fleetHold = true ∧ h.stp.outsOn = false)

/-- The operation in a slot of Burl has a code, it is the oldest on its key slot and does not stand parked, and Burl is not locked
(R334–R336, R341). -/
abbrev Dispatchable (h : Hw) (q code : Nat) (o : BrlOp) : Prop :=
  h.brlOp q = some o ∧ o.op = code ∧ h.brlMayRun q o = true ∧ h.brlIsLocked = false

/-- The device with an operation of Burl under way. -/
def dispatched (h : Hw) (q : Nat) (o : BrlOp) : Hw := (h.unitNormal (brlUnit q)).setOp q (some { o with state := 2 })

/-- The key slot of an operation is of a class and holds a key whose uses are not counted (R327, R328). -/
abbrev UsesKey (h : Hw) (o : BrlOp) (cls : Nat) (key : List Byte) : Prop :=
  h.slotClass o.slot = cls ∧ h.keySlot o.slot = ⟨key, false, (h.keySlot o.slot).uses, (h.keySlot o.slot).margin, (h.keySlot o.slot).expire⟩ ∧
    key ≠ []

/-- The record that the update engine takes next, and the device without it: the one in hand, else its intake FIFO's next packet (R348). -/
def updNext (h : Hw) : Option (List Byte × Hw) :=
  match h.upd.inHand with
  | some r => some (r, h.updUpd fun u => { u with inHand := none })
  | none =>
    match h.takePacket (h.f UPD_CFG UPD_CFG.in_fifo) 512 with
    | some (p, _, g) => if p.abort then none else some (p.octets, g)
    | none => none

/-- A sound record of a type is next, on an update engine that runs and does not stand parked (R86, R343, R348). -/
abbrev UpdTakes (h : Hw) (row : Nat) (r : List Byte) (g : Hw) : Prop :=
  h.isParked updUnit = false ∧ updNext h = some (r, g) ∧ recordRow r = row ∧ g.flag UPD_CFG UPD_CFG.enable = true ∧
    g.upd.flashSmall = false ∧ recordSound r = true

/-- A device reset has taken place: its cause is shown, a cold boot is due, and flash holds what it held (R389–R391). -/
abbrev ResetDone (old h : Hw) (cause : Fld) : Prop :=
  h.flag SYS_RST_CAUSE cause = true ∧ h.pwr.bootDue = true ∧ h.pwr.warm = false ∧ h.pwr.power = .run ∧ h.pwr.stopped = [] ∧
    ∀ a, 0x0800000000 ≤ a → a < 0x0A00000000 → h.byteAt a = old.byteAt a

/-- The number of a wake's cause, where the event wakes: the WAKE pin enters its wake level, the alarm stands, CSn falls on a port in SPI mode, a
tamper has erased the keys (R378, R388). -/
def wakeNumber (h : Hw) : WakeCause → Option Nat
  | .pin high => if h.wakeAsserted = false ∧ high ≠ h.flag VGL_CFG VGL_CFG.wake_pol then some causeWake else none
  | .alarm => if h.alarmNow then some causeAlarm else none
  | .haCs => if h.f (HP_CFG 0) HP_CFG.mode = 1 then some causeHa else none
  | .hbCs => if h.f (HP_CFG 1) HP_CFG.mode = 1 then some causeHb else none
  | .tamper => if h.brl.erasedAsleep then some causeTamper else none

/-- The device is down, and no return is under way or due (R382, R385). -/
abbrev Down (h : Hw) : Prop :=
  h.pwr.power ≠ .run ∧ h.pwrState ≠ pwrEntering ∧ h.pwr.unpowered = false ∧ h.pwr.stayDown = false ∧ h.pwr.stage = .none ∧ h.pwr.retryDue = false

/-- A return has begun, with its causes (R385): in Sleep at the oscillator, else at the regulator. -/
abbrev Returning (h : Hw) (causes : Nat) : Prop :=
  h.pwr.causes = causes ∧ h.pwrState = pwrReturning ∧ h.pwr.stage = if h.pwr.power = .sleep then .oscillator else .regulator

/-- The device stands in the locked state with a halt reason (R394). -/
abbrev LockedWith (h : Hw) (halt : Nat) : Prop :=
  h.bootStage = 0xF ∧ h.f SYS_BOOT SYS_BOOT.halt = halt ∧ h.stpState = stpUnarmed ∧ h.stp.outsOn = false ∧
    h.flag SYS_SP_STAT SYS_SP_STAT.running = false ∧ h.flag (SYS_CORE_CTRL 0) SYS_CORE_CTRL.run = false

/-- The register access that a command is: the access, the word number, and whether it writes (R9, R54). Commands of other kinds are none. -/
def accessOf : Instr → Option (BusAcc × Nat × Bool)
  | .registerWrite via reg _ => some (viewAt via reg, regKey reg, true)
  | .lowWordRead via reg => some (viewAt via reg, regKey reg, false)
  | .lowWordWrite via reg _ => some (viewAt via reg, regKey reg, true)
  | .reloadGo via _ => some (via, CFG_RELOAD_CTRL, true)
  | .reloadAbort via _ => some (via, CFG_RELOAD_CTRL, true)
  | .presetSelect via f _ => some (via, CFG_PRESET_SEL f.val, true)
  | .semLockWrite via n _ => some (via, SEM_LOCK n.val, true)
  | .semForce via _ => some (via, SEM_FORCE, true)
  | .taskSubmit via _ => some (via, SPN_SUBMIT_HI, true)
  | .noticeArm via (.mbx ch) _ => some (via, MBX_NOTICE ch.val, true)
  | .noticeArm via (.smu c) _ => some (via, SMU_CTX_HANDLER c.val, true)
  | .noticeArm via (.stm f) _ => some (via, STM_NOTICE f.val, true)
  | .noticeArm via .gns _ => some (via, GNS_REC_NOTICE, true)
  | .noticeArm via (.obs r) _ => some (via, OBS_RBT_NOTICE (r.val + 1), true)
  | .taskSaved via _ => some (via, SPN_SAVED, true)
  | .coreDeliverDisable via n => some (via, SPN_CORE_EN n.val, true)
  | .smuInvalidate via _ _ => some (via, SMU_INVAL, true)
  | .unitResume via u => some (via, SMU_UNIT u.val, true)
  | .unitAbort via u => some (via, SMU_UNIT u.val, true)
  | .dmaStart via c _ => some (via, DMA_CH_START_HI c.val, true)
  | .mbxPost via c _ => some (via, MBX_POST_HI c.val, true)
  | .mbxDbRing via c _ => some (via, MBX_DB_RING c.val, true)
  | .stmPush via f _ => some (via, STM_PUSH f.val, true)
  | .stmCommit via f _ _ => some (via, STM_COMMIT f.val, true)
  | .stmCommitStart via f _ _ => some (via, STM_COMMIT f.val, true)
  | .stmCommitAbort via f => some (via, STM_COMMIT f.val, true)
  | .stmFlush via f => some (via, STM_CTRL f.val, true)
  | .stmSkip via f => some (via, STM_CTRL f.val, true)
  | .acqRequest via _ => some (via, GNS_ACQ_REQ, true)
  | .referenceRestore via => some (via, GNS_CTRL, true)
  | .jobSubmit via _ => some (via, MTX_SUBMIT_HI, true)
  | .bufferRelease via r _ => some (via, OBS_RBT_CTRL r.val, true)
  | .forceFull via r => some (via, OBS_RBT_CTRL r.val, true)
  | .robotReset via r => some (via, FIX_RBT_CTRL r.val, true)
  | .graphLoad via _ _ => some (via, RSV_GRAPH_HI, true)
  | .rsvSubmit via _ => some (via, RSV_SUBMIT_HI, true)
  | .rsvRevoke via _ => some (via, RSV_REVOKE, true)
  | .tokenQuery via _ => some (via, RSV_TOKQ, true)
  | .enable via n => some (via, AXL_AX_CMD n.val, true)
  | .disable via n => some (via, AXL_AX_CMD n.val, true)
  | .moveAbs via n => some (via, AXL_AX_CMD n.val, true)
  | .moveRel via n => some (via, AXL_AX_CMD n.val, true)
  | .jog via n => some (via, AXL_AX_CMD n.val, true)
  | .halt via n => some (via, AXL_AX_CMD n.val, true)
  | .home via n => some (via, AXL_AX_CMD n.val, true)
  | .setPos via n => some (via, AXL_AX_CMD n.val, true)
  | .follow via n => some (via, AXL_AX_CMD n.val, true)
  | .release via n => some (via, AXL_AX_CMD n.val, true)
  | .groupGo via g _ => some (via, AXL_GRP_CFG g.val, true)
  | .groupHalt via g _ => some (via, AXL_GRP_CFG g.val, true)
  | .fleetStopCommand via _ => some (via, STP_CMD_TAG_HI, true)
  | .targetedStopCommand via _ => some (via, STP_CMD_TAG_HI, true)
  | .releaseCommand via _ => some (via, STP_CMD_TAG_HI, true)
  | .arm via => some (via, STP_CTRL, true)
  | .resync via => some (via, EQX_CTRL, true)
  | .handover via => some (via, EQX_CTRL, true)
  | .clearFault via => some (via, EQX_CTRL, true)
  | .incrementWrite via _ => some (via, CAL_INC_INT, true)
  | .step via _ => some (via, CAL_STEP_HI, true)
  | .unset via => some (via, CAL_CTRL, true)
  | .offsetIn via _ => some (via, CAL_OFS_IN, true)
  | .triggerArm via t _ => some (via, CAL_TRIG_CFG t.val, true)
  | .triggerCancel via t _ => some (via, CAL_TRIG_CFG t.val, true)
  | .pulseConfig via k _ => some (via, MTR_PULSE_CFG k.val, true)
  | .meterDisable via => some (via, MTR_CFG, true)
  | .provisioningClose via _ => some (via, BRL_PROV, true)
  | .estateWrite via _ => some (via, BRL_ESTATE_HI, true)
  | .cryptoSubmit via _ => some (via, BRL_SUBMIT_HI, true)
  | .debugChallenge via => some (via, BRL_CTRL, true)
  | .debugAnswer via _ => some (via, BRL_DBG_ANS 15, true)
  | .activate via _ => some (via, UPD_CTRL, true)
  | .confirm via _ => some (via, UPD_CTRL, true)
  | .rollback via _ => some (via, UPD_CTRL, true)
  | .abandon via _ => some (via, UPD_CTRL, true)
  | .recovery via _ => some (via, UPD_CTRL, true)
  | .updVerify via => some (via, UPD_CTRL, true)
  | .recoveryRecord (.word via _) => some (via, UPD_RCV_DATA, true)
  | .close via => some (via, ALM_CTRL, true)
  | .logClear via _ => some (via, ALM_CLR_TAG_HI, true)
  | .post via _ => some (via, ALM_POST_ARG 2, true)
  | .enterSleep via => some (via, PWR_CTRL, true)
  | .enterDeepSleep via => some (via, PWR_CTRL, true)
  | .enterOff via => some (via, PWR_CTRL, true)
  | .powerAbort via => some (via, PWR_CTRL, true)
  | .watchdogKick via => some (via, VGL_WDOG, true)
  | .softwareReset via _ => some (via, SYS_RST_CTRL, true)
  | .coreReset via n => some (via, SYS_CORE_CTRL n.val, true)
  | .coreRelease via n => some (via, SYS_CORE_CTRL n.val, true)
  | .ddrInit via _ => some (via, DDR_INIT, true)
  | .semLockRead via n => some (via, SEM_LOCK n.val, false)
  | .faultPop via => some (via, SMU_FAULT_POP_LO, false)
  | .mbxRecv via c => some (via, MBX_RECV_LO c.val, false)
  | .mbxChLockRead via c => some (via, MBX_CH_LOCK c.val, false)
  | .stmPop via f => some (via, STM_POP f.val, false)
  | .fixTblSnapshot via r => some (via, FIX_TBL r.val 0, false)
  | .timeSnapshot via => some (via, CAL_TIME_NS, false)
  | .tsqPop via => some (via, CAL_TSQ_ID, false)
  | .harmSnapshot via c => some (via, MTR_HARM c.val 0, false)
  | .reportSnapshot via => some (via, HLT_REPORT 0, false)
  | _ => none

/-- The state after `n` steps, where each answers a next state. -/
def drain : Nat → State → Option State
  | 0, s => some s
  | n + 1, s =>
    match step s with
    | .next t => drain n t
    | _ => none

/-- Site time as Calends counts it, in 2^-32 ns (R285, R286). -/
def siteTotal (h : Hw) : Nat := (h.cal.sec * 1000000000 + h.cal.ns) * 2 ^ 32 + h.cal.frac

/-- A register of a block (windows 0x02, 0x03, 0x0F, 0x11, 0x15, 0x1C and 0x1E) in which a write starts nothing more: no half of a 64-bit pair, no
calibration field. -/
abbrev PlainReg (k : Nat) (r : RegDef) : Prop :=
  regFind k = some r ∧ r.lowWord = false ∧ lowWordOf k = none ∧ k / 0x10000 ∈ [0x02, 0x03, 0x0F, 0x11, 0x15, 0x1C, 0x1E] ∧
    (∀ p ∈ calFields, p.1 ≠ k)

/-- Every waiting command is well formed. -/
def QueueOk (s : State) : Prop := ∀ c ∈ s.pending, WellFormed c = true

end Sys2Proof.Safety
end

