-- ==== Sys2Proof/Certificates/Slice0/Obligations.lean ====
section
/-! DEFINITION. Statements for the provers. -/

section

open Sys2Proof Sys2Proof.Machine Sys2Proof.Reg Sys2Proof.Safety

/-- Register accesses of the plain kinds complete (R9–R15, R19): a permitted write of a register in a block whose writes start nothing stores what the
access types and the lock rule leave; a read of a low word shows the word and takes the high word for the reader; a low-word write is held for its
master and changes no register; a waiting write of the Vigil block takes effect. -/
def Obligations.RegisterCommandsComplete : Prop :=
  (∀ (s : State) (via : BusAcc) (reg : BitVec 21) (v : Word) (r : RegDef),
    Permitted s.hw (viewAt via reg) (regKey reg) → regFind (regKey reg) = some r → r.lowWord = false →
    lowWordOf (regKey reg) = none → regKey reg / 0x10000 ∈ [0x02, 0x03, 0x0F, 0x11, 0x15, 0x1C, 0x1E] →
    (∀ p ∈ calFields, p.1 ≠ regKey reg) →
    Completes (.registerWrite via reg v) s fun h =>
      h.reg (regKey reg) =
        clearWraps (regKey reg) v (wordWrite (s.hw.locked (regKey reg)) (s.hw.reg (regKey reg)) v (writeFields (regKey reg) r)) ∧
      h.bus.resp = .done) ∧
  (∀ (s : State) (via : BusAcc) (reg : BitVec 21) (r : RegDef),
    Readable s.hw (viewAt via reg) (regKey reg) → regFind (regKey reg) = some r → r.lowWord = true →
    mbxChOf (regKey reg) = none → Hw.readOp (viewAt via reg) (regKey reg) = none →
    Completes (.lowWordRead via reg) s fun h =>
      h.readShadow via.master.num (regKey reg + 4) = some ((cleared s.hw).view via.master.num (regKey reg + 4)) ∧
      h.bus.resp = .data [((cleared s.hw).readShadow via.master.num (regKey reg)).getD
        ((cleared s.hw).view via.master.num (regKey reg))]) ∧
  (∀ (s : State) (via : BusAcc) (reg : BitVec 21) (v : Word) (r : RegDef),
    Permitted s.hw (viewAt via reg) (regKey reg) → regFind (regKey reg) = some r → r.lowWord = true →
    mbxChOf (regKey reg) = none → hwRetention (regKey reg) = false →
    Completes (.lowWordWrite via reg v) s fun h =>
      h.bus.writeShadow.at (shadowKey via.master.num (regKey reg)) = some v ∧ h.bus.resp = .done ∧ h.regs = s.hw.regs) ∧
  (∀ (s : State) (k : Nat) (v : Word) (rest : List (Nat × Word)) (r : RegDef),
    s.hw.pwr.vglWrites = (k, v) :: rest → regFind k = some r → r.lowWord = false →
    Completes .vglWriteEffect s fun h =>
      h.reg k = clearWraps k v (wordWrite (s.hw.locked k) (s.hw.reg k) v (writeFields k r)) ∧ h.pwr.vglWrites = rest)

/-- The fabric, resets of a master, lines and debug complete (R27, R29, R34, R38, R43, R374): after a master's reset it holds no mailbox lock and no
host semaphore; a promoted requester stands one class higher; an asserted line that is routed to one core above its running level is
taken there; a halted application core is halted; a fault of a class that is only counted is counted and shown; a retirement that waited
begins the copy of its SRAM bank to the free spare. -/
def Obligations.FabricCommandsComplete : Prop :=
  (∀ (s : State) (m : Master), Completes (.masterReset m) s fun h =>
    (∀ ch, ch < 32 → h.f (MBX_CH_LOCK ch) MBX_CH_LOCK.owner ≠ m.num) ∧ (∀ n, n < 16 → h.f (SEM_LOCK n) SEM_LOCK.owner ≠ m.num)) ∧
  (∀ (s : State) (who : Requester), s.hw.classOf who < 3 → Completes (.fabricPromotion who) s fun h =>
    h.classOf who = s.hw.classOf who + 1) ∧
  (∀ (s : State) (line : Fin 224) (n : Fin 8),
    s.hw.lineLevel line.val = true → s.hw.flag (CFG_IRQ_ROUTE line.val) CFG_IRQ_ROUTE.enable = true →
    s.hw.flag (CFG_IRQ_ROUTE line.val) CFG_IRQ_ROUTE.sp = false → s.hw.f (CFG_IRQ_ROUTE line.val) CFG_IRQ_ROUTE.cores = 2 ^ n.val →
    s.hw.flag (SPN_CORE_EN n.val) SPN_CORE_EN.in_service = true →
    s.hw.runLevel n.val < s.hw.f (CFG_IRQ_ROUTE line.val) CFG_IRQ_ROUTE.level →
    Completes (.deviceInterrupt line) s fun h =>
      (h.cores.at n.val).taken =
        (line.val, s.hw.f (CFG_IRQ_ROUTE line.val) CFG_IRQ_ROUTE.level) :: (s.hw.cores.at n.val).taken) ∧
  (∀ (s : State) (n : Fin 8), s.hw.debugOpen = true → (s.hw.cores.at n.val).halted = false →
    Completes (.debugHalt (.ac n)) s fun h => (h.cores.at n.val).halted = true) ∧
  (∀ (s : State) (cls : Fin 15) (inst : Fin 512) (kind : Word) (failed : Bool), 9 ≤ cls.val →
    s.hw.f HLT_ERR HLT_ERR.transient < HLT_ERR.transient.max →
    Completes (.transientFault cls inst kind failed) s fun h =>
      h.f HLT_ERR HLT_ERR.transient = s.hw.f HLT_ERR HLT_ERR.transient + 1 ∧ h.flag HLT_IRQ_STAT HLT_IRQ_STAT.transient = true) ∧
  (∀ (s : State) (b spare : Nat) (rest : List Retire), s.hw.hlt.queue = ⟨1, b⟩ :: rest → s.hw.hlt.migrating = none →
    s.hw.hlt.bankMap = [] → s.hw.hlt.spareBank = some spare → spare ≠ b → s.hw.isRetired 1 spare = false →
    Completes .retirementNext s fun h => h.hlt.migrating = some (b, spare) ∧ h.hlt.queue = rest)

/-- Reloads and presets complete (R48, R49, R53, R56): go starts verification of its partition; abort, the time limit and a failed
verification end the reload with their error; a verified image waits for its boundary; at the boundary the reload is done; a
preset that exists keeps its function busy and unmodified, at once or after the one before it; a record of the staging queue
drains where the write buffer has room. -/
def Obligations.ReloadCommandsComplete : Prop :=
  (∀ (s : State) (via : BusAcc) (v : Word), Permitted s.hw via CFG_RELOAD_CTRL → s.hw.reloadBusy = false →
    1 ≤ CFG_RELOAD_CTRL.partition.get v → CFG_RELOAD_CTRL.partition.get v ≤ 8 → s.hw.f PWR_STAT PWR_STAT.state = 0 →
    Completes (.reloadGo via v) s fun h =>
      h.rlState = rlVerifying ∧ h.rlPart = CFG_RELOAD_CTRL.partition.get v ∧ h.f CFG_RELOAD_STAT CFG_RELOAD_STAT.error = 0) ∧
  (∀ (s : State) (via : BusAcc) (v : Word), Permitted s.hw via CFG_RELOAD_CTRL →
    (s.hw.rlState = rlVerifying ∨ s.hw.rlState = rlWaiting) → CFG_RELOAD_CTRL.go.get v = 0 →
    Completes (.reloadAbort via v) s fun h =>
      h.rlState = rlFailed ∧ h.f CFG_RELOAD_STAT CFG_RELOAD_STAT.error = 0x0B ∧ h.flag CFG_RELOAD_STAT CFG_RELOAD_STAT.done = true) ∧
  (∀ (s : State) (img : Image), s.hw.rlState = rlVerifying → (cleared s.hw).verifyError img = 0 →
    Completes (.reloadVerified img) s fun h => h.rlState = rlWaiting ∧ h.cfg.candidate = some img) ∧
  (∀ (s : State) (img : Image), s.hw.rlState = rlVerifying → (cleared s.hw).verifyError img ≠ 0 →
    Completes (.reloadVerified img) s fun h =>
      h.rlState = rlFailed ∧ h.f CFG_RELOAD_STAT CFG_RELOAD_STAT.error = (cleared s.hw).verifyError img % 256) ∧
  (∀ (s : State) (img : Image), s.hw.rlState = rlWaiting → s.hw.cfg.candidate = some img →
    (cleared s.hw).atReloadBoundary s.hw.rlPart (imagePart img s.hw.rlPart) = true →
    Completes .reloadApply s fun h =>
      h.rlState = rlDone ∧ h.f CFG_RELOAD_STAT CFG_RELOAD_STAT.error = 0 ∧ h.cfg.candidate = none) ∧
  (∀ s : State, s.hw.rlState = rlVerifying ∨ s.hw.rlState = rlWaiting →
    Completes .reloadTimeout s fun h =>
      h.rlState = rlFailed ∧ h.f CFG_RELOAD_STAT CFG_RELOAD_STAT.error = 0x08 ∧ h.cfg.candidate = none) ∧
  (∀ (s : State) (via : BusAcc) (f : Fin 32) (v : Word), f.val < 21 → Permitted s.hw via (CFG_PRESET_SEL f.val) →
    s.hw.cfg.presetBusy = none →
    ((s.hw.presetOf f.val (CFG_PRESET_SEL.preset.get v)).filter fun p => p.name.any (· ≠ 0)).isSome = true →
    Completes (.presetSelect via f v) s fun h =>
      h.cfg.presetBusy = some f.val ∧ h.flag (CFG_PRESET_SEL f.val) CFG_PRESET_SEL.modified = false) ∧
  (∀ (s : State) (f n m : Nat) (q : List (Nat × Nat × Nat)), s.hw.cfg.presetQueue = (f, n, m) :: q →
    ((s.hw.presetOf f n).filter fun p => p.name.any (· ≠ 0)).isSome = true →
    Completes .presetQueuedApply s fun h =>
      h.cfg.presetBusy = some f ∧ h.flag (CFG_PRESET_SEL f) CFG_PRESET_SEL.modified = false) ∧
  (∀ (s : State) (r : AlmRec) (rs : List AlmRec), s.hw.bus.staging = r :: rs → s.hw.alm.room = true → s.hw.bus.waiting = [] →
    Completes .stagingDrain s fun h => h.bus.staging = rs)

/-- The host ports' commands complete (R58–R61, R85): a port reset of the port's own mode shows link_down; a link that comes up shows L0, its speed and
width; a one-word BAR 0 read answers the register's word and a one-word BAR 2 write stores its octets where the context's table says. -/
def Obligations.PciePortCommandsComplete : Prop :=
  (∀ (s : State) (p : Port) (c : PortCause),
    (s.hw.portMode (portNum p) = modePcie ∧ c ∈ [PortCause.linkDown, .hotReset, .functionReset] ∨
      s.hw.portMode (portNum p) = modeSpi ∧ c ∈ [PortCause.spiWatchdog, .spiReset]) →
    Completes (.portReset p c) s fun h =>
      h.flag (HP_IRQ_STAT (portNum p)) HP_IRQ_STAT.link_down = true ∧
      h.f (HP_LINK (portNum p)) HP_LINK.down_count = min 255 (s.hw.f (HP_LINK (portNum p)) HP_LINK.down_count + 1) ∧
      (c ≠ .functionReset → h.f (HP_LINK (portNum p)) HP_LINK.state = if c = .spiWatchdog then 5 else 0)) ∧
  (∀ (s : State) (p : Port) (speed : PcieSpeed) (two : Bool), s.hw.portMode (portNum p) = modePcie →
    Completes (.pcieLinkUp p speed two) s fun h =>
      h.f (HP_LINK (portNum p)) HP_LINK.state = 2 ∧ h.f (HP_LINK (portNum p)) HP_LINK.speed = speedCode speed ∧
      h.f (HP_LINK (portNum p)) HP_LINK.width = (if two then 2 else 1) ∧ h.flag (HP_IRQ_STAT (portNum p)) HP_IRQ_STAT.link_up = true) ∧
  (∀ (s : State) (p : Port) (o : BitVec 21) (r : RegDef), s.hw.endpointUp (portNum p) = true →
    Readable s.hw (portAcc p o.toNat) (regKey o) → regFind (regKey o) = some r → r.lowWord = false → mbxChOf (regKey o) = none →
    Hw.readOp (portAcc p o.toNat) (regKey o) = none →
    Completes (.bar0Request p o (.read 1) true) s fun h =>
      h.bus.resp = .data [((cleared s.hw).readShadow (portMaster p).num (regKey o)).getD
        ((cleared s.hw).view (portMaster p).num (regKey o))]) ∧
  (∀ (s : State) (p : Port) (o : BitVec 34) (w : Word) (pa : Nat) (h' : Hw), s.hw.endpointUp (portNum p) = true →
    s.hw.f (HP_CFG (portNum p)) HP_CFG.bar2_log2 ≠ 0 → o.toNat < 2 ^ s.hw.f (HP_CFG (portNum p)) HP_CFG.bar2_log2 →
    o.toNat % 4096 ≤ 4092 → (cleared s.hw).translate (s.hw.f (HP_CFG (portNum p)) HP_CFG.ctx) o.toNat true = .ok pa →
    isRegSpace pa = false → (cleared s.hw).writePhys pa (leBytes 4 w.toNat) = some h' →
    Completes (.bar2Request p o (.write [w])) s fun h => h.bus.resp = .done ∧ h.mem = h'.mem)

/-- The SPI target's commands complete (R60, R61): a write and a read of one word of memory leave the port active and show the word; a read
that takes too long ends in 0xE1; the status octet tells of interrupt, failed frame, CRC error and watchdog; 0x99 right after
0x66 resets the target; the watchdog's expiry shows in the link's state. -/
def Obligations.SpiCommandsComplete : Prop :=
  (∀ (s : State) (p : Port) (a : BitVec 40) (w : Word) (crc : Bool) (h' : Hw), s.hw.portMode (portNum p) = modeSpi →
    (s.hw.flag (HP_SPI_CFG (portNum p)) HP_SPI_CFG.crc_en = true → crc = true) → isRegSpace a.toNat = false →
    (cleared s.hw).writePhys a.toNat (leBytes 4 w.toNat) = some h' →
    Completes (.spiWrite p a [w] crc) s fun h =>
      h.mem = h'.mem ∧ h.f (HP_LINK (portNum p)) HP_LINK.state = 4 ∧ h.reg (HP_SPI_LAST_DATA (portNum p)) = w) ∧
  (∀ (s : State) (p : Port) (a : BitVec 40) (bs : List Byte), s.hw.portMode (portNum p) = modeSpi → isRegSpace a.toNat = false →
    s.hw.readPhys a.toNat 4 = some bs →
    Completes (.spiRead p a 0) s fun h =>
      h.reg (HP_SPI_LAST_DATA (portNum p)) = BitVec.ofNat 32 (leNat bs) ∧ h.f (HP_LINK (portNum p)) HP_LINK.state = 4 ∧
      ∃ out, h.bus.resp = .octets out) ∧
  (∀ (s : State) (p : Port) (a : BitVec 40) (bs : List Byte), s.hw.portMode (portNum p) = modeSpi → isRegSpace a.toNat = false →
    s.hw.readPhys a.toNat 4 = some bs →
    Completes (.spiWaitTimeout p a 0) s fun h =>
      h.reg (HP_SPI_LAST_DATA (portNum p)) = BitVec.ofNat 32 (leNat bs) ∧
      h.bus.resp = .octets (List.replicate (s.hw.waitMax (portNum p)) 0xFF ++ [0xE1])) ∧
  (∀ (s : State) (p : Port), s.hw.portMode (portNum p) = modeSpi →
    Completes (.spiStatus p) s fun h =>
      h.bus.resp = .octets [BitVec.ofNat 8 ((s.hw.irqnAsserted (portNum p)).toNat + (s.hw.hosts.at (portNum p)).lastFailed.toNat * 2 +
        (s.hw.hosts.at (portNum p)).crcSeen.toNat * 4 + (s.hw.hosts.at (portNum p)).wdogSeen.toNat * 8)] ∧
      (h.hosts.at (portNum p)).wdogSeen = false) ∧
  (∀ (s : State) (p : Port), s.hw.portMode (portNum p) = modeSpi →
    Completes (.spiResetEnable p) s fun h =>
      (h.hosts.at (portNum p)).resetArmed = true ∧ h.f (HP_LINK (portNum p)) HP_LINK.state = 4) ∧
  (∀ (s : State) (p : Port), s.hw.portMode (portNum p) = modeSpi →
    Completes (.spiReset p) s fun h =>
      (h.hosts.at (portNum p)).resetArmed = false ∧
      h.f (HP_LINK (portNum p)) HP_LINK.state = if (s.hw.hosts.at (portNum p)).resetArmed then 0 else 4) ∧
  (∀ (s : State) (p : Port), s.hw.portMode (portNum p) = modeSpi → s.hw.f (HP_SPI_CFG (portNum p)) HP_SPI_CFG.wdog_ms ≠ 0 →
    s.hw.f (HP_LINK (portNum p)) HP_LINK.state ≠ 5 →
    Completes (.spiWatchdogExpiry p) s fun h =>
      h.f (HP_LINK (portNum p)) HP_LINK.state = 5 ∧ (h.hosts.at (portNum p)).wdogSeen = true ∧
      h.flag (HP_IRQ_STAT (portNum p)) HP_IRQ_STAT.wdog = true)

/-- A host semaphore is acquired by the read that finds it free, reports its owner to every other read, is released by its owner's write of 0,
keeps its owner under any other write, which counts, and is freed by the key 0x5E3A (R62, R63). -/
def Obligations.SemaphoreCommandsComplete : Prop :=
  (∀ (s : State) (via : BusAcc) (n : Fin 16), Readable s.hw via (SEM_LOCK n.val) → s.hw.f (SEM_LOCK n.val) SEM_LOCK.owner = 0 →
    Completes (.semLockRead via n) s fun h =>
      h.f (SEM_LOCK n.val) SEM_LOCK.owner = via.master.num ∧ h.bus.resp = .data [0] ∧ h.semSince.at n.val = s.hw.now) ∧
  (∀ (s : State) (via : BusAcc) (n : Fin 16), Readable s.hw via (SEM_LOCK n.val) → s.hw.f (SEM_LOCK n.val) SEM_LOCK.owner ≠ 0 →
    Completes (.semLockRead via n) s fun h =>
      h.regs = s.hw.regs ∧ h.bus.resp = .data [s.hw.reg (SEM_LOCK n.val)]) ∧
  (∀ (s : State) (via : BusAcc) (n : Fin 16) (v : Word), Permitted s.hw via (SEM_LOCK n.val) →
    Completes (.semLockWrite via n v) s fun h =>
      h.f (SEM_LOCK n.val) SEM_LOCK.owner =
        if v = 0 ∧ s.hw.f (SEM_LOCK n.val) SEM_LOCK.owner = via.master.num then 0 else s.hw.f (SEM_LOCK n.val) SEM_LOCK.owner) ∧
  (∀ (s : State) (via : BusAcc) (n : Fin 16) (v : Word), Permitted s.hw via (SEM_LOCK n.val) →
    ¬(v = 0 ∧ s.hw.f (SEM_LOCK n.val) SEM_LOCK.owner = via.master.num) →
    Completes (.semLockWrite via n v) s fun h =>
      h.f SEM_ERR SEM_ERR.last_master = via.master.num ∧ h.f SEM_ERR SEM_ERR.last_index = n.val) ∧
  (∀ (s : State) (via : BusAcc) (v : Word), Permitted s.hw via SEM_FORCE → SEM_FORCE.key.get v = 0x5E3A →
    Completes (.semForce via v) s fun h => h.f (SEM_LOCK (SEM_FORCE.index.get v)) SEM_LOCK.owner = 0)

/-- A mailbox channel's commands complete for a master bound to a side (R90–R94): a post appends its message for the other side where
fewer than 8 wait, and is refused and counted where 8 do; a receive takes the oldest; the channel lock goes to the reader that finds
it free; a ring sets bits in the other side's doorbell word. -/
def Obligations.MailboxCommandsComplete : Prop :=
  (∀ (s : State) (via : BusAcc) (ch : Fin 32) (hi : Word) (b : Bool), s.hw.busError via (MBX_POST_HI ch.val) true = false →
    s.hw.mbxSide ch.val via.master.num = some b → Permitted s.hw via (sideReg (MBX_POST_HI ch.val) b) →
    ((s.hw.mbx.at ch.val).inbound !b).length < 8 →
    Completes (.mbxPost via ch hi) s fun h =>
      ∃ p, (h.mbx.at ch.val).inbound (!b) = (s.hw.mbx.at ch.val).inbound (!b) ++ [(p, MBX_POST_HI.tag.get hi)] ∧
        p / 2 ^ 32 = MBX_POST_HI.ptr_hi.get hi) ∧
  (∀ (s : State) (via : BusAcc) (ch : Fin 32) (hi : Word) (b : Bool), s.hw.busError via (MBX_POST_HI ch.val) true = false →
    s.hw.mbxSide ch.val via.master.num = some b → Permitted s.hw via (sideReg (MBX_POST_HI ch.val) b) →
    8 ≤ ((s.hw.mbx.at ch.val).inbound !b).length →
    Completes (.mbxPost via ch hi) s fun h =>
      h.mbx = s.hw.mbx ∧ h.flag (sideReg (MBX_QSTAT ch.val) b) MBX_QSTAT.last_refused = true) ∧
  (∀ (s : State) (via : BusAcc) (ch : Fin 32) (b : Bool) (p t : Nat) (q : List (Nat × Nat)), Readable s.hw via (MBX_RECV_LO ch.val) →
    s.hw.mbxSide ch.val via.master.num = some b → (s.hw.mbx.at ch.val).inbound b = (p, t) :: q →
    Completes (.mbxRecv via ch) s fun h =>
      (h.mbx.at ch.val).inbound b = q ∧ (h.mbx.at ch.val).inbound (!b) = (s.hw.mbx.at ch.val).inbound (!b) ∧
      h.bus.resp = .data [BitVec.ofNat 32 (p / 8 * 8)]) ∧
  (∀ (s : State) (via : BusAcc) (ch : Fin 32) (b : Bool), Readable s.hw via (MBX_CH_LOCK ch.val) →
    s.hw.mbxSide ch.val via.master.num = some b → s.hw.f (MBX_CH_LOCK ch.val) MBX_CH_LOCK.owner = 0 →
    Completes (.mbxChLockRead via ch) s fun h =>
      h.f (MBX_CH_LOCK ch.val) MBX_CH_LOCK.owner = via.master.num ∧ h.bus.resp = .data [0]) ∧
  (∀ (s : State) (via : BusAcc) (ch : Fin 32) (bits : Word) (b : Bool), s.hw.busError via (MBX_DB_RING ch.val) true = false →
    s.hw.mbxSide ch.val via.master.num = some b → Permitted s.hw via (sideReg (MBX_DB_RING ch.val) b) →
    Completes (.mbxDbRing via ch bits) s fun h =>
      h.reg (sideReg (MBX_DB_STAT ch.val) !b) = s.hw.reg (sideReg (MBX_DB_STAT ch.val) !b) ||| bits)

/-- Spindle's commands complete (R67, R68, R70–R73, R75): a submission with dependences takes a usable slot and waits for as many tokens; a token
of several leaves one fewer; a task whose affinity window ends is offered to the core that steals it; the core that reads SPN_SELF
runs the task offered; a saved task is marked as resumed and its core saves it no more; a task that ends leaves its core and, with no
spilled task to load, its slot free; a core that delivers no more holds no offer; a task still saving after 100 µs is a counted fault. -/
def Obligations.SpindleCommandsComplete : Prop :=
  (∀ (s : State) (via : BusAcc) (hi : Word) (d : List Byte) (slot : Nat), Permitted s.hw via SPN_SUBMIT_HI →
    s.hw.readPhys (SPN_SUBMIT_LO.addr_lo.get (heldLow s.hw via.master.num SPN_SUBMIT_HI) * 32 + SPN_SUBMIT_HI.addr_hi.get hi * 2 ^ 32) 32 =
      some d →
    s.hw.taskDescOk d = true → fieldAt d 16 2 ≠ 0 → s.hw.usableSlot (fieldAt d 20 1) = some slot →
    Completes (.taskSubmit via hi) s fun h =>
      (h.task slot).state = .waiting ∧ (h.task slot).count = fieldAt d 16 2 ∧ (h.task slot).gen = nextGen (s.hw.task slot).gen ∧
      h.spn.results.at via.master.num = spnResult 0 (h.handleOf slot)) ∧
  (∀ (s : State) (hd : BitVec 16) (err : Bool) (slot : Nat), s.hw.handleSlot hd.toNat = some slot → 1 < (s.hw.task slot).count →
    Completes (.tokenPost hd err) s fun h =>
      (h.task slot).count = (s.hw.task slot).count - 1 ∧ (h.task slot).errIn = ((s.hw.task slot).errIn || err) ∧
      (h.task slot).state = (s.hw.task slot).state) ∧
  (∀ (s : State) (slot : Fin 512) (n : Nat), (s.hw.task slot.val).state = .ready → s.hw.stealTarget slot.val = some n →
    Completes (.affinityWindowExpiry slot) s fun h =>
      (h.spnCore n).offer = some slot.val ∧ (h.task slot.val).state = .offered) ∧
  (∀ (s : State) (core : Fin 8) (slot : Nat), Readable s.hw (coreAcc core) SPN_SELF → (s.hw.spnCore core.val).offer = some slot →
    Completes (.taskAccept core) s fun h =>
      (h.spnCore core.val).running = some slot ∧ (h.spnCore core.val).offer = none ∧ (h.task slot).state = .running ∧
      (h.task slot).lastCore = core.val) ∧
  (∀ (s : State) (via : BusAcc) (hd : BitVec 16) (slot : Nat), Permitted s.hw via SPN_SAVED → s.hw.handleSlot hd.toNat = some slot →
    (s.hw.task slot).state = .saving →
    Completes (.taskSaved via hd) s fun h =>
      (h.task slot).resumed = true ∧ slot ∉ (h.spnCore (s.hw.task slot).lastCore).saving) ∧
  (∀ (s : State) (slot : Fin 512), (s.hw.task slot.val).state = .saving → s.hw.faultsIn 0 (s.hw.task slot.val).lastCore < 7 →
    s.hw.f HLT_ERR HLT_ERR.transient < HLT_ERR.transient.max →
    Completes (.savingTimeout slot) s fun h =>
      h.f HLT_ERR HLT_ERR.transient = s.hw.f HLT_ERR HLT_ERR.transient + 1 ∧ h.flag HLT_IRQ_STAT HLT_IRQ_STAT.transient = true) ∧
  (∀ (s : State) (core : Fin 8) (hd : BitVec 16) (err : Bool) (slot : Nat), Permitted s.hw (coreAcc core) SPN_DONE →
    s.hw.handleSlot hd.toNat = some slot → (s.hw.task slot).state = .running → (s.hw.spnCore core.val).running = some slot →
    Completes (.taskDone core hd err) s fun h => (h.spnCore core.val).running = none) ∧
  (∀ (s : State) (via : BusAcc) (core : Fin 8), Permitted s.hw via (SPN_CORE_EN core.val) →
    Completes (.coreDeliverDisable via core) s fun h =>
      (h.spnCore core.val).offer = none ∧ h.flag (SPN_CORE_EN core.val) SPN_CORE_EN.deliver = false)

/-- A write of a handle to a notice register arms it, or, where a notice is pending and the handle names a waiting task, ends with nothing
pending and nothing armed (R69). -/
def Obligations.NoticeArmCompletes : Prop :=
  (∀ (s : State) (via : BusAcc) (reg : NoticeReg) (hd : BitVec 16), (∀ ch, reg ≠ .mbx ch) →
    Permitted s.hw via (noticeKey via s.hw reg) →
    ¬(s.hw.namesWaiting hd.toNat = true ∧ s.hw.flag (noticeKey via s.hw reg) noticePending = true) →
    Completes (.noticeArm via reg hd) s fun h => h.f (noticeKey via s.hw reg) noticeHandle = hd.toNat) ∧
  (∀ (s : State) (via : BusAcc) (reg : NoticeReg) (hd : BitVec 16), (∀ ch, reg ≠ .mbx ch) →
    Permitted s.hw via (noticeKey via s.hw reg) → hd ≠ 0 → s.hw.namesWaiting hd.toNat = true →
    s.hw.flag (noticeKey via s.hw reg) noticePending = true →
    Completes (.noticeArm via reg hd) s fun h =>
      h.f (noticeKey via s.hw reg) noticeHandle = 0 ∧ h.flag (noticeKey via s.hw reg) noticePending = false)

/-- The System Memory Unit's commands complete (R78, R79, R86): an invalidation with none running starts with its scope and page; its end drops
what its scope covers and clears busy, or begins the one queued; a fault queues its record and parks its unit with kind and context;
a pop takes the oldest record; a resume leaves the unit resuming; an abort and the park time limit leave it normal. -/
def Obligations.SmuCommandsComplete : Prop :=
  (∀ (s : State) (via : BusAcc) (scope : Fin 4) (ctx : Fin 64), Permitted s.hw via SMU_INVAL → s.hw.flag SMU_INVAL SMU_INVAL.busy = false →
    Completes (.smuInvalidate via scope ctx) s fun h =>
      h.flag SMU_INVAL SMU_INVAL.busy = true ∧ h.smu.running = (scope.val, ctx.val, s.hw.f SMU_INVAL_ADDR SMU_INVAL_ADDR.page)) ∧
  (∀ s : State, s.hw.flag SMU_INVAL SMU_INVAL.busy = true → s.hw.smu.queuedInval = [] →
    Completes .invalidateComplete s fun h =>
      h.flag SMU_INVAL SMU_INVAL.busy = false ∧
      h.smu.cached = s.hw.smu.cached.filter fun p => !inScope s.hw.smu.running.1 s.hw.smu.running.2.1 s.hw.smu.running.2.2 p.1 p.2) ∧
  (∀ (s : State) (q : Nat × Nat × Nat) (qs : List (Nat × Nat × Nat)), s.hw.flag SMU_INVAL SMU_INVAL.busy = true →
    s.hw.smu.queuedInval = q :: qs →
    Completes .invalidateComplete s fun h =>
      h.flag SMU_INVAL SMU_INVAL.busy = true ∧ h.smu.running = q ∧ h.smu.queuedInval = qs) ∧
  (∀ (s : State) (u : Fin 320) (ctx : Fin 64) (a : BitVec 36) (w : Bool) (kind : Fin 8), s.hw.smu.queue.length < 64 →
    Completes (.translationFault u ctx a w kind) s fun h =>
      h.smu.queue = s.hw.smu.queue ++ [⟨a.toNat, kind.val, w, ctx.val, u.val⟩] ∧
      (u.val ≠ 294 → u.val ≠ 295 →
        h.isParked u.val = true ∧ h.f (SMU_UNIT u.val) SMU_UNIT.kind = kind.val ∧ h.f (SMU_UNIT u.val) SMU_UNIT.ctx = ctx.val)) ∧
  (∀ (s : State) (via : BusAcc) (r : FaultRec) (rs : List FaultRec), Readable s.hw via SMU_FAULT_POP_LO → s.hw.smu.queue = r :: rs →
    Completes (.faultPop via) s fun h =>
      h.smu.queue = rs ∧ h.bus.resp = .data [r.words.1] ∧ h.readShadow via.master.num SMU_FAULT_POP_HI = some r.words.2) ∧
  (∀ (s : State) (via : BusAcc) (u : Fin 320), Permitted s.hw via (SMU_UNIT u.val) → s.hw.isParked u.val = true →
    Completes (.unitResume via u) s fun h => h.f (SMU_UNIT u.val) SMU_UNIT.state = unitResuming) ∧
  (∀ (s : State) (via : BusAcc) (u : Fin 320), Permitted s.hw via (SMU_UNIT u.val) → s.hw.isParked u.val = true →
    Completes (.unitAbort via u) s fun h => h.f (SMU_UNIT u.val) SMU_UNIT.state = 0) ∧
  (∀ (s : State) (u : Fin 320), s.hw.isParked u.val = true →
    Completes (.parkTimeout u) s fun h => h.f (SMU_UNIT u.val) SMU_UNIT.state = 0)

/-- DMA's commands and a bank's copy complete (R80–R82, R89): a start of a channel that may start takes the descriptor's address; a descriptor
whose octets move whole and whose status can be written ends with its channel idle; a channel paused on a FIFO that has room goes on; a copy
that ends leaves the spare answering for the bank, with the named lines poisoned. -/
def Obligations.DmaCommandsComplete : Prop :=
  (∀ (s : State) (via : BusAcc) (ch : Fin 128) (hi : Word), Permitted s.hw via (DMA_CH_START_HI ch.val) →
    s.hw.f (DMA_CH_STAT ch.val) DMA_CH_STAT.state ≠ 1 → s.hw.f (DMA_CH_STAT ch.val) DMA_CH_STAT.state ≠ 2 →
    s.hw.flag (DMA_CH_CFG ch.val) DMA_CH_CFG.enable = true → s.hw.flag (DMA_CH_CFG ch.val) DMA_CH_CFG.retired = false →
    Completes (.dmaStart via ch hi) s fun h =>
      h.dmaCur ch.val = DMA_CH_START_LO.addr_lo.get (heldLow s.hw via.master.num (DMA_CH_START_HI ch.val)) * 64 +
        DMA_CH_START_HI.addr_hi.get hi * 2 ^ 32) ∧
  (∀ (s : State) (ch : Fin 128) (host : List Byte) (d : DmaDesc) (p : Nat) (acc : List Byte) (h1 h2 : Hw),
    s.hw.f (DMA_CH_STAT ch.val) DMA_CH_STAT.state = 1 → s.hw.dmaCh ch.val = ⟨some d, false⟩ →
    d.srcSpace ≠ 3 → d.dstSpace ≠ 3 → d.next = 0 → bit d.flags 0 = false → bit d.flags 1 = false →
    Hw.dmaMove d [] host (s.hw.f (DMA_CH_PROG ch.val) DMA_CH_PROG.progress) d.length (d.length / 2048 + 3)
      (s.hw.f (DMA_CH_PROG ch.val) DMA_CH_PROG.progress) [] ((cleared s.hw).unitNormal ch.val) = (h1, p, acc, none) →
    (h1.setF (DMA_CH_PROG ch.val) DMA_CH_PROG.progress p).engineWrite d.ctx
      ((h1.setF (DMA_CH_PROG ch.val) DMA_CH_PROG.progress p).dmaCur ch.val + 60) (dmaStatus 0 p) = (h2, none) →
    Completes (.dmaDescriptorComplete ch host) s fun h =>
      h.f (DMA_CH_STAT ch.val) DMA_CH_STAT.state = 0 ∧ h.f (DMA_CH_STAT ch.val) DMA_CH_STAT.error = 0 ∧ (h.dmaCh ch.val).desc = none) ∧
  (∀ (s : State) (ch : Fin 128) (d : DmaDesc), s.hw.dmaCh ch.val = ⟨some d, true⟩ → d.srcSpace ≠ 3 → d.dstSpace = 3 →
    s.hw.fifoFits (d.dst % 64) d.length = true →
    Completes (.dmaFifoReady ch) s fun h => h.dmaCh ch.val = ⟨some d, false⟩) ∧
  (∀ (s : State) (bad : List Nat) (b spare : Nat), s.hw.hlt.migrating = some (b, spare) →
    Completes (.migrationCopyDone bad) s fun h =>
      h.hlt.migrating = none ∧ h.hlt.bankMap.at b = spare + 1 ∧
      ∀ l ∈ bad, l < 32768 → (bankBase b + l * 64) / 64 ∈ h.hlt.poisoned)

/-- The packet FIFOs' commands complete (R96, R97, R99–R101): a push with room adds its word to the producer's packet; a consistent framed commit
makes the packet visible whole; a start puts a header before its data; an abort withdraws a framed packet and ends a cut-through one as
aborted; a pop answers the next word of a packet that may be read; a flush and a skip at the consumer's boundary remove complete packets. -/
def Obligations.StreamCommandsComplete : Prop :=
  (∀ (s : State) (via : BusAcc) (f : Fin 48) (w : Word), Permitted s.hw via (STM_PUSH f.val) → s.hw.fifoMode f.val = modeFramed →
    (s.hw.fifo f.val).dropping = false → (s.hw.fifo f.val).reserved = true → 1 ≤ s.hw.fifoSpace f.val →
    Completes (.stmPush via f w) s fun h =>
      (h.fifo f.val).openWords = (s.hw.fifo f.val).openWords ++ [w] ∧ (h.fifo f.val).pkts = (s.hw.fifo f.val).pkts) ∧
  (∀ (s : State) (via : BusAcc) (f : Fin 48) (w : Word), Permitted s.hw via (STM_PUSH f.val) → s.hw.fifoMode f.val = modeFramed →
    (s.hw.fifo f.val).dropping = false → (s.hw.fifo f.val).reserved = false → 2 ≤ s.hw.fifoSpace f.val →
    Completes (.stmPush via f w) s fun h => (h.fifo f.val).openWords = [w] ∧ (h.fifo f.val).reserved = true) ∧
  (∀ (s : State) (via : BusAcc) (f : Fin 48) (w : Word), Permitted s.hw via (STM_PUSH f.val) → s.hw.fifoMode f.val = modeFramed →
    (s.hw.fifo f.val).dropping = false → (s.hw.fifo f.val).reserved = true → s.hw.fifoSpace f.val = 0 →
    Completes (.stmPush via f w) s fun h =>
      h.flag (STM_STAT f.val) STM_STAT.overflow = true ∧ (h.fifo f.val).dropping = true ∧
      (h.fifo f.val).openWords = (s.hw.fifo f.val).openWords) ∧
  (∀ (s : State) (via : BusAcc) (f : Fin 48) (w : Word) (p : Pkt), Permitted s.hw via (STM_PUSH f.val) → s.hw.fifoMode f.val = modeCut →
    (s.hw.fifo f.val).openPkt = some p → p.skipped = false → 1 ≤ s.hw.fifoSpace f.val →
    Completes (.stmPush via f w) s fun h =>
      (h.fifo f.val).pkts.getLast? =
        some { p with words := p.words ++ [w], complete := decide (wordsFor p.length ≤ p.words.length + 1) }) ∧
  (∀ (s : State) (via : BusAcc) (f : Fin 48) (n : BitVec 16) (tag : BitVec 13), Permitted s.hw via (STM_COMMIT f.val) →
    s.hw.fifoMode f.val = modeFramed → (s.hw.fifo f.val).dropping = false → (s.hw.fifo f.val).reserved = true →
    n.toNat ≤ s.hw.packetLimit f.val → wordsFor n.toNat = (s.hw.fifo f.val).openWords.length →
    Completes (.stmCommit via f n tag) s fun h =>
      (h.fifo f.val).pkts =
        (s.hw.fifo f.val).pkts ++ [⟨tag.toNat, n.toNat, false, false, (s.hw.fifo f.val).openWords, true, false⟩] ∧
      (h.fifo f.val).openWords = [] ∧ (h.fifo f.val).reserved = false) ∧
  (∀ (s : State) (via : BusAcc) (f : Fin 48) (n : BitVec 16) (tag : BitVec 13), Permitted s.hw via (STM_COMMIT f.val) →
    s.hw.fifoMode f.val = modeCut → (s.hw.fifo f.val).openPkt = none → 1 ≤ s.hw.fifoSpace f.val →
    Completes (.stmCommitStart via f n tag) s fun h =>
      (h.fifo f.val).pkts = (s.hw.fifo f.val).pkts ++ [⟨tag.toNat, n.toNat, false, false, [], decide (n.toNat = 0), false⟩]) ∧
  (∀ (s : State) (via : BusAcc) (f : Fin 48), Permitted s.hw via (STM_COMMIT f.val) → s.hw.fifoMode f.val = modeFramed →
    Completes (.stmCommitAbort via f) s fun h =>
      (h.fifo f.val).openWords = [] ∧ (h.fifo f.val).reserved = false ∧ (h.fifo f.val).pkts = (s.hw.fifo f.val).pkts) ∧
  (∀ (s : State) (via : BusAcc) (f : Fin 48) (p : Pkt), Permitted s.hw via (STM_COMMIT f.val) → s.hw.fifoMode f.val = modeCut →
    (s.hw.fifo f.val).openPkt = some p → p.skipped = false →
    Completes (.stmCommitAbort via f) s fun h =>
      (h.fifo f.val).pkts.getLast? = some { p with abort := true, complete := true }) ∧
  (∀ (s : State) (via : BusAcc) (f : Fin 48) (p : Pkt) (ps : List Pkt) (w : Word), Readable s.hw via (STM_POP f.val) →
    s.hw.fifoMode f.val ≠ 0 → (s.hw.fifo f.val).pkts = p :: ps → p.skipped = false →
    ((s.hw.fifo f.val).begun = true ∨ s.hw.avail f.val = true) → p.words[(s.hw.fifo f.val).taken]? = some w →
    Completes (.stmPop via f) s fun h => h.bus.resp = .data [w]) ∧
  (∀ (s : State) (via : BusAcc) (f : Fin 48), Permitted s.hw via (STM_CTRL f.val) → (s.hw.fifo f.val).waiting = [] →
    Completes (.stmFlush via f) s fun h =>
      if (s.hw.fifo f.val).begun then (h.fifo f.val).flushPending = true ∧ (h.fifo f.val).pkts = (s.hw.fifo f.val).pkts
      else (h.fifo f.val).pkts = (s.hw.fifo f.val).pkts.filter fun p => !p.complete) ∧
  (∀ (s : State) (f : Fin 48), (s.hw.fifo f.val).flushPending = true → (s.hw.fifo f.val).begun = false →
    (s.hw.fifo f.val).waiting = [] →
    Completes (.flushAct f) s fun h =>
      (h.fifo f.val).pkts = (s.hw.fifo f.val).pkts.filter (fun p => !p.complete) ∧ (h.fifo f.val).flushPending = false) ∧
  (∀ (s : State) (via : BusAcc) (f : Fin 48) (p : Pkt) (ps : List Pkt), Permitted s.hw via (STM_CTRL f.val) →
    (s.hw.fifo f.val).pkts = p :: ps → p.complete = true → p.skipped = false →
    ((s.hw.fifo f.val).begun = true ∨ s.hw.avail f.val = true) → (s.hw.fifo f.val).flushPending = false →
    (s.hw.fifo f.val).waiting = [] →
    Completes (.stmSkip via f) s fun h => (h.fifo f.val).pkts = ps ∧ (h.fifo f.val).begun = false)

/-- The commands of the receiver's links and reference complete (R103, R104, R111, R116, R122): a band locks, trains again after a frame error that
is counted, or shows its error and raises port_fault; a lost reference halts the receiver with no search left, and its return restarts
an enabled receiver; a time solution makes a searching receiver run with the offset valid; a reference restore is kept for the next epoch
where the configured antenna is up; an epoch advances the epoch count; a record that completes frees the writer and raises epoch. -/
def Obligations.GnssLinkCommandsComplete : Prop :=
  (∀ (s : State) (ant : Fin 4) (band : Fin 3), Completes (.bandLock ant band) s fun h =>
    h.f (GNS_BAND_STAT ant.val band.val) GNS_BAND_STAT.link = linkLocked) ∧
  (∀ (s : State) (ant : Fin 4) (band : Fin 3),
    s.hw.f (GNS_BAND_STAT ant.val band.val) GNS_BAND_STAT.frame_err < GNS_BAND_STAT.frame_err.max →
    Completes (.frameError ant band) s fun h =>
      h.f (GNS_BAND_STAT ant.val band.val) GNS_BAND_STAT.link = linkTraining ∧
      h.f (GNS_BAND_STAT ant.val band.val) GNS_BAND_STAT.frame_err =
        s.hw.f (GNS_BAND_STAT ant.val band.val) GNS_BAND_STAT.frame_err + 1) ∧
  (∀ (s : State) (ant : Fin 4) (band : Fin 3), Completes (.bandLinkError ant band) s fun h =>
    h.f (GNS_BAND_STAT ant.val band.val) GNS_BAND_STAT.link = linkError ∧ h.flag GNS_IRQ_STAT GNS_IRQ_STAT.port_fault = true) ∧
  (∀ s : State, Completes .gnssRefLost s fun h =>
    h.f GNS_STAT GNS_STAT.clk_state = 2 ∧ h.gnsState = gnsHalted ∧ h.gns.queue = [] ∧ h.gns.searches = [] ∧
    (∀ p ∈ h.gns.chs, p.2.phase = .retired) ∧ h.flag GNS_IRQ_STAT GNS_IRQ_STAT.clk_lost = true) ∧
  (∀ s : State, s.hw.gnsState = gnsHalted → Completes .gnssRefRestored s fun h =>
    h.f GNS_STAT GNS_STAT.clk_state = 1 ∧
    h.gnsState = if s.hw.flag GNS_CFG GNS_CFG.enable then gnsSearching else gnsOff) ∧
  (∀ (s : State) (offset : Int), s.hw.gnsState = gnsSearching → Completes (.timeSolution offset) s fun h =>
    h.gnsState = gnsRunning ∧ h.flag GNS_TIME_OFS GNS_TIME_OFS.valid = true ∧
    h.f GNS_TIME_OFS GNS_TIME_OFS.offset = ofInt 31 (max (-1073741823) (min 1073741823 offset))) ∧
  (∀ (s : State) (via : BusAcc), Permitted s.hw via GNS_CTRL → s.hw.antUp (s.hw.f GNS_CFG GNS_CFG.ref_ant) = true →
    Completes (.referenceRestore via) s fun h => h.gns.restore = true) ∧
  (∀ (s : State) (offset : Int) (leap : BitVec 8) (meas : List ObsMeas), s.hw.gnsState = gnsRunning →
    Completes (.epochLatch offset leap meas) s fun h => h.reg GNS_EPOCH = s.hw.reg GNS_EPOCH + 1) ∧
  (∀ (s : State) (j : RecJob), (cleared s.hw).recComplete.2 = some j → Completes .recordComplete s fun h =>
    h.gns.job = none ∧ h.flag GNS_REC_STAT GNS_REC_STAT.writing = false ∧
    h.f GNS_REC_STAT GNS_REC_STAT.last_epoch = j.epoch % 65536 ∧ h.flag GNS_IRQ_STAT GNS_IRQ_STAT.epoch = true)

/-- The commands of searches and channels complete (R107–R109, R117): a requested triple is sought or has a channel; a search that finds starts
the lowest free channel in pull-in; one that finds nothing holds its triple in the queue until it may be searched again; pull-in
locks, ends or loses lock and pulls in again by the phases of R108; a satellite's elevation and health are kept, and one that turns unhealthy
is tracked no more; a channel's fault is counted and the next epoch omits the channel. -/
def Obligations.GnssChannelCommandsComplete : Prop :=
  (∀ (s : State) (via : BusAcc) (v : Word), Permitted s.hw via GNS_ACQ_REQ → s.hw.gnsUp = true → GNS_ACQ_REQ.sig.get v ≤ 14 →
    GNS_ACQ_REQ.sv.get v ≠ 0 → GNS_ACQ_REQ.sv.get v ≤ satsOf (conOf (GNS_ACQ_REQ.sig.get v)) →
    s.hw.fitsBand (GNS_ACQ_REQ.ant.get v) (GNS_ACQ_REQ.sig.get v) (s.hw.satOf (GNS_ACQ_REQ.sig.get v) (GNS_ACQ_REQ.sv.get v)).k = true →
    Completes (.acqRequest via v) s fun h =>
      if s.hw.sought (GNS_ACQ_REQ.ant.get v) (GNS_ACQ_REQ.sig.get v) (GNS_ACQ_REQ.sv.get v) = true ∨
          (s.hw.chanOf (GNS_ACQ_REQ.ant.get v) (GNS_ACQ_REQ.sig.get v) (GNS_ACQ_REQ.sv.get v)).isSome = true then
        ∀ q ∈ h.gns.queue, q ∈ s.hw.gns.queue
      else ∃ q : AcqReq, q.ant = GNS_ACQ_REQ.ant.get v ∧ q.sig = GNS_ACQ_REQ.sig.get v ∧ q.sv = GNS_ACQ_REQ.sv.get v ∧
        (q ∈ h.gns.queue ∨ ∃ n, (h.gns.searches.at n).map Prod.fst = some q)) ∧
  (∀ (s : State) (slot : Fin 32) (k : Fin 16) (q : AcqReq) (since c : Nat), s.hw.gns.searches.at slot.val = some (q, since) →
    s.hw.fitsBand q.ant q.sig (if conOf q.sig = 3 then k.val else 15) = true →
    (s.hw.usedChs.filter fun p => decide (p.2.ant = q.ant)).length < s.hw.quota q.ant → s.hw.freeChan = some c →
    Completes (.searchFound slot k) s fun h =>
      h = (((cleared s.hw).endSearch slot.val since 2).setGch c { (default : GnsCh) with
        phase := .pullIn, ant := q.ant, sig := q.sig, sv := q.sv, k := if conOf q.sig = 3 then k.val else 15 }).gnsSettle) ∧
  (∀ (s : State) (slot : Fin 32) (q : AcqReq) (since : Nat), s.hw.gns.searches.at slot.val = some (q, since) →
    (s.hw.endSearch slot.val since 3).sought q.ant q.sig q.sv = false → s.hw.chanOf q.ant q.sig q.sv = none →
    Completes (.searchNotFound slot) s fun h => { q with held := true } ∈ h.gns.queue) ∧
  (∀ (s : State) (ant : Fin 4) (sig : Fin 15) (sv : BitVec 6), Completes (.searchAgain ant sig sv) s fun h =>
    ∀ q ∈ h.gns.queue, q.ant = ant.val → q.sig = sig.val → q.sv = sv.toNat → q.held = false) ∧
  (∀ (s : State) (ch : Fin 512), (s.hw.gch ch.val).phase = .pullIn → Completes (.pullInLock ch) s fun h =>
    h = ((cleared s.hw).setGch ch.val { s.hw.gch ch.val with
      phase := .tracking, lockLoss := true, lockAt := s.hw.now, cmc := [], res := none, align := none }).gnsSettle) ∧
  (∀ (s : State) (ch : Fin 512), (s.hw.gch ch.val).phase = .pullIn → Completes (.pullInTimeout ch) s fun h =>
    h = ((cleared s.hw).releaseToQueue ch.val (s.hw.gch ch.val)).gnsSettle) ∧
  (∀ (s : State) (ch : Fin 512), (s.hw.gch ch.val).phase = .tracking → Completes (.lockLoss ch) s fun h =>
    h = ((cleared s.hw).setGch ch.val { s.hw.gch ch.val with
      phase := .lost, lockLoss := true, lockAt := s.hw.now, cmc := [], res := none, align := none }).gnsSettle) ∧
  (∀ (s : State) (ch : Fin 512), (s.hw.gch ch.val).phase = .lost → Completes (.relock ch) s fun h =>
    h = ((cleared s.hw).setGch ch.val { s.hw.gch ch.val with phase := .pullIn, lockAt := s.hw.now }).gnsSettle) ∧
  (∀ (s : State) (ch : Fin 512), (s.hw.gch ch.val).phase = .lost → Completes (.lostTimeout ch) s fun h =>
    h = ((cleared s.hw).releaseToQueue ch.val (s.hw.gch ch.val)).gnsSettle) ∧
  (∀ (s : State) (con : Fin 5) (sv : BitVec 6) (elev : Fin 9001) (healthy : Bool), Completes (.satelliteSet con sv elev healthy) s fun h =>
    (h.gns.sats.at (satKey con.val sv.toNat)).elev = elev.val ∧ (h.gns.sats.at (satKey con.val sv.toNat)).healthy = healthy ∧
    (healthy = false → ∀ c, (s.hw.gch c).phase = .tracking → conOf (s.hw.gch c).sig = con.val → (s.hw.gch c).sv = sv.toNat →
      (h.gch c).phase ≠ .tracking)) ∧
  (∀ (s : State) (con : Fin 5) (sv : BitVec 6) (elev : Fin 9001) (k : Fin 16), Completes (.satelliteRise con sv elev k) s fun h =>
    h.gns.sats.at (satKey con.val sv.toNat) = ⟨elev.val, true, if con.val = 3 then k.val else 15⟩) ∧
  (∀ (s : State) (ch : Fin 512), (s.hw.gch ch.val).phase ≠ .idle → (s.hw.gch ch.val).phase ≠ .retired →
    s.hw.faultsIn 4 ch.val < 7 → s.hw.f GNS_ERR GNS_ERR.ch_fault < GNS_ERR.ch_fault.max →
    Completes (.channelFault ch false) s fun h =>
      (h.gch ch.val).skipNext = true ∧ h.f GNS_ERR GNS_ERR.ch_fault = s.hw.f GNS_ERR GNS_ERR.ch_fault + 1)

/-- The matrix engine's commands complete (R130, R133, R139, R142, R144): a sound descriptor is accepted into the lowest free slot with the next job
identifier, and refused with the engine off; the job dispatched next holds a half of its tile; a job with a NaN or infinite operand ends
with its slot free and job_err raised, every other job goes to its write-back; a tile's errors are counted and the job they strike is retried;
a self-test runs on an idle tile and leaves it in service with its result kept. -/
def Obligations.MatrixCommandsComplete : Prop :=
  (∀ (s : State) (via : BusAcc) (hi : Word) (slot : Nat) (b : List Byte), Permitted s.hw via MTX_SUBMIT_HI →
    s.hw.flag MTX_CFG MTX_CFG.enable = true → s.hw.tilesUp ≠ [] → ((List.range 64).find? fun k => (s.hw.job k).isNone) = some slot →
    s.hw.readCtx (MTX_SUBMIT_HI.ctx.get hi) (MTX_SUBMIT_LO.addr_lo.get (heldLow s.hw via.master.num MTX_SUBMIT_HI) * 64 +
      MTX_SUBMIT_HI.addr_hi.get hi * 2 ^ 32) 64 = .ok b →
    (parseJob b (MTX_SUBMIT_HI.ctx.get hi) (MTX_SUBMIT_LO.addr_lo.get (heldLow s.hw via.master.num MTX_SUBMIT_HI) * 64 +
      MTX_SUBMIT_HI.addr_hi.get hi * 2 ^ 32)).sound b = true →
    Completes (.jobSubmit via hi) s fun h =>
      h.job slot = some { parseJob b (MTX_SUBMIT_HI.ctx.get hi) (MTX_SUBMIT_LO.addr_lo.get (heldLow s.hw via.master.num MTX_SUBMIT_HI) * 64 +
        MTX_SUBMIT_HI.addr_hi.get hi * 2 ^ 32) with phase := .queued, order := s.hw.mtx.accepted, jobId := s.hw.mtx.nextId } ∧
      h.mtx.nextId = (s.hw.mtx.nextId + 1) % 65536 ∧ h.mtx.results.at via.master.num = mtxOutcome 0 slot s.hw.mtx.nextId) ∧
  (∀ (s : State) (via : BusAcc) (hi : Word), Permitted s.hw via MTX_SUBMIT_HI → s.hw.flag MTX_CFG MTX_CFG.enable = false →
    Completes (.jobSubmit via hi) s fun h =>
      h.mtx.slots = s.hw.mtx.slots ∧ h.mtx.results.at via.master.num = mtxOutcome 4 0 0 ∧
      h.flag MTX_IRQ_STAT MTX_IRQ_STAT.refused = true) ∧
  (∀ (s : State) (slot : Fin 64) (t streak : Nat) (j : MtxJob) (xs : List (Nat × List Byte)),
    s.hw.nextJob = some (slot.val, j, streak) →
    s.hw.tileFor j = some t → s.hw.loadOperands j.ctx j.at j.inputs = .ok xs →
    Completes .jobDispatch s fun h =>
      h.half t ((s.hw.freeHalf t).getD 0) = some slot.val ∧ h.mtx.streak = streak ∧
      ∀ x, s.hw.job slot.val = some x → h.job slot.val = some { x with
        phase := if s.hw.computing t then .loading else .computing, tile := t, half := (s.hw.freeHalf t).getD 0, loaded := xs }) ∧
  (∀ (s : State) (slot : Fin 64) (j : MtxJob), s.hw.job slot.val = some j → s.hw.isParked (mtxUnit slot.val) = false →
    j.phase = .computing → j.badInput = true →
    (s.hw.writeCtx j.ctx (j.desc + 60) ((j.compute s.hw.pdExp).word false)).2.2 = none →
    Completes (.jobComplete slot) s fun h => h.job slot.val = none ∧ h.flag MTX_IRQ_STAT MTX_IRQ_STAT.job_err = true) ∧
  (∀ (s : State) (slot : Fin 64) (j : MtxJob), s.hw.job slot.val = some j → s.hw.isParked (mtxUnit slot.val) = false →
    j.phase = .computing →
    Completes (.jobComplete slot) s fun h =>
      h = Hw.writeBack slot.val 8 ((cleared s.hw).updJob slot.val fun j => j.compute s.hw.pdExp)) ∧
  (∀ (s : State) (tile : Fin 4) (half : Fin 2) (kind : TileError), (∀ g ∈ [MTX_TILE_ERR.residue, MTX_TILE_ERR.ecc_unc, MTX_TILE_ERR.ecc_corr],
      s.hw.f (MTX_TILE_ERR tile.val) g < g.max) → s.hw.faultsIn 2 tile.val < 7 →
    (∀ slot j, s.hw.half tile.val half.val = some slot → s.hw.job slot = some j → slot < 64 ∧ j.retries < 3) →
    Completes (.tileFault tile half kind) s fun h =>
      h.f (MTX_TILE_ERR tile.val) MTX_TILE_ERR.residue =
        s.hw.f (MTX_TILE_ERR tile.val) MTX_TILE_ERR.residue + (if kind = .residue then 1 else 0) ∧
      h.f (MTX_TILE_ERR tile.val) MTX_TILE_ERR.ecc_unc =
        s.hw.f (MTX_TILE_ERR tile.val) MTX_TILE_ERR.ecc_unc + (if kind = .uncorrectable then 1 else 0) ∧
      h.f (MTX_TILE_ERR tile.val) MTX_TILE_ERR.ecc_corr =
        s.hw.f (MTX_TILE_ERR tile.val) MTX_TILE_ERR.ecc_corr + (if kind = .corrected then 1 else 0) ∧
      ∀ slot j, kind ≠ .corrected → s.hw.half tile.val half.val = some slot → s.hw.job slot = some j → j.phase ≠ .parkedWrite →
        (h.job slot).map (fun x => (x.phase, x.retries, x.failed)) = some (.retrying, j.retries + 1, j.tile :: j.failed)) ∧
  (∀ (s : State) (tile : Fin 4) (half : Fin 2) (kind : TileError) (slot : Fin 64) (j : MtxJob), kind ≠ .corrected →
    s.hw.half tile.val half.val = some slot.val → s.hw.job slot.val = some j → j.phase ≠ .parkedWrite → 3 ≤ j.retries →
    (∃ t ∈ j.failed, t ≠ tile.val) → s.hw.faultsIn 2 tile.val < 7 →
    Completes (.tileFault tile half kind) s fun h => h.job slot.val = none ∧ h.flag MTX_IRQ_STAT MTX_IRQ_STAT.job_err = true) ∧
  (∀ (s : State) (tile : Fin 4), s.hw.f MTX_CFG MTX_CFG.selftest_ms ≠ 0 → s.hw.f (MTX_TILE_STAT tile.val) MTX_TILE_STAT.state = 0 →
    s.hw.half tile.val 0 = none → s.hw.half tile.val 1 = none →
    Completes (.selftestStart tile) s fun h => h.f (MTX_TILE_STAT tile.val) MTX_TILE_STAT.state = 1) ∧
  (∀ (s : State) (tile : Fin 4) (ok : Bool), s.hw.f (MTX_TILE_STAT tile.val) MTX_TILE_STAT.state = 1 → s.hw.faultsIn 2 tile.val < 7 →
    Completes (.selftestComplete tile ok) s fun h =>
      h.f (MTX_TILE_STAT tile.val) MTX_TILE_STAT.state = 0 ∧ memb tile.val h.hlt.tileTestFailed = !ok)

/-- The observation intake's commands complete (R146, R151, R153–R155, R167): with OBS off a frame is discarded; a position report goes to FIX; a full
frame replaces the set and its tag; a residual frame of the set makes its epoch the last; a released buffer is free; a forced full frame is
asked for; a buffer under way is written on. -/
def Obligations.ObservationCommandsComplete : Prop :=
  (∀ (s : State) (x : ObsIn) (rest : List ObsIn), s.hw.isParked obsUnit = false → s.hw.obs.job = none → s.hw.rad.toObs = x :: rest →
    s.hw.flag OBS_CFG OBS_CFG.enable = false →
    Completes .obsFrame s fun h => h.rad.toObs = rest ∧ h.flag OBS_IRQ_STAT OBS_IRQ_STAT.discard = true ∧ h.obs = s.hw.obs) ∧
  (∀ (s : State) (x : ObsIn) (rest : List ObsIn) (sd : Seed), s.hw.isParked obsUnit = false → s.hw.obs.job = none →
    s.hw.rad.toObs = x :: rest → s.hw.flag OBS_CFG OBS_CFG.enable = true → s.hw.formatAllowed x.robot (frameFmt x.payload) = true →
    frameSound x.payload = true → s.hw.seedOfField x.epoch = some sd → x.time ≤ sd.time + s.hw.lateNs → frameFmt x.payload = 3 →
    Completes .obsFrame s fun h => h.fix.reports = s.hw.fix.reports ++ [(x.robot, sd.epoch, x.payload)]) ∧
  (∀ (s : State) (x : ObsIn) (rest : List ObsIn) (sd : Seed), s.hw.isParked obsUnit = false → s.hw.obs.job = none →
    s.hw.rad.toObs = x :: rest → s.hw.flag OBS_CFG OBS_CFG.enable = true → s.hw.formatAllowed x.robot (frameFmt x.payload) = true →
    frameSound x.payload = true → s.hw.seedOfField x.epoch = some sd → x.time ≤ sd.time + s.hw.lateNs → frameFmt x.payload = 2 →
    (∀ l, (s.hw.orob x.robot).last = some l → l < sd.epoch) →
    (frameReset x.payload = true ∨ (s.hw.freeObsBuf x.robot).isSome = true) →
    Completes .obsFrame s fun h =>
      (h.orob x.robot).last = some sd.epoch ∧ h.f (OBS_RBT_STAT x.robot) OBS_RBT_STAT.set_tag = sd.epoch % 256 ∧
      h.f (OBS_RBT_STAT x.robot) OBS_RBT_STAT.set_held = 1 ∧ h.flag OBS_IRQ_STAT OBS_IRQ_STAT.full_frame = true) ∧
  (∀ (s : State) (x : ObsIn) (rest : List ObsIn) (sd : Seed), s.hw.isParked obsUnit = false → s.hw.obs.job = none →
    s.hw.rad.toObs = x :: rest → s.hw.flag OBS_CFG OBS_CFG.enable = true → s.hw.formatAllowed x.robot (frameFmt x.payload) = true →
    frameSound x.payload = true → s.hw.seedOfField x.epoch = some sd → x.time ≤ sd.time + s.hw.lateNs → frameFmt x.payload = 1 →
    (∀ l, (s.hw.orob x.robot).last = some l → l < sd.epoch) → (s.hw.freeObsBuf x.robot).isSome = true →
    Completes .obsFrame s fun h =>
      if s.hw.f (OBS_RBT_STAT x.robot) OBS_RBT_STAT.set_held ≠ 0 ∧
          fieldAt x.payload 1 1 = s.hw.f (OBS_RBT_STAT x.robot) OBS_RBT_STAT.set_tag ∧
          frameCount x.payload = (s.hw.orob x.robot).set.length then
        (h.orob x.robot).last = some sd.epoch ∧ h.f (OBS_RBT_STAT x.robot) OBS_RBT_STAT.last_epoch = sd.epoch % 65536
      else (h.orob x.robot).sendFull = true ∧ h.flag OBS_IRQ_STAT OBS_IRQ_STAT.discard = true) ∧
  (∀ s : State, s.hw.isParked obsUnit = false → s.hw.obs.job.isSome = true →
    Completes .obsFrame s fun h => h = (cleared s.hw).obsWrite) ∧
  (∀ (s : State) (via : BusAcc) (robot : Fin 129) (bufs : Fin 4), Permitted s.hw via (OBS_RBT_CTRL robot.val) →
    Completes (.bufferRelease via robot bufs) s fun h =>
      (bit bufs.val 0 = true → h.f (OBS_RBT_STAT robot.val) OBS_RBT_STAT.buf0 = bufFree) ∧
      (bit bufs.val 1 = true → h.f (OBS_RBT_STAT robot.val) OBS_RBT_STAT.buf1 = bufFree)) ∧
  (∀ (s : State) (via : BusAcc) (robot : Fin 129), Permitted s.hw via (OBS_RBT_CTRL robot.val) →
    Completes (.forceFull via robot) s fun h => (h.orob robot.val).sendFull = true)

/-- The fix manager's commands complete (R157, R161–R163, R165, R167): a report is entered as the robot's fix; the oldest hold ends at its limit; an
epoch without a frame or without a base record is counted and settled; a run that is solved gives its solution, fixed or float, and one
that is invalid resets the robot; a record held too long is dropped and counted; a read of word 0 shows the record whole; a reset asked for is kept
until its epoch. -/
def Obligations.FixCommandsComplete : Prop :=
  (∀ (s : State) (robot : Fin 129) (epoch : Nat) (p : List Byte) (rest : List (Nat × Nat × List Byte)),
    s.hw.fix.reports = (robot.val, epoch, p) :: rest →
    Completes .positionReport s fun h =>
      h.fix.reports = rest ∧ (h.frob robot.val).status = fixReported ∧ (h.frob robot.val).sol = reportSol p ∧
      (h.frob robot.val).report = some (epoch, reportSol p)) ∧
  (∀ (s : State) (i e : Nat) (rest : List (Nat × Nat)), s.hw.fix.holds = (i, e) :: rest →
    Completes .baseHoldExpiry s fun h => h.fix.holds = rest ∧ bit (h.f GNS_REC_HOLD GNS_REC_HOLD.fix_hold) i = false) ∧
  (∀ (s : State) (robot : Fin 129) (epoch : Word) (pr : FixSol), s.hw.robotMode robot.val = 1 →
    (∀ d, (s.hw.frob robot.val).done = some d → d < epoch.toNat) → s.hw.frameIn robot.val epoch.toNat = false →
    s.hw.f (OBS_RBT_MISS robot.val) OBS_RBT_MISS.missed < OBS_RBT_MISS.missed.max →
    Completes (.epochDeadline robot epoch pr) s fun h =>
      (h.frob robot.val).done = some epoch.toNat ∧
      h.f (OBS_RBT_MISS robot.val) OBS_RBT_MISS.missed = s.hw.f (OBS_RBT_MISS robot.val) OBS_RBT_MISS.missed + 1) ∧
  (∀ (s : State) (robot : Fin 129) (epoch : Word) (pr : FixSol), s.hw.robotMode robot.val = 1 →
    (∀ d, (s.hw.frob robot.val).done = some d → d < epoch.toNat) → s.hw.baseOf epoch.toNat = none →
    s.hw.f FIX_ERR FIX_ERR.base_missing < FIX_ERR.base_missing.max →
    Completes (.epochDeadline robot epoch pr) s fun h =>
      (h.frob robot.val).done = some epoch.toNat ∧
      h.f FIX_ERR FIX_ERR.base_missing = s.hw.f FIX_ERR FIX_ERR.base_missing + 1) ∧
  (∀ (s : State) (r : FixRun), s.hw.robotMode r.robot ≠ 0 → (s.hw.baseOf r.epoch).isSome = true → r.how = .solved →
    s.hw.f FIX_CFG FIX_CFG.min_sig ≤ r.pairs →
    Completes (.fixPublish r) s fun h =>
      (h.frob r.robot).done = some r.epoch ∧
      if r.searchFixed = true ∧ s.hw.f FIX_CFG FIX_CFG.min_fix ≤ r.held ∧ (s.hw.frob r.robot).status ≠ fixNone ∧
          (s.hw.frob r.robot).status ≠ fixLost ∧ validSum r.sum (s.hw.reg FIX_VAL_CHI).toNat r.m = true then
        (h.frob r.robot).status = fixFixed ∧ (h.frob r.robot).sol = r.conditioned
      else (h.frob r.robot).status = fixFloat ∧ (h.frob r.robot).sol = r.filtered) ∧
  (∀ (s : State) (r : FixRun), s.hw.robotMode r.robot ≠ 0 → (s.hw.baseOf r.epoch).isSome = true → r.how = .invalid →
    Completes (.fixPublish r) s fun h =>
      (h.frob r.robot).done = some r.epoch ∧ (h.frob r.robot).status = fixNone ∧ h.flag FIX_IRQ_STAT FIX_IRQ_STAT.reset = true) ∧
  (∀ s : State, s.hw.holdsPacket prodPub (s.hw.f FIX_PUB_CFG FIX_PUB_CFG.fifo) = true →
    s.hw.f FIX_ERR FIX_ERR.pub_dropped < FIX_ERR.pub_dropped.max →
    Completes .pubDropTimeout s fun h =>
      h.f FIX_ERR FIX_ERR.pub_dropped = s.hw.f FIX_ERR FIX_ERR.pub_dropped + 1 ∧
      (h.fifo (s.hw.f FIX_PUB_CFG FIX_PUB_CFG.fifo)).waiting.length + 1 =
        (s.hw.fifo (s.hw.f FIX_PUB_CFG FIX_PUB_CFG.fifo)).waiting.length) ∧
  (∀ (s : State) (via : BusAcc) (robot : Fin 129), Readable s.hw via (FIX_TBL robot.val 0) →
    Completes (.fixTblSnapshot via robot) s fun h =>
      h.bus.resp = .data [(s.hw.readShadow via.master.num (FIX_TBL robot.val 0)).getD (s.hw.reg (FIX_TBL robot.val 0))] ∧
      ∀ w, 1 ≤ w → w < 10 → h.readShadow via.master.num (FIX_TBL robot.val w) = some (s.hw.reg (FIX_TBL robot.val w))) ∧
  (∀ (s : State) (via : BusAcc) (robot : Fin 129), Permitted s.hw via (FIX_RBT_CTRL robot.val) →
    Completes (.robotReset via robot) s fun h => (h.frob robot.val).resetDue = true)

/-- The safety processor's commands on verdicts complete (R169, R170): it takes the oldest verdict and keeps its speed, and a definite
excursion puts the robot under a targeted stop of its own; a robot unverifiable for too long while it moves is stopped; a robot that still
moves under its stop, a loss of base records and silence escalate to a fleet stop of source 9. -/
def Obligations.VerdictCommandsComplete : Prop :=
  (∀ (s : State) (v : Verdict) (rest : List Verdict), s.hw.spWorks = true → s.hw.fix.verdicts = v :: rest → 1 ≤ v.robot → v.robot ≤ 128 →
    Completes .spVerdict s fun h =>
      h.fix.verdicts = rest ∧ (h.spRob v.robot).speed = v.speed ∧
      (v.code = vInside → (h.spRob v.robot).possible = 0) ∧
      (v.code = vDefinite → (h.target v.robot).any (fun t => memb 8 t.asserting) = true)) ∧
  (∀ (s : State) (robot : Fin 129), s.hw.spWorks = true → (s.hw.spRob robot.val).unverifiable.isSome = true →
    s.hw.robotMoves robot.val = true → robot.val ≠ 0 →
    Completes (.stopLostTimeout robot) s fun h => (h.target robot.val).any (fun t => memb 8 t.asserting) = true) ∧
  (∀ (s : State) (robot : Fin 129), s.hw.spWorks = true → (s.hw.target robot.val).isSome = true →
    s.hw.stillSpeed < (s.hw.spRob robot.val).speed →
    Completes (.stopConfirmTimeout robot) s fun h => memb 9 h.stp.sp = true) ∧
  (∀ s : State, s.hw.spWorks = true → s.hw.trackCommitted = true → Completes .baseLossTimeout s fun h => memb 9 h.stp.sp = true) ∧
  (∀ s : State, s.hw.spWorks = true → s.hw.centralRobots.any s.hw.robotMoves = true →
    Completes .silenceTimeout s fun h => memb 9 h.stp.sp = true)

/-- The reservation engine's requests complete (R175, R178, R182, R183, R187–R189, R192): a request packet with a good header takes the lowest free slot; a
path that passes the tests is placed under a new token, or with CHECK changes nothing, or with REPLACE ends the token replaced; REVOKE ends a
token, CLEAR_HOLD frees a robot's holds, EDIT puts its record in force; and each slot then is free or waits for its response to be written. -/
def Obligations.ReservationRequestsComplete : Prop :=
  (∀ (s : State) (via : BusAcc) (hi : Word) (slot : Nat) (b : List Byte), Permitted s.hw via RSV_SUBMIT_HI → s.hw.acts = true →
    s.hw.flag RSV_CFG RSV_CFG.enable = true → s.hw.freeSlot = some slot →
    s.hw.readCtx (RSV_SUBMIT_HI.ctx.get hi) (RSV_SUBMIT_LO.addr_lo.get (heldLow s.hw via.master.num RSV_SUBMIT_HI) * 32 +
      RSV_SUBMIT_HI.addr_hi.get hi * 2 ^ 32) 32 = .ok b → headerOk b (RSV_SUBMIT_HI.ctx.get hi) = true →
    Completes (.rsvSubmit via hi) s fun h =>
      (h.rsvSlot slot).phase = .queued ∧ (h.rsvSlot slot).op = fieldAt b 0 1 ∧ (h.rsvSlot slot).robot = fieldAt b 2 1 ∧
      (h.rsvSlot slot).order = s.hw.rsv.accepted ∧ h.rsv.results.at via.master.num = rsvOutcome 0 slot s.hw.rsv.nextReq) ∧
  (∀ (s : State) (slot : Fin 32) (body : List Byte) (rec : Fin 4096), Served s.hw 1 slot.val body →
    s.hw.earlyTests (askOf (s.hw.rsvSlot slot.val) body) = none →
    s.hw.firstBlocked (s.hw.rsvSlot slot.val).robot 0 (s.hw.clipped (askOf (s.hw.rsvSlot slot.val) body)).1 = none →
    (s.hw.pathEntries (s.hw.rsvSlot slot.val).robot 0 0 none (s.hw.clipped (askOf (s.hw.rsvSlot slot.val) body)).1 []).length ≤ s.hw.poolFree →
    s.hw.nextTok = some rec.val →
    Completes (.reserve slot) s fun h =>
      h.rsv.entries = s.hw.rsv.entries ++ s.hw.pathEntries (s.hw.rsvSlot slot.val).robot (freshToken s.hw rec.val) (s.hw.rsv.commits * 64) none
        (s.hw.clipped (askOf (s.hw.rsvSlot slot.val) body)).1 [] ∧
      h.inForce (freshToken s.hw rec.val) = true ∧ (h.rsv.toks.at rec.val).robot = (s.hw.rsvSlot slot.val).robot ∧ SlotOver h slot.val) ∧
  (∀ (s : State) (slot : Fin 32) (body : List Byte), Served s.hw 2 slot.val body →
    Completes (.check slot) s fun h =>
      h.rsv.entries = s.hw.rsv.entries ∧ h.rsv.toks = s.hw.rsv.toks ∧ SlotOver h slot.val) ∧
  (∀ (s : State) (slot : Fin 32) (body : List Byte), Served s.hw 3 slot.val body →
    s.hw.earlyTests (askOf (s.hw.rsvSlot slot.val) body) = none →
    s.hw.firstBlocked (s.hw.rsvSlot slot.val).robot 0 (s.hw.clipped (askOf (s.hw.rsvSlot slot.val) body)).1 = none →
    (s.hw.pathEntries (s.hw.rsvSlot slot.val).robot 0 0 none (s.hw.clipped (askOf (s.hw.rsvSlot slot.val) body)).1 []).length ≤
      s.hw.poolFree + (s.hw.rsv.entries.filter fun e => e.ofToken (s.hw.rsvSlot slot.val).oldToken).length →
    s.hw.rsv.used < 4096 →
    Completes (.replace slot) s fun h =>
      h.inForce (s.hw.rsvSlot slot.val).oldToken = false ∧ h.inForce (freshToken s.hw s.hw.rsv.used) = true ∧
      h.rsv.entries = (s.hw.rsv.entries.filter fun e => !e.ofToken (s.hw.rsvSlot slot.val).oldToken) ++
        s.hw.pathEntries (s.hw.rsvSlot slot.val).robot (freshToken s.hw s.hw.rsv.used) (s.hw.rsv.commits * 64) none
          (s.hw.clipped (askOf (s.hw.rsvSlot slot.val) body)).1 [] ∧
      SlotOver h slot.val) ∧
  (∀ (s : State) (slot : Fin 32) (body : List Byte), Served s.hw 4 slot.val body → s.hw.noTime = false →
    s.hw.inForce (s.hw.rsvSlot slot.val).oldToken = true →
    (s.hw.rsv.toks.at (tokIdx (s.hw.rsvSlot slot.val).oldToken)).robot = (s.hw.rsvSlot slot.val).robot →
    Completes (.revoke slot) s fun h =>
      h.inForce (s.hw.rsvSlot slot.val).oldToken = false ∧ h.flag RSV_IRQ_STAT RSV_IRQ_STAT.revoke = true ∧ SlotOver h slot.val) ∧
  (∀ (s : State) (slot : Fin 32) (body : List Byte), Served s.hw 5 slot.val body → s.hw.noTime = false →
    Completes (.clearHold slot) s fun h =>
      (∀ e ∈ h.rsv.entries, ¬(e.robot = (s.hw.rsvSlot slot.val).robot ∧ e.token = 0)) ∧ SlotOver h slot.val) ∧
  (∀ (s : State) (slot : Fin 32) (body : List Byte), Served s.hw 6 slot.val body →
    ((cleared s.hw).rsvEdit ((s.hw.rsvSlot slot.val).arg % 65536) body).2 = 0 →
    Completes (.edit slot) s fun h => h.seg ((s.hw.rsvSlot slot.val).arg % 65536) = readSeg body ∧ SlotOver h slot.val)

/-- The reservation engine's other commands complete (R175, R179, R188–R190, R194, R196, R197): a graph load starts on an empty engine and is
refused on one with entries, and a sound image is put in force at its end; a token whose acknowledgement is late becomes valid; a sweep leaves
only entries that have not run out; a revocation by register ends the tokens of its scope; a token selected is shown; an error in engine
memory poisons, closes or ends what it struck; a poisoned calendar clears after the horizon; an event held too long is dropped. -/
def Obligations.ReservationEngineCommandsComplete : Prop :=
  (∀ (s : State) (via : BusAcc) (ctx : Fin 64) (hi : Fin 16), Permitted s.hw via RSV_GRAPH_HI →
    s.hw.f RSV_GRAPH_STAT RSV_GRAPH_STAT.state ≠ 1 →
    Completes (.graphLoad via ctx hi) s fun h =>
      if s.hw.rsv.entries = [] then h.f RSV_GRAPH_STAT RSV_GRAPH_STAT.state = 1 ∧ h.rsv = s.hw.rsv
      else h.f RSV_GRAPH_STAT RSV_GRAPH_STAT.state = 3 ∧ h.f RSV_GRAPH_STAT RSV_GRAPH_STAT.error = 1 ∧ h.rsv = s.hw.rsv) ∧
  (∀ (s : State) (hd bs : List Byte) (sum : Nat), s.hw.f RSV_GRAPH_STAT RSV_GRAPH_STAT.state = 1 →
    s.hw.readCtx (s.hw.f RSV_GRAPH_HI RSV_GRAPH_HI.ctx)
      (s.hw.f RSV_GRAPH_LO RSV_GRAPH_LO.addr_lo * 4096 + s.hw.f RSV_GRAPH_HI RSV_GRAPH_HI.addr_hi * 2 ^ 32) 16 = .ok hd →
    1 ≤ fieldAt hd 4 4 → fieldAt hd 4 4 ≤ 65536 → zeroAt hd 12 4 = true →
    s.hw.readCtx (s.hw.f RSV_GRAPH_HI RSV_GRAPH_HI.ctx)
      (s.hw.f RSV_GRAPH_LO RSV_GRAPH_LO.addr_lo * 4096 + s.hw.f RSV_GRAPH_HI RSV_GRAPH_HI.addr_hi * 2 ^ 32 + 16) (48 * fieldAt hd 4 4) = .ok bs →
    segCheck 0 0 ((List.range (fieldAt hd 4 4)).map fun i => (bs.drop (48 * i)).take 48) = (sum, none, none) → sum = fieldAt hd 8 4 →
    Completes .graphLoadDone s fun h =>
      h.f RSV_GRAPH_STAT RSV_GRAPH_STAT.state = 2 ∧ h.rsv.segCount = fieldAt hd 4 4 ∧
      h.reg RSV_GRAPH_VER = BitVec.ofNat 32 (fieldAt hd 0 4) ∧ h.flag RSV_IRQ_STAT RSV_IRQ_STAT.graph_done = true) ∧
  (∀ (s : State) (token : Word), (s.hw.rsv.waitAck.any fun p => decide (p.1 = token.toNat)) = true →
    s.hw.f RSV_ERR2 RSV_ERR2.mirror_late < RSV_ERR2.mirror_late.max → s.hw.inForce token.toNat = true →
    (s.hw.rsv.toks.at (tokIdx token.toNat)).state = 1 →
    Completes (.mirrorAckTimeout token) s fun h =>
      h.tokenValid token.toNat = true ∧ h.f RSV_ERR2 RSV_ERR2.mirror_late = s.hw.f RSV_ERR2 RSV_ERR2.mirror_late + 1 ∧
      h.flag RSV_IRQ_STAT RSV_IRQ_STAT.mirror_late = true) ∧
  (∀ s : State, s.hw.acts = true →
    Completes .expirySweep s fun h =>
      h.rsv.entries = s.hw.rsv.entries.filter fun e => e.opened || later (tickAdd e.tout s.hw.guard) s.hw.tick) ∧
  (∀ (s : State) (via : BusAcc) (v : Word), Permitted s.hw via RSV_REVOKE → RSV_REVOKE.go.get v = 1 → RSV_REVOKE.scope.get v = 1 →
    Completes (.rsvRevoke via v) s fun h =>
      (∀ t, s.hw.inForce t = true → (s.hw.rsv.toks.at (tokIdx t)).robot = RSV_REVOKE.robot.get v → h.inForce t = false) ∧
      h.flag RSV_IRQ_STAT RSV_IRQ_STAT.revoke = true) ∧
  (∀ (s : State) (via : BusAcc) (v : Word), Permitted s.hw via RSV_REVOKE → RSV_REVOKE.go.get v = 1 → RSV_REVOKE.scope.get v = 2 →
    Completes (.rsvRevoke via v) s fun h => (∀ t, h.inForce t = false) ∧ h.flag RSV_IRQ_STAT RSV_IRQ_STAT.revoke = true) ∧
  (∀ (s : State) (via : BusAcc) (token : Word), Permitted s.hw via RSV_TOKQ →
    Completes (.tokenQuery via token) s fun h =>
      h.reg RSV_TOKQ = token ∧ (s.hw.inForce token.toNat = false → ∀ m, h.viewRsv m RSV_TOKQ_RES = 0)) ∧
  (∀ (s : State) (hit : EccHit),
    Completes (.rsvEccError hit) s fun h =>
      h.flag RSV_ERR2 RSV_ERR2.ecc_unc = true ∧
      match hit with
      | .segCalendar n => h.isPoisoned n.toNat = true
      | .setCalendar n => h.isPoisoned (setCal n.val) = true
      | .segment n => memb n.toNat h.rsv.eccClosed = true
      | .token n => (h.rsv.toks.at n.val).state = 0 ∨ h.rsv.toks = s.hw.rsv.toks) ∧
  (∀ (s : State) (cal : Fin 66560) (c t : Nat), (s.hw.rsv.poison.find? fun p => decide (p.1 = cal.val)) = some (c, t) →
    later (tickAdd t s.hw.horizon) s.hw.tick = false →
    Completes (.poisonClear cal) s fun h => h.isPoisoned cal.val = false) ∧
  (∀ s : State, s.hw.holdsPacket prodRsv (s.hw.f RSV_EVT_CFG RSV_EVT_CFG.fifo) = true →
    s.hw.f RSV_ERR2 RSV_ERR2.evt_dropped < RSV_ERR2.evt_dropped.max →
    Completes .eventDropTimeout s fun h => h.f RSV_ERR2 RSV_ERR2.evt_dropped = s.hw.f RSV_ERR2 RSV_ERR2.evt_dropped + 1)

/-- Lathe's requests complete (R203–R207, R209): a sound request packet takes the lowest free slot and computes, or waits while its robot is busy;
PLAN and NEGOTIATE pass their windows to a request slot of the reservation engine; an ok answer makes the profile the robot's active one under its
token; PROFILE ends after its computation; CANCEL ends both profiles; a busy refusal is retried until 2 ms have passed. -/
def Obligations.LatheRequestsComplete : Prop :=
  (∀ (s : State) (slot n : Nat) (p : Pkt) (g : Hw),
    ((List.range 48).find? fun k => decide ((s.hw.lthSlot k).phase = .free)) = some slot → s.hw.flag LTH_CFG LTH_CFG.enable = true →
    (cleared s.hw).takePacket (s.hw.f LTH_CFG LTH_CFG.req_fifo) 512 = some (p, n, g) → p.abort = false →
    p.octets.length = 32 + 8 * fieldAt p.octets 3 1 → lthHeaderOk p.octets = true → 1 ≤ fieldAt p.octets 0 1 → fieldAt p.octets 0 1 ≤ 4 →
    Completes .lthRequest s fun h =>
      (h.lthSlot slot).op = fieldAt p.octets 0 1 ∧ (h.lthSlot slot).robot = fieldAt p.octets 2 1 ∧
      (h.lthSlot slot).elems = lthElems (fieldAt p.octets 3 1) p.octets ∧ h.lth.taken = s.hw.lth.taken + 1 ∧
      (h.lthSlot slot).phase =
        if (List.range 48).any fun o => decide ((s.hw.lthSlot o).phase ≠ .free ∧ (s.hw.lthSlot o).robot = fieldAt p.octets 2 1)
        then .waiting else .computing) ∧
  (∀ (s : State) (slot : Fin 48) (q q' : LthSlot) (rs : Nat), (s.hw.lthSlot slot.val).op = 1 → s.hw.isParked (192 + slot.val) = false →
    (s.hw.lthSlot slot.val).phase = .computing → s.hw.lthPathOk (s.hw.lthSlot slot.val) = true →
    s.hw.fixStart (s.hw.lthSlot slot.val) = .ok q → s.hw.lthCompute q = some q' → s.hw.acts = true →
    s.hw.flag RSV_CFG RSV_CFG.enable = true → s.hw.freeSlot = some rs →
    Completes (.plan slot) s fun h =>
      (h.lthSlot slot.val).phase = .reserving ∧ (h.lthSlot slot.val).rsvSlot = some rs ∧ (h.lthSlot slot.val).windows = q'.windows ∧
      (h.rsvSlot rs).phase = .queued ∧ (h.rsvSlot rs).robot = q'.robot ∧ (h.rsvSlot rs).lathe = true) ∧
  (∀ (s : State) (slot : Fin 48) (q q' : LthSlot) (rs : Nat), (s.hw.lthSlot slot.val).op = 2 → s.hw.isParked (192 + slot.val) = false →
    (s.hw.lthSlot slot.val).phase = .computing → s.hw.lthPathOk (s.hw.lthSlot slot.val) = true →
    s.hw.fixStart (s.hw.lthSlot slot.val) = .ok q → s.hw.lthCompute q = some q' → s.hw.acts = true →
    s.hw.flag RSV_CFG RSV_CFG.enable = true → s.hw.freeSlot = some rs →
    Completes (.negotiate slot) s fun h =>
      (h.lthSlot slot.val).phase = .reserving ∧ (h.lthSlot slot.val).rsvSlot = some rs ∧ (h.lthSlot slot.val).windows = q'.windows ∧
      (h.rsvSlot rs).phase = .queued ∧ (h.rsvSlot rs).robot = q'.robot ∧ (h.rsvSlot rs).lathe = true) ∧
  (∀ (s : State) (slot : Fin 48) (rs : Fin 32) (p : Profile), (s.hw.lthSlot slot.val).rsvSlot = some rs.val → s.hw.slotTurn rs.val = true →
    ((cleared s.hw).rsvDecide ⟨(s.hw.rsvSlot rs.val).op, (s.hw.rsvSlot rs.val).robot, false, (s.hw.rsvSlot rs.val).arg,
      (s.hw.rsvSlot rs.val).path.map fun (g, a, b) => ({ seg := g, tin := a, tout := b, zero := true } : Elem),
      (s.hw.rsvSlot rs.val).oldToken⟩).2.status = 0 →
    bit (s.hw.lthSlot slot.val).flags 4 = false → s.hw.activeProf (s.hw.lthSlot slot.val).robot = none →
    (s.hw.lthSlot slot.val).prof = some p →
    Completes (.negotiateRound slot) s fun h =>
      h.activeProf (s.hw.lthSlot slot.val).robot = some { p with token :=
        ((cleared s.hw).rsvDecide ⟨(s.hw.rsvSlot rs.val).op, (s.hw.rsvSlot rs.val).robot, false, (s.hw.rsvSlot rs.val).arg,
          (s.hw.rsvSlot rs.val).path.map fun (g, a, b) => ({ seg := g, tin := a, tout := b, zero := true } : Elem),
          (s.hw.rsvSlot rs.val).oldToken⟩).2.token } ∧
      (h.rsvSlot rs.val).phase = .free) ∧
  (∀ (s : State) (slot : Fin 48) (q q' : LthSlot), (s.hw.lthSlot slot.val).op = 3 → s.hw.isParked (192 + slot.val) = false →
    (s.hw.lthSlot slot.val).phase = .computing → s.hw.lthPathOk (s.hw.lthSlot slot.val) = true →
    s.hw.fixStart (s.hw.lthSlot slot.val) = .ok q → s.hw.lthCompute q = some q' →
    Completes (.profile slot) s fun h => h = ((cleared s.hw).updLthSlot slot.val fun _ => q').lthEnd slot.val 0) ∧
  (∀ (s : State) (slot : Fin 48), (s.hw.lthSlot slot.val).op = 4 → s.hw.isParked (192 + slot.val) = false →
    (s.hw.lthSlot slot.val).phase = .computing →
    Completes (.cancel slot) s fun h =>
      h.activeProf (s.hw.lthSlot slot.val).robot = none ∧ h.pendingProf (s.hw.lthSlot slot.val).robot = none) ∧
  (∀ (s : State) (slot : Fin 48) (t rs : Nat), (s.hw.lthSlot slot.val).busySince = some t → (s.hw.lthSlot slot.val).phase = .reserving →
    s.hw.now < t + 2000000 → s.hw.acts = true → s.hw.flag RSV_CFG RSV_CFG.enable = true → s.hw.freeSlot = some rs →
    Completes (.reservationBusyRetry slot) s fun h =>
      (h.lthSlot slot.val).rsvSlot = some rs ∧ (h.lthSlot slot.val).busySince = none ∧ (h.rsvSlot rs).phase = .queued) ∧
  (∀ (s : State) (slot : Fin 48) (t : Nat), (s.hw.lthSlot slot.val).busySince = some t → (s.hw.lthSlot slot.val).phase = .reserving →
    t + 2000000 ≤ s.hw.now →
    Completes (.reservationBusyRetry slot) s fun h => (h.lthSlot slot.val).phase = .free ∨ h.isParked (192 + slot.val) = true)

/-- Track frames and the end of profiles complete (R209–R211): a valid active profile counts a frame queued, for one robot and for every robot at
a boundary; a frame held too long is dropped and counted; a profile whose final keyframe has been repeated gives way to its successor. -/
def Obligations.TrackCommandsComplete : Prop :=
  (∀ (s : State) (robot : Fin 129) (p : Profile) (n : Nat), s.hw.activeProf robot.val = some p → s.hw.laneOf robot.val = some n →
    s.hw.acts = true → s.hw.tokenValid p.token = true →
    Completes (.trackFrameQueue (some robot)) s fun h => (h.activeProf robot.val).map Profile.frames = some (p.frames + 1)) ∧
  (∀ (s : State) (robot : Nat) (p : Profile) (n : Nat), 1 ≤ robot → robot ≤ 128 → s.hw.activeProf robot = some p → s.hw.laneOf robot = some n →
    s.hw.acts = true → s.hw.tokenValid p.token = true →
    Completes (.trackFrameQueue none) s fun h => (h.activeProf robot).map Profile.frames = some (p.frames + 1)) ∧
  (∀ (s : State) (lane : Fin 8), s.hw.holdsPacket prodLth (s.hw.f (RAD_LANE_FIFO lane.val) RAD_LANE_FIFO.tx_track) = true →
    s.hw.f LTH_ERR LTH_ERR.kf_dropped < LTH_ERR.kf_dropped.max →
    Completes (.kfDropTimeout lane) s fun h =>
      h.f LTH_ERR LTH_ERR.kf_dropped = s.hw.f LTH_ERR LTH_ERR.kf_dropped + 1 ∧ h.flag LTH_IRQ_STAT LTH_IRQ_STAT.kf_dropped = true) ∧
  (∀ (s : State) (robot : Fin 129) (p : Profile), s.hw.activeProf robot.val = some p → s.hw.inForce p.token = true →
    ((s.hw.rsv.toks.at (tokIdx p.token)).state = 2 → s.hw.tokenValid p.token = true) → s.hw.kfRepeat ≤ p.finals →
    Completes (.profileEnd robot) s fun h => h.activeProf robot.val = s.hw.pendingProf robot.val ∧ h.pendingProf robot.val = none) ∧
  (∀ (s : State) (robot : Fin 129) (p : Profile), s.hw.activeProf robot.val = some p → s.hw.inForce p.token = false →
    Completes (.profileEnd robot) s fun h =>
      h.activeProf robot.val = (s.hw.pendingProf robot.val).filter (fun n => s.hw.inForce n.token) ∧ h.pendingProf robot.val = none ∧
      h.flag LTH_IRQ_STAT LTH_IRQ_STAT.ended = true)

/-- The commands of local axes complete (R214–R216, R218–R220, R222, R223): a command written to an axis waits for the next control cycle; the cycle
enables an axis that asked for it and advances every enabled link; an upstream frame gives its axes their inputs, and a missing or invalid one
counts; a link fault is kept; a step edge moves a following axis's target; a group is armed, started and halted. -/
def Obligations.AxisCommandsComplete : Prop :=
  (∀ (s : State) (via : BusAcc) (n : Fin 16), Permitted s.hw via (AXL_AX_CMD n.val) →
    ∀ p ∈ [(Instr.enable via n, 1), (Instr.disable via n, 2), (Instr.moveAbs via n, 3), (Instr.moveRel via n, 4), (Instr.jog via n, 5),
      (Instr.halt via n, 6), (Instr.home via n, 7), (Instr.setPos via n, 8), (Instr.follow via n, 9), (Instr.release via n, 10)],
    Completes p.1 s fun h =>
      (h.axis n.val).pendingCmd = some p.2 ∧ (h.axis n.val).state = (s.hw.axis n.val).state ∧ (h.axis n.val).pos = (s.hw.axis n.val).pos) ∧
  (∀ s : State, Completes .controlCycle s fun h =>
    (∀ k < 4, s.hw.flag (AXL_LINK_CFG k) AXL_LINK_CFG.enable = true → (h.axLink k).seq = ((s.hw.axLink k).seq + 1) % 256) ∧
    (∀ n < 16, s.hw.flag AXL_CFG AXL_CFG.enable = true → s.hw.axl.stop = false → (s.hw.axis n).pendingCmd = some 1 →
      (s.hw.axis n).enable = false → (s.hw.axis n).state = .disabled → (s.hw.axis n).home = .none → (s.hw.axis n).group = none →
      atRest (s.hw.axis n) = true →
      (h.axis n).enable = true ∧ (h.axis n).state = .idle ∧ (h.axis n).pendingCmd = none ∧ (h.axis n).result = 0)) ∧
  (∀ (s : State) (k : Fin 4) (b : List Byte), s.hw.upValid k.val b = true →
    Completes (.upstreamFrame k (some b)) s fun h =>
      (h.axLink k.val).misses = 0 ∧
      ∀ i < 4, (h.axis (4 * k.val + i)).fe = toInt 8 (fieldAt b (2 + 2 * i) 2 % 256) ∧
        (h.axis (4 * k.val + i)).homeIn = bit (fieldAt b (2 + 2 * i) 2) 8 ∧ (h.axis (4 * k.val + i)).limPos = bit (fieldAt b (2 + 2 * i) 2) 9 ∧
        (h.axis (4 * k.val + i)).limNeg = bit (fieldAt b (2 + 2 * i) 2) 10 ∧ (h.axis (4 * k.val + i)).fault = bit (fieldAt b (2 + 2 * i) 2) 12) ∧
  (∀ (s : State) (k : Fin 4) (frame : Option (List Byte)), (∀ b, frame = some b → s.hw.upValid k.val b = false) →
    s.hw.f (AXL_LINK_ERR k.val) AXL_LINK_ERR.missing < AXL_LINK_ERR.missing.max →
    s.hw.f (AXL_LINK_ERR k.val) AXL_LINK_ERR.crc_err < AXL_LINK_ERR.crc_err.max →
    Completes (.upstreamFrame k frame) s fun h =>
      (h.axLink k.val).misses = (s.hw.axLink k.val).misses + 1 ∧
      h.f (AXL_LINK_ERR k.val) AXL_LINK_ERR.missing = s.hw.f (AXL_LINK_ERR k.val) AXL_LINK_ERR.missing + (if frame = none then 1 else 0) ∧
      h.f (AXL_LINK_ERR k.val) AXL_LINK_ERR.crc_err = s.hw.f (AXL_LINK_ERR k.val) AXL_LINK_ERR.crc_err + (if frame = none then 0 else 1)) ∧
  (∀ (s : State) (k : Fin 4), s.hw.linkState k.val ≠ 3 →
    Completes (.linkFault k) s fun h =>
      (h.axLink k.val).misses = 0 ∧
      (h.axLink k.val).faults = ((s.hw.axLink k.val).faults.filter fun t => decide (s.hw.now < t + 60000000000)) ++ [s.hw.now]) ∧
  (∀ (s : State) (n : Fin 16) (dir stable : Bool), (s.hw.axis n.val).state = .following →
    Completes (.stepEdge n dir stable) s fun h =>
      (h.axis n.val).follow = (s.hw.axis n.val).follow +
        (if (if stable then dir else (s.hw.axis n.val).lastDir) = s.hw.flag (AXL_AX_COARSE n.val) AXL_AX_COARSE.dir_inv then (-1 : Int) else 1) *
          (max 1 (s.hw.f (AXL_AX_COARSE n.val) AXL_AX_COARSE.coarse_div) : Nat) ∧
      (h.axis n.val).interval = s.hw.now - (s.hw.axis n.val).lastStep) ∧
  (∀ (s : State) (via : BusAcc) (g : Fin 4) (v : Word), Permitted s.hw via (AXL_GRP_CFG g.val) → s.hw.flag AXL_CFG AXL_CFG.enable = true →
    AXL_GRP_CFG.start.get v = 0 → (∀ n ∈ maskAxes (AXL_GRP_CFG.mask.get v), (s.hw.axis n).state = .idle ∧ atRest (s.hw.axis n) = true ∧
      (s.hw.axis n).limPos = false ∧ (s.hw.axis n).limNeg = false) →
    Completes (.groupGo via g v) s fun h =>
      h.grpState g.val = grpArmed ∧
      ∀ n ∈ maskAxes (AXL_GRP_CFG.mask.get v), (h.axis n).state = .armed ∧ (h.axis n).group = some g.val) ∧
  (∀ (s : State) (via : BusAcc) (g : Fin 4) (v : Word), Permitted s.hw via (AXL_GRP_CFG g.val) →
    Completes (.groupHalt via g v) s fun h =>
      h.grpState g.val = if s.hw.grpState g.val = grpArmed then grpIdle
        else if s.hw.grpState g.val = grpMoving then grpStopping else s.hw.grpState g.val) ∧
  (∀ (s : State) (g : Fin 4), s.hw.grpState g.val = grpArmed → s.hw.startMet g.val = true →
    Completes (.groupStart g) s fun h => h.grpState g.val = grpMoving)

/-- The radio's sending commands complete (R228, R230, R234, R237, R240, R241, R243, R247–R249): a superframe start advances the count and gives
each lane in service its beacon; a lane takes lane info first, then tracks, echoes and corrections; a started frame stands on the air secured and its
counter has advanced; a good end is counted, a busy channel leads to a back-off; a missing ACK repeats the frame or counts it. -/
def Obligations.RadioSendCommandsComplete : Prop :=
  (∀ (s : State) (nav : List SatGeo) (late : BitVec 8), (∀ n ∈ s.hw.rad.bindDue, n < 8) →
    Completes (.superframeStart nav late) s fun h =>
      h.reg RAD_SFNUM = s.hw.reg RAD_SFNUM + 1 ∧ h.rad.started = true ∧ h.rad.tsf = s.hw.nextTsf ∧
      ∀ n < 8, s.hw.radSends = true → s.hw.laneUp n = true → ∃ f ∈ (h.lane n).frames, f.kind = kBeacon) ∧
  (∀ (s : State) (n : Fin 8), s.hw.radSends = true → s.hw.laneUp n.val = true → s.hw.laneRoom n.val = true →
    (s.hw.lane n.val).infoDue = true →
    Completes (.txPacketTake n) s fun h =>
      (h.lane n.val).infoDue = false ∧
      (h.lane n.val).frames = (s.hw.lane n.val).frames ++ [ownFrame kLaneInfo ftLaneInfo (s.hw.laneInfo n.val)]) ∧
  (∀ (s : State) (n : Fin 8) (p : Pkt) (k : Nat) (h' : Hw), s.hw.radSends = true → s.hw.laneUp n.val = true → s.hw.laneRoom n.val = true →
    (s.hw.lane n.val).infoDue = false → s.hw.takePacket (s.hw.f (RAD_LANE_FIFO n.val) RAD_LANE_FIFO.tx_track) 512 = some (p, k, h') →
    p.abort = false → 12 ≤ p.octets.length → p.octets.length ≤ 1912 → badType (fieldAt p.octets 0 1 % 32) = false →
    fieldAt p.octets 8 4 ≠ 0 → s.hw.tokenValid (fieldAt p.octets 8 4) = true → (s.hw.nbOf (fieldAt p.octets 2 2)).isSome = true →
    Completes (.txPacketTake n) s fun h =>
      ∃ f ∈ (h.lane n.val).frames, f.kind = kTrack ∧ f.ftype = fieldAt p.octets 0 1 % 32 ∧ f.dst = fieldAt p.octets 2 2 ∧
        f.token = fieldAt p.octets 8 4 ∧ f.payload = p.octets.drop 12) ∧
  (∀ (s : State) (n : Fin 8) (m : List Byte) (ms : List (List Byte)), s.hw.radSends = true → s.hw.laneUp n.val = true →
    s.hw.laneRoom n.val = true → (s.hw.lane n.val).infoDue = false →
    s.hw.takePacket (s.hw.f (RAD_LANE_FIFO n.val) RAD_LANE_FIFO.tx_track) 512 = none →
    s.hw.takePacket (s.hw.f (RAD_LANE_FIFO n.val) RAD_LANE_FIFO.tx_echo) 512 = none → (s.hw.lane n.val).rtcm = m :: ms →
    Completes (.txPacketTake n) s fun h =>
      (h.lane n.val).rtcm = ms ∧ (h.lane n.val).frames = (s.hw.lane n.val).frames ++ [ownFrame kRtcm ftRtcm m]) ∧
  (∀ (s : State) (n : Fin 8) (f g : TxFrame), s.hw.laneFree n.val = true →
    pickTx s.hw.now (s.hw.mayStart n.val) false (s.hw.lane n.val).frames = some f → s.hw.tokenOpen f.token = true →
    f.psdu.isEmpty = true → s.hw.reg (ctrReg n.val f) ≠ 0xFFFFFFFF → (∀ i, f.nb = some i → i < 512) →
    (s.hw.secureTx n.val f).map Prod.fst = some g →
    Completes (.frameTransmit n .go) s fun h =>
      (h.lane n.val).onAir = some ⟨false, false, isCcaKind g.kind, g.token, some g, s.hw.now, g.psdu.length + 4⟩ ∧
      h.reg (ctrReg n.val f) = s.hw.reg (ctrReg n.val f) + 1) ∧
  (∀ (s : State) (n : Fin 8) (a : OnAir) (rise fall : Int) (status : BitVec 16), (s.hw.lane n.val).onAir = some a →
    status ≠ 0xFFFF → bit status.toNat 4 = false → (a.cca && bit status.toNat 2 && bit status.toNat 8) = false →
    s.hw.txOk n.val a (some rise) (some fall) (bit status.toNat 2) = true →
    s.hw.f (RAD_LANE_TXCNT n.val) RAD_LANE_TXCNT.frames + 1 < 2 ^ 28 →
    Completes (.frameTransmit n (.done (some rise) (some fall) status)) s fun h =>
      (h.lane n.val).onAir = none ∧ h.f (RAD_LANE_STAT n.val) RAD_LANE_STAT.consec = 0 ∧
      h.f (RAD_LANE_TXCNT n.val) RAD_LANE_TXCNT.frames = s.hw.f (RAD_LANE_TXCNT n.val) RAD_LANE_TXCNT.frames + 1 ∧
      ∀ f, a.frame = some f → f.ar = true → { f with waitAck := some s.hw.now } ∈ (h.lane n.val).frames) ∧
  (∀ (s : State) (n : Fin 8) (a : OnAir) (f : TxFrame) (rise fall : Option Int) (status : BitVec 16), (s.hw.lane n.val).onAir = some a →
    status ≠ 0xFFFF → bit status.toNat 4 = false → (a.cca && bit status.toNat 2 && bit status.toNat 8) = true → a.frame = some f → f.busy < 4 →
    Completes (.frameTransmit n (.done rise fall status)) s fun h =>
      (h.lane n.val).onAir = none ∧ { f with busy := f.busy + 1, notBefore := backOff } ∈ (h.lane n.val).frames ∧
      h.f (RAD_LANE_ERR n.val) RAD_LANE_ERR.cca_busy =
        min RAD_LANE_ERR.cca_busy.max (s.hw.f (RAD_LANE_ERR n.val) RAD_LANE_ERR.cca_busy + 1)) ∧
  (∀ (s : State) (n : Fin 8) (f : TxFrame), (s.hw.lane n.val).frames.find? (fun f => f.waitAck.isSome) = some f → 0 < f.retries →
    Completes (.ackTimeout n) s fun h =>
      { f with retries := f.retries - 1, waitAck := none, notBefore := s.hw.now } ∈ (h.lane n.val).frames) ∧
  (∀ (s : State) (n : Fin 8) (f : TxFrame) (i : Fin 512), (s.hw.lane n.val).frames.find? (fun f => f.waitAck.isSome) = some f →
    f.retries = 0 → f.nb = some i.val →
    Completes (.ackTimeout n) s fun h =>
      h.f (RAD_NB_CNT i.val) RAD_NB_CNT.retries = min RAD_NB_CNT.retries.max (s.hw.f (RAD_NB_CNT i.val) RAD_NB_CNT.retries + 1)) ∧
  (∀ (s : State) (n : Fin 8) (f : TxFrame), (s.hw.lane n.val).frames.find? (fun f => decide (f.notBefore = backOff)) = some f →
    (s.hw.laneFree n.val && s.hw.mayStart n.val { f with notBefore := s.hw.now }) = false →
    Completes (.ccaRetry n) s fun h => { f with notBefore := s.hw.now } ∈ (h.lane n.val).frames) ∧
  (∀ (s : State) (n : Fin 8) (f : TxFrame), (s.hw.lane n.val).frames.find? (fun f => decide (f.notBefore = backOff)) = some f →
    s.hw.laneFree n.val = true → s.hw.mayStart n.val { f with notBefore := s.hw.now } = true → s.hw.tokenOpen f.token = true →
    f.psdu.isEmpty = false →
    Completes (.ccaRetry n) s fun h =>
      (h.lane n.val).onAir =
        some ⟨false, false, isCcaKind f.kind, f.token, some { f with notBefore := s.hw.now }, s.hw.now, f.psdu.length + 4⟩)

/-- The radio's receiving and interface commands complete (R228, R229, R244–R246): the commands of the transceiver go out with their octets, an
interrupt adds the frame read, a received frame leaves the queue; one outside the format is counted; a new observation frame of a neighbour
that its key opens advances the counter and goes to the observation intake, and one that it does not open is counted; a dropped receive packet is counted. -/
def Obligations.RadioReceiveCommandsComplete : Prop :=
  (∀ (s : State) (n : Fin 8) (addr : BitVec 16) (data : List Byte) (count : Byte), s.hw.cmdOpen n.val = true →
    Completes (.rxOn n) s (fun h => h.bus.out = [.lane n.val 0x06 []] ∧ (h.lane n.val).rxOn = true) ∧
    Completes (.idle n) s (fun h => h.bus.out = [.lane n.val 0x07 []] ∧ (h.lane n.val).rxOn = false) ∧
    Completes (.regWrite n addr data) s (fun h => h.bus.out = [.lane n.val 0x08 (leBytes 2 addr.toNat ++ data)]) ∧
    Completes (.regRead n addr count data) s (fun h => h.bus.out = [.lane n.val 0x09 (leBytes 2 addr.toNat ++ leBytes 1 count.toNat)] ∧
      h.bus.resp = .octets (data.take count.toNat))) ∧
  (∀ (s : State) (n : Fin 8) (status : BitVec 16) (psdu : List Byte) (rssi lqi : Byte) (age : Nat), s.hw.laneUp n.val = true →
    status ≠ 0xFFFF → bit status.toNat 4 = false →
    Completes (.laneIrq n status psdu rssi lqi age) s fun h =>
      (bit status.toNat 0 = true → psdu ≠ [] →
        (h.lane n.val).rx = (s.hw.lane n.val).rx ++ [⟨psdu, rssi.toNat, lqi.toNat, s.hw.now - age⟩] ∧ (h.lane n.val).idleReads = 0) ∧
      (bit status.toNat 0 = false → bit status.toNat 1 = false → bit status.toNat 2 = false → (s.hw.lane n.val).idleReads = 0 →
        (h.lane n.val).rx = (s.hw.lane n.val).rx ∧ (h.lane n.val).idleReads = 1)) ∧
  (∀ (s : State) (n : Fin 8) (x : RxFrame) (xs : List RxFrame), (s.hw.lane n.val).rx = x :: xs →
    Completes (.frameReceive n) s fun h =>
      (h.lane n.val).rx = xs ∧
      (s.hw.rxStep1 (parseFrame (s.hw.f RAD_OUI RAD_OUI.oui) x.psdu) = false →
        h.f RAD_ERR2 RAD_ERR2.unsupported = min RAD_ERR2.unsupported.max (s.hw.f RAD_ERR2 RAD_ERR2.unsupported + 1))) ∧
  (∀ (s : State) (n : Fin 8) (x : RxFrame) (xs : List RxFrame) (p : Parsed) (i : Nat) (c : List Byte), (s.hw.lane n.val).rx = x :: xs →
    parseFrame (s.hw.f RAD_OUI RAD_OUI.oui) x.psdu = p → s.hw.rxStep1 p = true → rxStep2 p = true → p.mac = macData → p.ar = false →
    p.ie = some c → ieType c = ftObs → ieFlood c = none → s.hw.sends = true → s.hw.flag RAD_CFG RAD_CFG.enable = true →
    s.hw.nbOf (p.src.getD 0) = some i → s.hw.freshOf i p.ctr p.seq = .new →
    Completes (.frameReceive n) s fun h =>
      match s.hw.rxOpen p ftObs (s.hw.nbEui i) (some i) with
      | some m =>
        h.rad.toObs = s.hw.rad.toObs ++ [⟨n.val, ieRobot c, ieEpoch c, p.ctr, m, x.time⟩] ∧
          h.reg (RAD_NB_RXCTR i) = BitVec.ofNat 32 p.ctr ∧ h.f (RAD_NB_SEQ i) RAD_NB_SEQ.rx_last = p.seq % 256
      | none =>
        h.rad.toObs = s.hw.rad.toObs ∧ h.f RAD_ERR RAD_ERR.auth_fail = min RAD_ERR.auth_fail.max (s.hw.f RAD_ERR RAD_ERR.auth_fail + 1)) ∧
  (∀ s : State, s.hw.holdsPacket prodRx (s.hw.f RAD_STREAMS RAD_STREAMS.rx_fifo) = true →
    Completes .rxDropTimeout s fun h =>
      h.f RAD_ERR2 RAD_ERR2.rx_dropped = min RAD_ERR2.rx_dropped.max (s.hw.f RAD_ERR2 RAD_ERR2.rx_dropped + 1))

/-- Flooding, the indirect store and rendezvous complete (R251–R255): a site broadcast takes the next identifier and goes out on each lane; a relay
leaves on every lane of its own; a poll draws the frame held for its neighbour; an expired frame is dropped and counted; a rendezvous opens the
window with the receivers on, and its end counts the silent. -/
def Obligations.FloodAndRendezvousCommandsComplete : Prop :=
  (∀ (s : State) (p : Pkt) (k : Nat) (h' : Hw), s.hw.radSends = true →
    (s.hw.lanesUp.filter (bit (s.hw.f RAD_STREAMS RAD_STREAMS.flood_mask))).all s.hw.laneRoom = true →
    s.hw.takePacket (s.hw.f RAD_STREAMS RAD_STREAMS.flood_fifo) 512 = some (p, k, h') → p.abort = false → 12 ≤ p.octets.length →
    p.octets.length ≤ 1912 → fieldAt p.octets 1 1 / 16 ≠ 0 →
    Completes .floodOriginate s fun h =>
      h.f RAD_FLOOD_ID RAD_FLOOD_ID.next_id = (s.hw.f RAD_FLOOD_ID RAD_FLOOD_ID.next_id + 1) % 0x8000 ∧
      (s.hw.unitAddr, s.hw.f RAD_FLOOD_ID RAD_FLOOD_ID.next_id, s.hw.now) ∈ h.rad.seen ∧
      ∀ n < 8, s.hw.laneUp n = true → bit (s.hw.f RAD_STREAMS RAD_STREAMS.flood_mask) n = true →
        ∃ f ∈ (h.lane n).frames, f.kind = kSite ∧ f.payload = p.octets.drop 12 ∧
          f.flood = some (s.hw.unitAddr, s.hw.f RAD_FLOOD_ID RAD_FLOOD_ID.next_id, fieldAt p.octets 1 1 / 16)) ∧
  (∀ (s : State) (r : Relay) (rs : List Relay), s.hw.rad.relays = r :: rs → s.hw.radSends = true →
    (∀ n ∈ r.lanes, s.hw.laneUp n = true ∧ s.hw.laneRoom n = true) →
    Completes .floodRelay s fun h => h.rad.relays = rs ∧ ∀ n ∈ r.lanes, r.frame ∈ (h.lane n).frames) ∧
  (∀ (s : State) (n i : Nat) (rest : List (Nat × Nat)), s.hw.rad.polls = (n, i) :: rest →
    Completes .dataRequest s fun h =>
      (s.hw.rad.indirect.find? (fun x => decide (x.nb = i)) = none → h.rad.polls = rest) ∧
      (∀ x, s.hw.rad.indirect.find? (fun x => decide (x.nb = i)) = some x → s.hw.laneUp n = true → s.hw.laneRoom n = true →
        h.rad.polls = rest ∧ h.rad.indirect = dropOne (fun y => decide (y = x)) s.hw.rad.indirect ∧
        ∃ b, { x.frame with pend := b } ∈ (h.lane n).frames)) ∧
  (∀ (s : State) (x : Indirect) (xs : List Indirect), s.hw.rad.indirect = x :: xs →
    Completes .indirectExpiry s fun h =>
      h.rad.indirect = xs ∧
      h.f RAD_IND_STAT RAD_IND_STAT.indirect_drop = min RAD_IND_STAT.indirect_drop.max (s.hw.f RAD_IND_STAT RAD_IND_STAT.indirect_drop + 1)) ∧
  (∀ s : State, s.hw.flag RAD_RDV_CFG RAD_RDV_CFG.enable = true →
    Completes .rendezvous s fun h =>
      h.rad.window = some [] ∧
      ∀ n < 8, s.hw.laneUp n = true → bit (s.hw.f RAD_RDV_CFG RAD_RDV_CFG.lane_mask) n = true → (h.lane n).rxOn = true) ∧
  (∀ (s : State) (heard : List Nat), s.hw.rad.window = some heard →
    Completes .rendezvousWindowEnd s fun h =>
      h.rad.window = none ∧
      ∀ i < 512, s.hw.sleepy i = true → s.hw.flag (RAD_NB_CFG i) RAD_NB_CFG.joined = true → memb i heard = false →
        (s.hw.f (RAD_NB_CFG i) RAD_NB_CFG.rdv_miss < 3 →
          h.f (RAD_NB_CFG i) RAD_NB_CFG.rdv_miss = s.hw.f (RAD_NB_CFG i) RAD_NB_CFG.rdv_miss + 1) ∧
        (3 ≤ s.hw.f (RAD_NB_CFG i) RAD_NB_CFG.rdv_miss → h.flag (RAD_NB_CFG i) RAD_NB_CFG.joined = false))

/-- Stops complete (R260–R263, R265, R266, R268, R270–R272, R274): a stop input that has not read run, an escalation or self-test of SP, a stop frame
of another base, a readback that differs, a dry run that misses a gate signal and a failed SP each stop the fleet with their own source; a decision
of SP on one robot stops that robot. -/
def Obligations.StopSourcesComplete : Prop :=
  (∀ (s : State) (i : StopInput) (hi lo : Bool), Completes (.stopPin i hi lo) s fun h =>
    (h.stp.pins.at (pinNo i)).hi = hi ∧ (h.stp.pins.at (pinNo i)).lo = lo ∧ (h.stp.pins.at (pinNo i)).since = s.hw.now ∧
      (h.stp.pins.at (pinNo i)).active = (s.hw.stp.pins.at (pinNo i)).active) ∧
  (∀ (s : State) (i : StopInput), readsRun (s.hw.stp.pins.at (pinNo i)) = false → (s.hw.stp.pins.at (pinNo i)).active = false →
    s.hw.pinEnabled i = true →
    Completes (.stopPinFiltered i) s fun h =>
      (h.stp.pins.at (pinNo i)).active = true ∧ FleetStopped s.hw h (1 + pinNo i) ∧
      h.f STP_STAT STP_STAT.stop_id = (s.hw.f STP_STAT STP_STAT.stop_id + 1) % 65536) ∧
  (∀ (s : State) (i : StopInput), (s.hw.stp.pins.at (pinNo i)).hi = (s.hw.stp.pins.at (pinNo i)).lo → s.hw.flag STP_PINS (discFld i) = false →
    Completes (.discrepancyLatch i) s fun h =>
      h.flag STP_PINS (discFld i) = true ∧ h.f STP_ERR STP_ERR.disc = min STP_ERR.disc.max (s.hw.f STP_ERR STP_ERR.disc + 1)) ∧
  (∀ (s : State) (i : StopInput), readsRun (s.hw.stp.pins.at (pinNo i)) = true →
    (s.hw.flag STP_PINS (discFld i) = false ∨ (s.hw.stp.pins.at (pinNo i)).seenStop = true) →
    Completes (.pinRunConfirmed i) s fun h => (h.stp.pins.at (pinNo i)).active = false ∧ h.flag STP_PINS (discFld i) = false) ∧
  (∀ (s : State) (src : Fin 3), Completes (.spDecision false src 0) s fun h =>
    FleetStopped s.hw h (8 + src.val) ∧ memb (8 + src.val) h.stp.sp = true) ∧
  (∀ (s : State) (src : Fin 3) (r : Fin 129), r.val ≠ 0 → Completes (.spDecision false src r) s fun h =>
    (h.target r.val).isSome = true ∧ h.stpState = s.hw.stpState ∧ h.f (STP_TGT ((r.val - 1) / 32)) ⟨(r.val - 1) % 32, 1⟩ = 1) ∧
  (∀ (s : State) (x : StopIn) (xs : List StopIn), s.hw.rad.toStp = x :: xs → fieldAt x.payload 0 1 = 1 → x.payload.length = 8 → x.robot = 0 →
    0xFF00 ≤ x.flood.1 → x.flood.1 ≤ 0xFF1F → s.hw.flag STP_SRC_CFG STP_SRC_CFG.base_fleet = true →
    Completes .stopFrame s fun h => h.rad.toStp = xs ∧ FleetStopped s.hw h 6) ∧
  (∀ (s : State) (o : Fin 4), memb o.val s.hw.stp.pulsing = false → Completes (.readbackMismatch o) s fun h =>
    FleetStopped s.hw h 10 ∧ h.f STP_ERR STP_ERR.readback = min STP_ERR.readback.max (s.hw.f STP_ERR STP_ERR.readback + 1)) ∧
  (∀ (s : State) (raised : BitVec 5), Completes (.dryRun raised) s fun h =>
    h.hlt.dryRunFailed = decide (raised ≠ 31) ∧ (raised ≠ 31 → FleetStopped s.hw h 10)) ∧
  (∀ (s : State) (kind : Word), Completes (.spLockstepFail kind) s fun h =>
    h.stp.spBad = true ∧ h.spWorks = false ∧
      (bit (s.hw.f STP_SRC_STAT STP_SRC_STAT.latched) 11 = false → FleetStopped s.hw h 11)) ∧
  (∀ s : State, s.hw.spWorks = true → Completes .spKick s fun h => h.eqx.spKick = some s.hw.now)

/-- The host's commands complete (R262, R266, R273): with open stops allowed to a privileged host a fleet stop or a targeted stop needs no tag; a
release needs the right tag, no source that blocks it, and the least time since the newest stop; arming needs both keys and the stop
configuration; SP may release what it alone has stopped. -/
def Obligations.StopCommandsComplete : Prop :=
  (∀ (s : State) (via : BusAcc) (v : Word), Permitted s.hw via STP_CMD_TAG_HI → (via.master = .ha ∨ via.master = .hb) → via.unpriv = false →
    s.hw.stpState ≠ stpUnarmed → s.hw.flag STP_SRC_CFG STP_SRC_CFG.host_en = true → s.hw.flag STP_CFG STP_CFG.open_stop = true →
    s.hw.stp.lastCtr < (s.hw.reg STP_CMD_CTR).toNat →
    (STP_CMD_ARG.kind.get (s.hw.reg STP_CMD_ARG) = 1 →
      Completes (.fleetStopCommand via v) s fun h =>
        FleetStopped s.hw h (if via.master = .ha then 3 else 4) ∧ h.f STP_CMD_RES STP_CMD_RES.result = 0) ∧
    (STP_CMD_ARG.kind.get (s.hw.reg STP_CMD_ARG) = 2 → 1 ≤ STP_CMD_ARG.robot.get (s.hw.reg STP_CMD_ARG) →
      STP_CMD_ARG.robot.get (s.hw.reg STP_CMD_ARG) ≤ 128 →
      Completes (.targetedStopCommand via v) s fun h =>
        (h.target (STP_CMD_ARG.robot.get (s.hw.reg STP_CMD_ARG))).isSome = true ∧ h.stpState = s.hw.stpState ∧
          h.f STP_CMD_RES STP_CMD_RES.result = 0)) ∧
  (∀ (s : State) (via : BusAcc) (v : Word), Permitted s.hw via STP_CMD_TAG_HI → (via.master = .ha ∨ via.master = .hb) →
    s.hw.stpState = stpStopped → s.hw.flag STP_SRC_CFG STP_SRC_CFG.host_en = true → s.hw.stp.lastCtr < (s.hw.reg STP_CMD_CTR).toNat →
    STP_CMD_ARG.kind.get (s.hw.reg STP_CMD_ARG) = 3 → STP_CMD_ARG.robot.get (s.hw.reg STP_CMD_ARG) = 0 →
    s.hw.fleetBlock = none → s.hw.stopMinPassed = true → (s.hw.paired = false ∨ s.hw.role = 2) →
    Completes (.releaseCommand via v) s fun h =>
      if s.hw.ports.cmd ≠ [] ∧ cmdTag s.hw.ports.cmd s.hw.ident (s.hw.reg STP_CMD_CTR).toNat (s.hw.reg STP_CMD_ARG).toNat =
          leBytes 4 (heldLow s.hw via.master.num STP_CMD_TAG_HI).toNat ++ leBytes 4 v.toNat then
        h.stpState = stpRunning ∧ h.fleetHold = false ∧ h.f STP_CMD_RES STP_CMD_RES.result = 0 ∧ h.stp.lastCtr = (s.hw.reg STP_CMD_CTR).toNat
      else h.stpState = stpStopped ∧ h.f STP_CMD_RES STP_CMD_RES.result = 1 ∧ h.stp.lastCtr = s.hw.stp.lastCtr) ∧
  (∀ (s : State) (src : Fin 3), s.hw.stpState = stpStopped →
    s.hw.f STP_SRC_STAT STP_SRC_STAT.latched &&& (2 ^ 16 - 1 - 2 ^ 9 - 2 ^ 10) &&& (2 ^ 16 - 1 - s.hw.targetSources) = 0 →
    (s.hw.updStp fun p => { p with sp := without (8 + src.val) p.sp }).fleetBlock = none → s.hw.stopMinPassed = true →
    (s.hw.paired = false ∨ s.hw.role = 2) →
    Completes (.spDecision true src 0) s fun h => h.stpState = stpRunning ∧ h.fleetHold = false) ∧
  (∀ (s : State) (src : Fin 3) (r : Fin 129) (t : Target), r.val ≠ 0 → s.hw.stp.targets.Pairwise (fun a b => a.robot < b.robot) →
    s.hw.target r.val = some t → t.asserting = [8 + src.val] → t.sources = [8 + src.val] →
    Completes (.spDecision true src r) s fun h =>
      h.target r.val = none ∧ h.f (STP_TGT ((r.val - 1) / 32)) ⟨(r.val - 1) % 32, 1⟩ = 0) ∧
  (∀ (s : State) (via : BusAcc), Permitted s.hw via STP_CTRL → s.hw.stpState = stpUnarmed →
    Completes (.arm via) s fun h =>
      h.stpState = if s.hw.ports.stop ≠ [] ∧ s.hw.ports.cmd ≠ [] ∧ memb 3 s.hw.cfg.applied = true then stpStopped else stpUnarmed)

/-- The frames, outputs and holds of the stop sequencer complete (R242, R266, R269, R270, R272, R279): a mark cell of a running sequencer advances
the permit sequence and each lane's counter; stop frames repeat in a hold; runs are claimed and used in order; a relay that waited too long goes; a
hold ends; outputs become active after their delay and are pulsed. -/
def Obligations.StopFrameCommandsComplete : Prop :=
  (∀ (s : State) (j : Fin 5), s.hw.stpState = stpRunning → s.hw.sends = true →
    Completes (.permitMark j) s fun h =>
      h.stp.permitSeq = (s.hw.stp.permitSeq + 1) % 65536 ∧ h.stp.markAt = s.hw.now ∧
      ∀ n < 8, s.hw.laneUp n = true → s.hw.ports.stop ≠ [] → (s.hw.reg (STP_LANE_CTR n)).toNat + 1 < 2 ^ 32 - 1 →
        h.reg (STP_LANE_CTR n) = s.hw.reg (STP_LANE_CTR n) + 1) ∧
  (∀ (s : State) (j : Fin 5) (t : Nat), s.hw.eqx.spKick = some t → s.hw.now ≤ t + 10000000 →
    Completes (.permitMark j) s fun h => h.eqx.wdogKick = s.hw.now) ∧
  (∀ s : State, s.hw.fleetHold = true → s.hw.stpState = stpStopped → s.hw.sends = true →
    (∀ t, s.hw.stp.firstAt = some t → t + 2000000 ≤ s.hw.now) →
    Completes .stopRepeat s fun h =>
      ∀ n < 8, s.hw.laneUp n = true → s.hw.ports.stop ≠ [] → (s.hw.reg (STP_LANE_CTR n)).toNat + 1 < 2 ^ 32 - 1 →
        h.stp.firstAt = none ∧ h.reg (STP_LANE_CTR n) = s.hw.reg (STP_LANE_CTR n) + 1) ∧
  (∀ (s : State) (j : Fin 5) (r : Nat), s.hw.stpState ≠ stpUnarmed → s.hw.sends = true → s.hw.nextTarget = some r →
    Completes (.stopRun (.claim j)) s fun h =>
      h.stp.window = some (r, s.hw.f STP_FLOOD_ID STP_FLOOD_ID.next_id) ∧ h.stp.named = r ∧
      ∀ n < 8, s.hw.laneUp n = true → (h.lane n).run = (s.hw.updLane n fun l => { l with run := none }).findRun n j.val) ∧
  (∀ (s : State) (n : Fin 8) (c : Nat) (r : StopRelay), (s.hw.lane n.val).run = some c →
    (s.hw.stp.relays.filter fun q => memb n.val q.lanes).find? StopRelay.fleet = some r →
    Completes (.stopRun (.send n)) s fun h => r ∉ h.stp.relays) ∧
  (∀ (s : State) (n : Fin 8) (c r fid : Nat) (t : Target), (s.hw.lane n.val).run = some c →
    (s.hw.stp.relays.filter fun q => memb n.val q.lanes).find? StopRelay.fleet = none → s.hw.stp.window = some (r, fid) →
    s.hw.target r = some t → s.hw.fleetHold = false → s.hw.laneUp n.val = true → s.hw.sends = true → s.hw.ports.stop ≠ [] →
    (s.hw.reg (STP_LANE_CTR n.val)).toNat + 1 < 2 ^ 32 - 1 →
    Completes (.stopRun (.send n)) s fun h => h.reg (STP_LANE_CTR n.val) = s.hw.reg (STP_LANE_CTR n.val) + 1) ∧
  (∀ s : State, Completes .relayTimeout s fun h => h.stp.relays = s.hw.stp.relays.drop 1) ∧
  (∀ (s : State) (r : Fin 129), Completes (.stopHoldExpiry r) s fun h =>
    (r.val = 0 → h.fleetHold = false) ∧ h.stpState = s.hw.stpState ∧
      (r.val ≠ 0 → ∀ t ∈ h.stp.targets, t.robot = r.val → t.hold = false)) ∧
  (∀ s : State, s.hw.stpState = stpRunning → s.hw.stp.marked = true → Completes .outputDelayExpiry s fun h => h.stp.outsOn = true) ∧
  (∀ (s : State) (o : Fin 4), Completes (.testPulse o false) s (fun h => memb o.val h.stp.pulsing = false) ∧
    (s.hw.f (STP_OUT_CFG o.val) STP_OUT_CFG.pulse_us ≠ 0 → s.hw.outActive o.val = true →
      Completes (.testPulse o true) s fun h => memb o.val h.stp.pulsing = true ∧ h.outActive o.val = false))

/-- The link of a pair completes its commands (R276–R278, R280, R284): a heartbeat sent advances its number, one received replaces what the partner last
said, one missed is counted; the primary's batch leaves nothing unsent; a record in sequence is applied and one out of sequence ends the resync; a
snapshot brings the standby into sequence; the link's ups and downs show. -/
def Obligations.PairLinkCommandsComplete : Prop :=
  (∀ s : State, s.hw.paired = true → Completes .heartbeatSend s fun h =>
    h.eqx.hbSeq = (s.hw.eqx.hbSeq + 1) % 65536 ∧
      (s.hw.linkUp = true → s.hw.ports.link ≠ [] → h.eqx.txCount = s.hw.eqx.txCount + 1)) ∧
  (∀ (s : State) (b : List Byte), s.hw.paired = true → s.hw.linkUp = true → s.hw.ports.link ≠ [] → b.length = 48 →
    Completes (.heartbeatReceive b true) s fun h =>
      h.eqx.peer = some (readPeer b) ∧ h.f EQX_LINK EQX_LINK.missed = 0 ∧ h.f EQX_STAT EQX_STAT.hb_seq = fieldAt b 2 2) ∧
  (∀ (s : State) (b : List Byte), s.hw.paired = true → s.hw.linkUp = true → Completes (.heartbeatReceive b false) s fun h =>
    h.eqx.peer = s.hw.eqx.peer ∧ h.f EQX_ERR EQX_ERR.auth_fail = min EQX_ERR.auth_fail.max (s.hw.f EQX_ERR EQX_ERR.auth_fail + 1)) ∧
  (∀ s : State, s.hw.paired = true → Completes .heartbeatMiss s fun h =>
    h.f EQX_LINK EQX_LINK.missed = min 3 (s.hw.f EQX_LINK EQX_LINK.missed + 1) ∧
      h.f EQX_ERR EQX_ERR.hb_lost = min EQX_ERR.hb_lost.max (s.hw.f EQX_ERR EQX_ERR.hb_lost + 1) ∧ h.eqx.missedAt = some s.hw.now) ∧
  (∀ s : State, s.hw.paired = true → s.hw.role = 2 → Completes .mirrorBatch s fun h =>
    h.eqx.ctrSent = s.hw.counterList ∧ ∀ i < 512, s.hw.nbValid i = true → h.eqx.nbSent.at i = some (s.hw.nbMirror i)) ∧
  (∀ (s : State) (seq : Word) (item : MirrorItem) (lag : Nat), s.hw.paired = true → s.hw.linkUp = true → s.hw.role = 1 → s.hw.ports.link ≠ [] →
    s.hw.eqx.resynced = true →
    Completes (.mirrorRecord seq item lag true) s fun h =>
      (seq.toNat = (s.hw.eqx.applied + 1) % 2 ^ 32 →
        h.eqx.applied = seq.toNat ∧ h.eqx.appliedAt = s.hw.now ∧ h.f EQX_MIRROR EQX_MIRROR.lag_us = min 65535 lag ∧
        (∀ n ax, item = .axis n ax → h.axis n = ax) ∧
        (∀ t n v l, item = .superframe t n v l → h.rad.tsf = t ∧ h.reg RAD_SFNUM = BitVec.ofNat 32 n)) ∧
      (seq.toNat ≠ (s.hw.eqx.applied + 1) % 2 ^ 32 → h.eqx.resynced = false ∧ h.eqx.applied = s.hw.eqx.applied)) ∧
  (∀ (s : State) (seq : Word) (items : List MirrorItem) (hashes : List Word), s.hw.paired = true → s.hw.linkUp = true → s.hw.role = 2 →
    Completes (.snapshot seq items hashes true) s fun h => h.bus.out = [.snapshot s.hw.eqx.sent s.hw.snapshotItems]) ∧
  (∀ (s : State) (seq : Word) (items : List MirrorItem) (hashes : List Word), s.hw.paired = true → s.hw.linkUp = true → s.hw.role = 1 →
    s.hw.ports.link ≠ [] →
    Completes (.snapshot seq items hashes true) s fun h =>
      h.eqx.applied = seq.toNat ∧ h.eqx.resynced = true ∧ h.eqx.inSequence = true ∧ h.f EQX_MIRROR EQX_MIRROR.lag_us = 0) ∧
  (∀ (s : State) (via : BusAcc), Permitted s.hw via EQX_CTRL → s.hw.paired = true →
    Completes (.resync via) s fun h =>
      (s.hw.role = 2 → s.hw.linkUp = true → ∃ x, h.bus.out = [.snapshot s.hw.eqx.sent x]) ∧ (s.hw.role ≠ 2 → h.eqx.resynced = false)) ∧
  (∀ s : State, s.hw.paired = true → Completes .pairLinkUp s fun h =>
    h.f EQX_LINK EQX_LINK.state = 2 ∧ h.f EQX_LINK EQX_LINK.missed = 0 ∧ h.eqx.resynced = false) ∧
  (∀ s : State, Completes .pairLinkDown s fun h =>
    h.f EQX_LINK EQX_LINK.state = 0 ∧ h.flag EQX_STAT EQX_STAT.peer_ready = false ∧ h.eqx.resynced = false)

/-- The interlock and the handover complete (R279–R281, R283): a standby that detects a failed primary claims the interlock; confirmed, it becomes
primary with its counters advanced by the gap, stopped where the takeover is cold; if both units have claimed, unit 1 releases; an expired
watchdog releases; a handover passes through its stages. -/
def Obligations.InterlockCommandsComplete : Prop :=
  (∀ (s : State) (high : Bool), Completes (.senseHigh high) s fun h =>
    h.flag EQX_STAT EQX_STAT.sense = high ∧
      h.eqx.senseAt = if high then (if s.hw.eqx.senseAt.isSome then s.hw.eqx.senseAt else some s.hw.now) else none) ∧
  (∀ s : State, s.hw.detects = true → Completes .takeoverDetect s fun h =>
    h.role = 3 ∧ h.flag EQX_STAT EQX_STAT.hold = true ∧ h.eqx.detectAt = some s.hw.now ∧ h.eqx.warm = s.hw.readyNow) ∧
  (∀ (s : State) (high : Bool) (n : Fin 8), s.hw.role = 3 → (high = true ∨ s.hw.f EQX_CFG EQX_CFG.unit = 0) → s.hw.sends = false →
    s.hw.spWorks = true → s.hw.laneUp n.val = true → s.hw.laneDegraded n.val = false →
    (s.hw.reg (STP_LANE_CTR n.val)).toNat + s.hw.gap < 2 ^ 32 - 1 →
    Completes (.interlockConfirm high) s fun h =>
      h.role = 2 ∧ h.flag RAD_CFG RAD_CFG.listen = false ∧ h.reg EQX_LAST_GAP = BitVec.ofNat 32 s.hw.gap ∧
      h.reg (STP_LANE_CTR n.val) = s.hw.reg (STP_LANE_CTR n.val) + BitVec.ofNat 32 s.hw.gap ∧
      (∀ i < 512, h.reg (RAD_NB_TXCTR i) = BitVec.ofNat 32 (min (2 ^ 32 - 1) ((s.hw.reg (RAD_NB_TXCTR i)).toNat + s.hw.gap))) ∧
      (s.hw.eqx.warm = false → FleetStopped s.hw h 13) ∧ (s.hw.eqx.warm = true → h.stpState = s.hw.stpState)) ∧
  (∀ s : State, s.hw.role = 3 → s.hw.f EQX_CFG EQX_CFG.unit = 1 → s.hw.paired = true →
    Completes (.interlockConfirm false) s fun h => h.role = 1 ∧ h.flag EQX_STAT EQX_STAT.hold = false) ∧
  (∀ s : State, s.hw.paired = true → s.hw.flag EQX_STAT EQX_STAT.hold = true →
    Completes .interlockWatchdogExpiry s fun h =>
      h.role = 1 ∧ h.flag EQX_STAT EQX_STAT.hold = false ∧ h.sends = false ∧ h.bus.out = [.pin "EQX_HOLD" true]) ∧
  (∀ (s : State) (via : BusAcc), Permitted s.hw via EQX_CTRL → s.hw.paired = true → s.hw.role = 2 → s.hw.eqx.handover = .none →
    Completes (.handover via) s fun h =>
      h.eqx.handover = if s.hw.flag EQX_STAT EQX_STAT.peer_ready = true then .waitMark else .waitReady) ∧
  (∀ s : State, s.hw.paired = true → s.hw.role = 2 → s.hw.eqx.handover = .waitMark →
    Completes .handoverRelease s fun h => h.role = 1 ∧ h.flag EQX_STAT EQX_STAT.hold = false ∧ h.eqx.handover = .none) ∧
  (∀ s : State, s.hw.eqx.handover = .waitReady → Completes .handoverTimeout s fun h =>
    h.eqx.handover = .none ∧ h.flag EQX_IRQ_STAT EQX_IRQ_STAT.not_ready = true) ∧
  (∀ (s : State) (via : BusAcc), Permitted s.hw via EQX_CTRL →
    Completes (.clearFault via) s fun h => h.flag EQX_STAT EQX_STAT.interlock_fault = false ∧ h.eqx.heldSeen = false)

/-- Calends' commands complete (R285–R290, R293, R298–R301): a snapshot answers the nanoseconds and keeps the seconds for its reader; an increment
waits for the next tick; a step moves site time, or is refused and counted; an offset is stored; a lost source leads to holdover; the
timestamp queue gives its oldest entry; encoders count; triggers are armed, refused, cancelled and fired. -/
def Obligations.CalendsCommandsComplete : Prop :=
  (∀ (s : State) (via : BusAcc), Readable s.hw via CAL_TIME_NS → Completes (.timeSnapshot via) s fun h =>
    h.bus.resp = .data [BitVec.ofNat 32 s.hw.cal.ns] ∧ h.readShadow via.master.num CAL_TIME_S_LO = some (BitVec.ofNat 32 s.hw.cal.sec) ∧
      h.now = s.hw.now) ∧
  (∀ (s : State) (via : BusAcc) (v : Word), Permitted s.hw via CAL_INC_INT → Completes (.incrementWrite via v) s fun h =>
    h.cal.incNext = some (CAL_INC_INT.ns.get v * 2 ^ 32 + (s.hw.reg CAL_INC_FRAC).toNat) ∧ h.cal.inc = s.hw.cal.inc) ∧
  (∀ (s : State) (via : BusAcc) (v : Word) (off : Int), Permitted s.hw via CAL_STEP_HI →
    off = toInt 64 ((heldLow s.hw via.master.num CAL_STEP_HI).toNat + v.toNat * 2 ^ 32) →
    (s.hw.stepAllowed = true → 0 ≤ (s.hw.now : Int) + off →
      Completes (.step via v) s fun h => (h.now : Int) = s.hw.now + off ∧ h.cal.sum = 0) ∧
    (s.hw.stepAllowed = false →
      Completes (.step via v) s fun h =>
        h.now = s.hw.now ∧ h.f CAL_ERR CAL_ERR.step_refused = min CAL_ERR.step_refused.max (s.hw.f CAL_ERR CAL_ERR.step_refused + 1))) ∧
  (∀ (s : State) (via : BusAcc), Permitted s.hw via CAL_CTRL → Completes (.unset via) s fun h =>
    (s.hw.noToken = true → s.hw.stpState ≠ stpRunning → h.calState = calUnset) ∧
    ((s.hw.noToken = false ∨ s.hw.stpState = stpRunning) →
      h.calState = s.hw.calState ∧ h.f CAL_ERR CAL_ERR.step_refused = min CAL_ERR.step_refused.max (s.hw.f CAL_ERR CAL_ERR.step_refused + 1))) ∧
  (∀ (s : State) (via : BusAcc) (v : Word), Permitted s.hw via CAL_OFS_IN → s.hw.f CAL_CFG CAL_CFG.source = 2 →
    Completes (.offsetIn via v) s fun h =>
      h.flag CAL_OFS CAL_OFS.valid = true ∧
      h.f CAL_OFS CAL_OFS.offset = ofInt 31 (max (-1073741823) (min 1073741823 (toInt 32 v.toNat))) ∧
      (s.hw.flag CAL_CFG CAL_CFG.servo_hw = true → s.hw.stepAllowed = true → 0 ≤ (s.hw.now : Int) - toInt 32 v.toNat →
        (h.now : Int) = s.hw.now - toInt 32 v.toNat)) ∧
  (∀ s : State, s.hw.calState = calTracking → Completes .sourceLost s fun h =>
    h.calState = calHoldover ∧ h.cal.inc = incClamp s.hw.meanInc ∧ h.cal.uncBase = (s.hw.reg CAL_UNC).toNat ∧ h.cal.uncSince = s.hw.now) ∧
  (∀ (s : State) (via : BusAcc), Readable s.hw via CAL_TSQ_ID → Completes (.tsqPop via) s fun h =>
    h.cal.tsq = s.hw.cal.tsq.drop 1 ∧ h.bus.resp = .data [(s.hw.cal.tsq.head?.map fun e => e.words.1).getD 0]) ∧
  (∀ (s : State) (n : Fin 2) (a b : Bool) (d : Nat), s.hw.flag (CAL_ENC_CFG n.val) CAL_ENC_CFG.enable = true →
    d = (quadPlace a b + 4 - quadPlace (s.hw.cal.enc.at n.val).1 (s.hw.cal.enc.at n.val).2) % 4 →
    Completes (.encoderEdge n a b) s fun h =>
      h.cal.enc.at n.val = (a, b) ∧
      (d = 2 → h.f (CAL_ENC_ERR n.val) CAL_ENC_ERR.illegal =
        min CAL_ENC_ERR.illegal.max (s.hw.f (CAL_ENC_ERR n.val) CAL_ENC_ERR.illegal + 1)) ∧
      (d = 1 ∨ d = 3 → h.reg64 (CAL_ENC_CNT_LO n.val) = ofInt 64 (toInt 64 (s.hw.reg64 (CAL_ENC_CNT_LO n.val)) +
        if decide (d = 1) != s.hw.flag (CAL_ENC_CFG n.val) CAL_ENC_CFG.invert then 1 else -1))) ∧
  (∀ (s : State) (via : BusAcc) (t : Fin 16) (v : Word), Permitted s.hw via (CAL_TRIG_CFG t.val) → CAL_TRIG_CFG.cancel.get v = 0 →
    CAL_TRIG_CFG.axis.get v = 0 → CAL_TRIG_CFG.class.get v = 0 →
    (CAL_TRIG_CFG.target.get v ≤ 7 → (∀ u < 16, u ≠ t.val → s.hw.trigState u ≠ trigArmed) →
      (s.hw.now : Int) ≤ toInt 64 (s.hw.reg64 (CAL_TRIG_START_LO t.val)) →
      Completes (.triggerArm via t v) s fun h =>
        h.trigState t.val = trigArmed ∧ h.cal.next.at t.val = toInt 64 (s.hw.reg64 (CAL_TRIG_START_LO t.val))) ∧
    (7 < CAL_TRIG_CFG.target.get v → Completes (.triggerArm via t v) s fun h =>
      h.trigState t.val = trigRefused ∧ h.f (CAL_TRIG_STAT t.val) CAL_TRIG_STAT.reason = 3)) ∧
  (∀ (s : State) (via : BusAcc) (t : Fin 16) (v : Word), Permitted s.hw via (CAL_TRIG_CFG t.val) →
    Completes (.triggerCancel via t v) s fun h =>
      h.trigState t.val = if s.hw.trigState t.val = trigArmed then trigIdle else s.hw.trigState t.val) ∧
  (∀ (s : State) (t : Fin 16), s.hw.trigState t.val = trigArmed → Completes (.triggerFire t) s fun h =>
    h.f (CAL_TRIG_STAT t.val) CAL_TRIG_STAT.fires = min CAL_TRIG_STAT.fires.max (s.hw.f (CAL_TRIG_STAT t.val) CAL_TRIG_STAT.fires + 1) ∧
    (s.hw.trigPeriod t.val = 0 → h.trigState t.val = trigFired) ∧
    (s.hw.trigPeriod t.val ≠ 0 → h.trigState t.val = trigArmed ∧
      h.cal.next.at t.val = s.hw.cal.next.at t.val + s.hw.trigSign t.val * s.hw.trigPeriod t.val))

/-- The switch's commands complete (R292–R296, R302): a frame with a bad check sequence is counted, another's octets are added to its port's
accumulator; a peer delay is kept; the ring's master closes, opens and closes the ring, each change flushing the table; links go up and down. -/
def Obligations.SwitchCommandsComplete : Prop :=
  (∀ (s : State) (p : Fin 2) (f : List Byte), s.hw.flag (ETH_PORT_CFG p.val) ETH_PORT_CFG.enable = true →
    s.hw.f (ETH_PORT_STAT p.val) ETH_PORT_STAT.link = 1 → (p = 0 ∨ s.hw.flag ETH_CFG ETH_CFG.switch = true) →
    Completes (.ethFrame (.wire p f false)) s (fun h =>
      h.f (ETH_PORT_ERR p.val) ETH_PORT_ERR.fcs_err = min ETH_PORT_ERR.fcs_err.max (s.hw.f (ETH_PORT_ERR p.val) ETH_PORT_ERR.fcs_err + 1)) ∧
    Completes (.ethFrame (.wire p f true)) s (fun h =>
      h.reg (ETH_PORT_RXO_LO p.val) = s.hw.reg (ETH_PORT_RXO_LO p.val) + BitVec.ofNat 32 f.length)) ∧
  (∀ (s : State) (q : Pkt) (k : Nat) (h' : Hw), s.hw.takePacket (s.hw.f ETH_STREAMS ETH_STREAMS.tx_fifo) 512 = some (q, k, h') →
    q.abort = false →
    Completes (.ethFrame .stream) s fun h =>
      h.reg (ETH_PORT_RXO_LO 2) = s.hw.reg (ETH_PORT_RXO_LO 2) + BitVec.ofNat 32 q.octets.length) ∧
  (∀ (s : State) (p : Fin 2) (d : Word), s.hw.flag ETH_PTP_CFG ETH_PTP_CFG.p2p = true → Completes (.peerDelayMeasure p d) s fun h =>
    h.f (ETH_PORT_STAT p.val) ETH_PORT_STAT.path_delay = min 0xFFFFFF d.toNat) ∧
  (∀ s : State, s.hw.ringMaster = true →
    (s.hw.f ETH_STAT ETH_STAT.ring = 0 → Completes .ringCheck s fun h =>
      h.f ETH_STAT ETH_STAT.ring = ringClosed ∧ h.flag (ETH_PORT_STAT 1) ETH_PORT_STAT.blocked = true) ∧
    (s.hw.f ETH_STAT ETH_STAT.ring = ringClosed → Completes .ringOpen s fun h =>
      h.f ETH_STAT ETH_STAT.ring = ringOpened ∧ h.flag (ETH_PORT_STAT 1) ETH_PORT_STAT.blocked = false ∧ h.eth.table = [] ∧
        h.f ETH_STAT ETH_STAT.breaks = min ETH_STAT.breaks.max (s.hw.f ETH_STAT ETH_STAT.breaks + 1)) ∧
    (s.hw.f ETH_STAT ETH_STAT.ring = ringOpened → Completes .ringClose s fun h =>
      h.f ETH_STAT ETH_STAT.ring = ringClosed ∧ h.flag (ETH_PORT_STAT 1) ETH_PORT_STAT.blocked = true ∧ h.eth.table = [])) ∧
  (∀ (s : State) (p : Fin 2), Completes (.ethLinkUp p) s fun h =>
    h.f (ETH_PORT_STAT p.val) ETH_PORT_STAT.link = 1 ∧ h.f (ETH_PORT_STAT p.val) ETH_PORT_STAT.path_delay = 0 ∧ h.eth.table = [] ∧
      h.flag ETH_IRQ_STAT ETH_IRQ_STAT.link_up = true) ∧
  (∀ (s : State) (p : Fin 2), Completes (.ethLinkDown p) s fun h =>
    h.f (ETH_PORT_STAT p.val) ETH_PORT_STAT.link = 0 ∧ (∀ q, (h.ethPort p.val).queues.at q = []) ∧
      h.flag ETH_IRQ_STAT ETH_IRQ_STAT.link_down = true)

/-- The meter's commands complete (R304, R306–R309, R311, R314–R317, R320, R345): a conversion frame sets the frequency, the mains axis' validity and the frames of
the cycle; a stalled modulator is counted; a reader of entry 0 gets a channel's harmonics held for it; the supply becomes ok after its debounce;
pulses begin and end; the state is saved in turn into two slots; conversion ends with a save; calibration is written to flash; a failing
supply takes the device down with a last-gasp save. -/
def Obligations.MeterCommandsComplete : Prop :=
  (∀ (s : State) (fr : MeterFrame) (ok : Bool), s.hw.mtrOn = true →
    ok = decide (s.hw.f MTR_CFG MTR_CFG.mains_ch ≠ 3 ∧ 2 * fr.fundamental > s.hw.vNomMilli ∧ 45000 ≤ fr.freq ∧ fr.freq ≤ 65000) →
    Completes (.conversionFrame fr) s fun h =>
      h.f MTR_FREQ MTR_FREQ.freq = fr.freq % 2 ^ 20 ∧ h.flag MTR_STAT MTR_STAT.mains_valid = ok ∧ h.cal.meterAlign = false ∧
      h.flag CAL_MAINS_HI CAL_MAINS_HI.valid = ok ∧
      h.mtr.frames = (if (if ok then fr.cycle else decide (s.hw.mtr.frames + 1 ≥ 160)) then 0 else s.hw.mtr.frames + 1) ∧
      h.f MTR_STAT MTR_STAT.harm_seq =
        (if fr.window.isSome && ok then (s.hw.f MTR_STAT MTR_STAT.harm_seq + 1) % 65536 else s.hw.f MTR_STAT MTR_STAT.harm_seq)) ∧
  (∀ (s : State) (c : Fin 7) (failed : Bool), s.hw.mtrOn = true → s.hw.chState c.val ≠ 3 →
    Completes (.modulatorStall c failed) s fun h =>
      h.f MTR_ERR MTR_ERR.ch_fault = min MTR_ERR.ch_fault.max (s.hw.f MTR_ERR MTR_ERR.ch_fault + 1) ∧
        h.flag MTR_IRQ_STAT MTR_IRQ_STAT.ch_fault = true) ∧
  (∀ (s : State) (via : BusAcc) (c : Fin 7), Readable s.hw via (MTR_HARM c.val 0) → Completes (.harmSnapshot via c) s fun h =>
    ∀ e, 1 ≤ e → e < 64 → h.readShadow via.master.num (MTR_HARM c.val e) = some (s.hw.reg (MTR_HARM c.val e))) ∧
  (∀ s : State, s.hw.mtr.okSince.isSome = true → s.hw.flag MTR_STAT MTR_STAT.supply_ok = false → Completes .supplyOkDebounce s fun h =>
    h.flag MTR_STAT MTR_STAT.supply_ok = true ∧ h.f MTR_STAT MTR_STAT.reason = 0 ∧ h.flag MTR_IRQ_STAT MTR_IRQ_STAT.supply_change = true) ∧
  (∀ s : State, s.hw.holdsPacket prodMtr (s.hw.f MTR_SUPPLY_CFG MTR_SUPPLY_CFG.fifo) = true → Completes .supplyEventDrop s fun h =>
    h.f MTR_ERR MTR_ERR.evt_dropped = min MTR_ERR.evt_dropped.max (s.hw.f MTR_ERR MTR_ERR.evt_dropped + 1)) ∧
  (∀ (s : State) (k : Fin 2), (s.hw.stage_ k.val).active = false → s.hw.f (MTR_PULSE_STAT k.val) MTR_PULSE_STAT.backlog ≠ 0 →
    s.hw.stageOn k.val = true → Completes (.pulseOutput k true) s fun h =>
      (h.stage_ k.val).active = true ∧
        h.f (MTR_PULSE_STAT k.val) MTR_PULSE_STAT.backlog = s.hw.f (MTR_PULSE_STAT k.val) MTR_PULSE_STAT.backlog - 1) ∧
  (∀ (s : State) (k : Fin 2), Completes (.pulseOutput k false) s fun h => (h.stage_ k.val).active = false) ∧
  (∀ (s : State) (via : BusAcc) (k : Fin 2) (v : Word), Permitted s.hw via (MTR_PULSE_CFG k.val) → Completes (.pulseConfig via k v) s fun h =>
    (h.stage_ k.val).due = true ∧ h.f (MTR_PULSE_CFG k.val) MTR_PULSE_CFG.qty = MTR_PULSE_CFG.qty.get v ∧
      (MTR_PULSE_CFG.enable.get v = 0 → (h.stage_ k.val).spill = 0 ∧ (h.stage_ k.val).active = false)) ∧
  (∀ s : State, s.hw.mtrOn = true →
    (s.hw.mtr.newest = some false → Completes (.periodicSave true) s fun h =>
      h.mtr.slotB = s.hw.saveContents ((s.hw.mtr.slotA.seq + 1) % 65536) ∧ h.mtr.slotA = s.hw.mtr.slotA) ∧
    (s.hw.mtr.newest = some true → Completes (.periodicSave true) s fun h =>
      h.mtr.slotA = s.hw.saveContents ((s.hw.mtr.slotB.seq + 1) % 65536) ∧ h.mtr.slotB = s.hw.mtr.slotB) ∧
    Completes (.periodicSave false) s fun h =>
      h.f MTR_ERR MTR_ERR.save_fail = min MTR_ERR.save_fail.max (s.hw.f MTR_ERR MTR_ERR.save_fail + 1)) ∧
  (∀ (s : State) (via : BusAcc), Permitted s.hw via MTR_CFG → s.hw.mtrOn = true → Completes (.meterDisable via) s fun h =>
    h.mtrOn = false ∧ h.f MTR_STAT MTR_STAT.state = 0 ∧ h.flag MTR_STAT MTR_STAT.mains_valid = false ∧
      h.flag MTR_IRQ_STAT MTR_IRQ_STAT.save = true) ∧
  (∀ (s : State) (n gen : Nat), s.hw.upd.calDue = true →
    ((s.hw.calNewest = none ∧ n = 0 ∧ gen = 1) ∨ ∃ k g, s.hw.calNewest = some (k, g) ∧ n = 1 - k ∧ gen = (g + 1) % 2 ^ 32) →
    Completes .calPersist s fun h =>
      h.upd.calDue = false ∧ h.flag MTR_CAL_STAT MTR_CAL_STAT.pending = false ∧
        h.flashRead (calBase n) (calCopy gen calFields.length s.hw.calEntries).length = calCopy gen calFields.length s.hw.calEntries) ∧
  (∀ s : State, s.hw.pwr.unpowered = false → s.hw.pwr.power ≠ .off → Completes .supplyFail s fun h =>
    h.pwr.power = .off ∧ h.pwr.unpowered = true ∧ h.flag VGL_STAT VGL_STAT.supply_fail = true ∧
      (s.hw.mtr.newest.isSome = true → h.mtr.gasp.isSome = true) ∧
      (s.hw.paired = true → h.role = 1 ∧ h.flag EQX_STAT EQX_STAT.hold = false))

/-- The key store's operations complete (R327, R328, R331, R332, R334–R336, R341): a dispatched operation reads its operands, and writes its result and
ends, or ends with the status that R335 gives; every operation that may run ends, or waits parked or for the store; none runs while Burl is locked. -/
def Obligations.KeyOperationsComplete : Prop :=
  (∀ (s : State) (q : Fin 16) (o : BrlOp),
    ∀ p ∈ [(Instr.aeadEnc q, 1), (Instr.aeadDec q, 2), (Instr.hash q, 3), (Instr.hmac q, 4), (Instr.sign q, 5), (Instr.verify q, 6),
      (Instr.derive q, 7), (Instr.agree q, 8), (Instr.random q, 9), (Instr.keyUpdate q, 10), (Instr.swap q, 11)],
    (Dispatchable s.hw q.val p.2 o → Completes p.1 s fun h =>
      h.brlOp q.val = none ∨ h.isParked (brlUnit q.val) = true ∨ (h.brlOp q.val).map BrlOp.state = some 3) ∧
    (s.hw.brlOp q.val = some o → o.op = p.2 → s.hw.brlMayRun q.val o = true → s.hw.brlIsLocked = true →
      Completes p.1 s fun h => h = (cleared s.hw).brlEnd q.val o brlStLocked 0)) ∧
  (∀ (s : State) (q : Fin 16) (o : BrlOp) (key nonce m : List Byte),
    let d := dispatched (cleared s.hw) q.val o
    let o' := { o with state := 2 }
    Dispatchable s.hw q.val 1 o → UsesKey s.hw o 1 key → o.nonceOk = true → d.readCtx o.ctx o.aux o.auxLen = .ok nonce →
    d.readCtx o.ctx o.src (o.aadLen + o.length) = .ok m →
    Completes (.aeadEnc q) s fun h =>
      let r := if bit o.flags 2 then gcmEnc key nonce (m.take o.aadLen) (m.drop o.aadLen)
        else ccmEnc key nonce (m.take o.aadLen) (m.drop o.aadLen) o.micLen
      h = d.brlWrite q.val o' (r.1 ++ r.2)) ∧
  (∀ (s : State) (q : Fin 16) (o : BrlOp) (key nonce m : List Byte) (tl : Nat),
    let d := dispatched (cleared s.hw) q.val o
    let o' := { o with state := 2 }
    Dispatchable s.hw q.val 2 o → UsesKey s.hw o 1 key → o.nonceOk = true → tl = (if bit o.flags 2 then 16 else o.micLen) → tl ≤ o.length →
    d.readCtx o.ctx o.aux o.auxLen = .ok nonce → d.readCtx o.ctx o.src (o.aadLen + o.length) = .ok m →
    Completes (.aeadDec q) s fun h =>
      let c := (m.drop o.aadLen).take (o.length - tl)
      let tag := (m.drop o.aadLen).drop (o.length - tl)
      match if bit o.flags 2 then gcmDec key nonce (m.take o.aadLen) c tag else ccmDec key nonce (m.take o.aadLen) c tag with
      | some p => h = d.brlWrite q.val o' p
      | none => h = d.brlEnd q.val o' brlAuth 0) ∧
  (∀ (s : State) (q : Fin 16) (o : BrlOp) (key m : List Byte),
    let d := dispatched (cleared s.hw) q.val o
    let o' := { o with state := 2 }
    d.readCtx o.ctx o.src o.length = .ok m →
    (Dispatchable s.hw q.val 3 o → Completes (.hash q) s fun h => h = d.brlWrite q.val o' (if bit o.flags 3 then sha384 m else sha256 m)) ∧
    (Dispatchable s.hw q.val 4 o → UsesKey s.hw o 2 key → Completes (.hmac q) s fun h => h = d.brlWrite q.val o' (hmac key m))) ∧
  (∀ (s : State) (q : Fin 16) (o : BrlOp) (key digest sig : List Byte),
    let d := dispatched (cleared s.hw) q.val o
    let o' := { o with state := 2 }
    d.readCtx o.ctx o.src 32 = .ok digest →
    (Dispatchable s.hw q.val 5 o → UsesKey s.hw o 3 key → o.slot ≠ 0xFF → Completes (.sign q) s fun h =>
      h = (d.useFree 32).brlWrite q.val o' (ecdsaSign (beNat key) (privOf (s.hw.freeOctets 32)) digest)) ∧
    (Dispatchable s.hw q.val 6 o → UsesKey s.hw o 4 key → d.readCtx o.ctx o.aux 64 = .ok sig → Completes (.verify q) s fun h =>
      h = d.brlEnd q.val o' (if ecdsaVerify (readPoint key) digest sig then brlOk else brlAuth) 0)) ∧
  (∀ (s : State) (q : Fin 16) (o : BrlOp) (key info pub : List Byte),
    let d := dispatched (cleared s.hw) q.val o
    let o' := { o with state := 2 }
    s.hw.dstOk o = true →
    (Dispatchable s.hw q.val 7 o → UsesKey s.hw o 6 key → d.readCtx o.ctx o.aux o.auxLen = .ok info → Completes (.derive q) s fun h =>
      h = d.brlDerived q.val o' (hkdf zeroSalt key info (s.hw.slotLen o.dstSlot))) ∧
    (Dispatchable s.hw q.val 8 o → UsesKey s.hw o 5 key → d.readCtx o.ctx o.aux 64 = .ok pub → d.readCtx o.ctx o.dst o.length = .ok info →
      Completes (.agree q) s fun h =>
        match ecdh (beNat key) (readPoint pub) with
        | some z => h = d.brlDerived q.val o' (hkdf zeroSalt z info (s.hw.slotLen o.dstSlot))
        | none => h = d.brlEnd q.val o' brlBadMessage 0)) ∧
  (∀ (s : State) (q : Fin 16) (o : BrlOp),
    let d := dispatched (cleared s.hw) q.val o
    Dispatchable s.hw q.val 9 o → Completes (.random q) s fun h =>
      h = (d.useFree o.length).brlWrite q.val { o with state := 2 } (s.hw.freeOctets o.length)) ∧
  (∀ (s : State) (q : Fin 16) (o : BrlOp) (b : List Byte),
    let d := dispatched (cleared s.hw) q.val o
    let o' := { o with state := 2 }
    Dispatchable s.hw q.val 10 o → d.readCtx o.ctx o.src o.length = .ok b → s.hw.brlRuns = true →
    (s.hw.kuCheck b ≠ brlOk → Completes (.keyUpdate q) s fun h => h = d.brlEnd q.val o' (s.hw.kuCheck b) 0) ∧
    (s.hw.kuCheck b = brlOk → Completes (.keyUpdate q) s fun h =>
      match s.hw.kuUnwrap b with
      | none => h = d.brlEnd q.val o' brlAuth 0
      | some key =>
        (s.hw.upd.writing = true → h = d.setOp q.val (some { o with state := 3 })) ∧
        (s.hw.upd.writing = false →
          h.brlOp q.val = none ∧ h.reg BRL_KU_CTR = BitVec.ofNat 32 (fieldAt b 4 4) ∧
          (fieldAt b 1 1 = 1 → (h.keySlot (fieldAt b 2 1)).key = key.take (fieldAt b 29 1)) ∧
          (fieldAt b 1 1 = 2 → (h.keySlot (fieldAt b 2 1)).key = []) ∧
          (fieldAt b 1 1 = 3 → (h.shadow (fieldAt b 2 1)).map Shadow.key = some (key.take (fieldAt b 29 1)))))) ∧
  (∀ (s : State) (q : Fin 16) (o : BrlOp) (proof : List Byte) (x : Shadow),
    Dispatchable s.hw q.val 11 o → (dispatched (cleared s.hw) q.val o).readCtx o.ctx o.aux o.auxLen = .ok proof → o.slot < 3 →
    s.hw.shadow o.slot = some x → x.swapAt = none → s.hw.upd.writing = false →
    Completes (.swap q) s fun h =>
      if s.hw.proofOk o.slot x proof = true then
        (o.slot ≠ 0 → h.shadow o.slot = some { x with swapAt := some (s.hw.swapTime o.swapS) }) ∧
        (o.slot = 0 → h.shadow 0 = none ∧ (h.keySlot 0).key = x.key)
      else h.shadow o.slot = if x.fails + 1 ≥ 3 then none else some { x with fails := x.fails + 1 })

/-- The key store's other commands complete (R329, R331–R334, R336, R338, R340, R341): submission, provisioning, the estate tag, swaps and expiries, a
challenge and its answer, and a tamper source. -/
def Obligations.KeyStoreCommandsComplete : Prop :=
  (∀ (s : State) (via : BusAcc) (v : Word), Permitted s.hw via BRL_SUBMIT_HI → s.hw.brlIsLocked = false →
    (mayCrypt via = false → Completes (.cryptoSubmit via v) s fun h =>
      h.brl.results.at via.master.num = brlOutcome 4 0 0 ∧ h.f BRL_ERR BRL_ERR.refused = min BRL_ERR.refused.max (s.hw.f BRL_ERR BRL_ERR.refused + 1)) ∧
    ∀ (q : Nat) (b : List Byte) (addr : Nat), mayCrypt via = true → (List.range 16).find? (fun q => (s.hw.brlOp q).isNone) = some q →
      addr = BRL_SUBMIT_LO.addr_lo.get (heldLow s.hw via.master.num BRL_SUBMIT_HI) * 64 + BRL_SUBMIT_HI.addr_hi.get v * 2 ^ 32 →
      s.hw.readCtx (BRL_SUBMIT_HI.ctx.get v) addr 64 = .ok b → (parseOp b (BRL_SUBMIT_HI.ctx.get v) addr).sound b = true →
      Completes (.cryptoSubmit via v) s fun h =>
        h.brlOp q = some { parseOp b (BRL_SUBMIT_HI.ctx.get v) addr with order := s.hw.brl.accepted, opId := s.hw.brl.nextId } ∧
          h.brl.accepted = s.hw.brl.accepted + 1 ∧ h.brl.results.at via.master.num = brlOutcome 0 q s.hw.brl.nextId) ∧
  (∀ (s : State) (via : BusAcc) (v : Word), Permitted s.hw via BRL_PROV → BRL_PROV.key.get v = 0xC105 → BRL_PROV.close.get v = 1 →
    s.hw.brlState = brlOpen → Completes (.provisioningClose via v) s fun h =>
      if [0, 1, 2, 3].all s.hw.slotValid = true then h.brl.closed = true ∧ h.brlState = brlClosed
      else h.brlState = brlOpen ∧ h.flag BRL_IRQ_STAT BRL_IRQ_STAT.close_refused = true) ∧
  (∀ (s : State) (via : BusAcc) (v : Word), Permitted s.hw via BRL_ESTATE_HI → Completes (.estateWrite via v) s fun h =>
    if s.hw.brlState = brlOpen ∧ s.hw.brl.estateSet = false then
      h.brl.estateSet = true ∧ h.reg BRL_ESTATE_HI = v ∧ h.reg BRL_ESTATE_LO = heldLow s.hw via.master.num BRL_ESTATE_HI
    else h.reg BRL_ESTATE_LO = s.hw.reg BRL_ESTATE_LO ∧ h.reg BRL_ESTATE_HI = s.hw.reg BRL_ESTATE_HI ∧
      h.f BRL_ERR BRL_ERR.refused = min BRL_ERR.refused.max (s.hw.f BRL_ERR BRL_ERR.refused + 1)) ∧
  (∀ (s : State) (n : Fin 3) (x : Shadow), s.hw.shadow n.val = some x →
    (x.swapAt.isSome = true → Completes (.swapTakeEffect n) s fun h =>
      (h.keySlot n.val).key = x.key ∧ h.shadow n.val = none ∧ (n.val = 1 → ∀ i < 8, h.reg (STP_LANE_CTR i) = 0)) ∧
    (x.swapAt = none → (s.hw.brlOps.any fun p => decide (s.hw.opSlot p.2 = n.val)) = false → Completes (.shadowExpiry n) s fun h =>
      h.shadow n.val = none ∧ h.keySlot n.val = s.hw.keySlot n.val)) ∧
  (∀ (s : State) (n : Fin 3), Completes (.oldKeyExpiry n) s fun h =>
    h.ports.stopOld = (if n.val = 1 then [] else s.hw.ports.stopOld) ∧ h.ports.linkOld = (if n.val = 2 then [] else s.hw.ports.linkOld) ∧
      h.ports.stop = s.hw.ports.stop ∧ h.ports.link = s.hw.ports.link) ∧
  (∀ (s : State) (q : Fin 16) (o : BrlOp), s.hw.brlOp q.val = some o → o.state = 3 → Completes (.storeWaitTimeout q) s fun h =>
    h = (cleared s.hw).brlEnd q.val o brlBusyStore 0) ∧
  (∀ (s : State) (via : BusAcc), Permitted s.hw via BRL_CTRL → Completes (.debugChallenge via) s fun h =>
    h.brl.challenged = (s.hw.brl.challenged || decide (s.hw.brl.debugFails < 3)) ∧
      h.freeCtr = s.hw.freeCtr + if s.hw.brl.debugFails < 3 then 16 else 0) ∧
  (∀ (s : State) (via : BusAcc) (v : Word), Permitted s.hw via (BRL_DBG_ANS 15) → Completes (.debugAnswer via v) s fun h =>
    if s.hw.brl.challenged = true ∧ s.hw.slotKey (s.hw.f BRL_CFG BRL_CFG.debug_slot) 4 ≠ [] ∧
        ecdsaVerify (readPoint (s.hw.slotKey (s.hw.f BRL_CFG BRL_CFG.debug_slot) 4))
          (sha256 (((List.range 4).flatMap fun w => leBytes 4 (s.hw.reg (BRL_CHAL w)).toNat) ++ s.hw.identity))
          (((List.range 15).flatMap fun w => leBytes 4 (s.hw.brl.answer.at w).toNat) ++ leBytes 4 v.toNat) = true then
      h.brl.unlocked = true ∧ h.brl.debugFails = s.hw.brl.debugFails
    else h.brl.unlocked = s.hw.brl.unlocked ∧ h.brl.debugFails = s.hw.brl.debugFails + 1) ∧
  (∀ (s : State) (src : Fin 7), s.hw.pwr.power = .run →
    Completes (.tamper src false) s (fun h => bit (h.f BRL_TMP_STAT BRL_TMP_STAT.active) src.val = false) ∧
    (s.hw.f (BRL_TMP_CFG src.val) BRL_TMP_CFG.level = 1 → Completes (.tamper src true) s fun h =>
      bit (h.f BRL_TMP_STAT BRL_TMP_STAT.active) src.val = true ∧ bit (h.f BRL_TMP_STAT BRL_TMP_STAT.latched) src.val = true ∧
        h.flag BRL_IRQ_STAT BRL_IRQ_STAT.tamper = true ∧ h.f BRL_ERR BRL_ERR.tamper = min BRL_ERR.tamper.max (s.hw.f BRL_ERR BRL_ERR.tamper + 1)) ∧
    (s.hw.f (BRL_TMP_CFG src.val) BRL_TMP_CFG.level = 2 → s.hw.startingUp = false → Completes (.tamper src true) s fun h =>
      h.brlState = brlLocked ∧ (∀ n, h.keySlot n = default) ∧ (∀ n, h.shadow n = none) ∧
        (s.hw.paired = false → FleetStopped s.hw h 10) ∧ (s.hw.paired = true → h.role = 1 ∧ h.flag EQX_STAT EQX_STAT.hold = false)))

/-- Debug sessions complete (R27, R42, R43, R389): a resumed core is no longer halted; the end of a session gives back the locks that its master holds. -/
def Obligations.DebugCommandsComplete : Prop :=
  (∀ (s : State) (cpu : Cpu), s.hw.debugOpen = true → (s.hw.cores.at (cpuNum cpu)).halted = true →
    Completes (.debugResume cpu) s fun h => (h.cores.at (cpuNum cpu)).halted = false) ∧
  (∀ s : State, Completes .debugSessionEnd s fun h =>
    ∀ k < 16, h.f (SEM_LOCK k) SEM_LOCK.owner = if s.hw.f (SEM_LOCK k) SEM_LOCK.owner = 15 then 0 else s.hw.f (SEM_LOCK k) SEM_LOCK.owner)

/-- Update records complete (R348–R350, R355): a manifest opens a session or is refused with the first check it fails; a piece whose tag verifies is
programmed and noted; a fragment joins its piece; a settings record takes the next generation; a failed program leaves the record in hand and the
third ends the session. -/
def Obligations.UpdateRecordCommandsComplete : Prop :=
  (∀ (s : State) (r : List Byte) (g : Hw), UpdTakes (cleared s.hw) 1 r g →
    (g.upd.session = none → Completes .manifest s fun h =>
      h.f UPD_RES UPD_RES.code = g.manifestError (r.drop 8) ∧
      (g.manifestError (r.drop 8) = resOk → h.upd.phase = phErasing ∧
        h.upd.session = some ⟨r.drop 8, mfPart (r.drop 8), !(g.actPart (mfPart (r.drop 8))).active, eraseBlocks (mfLength (r.drop 8)), [], []⟩) ∧
      (g.manifestError (r.drop 8) ≠ resOk → h.upd.session = none ∧ h.flag UPD_IRQ_STAT UPD_IRQ_STAT.refused = true)) ∧
    (∀ x, g.upd.session = some x → Completes .manifest s fun h =>
      h.upd.session = some x ∧
        h.f UPD_RES UPD_RES.code = if mfHash (r.drop 8) = mfHash x.manifest then resOk else resSessionBusy)) ∧
  (∀ (s : State) (r : List Byte) (g : Hw) (x : Session), UpdTakes (cleared s.hw) 2 r g → g.upd.session = some x →
    x.isId (fieldAt r 2 2) = true → g.upd.phase = phReceiving → fieldAt r 4 2 < mfCount x.manifest → fieldAt r 4 2 ∉ x.got →
    Completes (.piece .ok) s fun h =>
      if (g.pieceOpen x.manifest (fieldAt r 4 2) ((r.drop 8).take 4096) ((r.drop 8).drop 4096)).isSome = true then
        h.upd.session = some { x with got := x.got ++ [fieldAt r 4 2] } ∧ h.f UPD_RES UPD_RES.code = resOk ∧
        h.mem = ((g.flashBytes (slotBase x.part x.slot + 0x20000 + 4096 * fieldAt r 4 2) ((r.drop 8).take 4096)).flashBytes
          (slotBase x.part x.slot + 0x1000 + 16 * fieldAt r 4 2) ((r.drop 8).drop 4096)).mem ∧
        h.upd.phase = if x.got.length + 1 = mfCount x.manifest then phVerifying else phReceiving
      else
        h.upd.session = some x ∧ h.f UPD_RES UPD_RES.code = resTag ∧ h.mem = g.mem ∧
        h.f UPD_ERR UPD_ERR.tag_fail = min UPD_ERR.tag_fail.max (g.f UPD_ERR UPD_ERR.tag_fail + 1)) ∧
  (∀ (s : State) (res : FlashResult) (r : List Byte) (g : Hw) (x : Session), res ≠ .ok → UpdTakes (cleared s.hw) 2 r g → g.upd.session = some x →
    x.isId (fieldAt r 2 2) = true → g.upd.phase = phReceiving → fieldAt r 4 2 < mfCount x.manifest → fieldAt r 4 2 ∉ x.got →
    Completes (.piece res) s fun h =>
      (g.pieceOpen x.manifest (fieldAt r 4 2) ((r.drop 8).take 4096) ((r.drop 8).drop 4096)).isSome = true →
        h.upd.session = some x ∧
        (g.upd.fails < 2 → h.upd.inHand = some r ∧ h.upd.fails = g.upd.fails + 1) ∧
        (2 ≤ g.upd.fails → h.upd.phase = phFailed ∧ h.f UPD_RES UPD_RES.code = resFlash)) ∧
  (∀ (s : State) (res : FlashResult) (r : List Byte) (g : Hw) (x : Session), UpdTakes (cleared s.hw) 3 r g → g.upd.session = some x →
    x.isId (fieldAt r 2 2) = true → g.upd.phase = phReceiving → (∀ p ∈ g.upd.pieces, p.index ≠ fieldAt r 4 2) →
    Completes (.fragment res) s fun h =>
      h.f UPD_RES UPD_RES.code = resOk ∧
      h.upd.pieces = (if 4 ≤ g.upd.pieces.length then g.upd.pieces.drop 1 else g.upd.pieces) ++
        [⟨fieldAt r 4 2, Map.set [] (fieldAt r 1 1) (some (r.drop 8))⟩]) ∧
  (∀ (s : State) (r : List Byte) (g : Hw), UpdTakes (cleared s.hw) 4 r g → r.length = 12 + fieldAt r 10 2 → fieldAt r 10 2 ≠ 0 →
    fieldAt r 10 2 ≤ 16372 → fieldAt r 8 2 = g.appFormat → g.upd.settings.gen + 1 < 2 ^ 32 →
    Completes (.settingsRecord .ok) s fun h =>
      h.upd.settings = ⟨true, g.upd.settings.gen + 1, g.appFormat, r.drop 12⟩ ∧ h.f UPD_RES UPD_RES.code = resOk)

/-- An update session completes (R349–R354, R359, R360): erasing ends with the last block; every piece must decrypt and hash to the manifest's hash,
and a structure image pass the checks of R46; activation puts the slot on trial, a confirmation raises the rollback floor, a rollback goes back to the
slot before; recovery takes records word by word. -/
def Obligations.UpdateSessionCommandsComplete : Prop :=
  (∀ (s : State) (n : Nat) (x : Session), s.hw.upd.session = some x → s.hw.upd.phase = phErasing → s.hw.isParked updUnit = false →
    Completes (.eraseComplete .ok n) s fun h =>
      h.upd.session = some { x with toErase := x.toErase.drop n } ∧
        h.upd.phase = if x.toErase.length ≤ n then phReceiving else phErasing) ∧
  (∀ (s : State) (n : Nat) (x : Session) (res : FlashResult), res ≠ .ok → s.hw.upd.session = some x → s.hw.upd.phase = phErasing →
    s.hw.isParked updUnit = false →
    Completes (.eraseComplete res n) s fun h =>
      h.upd.session = some x ∧
        if s.hw.upd.fails < 2 then h.upd.fails = s.hw.upd.fails + 1 ∧ h.upd.phase = phErasing
        else h.upd.phase = phFailed ∧ h.f UPD_RES UPD_RES.code = resFlash) ∧
  (∀ (s : State) (img : Image) (x : Session), s.hw.upd.session = some x → s.hw.upd.phase = phVerifying → s.hw.isParked updUnit = false →
    Completes (.verifyComplete img) s fun h =>
      if (cleared s.hw).slotHashOk x.part x.slot = false then h.upd.phase = phFailed ∧ h.f UPD_RES UPD_RES.code = resHash
      else if x.part = 0 ∧ ((cleared s.hw).imageError img ≠ 0 ∨ img.imageVersion.toNat ≠ mfVersion x.manifest) then
        h.upd.phase = phFailed ∧ h.f UPD_RES UPD_RES.code = resStructure
      else h.upd.phase = phReady ∧ h.f UPD_RES UPD_RES.code = resOk ∧ h.flag UPD_IRQ_STAT UPD_IRQ_STAT.ready = true ∧
        h.upd.versions.at (2 * x.part + x.slot.toNat) = some (mfVersion x.manifest)) ∧
  (∀ (s : State) (via : BusAcc) (p : Fin 4), Permitted s.hw via UPD_CTRL →
    (∀ x, s.hw.upd.session = some x → s.hw.upd.phase = phReady → x.part = p.val → p.val ≤ 2 →
      (p.val = 0 → s.hw.reloadBusy = false) → s.hw.upd.act.parts.length = 3 → s.hw.upd.act.counter + 1 < 2 ^ 32 →
      Completes (.activate via p) s fun h =>
        h.actPart p.val = ⟨x.slot, true, max 1 (s.hw.f UPD_CFG UPD_CFG.tries),
          if (s.hw.actPart p.val).trial then (s.hw.actPart p.val).prev else (s.hw.actPart p.val).active, (s.hw.actPart p.val).floor⟩ ∧
        h.upd.session = none ∧ h.upd.phase = phIdle ∧ h.f UPD_RES UPD_RES.code = resOk) ∧
    (s.hw.upd.session = none → Completes (.activate via p) s fun h => h.upd = s.hw.upd ∧ h.f UPD_RES UPD_RES.code = resNotReady) ∧
    (p.val ≤ 2 → (s.hw.actPart p.val).trial = true → s.hw.upd.act.parts.length = 3 → s.hw.upd.act.counter + 1 < 2 ^ 32 →
      Completes (.confirm via p) s fun h =>
        (h.actPart p.val).trial = false ∧ (h.actPart p.val).active = (s.hw.actPart p.val).active ∧
        (h.actPart p.val).floor = max (s.hw.actPart p.val).floor
          ((s.hw.upd.versions.at (2 * p.val + (s.hw.actPart p.val).active.toNat)).getD 0) ∧ h.f UPD_RES UPD_RES.code = resOk) ∧
    (p.val ≤ 2 → (s.hw.actPart p.val).trial = true → (p.val ≠ 0 ∨ s.hw.upd.liveStructure = false) →
      Completes (.rollback via p) s fun h => p.val ∈ h.upd.rollbackDue ∧ h.f UPD_RES UPD_RES.code = resOk) ∧
    (p.val = 0 → (s.hw.actPart 0).trial = true → s.hw.upd.liveStructure = true → s.hw.upd.act.parts.length = 3 →
      s.hw.upd.act.counter + 1 < 2 ^ 32 →
      Completes (.rollback via p) s fun h =>
        (h.actPart 0).active = (s.hw.actPart 0).prev ∧ (h.actPart 0).trial = false ∧ h.upd.liveStructure = false ∧
        h.f UPD_RES UPD_RES.code = resOk) ∧
    (s.hw.upd.session ≠ none →
      Completes (.abandon via 0x0D5A) s fun h =>
        h.upd.session = none ∧ h.upd.phase = phIdle ∧ h.f UPD_RES UPD_RES.code = resOk) ∧
    Completes (.recovery via 0x0D5A) s (fun h => h.upd.recoverNext = true) ∧
    (s.hw.upd.session ≠ none → s.hw.upd.phase = phReceiving →
      Completes (.updVerify via) s fun h => h.upd.phase = phVerifying ∧ h.upd.session = s.hw.upd.session)) ∧
  (∀ (s : State) (via : BusAcc) (v : Word), Permitted s.hw via UPD_RCV_DATA → s.hw.upd.recovery = true →
    Completes (.recoveryRecord (.word via v)) s fun h =>
      h.upd.rcv = if (statedLength (s.hw.upd.rcv ++ leBytes 4 v.toNat)).any (fun n => decide (n ≤ s.hw.upd.rcv.length + 4)) = true then []
        else s.hw.upd.rcv ++ leBytes 4 v.toNat) ∧
  (∀ (s : State) (fr : List Byte), s.hw.upd.recovery = true → fr.take 6 = s.hw.recoveryMac → (fr.drop 12).take 2 = [0x88, 0xB6] →
    Completes (.recoveryRecord (.frame fr)) s fun h =>
      h.bus.out.getLast? = some (.eth 0 ((fr.drop 6).take 6 ++ s.hw.recoveryMac ++ [0x88, 0xB6] ++ (fr.drop 14).take 6 ++
        leBytes 1 (h.f UPD_RES UPD_RES.code) ++ [0])))

/-- The Almanac's flash commands complete (R364, R366, R367, R370): a page program takes what waits to the end of the page; a verified one advances
ALM_COUNT and leaves the records in flash; the third failure fails the medium; a log clear needs its tag, a newer counter and the count as it is; the
first erased block starts a new log. -/
def Obligations.LogFlashCommandsComplete : Prop :=
  (∀ s : State, s.hw.alm.programming = 0 → s.hw.almState ≠ 0 → s.hw.almState ≠ almHalted →
    Completes .pageProgram s fun h => h.alm.programming = min s.hw.almRoomAhead s.hw.alm.buffer.length ∧ h.alm.buffer = s.hw.alm.buffer) ∧
  (∀ s : State, s.hw.alm.programming ≠ 0 →
    Completes (.programComplete .ok) s fun h =>
      h.reg ALM_COUNT = BitVec.ofNat 32 (s.hw.almCount + s.hw.alm.programming) ∧ h.alm.programming = 0 ∧
      h.mem = (s.hw.flashBytes (logSlot s.hw.almCount) ((s.hw.alm.buffer.take s.hw.alm.programming).flatMap AlmRec.octets)).mem ∧
      if s.hw.almCount * 10 < (s.hw.reg ALM_CAP).toNat * 9 ∧
          (s.hw.reg ALM_CAP).toNat * 9 ≤ (s.hw.almCount + s.hw.alm.programming) * 10 then
        h.flag ALM_IRQ_STAT ALM_IRQ_STAT.fill_90 = true
      else h.alm.buffer = s.hw.alm.buffer.drop s.hw.alm.programming ∧ h.alm.opened = s.hw.alm.opened) ∧
  (∀ (s : State) (res : FlashResult), res ≠ .ok → s.hw.alm.programming ≠ 0 →
    Completes (.programComplete res) s fun h =>
      h.reg ALM_COUNT = s.hw.reg ALM_COUNT ∧
      h.f ALM_ERR ALM_ERR.prog_retry = min ALM_ERR.prog_retry.max (s.hw.f ALM_ERR ALM_ERR.prog_retry + 1) ∧
      if (if res = .failed then s.hw.alm.attempts.1 else s.hw.alm.attempts.2.1) < 2 then
        h.alm.programming = s.hw.alm.programming ∧ h.alm.buffer = s.hw.alm.buffer ∧ h.almState = s.hw.almState
      else
        h.almState = almHalted ∧ h.flag HLT_STAT HLT_STAT.log_failed = true ∧ h.alm.programming = 0 ∧
        (s.hw.alm.lastGasp.length < 16 → ∃ r, h.alm.lastGasp = s.hw.alm.lastGasp ++ [r] ∧ r.source = almSource ∧ r.code = 0x0004 ∧
          r.a0 = (if res = .failed then 1 else 4) ∧ r.a1 = BitVec.ofNat 32 (32 * s.hw.almCount))) ∧
  (∀ (s : State) (via : BusAcc) (v : Word), Permitted s.hw via ALM_CLR_TAG_HI →
    Completes (.logClear via v) s fun h =>
      if s.hw.alm.clear.isSome = true then h.f ALM_CLR_RES ALM_CLR_RES.result = 4 ∧ h.alm.clear = s.hw.alm.clear
      else if (s.hw.slotKey (s.hw.f ALM_CFG ALM_CFG.clear_slot) 2).isEmpty = true ∨
          s.hw.clearTag ≠ leBytes 4 (heldLow s.hw via.master.num ALM_CLR_TAG_HI).toNat ++ leBytes 4 v.toNat then
        h.f ALM_CLR_RES ALM_CLR_RES.result = 1 ∧ h.alm.clear = none
      else if (s.hw.reg ALM_CLR_CTR).toNat ≤ s.hw.alm.clearCtr then h.f ALM_CLR_RES ALM_CLR_RES.result = 2 ∧ h.alm.clear = none
      else if s.hw.reg ALM_CLR_COUNT ≠ s.hw.reg ALM_COUNT then h.f ALM_CLR_RES ALM_CLR_RES.result = 3 ∧ h.alm.clear = none
      else
        h.f ALM_CLR_RES ALM_CLR_RES.result = 0 ∧ h.alm.clear = some ⟨0, (s.hw.reg ALM_CLR_CTR).toNat⟩ ∧
        h.alm.clearCtr = (s.hw.reg ALM_CLR_CTR).toNat ∧ h.flag ALM_IRQ_STAT ALM_IRQ_STAT.cleared = true ∧
        (bit (s.hw.reg (ALM_REC_MASK 0x19)).toNat ALM_IRQ_STAT.cleared.lo = false → h.almState = almClearing)) ∧
  (∀ (s : State) (c : ClearSt), s.hw.alm.clear = some c →
    Completes (.blockEraseComplete .ok) s fun h =>
      h.mem = (s.hw.flashErase (0x0900000000 + 65536 * c.nextBlock) 65536).mem ∧
      h.alm.clear = (if c.nextBlock + 1 < s.hw.logBlocks then some { c with nextBlock := c.nextBlock + 1 } else none) ∧
      (c.nextBlock = 0 → h.reg ALM_COUNT = 0 ∧
        h.f ALM_STAT ALM_STAT.epoch = (s.hw.f ALM_STAT ALM_STAT.epoch + 1) % 65536 ∧
        (s.hw.alm.held + 2 < (s.hw.reg ALM_CAP).toNat → h.f ALM_LOST ALM_LOST.lost = 0 ∧
          ∃ r, h.alm.buffer = r :: s.hw.alm.buffer ∧ r.source = almSource ∧ r.code = 0x0002 ∧ r.a0 = s.hw.reg ALM_COUNT)) ∧
      (c.nextBlock ≠ 0 → h.alm.buffer = s.hw.alm.buffer ∧ h.reg ALM_COUNT = s.hw.reg ALM_COUNT)) ∧
  (∀ (s : State) (c : ClearSt) (res : FlashResult), res ≠ .ok → s.hw.alm.clear = some c →
    Completes (.blockEraseComplete res) s fun h =>
      if s.hw.alm.attempts.2.2 < 2 then h.alm.clear = some c ∧ h.alm.attempts.2.2 = s.hw.alm.attempts.2.2 + 1
      else h.almState = almHalted ∧ h.alm.clear = none ∧ h.flag HLT_STAT HLT_STAT.log_failed = true)

/-- The open record, posts and the health report complete (R11, R365, R372, R375): an equal event repeats the open record, which a timeout or a write
of ALM_CTRL closes; a post is recorded or its result says why not; the report is rebuilt with the next sequence number, and a read of word 0 takes
all of it. -/
def Obligations.RecordCommandsComplete : Prop :=
  (∀ (s : State) (o : AlmRec), s.hw.alm.opened = some o → s.hw.almState ≠ almFull → s.hw.almState ≠ almHalted → o.repeats < 65535 →
    s.hw.alm.drops.at o.source = 0 →
    ((s.hw.reg ALM_CAP).toNat = 0 ∨ s.hw.almCount + s.hw.alm.held + 1 < (s.hw.reg ALM_CAP).toNat) →
    Completes .eventAbsorb s fun h =>
      h.alm.seqs.at o.source = (s.hw.alm.seqs.at o.source + 1) % 2 ^ 32 ∧
      if o.repeats = 65534 then h.alm.opened = none ∧ h.alm.buffer = s.hw.alm.buffer ++ [{ o with repeats := 65535 }]
      else h.alm.opened = some { o with repeats := o.repeats + 1 } ∧ h.alm.buffer = s.hw.alm.buffer) ∧
  (∀ s : State, Completes .flushTimeout s fun h =>
    h.alm.opened = none ∧ h.alm.buffer = s.hw.alm.buffer ++ s.hw.alm.opened.toList) ∧
  (∀ (s : State) (via : BusAcc), Permitted s.hw via ALM_CTRL →
    Completes (.close via) s fun h => h.alm.opened = none ∧ h.alm.buffer = s.hw.alm.buffer ++ s.hw.alm.opened.toList) ∧
  (∀ (s : State) (via : BusAcc) (v c a0 a1 : Word), Permitted s.hw via (ALM_POST_ARG 2) → s.hw.alm.posts.at via.master.num = (c, a0, a1) →
    (¬(0x2000 ≤ ALM_POST_CODE.source.get c ∧ ALM_POST_CODE.source.get c ≤ 0x2FFF ∧ 0x8000 ≤ ALM_POST_CODE.code.get c) →
      Completes (.post via v) s fun h =>
        h.alm.postResult.at via.master.num = 1 ∧ h.alm.opened = s.hw.alm.opened ∧ h.alm.posts.at via.master.num = default) ∧
    (0x2000 ≤ ALM_POST_CODE.source.get c → ALM_POST_CODE.source.get c ≤ 0x2FFF → 0x8000 ≤ ALM_POST_CODE.code.get c →
      (s.hw.almState = almFull ∨ s.hw.almState = almHalted → Completes (.post via v) s fun h =>
        h.alm.postResult.at via.master.num = 3 ∧ h.alm.posts.at via.master.num = default) ∧
      (s.hw.almState ≠ almFull → s.hw.almState ≠ almHalted → s.hw.alm.opened = none → s.hw.alm.room = true →
        s.hw.alm.drops.at (ALM_POST_CODE.source.get c) = 0 →
        ((s.hw.reg ALM_CAP).toNat = 0 ∨ s.hw.almCount + s.hw.alm.held + 2 < (s.hw.reg ALM_CAP).toNat) →
        Completes (.post via v) s fun h =>
          h.alm.postResult.at via.master.num = 0 ∧ h.alm.posts.at via.master.num = default ∧
          ∃ r, h.alm.opened = some r ∧ r.source = ALM_POST_CODE.source.get c ∧ r.code = ALM_POST_CODE.code.get c ∧ r.a0 = a0 ∧ r.a1 = a1 ∧
            r.a2 = v ∧ r.stamp = s.hw.now % 2 ^ 64 ∧ r.seq = s.hw.alm.seqs.at (ALM_POST_CODE.source.get c)) ∧
      (s.hw.almState ≠ almFull → s.hw.almState ≠ almHalted → s.hw.alm.opened = none → s.hw.alm.room = false →
        Completes (.post via v) s fun h =>
          h.alm.postResult.at via.master.num = 2 ∧
          h.f ALM_ERR ALM_ERR.dropped = min ALM_ERR.dropped.max (s.hw.f ALM_ERR ALM_ERR.dropped + 1)))) ∧
  (∀ s : State, (s.hw.flag HLT_CFG HLT_CFG.fifo_en = true → s.hw.f HLT_CFG HLT_CFG.fifo < 48) →
    Completes .healthReport s fun h =>
      h.hlt.reportSeq = (s.hw.hlt.reportSeq + 1) % 2 ^ 32 ∧
      ∀ k < 16, h.reg (HLT_REPORT k) = BitVec.ofNat 32 (fieldAt
        ((cleared s.hw).updHlt fun x => { x with reportSeq := (x.reportSeq + 1) % 2 ^ 32 }).reportOctets (4 * k) 4)) ∧
  (∀ (s : State) (via : BusAcc), Readable s.hw via (HLT_REPORT 0) →
    Completes (.reportSnapshot via) s fun h =>
      h.bus.resp = .data [((cleared s.hw).readShadow via.master.num (HLT_REPORT 0)).getD (s.hw.reg (HLT_REPORT 0))] ∧
      ∀ w < 15, h.readShadow via.master.num (HLT_REPORT (w + 1)) = some (s.hw.reg (HLT_REPORT (w + 1)))) ∧
  (∀ s : State, s.hw.holdsPacket prodHlt (s.hw.f HLT_CFG HLT_CFG.fifo) = true →
    Completes .reportDropTimeout s fun h =>
      (h.fifo (s.hw.f HLT_CFG HLT_CFG.fifo)).waiting =
        (s.hw.fifo (s.hw.f HLT_CFG HLT_CFG.fifo)).waiting.eraseP (fun p => decide (p.1 = prodHlt)) ∧
      h.f HLT_ERR HLT_ERR.report_dropped = min HLT_ERR.report_dropped.max (s.hw.f HLT_ERR HLT_ERR.report_dropped + 1))

/-- The descent completes (R379–R384): a request starts the handshake; each block agrees, and the next is asked, or refuses, and the request is
rolled back and retried or fails; an abort ends it; after the last step the device is down in its target state. -/
def Obligations.PowerEntryCommandsComplete : Prop :=
  (∀ (s : State) (k : Fin 2), s.hw.flag (SYS_CLUSTER k.val) SYS_CLUSTER.gate_en = true → s.hw.nothingFor k.val = true →
    Completes (.clusterGate k) s fun h =>
      h.flag (SYS_CLUSTER k.val) SYS_CLUSTER.gated = true ∧ ∀ i < 4, (h.cores.at (4 * k.val + i)).idle = true) ∧
  (∀ (s : State) (via : BusAcc) (c : Instr) (t : Nat), Permitted s.hw via PWR_CTRL → s.hw.pwrState = pwrRun →
    (c = .enterSleep via ∧ t = 1 ∨ c = .enterDeepSleep via ∧ t = 2 ∨ c = .enterOff via ∧ t = 3) →
    Completes c s fun h =>
      h.pwrState = pwrEntering ∧ h.f PWR_STAT PWR_STAT.target = t ∧ h.pwr.step = 1 ∧ h.f PWR_STAT PWR_STAT.attempts = 1 ∧
        h.pwr.power = s.hw.pwr.power) ∧
  (∀ (s : State) (via : BusAcc), Permitted s.hw via PWR_CTRL →
    (s.hw.pwrState = pwrEntering → s.hw.pwr.final = false → Completes (.powerAbort via) s fun h =>
      h.pwrState = pwrRun ∧ h.f PWR_STAT PWR_STAT.result = pwrAborted ∧ h.f PWR_STAT PWR_STAT.reason = rsAborted ∧ h.pwr.stopped = []) ∧
    (s.hw.pwrState = pwrBackOff → Completes (.powerAbort via) s fun h =>
      h.pwrState = pwrRun ∧ h.f PWR_STAT PWR_STAT.result = pwrAborted)) ∧
  (∀ (s : State) (ok : Bool), s.hw.pwrState = pwrEntering → s.hw.pwr.final = false → s.hw.pwr.step ≠ 0 → s.hw.pwr.step ≤ 22 →
    Completes (.blockAnswer ok) s fun h =>
      match ((cleared s.hw).beforeAnswer s.hw.pwr.step).refusal ok s.hw.pwr.step with
      | none =>
        h.pwr.stopped = s.hw.pwr.stopped ++ stepWindows s.hw.pwr.step ∧ h.pwrState = pwrEntering ∧
          if s.hw.pwr.step < 22 then h.pwr.step = s.hw.pwr.step + 1 ∧ h.pwr.final = false else h.pwr.final = true
      | some r =>
        h.pwr.stopped = [] ∧ h.f PWR_STAT PWR_STAT.reason = r ∧
          h.f PWR_ERR PWR_ERR.rollbacks = min PWR_ERR.rollbacks.max (s.hw.f PWR_ERR PWR_ERR.rollbacks + 1) ∧
          if s.hw.pwr.pastCount = false ∧ s.hw.f PWR_STAT PWR_STAT.attempts ≤ s.hw.f PWR_CFG PWR_CFG.retries then h.pwrState = pwrBackOff
          else h.pwrState = pwrRun ∧ h.f PWR_STAT PWR_STAT.result = pwrFailed) ∧
  (∀ s : State, s.hw.pwrState = pwrEntering → s.hw.pwr.final = false → Completes .blockAnswerTimeout s fun h =>
    h.pwr.stopped = [] ∧ h.f PWR_STAT PWR_STAT.reason = rsNoAnswer ∧
      if s.hw.pwr.pastCount = false ∧ s.hw.f PWR_STAT PWR_STAT.attempts ≤ s.hw.f PWR_CFG PWR_CFG.retries then h.pwrState = pwrBackOff
      else h.pwrState = pwrRun ∧ h.f PWR_STAT PWR_STAT.result = pwrFailed) ∧
  (∀ s : State, s.hw.pwrState = pwrBackOff → Completes .backoffRetry s fun h =>
    h.pwrState = pwrEntering ∧ h.pwr.step = 1 ∧ h.f PWR_STAT PWR_STAT.attempts = min 15 (s.hw.f PWR_STAT PWR_STAT.attempts + 1)) ∧
  (∀ s : State, s.hw.pwr.final = true → s.hw.pwr.stage = .none → Completes .powerDown s fun h =>
    h.pwr.power = targetState (s.hw.f PWR_STAT PWR_STAT.target) ∧ h.pwr.final = false ∧ h.pwr.stopped = mainWindows ∧
      h.f PWR_LAST PWR_LAST.from = s.hw.f PWR_STAT PWR_STAT.target ∧
      (h.pwr.stage = .none → h.f VGL_PMIC VGL_PMIC.en =
        if h.pwr.power = .sleep then 7 else if h.pwr.power = .deepSleep then 1 else 0))

/-- Wakes and the return complete (R378, R382, R385, R386, R388, R395): in a lower state a wake begins the return, during the handshake it ends the
request; the enables rise in order, a failed regulator drops them, and after three retries the device stays down; each stage leads to the next, and
the last to Run or to a boot. -/
def Obligations.ReturnCommandsComplete : Prop :=
  (∀ (s : State) (w : WakeCause) (c : Nat), wakeNumber s.hw w = some c →
    (Down s.hw → s.hw.wakesFrom s.hw.pwr.power c = true → Completes (.wake w) s fun h => Returning h c ∧ h.pwr.power = s.hw.pwr.power) ∧
    (s.hw.pwrState = pwrEntering → s.hw.pwr.final = false → s.hw.wakesFrom (targetState (s.hw.f PWR_STAT PWR_STAT.target)) c = true →
      Completes (.wake w) s fun h =>
        h.pwrState = pwrRun ∧ h.f PWR_STAT PWR_STAT.result = pwrRefused ∧ h.f PWR_STAT PWR_STAT.reason = rsWake ∧ h.pwr.stopped = [])) ∧
  (∀ (s : State) (high : Bool), Completes (.wake (.pin high)) s fun h => h.flag VGL_STAT VGL_STAT.wake_in = high) ∧
  (∀ s : State, s.hw.alarmNow = true →
    (s.hw.pwr.power = .run → s.hw.pwrState ≠ pwrEntering → Completes .alarm s fun h => h.flag VGL_IRQ_STAT VGL_IRQ_STAT.alarm = true) ∧
    (Down s.hw → s.hw.wakesFrom s.hw.pwr.power causeAlarm = true → Completes .alarm s fun h => Returning h causeAlarm)) ∧
  (∀ s : State, Down s.hw → s.hw.pwr.power ≠ .off → s.hw.pwr.rdvPeriod ≠ 0 →
    Completes .rendezvousWake s fun h =>
      Returning h causeRdv ∧ h.pwr.rdvAt = (s.hw.vigilCount + s.hw.pwr.rdvPeriod - 1) / s.hw.pwr.rdvPeriod * s.hw.pwr.rdvPeriod) ∧
  (∀ (s : State) (n : Fin 3), s.hw.pwr.stage = .regulator → s.hw.pwr.rail = n.val →
    Completes (.pgGood n) s fun h =>
      bit (h.f VGL_PMIC VGL_PMIC.pg) n.val = true ∧
        if n.val < 2 then h.pwr.rail = n.val + 1 ∧ bit (h.f VGL_PMIC VGL_PMIC.en) (n.val + 1) = true else h.pwr.stage = .oscillator) ∧
  (∀ s : State, s.hw.pwr.stage = .regulator → Completes .pgTimeout s fun h =>
    h.f VGL_PMIC VGL_PMIC.en = 0 ∧ h.flag VGL_STAT VGL_STAT.pg_fail = true ∧ h.pwr.stage = .none ∧
      h.pwr.retryDue = decide (s.hw.f VGL_STAT VGL_STAT.pg_retries < 3) ∧ h.pwr.stayDown = !h.pwr.retryDue) ∧
  (∀ s : State, s.hw.pwr.retryDue = true → s.hw.f VGL_STAT VGL_STAT.pg_retries < 3 → Completes .pgRetry s fun h =>
    h.f VGL_PMIC VGL_PMIC.en = 1 ∧ h.f VGL_STAT VGL_STAT.pg_retries = s.hw.f VGL_STAT VGL_STAT.pg_retries + 1 ∧
      h.pwr.stage = .regulator ∧ h.pwr.rail = 0 ∧ h.pwr.retryDue = false) ∧
  (∀ s : State, s.hw.pwr.stage = .oscillator → Completes .pllLockTimeout s fun h => LockedWith h 5) ∧
  (∀ (s : State) (tr : List DdrTrain),
    (s.hw.pwr.stage = .oscillator → Completes (.returnStageReady tr) s fun h => h.pwr.stage = .memory) ∧
    (s.hw.pwr.stage = .memory → s.hw.pwr.power ≠ .sleep → Completes (.returnStageReady tr) s fun h => h.pwr.stage = .logic) ∧
    (s.hw.pwr.stage = .memory → s.hw.pwr.power = .sleep →
      (∀ i < 2, s.hw.f (DDR_CH_STAT i) DDR_CH_STAT.state ≠ 3 ∧
        (s.hw.f (DDR_CH_STAT i) DDR_CH_STAT.state = 2 → (tr.getD i default).first = true ∨ (tr.getD i default).second = true)) →
      Completes (.returnStageReady tr) s fun h => h.pwr.stage = .logic) ∧
    (s.hw.pwr.stage = .memory → s.hw.pwr.power = .sleep → s.hw.f (DDR_CH_STAT 0) DDR_CH_STAT.state = 2 →
      (tr.getD 0 default).first = false → (tr.getD 0 default).second = false →
      Completes (.returnStageReady tr) s fun h => ResetDone s.hw h SYS_RST_CAUSE.supply_por) ∧
    (s.hw.pwr.stage = .logic → s.hw.pwr.power = .sleep → s.hw.brl.erasedAsleep = false →
      Completes (.returnStageReady tr) s fun h =>
        h.pwr.power = .run ∧ h.pwr.stopped = [] ∧ h.pwrState = pwrRun ∧ h.flag PWR_IRQ_STAT PWR_IRQ_STAT.woke = true ∧
          h.f PWR_LAST PWR_LAST.cause = s.hw.pwr.causes % 64) ∧
    (s.hw.pwr.stage = .logic → s.hw.pwr.power = .deepSleep →
      Completes (.returnStageReady tr) s fun h => h.pwr.power = .run ∧ h.pwr.bootDue = true ∧ h.pwr.warm = true ∧ h.pwr.stopped = []) ∧
    (s.hw.pwr.stage = .logic → s.hw.pwr.power = .off →
      Completes (.returnStageReady tr) s fun h => ResetDone s.hw h SYS_RST_CAUSE.supply_por))

/-- Resets complete (R27, R388–R390, R392): each device reset shows its cause and leaves what is outside the Vigil domain at its reset value; the loss
of VBAT also loses the Vigil domain; a core's reset frees what its master holds. -/
def Obligations.ResetCommandsComplete : Prop :=
  (∀ s : State, Completes .resetPin s fun h =>
    ResetDone s.hw h SYS_RST_CAUSE.pin ∧ (∀ k, keptReg k = true → h.reg k = s.hw.reg k) ∧
      ∀ k, keptReg k = false → k ≠ SYS_RST_CAUSE → k ≠ BRL_TMP_STAT → h.reg k = Hw.reset.reg k) ∧
  (∀ (s : State) (via : BusAcc) (v : Word), Permitted s.hw via SYS_RST_CTRL → Completes (.softwareReset via v) s fun h =>
    if SYS_RST_CTRL.key.get v = 0x7128 ∧ SYS_RST_CTRL.device.get v = 1 then ResetDone s.hw h SYS_RST_CAUSE.software
    else h.pwr = s.hw.pwr ∧ h.mem = s.hw.mem) ∧
  (∀ s : State, Completes .watchdogExpiry s fun h =>
    if s.hw.flag VGL_CFG VGL_CFG.wdog_en = true ∧ s.hw.pwr.power = .run ∧
        max 1 (s.hw.f VGL_WDOG VGL_WDOG.timeout_ms) * 32768 ≤ (s.hw.vigilCount + 2 ^ 48 - s.hw.pwr.kickedAt) % 2 ^ 48 * 1000 then
      ResetDone s.hw h SYS_RST_CAUSE.watchdog
    else h = cleared s.hw) ∧
  (∀ (s : State) (via : BusAcc), Permitted s.hw via VGL_WDOG → s.hw.pwr.vglWrites = [] → Completes (.watchdogKick via) s fun h =>
    h.pwr.kickedAt = s.hw.vigilCount ∧ h.pwr.vglWrites = [] ∧ h.f VGL_WDOG VGL_WDOG.timeout_ms = s.hw.f VGL_WDOG VGL_WDOG.timeout_ms) ∧
  (∀ s : State, Completes .vbatPor s fun h =>
    ResetDone s.hw h SYS_RST_CAUSE.vbat_por ∧ h.flag VGL_STAT VGL_STAT.vbat_por = true ∧ h.vigilCount = 0 ∧ h.alm.lastGasp = []) ∧
  (∀ s : State, s.hw.pwr.unpowered = true ∨ s.hw.pwr.power = .off → Completes .supplyPor s fun h =>
    ResetDone s.hw h SYS_RST_CAUSE.supply_por ∧ h.reg64 CAL_SLEEP_LO = (s.hw.vigilCount + 2 ^ 48 - s.hw.pwr.lostAt) % 2 ^ 48) ∧
  (∀ s : State, Completes .vbatLoss s fun h =>
    (∀ k, k / 0x10000 = 0x1B → h.reg k = Hw.reset.reg k) ∧ h.alm.lastGasp = [] ∧ h.brl.retained = none ∧
      (s.hw.paired = true → h.flag EQX_STAT EQX_STAT.hold = false)) ∧
  (∀ (s : State) (via : BusAcc) (n : Fin 8), Permitted s.hw via (SYS_CORE_CTRL n.val) →
    Completes (.coreReset via n) s (fun h =>
      h.cores.at n.val = default ∧
        h.flag (SYS_CORE_CTRL n.val) SYS_CORE_CTRL.run = s.hw.flag (SYS_CORE_CTRL n.val) SYS_CORE_CTRL.run ∧
        ∀ k < 16, s.hw.f (SEM_LOCK k) SEM_LOCK.owner = n.val + 1 → h.f (SEM_LOCK k) SEM_LOCK.owner = 0) ∧
    Completes (.coreRelease via n) s fun h => h.flag (SYS_CORE_CTRL n.val) SYS_CORE_CTRL.run = true ∧ h.cores = s.hw.cores)

/-- Start-up completes (R323, R325, R340, R359, R384, R391–R395): a boot samples the straps and begins the boot ROM; each stage leads to the next, to
recovery, or with its halt reason to the locked state. -/
def Obligations.StartCommandsComplete : Prop :=
  (∀ (s : State) (x : Straps) (ok : Bool), s.hw.pwr.bootDue = true → s.hw.pwr.warm = false → Completes (.boot x ok) s fun h =>
    h.bootStage = stRom ∧ h.reg SYS_STRAP = strapWord x ∧ h.f (HP_CFG 0) HP_CFG.mode = x.haMode.toNat ∧
      h.f (HP_CFG 1) HP_CFG.mode = x.hbMode.toNat ∧ h.flag (SYS_CORE_CTRL 0) SYS_CORE_CTRL.self_ok = ok ∧ h.pwr.bootDue = false) ∧
  (∀ (s : State) (ok : Bool), s.hw.pwr.bootDue = true → s.hw.pwr.warm = true → Completes (.warmStart ok) s fun h =>
    h.bootStage = stRom ∧ h.reg SYS_STRAP = s.hw.pwr.straps ∧ h.flag SYS_BOOT SYS_BOOT.warm = true ∧
      h.flag SYS_RST_CAUSE SYS_RST_CAUSE.deep_sleep = true ∧ h.pwr.bootDue = false) ∧
  (∀ (s : State) (b : BootFacts),
    (s.hw.bootStage = stRom → Completes (.bootStageComplete b) s fun h => if b.bank0Ok then h.bootStage = stKeys else LockedWith h 1) ∧
    (s.hw.bootStage = stKeys → s.hw.startTamper = true → Completes (.bootStageComplete b) s fun h => LockedWith h 6) ∧
    (s.hw.bootStage = stKeys → s.hw.startTamper = false → (∀ i < 4, s.hw.brl.roots.at i = .unused) → b.entropyOk = false →
      Completes (.bootStageComplete b) s fun h => LockedWith h 2 ∧ h.brlState = brlNoRoot) ∧
    (∀ v, s.hw.bootStage = stKeys → s.hw.startTamper = false → s.hw.brl.roots.at 3 = .root v → s.hw.brl.newest = none →
      s.hw.brl.retained = none → s.hw.brl.copyA.gen = 0 → s.hw.brl.copyB.gen = 0 →
      Completes (.bootStageComplete b) s fun h =>
        h.bootStage = stActivation ∧ h.brlState = (if s.hw.brl.closed then brlClosed else brlOpen) ∧ h.brl.root = v) ∧
    (s.hw.bootStage = stActivation →
      (s.hw.flash.imgSize < 0x04000000 → Completes (.bootStageComplete b) s fun h => LockedWith h 3) ∧
      (0x04000000 ≤ s.hw.flash.imgSize → Completes (.bootStageComplete b) s fun h =>
        (h.bootStage = stRecovery ∧ h.upd.recovery = true ∨ h.bootStage = stStructure) ∧
          (s.hw.upd.recoverNext = true ∧ s.hw.pwr.warm = false ∨ s.hw.flag SYS_STRAP SYS_STRAP.boot_rcv = true → h.bootStage = stRecovery))) ∧
    (s.hw.bootStage = stStructure → Completes (.bootStageComplete b) s fun h =>
      h.bootStage = stDram ∧ h.cfg.image = if (s.hw.actPart 0).active then b.imageB else b.imageA) ∧
    (s.hw.bootStage = stDram → Completes (.bootStageComplete b) s fun h =>
      if ([0, 1].all fun i => !bit (s.hw.f DDR_CFG DDR_CFG.ch_en) i || (b.training.getD i default).first || (b.training.getD i default).second) = true
      then h.bootStage = stSafety ∧ h.f DDR_STAT DDR_STAT.state = 2 else LockedWith h 4) ∧
    (s.hw.bootStage = stSafety → Completes (.bootStageComplete b) s fun h =>
      h.bootStage = stApplication ∧ h.flag SYS_SP_STAT SYS_SP_STAT.running = true) ∧
    (s.hw.bootStage = stApplication → Completes (.bootStageComplete b) s fun h =>
      h.bootStage = stRunning ∧ h.flag (SYS_CORE_CTRL 0) SYS_CORE_CTRL.run = true)) ∧
  (∀ (s : State) (via : BusAcc) (tr : List DdrTrain), Permitted s.hw via DDR_INIT → s.hw.f DDR_STAT DDR_STAT.state ≠ 2 →
    Completes (.ddrInit via tr) s fun h => ∀ i < 2, bit (s.hw.f DDR_CFG DDR_CFG.ch_en) i = true →
      if (tr.getD i default).first = true ∨ (tr.getD i default).second = true then
        h.f (DDR_CH_STAT i) DDR_CH_STAT.state = 1 ∧ h.f (DDR_CH_STAT i) DDR_CH_STAT.size = (tr.getD i default).size.toNat
      else h.f (DDR_CH_STAT i) DDR_CH_STAT.state = 3 ∧ h.f DDR_STAT DDR_STAT.state = 4) ∧
  (∀ (s : State) (via : BusAcc) (tr : List DdrTrain), Permitted s.hw via DDR_INIT → s.hw.f DDR_STAT DDR_STAT.state = 2 →
    Completes (.ddrInit via tr) s fun h => ∀ i < 2, h.reg (DDR_CH_STAT i) = s.hw.reg (DDR_CH_STAT i))

/-- The block runs its commands in order: a step on a waiting command is that command on the rest of the queue; with none waiting one cycle of the
Time domain passes (log entry 4), which touches no memory and no engine. The table gives its rows no bits, so no word spells a command. -/
def Obligations.StepRunsTheFrontCommand : Prop :=
  (∀ (s : State) (c : Instr) (rest : List Instr), s.pending = c :: rest → step s = exec c { s with pending := rest }) ∧
  (∀ s : State, s.pending = [] → ∃ t, step s = .next t ∧ t.pending = [] ∧
    t.hw = { s.hw with regs := t.hw.regs, bus := t.hw.bus, cores := t.hw.cores, cfg := t.hw.cfg, alm := t.hw.alm, cal := t.hw.cal, pwr := t.hw.pwr,
                       eth := t.hw.eth }) ∧
  (∀ nbits w : Nat, decodeTableWord nbits w = none)

/-- What device reset leaves (R46, R257, R287, R390): nothing waits and nothing is held; STP is unarmed with source 0 latched, Calends unset, the
radio listens, the boot is due, and every register reads its reset value. That memory reads as unwritten is the model's choice (log entry 2). -/
def Obligations.ResetState : Prop :=
  State.reset.pending = [] ∧ QueueOk State.reset ∧ Memory.wf State.reset.hw.mem = true ∧ State.reset.hw.stpState = stpUnarmed ∧
  State.reset.hw.f STP_SRC_STAT STP_SRC_STAT.latched = 1 ∧ State.reset.hw.calState = calUnset ∧
  State.reset.hw.flag RAD_CFG RAD_CFG.listen = true ∧ State.reset.hw.fleetHold = false ∧ State.reset.hw.pwr.power = .run ∧
  State.reset.hw.pwr.bootDue = true ∧ State.reset.hw.cal.sec = 0 ∧ State.reset.hw.bus.staging = [] ∧
  (∀ n < 16, State.reset.hw.f (SEM_LOCK n) SEM_LOCK.owner = 0)

/-- A command of a form that a sender can make answers a next state in every state of the device, and leaves the queue alone; one of another form
is refused by name (R60). -/
def Obligations.WellFormedCommandsAnswer : Prop :=
  ∀ (c : Instr) (s : State),
    (WellFormed c = true → ∃ t, exec c s = .next t ∧ t.pending = s.pending) ∧
    (WellFormed c = false → ∃ k, exec c s = .refused (.illFormed k))

/-- Every step keeps the queue's invariant: the commands still waiting are well formed, and they are those behind the one that ran. -/
def Obligations.StepKeepsQueueOk : Prop :=
  ∀ s t : State, QueueOk s → step s = .next t → QueueOk t ∧ t.pending = s.pending.tail

/-- A queue of well-formed commands drains: from every state, however many steps are taken, every step answers a next state, and after `n` of them
the first `n` commands are gone. No state of the device stops the block. -/
def Obligations.QueueDrains : Prop :=
  ∀ (n : Nat) (s : State), QueueOk s → ∃ t, drain n s = some t ∧ t.pending = s.pending.drop n ∧ QueueOk t

/-- An idle block keeps time (R285, R286): after `n` idle steps, with Calends' clock running and no new increment waiting, site time has advanced by
`n` increments exactly, whatever the seconds and nanoseconds carry, and the queue is still empty. That an idle step is one tick is the model's
choice (log entry 4). -/
def Obligations.IdleKeepsTime : Prop :=
  ∀ (n : Nat) (s : State), s.pending = [] → 0x14 ∉ s.hw.pwr.stopped → s.hw.cal.incNext = none →
    ∃ t, drain n s = some t ∧ t.pending = [] ∧ siteTotal t.hw = siteTotal s.hw + n * s.hw.cal.inc ∧ t.hw.cal.inc = s.hw.cal.inc ∧
      (0 < n → t.hw.cal.ns < 1000000000)

/-- No right, no effect (R9, R20, R24, R37, R39, R42, R54): whichever of the register commands it is, an access that ends in a bus error changes
nothing in the device but the count of access errors of the block addressed; the master gets the bus error. -/
def Obligations.BusErrorsChangeNothing : Prop :=
  ∀ (c : Instr) (s : State) (a : BusAcc) (k : Nat) (w : Bool), accessOf c = some (a, k, w) → s.hw.busError a k w = true →
    Completes c s fun h =>
      h = { s.hw with regs := h.regs, bus := { s.hw.bus with resp := .busError, out := h.bus.out } } ∧
      (∀ j, j ≠ HLT_ACC_ERR (k / 0x10000) → h.reg j = s.hw.reg j) ∧
      (∀ o ∈ h.bus.out, o = .exception a.master.num)

/-- R9 and R24: byte, 16-bit and unaligned accesses, and accesses to window 0x1F, complete with a bus error and have no effect; each of the first
three kinds counts in the block's access-error counter, which saturates. -/
def Obligations.IllegalAccessesAreBusErrors : Prop :=
  (∀ (c : Instr) (s : State) (a : BusAcc) (k : Nat) (w : Bool), accessOf c = some (a, k, w) → (a.size ≠ .word ∨ k % 4 ≠ 0) →
    Completes c s fun h =>
      h.bus.resp = .busError ∧ (∀ j, j / 0x10000 ≠ 0x1C → h.reg j = s.hw.reg j) ∧ h.mem = s.hw.mem ∧
      (k / 0x10000 < 0x1F → h.f (HLT_ACC_ERR (k / 0x10000)) HLT_ACC_ERR.count =
        min HLT_ACC_ERR.count.max (s.hw.f (HLT_ACC_ERR (k / 0x10000)) HLT_ACC_ERR.count + 1))) ∧
  (∀ (c : Instr) (s : State) (a : BusAcc) (k : Nat) (w : Bool), accessOf c = some (a, k, w) → k / 0x10000 = 0x1F →
    Completes c s fun h => h.bus.resp = .busError ∧ h.regs = s.hw.regs ∧ h.mem = s.hw.mem)

/-- Absent registers and stopped blocks (R10, R20): outside the mailbox channels, a read of an offset that shows the reader no register gives zero and
a write of one does nothing; a read of a block whose clock is stopped gives zero and counts, a write of it is a bus error. -/
def Obligations.AbsentRegistersAndStoppedBlocks : Prop :=
  ∀ (s : State) (via : BusAcc) (reg : BitVec 21) (v : Word), mbxChOf (regKey reg) = none →
    (s.hw.busError (viewAt via reg) (regKey reg) true = false → (viewAt via reg).sees (regKey reg) = none →
      Completes (.registerWrite via reg v) s (fun h => h = (cleared s.hw).answer .done) ∧
      Completes (.lowWordRead via reg) s fun h => h = (cleared s.hw).answer (.data [0])) ∧
    (s.hw.busError (viewAt via reg) (regKey reg) false = false → memb (regKey reg / 0x10000) s.hw.pwr.stopped = true →
      Completes (.registerWrite via reg v) s (fun h => h.bus.resp = .busError) ∧
      Completes (.lowWordRead via reg) s fun h =>
        h.bus.resp = .data [0] ∧ (∀ j, j ≠ HLT_ACC_ERR (regKey reg / 0x10000) → h.reg j = s.hw.reg j) ∧
        h.f (HLT_ACC_ERR (regKey reg / 0x10000)) HLT_ACC_ERR.count =
          min HLT_ACC_ERR.count.max (s.hw.f (HLT_ACC_ERR (regKey reg / 0x10000)) HLT_ACC_ERR.count + 1))

/-- The lock rule (R13, R55): in a locked block a write leaves every WL field as it was and raises no error, while an RW field of the same register
takes its new value; a privileged one is recorded with the rejected flag exactly where it would have changed a WL field. -/
def Obligations.LockedFieldsHold : Prop :=
  ∀ (s : State) (via : BusAcc) (reg : BitVec 21) (v : Word) (r : RegDef) (d : FieldDef),
    PlainReg (regKey reg) r → Permitted s.hw (viewAt via reg) (regKey reg) → s.hw.locked (regKey reg) = true → d ∈ r.fields →
    Completes (.registerWrite via reg v) s fun h =>
      h.bus.resp = .done ∧
      (d.access = .wl → h.f (regKey reg) ⟨d.lo, d.width⟩ = s.hw.f (regKey reg) ⟨d.lo, d.width⟩) ∧
      (d.access = .rw → h.f (regKey reg) ⟨d.lo, d.width⟩ = Fld.get ⟨d.lo, d.width⟩ v) ∧
      (bit reg.toNat 15 = false → ∃ q, h.bus.staging = s.hw.bus.staging ++ [q] ∧ q.source = cfgSource ∧ q.a0 = v ∧
        (bit q.a1.toNat 24 = true ↔ ∃ e ∈ r.fields, e.access = .wl ∧
          Fld.get ⟨e.lo, e.width⟩ v ≠ s.hw.f (regKey reg) ⟨e.lo, e.width⟩))

/-- Privileged writes (R15, R55, R56): of two writes of one register in grant order the second value stands, and both are recorded, in that order; a
write that finds the staging queue full changes no register and waits; a drain takes one record. -/
def Obligations.PrivilegedWritesInOrder : Prop :=
  (∀ (s : State) (a b : BusAcc) (reg : BitVec 21) (v w : Word) (r : RegDef) (rest : List Instr),
    s.pending = .registerWrite a reg v :: .registerWrite b reg w :: rest → PlainReg (regKey reg) r →
    s.hw.busError (viewAt a reg) (regKey reg) true = false → s.hw.busError (viewAt b reg) (regKey reg) true = false →
    bit reg.toNat 15 = false → s.hw.bus.staging.length ≤ 62 → (∀ d ∈ r.fields, d.access = .rw ∨ d.access = .rwv) →
    ∃ t q p, drain 2 s = some t ∧ t.pending = rest ∧
      (∀ d ∈ r.fields, t.hw.f (regKey reg) ⟨d.lo, d.width⟩ = Fld.get ⟨d.lo, d.width⟩ w) ∧
      t.hw.bus.staging = s.hw.bus.staging ++ [q, p] ∧ q.a0 = v ∧ p.a0 = w ∧ p.seq = (q.seq + 1) % 2 ^ 32) ∧
  (∀ (s : State) (via : BusAcc) (reg : BitVec 21) (v : Word) (r : RegDef),
    PlainReg (regKey reg) r → s.hw.busError (viewAt via reg) (regKey reg) true = false → bit reg.toNat 15 = false → s.hw.stagingFull = true →
    Completes (.registerWrite via reg v) s fun h =>
      h.bus.resp = .held ∧ h.regs = s.hw.regs ∧ h.bus.staging = s.hw.bus.staging ∧ h.alm = s.hw.alm ∧
        h.bus.waiting = s.hw.bus.waiting ++ [⟨viewAt via reg, regKey reg, v⟩]) ∧
  (∀ s : State, s.hw.bus.staging ≠ [] → s.hw.bus.waiting = [] → s.hw.almState = almRecording → s.hw.alm.room = true →
    Completes .stagingDrain s fun h => h.bus.staging = s.hw.bus.staging.tail)

/-- Sleep requests refused (R145, R172, R198, R226, R284, R339, R377): the block asked refuses with its reason exactly while the condition of its rule
holds, and else agrees; HLT never refuses. The conditions of RAD and CAL stand beside them. -/
def Obligations.SleepRefusals : Prop :=
  ∀ (s : State) (ok : Bool) (n reason : Nat) (cond : Prop), s.hw.pwrState = pwrEntering → s.hw.pwr.final = false → s.hw.pwr.step = n →
    (n = 2 ∧ reason = 0x0E ∧ cond = (s.hw.alm.clear.isSome = true ∨ s.hw.alm.held ≠ 0 ∨ s.hw.bus.staging ≠ []) ∨
     n = 3 ∧ reason = 0x0C ∧ cond = (s.hw.brlOps ≠ []) ∨
     n = 6 ∧ reason = 0x0A ∧ cond = (∃ t < 16, s.hw.trigState t = trigArmed) ∨
     n = 9 ∧ reason = 0x09 ∧ cond = (s.hw.linkUp = true) ∨
     n = 10 ∧ reason = 0x08 ∧ cond = (s.hw.stpState = stpRunning) ∨
     n = 11 ∧ reason = 0x06 ∧ cond = (∃ i < 16, (s.hw.axis i).enable = true) ∨
     n = 12 ∧ reason = 0x05 ∧ cond = (s.hw.lth.active ≠ [] ∨ s.hw.lth.pending ≠ []) ∨
     n = 13 ∧ reason = 0x04 ∧ cond = ((∃ p ∈ s.hw.rsv.toks, p.2.state ≠ 0) ∨ ∃ e ∈ s.hw.rsv.entries, e.token = 0) ∨
     n = 14 ∧ reason = 0x03 ∧ cond = (∃ r, 1 ≤ r ∧ r < 129 ∧ (s.hw.robotMode r = 1 ∨ s.hw.robotMode r = 2)) ∨
     n = 15 ∧ reason = 0x07 ∧ cond = (∃ l < 8, (s.hw.lane l).onAir.isSome = true) ∨
     n = 16 ∧ reason = 0x02 ∧ cond = (s.hw.jobs ≠ []) ∨
     n = 20 ∧ reason = 0 ∧ cond = False) →
    Completes (.blockAnswer ok) s fun h =>
      (cond → h.pwr.stopped = [] ∧ h.f PWR_STAT PWR_STAT.reason = reason) ∧
      (¬cond → h.pwr.stopped = s.hw.pwr.stopped ++ stepWindows n ∧ h.pwr.step = n + 1)

/-- Frames of commands that store nothing: the commands named change what they name and leave the rest of the device, memory included, as it was. -/
def Obligations.RegisterCommandsFrame : Prop :=
  (∀ (s : State) (via : BusAcc) (reg : BitVec 21) (v : Word) (r : RegDef), PlainReg (regKey reg) r → Permitted s.hw (viewAt via reg) (regKey reg) →
    Completes (.registerWrite via reg v) s fun h =>
      h = { s.hw with regs := h.regs, bus := h.bus, alm := { s.hw.alm with seqs := h.alm.seqs } } ∧
      ∀ j, j ≠ regKey reg → (∀ f < 21, j ≠ CFG_PRESET_SEL f) → h.reg j = s.hw.reg j) ∧
  (∀ (s : State) (via : BusAcc) (n : Fin 16), Permitted s.hw via (AXL_AX_CMD n.val) →
    ∀ c ∈ [Instr.enable via n, .disable via n, .moveAbs via n, .moveRel via n, .jog via n, .halt via n, .home via n, .setPos via n, .follow via n,
      .release via n],
    Completes c s fun h =>
      h = { s.hw with regs := h.regs, bus := h.bus, alm := { s.hw.alm with seqs := h.alm.seqs }, axl := { s.hw.axl with axes := h.axl.axes } } ∧
      (∀ m, m ≠ n.val → h.axis m = s.hw.axis m) ∧
      ∀ j, j ≠ AXL_AX_CMD n.val → (∀ f < 21, j ≠ CFG_PRESET_SEL f) → h.reg j = s.hw.reg j) ∧
  (∀ (s : State) (who : Requester), Completes (.fabricPromotion who) s fun h =>
    h = { cleared s.hw with bus := { (cleared s.hw).bus with promoted := h.bus.promoted } } ∧
      ∀ n, n ≠ requesterIndex who → h.bus.promoted.at n = s.hw.bus.promoted.at n) ∧
  (∀ s : State, ∀ c ∈ [Instr.flushTimeout, .pageProgram], Completes c s fun h => h = { cleared s.hw with alm := h.alm }) ∧
  (∀ s : State, ∀ c ∈ [Instr.relayTimeout, .stopPin .a true false, .stopPin .b false true], Completes c s fun h =>
    h = { cleared s.hw with stp := h.stp }) ∧
  (∀ (s : State) (n : Fin 3), Completes (.oldKeyExpiry n) s fun h => h = { cleared s.hw with ports := h.ports } ∧ h.ports.stop = s.hw.ports.stop) ∧
  (∀ s : State, ∀ c ∈ [Instr.backoffRetry, .pgRetry, .rendezvousWake, .pgGood 0, .pgGood 1, .pgGood 2], Completes c s fun h =>
    h = { cleared s.hw with regs := h.regs, pwr := h.pwr } ∧
      ∀ j, j ≠ PWR_STAT → j ≠ VGL_PMIC → j ≠ VGL_STAT → h.reg j = s.hw.reg j) ∧
  (∀ (s : State) (k : Fin 2), Completes (.clusterGate k) s fun h =>
    h = { cleared s.hw with regs := h.regs, cores := h.cores } ∧ (∀ j, j ≠ SYS_CLUSTER k.val → h.reg j = s.hw.reg j) ∧
      ∀ n, n / 4 ≠ k.val → h.cores.at n = s.hw.cores.at n) ∧
  (∀ (s : State) (x : Straps) (ok : Bool), ∀ c ∈ [Instr.boot x ok, .warmStart ok], Completes c s fun h =>
    h = { cleared s.hw with regs := h.regs, pwr := h.pwr } ∧
      ∀ j, j ∉ [SYS_STRAP, SYS_BOOT, SYS_RST_CAUSE, HP_CFG 0, HP_CFG 1, SYS_CORE_CTRL 0] → h.reg j = s.hw.reg j)

/-- Memory frames of commands that store nothing: whatever the access is and whatever the command answers, every byte of memory reads as before. -/
def Obligations.MemoryUnchanged : Prop :=
  ∀ (s : State) (via : BusAcc) (v : Word) (n : Fin 16) (p : Fin 4) (ch : Fin 32) (key : BitVec 16) (core : Fin 8),
    ∀ c ∈ [Instr.enable via n, .disable via n, .moveAbs via n, .moveRel via n, .jog via n, .halt via n, .home via n, .setPos via n, .follow via n,
      .release via n, .activate via p, .confirm via p, .rollback via p, .abandon via key, .recovery via key, .updVerify via, .close via,
      .logClear via v, .post via v, .enterSleep via, .enterDeepSleep via, .enterOff via, .powerAbort via, .semLockRead via n, .semLockWrite via n v,
      .semForce via v, .tokenQuery via v, .timeSnapshot via, .tsqPop via, .incrementWrite via v, .reportSnapshot via, .mbxRecv via ch,
      .mbxDbRing via ch v, .mbxChLockRead via ch, .coreRelease via core, .estateWrite via v, .provisioningClose via v],
    Completes c s fun h => ∀ a, h.byteAt a = s.hw.byteAt a

/-- Memory frames of commands that store: outside the octets that the command stores, at the addresses its meaning computes, every byte of memory reads
as before (R345, R349, R350, R364, R367). -/
def Obligations.MemoryOutsideStoresUnchanged : Prop :=
  (∀ s : State, Completes (.programComplete .ok) s fun h =>
    ∀ a, a < logSlot s.hw.almCount ∨ logSlot s.hw.almCount + 32 * s.hw.alm.programming ≤ a → h.byteAt a = s.hw.byteAt a) ∧
  (∀ (s : State) (res : FlashResult), Completes (.blockEraseComplete res) s fun h =>
    ∀ a, (∀ c, s.hw.alm.clear = some c → a < 0x0900000000 + 65536 * c.nextBlock ∨ 0x0900000000 + 65536 * (c.nextBlock + 1) ≤ a) →
      h.byteAt a = s.hw.byteAt a) ∧
  (∀ s : State, Completes .calPersist s fun h =>
    ∀ a, a < calBase 0 ∨ calBase 0 + 0x4000 ≤ a → h.byteAt a = s.hw.byteAt a) ∧
  (∀ (s : State) (res : FlashResult) (n : Nat) (x : Session), s.hw.upd.session = some x → Completes (.eraseComplete res n) s fun h =>
    ∀ a, (∀ b ∈ x.toErase.take n, a < slotBase x.part x.slot + 65536 * b ∨ slotBase x.part x.slot + 65536 * (b + 1) ≤ a) →
      (a < slotBase x.part x.slot ∨ slotBase x.part x.slot + x.manifest.length ≤ a) → h.byteAt a = s.hw.byteAt a) ∧
  (∀ (s : State) (res : FlashResult) (r : List Byte) (g : Hw) (x : Session), UpdTakes (cleared s.hw) 2 r g → g.upd.session = some x →
    Completes (.piece res) s fun h =>
      ∀ a, (a < slotBase x.part x.slot + 0x20000 + 4096 * fieldAt r 4 2 ∨ slotBase x.part x.slot + 0x20000 + 4096 * (fieldAt r 4 2 + 1) ≤ a) →
        (a < slotBase x.part x.slot + 0x1000 + 16 * fieldAt r 4 2 ∨ slotBase x.part x.slot + 0x1000 + 16 * (fieldAt r 4 2 + 1) ≤ a) →
        h.byteAt a = g.byteAt a)

end
end

