-- ==== Sys2Proof/Laws/Maps.lean ====
section
/-! SUPPORT. What the operations of a sparse table do: a read after a write, the frame of a write, the canonical form. -/

namespace Sys2Proof

variable {α : Type}

/-- Leaving out the entries of one number does not change what another reads as. -/
theorem Map.get_filter_ne (d : Nat → α) (m : Map α) (k j : Nat) (h : j ≠ k) :
    Map.get d (m.filter fun p => decide (p.1 ≠ k)) j = Map.get d m j := by
  simp only [ne_eq, decide_not]
  induction m with
  | nil => rfl
  | cons p m ih =>
    obtain ⟨i, v⟩ := p
    by_cases hk : i = k
    · have : i ≠ j := fun e => h (e ▸ hk)
      simp_all [Map.get]
    · simp [hk, Map.get, ih]

/-- A number all whose entries are left out reads as unlisted. -/
theorem Map.get_filter_self (d : Nat → α) (m : Map α) (k : Nat) :
    Map.get d (m.filter fun p => decide (p.1 ≠ k)) k = d k := by
  simp only [ne_eq, decide_not]
  induction m with
  | nil => rfl
  | cons p m ih =>
    obtain ⟨i, v⟩ := p
    by_cases hk : i = k <;> simp [hk, Map.get, ih]

/-- In an empty table every entry is idle. -/
@[simp] theorem Map.at_nil [Inhabited α] (k : Nat) : Map.at ([] : Map α) k = default := rfl

variable [DecidableEq α]

/-- A read of the number written gives the value written. -/
@[simp] theorem Map.get_put_same (d : Nat → α) (m : Map α) (k : Nat) (v : α) : Map.get d (Map.put d m k v) k = v := by
  induction m with
  | nil => by_cases h : v = d k <;> simp [Map.put, Map.get, h]
  | cons p m ih =>
    obtain ⟨i, w⟩ := p
    unfold Map.put
    split
    · rename_i hlt
      split
      · rename_i hv
        have hne : ¬ i = k := by omega
        rw [Map.get, if_neg hne, Map.get_filter_self, hv]
      · simp [Map.get]
    · split
      · exact ih
      · rename_i hne
        have : ¬ i = k := fun e => hne e.symm
        simp [Map.get, this, ih]

/-- A write leaves every other number as it was. -/
theorem Map.get_put_other (d : Nat → α) (m : Map α) (k j : Nat) (v : α) (h : j ≠ k) :
    Map.get d (Map.put d m k v) j = Map.get d m j := by
  have hk : ¬ k = j := fun e => h e.symm
  induction m with
  | nil => by_cases hv : v = d k <;> simp [Map.put, Map.get, hv, hk]
  | cons p m ih =>
    obtain ⟨i, w⟩ := p
    unfold Map.put
    split
    · split
      · simp only [Map.get]; split
        · rfl
        · exact Map.get_filter_ne d m k j h
      · simp [Map.get, hk]
    · split
      · rename_i he
        have : ¬ i = j := fun e => h (e ▸ he.symm)
        simp [Map.get, this, ih]
      · simp [Map.get, ih]

/-- The canonical form of a table less its first entry. -/
theorem Map.wf_tail {d : Nat → α} {p : Nat × α} {m : Map α} (h : Map.wf d (p :: m) = true) : Map.wf d m = true := by
  cases m with
  | nil => rfl
  | cons q m => simp_all [Map.wf]

/-- Every number after the first is above it. -/
theorem Map.wf_lt {d : Nat → α} {m : Map α} :
    ∀ {p : Nat × α}, Map.wf d (p :: m) = true → ∀ q ∈ m, p.1 < q.1 := by
  induction m with
  | nil => intro p _ q hq; cases hq
  | cons r m ih =>
    intro p h q hq
    have h1 : p.1 < r.1 := by simp_all [Map.wf]
    rcases List.mem_cons.mp hq with rfl | hm
    · exact h1
    · exact Nat.lt_trans h1 (ih (Map.wf_tail h) q hm)

/-- A table in canonical form has a first entry that differs from the unlisted value. -/
theorem Map.wf_head {d : Nat → α} {p : Nat × α} {m : Map α} (h : Map.wf d (p :: m) = true) : p.2 ≠ d p.1 := by
  cases m with
  | nil => simp_all [Map.wf]
  | cons q m => simp_all [Map.wf]

/-- When an entry may stand before a canonical table. -/
theorem Map.wf_cons {d : Nat → α} {p : Nat × α} {m : Map α} (hv : p.2 ≠ d p.1) (hm : Map.wf d m = true)
    (hl : ∀ q ∈ m, p.1 < q.1) : Map.wf d (p :: m) = true := by
  cases m with
  | nil => simp_all [Map.wf]
  | cons q m =>
    have := hl q (by simp)
    simp_all [Map.wf]

/-- The numbers that a write can add are the one written. -/
theorem Map.mem_put {d : Nat → α} {m : Map α} {k : Nat} {v : α} {q : Nat × α} (h : q ∈ Map.put d m k v) :
    q.1 = k ∨ q ∈ m := by
  induction m with
  | nil =>
    simp only [Map.put] at h
    split at h <;> simp_all
  | cons p m ih =>
    unfold Map.put at h
    split at h
    · split at h
      · rcases List.mem_cons.mp h with rfl | h
        · simp
        · exact Or.inr (List.mem_cons_of_mem _ (List.mem_filter.mp h).1)
      · rcases List.mem_cons.mp h with rfl | h
        · simp
        · exact Or.inr h
    · split at h
      · exact (ih h).imp id (List.mem_cons_of_mem _)
      · rcases List.mem_cons.mp h with rfl | h
        · simp
        · exact (ih h).imp id (List.mem_cons_of_mem _)

/-- A write keeps the canonical form. -/
theorem Map.wf_put (d : Nat → α) (m : Map α) (k : Nat) (v : α) (h : Map.wf d m = true) :
    Map.wf d (Map.put d m k v) = true := by
  induction m with
  | nil => by_cases hv : v = d k <;> simp [Map.put, Map.wf, hv]
  | cons p m ih =>
    obtain ⟨i, w⟩ := p
    unfold Map.put
    split
    · rename_i hlt
      split
      · have hf : m.filter (fun p => decide (p.1 ≠ k)) = m := by
          refine List.filter_eq_self.mpr fun q hq => ?_
          have := Map.wf_lt h q hq
          simp only [ne_eq, decide_not, Bool.not_eq_eq_eq_not, Bool.not_true, decide_eq_false_iff_not]
          simp at this
          omega
        rw [hf]; exact h
      · rename_i hv
        refine Map.wf_cons hv h fun q hq => ?_
        rcases List.mem_cons.mp hq with rfl | hq
        · exact hlt
        · exact Nat.lt_trans hlt (Map.wf_lt h q hq)
    · rename_i hge
      split
      · exact ih (Map.wf_tail h)
      · rename_i hne
        refine Map.wf_cons (Map.wf_head h) (ih (Map.wf_tail h)) fun q hq => ?_
        rcases Map.mem_put hq with e | hq
        · simp; omega
        · exact Map.wf_lt h q hq

/-- A table of units reads back the entry replaced. -/
@[simp] theorem Map.at_set_same [Inhabited α] (m : Map α) (k : Nat) (v : α) : (m.set k v).at k = v :=
  Map.get_put_same _ m k v

/-- Replacing an entry leaves the others. -/
theorem Map.at_set_other [Inhabited α] (m : Map α) (k j : Nat) (v : α) (h : j ≠ k) : (m.set k v).at j = m.at j :=
  Map.get_put_other _ m k j v h

/-- The entry that a change leaves. -/
@[simp] theorem Map.at_upd_same [Inhabited α] (m : Map α) (k : Nat) (f : α → α) : (m.upd k f).at k = f (m.at k) :=
  Map.at_set_same m k _

/-- A change of an entry leaves the others. -/
theorem Map.at_upd_other [Inhabited α] (m : Map α) (k j : Nat) (f : α → α) (h : j ≠ k) : (m.upd k f).at j = m.at j :=
  Map.at_set_other m k j _ h

/-- Membership in a list as a Bool. -/
@[simp] theorem memb_iff (x : α) (l : List α) : memb x l = true ↔ x ∈ l := by
  simp [memb]

end Sys2Proof
end

