-- ==== Sys2Proof/Laws/Regs.lean ====
section
/-! SUPPORT. What storing into registers does: a field reads back what was stored, other fields and other registers stay. -/

namespace Sys2Proof

/-- The number that setting a field makes stays below 2^32. -/
theorem Fld.set_lt (lo wd v w : Nat) (hw : w < 2 ^ 32) (hf : lo + wd ≤ 32) :
    w / 2 ^ (lo + wd) * 2 ^ (lo + wd) + v % 2 ^ wd * 2 ^ lo + w % 2 ^ lo < 2 ^ 32 := by
  have hq : 0 < 2 ^ wd := Nat.two_pow_pos wd
  have hp : 0 < 2 ^ lo := Nat.two_pow_pos lo
  have h1 : v % 2 ^ wd + 1 ≤ 2 ^ wd := Nat.mod_lt _ hq
  have h2 : w % 2 ^ lo < 2 ^ lo := Nat.mod_lt _ hp
  have h3 : (v % 2 ^ wd + 1) * 2 ^ lo ≤ 2 ^ wd * 2 ^ lo := Nat.mul_le_mul_right _ h1
  obtain ⟨r, hr⟩ := Nat.exists_eq_add_of_le hf
  have h32 : (2 : Nat) ^ 32 = 2 ^ (lo + wd) * 2 ^ r := by rw [← Nat.pow_add, ← hr]
  have h4 : w / 2 ^ (lo + wd) < 2 ^ r := by
    rw [Nat.div_lt_iff_lt_mul (Nat.two_pow_pos _), Nat.mul_comm, ← h32]; exact hw
  have h5 : (w / 2 ^ (lo + wd) + 1) * 2 ^ (lo + wd) ≤ 2 ^ r * 2 ^ (lo + wd) := Nat.mul_le_mul_right _ h4
  have h6 : 2 ^ (lo + wd) = 2 ^ wd * 2 ^ lo := by rw [Nat.pow_add, Nat.mul_comm]
  have h7 : (v % 2 ^ wd + 1) * 2 ^ lo = v % 2 ^ wd * 2 ^ lo + 2 ^ lo := Nat.succ_mul _ _
  have h8 : (w / 2 ^ (lo + wd) + 1) * 2 ^ (lo + wd) = w / 2 ^ (lo + wd) * 2 ^ (lo + wd) + 2 ^ (lo + wd) := Nat.succ_mul _ _
  rw [h32, Nat.mul_comm (2 ^ (lo + wd)) (2 ^ r)]
  omega

/-- The number that a word with a field replaced stands for. -/
theorem Fld.set_toNat (f : Fld) (w : Word) (v : Nat) (hf : f.lo + f.width ≤ 32) :
    (f.set w v).toNat =
      w.toNat / 2 ^ (f.lo + f.width) * 2 ^ (f.lo + f.width) + v % 2 ^ f.width * 2 ^ f.lo + w.toNat % 2 ^ f.lo := by
  rw [Fld.set, BitVec.toNat_ofNat]
  exact Nat.mod_eq_of_lt (Fld.set_lt _ _ _ _ w.isLt hf)

/-- A field reads back what was stored, cut to its width. -/
theorem Fld.get_set_same (f : Fld) (w : Word) (v : Nat) (hf : f.lo + f.width ≤ 32) :
    f.get (f.set w v) = v % 2 ^ f.width := by
  rw [Fld.get, Fld.set_toNat f w v hf, Nat.pow_add, Nat.mul_comm (2 ^ f.lo) (2 ^ f.width), ← Nat.mul_assoc, ← Nat.add_mul,
    Nat.add_comm, Nat.add_mul_div_right _ _ (Nat.two_pow_pos _), Nat.div_eq_of_lt (Nat.mod_lt _ (Nat.two_pow_pos _)), Nat.zero_add,
    Nat.add_comm, Nat.add_mul_mod_self_right, Nat.mod_mod]

/-- A field that stands apart from the one stored stays. -/
theorem Fld.get_set_other (f g : Fld) (w : Word) (v : Nat) (hf : f.lo + f.width ≤ 32)
    (h : f.lo + f.width ≤ g.lo ∨ g.lo + g.width ≤ f.lo) : g.get (f.set w v) = g.get w := by
  rw [Fld.get, Fld.get, Fld.set_toNat f w v hf]
  have hq : 0 < 2 ^ f.width := Nat.two_pow_pos _
  have hp : 0 < 2 ^ f.lo := Nat.two_pow_pos _
  rcases h with h | h
  · obtain ⟨r, hr⟩ := Nat.exists_eq_add_of_le h
    rw [hr, Nat.pow_add 2 (f.lo + f.width), ← Nat.div_div_eq_div_mul, ← Nat.div_div_eq_div_mul]
    have hlt : v % 2 ^ f.width * 2 ^ f.lo + w.toNat % 2 ^ f.lo < 2 ^ (f.lo + f.width) := by
      have h1 : (v % 2 ^ f.width + 1) * 2 ^ f.lo ≤ 2 ^ f.width * 2 ^ f.lo := Nat.mul_le_mul_right _ (Nat.mod_lt _ hq)
      have h2 : w.toNat % 2 ^ f.lo < 2 ^ f.lo := Nat.mod_lt _ hp
      rw [Nat.succ_mul] at h1
      rw [Nat.pow_add, Nat.mul_comm (2 ^ f.lo)]; omega
    have : (w.toNat / 2 ^ (f.lo + f.width) * 2 ^ (f.lo + f.width) + v % 2 ^ f.width * 2 ^ f.lo + w.toNat % 2 ^ f.lo) /
        2 ^ (f.lo + f.width) = w.toNat / 2 ^ (f.lo + f.width) := by
      rw [Nat.add_assoc, Nat.add_comm, Nat.add_mul_div_right _ _ (Nat.two_pow_pos _), Nat.div_eq_of_lt hlt, Nat.zero_add]
    rw [this]
  · obtain ⟨r, hr⟩ := Nat.exists_eq_add_of_le h
    have key : ∀ x : Nat, x / 2 ^ g.lo % 2 ^ g.width = x % 2 ^ f.lo / 2 ^ g.lo % 2 ^ g.width := by
      intro x
      rw [hr, Nat.pow_add, Nat.pow_add, Nat.mul_assoc, Nat.mod_mul_right_div_self, Nat.mod_mod_of_dvd _ (Dvd.intro _ rfl)]
    rw [key, key w.toNat]
    congr 2
    rw [Nat.pow_add, Nat.mul_comm (2 ^ f.lo), ← Nat.mul_assoc, ← Nat.add_mul, Nat.add_comm, Nat.add_mul_mod_self_right,
      Nat.mod_mod]

/-- A field's value is below 2 to its width. -/
theorem Fld.get_lt (f : Fld) (w : Word) : f.get w < 2 ^ f.width := Nat.mod_lt _ (Nat.two_pow_pos _)

namespace Machine

/-- A register reads back the word stored. -/
@[simp] theorem Hw.reg_setReg_same (h : Hw) (k : Nat) (w : Word) : (h.setReg k w).reg k = w := Map.get_put_same _ _ _ _

/-- Storing a register leaves the others. -/
theorem Hw.reg_setReg_other (h : Hw) (k j : Nat) (w : Word) (hj : j ≠ k) : (h.setReg k w).reg j = h.reg j :=
  Map.get_put_other _ _ _ _ _ hj

/-- A register after a store, either way. -/
theorem Hw.reg_setReg (h : Hw) (k j : Nat) (w : Word) : (h.setReg k w).reg j = if j = k then w else h.reg j := by
  by_cases e : j = k
  · subst e; simp
  · simp [e, Hw.reg_setReg_other]

/-- Storing a field leaves the other registers. -/
theorem Hw.reg_setF_other (h : Hw) (k j : Nat) (f : Fld) (v : Nat) (hj : j ≠ k) : (h.setF k f v).reg j = h.reg j :=
  Hw.reg_setReg_other _ _ _ _ hj

/-- The register after a field of it is stored. -/
@[simp] theorem Hw.reg_setF_same (h : Hw) (k : Nat) (f : Fld) (v : Nat) : (h.setF k f v).reg k = f.set (h.reg k) v :=
  Hw.reg_setReg_same _ _ _

/-- A field reads back what was stored, cut to its width. -/
theorem Hw.f_setF_same (h : Hw) (k : Nat) (f : Fld) (v : Nat) (hf : f.lo + f.width ≤ 32) :
    (h.setF k f v).f k f = v % 2 ^ f.width := by
  rw [Hw.f, Hw.reg_setF_same, Fld.get_set_same f _ v hf]

/-- Storing a field leaves the fields of the same register that stand apart. -/
theorem Hw.f_setF_apart (h : Hw) (k : Nat) (f g : Fld) (v : Nat) (hf : f.lo + f.width ≤ 32)
    (hg : f.lo + f.width ≤ g.lo ∨ g.lo + g.width ≤ f.lo) : (h.setF k f v).f k g = h.f k g := by
  rw [Hw.f, Hw.reg_setF_same, Fld.get_set_other f g _ v hf hg, Hw.f]

/-- Storing a field leaves the fields of other registers. -/
theorem Hw.f_setF_other (h : Hw) (k j : Nat) (f g : Fld) (v : Nat) (hj : j ≠ k) : (h.setF k f v).f j g = h.f j g := by
  rw [Hw.f, Hw.reg_setF_other _ _ _ _ _ hj, Hw.f]

/-- Storing a register leaves the fields of other registers. -/
theorem Hw.f_setReg_other (h : Hw) (k j : Nat) (w : Word) (g : Fld) (hj : j ≠ k) : (h.setReg k w).f j g = h.f j g := by
  rw [Hw.f, Hw.reg_setReg_other _ _ _ _ hj, Hw.f]

/-- The fields of a register stored whole. -/
@[simp] theorem Hw.f_setReg_same (h : Hw) (k : Nat) (w : Word) (g : Fld) : (h.setReg k w).f k g = g.get w := by
  rw [Hw.f, Hw.reg_setReg_same]

/-- A flag reads back what was stored. -/
theorem Hw.flag_setFlag_same (h : Hw) (k : Nat) (f : Fld) (b : Bool) (hf : f.lo + f.width ≤ 32) (hw : 0 < f.width) :
    (h.setFlag k f b).flag k f = b := by
  rw [Hw.flag, Hw.setFlag, Hw.f_setF_same _ _ _ _ hf]
  have : 2 ≤ 2 ^ f.width := by
    calc 2 = 2 ^ 1 := rfl
      _ ≤ 2 ^ f.width := Nat.pow_le_pow_right (by omega) hw
  cases b
  · simp
  · simp [Nat.mod_eq_of_lt this]

/-- Storing a flag leaves the fields of other registers. -/
theorem Hw.f_setFlag_other (h : Hw) (k j : Nat) (f g : Fld) (b : Bool) (hj : j ≠ k) : (h.setFlag k f b).f j g = h.f j g :=
  Hw.f_setF_other _ _ _ _ _ _ hj

/-- Storing a flag leaves the other registers. -/
theorem Hw.reg_setFlag_other (h : Hw) (k j : Nat) (f : Fld) (b : Bool) (hj : j ≠ k) : (h.setFlag k f b).reg j = h.reg j :=
  Hw.reg_setF_other _ _ _ _ _ hj

/-- Storing a flag leaves the fields of the same register that stand apart. -/
theorem Hw.f_setFlag_apart (h : Hw) (k : Nat) (f g : Fld) (b : Bool) (hf : f.lo + f.width ≤ 32)
    (hg : f.lo + f.width ≤ g.lo ∨ g.lo + g.width ≤ f.lo) : (h.setFlag k f b).f k g = h.f k g :=
  Hw.f_setF_apart _ _ _ _ _ hf hg

/-- What a count leaves of another register. -/
theorem Hw.reg_bump_other (h : Hw) (k j : Nat) (c s : Fld) (hj : j ≠ k) : (h.bump k c s).reg j = h.reg j := by
  unfold Hw.bump
  split
  · exact Hw.reg_setFlag_other _ _ _ _ _ hj
  · exact Hw.reg_setF_other _ _ _ _ _ hj

/-- A count leaves the fields of other registers. -/
theorem Hw.f_bump_other (h : Hw) (k j : Nat) (c s g : Fld) (hj : j ≠ k) : (h.bump k c s).f j g = h.f j g := by
  rw [Hw.f, Hw.reg_bump_other _ _ _ _ _ hj, Hw.f]

/-- A saturating counter below its maximum counts by one. -/
theorem Hw.f_bump_lt (h : Hw) (k : Nat) (c s : Fld) (hf : c.lo + c.width ≤ 32) (hl : h.f k c < c.max) :
    (h.bump k c s).f k c = h.f k c + 1 := by
  unfold Hw.bump
  have h1 : ¬ h.f k c = c.max := by omega
  rw [if_neg h1, Hw.f_setF_same _ _ _ _ hf]
  unfold Fld.max at hl
  exact Nat.mod_eq_of_lt (by omega)

/-- A 64-bit quantity's high word leaves its low word. -/
theorem Hw.reg64_setReg64 (h : Hw) (k v : Nat) : (h.setReg64 k v).reg64 k = v % 2 ^ 64 := by
  unfold Hw.setReg64 Hw.reg64
  rw [Hw.reg_setReg_other _ _ _ _ (by omega), Hw.reg_setReg_same, Hw.reg_setReg_same, BitVec.toNat_ofNat, BitVec.toNat_ofNat]
  omega

end Machine
end Sys2Proof
end

