-- ==== Sys2Proof/Laws/State.lean ====
section
/-! SUPPORT. What each plain update of the device leaves of each of its parts: one lemma for each update and part, by `rfl`. -/

namespace Sys2Proof.Machine

/-! ### `Hw.setReg` -/

@[simp] theorem Hw.setReg_mem (h : Hw) (k : Nat) (w : Word) : (h.setReg k w).mem = h.mem := rfl
@[simp] theorem Hw.setReg_bus (h : Hw) (k : Nat) (w : Word) : (h.setReg k w).bus = h.bus := rfl
@[simp] theorem Hw.setReg_cores (h : Hw) (k : Nat) (w : Word) : (h.setReg k w).cores = h.cores := rfl
@[simp] theorem Hw.setReg_cfg (h : Hw) (k : Nat) (w : Word) : (h.setReg k w).cfg = h.cfg := rfl
@[simp] theorem Hw.setReg_hosts (h : Hw) (k : Nat) (w : Word) : (h.setReg k w).hosts = h.hosts := rfl
@[simp] theorem Hw.setReg_semSince (h : Hw) (k : Nat) (w : Word) : (h.setReg k w).semSince = h.semSince := rfl
@[simp] theorem Hw.setReg_balls (h : Hw) (k : Nat) (w : Word) : (h.setReg k w).balls = h.balls := rfl
@[simp] theorem Hw.setReg_alm (h : Hw) (k : Nat) (w : Word) : (h.setReg k w).alm = h.alm := rfl
@[simp] theorem Hw.setReg_hlt (h : Hw) (k : Nat) (w : Word) : (h.setReg k w).hlt = h.hlt := rfl
@[simp] theorem Hw.setReg_spn (h : Hw) (k : Nat) (w : Word) : (h.setReg k w).spn = h.spn := rfl
@[simp] theorem Hw.setReg_smu (h : Hw) (k : Nat) (w : Word) : (h.setReg k w).smu = h.smu := rfl
@[simp] theorem Hw.setReg_dma (h : Hw) (k : Nat) (w : Word) : (h.setReg k w).dma = h.dma := rfl
@[simp] theorem Hw.setReg_mbx (h : Hw) (k : Nat) (w : Word) : (h.setReg k w).mbx = h.mbx := rfl
@[simp] theorem Hw.setReg_fifos (h : Hw) (k : Nat) (w : Word) : (h.setReg k w).fifos = h.fifos := rfl
@[simp] theorem Hw.setReg_freeCtr (h : Hw) (k : Nat) (w : Word) : (h.setReg k w).freeCtr = h.freeCtr := rfl
@[simp] theorem Hw.setReg_cal (h : Hw) (k : Nat) (w : Word) : (h.setReg k w).cal = h.cal := rfl
@[simp] theorem Hw.setReg_flash (h : Hw) (k : Nat) (w : Word) : (h.setReg k w).flash = h.flash := rfl
@[simp] theorem Hw.setReg_pwr (h : Hw) (k : Nat) (w : Word) : (h.setReg k w).pwr = h.pwr := rfl
@[simp] theorem Hw.setReg_rsv (h : Hw) (k : Nat) (w : Word) : (h.setReg k w).rsv = h.rsv := rfl
@[simp] theorem Hw.setReg_eqx (h : Hw) (k : Nat) (w : Word) : (h.setReg k w).eqx = h.eqx := rfl
@[simp] theorem Hw.setReg_lth (h : Hw) (k : Nat) (w : Word) : (h.setReg k w).lth = h.lth := rfl
@[simp] theorem Hw.setReg_axl (h : Hw) (k : Nat) (w : Word) : (h.setReg k w).axl = h.axl := rfl
@[simp] theorem Hw.setReg_rad (h : Hw) (k : Nat) (w : Word) : (h.setReg k w).rad = h.rad := rfl
@[simp] theorem Hw.setReg_stp (h : Hw) (k : Nat) (w : Word) : (h.setReg k w).stp = h.stp := rfl
@[simp] theorem Hw.setReg_ports (h : Hw) (k : Nat) (w : Word) : (h.setReg k w).ports = h.ports := rfl
@[simp] theorem Hw.setReg_gns (h : Hw) (k : Nat) (w : Word) : (h.setReg k w).gns = h.gns := rfl
@[simp] theorem Hw.setReg_eth (h : Hw) (k : Nat) (w : Word) : (h.setReg k w).eth = h.eth := rfl
@[simp] theorem Hw.setReg_mtx (h : Hw) (k : Nat) (w : Word) : (h.setReg k w).mtx = h.mtx := rfl
@[simp] theorem Hw.setReg_obs (h : Hw) (k : Nat) (w : Word) : (h.setReg k w).obs = h.obs := rfl
@[simp] theorem Hw.setReg_fix (h : Hw) (k : Nat) (w : Word) : (h.setReg k w).fix = h.fix := rfl
@[simp] theorem Hw.setReg_sp (h : Hw) (k : Nat) (w : Word) : (h.setReg k w).sp = h.sp := rfl
@[simp] theorem Hw.setReg_brl (h : Hw) (k : Nat) (w : Word) : (h.setReg k w).brl = h.brl := rfl
@[simp] theorem Hw.setReg_upd (h : Hw) (k : Nat) (w : Word) : (h.setReg k w).upd = h.upd := rfl
@[simp] theorem Hw.setReg_mtr (h : Hw) (k : Nat) (w : Word) : (h.setReg k w).mtr = h.mtr := rfl

/-! ### `Hw.setF` -/

@[simp] theorem Hw.setF_mem (h : Hw) (k : Nat) (c : Fld) (v : Nat) : (h.setF k c v).mem = h.mem := rfl
@[simp] theorem Hw.setF_bus (h : Hw) (k : Nat) (c : Fld) (v : Nat) : (h.setF k c v).bus = h.bus := rfl
@[simp] theorem Hw.setF_cores (h : Hw) (k : Nat) (c : Fld) (v : Nat) : (h.setF k c v).cores = h.cores := rfl
@[simp] theorem Hw.setF_cfg (h : Hw) (k : Nat) (c : Fld) (v : Nat) : (h.setF k c v).cfg = h.cfg := rfl
@[simp] theorem Hw.setF_hosts (h : Hw) (k : Nat) (c : Fld) (v : Nat) : (h.setF k c v).hosts = h.hosts := rfl
@[simp] theorem Hw.setF_semSince (h : Hw) (k : Nat) (c : Fld) (v : Nat) : (h.setF k c v).semSince = h.semSince := rfl
@[simp] theorem Hw.setF_balls (h : Hw) (k : Nat) (c : Fld) (v : Nat) : (h.setF k c v).balls = h.balls := rfl
@[simp] theorem Hw.setF_alm (h : Hw) (k : Nat) (c : Fld) (v : Nat) : (h.setF k c v).alm = h.alm := rfl
@[simp] theorem Hw.setF_hlt (h : Hw) (k : Nat) (c : Fld) (v : Nat) : (h.setF k c v).hlt = h.hlt := rfl
@[simp] theorem Hw.setF_spn (h : Hw) (k : Nat) (c : Fld) (v : Nat) : (h.setF k c v).spn = h.spn := rfl
@[simp] theorem Hw.setF_smu (h : Hw) (k : Nat) (c : Fld) (v : Nat) : (h.setF k c v).smu = h.smu := rfl
@[simp] theorem Hw.setF_dma (h : Hw) (k : Nat) (c : Fld) (v : Nat) : (h.setF k c v).dma = h.dma := rfl
@[simp] theorem Hw.setF_mbx (h : Hw) (k : Nat) (c : Fld) (v : Nat) : (h.setF k c v).mbx = h.mbx := rfl
@[simp] theorem Hw.setF_fifos (h : Hw) (k : Nat) (c : Fld) (v : Nat) : (h.setF k c v).fifos = h.fifos := rfl
@[simp] theorem Hw.setF_freeCtr (h : Hw) (k : Nat) (c : Fld) (v : Nat) : (h.setF k c v).freeCtr = h.freeCtr := rfl
@[simp] theorem Hw.setF_cal (h : Hw) (k : Nat) (c : Fld) (v : Nat) : (h.setF k c v).cal = h.cal := rfl
@[simp] theorem Hw.setF_flash (h : Hw) (k : Nat) (c : Fld) (v : Nat) : (h.setF k c v).flash = h.flash := rfl
@[simp] theorem Hw.setF_pwr (h : Hw) (k : Nat) (c : Fld) (v : Nat) : (h.setF k c v).pwr = h.pwr := rfl
@[simp] theorem Hw.setF_rsv (h : Hw) (k : Nat) (c : Fld) (v : Nat) : (h.setF k c v).rsv = h.rsv := rfl
@[simp] theorem Hw.setF_eqx (h : Hw) (k : Nat) (c : Fld) (v : Nat) : (h.setF k c v).eqx = h.eqx := rfl
@[simp] theorem Hw.setF_lth (h : Hw) (k : Nat) (c : Fld) (v : Nat) : (h.setF k c v).lth = h.lth := rfl
@[simp] theorem Hw.setF_axl (h : Hw) (k : Nat) (c : Fld) (v : Nat) : (h.setF k c v).axl = h.axl := rfl
@[simp] theorem Hw.setF_rad (h : Hw) (k : Nat) (c : Fld) (v : Nat) : (h.setF k c v).rad = h.rad := rfl
@[simp] theorem Hw.setF_stp (h : Hw) (k : Nat) (c : Fld) (v : Nat) : (h.setF k c v).stp = h.stp := rfl
@[simp] theorem Hw.setF_ports (h : Hw) (k : Nat) (c : Fld) (v : Nat) : (h.setF k c v).ports = h.ports := rfl
@[simp] theorem Hw.setF_gns (h : Hw) (k : Nat) (c : Fld) (v : Nat) : (h.setF k c v).gns = h.gns := rfl
@[simp] theorem Hw.setF_eth (h : Hw) (k : Nat) (c : Fld) (v : Nat) : (h.setF k c v).eth = h.eth := rfl
@[simp] theorem Hw.setF_mtx (h : Hw) (k : Nat) (c : Fld) (v : Nat) : (h.setF k c v).mtx = h.mtx := rfl
@[simp] theorem Hw.setF_obs (h : Hw) (k : Nat) (c : Fld) (v : Nat) : (h.setF k c v).obs = h.obs := rfl
@[simp] theorem Hw.setF_fix (h : Hw) (k : Nat) (c : Fld) (v : Nat) : (h.setF k c v).fix = h.fix := rfl
@[simp] theorem Hw.setF_sp (h : Hw) (k : Nat) (c : Fld) (v : Nat) : (h.setF k c v).sp = h.sp := rfl
@[simp] theorem Hw.setF_brl (h : Hw) (k : Nat) (c : Fld) (v : Nat) : (h.setF k c v).brl = h.brl := rfl
@[simp] theorem Hw.setF_upd (h : Hw) (k : Nat) (c : Fld) (v : Nat) : (h.setF k c v).upd = h.upd := rfl
@[simp] theorem Hw.setF_mtr (h : Hw) (k : Nat) (c : Fld) (v : Nat) : (h.setF k c v).mtr = h.mtr := rfl

/-! ### `Hw.setFlag` -/

@[simp] theorem Hw.setFlag_mem (h : Hw) (k : Nat) (c : Fld) (b : Bool) : (h.setFlag k c b).mem = h.mem := rfl
@[simp] theorem Hw.setFlag_bus (h : Hw) (k : Nat) (c : Fld) (b : Bool) : (h.setFlag k c b).bus = h.bus := rfl
@[simp] theorem Hw.setFlag_cores (h : Hw) (k : Nat) (c : Fld) (b : Bool) : (h.setFlag k c b).cores = h.cores := rfl
@[simp] theorem Hw.setFlag_cfg (h : Hw) (k : Nat) (c : Fld) (b : Bool) : (h.setFlag k c b).cfg = h.cfg := rfl
@[simp] theorem Hw.setFlag_hosts (h : Hw) (k : Nat) (c : Fld) (b : Bool) : (h.setFlag k c b).hosts = h.hosts := rfl
@[simp] theorem Hw.setFlag_semSince (h : Hw) (k : Nat) (c : Fld) (b : Bool) : (h.setFlag k c b).semSince = h.semSince := rfl
@[simp] theorem Hw.setFlag_balls (h : Hw) (k : Nat) (c : Fld) (b : Bool) : (h.setFlag k c b).balls = h.balls := rfl
@[simp] theorem Hw.setFlag_alm (h : Hw) (k : Nat) (c : Fld) (b : Bool) : (h.setFlag k c b).alm = h.alm := rfl
@[simp] theorem Hw.setFlag_hlt (h : Hw) (k : Nat) (c : Fld) (b : Bool) : (h.setFlag k c b).hlt = h.hlt := rfl
@[simp] theorem Hw.setFlag_spn (h : Hw) (k : Nat) (c : Fld) (b : Bool) : (h.setFlag k c b).spn = h.spn := rfl
@[simp] theorem Hw.setFlag_smu (h : Hw) (k : Nat) (c : Fld) (b : Bool) : (h.setFlag k c b).smu = h.smu := rfl
@[simp] theorem Hw.setFlag_dma (h : Hw) (k : Nat) (c : Fld) (b : Bool) : (h.setFlag k c b).dma = h.dma := rfl
@[simp] theorem Hw.setFlag_mbx (h : Hw) (k : Nat) (c : Fld) (b : Bool) : (h.setFlag k c b).mbx = h.mbx := rfl
@[simp] theorem Hw.setFlag_fifos (h : Hw) (k : Nat) (c : Fld) (b : Bool) : (h.setFlag k c b).fifos = h.fifos := rfl
@[simp] theorem Hw.setFlag_freeCtr (h : Hw) (k : Nat) (c : Fld) (b : Bool) : (h.setFlag k c b).freeCtr = h.freeCtr := rfl
@[simp] theorem Hw.setFlag_cal (h : Hw) (k : Nat) (c : Fld) (b : Bool) : (h.setFlag k c b).cal = h.cal := rfl
@[simp] theorem Hw.setFlag_flash (h : Hw) (k : Nat) (c : Fld) (b : Bool) : (h.setFlag k c b).flash = h.flash := rfl
@[simp] theorem Hw.setFlag_pwr (h : Hw) (k : Nat) (c : Fld) (b : Bool) : (h.setFlag k c b).pwr = h.pwr := rfl
@[simp] theorem Hw.setFlag_rsv (h : Hw) (k : Nat) (c : Fld) (b : Bool) : (h.setFlag k c b).rsv = h.rsv := rfl
@[simp] theorem Hw.setFlag_eqx (h : Hw) (k : Nat) (c : Fld) (b : Bool) : (h.setFlag k c b).eqx = h.eqx := rfl
@[simp] theorem Hw.setFlag_lth (h : Hw) (k : Nat) (c : Fld) (b : Bool) : (h.setFlag k c b).lth = h.lth := rfl
@[simp] theorem Hw.setFlag_axl (h : Hw) (k : Nat) (c : Fld) (b : Bool) : (h.setFlag k c b).axl = h.axl := rfl
@[simp] theorem Hw.setFlag_rad (h : Hw) (k : Nat) (c : Fld) (b : Bool) : (h.setFlag k c b).rad = h.rad := rfl
@[simp] theorem Hw.setFlag_stp (h : Hw) (k : Nat) (c : Fld) (b : Bool) : (h.setFlag k c b).stp = h.stp := rfl
@[simp] theorem Hw.setFlag_ports (h : Hw) (k : Nat) (c : Fld) (b : Bool) : (h.setFlag k c b).ports = h.ports := rfl
@[simp] theorem Hw.setFlag_gns (h : Hw) (k : Nat) (c : Fld) (b : Bool) : (h.setFlag k c b).gns = h.gns := rfl
@[simp] theorem Hw.setFlag_eth (h : Hw) (k : Nat) (c : Fld) (b : Bool) : (h.setFlag k c b).eth = h.eth := rfl
@[simp] theorem Hw.setFlag_mtx (h : Hw) (k : Nat) (c : Fld) (b : Bool) : (h.setFlag k c b).mtx = h.mtx := rfl
@[simp] theorem Hw.setFlag_obs (h : Hw) (k : Nat) (c : Fld) (b : Bool) : (h.setFlag k c b).obs = h.obs := rfl
@[simp] theorem Hw.setFlag_fix (h : Hw) (k : Nat) (c : Fld) (b : Bool) : (h.setFlag k c b).fix = h.fix := rfl
@[simp] theorem Hw.setFlag_sp (h : Hw) (k : Nat) (c : Fld) (b : Bool) : (h.setFlag k c b).sp = h.sp := rfl
@[simp] theorem Hw.setFlag_brl (h : Hw) (k : Nat) (c : Fld) (b : Bool) : (h.setFlag k c b).brl = h.brl := rfl
@[simp] theorem Hw.setFlag_upd (h : Hw) (k : Nat) (c : Fld) (b : Bool) : (h.setFlag k c b).upd = h.upd := rfl
@[simp] theorem Hw.setFlag_mtr (h : Hw) (k : Nat) (c : Fld) (b : Bool) : (h.setFlag k c b).mtr = h.mtr := rfl

/-! ### `Hw.setReg64` -/

@[simp] theorem Hw.setReg64_mem (h : Hw) (k v : Nat) : (h.setReg64 k v).mem = h.mem := rfl
@[simp] theorem Hw.setReg64_bus (h : Hw) (k v : Nat) : (h.setReg64 k v).bus = h.bus := rfl
@[simp] theorem Hw.setReg64_cores (h : Hw) (k v : Nat) : (h.setReg64 k v).cores = h.cores := rfl
@[simp] theorem Hw.setReg64_cfg (h : Hw) (k v : Nat) : (h.setReg64 k v).cfg = h.cfg := rfl
@[simp] theorem Hw.setReg64_hosts (h : Hw) (k v : Nat) : (h.setReg64 k v).hosts = h.hosts := rfl
@[simp] theorem Hw.setReg64_semSince (h : Hw) (k v : Nat) : (h.setReg64 k v).semSince = h.semSince := rfl
@[simp] theorem Hw.setReg64_balls (h : Hw) (k v : Nat) : (h.setReg64 k v).balls = h.balls := rfl
@[simp] theorem Hw.setReg64_alm (h : Hw) (k v : Nat) : (h.setReg64 k v).alm = h.alm := rfl
@[simp] theorem Hw.setReg64_hlt (h : Hw) (k v : Nat) : (h.setReg64 k v).hlt = h.hlt := rfl
@[simp] theorem Hw.setReg64_spn (h : Hw) (k v : Nat) : (h.setReg64 k v).spn = h.spn := rfl
@[simp] theorem Hw.setReg64_smu (h : Hw) (k v : Nat) : (h.setReg64 k v).smu = h.smu := rfl
@[simp] theorem Hw.setReg64_dma (h : Hw) (k v : Nat) : (h.setReg64 k v).dma = h.dma := rfl
@[simp] theorem Hw.setReg64_mbx (h : Hw) (k v : Nat) : (h.setReg64 k v).mbx = h.mbx := rfl
@[simp] theorem Hw.setReg64_fifos (h : Hw) (k v : Nat) : (h.setReg64 k v).fifos = h.fifos := rfl
@[simp] theorem Hw.setReg64_freeCtr (h : Hw) (k v : Nat) : (h.setReg64 k v).freeCtr = h.freeCtr := rfl
@[simp] theorem Hw.setReg64_cal (h : Hw) (k v : Nat) : (h.setReg64 k v).cal = h.cal := rfl
@[simp] theorem Hw.setReg64_flash (h : Hw) (k v : Nat) : (h.setReg64 k v).flash = h.flash := rfl
@[simp] theorem Hw.setReg64_pwr (h : Hw) (k v : Nat) : (h.setReg64 k v).pwr = h.pwr := rfl
@[simp] theorem Hw.setReg64_rsv (h : Hw) (k v : Nat) : (h.setReg64 k v).rsv = h.rsv := rfl
@[simp] theorem Hw.setReg64_eqx (h : Hw) (k v : Nat) : (h.setReg64 k v).eqx = h.eqx := rfl
@[simp] theorem Hw.setReg64_lth (h : Hw) (k v : Nat) : (h.setReg64 k v).lth = h.lth := rfl
@[simp] theorem Hw.setReg64_axl (h : Hw) (k v : Nat) : (h.setReg64 k v).axl = h.axl := rfl
@[simp] theorem Hw.setReg64_rad (h : Hw) (k v : Nat) : (h.setReg64 k v).rad = h.rad := rfl
@[simp] theorem Hw.setReg64_stp (h : Hw) (k v : Nat) : (h.setReg64 k v).stp = h.stp := rfl
@[simp] theorem Hw.setReg64_ports (h : Hw) (k v : Nat) : (h.setReg64 k v).ports = h.ports := rfl
@[simp] theorem Hw.setReg64_gns (h : Hw) (k v : Nat) : (h.setReg64 k v).gns = h.gns := rfl
@[simp] theorem Hw.setReg64_eth (h : Hw) (k v : Nat) : (h.setReg64 k v).eth = h.eth := rfl
@[simp] theorem Hw.setReg64_mtx (h : Hw) (k v : Nat) : (h.setReg64 k v).mtx = h.mtx := rfl
@[simp] theorem Hw.setReg64_obs (h : Hw) (k v : Nat) : (h.setReg64 k v).obs = h.obs := rfl
@[simp] theorem Hw.setReg64_fix (h : Hw) (k v : Nat) : (h.setReg64 k v).fix = h.fix := rfl
@[simp] theorem Hw.setReg64_sp (h : Hw) (k v : Nat) : (h.setReg64 k v).sp = h.sp := rfl
@[simp] theorem Hw.setReg64_brl (h : Hw) (k v : Nat) : (h.setReg64 k v).brl = h.brl := rfl
@[simp] theorem Hw.setReg64_upd (h : Hw) (k v : Nat) : (h.setReg64 k v).upd = h.upd := rfl
@[simp] theorem Hw.setReg64_mtr (h : Hw) (k v : Nat) : (h.setReg64 k v).mtr = h.mtr := rfl

/-! ### `Hw.setIrq` -/

@[simp] theorem Hw.setIrq_mem (h : Hw) (k : Nat) (c : Fld) : (h.setIrq k c).mem = h.mem := rfl
@[simp] theorem Hw.setIrq_bus (h : Hw) (k : Nat) (c : Fld) : (h.setIrq k c).bus = h.bus := rfl
@[simp] theorem Hw.setIrq_cores (h : Hw) (k : Nat) (c : Fld) : (h.setIrq k c).cores = h.cores := rfl
@[simp] theorem Hw.setIrq_cfg (h : Hw) (k : Nat) (c : Fld) : (h.setIrq k c).cfg = h.cfg := rfl
@[simp] theorem Hw.setIrq_hosts (h : Hw) (k : Nat) (c : Fld) : (h.setIrq k c).hosts = h.hosts := rfl
@[simp] theorem Hw.setIrq_semSince (h : Hw) (k : Nat) (c : Fld) : (h.setIrq k c).semSince = h.semSince := rfl
@[simp] theorem Hw.setIrq_balls (h : Hw) (k : Nat) (c : Fld) : (h.setIrq k c).balls = h.balls := rfl
@[simp] theorem Hw.setIrq_alm (h : Hw) (k : Nat) (c : Fld) : (h.setIrq k c).alm = h.alm := rfl
@[simp] theorem Hw.setIrq_hlt (h : Hw) (k : Nat) (c : Fld) : (h.setIrq k c).hlt = h.hlt := rfl
@[simp] theorem Hw.setIrq_spn (h : Hw) (k : Nat) (c : Fld) : (h.setIrq k c).spn = h.spn := rfl
@[simp] theorem Hw.setIrq_smu (h : Hw) (k : Nat) (c : Fld) : (h.setIrq k c).smu = h.smu := rfl
@[simp] theorem Hw.setIrq_dma (h : Hw) (k : Nat) (c : Fld) : (h.setIrq k c).dma = h.dma := rfl
@[simp] theorem Hw.setIrq_mbx (h : Hw) (k : Nat) (c : Fld) : (h.setIrq k c).mbx = h.mbx := rfl
@[simp] theorem Hw.setIrq_fifos (h : Hw) (k : Nat) (c : Fld) : (h.setIrq k c).fifos = h.fifos := rfl
@[simp] theorem Hw.setIrq_freeCtr (h : Hw) (k : Nat) (c : Fld) : (h.setIrq k c).freeCtr = h.freeCtr := rfl
@[simp] theorem Hw.setIrq_cal (h : Hw) (k : Nat) (c : Fld) : (h.setIrq k c).cal = h.cal := rfl
@[simp] theorem Hw.setIrq_flash (h : Hw) (k : Nat) (c : Fld) : (h.setIrq k c).flash = h.flash := rfl
@[simp] theorem Hw.setIrq_pwr (h : Hw) (k : Nat) (c : Fld) : (h.setIrq k c).pwr = h.pwr := rfl
@[simp] theorem Hw.setIrq_rsv (h : Hw) (k : Nat) (c : Fld) : (h.setIrq k c).rsv = h.rsv := rfl
@[simp] theorem Hw.setIrq_eqx (h : Hw) (k : Nat) (c : Fld) : (h.setIrq k c).eqx = h.eqx := rfl
@[simp] theorem Hw.setIrq_lth (h : Hw) (k : Nat) (c : Fld) : (h.setIrq k c).lth = h.lth := rfl
@[simp] theorem Hw.setIrq_axl (h : Hw) (k : Nat) (c : Fld) : (h.setIrq k c).axl = h.axl := rfl
@[simp] theorem Hw.setIrq_rad (h : Hw) (k : Nat) (c : Fld) : (h.setIrq k c).rad = h.rad := rfl
@[simp] theorem Hw.setIrq_stp (h : Hw) (k : Nat) (c : Fld) : (h.setIrq k c).stp = h.stp := rfl
@[simp] theorem Hw.setIrq_ports (h : Hw) (k : Nat) (c : Fld) : (h.setIrq k c).ports = h.ports := rfl
@[simp] theorem Hw.setIrq_gns (h : Hw) (k : Nat) (c : Fld) : (h.setIrq k c).gns = h.gns := rfl
@[simp] theorem Hw.setIrq_eth (h : Hw) (k : Nat) (c : Fld) : (h.setIrq k c).eth = h.eth := rfl
@[simp] theorem Hw.setIrq_mtx (h : Hw) (k : Nat) (c : Fld) : (h.setIrq k c).mtx = h.mtx := rfl
@[simp] theorem Hw.setIrq_obs (h : Hw) (k : Nat) (c : Fld) : (h.setIrq k c).obs = h.obs := rfl
@[simp] theorem Hw.setIrq_fix (h : Hw) (k : Nat) (c : Fld) : (h.setIrq k c).fix = h.fix := rfl
@[simp] theorem Hw.setIrq_sp (h : Hw) (k : Nat) (c : Fld) : (h.setIrq k c).sp = h.sp := rfl
@[simp] theorem Hw.setIrq_brl (h : Hw) (k : Nat) (c : Fld) : (h.setIrq k c).brl = h.brl := rfl
@[simp] theorem Hw.setIrq_upd (h : Hw) (k : Nat) (c : Fld) : (h.setIrq k c).upd = h.upd := rfl
@[simp] theorem Hw.setIrq_mtr (h : Hw) (k : Nat) (c : Fld) : (h.setIrq k c).mtr = h.mtr := rfl

/-! ### `Hw.answer` -/

@[simp] theorem Hw.answer_regs (h : Hw) (r : Resp) : (h.answer r).regs = h.regs := rfl
@[simp] theorem Hw.answer_mem (h : Hw) (r : Resp) : (h.answer r).mem = h.mem := rfl
@[simp] theorem Hw.answer_bus (h : Hw) (r : Resp) : (h.answer r).bus = { h.bus with resp := r } := rfl
@[simp] theorem Hw.answer_cores (h : Hw) (r : Resp) : (h.answer r).cores = h.cores := rfl
@[simp] theorem Hw.answer_cfg (h : Hw) (r : Resp) : (h.answer r).cfg = h.cfg := rfl
@[simp] theorem Hw.answer_hosts (h : Hw) (r : Resp) : (h.answer r).hosts = h.hosts := rfl
@[simp] theorem Hw.answer_semSince (h : Hw) (r : Resp) : (h.answer r).semSince = h.semSince := rfl
@[simp] theorem Hw.answer_balls (h : Hw) (r : Resp) : (h.answer r).balls = h.balls := rfl
@[simp] theorem Hw.answer_alm (h : Hw) (r : Resp) : (h.answer r).alm = h.alm := rfl
@[simp] theorem Hw.answer_hlt (h : Hw) (r : Resp) : (h.answer r).hlt = h.hlt := rfl
@[simp] theorem Hw.answer_spn (h : Hw) (r : Resp) : (h.answer r).spn = h.spn := rfl
@[simp] theorem Hw.answer_smu (h : Hw) (r : Resp) : (h.answer r).smu = h.smu := rfl
@[simp] theorem Hw.answer_dma (h : Hw) (r : Resp) : (h.answer r).dma = h.dma := rfl
@[simp] theorem Hw.answer_mbx (h : Hw) (r : Resp) : (h.answer r).mbx = h.mbx := rfl
@[simp] theorem Hw.answer_fifos (h : Hw) (r : Resp) : (h.answer r).fifos = h.fifos := rfl
@[simp] theorem Hw.answer_freeCtr (h : Hw) (r : Resp) : (h.answer r).freeCtr = h.freeCtr := rfl
@[simp] theorem Hw.answer_cal (h : Hw) (r : Resp) : (h.answer r).cal = h.cal := rfl
@[simp] theorem Hw.answer_flash (h : Hw) (r : Resp) : (h.answer r).flash = h.flash := rfl
@[simp] theorem Hw.answer_pwr (h : Hw) (r : Resp) : (h.answer r).pwr = h.pwr := rfl
@[simp] theorem Hw.answer_rsv (h : Hw) (r : Resp) : (h.answer r).rsv = h.rsv := rfl
@[simp] theorem Hw.answer_eqx (h : Hw) (r : Resp) : (h.answer r).eqx = h.eqx := rfl
@[simp] theorem Hw.answer_lth (h : Hw) (r : Resp) : (h.answer r).lth = h.lth := rfl
@[simp] theorem Hw.answer_axl (h : Hw) (r : Resp) : (h.answer r).axl = h.axl := rfl
@[simp] theorem Hw.answer_rad (h : Hw) (r : Resp) : (h.answer r).rad = h.rad := rfl
@[simp] theorem Hw.answer_stp (h : Hw) (r : Resp) : (h.answer r).stp = h.stp := rfl
@[simp] theorem Hw.answer_ports (h : Hw) (r : Resp) : (h.answer r).ports = h.ports := rfl
@[simp] theorem Hw.answer_gns (h : Hw) (r : Resp) : (h.answer r).gns = h.gns := rfl
@[simp] theorem Hw.answer_eth (h : Hw) (r : Resp) : (h.answer r).eth = h.eth := rfl
@[simp] theorem Hw.answer_mtx (h : Hw) (r : Resp) : (h.answer r).mtx = h.mtx := rfl
@[simp] theorem Hw.answer_obs (h : Hw) (r : Resp) : (h.answer r).obs = h.obs := rfl
@[simp] theorem Hw.answer_fix (h : Hw) (r : Resp) : (h.answer r).fix = h.fix := rfl
@[simp] theorem Hw.answer_sp (h : Hw) (r : Resp) : (h.answer r).sp = h.sp := rfl
@[simp] theorem Hw.answer_brl (h : Hw) (r : Resp) : (h.answer r).brl = h.brl := rfl
@[simp] theorem Hw.answer_upd (h : Hw) (r : Resp) : (h.answer r).upd = h.upd := rfl
@[simp] theorem Hw.answer_mtr (h : Hw) (r : Resp) : (h.answer r).mtr = h.mtr := rfl
@[simp] theorem Hw.answer_reg (h : Hw) (r : Resp) (j : Nat) : (h.answer r).reg j = h.reg j := rfl
@[simp] theorem Hw.answer_f (h : Hw) (r : Resp) (j : Nat) (l : Fld) : (h.answer r).f j l = h.f j l := rfl
@[simp] theorem Hw.answer_flag (h : Hw) (r : Resp) (j : Nat) (l : Fld) : (h.answer r).flag j l = h.flag j l := rfl

/-! ### `Hw.emit` -/

@[simp] theorem Hw.emit_regs (h : Hw) (o : Out) : (h.emit o).regs = h.regs := rfl
@[simp] theorem Hw.emit_mem (h : Hw) (o : Out) : (h.emit o).mem = h.mem := rfl
@[simp] theorem Hw.emit_bus (h : Hw) (o : Out) : (h.emit o).bus = { h.bus with out := h.bus.out ++ [o] } := rfl
@[simp] theorem Hw.emit_cores (h : Hw) (o : Out) : (h.emit o).cores = h.cores := rfl
@[simp] theorem Hw.emit_cfg (h : Hw) (o : Out) : (h.emit o).cfg = h.cfg := rfl
@[simp] theorem Hw.emit_hosts (h : Hw) (o : Out) : (h.emit o).hosts = h.hosts := rfl
@[simp] theorem Hw.emit_semSince (h : Hw) (o : Out) : (h.emit o).semSince = h.semSince := rfl
@[simp] theorem Hw.emit_balls (h : Hw) (o : Out) : (h.emit o).balls = h.balls := rfl
@[simp] theorem Hw.emit_alm (h : Hw) (o : Out) : (h.emit o).alm = h.alm := rfl
@[simp] theorem Hw.emit_hlt (h : Hw) (o : Out) : (h.emit o).hlt = h.hlt := rfl
@[simp] theorem Hw.emit_spn (h : Hw) (o : Out) : (h.emit o).spn = h.spn := rfl
@[simp] theorem Hw.emit_smu (h : Hw) (o : Out) : (h.emit o).smu = h.smu := rfl
@[simp] theorem Hw.emit_dma (h : Hw) (o : Out) : (h.emit o).dma = h.dma := rfl
@[simp] theorem Hw.emit_mbx (h : Hw) (o : Out) : (h.emit o).mbx = h.mbx := rfl
@[simp] theorem Hw.emit_fifos (h : Hw) (o : Out) : (h.emit o).fifos = h.fifos := rfl
@[simp] theorem Hw.emit_freeCtr (h : Hw) (o : Out) : (h.emit o).freeCtr = h.freeCtr := rfl
@[simp] theorem Hw.emit_cal (h : Hw) (o : Out) : (h.emit o).cal = h.cal := rfl
@[simp] theorem Hw.emit_flash (h : Hw) (o : Out) : (h.emit o).flash = h.flash := rfl
@[simp] theorem Hw.emit_pwr (h : Hw) (o : Out) : (h.emit o).pwr = h.pwr := rfl
@[simp] theorem Hw.emit_rsv (h : Hw) (o : Out) : (h.emit o).rsv = h.rsv := rfl
@[simp] theorem Hw.emit_eqx (h : Hw) (o : Out) : (h.emit o).eqx = h.eqx := rfl
@[simp] theorem Hw.emit_lth (h : Hw) (o : Out) : (h.emit o).lth = h.lth := rfl
@[simp] theorem Hw.emit_axl (h : Hw) (o : Out) : (h.emit o).axl = h.axl := rfl
@[simp] theorem Hw.emit_rad (h : Hw) (o : Out) : (h.emit o).rad = h.rad := rfl
@[simp] theorem Hw.emit_stp (h : Hw) (o : Out) : (h.emit o).stp = h.stp := rfl
@[simp] theorem Hw.emit_ports (h : Hw) (o : Out) : (h.emit o).ports = h.ports := rfl
@[simp] theorem Hw.emit_gns (h : Hw) (o : Out) : (h.emit o).gns = h.gns := rfl
@[simp] theorem Hw.emit_eth (h : Hw) (o : Out) : (h.emit o).eth = h.eth := rfl
@[simp] theorem Hw.emit_mtx (h : Hw) (o : Out) : (h.emit o).mtx = h.mtx := rfl
@[simp] theorem Hw.emit_obs (h : Hw) (o : Out) : (h.emit o).obs = h.obs := rfl
@[simp] theorem Hw.emit_fix (h : Hw) (o : Out) : (h.emit o).fix = h.fix := rfl
@[simp] theorem Hw.emit_sp (h : Hw) (o : Out) : (h.emit o).sp = h.sp := rfl
@[simp] theorem Hw.emit_brl (h : Hw) (o : Out) : (h.emit o).brl = h.brl := rfl
@[simp] theorem Hw.emit_upd (h : Hw) (o : Out) : (h.emit o).upd = h.upd := rfl
@[simp] theorem Hw.emit_mtr (h : Hw) (o : Out) : (h.emit o).mtr = h.mtr := rfl
@[simp] theorem Hw.emit_reg (h : Hw) (o : Out) (j : Nat) : (h.emit o).reg j = h.reg j := rfl
@[simp] theorem Hw.emit_f (h : Hw) (o : Out) (j : Nat) (l : Fld) : (h.emit o).f j l = h.f j l := rfl
@[simp] theorem Hw.emit_flag (h : Hw) (o : Out) (j : Nat) (l : Fld) : (h.emit o).flag j l = h.flag j l := rfl

/-! ### `Hw.useFree` -/

@[simp] theorem Hw.useFree_regs (h : Hw) (n : Nat) : (h.useFree n).regs = h.regs := rfl
@[simp] theorem Hw.useFree_mem (h : Hw) (n : Nat) : (h.useFree n).mem = h.mem := rfl
@[simp] theorem Hw.useFree_bus (h : Hw) (n : Nat) : (h.useFree n).bus = h.bus := rfl
@[simp] theorem Hw.useFree_cores (h : Hw) (n : Nat) : (h.useFree n).cores = h.cores := rfl
@[simp] theorem Hw.useFree_cfg (h : Hw) (n : Nat) : (h.useFree n).cfg = h.cfg := rfl
@[simp] theorem Hw.useFree_hosts (h : Hw) (n : Nat) : (h.useFree n).hosts = h.hosts := rfl
@[simp] theorem Hw.useFree_semSince (h : Hw) (n : Nat) : (h.useFree n).semSince = h.semSince := rfl
@[simp] theorem Hw.useFree_balls (h : Hw) (n : Nat) : (h.useFree n).balls = h.balls := rfl
@[simp] theorem Hw.useFree_alm (h : Hw) (n : Nat) : (h.useFree n).alm = h.alm := rfl
@[simp] theorem Hw.useFree_hlt (h : Hw) (n : Nat) : (h.useFree n).hlt = h.hlt := rfl
@[simp] theorem Hw.useFree_spn (h : Hw) (n : Nat) : (h.useFree n).spn = h.spn := rfl
@[simp] theorem Hw.useFree_smu (h : Hw) (n : Nat) : (h.useFree n).smu = h.smu := rfl
@[simp] theorem Hw.useFree_dma (h : Hw) (n : Nat) : (h.useFree n).dma = h.dma := rfl
@[simp] theorem Hw.useFree_mbx (h : Hw) (n : Nat) : (h.useFree n).mbx = h.mbx := rfl
@[simp] theorem Hw.useFree_fifos (h : Hw) (n : Nat) : (h.useFree n).fifos = h.fifos := rfl
@[simp] theorem Hw.useFree_freeCtr (h : Hw) (n : Nat) : (h.useFree n).freeCtr = h.freeCtr + n := rfl
@[simp] theorem Hw.useFree_cal (h : Hw) (n : Nat) : (h.useFree n).cal = h.cal := rfl
@[simp] theorem Hw.useFree_flash (h : Hw) (n : Nat) : (h.useFree n).flash = h.flash := rfl
@[simp] theorem Hw.useFree_pwr (h : Hw) (n : Nat) : (h.useFree n).pwr = h.pwr := rfl
@[simp] theorem Hw.useFree_rsv (h : Hw) (n : Nat) : (h.useFree n).rsv = h.rsv := rfl
@[simp] theorem Hw.useFree_eqx (h : Hw) (n : Nat) : (h.useFree n).eqx = h.eqx := rfl
@[simp] theorem Hw.useFree_lth (h : Hw) (n : Nat) : (h.useFree n).lth = h.lth := rfl
@[simp] theorem Hw.useFree_axl (h : Hw) (n : Nat) : (h.useFree n).axl = h.axl := rfl
@[simp] theorem Hw.useFree_rad (h : Hw) (n : Nat) : (h.useFree n).rad = h.rad := rfl
@[simp] theorem Hw.useFree_stp (h : Hw) (n : Nat) : (h.useFree n).stp = h.stp := rfl
@[simp] theorem Hw.useFree_ports (h : Hw) (n : Nat) : (h.useFree n).ports = h.ports := rfl
@[simp] theorem Hw.useFree_gns (h : Hw) (n : Nat) : (h.useFree n).gns = h.gns := rfl
@[simp] theorem Hw.useFree_eth (h : Hw) (n : Nat) : (h.useFree n).eth = h.eth := rfl
@[simp] theorem Hw.useFree_mtx (h : Hw) (n : Nat) : (h.useFree n).mtx = h.mtx := rfl
@[simp] theorem Hw.useFree_obs (h : Hw) (n : Nat) : (h.useFree n).obs = h.obs := rfl
@[simp] theorem Hw.useFree_fix (h : Hw) (n : Nat) : (h.useFree n).fix = h.fix := rfl
@[simp] theorem Hw.useFree_sp (h : Hw) (n : Nat) : (h.useFree n).sp = h.sp := rfl
@[simp] theorem Hw.useFree_brl (h : Hw) (n : Nat) : (h.useFree n).brl = h.brl := rfl
@[simp] theorem Hw.useFree_upd (h : Hw) (n : Nat) : (h.useFree n).upd = h.upd := rfl
@[simp] theorem Hw.useFree_mtr (h : Hw) (n : Nat) : (h.useFree n).mtr = h.mtr := rfl
@[simp] theorem Hw.useFree_reg (h : Hw) (n : Nat) (j : Nat) : (h.useFree n).reg j = h.reg j := rfl
@[simp] theorem Hw.useFree_f (h : Hw) (n : Nat) (j : Nat) (l : Fld) : (h.useFree n).f j l = h.f j l := rfl
@[simp] theorem Hw.useFree_flag (h : Hw) (n : Nat) (j : Nat) (l : Fld) : (h.useFree n).flag j l = h.flag j l := rfl

/-! ### `Hw.setByte` -/

@[simp] theorem Hw.setByte_regs (h : Hw) (p : Nat) (b : Byte) : (h.setByte p b).regs = h.regs := rfl
@[simp] theorem Hw.setByte_bus (h : Hw) (p : Nat) (b : Byte) : (h.setByte p b).bus = h.bus := rfl
@[simp] theorem Hw.setByte_cores (h : Hw) (p : Nat) (b : Byte) : (h.setByte p b).cores = h.cores := rfl
@[simp] theorem Hw.setByte_cfg (h : Hw) (p : Nat) (b : Byte) : (h.setByte p b).cfg = h.cfg := rfl
@[simp] theorem Hw.setByte_hosts (h : Hw) (p : Nat) (b : Byte) : (h.setByte p b).hosts = h.hosts := rfl
@[simp] theorem Hw.setByte_semSince (h : Hw) (p : Nat) (b : Byte) : (h.setByte p b).semSince = h.semSince := rfl
@[simp] theorem Hw.setByte_balls (h : Hw) (p : Nat) (b : Byte) : (h.setByte p b).balls = h.balls := rfl
@[simp] theorem Hw.setByte_alm (h : Hw) (p : Nat) (b : Byte) : (h.setByte p b).alm = h.alm := rfl
@[simp] theorem Hw.setByte_hlt (h : Hw) (p : Nat) (b : Byte) : (h.setByte p b).hlt = h.hlt := rfl
@[simp] theorem Hw.setByte_spn (h : Hw) (p : Nat) (b : Byte) : (h.setByte p b).spn = h.spn := rfl
@[simp] theorem Hw.setByte_smu (h : Hw) (p : Nat) (b : Byte) : (h.setByte p b).smu = h.smu := rfl
@[simp] theorem Hw.setByte_dma (h : Hw) (p : Nat) (b : Byte) : (h.setByte p b).dma = h.dma := rfl
@[simp] theorem Hw.setByte_mbx (h : Hw) (p : Nat) (b : Byte) : (h.setByte p b).mbx = h.mbx := rfl
@[simp] theorem Hw.setByte_fifos (h : Hw) (p : Nat) (b : Byte) : (h.setByte p b).fifos = h.fifos := rfl
@[simp] theorem Hw.setByte_freeCtr (h : Hw) (p : Nat) (b : Byte) : (h.setByte p b).freeCtr = h.freeCtr := rfl
@[simp] theorem Hw.setByte_cal (h : Hw) (p : Nat) (b : Byte) : (h.setByte p b).cal = h.cal := rfl
@[simp] theorem Hw.setByte_flash (h : Hw) (p : Nat) (b : Byte) : (h.setByte p b).flash = h.flash := rfl
@[simp] theorem Hw.setByte_pwr (h : Hw) (p : Nat) (b : Byte) : (h.setByte p b).pwr = h.pwr := rfl
@[simp] theorem Hw.setByte_rsv (h : Hw) (p : Nat) (b : Byte) : (h.setByte p b).rsv = h.rsv := rfl
@[simp] theorem Hw.setByte_eqx (h : Hw) (p : Nat) (b : Byte) : (h.setByte p b).eqx = h.eqx := rfl
@[simp] theorem Hw.setByte_lth (h : Hw) (p : Nat) (b : Byte) : (h.setByte p b).lth = h.lth := rfl
@[simp] theorem Hw.setByte_axl (h : Hw) (p : Nat) (b : Byte) : (h.setByte p b).axl = h.axl := rfl
@[simp] theorem Hw.setByte_rad (h : Hw) (p : Nat) (b : Byte) : (h.setByte p b).rad = h.rad := rfl
@[simp] theorem Hw.setByte_stp (h : Hw) (p : Nat) (b : Byte) : (h.setByte p b).stp = h.stp := rfl
@[simp] theorem Hw.setByte_ports (h : Hw) (p : Nat) (b : Byte) : (h.setByte p b).ports = h.ports := rfl
@[simp] theorem Hw.setByte_gns (h : Hw) (p : Nat) (b : Byte) : (h.setByte p b).gns = h.gns := rfl
@[simp] theorem Hw.setByte_eth (h : Hw) (p : Nat) (b : Byte) : (h.setByte p b).eth = h.eth := rfl
@[simp] theorem Hw.setByte_mtx (h : Hw) (p : Nat) (b : Byte) : (h.setByte p b).mtx = h.mtx := rfl
@[simp] theorem Hw.setByte_obs (h : Hw) (p : Nat) (b : Byte) : (h.setByte p b).obs = h.obs := rfl
@[simp] theorem Hw.setByte_fix (h : Hw) (p : Nat) (b : Byte) : (h.setByte p b).fix = h.fix := rfl
@[simp] theorem Hw.setByte_sp (h : Hw) (p : Nat) (b : Byte) : (h.setByte p b).sp = h.sp := rfl
@[simp] theorem Hw.setByte_brl (h : Hw) (p : Nat) (b : Byte) : (h.setByte p b).brl = h.brl := rfl
@[simp] theorem Hw.setByte_upd (h : Hw) (p : Nat) (b : Byte) : (h.setByte p b).upd = h.upd := rfl
@[simp] theorem Hw.setByte_mtr (h : Hw) (p : Nat) (b : Byte) : (h.setByte p b).mtr = h.mtr := rfl
@[simp] theorem Hw.setByte_reg (h : Hw) (p : Nat) (b : Byte) (j : Nat) : (h.setByte p b).reg j = h.reg j := rfl
@[simp] theorem Hw.setByte_f (h : Hw) (p : Nat) (b : Byte) (j : Nat) (l : Fld) : (h.setByte p b).f j l = h.f j l := rfl
@[simp] theorem Hw.setByte_flag (h : Hw) (p : Nat) (b : Byte) (j : Nat) (l : Fld) : (h.setByte p b).flag j l = h.flag j l := rfl

/-! ### `Hw.updAlm` -/

@[simp] theorem Hw.updAlm_regs (h : Hw) (g : AlmSt → AlmSt) : (h.updAlm g).regs = h.regs := rfl
@[simp] theorem Hw.updAlm_mem (h : Hw) (g : AlmSt → AlmSt) : (h.updAlm g).mem = h.mem := rfl
@[simp] theorem Hw.updAlm_bus (h : Hw) (g : AlmSt → AlmSt) : (h.updAlm g).bus = h.bus := rfl
@[simp] theorem Hw.updAlm_cores (h : Hw) (g : AlmSt → AlmSt) : (h.updAlm g).cores = h.cores := rfl
@[simp] theorem Hw.updAlm_cfg (h : Hw) (g : AlmSt → AlmSt) : (h.updAlm g).cfg = h.cfg := rfl
@[simp] theorem Hw.updAlm_hosts (h : Hw) (g : AlmSt → AlmSt) : (h.updAlm g).hosts = h.hosts := rfl
@[simp] theorem Hw.updAlm_semSince (h : Hw) (g : AlmSt → AlmSt) : (h.updAlm g).semSince = h.semSince := rfl
@[simp] theorem Hw.updAlm_balls (h : Hw) (g : AlmSt → AlmSt) : (h.updAlm g).balls = h.balls := rfl
@[simp] theorem Hw.updAlm_alm (h : Hw) (g : AlmSt → AlmSt) : (h.updAlm g).alm = g h.alm := rfl
@[simp] theorem Hw.updAlm_hlt (h : Hw) (g : AlmSt → AlmSt) : (h.updAlm g).hlt = h.hlt := rfl
@[simp] theorem Hw.updAlm_spn (h : Hw) (g : AlmSt → AlmSt) : (h.updAlm g).spn = h.spn := rfl
@[simp] theorem Hw.updAlm_smu (h : Hw) (g : AlmSt → AlmSt) : (h.updAlm g).smu = h.smu := rfl
@[simp] theorem Hw.updAlm_dma (h : Hw) (g : AlmSt → AlmSt) : (h.updAlm g).dma = h.dma := rfl
@[simp] theorem Hw.updAlm_mbx (h : Hw) (g : AlmSt → AlmSt) : (h.updAlm g).mbx = h.mbx := rfl
@[simp] theorem Hw.updAlm_fifos (h : Hw) (g : AlmSt → AlmSt) : (h.updAlm g).fifos = h.fifos := rfl
@[simp] theorem Hw.updAlm_freeCtr (h : Hw) (g : AlmSt → AlmSt) : (h.updAlm g).freeCtr = h.freeCtr := rfl
@[simp] theorem Hw.updAlm_cal (h : Hw) (g : AlmSt → AlmSt) : (h.updAlm g).cal = h.cal := rfl
@[simp] theorem Hw.updAlm_flash (h : Hw) (g : AlmSt → AlmSt) : (h.updAlm g).flash = h.flash := rfl
@[simp] theorem Hw.updAlm_pwr (h : Hw) (g : AlmSt → AlmSt) : (h.updAlm g).pwr = h.pwr := rfl
@[simp] theorem Hw.updAlm_rsv (h : Hw) (g : AlmSt → AlmSt) : (h.updAlm g).rsv = h.rsv := rfl
@[simp] theorem Hw.updAlm_eqx (h : Hw) (g : AlmSt → AlmSt) : (h.updAlm g).eqx = h.eqx := rfl
@[simp] theorem Hw.updAlm_lth (h : Hw) (g : AlmSt → AlmSt) : (h.updAlm g).lth = h.lth := rfl
@[simp] theorem Hw.updAlm_axl (h : Hw) (g : AlmSt → AlmSt) : (h.updAlm g).axl = h.axl := rfl
@[simp] theorem Hw.updAlm_rad (h : Hw) (g : AlmSt → AlmSt) : (h.updAlm g).rad = h.rad := rfl
@[simp] theorem Hw.updAlm_stp (h : Hw) (g : AlmSt → AlmSt) : (h.updAlm g).stp = h.stp := rfl
@[simp] theorem Hw.updAlm_ports (h : Hw) (g : AlmSt → AlmSt) : (h.updAlm g).ports = h.ports := rfl
@[simp] theorem Hw.updAlm_gns (h : Hw) (g : AlmSt → AlmSt) : (h.updAlm g).gns = h.gns := rfl
@[simp] theorem Hw.updAlm_eth (h : Hw) (g : AlmSt → AlmSt) : (h.updAlm g).eth = h.eth := rfl
@[simp] theorem Hw.updAlm_mtx (h : Hw) (g : AlmSt → AlmSt) : (h.updAlm g).mtx = h.mtx := rfl
@[simp] theorem Hw.updAlm_obs (h : Hw) (g : AlmSt → AlmSt) : (h.updAlm g).obs = h.obs := rfl
@[simp] theorem Hw.updAlm_fix (h : Hw) (g : AlmSt → AlmSt) : (h.updAlm g).fix = h.fix := rfl
@[simp] theorem Hw.updAlm_sp (h : Hw) (g : AlmSt → AlmSt) : (h.updAlm g).sp = h.sp := rfl
@[simp] theorem Hw.updAlm_brl (h : Hw) (g : AlmSt → AlmSt) : (h.updAlm g).brl = h.brl := rfl
@[simp] theorem Hw.updAlm_upd (h : Hw) (g : AlmSt → AlmSt) : (h.updAlm g).upd = h.upd := rfl
@[simp] theorem Hw.updAlm_mtr (h : Hw) (g : AlmSt → AlmSt) : (h.updAlm g).mtr = h.mtr := rfl
@[simp] theorem Hw.updAlm_reg (h : Hw) (g : AlmSt → AlmSt) (j : Nat) : (h.updAlm g).reg j = h.reg j := rfl
@[simp] theorem Hw.updAlm_f (h : Hw) (g : AlmSt → AlmSt) (j : Nat) (l : Fld) : (h.updAlm g).f j l = h.f j l := rfl
@[simp] theorem Hw.updAlm_flag (h : Hw) (g : AlmSt → AlmSt) (j : Nat) (l : Fld) : (h.updAlm g).flag j l = h.flag j l := rfl

/-! ### `Hw.updBrl` -/

@[simp] theorem Hw.updBrl_regs (h : Hw) (g : BrlSt → BrlSt) : (h.updBrl g).regs = h.regs := rfl
@[simp] theorem Hw.updBrl_mem (h : Hw) (g : BrlSt → BrlSt) : (h.updBrl g).mem = h.mem := rfl
@[simp] theorem Hw.updBrl_bus (h : Hw) (g : BrlSt → BrlSt) : (h.updBrl g).bus = h.bus := rfl
@[simp] theorem Hw.updBrl_cores (h : Hw) (g : BrlSt → BrlSt) : (h.updBrl g).cores = h.cores := rfl
@[simp] theorem Hw.updBrl_cfg (h : Hw) (g : BrlSt → BrlSt) : (h.updBrl g).cfg = h.cfg := rfl
@[simp] theorem Hw.updBrl_hosts (h : Hw) (g : BrlSt → BrlSt) : (h.updBrl g).hosts = h.hosts := rfl
@[simp] theorem Hw.updBrl_semSince (h : Hw) (g : BrlSt → BrlSt) : (h.updBrl g).semSince = h.semSince := rfl
@[simp] theorem Hw.updBrl_balls (h : Hw) (g : BrlSt → BrlSt) : (h.updBrl g).balls = h.balls := rfl
@[simp] theorem Hw.updBrl_alm (h : Hw) (g : BrlSt → BrlSt) : (h.updBrl g).alm = h.alm := rfl
@[simp] theorem Hw.updBrl_hlt (h : Hw) (g : BrlSt → BrlSt) : (h.updBrl g).hlt = h.hlt := rfl
@[simp] theorem Hw.updBrl_spn (h : Hw) (g : BrlSt → BrlSt) : (h.updBrl g).spn = h.spn := rfl
@[simp] theorem Hw.updBrl_smu (h : Hw) (g : BrlSt → BrlSt) : (h.updBrl g).smu = h.smu := rfl
@[simp] theorem Hw.updBrl_dma (h : Hw) (g : BrlSt → BrlSt) : (h.updBrl g).dma = h.dma := rfl
@[simp] theorem Hw.updBrl_mbx (h : Hw) (g : BrlSt → BrlSt) : (h.updBrl g).mbx = h.mbx := rfl
@[simp] theorem Hw.updBrl_fifos (h : Hw) (g : BrlSt → BrlSt) : (h.updBrl g).fifos = h.fifos := rfl
@[simp] theorem Hw.updBrl_freeCtr (h : Hw) (g : BrlSt → BrlSt) : (h.updBrl g).freeCtr = h.freeCtr := rfl
@[simp] theorem Hw.updBrl_cal (h : Hw) (g : BrlSt → BrlSt) : (h.updBrl g).cal = h.cal := rfl
@[simp] theorem Hw.updBrl_flash (h : Hw) (g : BrlSt → BrlSt) : (h.updBrl g).flash = h.flash := rfl
@[simp] theorem Hw.updBrl_pwr (h : Hw) (g : BrlSt → BrlSt) : (h.updBrl g).pwr = h.pwr := rfl
@[simp] theorem Hw.updBrl_rsv (h : Hw) (g : BrlSt → BrlSt) : (h.updBrl g).rsv = h.rsv := rfl
@[simp] theorem Hw.updBrl_eqx (h : Hw) (g : BrlSt → BrlSt) : (h.updBrl g).eqx = h.eqx := rfl
@[simp] theorem Hw.updBrl_lth (h : Hw) (g : BrlSt → BrlSt) : (h.updBrl g).lth = h.lth := rfl
@[simp] theorem Hw.updBrl_axl (h : Hw) (g : BrlSt → BrlSt) : (h.updBrl g).axl = h.axl := rfl
@[simp] theorem Hw.updBrl_rad (h : Hw) (g : BrlSt → BrlSt) : (h.updBrl g).rad = h.rad := rfl
@[simp] theorem Hw.updBrl_stp (h : Hw) (g : BrlSt → BrlSt) : (h.updBrl g).stp = h.stp := rfl
@[simp] theorem Hw.updBrl_ports (h : Hw) (g : BrlSt → BrlSt) : (h.updBrl g).ports = h.ports := rfl
@[simp] theorem Hw.updBrl_gns (h : Hw) (g : BrlSt → BrlSt) : (h.updBrl g).gns = h.gns := rfl
@[simp] theorem Hw.updBrl_eth (h : Hw) (g : BrlSt → BrlSt) : (h.updBrl g).eth = h.eth := rfl
@[simp] theorem Hw.updBrl_mtx (h : Hw) (g : BrlSt → BrlSt) : (h.updBrl g).mtx = h.mtx := rfl
@[simp] theorem Hw.updBrl_obs (h : Hw) (g : BrlSt → BrlSt) : (h.updBrl g).obs = h.obs := rfl
@[simp] theorem Hw.updBrl_fix (h : Hw) (g : BrlSt → BrlSt) : (h.updBrl g).fix = h.fix := rfl
@[simp] theorem Hw.updBrl_sp (h : Hw) (g : BrlSt → BrlSt) : (h.updBrl g).sp = h.sp := rfl
@[simp] theorem Hw.updBrl_brl (h : Hw) (g : BrlSt → BrlSt) : (h.updBrl g).brl = g h.brl := rfl
@[simp] theorem Hw.updBrl_upd (h : Hw) (g : BrlSt → BrlSt) : (h.updBrl g).upd = h.upd := rfl
@[simp] theorem Hw.updBrl_mtr (h : Hw) (g : BrlSt → BrlSt) : (h.updBrl g).mtr = h.mtr := rfl
@[simp] theorem Hw.updBrl_reg (h : Hw) (g : BrlSt → BrlSt) (j : Nat) : (h.updBrl g).reg j = h.reg j := rfl
@[simp] theorem Hw.updBrl_f (h : Hw) (g : BrlSt → BrlSt) (j : Nat) (l : Fld) : (h.updBrl g).f j l = h.f j l := rfl
@[simp] theorem Hw.updBrl_flag (h : Hw) (g : BrlSt → BrlSt) (j : Nat) (l : Fld) : (h.updBrl g).flag j l = h.flag j l := rfl

/-! ### `Hw.updCal` -/

@[simp] theorem Hw.updCal_regs (h : Hw) (g : CalSt → CalSt) : (h.updCal g).regs = h.regs := rfl
@[simp] theorem Hw.updCal_mem (h : Hw) (g : CalSt → CalSt) : (h.updCal g).mem = h.mem := rfl
@[simp] theorem Hw.updCal_bus (h : Hw) (g : CalSt → CalSt) : (h.updCal g).bus = h.bus := rfl
@[simp] theorem Hw.updCal_cores (h : Hw) (g : CalSt → CalSt) : (h.updCal g).cores = h.cores := rfl
@[simp] theorem Hw.updCal_cfg (h : Hw) (g : CalSt → CalSt) : (h.updCal g).cfg = h.cfg := rfl
@[simp] theorem Hw.updCal_hosts (h : Hw) (g : CalSt → CalSt) : (h.updCal g).hosts = h.hosts := rfl
@[simp] theorem Hw.updCal_semSince (h : Hw) (g : CalSt → CalSt) : (h.updCal g).semSince = h.semSince := rfl
@[simp] theorem Hw.updCal_balls (h : Hw) (g : CalSt → CalSt) : (h.updCal g).balls = h.balls := rfl
@[simp] theorem Hw.updCal_alm (h : Hw) (g : CalSt → CalSt) : (h.updCal g).alm = h.alm := rfl
@[simp] theorem Hw.updCal_hlt (h : Hw) (g : CalSt → CalSt) : (h.updCal g).hlt = h.hlt := rfl
@[simp] theorem Hw.updCal_spn (h : Hw) (g : CalSt → CalSt) : (h.updCal g).spn = h.spn := rfl
@[simp] theorem Hw.updCal_smu (h : Hw) (g : CalSt → CalSt) : (h.updCal g).smu = h.smu := rfl
@[simp] theorem Hw.updCal_dma (h : Hw) (g : CalSt → CalSt) : (h.updCal g).dma = h.dma := rfl
@[simp] theorem Hw.updCal_mbx (h : Hw) (g : CalSt → CalSt) : (h.updCal g).mbx = h.mbx := rfl
@[simp] theorem Hw.updCal_fifos (h : Hw) (g : CalSt → CalSt) : (h.updCal g).fifos = h.fifos := rfl
@[simp] theorem Hw.updCal_freeCtr (h : Hw) (g : CalSt → CalSt) : (h.updCal g).freeCtr = h.freeCtr := rfl
@[simp] theorem Hw.updCal_cal (h : Hw) (g : CalSt → CalSt) : (h.updCal g).cal = g h.cal := rfl
@[simp] theorem Hw.updCal_flash (h : Hw) (g : CalSt → CalSt) : (h.updCal g).flash = h.flash := rfl
@[simp] theorem Hw.updCal_pwr (h : Hw) (g : CalSt → CalSt) : (h.updCal g).pwr = h.pwr := rfl
@[simp] theorem Hw.updCal_rsv (h : Hw) (g : CalSt → CalSt) : (h.updCal g).rsv = h.rsv := rfl
@[simp] theorem Hw.updCal_eqx (h : Hw) (g : CalSt → CalSt) : (h.updCal g).eqx = h.eqx := rfl
@[simp] theorem Hw.updCal_lth (h : Hw) (g : CalSt → CalSt) : (h.updCal g).lth = h.lth := rfl
@[simp] theorem Hw.updCal_axl (h : Hw) (g : CalSt → CalSt) : (h.updCal g).axl = h.axl := rfl
@[simp] theorem Hw.updCal_rad (h : Hw) (g : CalSt → CalSt) : (h.updCal g).rad = h.rad := rfl
@[simp] theorem Hw.updCal_stp (h : Hw) (g : CalSt → CalSt) : (h.updCal g).stp = h.stp := rfl
@[simp] theorem Hw.updCal_ports (h : Hw) (g : CalSt → CalSt) : (h.updCal g).ports = h.ports := rfl
@[simp] theorem Hw.updCal_gns (h : Hw) (g : CalSt → CalSt) : (h.updCal g).gns = h.gns := rfl
@[simp] theorem Hw.updCal_eth (h : Hw) (g : CalSt → CalSt) : (h.updCal g).eth = h.eth := rfl
@[simp] theorem Hw.updCal_mtx (h : Hw) (g : CalSt → CalSt) : (h.updCal g).mtx = h.mtx := rfl
@[simp] theorem Hw.updCal_obs (h : Hw) (g : CalSt → CalSt) : (h.updCal g).obs = h.obs := rfl
@[simp] theorem Hw.updCal_fix (h : Hw) (g : CalSt → CalSt) : (h.updCal g).fix = h.fix := rfl
@[simp] theorem Hw.updCal_sp (h : Hw) (g : CalSt → CalSt) : (h.updCal g).sp = h.sp := rfl
@[simp] theorem Hw.updCal_brl (h : Hw) (g : CalSt → CalSt) : (h.updCal g).brl = h.brl := rfl
@[simp] theorem Hw.updCal_upd (h : Hw) (g : CalSt → CalSt) : (h.updCal g).upd = h.upd := rfl
@[simp] theorem Hw.updCal_mtr (h : Hw) (g : CalSt → CalSt) : (h.updCal g).mtr = h.mtr := rfl
@[simp] theorem Hw.updCal_reg (h : Hw) (g : CalSt → CalSt) (j : Nat) : (h.updCal g).reg j = h.reg j := rfl
@[simp] theorem Hw.updCal_f (h : Hw) (g : CalSt → CalSt) (j : Nat) (l : Fld) : (h.updCal g).f j l = h.f j l := rfl
@[simp] theorem Hw.updCal_flag (h : Hw) (g : CalSt → CalSt) (j : Nat) (l : Fld) : (h.updCal g).flag j l = h.flag j l := rfl

/-! ### `Hw.updEth` -/

@[simp] theorem Hw.updEth_regs (h : Hw) (g : EthSt → EthSt) : (h.updEth g).regs = h.regs := rfl
@[simp] theorem Hw.updEth_mem (h : Hw) (g : EthSt → EthSt) : (h.updEth g).mem = h.mem := rfl
@[simp] theorem Hw.updEth_bus (h : Hw) (g : EthSt → EthSt) : (h.updEth g).bus = h.bus := rfl
@[simp] theorem Hw.updEth_cores (h : Hw) (g : EthSt → EthSt) : (h.updEth g).cores = h.cores := rfl
@[simp] theorem Hw.updEth_cfg (h : Hw) (g : EthSt → EthSt) : (h.updEth g).cfg = h.cfg := rfl
@[simp] theorem Hw.updEth_hosts (h : Hw) (g : EthSt → EthSt) : (h.updEth g).hosts = h.hosts := rfl
@[simp] theorem Hw.updEth_semSince (h : Hw) (g : EthSt → EthSt) : (h.updEth g).semSince = h.semSince := rfl
@[simp] theorem Hw.updEth_balls (h : Hw) (g : EthSt → EthSt) : (h.updEth g).balls = h.balls := rfl
@[simp] theorem Hw.updEth_alm (h : Hw) (g : EthSt → EthSt) : (h.updEth g).alm = h.alm := rfl
@[simp] theorem Hw.updEth_hlt (h : Hw) (g : EthSt → EthSt) : (h.updEth g).hlt = h.hlt := rfl
@[simp] theorem Hw.updEth_spn (h : Hw) (g : EthSt → EthSt) : (h.updEth g).spn = h.spn := rfl
@[simp] theorem Hw.updEth_smu (h : Hw) (g : EthSt → EthSt) : (h.updEth g).smu = h.smu := rfl
@[simp] theorem Hw.updEth_dma (h : Hw) (g : EthSt → EthSt) : (h.updEth g).dma = h.dma := rfl
@[simp] theorem Hw.updEth_mbx (h : Hw) (g : EthSt → EthSt) : (h.updEth g).mbx = h.mbx := rfl
@[simp] theorem Hw.updEth_fifos (h : Hw) (g : EthSt → EthSt) : (h.updEth g).fifos = h.fifos := rfl
@[simp] theorem Hw.updEth_freeCtr (h : Hw) (g : EthSt → EthSt) : (h.updEth g).freeCtr = h.freeCtr := rfl
@[simp] theorem Hw.updEth_cal (h : Hw) (g : EthSt → EthSt) : (h.updEth g).cal = h.cal := rfl
@[simp] theorem Hw.updEth_flash (h : Hw) (g : EthSt → EthSt) : (h.updEth g).flash = h.flash := rfl
@[simp] theorem Hw.updEth_pwr (h : Hw) (g : EthSt → EthSt) : (h.updEth g).pwr = h.pwr := rfl
@[simp] theorem Hw.updEth_rsv (h : Hw) (g : EthSt → EthSt) : (h.updEth g).rsv = h.rsv := rfl
@[simp] theorem Hw.updEth_eqx (h : Hw) (g : EthSt → EthSt) : (h.updEth g).eqx = h.eqx := rfl
@[simp] theorem Hw.updEth_lth (h : Hw) (g : EthSt → EthSt) : (h.updEth g).lth = h.lth := rfl
@[simp] theorem Hw.updEth_axl (h : Hw) (g : EthSt → EthSt) : (h.updEth g).axl = h.axl := rfl
@[simp] theorem Hw.updEth_rad (h : Hw) (g : EthSt → EthSt) : (h.updEth g).rad = h.rad := rfl
@[simp] theorem Hw.updEth_stp (h : Hw) (g : EthSt → EthSt) : (h.updEth g).stp = h.stp := rfl
@[simp] theorem Hw.updEth_ports (h : Hw) (g : EthSt → EthSt) : (h.updEth g).ports = h.ports := rfl
@[simp] theorem Hw.updEth_gns (h : Hw) (g : EthSt → EthSt) : (h.updEth g).gns = h.gns := rfl
@[simp] theorem Hw.updEth_eth (h : Hw) (g : EthSt → EthSt) : (h.updEth g).eth = g h.eth := rfl
@[simp] theorem Hw.updEth_mtx (h : Hw) (g : EthSt → EthSt) : (h.updEth g).mtx = h.mtx := rfl
@[simp] theorem Hw.updEth_obs (h : Hw) (g : EthSt → EthSt) : (h.updEth g).obs = h.obs := rfl
@[simp] theorem Hw.updEth_fix (h : Hw) (g : EthSt → EthSt) : (h.updEth g).fix = h.fix := rfl
@[simp] theorem Hw.updEth_sp (h : Hw) (g : EthSt → EthSt) : (h.updEth g).sp = h.sp := rfl
@[simp] theorem Hw.updEth_brl (h : Hw) (g : EthSt → EthSt) : (h.updEth g).brl = h.brl := rfl
@[simp] theorem Hw.updEth_upd (h : Hw) (g : EthSt → EthSt) : (h.updEth g).upd = h.upd := rfl
@[simp] theorem Hw.updEth_mtr (h : Hw) (g : EthSt → EthSt) : (h.updEth g).mtr = h.mtr := rfl
@[simp] theorem Hw.updEth_reg (h : Hw) (g : EthSt → EthSt) (j : Nat) : (h.updEth g).reg j = h.reg j := rfl
@[simp] theorem Hw.updEth_f (h : Hw) (g : EthSt → EthSt) (j : Nat) (l : Fld) : (h.updEth g).f j l = h.f j l := rfl
@[simp] theorem Hw.updEth_flag (h : Hw) (g : EthSt → EthSt) (j : Nat) (l : Fld) : (h.updEth g).flag j l = h.flag j l := rfl

/-! ### `Hw.updGns` -/

@[simp] theorem Hw.updGns_regs (h : Hw) (g : GnsSt → GnsSt) : (h.updGns g).regs = h.regs := rfl
@[simp] theorem Hw.updGns_mem (h : Hw) (g : GnsSt → GnsSt) : (h.updGns g).mem = h.mem := rfl
@[simp] theorem Hw.updGns_bus (h : Hw) (g : GnsSt → GnsSt) : (h.updGns g).bus = h.bus := rfl
@[simp] theorem Hw.updGns_cores (h : Hw) (g : GnsSt → GnsSt) : (h.updGns g).cores = h.cores := rfl
@[simp] theorem Hw.updGns_cfg (h : Hw) (g : GnsSt → GnsSt) : (h.updGns g).cfg = h.cfg := rfl
@[simp] theorem Hw.updGns_hosts (h : Hw) (g : GnsSt → GnsSt) : (h.updGns g).hosts = h.hosts := rfl
@[simp] theorem Hw.updGns_semSince (h : Hw) (g : GnsSt → GnsSt) : (h.updGns g).semSince = h.semSince := rfl
@[simp] theorem Hw.updGns_balls (h : Hw) (g : GnsSt → GnsSt) : (h.updGns g).balls = h.balls := rfl
@[simp] theorem Hw.updGns_alm (h : Hw) (g : GnsSt → GnsSt) : (h.updGns g).alm = h.alm := rfl
@[simp] theorem Hw.updGns_hlt (h : Hw) (g : GnsSt → GnsSt) : (h.updGns g).hlt = h.hlt := rfl
@[simp] theorem Hw.updGns_spn (h : Hw) (g : GnsSt → GnsSt) : (h.updGns g).spn = h.spn := rfl
@[simp] theorem Hw.updGns_smu (h : Hw) (g : GnsSt → GnsSt) : (h.updGns g).smu = h.smu := rfl
@[simp] theorem Hw.updGns_dma (h : Hw) (g : GnsSt → GnsSt) : (h.updGns g).dma = h.dma := rfl
@[simp] theorem Hw.updGns_mbx (h : Hw) (g : GnsSt → GnsSt) : (h.updGns g).mbx = h.mbx := rfl
@[simp] theorem Hw.updGns_fifos (h : Hw) (g : GnsSt → GnsSt) : (h.updGns g).fifos = h.fifos := rfl
@[simp] theorem Hw.updGns_freeCtr (h : Hw) (g : GnsSt → GnsSt) : (h.updGns g).freeCtr = h.freeCtr := rfl
@[simp] theorem Hw.updGns_cal (h : Hw) (g : GnsSt → GnsSt) : (h.updGns g).cal = h.cal := rfl
@[simp] theorem Hw.updGns_flash (h : Hw) (g : GnsSt → GnsSt) : (h.updGns g).flash = h.flash := rfl
@[simp] theorem Hw.updGns_pwr (h : Hw) (g : GnsSt → GnsSt) : (h.updGns g).pwr = h.pwr := rfl
@[simp] theorem Hw.updGns_rsv (h : Hw) (g : GnsSt → GnsSt) : (h.updGns g).rsv = h.rsv := rfl
@[simp] theorem Hw.updGns_eqx (h : Hw) (g : GnsSt → GnsSt) : (h.updGns g).eqx = h.eqx := rfl
@[simp] theorem Hw.updGns_lth (h : Hw) (g : GnsSt → GnsSt) : (h.updGns g).lth = h.lth := rfl
@[simp] theorem Hw.updGns_axl (h : Hw) (g : GnsSt → GnsSt) : (h.updGns g).axl = h.axl := rfl
@[simp] theorem Hw.updGns_rad (h : Hw) (g : GnsSt → GnsSt) : (h.updGns g).rad = h.rad := rfl
@[simp] theorem Hw.updGns_stp (h : Hw) (g : GnsSt → GnsSt) : (h.updGns g).stp = h.stp := rfl
@[simp] theorem Hw.updGns_ports (h : Hw) (g : GnsSt → GnsSt) : (h.updGns g).ports = h.ports := rfl
@[simp] theorem Hw.updGns_gns (h : Hw) (g : GnsSt → GnsSt) : (h.updGns g).gns = g h.gns := rfl
@[simp] theorem Hw.updGns_eth (h : Hw) (g : GnsSt → GnsSt) : (h.updGns g).eth = h.eth := rfl
@[simp] theorem Hw.updGns_mtx (h : Hw) (g : GnsSt → GnsSt) : (h.updGns g).mtx = h.mtx := rfl
@[simp] theorem Hw.updGns_obs (h : Hw) (g : GnsSt → GnsSt) : (h.updGns g).obs = h.obs := rfl
@[simp] theorem Hw.updGns_fix (h : Hw) (g : GnsSt → GnsSt) : (h.updGns g).fix = h.fix := rfl
@[simp] theorem Hw.updGns_sp (h : Hw) (g : GnsSt → GnsSt) : (h.updGns g).sp = h.sp := rfl
@[simp] theorem Hw.updGns_brl (h : Hw) (g : GnsSt → GnsSt) : (h.updGns g).brl = h.brl := rfl
@[simp] theorem Hw.updGns_upd (h : Hw) (g : GnsSt → GnsSt) : (h.updGns g).upd = h.upd := rfl
@[simp] theorem Hw.updGns_mtr (h : Hw) (g : GnsSt → GnsSt) : (h.updGns g).mtr = h.mtr := rfl
@[simp] theorem Hw.updGns_reg (h : Hw) (g : GnsSt → GnsSt) (j : Nat) : (h.updGns g).reg j = h.reg j := rfl
@[simp] theorem Hw.updGns_f (h : Hw) (g : GnsSt → GnsSt) (j : Nat) (l : Fld) : (h.updGns g).f j l = h.f j l := rfl
@[simp] theorem Hw.updGns_flag (h : Hw) (g : GnsSt → GnsSt) (j : Nat) (l : Fld) : (h.updGns g).flag j l = h.flag j l := rfl

/-! ### `Hw.updHlt` -/

@[simp] theorem Hw.updHlt_regs (h : Hw) (g : HltSt → HltSt) : (h.updHlt g).regs = h.regs := rfl
@[simp] theorem Hw.updHlt_mem (h : Hw) (g : HltSt → HltSt) : (h.updHlt g).mem = h.mem := rfl
@[simp] theorem Hw.updHlt_bus (h : Hw) (g : HltSt → HltSt) : (h.updHlt g).bus = h.bus := rfl
@[simp] theorem Hw.updHlt_cores (h : Hw) (g : HltSt → HltSt) : (h.updHlt g).cores = h.cores := rfl
@[simp] theorem Hw.updHlt_cfg (h : Hw) (g : HltSt → HltSt) : (h.updHlt g).cfg = h.cfg := rfl
@[simp] theorem Hw.updHlt_hosts (h : Hw) (g : HltSt → HltSt) : (h.updHlt g).hosts = h.hosts := rfl
@[simp] theorem Hw.updHlt_semSince (h : Hw) (g : HltSt → HltSt) : (h.updHlt g).semSince = h.semSince := rfl
@[simp] theorem Hw.updHlt_balls (h : Hw) (g : HltSt → HltSt) : (h.updHlt g).balls = h.balls := rfl
@[simp] theorem Hw.updHlt_alm (h : Hw) (g : HltSt → HltSt) : (h.updHlt g).alm = h.alm := rfl
@[simp] theorem Hw.updHlt_hlt (h : Hw) (g : HltSt → HltSt) : (h.updHlt g).hlt = g h.hlt := rfl
@[simp] theorem Hw.updHlt_spn (h : Hw) (g : HltSt → HltSt) : (h.updHlt g).spn = h.spn := rfl
@[simp] theorem Hw.updHlt_smu (h : Hw) (g : HltSt → HltSt) : (h.updHlt g).smu = h.smu := rfl
@[simp] theorem Hw.updHlt_dma (h : Hw) (g : HltSt → HltSt) : (h.updHlt g).dma = h.dma := rfl
@[simp] theorem Hw.updHlt_mbx (h : Hw) (g : HltSt → HltSt) : (h.updHlt g).mbx = h.mbx := rfl
@[simp] theorem Hw.updHlt_fifos (h : Hw) (g : HltSt → HltSt) : (h.updHlt g).fifos = h.fifos := rfl
@[simp] theorem Hw.updHlt_freeCtr (h : Hw) (g : HltSt → HltSt) : (h.updHlt g).freeCtr = h.freeCtr := rfl
@[simp] theorem Hw.updHlt_cal (h : Hw) (g : HltSt → HltSt) : (h.updHlt g).cal = h.cal := rfl
@[simp] theorem Hw.updHlt_flash (h : Hw) (g : HltSt → HltSt) : (h.updHlt g).flash = h.flash := rfl
@[simp] theorem Hw.updHlt_pwr (h : Hw) (g : HltSt → HltSt) : (h.updHlt g).pwr = h.pwr := rfl
@[simp] theorem Hw.updHlt_rsv (h : Hw) (g : HltSt → HltSt) : (h.updHlt g).rsv = h.rsv := rfl
@[simp] theorem Hw.updHlt_eqx (h : Hw) (g : HltSt → HltSt) : (h.updHlt g).eqx = h.eqx := rfl
@[simp] theorem Hw.updHlt_lth (h : Hw) (g : HltSt → HltSt) : (h.updHlt g).lth = h.lth := rfl
@[simp] theorem Hw.updHlt_axl (h : Hw) (g : HltSt → HltSt) : (h.updHlt g).axl = h.axl := rfl
@[simp] theorem Hw.updHlt_rad (h : Hw) (g : HltSt → HltSt) : (h.updHlt g).rad = h.rad := rfl
@[simp] theorem Hw.updHlt_stp (h : Hw) (g : HltSt → HltSt) : (h.updHlt g).stp = h.stp := rfl
@[simp] theorem Hw.updHlt_ports (h : Hw) (g : HltSt → HltSt) : (h.updHlt g).ports = h.ports := rfl
@[simp] theorem Hw.updHlt_gns (h : Hw) (g : HltSt → HltSt) : (h.updHlt g).gns = h.gns := rfl
@[simp] theorem Hw.updHlt_eth (h : Hw) (g : HltSt → HltSt) : (h.updHlt g).eth = h.eth := rfl
@[simp] theorem Hw.updHlt_mtx (h : Hw) (g : HltSt → HltSt) : (h.updHlt g).mtx = h.mtx := rfl
@[simp] theorem Hw.updHlt_obs (h : Hw) (g : HltSt → HltSt) : (h.updHlt g).obs = h.obs := rfl
@[simp] theorem Hw.updHlt_fix (h : Hw) (g : HltSt → HltSt) : (h.updHlt g).fix = h.fix := rfl
@[simp] theorem Hw.updHlt_sp (h : Hw) (g : HltSt → HltSt) : (h.updHlt g).sp = h.sp := rfl
@[simp] theorem Hw.updHlt_brl (h : Hw) (g : HltSt → HltSt) : (h.updHlt g).brl = h.brl := rfl
@[simp] theorem Hw.updHlt_upd (h : Hw) (g : HltSt → HltSt) : (h.updHlt g).upd = h.upd := rfl
@[simp] theorem Hw.updHlt_mtr (h : Hw) (g : HltSt → HltSt) : (h.updHlt g).mtr = h.mtr := rfl
@[simp] theorem Hw.updHlt_reg (h : Hw) (g : HltSt → HltSt) (j : Nat) : (h.updHlt g).reg j = h.reg j := rfl
@[simp] theorem Hw.updHlt_f (h : Hw) (g : HltSt → HltSt) (j : Nat) (l : Fld) : (h.updHlt g).f j l = h.f j l := rfl
@[simp] theorem Hw.updHlt_flag (h : Hw) (g : HltSt → HltSt) (j : Nat) (l : Fld) : (h.updHlt g).flag j l = h.flag j l := rfl

/-! ### `Hw.updLth` -/

@[simp] theorem Hw.updLth_regs (h : Hw) (g : LthSt → LthSt) : (h.updLth g).regs = h.regs := rfl
@[simp] theorem Hw.updLth_mem (h : Hw) (g : LthSt → LthSt) : (h.updLth g).mem = h.mem := rfl
@[simp] theorem Hw.updLth_bus (h : Hw) (g : LthSt → LthSt) : (h.updLth g).bus = h.bus := rfl
@[simp] theorem Hw.updLth_cores (h : Hw) (g : LthSt → LthSt) : (h.updLth g).cores = h.cores := rfl
@[simp] theorem Hw.updLth_cfg (h : Hw) (g : LthSt → LthSt) : (h.updLth g).cfg = h.cfg := rfl
@[simp] theorem Hw.updLth_hosts (h : Hw) (g : LthSt → LthSt) : (h.updLth g).hosts = h.hosts := rfl
@[simp] theorem Hw.updLth_semSince (h : Hw) (g : LthSt → LthSt) : (h.updLth g).semSince = h.semSince := rfl
@[simp] theorem Hw.updLth_balls (h : Hw) (g : LthSt → LthSt) : (h.updLth g).balls = h.balls := rfl
@[simp] theorem Hw.updLth_alm (h : Hw) (g : LthSt → LthSt) : (h.updLth g).alm = h.alm := rfl
@[simp] theorem Hw.updLth_hlt (h : Hw) (g : LthSt → LthSt) : (h.updLth g).hlt = h.hlt := rfl
@[simp] theorem Hw.updLth_spn (h : Hw) (g : LthSt → LthSt) : (h.updLth g).spn = h.spn := rfl
@[simp] theorem Hw.updLth_smu (h : Hw) (g : LthSt → LthSt) : (h.updLth g).smu = h.smu := rfl
@[simp] theorem Hw.updLth_dma (h : Hw) (g : LthSt → LthSt) : (h.updLth g).dma = h.dma := rfl
@[simp] theorem Hw.updLth_mbx (h : Hw) (g : LthSt → LthSt) : (h.updLth g).mbx = h.mbx := rfl
@[simp] theorem Hw.updLth_fifos (h : Hw) (g : LthSt → LthSt) : (h.updLth g).fifos = h.fifos := rfl
@[simp] theorem Hw.updLth_freeCtr (h : Hw) (g : LthSt → LthSt) : (h.updLth g).freeCtr = h.freeCtr := rfl
@[simp] theorem Hw.updLth_cal (h : Hw) (g : LthSt → LthSt) : (h.updLth g).cal = h.cal := rfl
@[simp] theorem Hw.updLth_flash (h : Hw) (g : LthSt → LthSt) : (h.updLth g).flash = h.flash := rfl
@[simp] theorem Hw.updLth_pwr (h : Hw) (g : LthSt → LthSt) : (h.updLth g).pwr = h.pwr := rfl
@[simp] theorem Hw.updLth_rsv (h : Hw) (g : LthSt → LthSt) : (h.updLth g).rsv = h.rsv := rfl
@[simp] theorem Hw.updLth_eqx (h : Hw) (g : LthSt → LthSt) : (h.updLth g).eqx = h.eqx := rfl
@[simp] theorem Hw.updLth_lth (h : Hw) (g : LthSt → LthSt) : (h.updLth g).lth = g h.lth := rfl
@[simp] theorem Hw.updLth_axl (h : Hw) (g : LthSt → LthSt) : (h.updLth g).axl = h.axl := rfl
@[simp] theorem Hw.updLth_rad (h : Hw) (g : LthSt → LthSt) : (h.updLth g).rad = h.rad := rfl
@[simp] theorem Hw.updLth_stp (h : Hw) (g : LthSt → LthSt) : (h.updLth g).stp = h.stp := rfl
@[simp] theorem Hw.updLth_ports (h : Hw) (g : LthSt → LthSt) : (h.updLth g).ports = h.ports := rfl
@[simp] theorem Hw.updLth_gns (h : Hw) (g : LthSt → LthSt) : (h.updLth g).gns = h.gns := rfl
@[simp] theorem Hw.updLth_eth (h : Hw) (g : LthSt → LthSt) : (h.updLth g).eth = h.eth := rfl
@[simp] theorem Hw.updLth_mtx (h : Hw) (g : LthSt → LthSt) : (h.updLth g).mtx = h.mtx := rfl
@[simp] theorem Hw.updLth_obs (h : Hw) (g : LthSt → LthSt) : (h.updLth g).obs = h.obs := rfl
@[simp] theorem Hw.updLth_fix (h : Hw) (g : LthSt → LthSt) : (h.updLth g).fix = h.fix := rfl
@[simp] theorem Hw.updLth_sp (h : Hw) (g : LthSt → LthSt) : (h.updLth g).sp = h.sp := rfl
@[simp] theorem Hw.updLth_brl (h : Hw) (g : LthSt → LthSt) : (h.updLth g).brl = h.brl := rfl
@[simp] theorem Hw.updLth_upd (h : Hw) (g : LthSt → LthSt) : (h.updLth g).upd = h.upd := rfl
@[simp] theorem Hw.updLth_mtr (h : Hw) (g : LthSt → LthSt) : (h.updLth g).mtr = h.mtr := rfl
@[simp] theorem Hw.updLth_reg (h : Hw) (g : LthSt → LthSt) (j : Nat) : (h.updLth g).reg j = h.reg j := rfl
@[simp] theorem Hw.updLth_f (h : Hw) (g : LthSt → LthSt) (j : Nat) (l : Fld) : (h.updLth g).f j l = h.f j l := rfl
@[simp] theorem Hw.updLth_flag (h : Hw) (g : LthSt → LthSt) (j : Nat) (l : Fld) : (h.updLth g).flag j l = h.flag j l := rfl

/-! ### `Hw.updMtr` -/

@[simp] theorem Hw.updMtr_regs (h : Hw) (g : MtrSt → MtrSt) : (h.updMtr g).regs = h.regs := rfl
@[simp] theorem Hw.updMtr_mem (h : Hw) (g : MtrSt → MtrSt) : (h.updMtr g).mem = h.mem := rfl
@[simp] theorem Hw.updMtr_bus (h : Hw) (g : MtrSt → MtrSt) : (h.updMtr g).bus = h.bus := rfl
@[simp] theorem Hw.updMtr_cores (h : Hw) (g : MtrSt → MtrSt) : (h.updMtr g).cores = h.cores := rfl
@[simp] theorem Hw.updMtr_cfg (h : Hw) (g : MtrSt → MtrSt) : (h.updMtr g).cfg = h.cfg := rfl
@[simp] theorem Hw.updMtr_hosts (h : Hw) (g : MtrSt → MtrSt) : (h.updMtr g).hosts = h.hosts := rfl
@[simp] theorem Hw.updMtr_semSince (h : Hw) (g : MtrSt → MtrSt) : (h.updMtr g).semSince = h.semSince := rfl
@[simp] theorem Hw.updMtr_balls (h : Hw) (g : MtrSt → MtrSt) : (h.updMtr g).balls = h.balls := rfl
@[simp] theorem Hw.updMtr_alm (h : Hw) (g : MtrSt → MtrSt) : (h.updMtr g).alm = h.alm := rfl
@[simp] theorem Hw.updMtr_hlt (h : Hw) (g : MtrSt → MtrSt) : (h.updMtr g).hlt = h.hlt := rfl
@[simp] theorem Hw.updMtr_spn (h : Hw) (g : MtrSt → MtrSt) : (h.updMtr g).spn = h.spn := rfl
@[simp] theorem Hw.updMtr_smu (h : Hw) (g : MtrSt → MtrSt) : (h.updMtr g).smu = h.smu := rfl
@[simp] theorem Hw.updMtr_dma (h : Hw) (g : MtrSt → MtrSt) : (h.updMtr g).dma = h.dma := rfl
@[simp] theorem Hw.updMtr_mbx (h : Hw) (g : MtrSt → MtrSt) : (h.updMtr g).mbx = h.mbx := rfl
@[simp] theorem Hw.updMtr_fifos (h : Hw) (g : MtrSt → MtrSt) : (h.updMtr g).fifos = h.fifos := rfl
@[simp] theorem Hw.updMtr_freeCtr (h : Hw) (g : MtrSt → MtrSt) : (h.updMtr g).freeCtr = h.freeCtr := rfl
@[simp] theorem Hw.updMtr_cal (h : Hw) (g : MtrSt → MtrSt) : (h.updMtr g).cal = h.cal := rfl
@[simp] theorem Hw.updMtr_flash (h : Hw) (g : MtrSt → MtrSt) : (h.updMtr g).flash = h.flash := rfl
@[simp] theorem Hw.updMtr_pwr (h : Hw) (g : MtrSt → MtrSt) : (h.updMtr g).pwr = h.pwr := rfl
@[simp] theorem Hw.updMtr_rsv (h : Hw) (g : MtrSt → MtrSt) : (h.updMtr g).rsv = h.rsv := rfl
@[simp] theorem Hw.updMtr_eqx (h : Hw) (g : MtrSt → MtrSt) : (h.updMtr g).eqx = h.eqx := rfl
@[simp] theorem Hw.updMtr_lth (h : Hw) (g : MtrSt → MtrSt) : (h.updMtr g).lth = h.lth := rfl
@[simp] theorem Hw.updMtr_axl (h : Hw) (g : MtrSt → MtrSt) : (h.updMtr g).axl = h.axl := rfl
@[simp] theorem Hw.updMtr_rad (h : Hw) (g : MtrSt → MtrSt) : (h.updMtr g).rad = h.rad := rfl
@[simp] theorem Hw.updMtr_stp (h : Hw) (g : MtrSt → MtrSt) : (h.updMtr g).stp = h.stp := rfl
@[simp] theorem Hw.updMtr_ports (h : Hw) (g : MtrSt → MtrSt) : (h.updMtr g).ports = h.ports := rfl
@[simp] theorem Hw.updMtr_gns (h : Hw) (g : MtrSt → MtrSt) : (h.updMtr g).gns = h.gns := rfl
@[simp] theorem Hw.updMtr_eth (h : Hw) (g : MtrSt → MtrSt) : (h.updMtr g).eth = h.eth := rfl
@[simp] theorem Hw.updMtr_mtx (h : Hw) (g : MtrSt → MtrSt) : (h.updMtr g).mtx = h.mtx := rfl
@[simp] theorem Hw.updMtr_obs (h : Hw) (g : MtrSt → MtrSt) : (h.updMtr g).obs = h.obs := rfl
@[simp] theorem Hw.updMtr_fix (h : Hw) (g : MtrSt → MtrSt) : (h.updMtr g).fix = h.fix := rfl
@[simp] theorem Hw.updMtr_sp (h : Hw) (g : MtrSt → MtrSt) : (h.updMtr g).sp = h.sp := rfl
@[simp] theorem Hw.updMtr_brl (h : Hw) (g : MtrSt → MtrSt) : (h.updMtr g).brl = h.brl := rfl
@[simp] theorem Hw.updMtr_upd (h : Hw) (g : MtrSt → MtrSt) : (h.updMtr g).upd = h.upd := rfl
@[simp] theorem Hw.updMtr_mtr (h : Hw) (g : MtrSt → MtrSt) : (h.updMtr g).mtr = g h.mtr := rfl
@[simp] theorem Hw.updMtr_reg (h : Hw) (g : MtrSt → MtrSt) (j : Nat) : (h.updMtr g).reg j = h.reg j := rfl
@[simp] theorem Hw.updMtr_f (h : Hw) (g : MtrSt → MtrSt) (j : Nat) (l : Fld) : (h.updMtr g).f j l = h.f j l := rfl
@[simp] theorem Hw.updMtr_flag (h : Hw) (g : MtrSt → MtrSt) (j : Nat) (l : Fld) : (h.updMtr g).flag j l = h.flag j l := rfl

/-! ### `Hw.updMtx` -/

@[simp] theorem Hw.updMtx_regs (h : Hw) (g : MtxSt → MtxSt) : (h.updMtx g).regs = h.regs := rfl
@[simp] theorem Hw.updMtx_mem (h : Hw) (g : MtxSt → MtxSt) : (h.updMtx g).mem = h.mem := rfl
@[simp] theorem Hw.updMtx_bus (h : Hw) (g : MtxSt → MtxSt) : (h.updMtx g).bus = h.bus := rfl
@[simp] theorem Hw.updMtx_cores (h : Hw) (g : MtxSt → MtxSt) : (h.updMtx g).cores = h.cores := rfl
@[simp] theorem Hw.updMtx_cfg (h : Hw) (g : MtxSt → MtxSt) : (h.updMtx g).cfg = h.cfg := rfl
@[simp] theorem Hw.updMtx_hosts (h : Hw) (g : MtxSt → MtxSt) : (h.updMtx g).hosts = h.hosts := rfl
@[simp] theorem Hw.updMtx_semSince (h : Hw) (g : MtxSt → MtxSt) : (h.updMtx g).semSince = h.semSince := rfl
@[simp] theorem Hw.updMtx_balls (h : Hw) (g : MtxSt → MtxSt) : (h.updMtx g).balls = h.balls := rfl
@[simp] theorem Hw.updMtx_alm (h : Hw) (g : MtxSt → MtxSt) : (h.updMtx g).alm = h.alm := rfl
@[simp] theorem Hw.updMtx_hlt (h : Hw) (g : MtxSt → MtxSt) : (h.updMtx g).hlt = h.hlt := rfl
@[simp] theorem Hw.updMtx_spn (h : Hw) (g : MtxSt → MtxSt) : (h.updMtx g).spn = h.spn := rfl
@[simp] theorem Hw.updMtx_smu (h : Hw) (g : MtxSt → MtxSt) : (h.updMtx g).smu = h.smu := rfl
@[simp] theorem Hw.updMtx_dma (h : Hw) (g : MtxSt → MtxSt) : (h.updMtx g).dma = h.dma := rfl
@[simp] theorem Hw.updMtx_mbx (h : Hw) (g : MtxSt → MtxSt) : (h.updMtx g).mbx = h.mbx := rfl
@[simp] theorem Hw.updMtx_fifos (h : Hw) (g : MtxSt → MtxSt) : (h.updMtx g).fifos = h.fifos := rfl
@[simp] theorem Hw.updMtx_freeCtr (h : Hw) (g : MtxSt → MtxSt) : (h.updMtx g).freeCtr = h.freeCtr := rfl
@[simp] theorem Hw.updMtx_cal (h : Hw) (g : MtxSt → MtxSt) : (h.updMtx g).cal = h.cal := rfl
@[simp] theorem Hw.updMtx_flash (h : Hw) (g : MtxSt → MtxSt) : (h.updMtx g).flash = h.flash := rfl
@[simp] theorem Hw.updMtx_pwr (h : Hw) (g : MtxSt → MtxSt) : (h.updMtx g).pwr = h.pwr := rfl
@[simp] theorem Hw.updMtx_rsv (h : Hw) (g : MtxSt → MtxSt) : (h.updMtx g).rsv = h.rsv := rfl
@[simp] theorem Hw.updMtx_eqx (h : Hw) (g : MtxSt → MtxSt) : (h.updMtx g).eqx = h.eqx := rfl
@[simp] theorem Hw.updMtx_lth (h : Hw) (g : MtxSt → MtxSt) : (h.updMtx g).lth = h.lth := rfl
@[simp] theorem Hw.updMtx_axl (h : Hw) (g : MtxSt → MtxSt) : (h.updMtx g).axl = h.axl := rfl
@[simp] theorem Hw.updMtx_rad (h : Hw) (g : MtxSt → MtxSt) : (h.updMtx g).rad = h.rad := rfl
@[simp] theorem Hw.updMtx_stp (h : Hw) (g : MtxSt → MtxSt) : (h.updMtx g).stp = h.stp := rfl
@[simp] theorem Hw.updMtx_ports (h : Hw) (g : MtxSt → MtxSt) : (h.updMtx g).ports = h.ports := rfl
@[simp] theorem Hw.updMtx_gns (h : Hw) (g : MtxSt → MtxSt) : (h.updMtx g).gns = h.gns := rfl
@[simp] theorem Hw.updMtx_eth (h : Hw) (g : MtxSt → MtxSt) : (h.updMtx g).eth = h.eth := rfl
@[simp] theorem Hw.updMtx_mtx (h : Hw) (g : MtxSt → MtxSt) : (h.updMtx g).mtx = g h.mtx := rfl
@[simp] theorem Hw.updMtx_obs (h : Hw) (g : MtxSt → MtxSt) : (h.updMtx g).obs = h.obs := rfl
@[simp] theorem Hw.updMtx_fix (h : Hw) (g : MtxSt → MtxSt) : (h.updMtx g).fix = h.fix := rfl
@[simp] theorem Hw.updMtx_sp (h : Hw) (g : MtxSt → MtxSt) : (h.updMtx g).sp = h.sp := rfl
@[simp] theorem Hw.updMtx_brl (h : Hw) (g : MtxSt → MtxSt) : (h.updMtx g).brl = h.brl := rfl
@[simp] theorem Hw.updMtx_upd (h : Hw) (g : MtxSt → MtxSt) : (h.updMtx g).upd = h.upd := rfl
@[simp] theorem Hw.updMtx_mtr (h : Hw) (g : MtxSt → MtxSt) : (h.updMtx g).mtr = h.mtr := rfl
@[simp] theorem Hw.updMtx_reg (h : Hw) (g : MtxSt → MtxSt) (j : Nat) : (h.updMtx g).reg j = h.reg j := rfl
@[simp] theorem Hw.updMtx_f (h : Hw) (g : MtxSt → MtxSt) (j : Nat) (l : Fld) : (h.updMtx g).f j l = h.f j l := rfl
@[simp] theorem Hw.updMtx_flag (h : Hw) (g : MtxSt → MtxSt) (j : Nat) (l : Fld) : (h.updMtx g).flag j l = h.flag j l := rfl

/-! ### `Hw.updObs` -/

@[simp] theorem Hw.updObs_regs (h : Hw) (g : ObsSt → ObsSt) : (h.updObs g).regs = h.regs := rfl
@[simp] theorem Hw.updObs_mem (h : Hw) (g : ObsSt → ObsSt) : (h.updObs g).mem = h.mem := rfl
@[simp] theorem Hw.updObs_bus (h : Hw) (g : ObsSt → ObsSt) : (h.updObs g).bus = h.bus := rfl
@[simp] theorem Hw.updObs_cores (h : Hw) (g : ObsSt → ObsSt) : (h.updObs g).cores = h.cores := rfl
@[simp] theorem Hw.updObs_cfg (h : Hw) (g : ObsSt → ObsSt) : (h.updObs g).cfg = h.cfg := rfl
@[simp] theorem Hw.updObs_hosts (h : Hw) (g : ObsSt → ObsSt) : (h.updObs g).hosts = h.hosts := rfl
@[simp] theorem Hw.updObs_semSince (h : Hw) (g : ObsSt → ObsSt) : (h.updObs g).semSince = h.semSince := rfl
@[simp] theorem Hw.updObs_balls (h : Hw) (g : ObsSt → ObsSt) : (h.updObs g).balls = h.balls := rfl
@[simp] theorem Hw.updObs_alm (h : Hw) (g : ObsSt → ObsSt) : (h.updObs g).alm = h.alm := rfl
@[simp] theorem Hw.updObs_hlt (h : Hw) (g : ObsSt → ObsSt) : (h.updObs g).hlt = h.hlt := rfl
@[simp] theorem Hw.updObs_spn (h : Hw) (g : ObsSt → ObsSt) : (h.updObs g).spn = h.spn := rfl
@[simp] theorem Hw.updObs_smu (h : Hw) (g : ObsSt → ObsSt) : (h.updObs g).smu = h.smu := rfl
@[simp] theorem Hw.updObs_dma (h : Hw) (g : ObsSt → ObsSt) : (h.updObs g).dma = h.dma := rfl
@[simp] theorem Hw.updObs_mbx (h : Hw) (g : ObsSt → ObsSt) : (h.updObs g).mbx = h.mbx := rfl
@[simp] theorem Hw.updObs_fifos (h : Hw) (g : ObsSt → ObsSt) : (h.updObs g).fifos = h.fifos := rfl
@[simp] theorem Hw.updObs_freeCtr (h : Hw) (g : ObsSt → ObsSt) : (h.updObs g).freeCtr = h.freeCtr := rfl
@[simp] theorem Hw.updObs_cal (h : Hw) (g : ObsSt → ObsSt) : (h.updObs g).cal = h.cal := rfl
@[simp] theorem Hw.updObs_flash (h : Hw) (g : ObsSt → ObsSt) : (h.updObs g).flash = h.flash := rfl
@[simp] theorem Hw.updObs_pwr (h : Hw) (g : ObsSt → ObsSt) : (h.updObs g).pwr = h.pwr := rfl
@[simp] theorem Hw.updObs_rsv (h : Hw) (g : ObsSt → ObsSt) : (h.updObs g).rsv = h.rsv := rfl
@[simp] theorem Hw.updObs_eqx (h : Hw) (g : ObsSt → ObsSt) : (h.updObs g).eqx = h.eqx := rfl
@[simp] theorem Hw.updObs_lth (h : Hw) (g : ObsSt → ObsSt) : (h.updObs g).lth = h.lth := rfl
@[simp] theorem Hw.updObs_axl (h : Hw) (g : ObsSt → ObsSt) : (h.updObs g).axl = h.axl := rfl
@[simp] theorem Hw.updObs_rad (h : Hw) (g : ObsSt → ObsSt) : (h.updObs g).rad = h.rad := rfl
@[simp] theorem Hw.updObs_stp (h : Hw) (g : ObsSt → ObsSt) : (h.updObs g).stp = h.stp := rfl
@[simp] theorem Hw.updObs_ports (h : Hw) (g : ObsSt → ObsSt) : (h.updObs g).ports = h.ports := rfl
@[simp] theorem Hw.updObs_gns (h : Hw) (g : ObsSt → ObsSt) : (h.updObs g).gns = h.gns := rfl
@[simp] theorem Hw.updObs_eth (h : Hw) (g : ObsSt → ObsSt) : (h.updObs g).eth = h.eth := rfl
@[simp] theorem Hw.updObs_mtx (h : Hw) (g : ObsSt → ObsSt) : (h.updObs g).mtx = h.mtx := rfl
@[simp] theorem Hw.updObs_obs (h : Hw) (g : ObsSt → ObsSt) : (h.updObs g).obs = g h.obs := rfl
@[simp] theorem Hw.updObs_fix (h : Hw) (g : ObsSt → ObsSt) : (h.updObs g).fix = h.fix := rfl
@[simp] theorem Hw.updObs_sp (h : Hw) (g : ObsSt → ObsSt) : (h.updObs g).sp = h.sp := rfl
@[simp] theorem Hw.updObs_brl (h : Hw) (g : ObsSt → ObsSt) : (h.updObs g).brl = h.brl := rfl
@[simp] theorem Hw.updObs_upd (h : Hw) (g : ObsSt → ObsSt) : (h.updObs g).upd = h.upd := rfl
@[simp] theorem Hw.updObs_mtr (h : Hw) (g : ObsSt → ObsSt) : (h.updObs g).mtr = h.mtr := rfl
@[simp] theorem Hw.updObs_reg (h : Hw) (g : ObsSt → ObsSt) (j : Nat) : (h.updObs g).reg j = h.reg j := rfl
@[simp] theorem Hw.updObs_f (h : Hw) (g : ObsSt → ObsSt) (j : Nat) (l : Fld) : (h.updObs g).f j l = h.f j l := rfl
@[simp] theorem Hw.updObs_flag (h : Hw) (g : ObsSt → ObsSt) (j : Nat) (l : Fld) : (h.updObs g).flag j l = h.flag j l := rfl

/-! ### `Hw.updFix` -/

@[simp] theorem Hw.updFix_regs (h : Hw) (g : FixSt → FixSt) : (h.updFix g).regs = h.regs := rfl
@[simp] theorem Hw.updFix_mem (h : Hw) (g : FixSt → FixSt) : (h.updFix g).mem = h.mem := rfl
@[simp] theorem Hw.updFix_bus (h : Hw) (g : FixSt → FixSt) : (h.updFix g).bus = h.bus := rfl
@[simp] theorem Hw.updFix_cores (h : Hw) (g : FixSt → FixSt) : (h.updFix g).cores = h.cores := rfl
@[simp] theorem Hw.updFix_cfg (h : Hw) (g : FixSt → FixSt) : (h.updFix g).cfg = h.cfg := rfl
@[simp] theorem Hw.updFix_hosts (h : Hw) (g : FixSt → FixSt) : (h.updFix g).hosts = h.hosts := rfl
@[simp] theorem Hw.updFix_semSince (h : Hw) (g : FixSt → FixSt) : (h.updFix g).semSince = h.semSince := rfl
@[simp] theorem Hw.updFix_balls (h : Hw) (g : FixSt → FixSt) : (h.updFix g).balls = h.balls := rfl
@[simp] theorem Hw.updFix_alm (h : Hw) (g : FixSt → FixSt) : (h.updFix g).alm = h.alm := rfl
@[simp] theorem Hw.updFix_hlt (h : Hw) (g : FixSt → FixSt) : (h.updFix g).hlt = h.hlt := rfl
@[simp] theorem Hw.updFix_spn (h : Hw) (g : FixSt → FixSt) : (h.updFix g).spn = h.spn := rfl
@[simp] theorem Hw.updFix_smu (h : Hw) (g : FixSt → FixSt) : (h.updFix g).smu = h.smu := rfl
@[simp] theorem Hw.updFix_dma (h : Hw) (g : FixSt → FixSt) : (h.updFix g).dma = h.dma := rfl
@[simp] theorem Hw.updFix_mbx (h : Hw) (g : FixSt → FixSt) : (h.updFix g).mbx = h.mbx := rfl
@[simp] theorem Hw.updFix_fifos (h : Hw) (g : FixSt → FixSt) : (h.updFix g).fifos = h.fifos := rfl
@[simp] theorem Hw.updFix_freeCtr (h : Hw) (g : FixSt → FixSt) : (h.updFix g).freeCtr = h.freeCtr := rfl
@[simp] theorem Hw.updFix_cal (h : Hw) (g : FixSt → FixSt) : (h.updFix g).cal = h.cal := rfl
@[simp] theorem Hw.updFix_flash (h : Hw) (g : FixSt → FixSt) : (h.updFix g).flash = h.flash := rfl
@[simp] theorem Hw.updFix_pwr (h : Hw) (g : FixSt → FixSt) : (h.updFix g).pwr = h.pwr := rfl
@[simp] theorem Hw.updFix_rsv (h : Hw) (g : FixSt → FixSt) : (h.updFix g).rsv = h.rsv := rfl
@[simp] theorem Hw.updFix_eqx (h : Hw) (g : FixSt → FixSt) : (h.updFix g).eqx = h.eqx := rfl
@[simp] theorem Hw.updFix_lth (h : Hw) (g : FixSt → FixSt) : (h.updFix g).lth = h.lth := rfl
@[simp] theorem Hw.updFix_axl (h : Hw) (g : FixSt → FixSt) : (h.updFix g).axl = h.axl := rfl
@[simp] theorem Hw.updFix_rad (h : Hw) (g : FixSt → FixSt) : (h.updFix g).rad = h.rad := rfl
@[simp] theorem Hw.updFix_stp (h : Hw) (g : FixSt → FixSt) : (h.updFix g).stp = h.stp := rfl
@[simp] theorem Hw.updFix_ports (h : Hw) (g : FixSt → FixSt) : (h.updFix g).ports = h.ports := rfl
@[simp] theorem Hw.updFix_gns (h : Hw) (g : FixSt → FixSt) : (h.updFix g).gns = h.gns := rfl
@[simp] theorem Hw.updFix_eth (h : Hw) (g : FixSt → FixSt) : (h.updFix g).eth = h.eth := rfl
@[simp] theorem Hw.updFix_mtx (h : Hw) (g : FixSt → FixSt) : (h.updFix g).mtx = h.mtx := rfl
@[simp] theorem Hw.updFix_obs (h : Hw) (g : FixSt → FixSt) : (h.updFix g).obs = h.obs := rfl
@[simp] theorem Hw.updFix_fix (h : Hw) (g : FixSt → FixSt) : (h.updFix g).fix = g h.fix := rfl
@[simp] theorem Hw.updFix_sp (h : Hw) (g : FixSt → FixSt) : (h.updFix g).sp = h.sp := rfl
@[simp] theorem Hw.updFix_brl (h : Hw) (g : FixSt → FixSt) : (h.updFix g).brl = h.brl := rfl
@[simp] theorem Hw.updFix_upd (h : Hw) (g : FixSt → FixSt) : (h.updFix g).upd = h.upd := rfl
@[simp] theorem Hw.updFix_mtr (h : Hw) (g : FixSt → FixSt) : (h.updFix g).mtr = h.mtr := rfl
@[simp] theorem Hw.updFix_reg (h : Hw) (g : FixSt → FixSt) (j : Nat) : (h.updFix g).reg j = h.reg j := rfl
@[simp] theorem Hw.updFix_f (h : Hw) (g : FixSt → FixSt) (j : Nat) (l : Fld) : (h.updFix g).f j l = h.f j l := rfl
@[simp] theorem Hw.updFix_flag (h : Hw) (g : FixSt → FixSt) (j : Nat) (l : Fld) : (h.updFix g).flag j l = h.flag j l := rfl

/-! ### `Hw.updEqx` -/

@[simp] theorem Hw.updEqx_regs (h : Hw) (g : EqxSt → EqxSt) : (h.updEqx g).regs = h.regs := rfl
@[simp] theorem Hw.updEqx_mem (h : Hw) (g : EqxSt → EqxSt) : (h.updEqx g).mem = h.mem := rfl
@[simp] theorem Hw.updEqx_bus (h : Hw) (g : EqxSt → EqxSt) : (h.updEqx g).bus = h.bus := rfl
@[simp] theorem Hw.updEqx_cores (h : Hw) (g : EqxSt → EqxSt) : (h.updEqx g).cores = h.cores := rfl
@[simp] theorem Hw.updEqx_cfg (h : Hw) (g : EqxSt → EqxSt) : (h.updEqx g).cfg = h.cfg := rfl
@[simp] theorem Hw.updEqx_hosts (h : Hw) (g : EqxSt → EqxSt) : (h.updEqx g).hosts = h.hosts := rfl
@[simp] theorem Hw.updEqx_semSince (h : Hw) (g : EqxSt → EqxSt) : (h.updEqx g).semSince = h.semSince := rfl
@[simp] theorem Hw.updEqx_balls (h : Hw) (g : EqxSt → EqxSt) : (h.updEqx g).balls = h.balls := rfl
@[simp] theorem Hw.updEqx_alm (h : Hw) (g : EqxSt → EqxSt) : (h.updEqx g).alm = h.alm := rfl
@[simp] theorem Hw.updEqx_hlt (h : Hw) (g : EqxSt → EqxSt) : (h.updEqx g).hlt = h.hlt := rfl
@[simp] theorem Hw.updEqx_spn (h : Hw) (g : EqxSt → EqxSt) : (h.updEqx g).spn = h.spn := rfl
@[simp] theorem Hw.updEqx_smu (h : Hw) (g : EqxSt → EqxSt) : (h.updEqx g).smu = h.smu := rfl
@[simp] theorem Hw.updEqx_dma (h : Hw) (g : EqxSt → EqxSt) : (h.updEqx g).dma = h.dma := rfl
@[simp] theorem Hw.updEqx_mbx (h : Hw) (g : EqxSt → EqxSt) : (h.updEqx g).mbx = h.mbx := rfl
@[simp] theorem Hw.updEqx_fifos (h : Hw) (g : EqxSt → EqxSt) : (h.updEqx g).fifos = h.fifos := rfl
@[simp] theorem Hw.updEqx_freeCtr (h : Hw) (g : EqxSt → EqxSt) : (h.updEqx g).freeCtr = h.freeCtr := rfl
@[simp] theorem Hw.updEqx_cal (h : Hw) (g : EqxSt → EqxSt) : (h.updEqx g).cal = h.cal := rfl
@[simp] theorem Hw.updEqx_flash (h : Hw) (g : EqxSt → EqxSt) : (h.updEqx g).flash = h.flash := rfl
@[simp] theorem Hw.updEqx_pwr (h : Hw) (g : EqxSt → EqxSt) : (h.updEqx g).pwr = h.pwr := rfl
@[simp] theorem Hw.updEqx_rsv (h : Hw) (g : EqxSt → EqxSt) : (h.updEqx g).rsv = h.rsv := rfl
@[simp] theorem Hw.updEqx_eqx (h : Hw) (g : EqxSt → EqxSt) : (h.updEqx g).eqx = g h.eqx := rfl
@[simp] theorem Hw.updEqx_lth (h : Hw) (g : EqxSt → EqxSt) : (h.updEqx g).lth = h.lth := rfl
@[simp] theorem Hw.updEqx_axl (h : Hw) (g : EqxSt → EqxSt) : (h.updEqx g).axl = h.axl := rfl
@[simp] theorem Hw.updEqx_rad (h : Hw) (g : EqxSt → EqxSt) : (h.updEqx g).rad = h.rad := rfl
@[simp] theorem Hw.updEqx_stp (h : Hw) (g : EqxSt → EqxSt) : (h.updEqx g).stp = h.stp := rfl
@[simp] theorem Hw.updEqx_ports (h : Hw) (g : EqxSt → EqxSt) : (h.updEqx g).ports = h.ports := rfl
@[simp] theorem Hw.updEqx_gns (h : Hw) (g : EqxSt → EqxSt) : (h.updEqx g).gns = h.gns := rfl
@[simp] theorem Hw.updEqx_eth (h : Hw) (g : EqxSt → EqxSt) : (h.updEqx g).eth = h.eth := rfl
@[simp] theorem Hw.updEqx_mtx (h : Hw) (g : EqxSt → EqxSt) : (h.updEqx g).mtx = h.mtx := rfl
@[simp] theorem Hw.updEqx_obs (h : Hw) (g : EqxSt → EqxSt) : (h.updEqx g).obs = h.obs := rfl
@[simp] theorem Hw.updEqx_fix (h : Hw) (g : EqxSt → EqxSt) : (h.updEqx g).fix = h.fix := rfl
@[simp] theorem Hw.updEqx_sp (h : Hw) (g : EqxSt → EqxSt) : (h.updEqx g).sp = h.sp := rfl
@[simp] theorem Hw.updEqx_brl (h : Hw) (g : EqxSt → EqxSt) : (h.updEqx g).brl = h.brl := rfl
@[simp] theorem Hw.updEqx_upd (h : Hw) (g : EqxSt → EqxSt) : (h.updEqx g).upd = h.upd := rfl
@[simp] theorem Hw.updEqx_mtr (h : Hw) (g : EqxSt → EqxSt) : (h.updEqx g).mtr = h.mtr := rfl
@[simp] theorem Hw.updEqx_reg (h : Hw) (g : EqxSt → EqxSt) (j : Nat) : (h.updEqx g).reg j = h.reg j := rfl
@[simp] theorem Hw.updEqx_f (h : Hw) (g : EqxSt → EqxSt) (j : Nat) (l : Fld) : (h.updEqx g).f j l = h.f j l := rfl
@[simp] theorem Hw.updEqx_flag (h : Hw) (g : EqxSt → EqxSt) (j : Nat) (l : Fld) : (h.updEqx g).flag j l = h.flag j l := rfl

/-! ### `Hw.updPwr` -/

@[simp] theorem Hw.updPwr_regs (h : Hw) (g : PwrSt → PwrSt) : (h.updPwr g).regs = h.regs := rfl
@[simp] theorem Hw.updPwr_mem (h : Hw) (g : PwrSt → PwrSt) : (h.updPwr g).mem = h.mem := rfl
@[simp] theorem Hw.updPwr_bus (h : Hw) (g : PwrSt → PwrSt) : (h.updPwr g).bus = h.bus := rfl
@[simp] theorem Hw.updPwr_cores (h : Hw) (g : PwrSt → PwrSt) : (h.updPwr g).cores = h.cores := rfl
@[simp] theorem Hw.updPwr_cfg (h : Hw) (g : PwrSt → PwrSt) : (h.updPwr g).cfg = h.cfg := rfl
@[simp] theorem Hw.updPwr_hosts (h : Hw) (g : PwrSt → PwrSt) : (h.updPwr g).hosts = h.hosts := rfl
@[simp] theorem Hw.updPwr_semSince (h : Hw) (g : PwrSt → PwrSt) : (h.updPwr g).semSince = h.semSince := rfl
@[simp] theorem Hw.updPwr_balls (h : Hw) (g : PwrSt → PwrSt) : (h.updPwr g).balls = h.balls := rfl
@[simp] theorem Hw.updPwr_alm (h : Hw) (g : PwrSt → PwrSt) : (h.updPwr g).alm = h.alm := rfl
@[simp] theorem Hw.updPwr_hlt (h : Hw) (g : PwrSt → PwrSt) : (h.updPwr g).hlt = h.hlt := rfl
@[simp] theorem Hw.updPwr_spn (h : Hw) (g : PwrSt → PwrSt) : (h.updPwr g).spn = h.spn := rfl
@[simp] theorem Hw.updPwr_smu (h : Hw) (g : PwrSt → PwrSt) : (h.updPwr g).smu = h.smu := rfl
@[simp] theorem Hw.updPwr_dma (h : Hw) (g : PwrSt → PwrSt) : (h.updPwr g).dma = h.dma := rfl
@[simp] theorem Hw.updPwr_mbx (h : Hw) (g : PwrSt → PwrSt) : (h.updPwr g).mbx = h.mbx := rfl
@[simp] theorem Hw.updPwr_fifos (h : Hw) (g : PwrSt → PwrSt) : (h.updPwr g).fifos = h.fifos := rfl
@[simp] theorem Hw.updPwr_freeCtr (h : Hw) (g : PwrSt → PwrSt) : (h.updPwr g).freeCtr = h.freeCtr := rfl
@[simp] theorem Hw.updPwr_cal (h : Hw) (g : PwrSt → PwrSt) : (h.updPwr g).cal = h.cal := rfl
@[simp] theorem Hw.updPwr_flash (h : Hw) (g : PwrSt → PwrSt) : (h.updPwr g).flash = h.flash := rfl
@[simp] theorem Hw.updPwr_pwr (h : Hw) (g : PwrSt → PwrSt) : (h.updPwr g).pwr = g h.pwr := rfl
@[simp] theorem Hw.updPwr_rsv (h : Hw) (g : PwrSt → PwrSt) : (h.updPwr g).rsv = h.rsv := rfl
@[simp] theorem Hw.updPwr_eqx (h : Hw) (g : PwrSt → PwrSt) : (h.updPwr g).eqx = h.eqx := rfl
@[simp] theorem Hw.updPwr_lth (h : Hw) (g : PwrSt → PwrSt) : (h.updPwr g).lth = h.lth := rfl
@[simp] theorem Hw.updPwr_axl (h : Hw) (g : PwrSt → PwrSt) : (h.updPwr g).axl = h.axl := rfl
@[simp] theorem Hw.updPwr_rad (h : Hw) (g : PwrSt → PwrSt) : (h.updPwr g).rad = h.rad := rfl
@[simp] theorem Hw.updPwr_stp (h : Hw) (g : PwrSt → PwrSt) : (h.updPwr g).stp = h.stp := rfl
@[simp] theorem Hw.updPwr_ports (h : Hw) (g : PwrSt → PwrSt) : (h.updPwr g).ports = h.ports := rfl
@[simp] theorem Hw.updPwr_gns (h : Hw) (g : PwrSt → PwrSt) : (h.updPwr g).gns = h.gns := rfl
@[simp] theorem Hw.updPwr_eth (h : Hw) (g : PwrSt → PwrSt) : (h.updPwr g).eth = h.eth := rfl
@[simp] theorem Hw.updPwr_mtx (h : Hw) (g : PwrSt → PwrSt) : (h.updPwr g).mtx = h.mtx := rfl
@[simp] theorem Hw.updPwr_obs (h : Hw) (g : PwrSt → PwrSt) : (h.updPwr g).obs = h.obs := rfl
@[simp] theorem Hw.updPwr_fix (h : Hw) (g : PwrSt → PwrSt) : (h.updPwr g).fix = h.fix := rfl
@[simp] theorem Hw.updPwr_sp (h : Hw) (g : PwrSt → PwrSt) : (h.updPwr g).sp = h.sp := rfl
@[simp] theorem Hw.updPwr_brl (h : Hw) (g : PwrSt → PwrSt) : (h.updPwr g).brl = h.brl := rfl
@[simp] theorem Hw.updPwr_upd (h : Hw) (g : PwrSt → PwrSt) : (h.updPwr g).upd = h.upd := rfl
@[simp] theorem Hw.updPwr_mtr (h : Hw) (g : PwrSt → PwrSt) : (h.updPwr g).mtr = h.mtr := rfl
@[simp] theorem Hw.updPwr_reg (h : Hw) (g : PwrSt → PwrSt) (j : Nat) : (h.updPwr g).reg j = h.reg j := rfl
@[simp] theorem Hw.updPwr_f (h : Hw) (g : PwrSt → PwrSt) (j : Nat) (l : Fld) : (h.updPwr g).f j l = h.f j l := rfl
@[simp] theorem Hw.updPwr_flag (h : Hw) (g : PwrSt → PwrSt) (j : Nat) (l : Fld) : (h.updPwr g).flag j l = h.flag j l := rfl

/-! ### `Hw.updRsv` -/

@[simp] theorem Hw.updRsv_regs (h : Hw) (g : RsvSt → RsvSt) : (h.updRsv g).regs = h.regs := rfl
@[simp] theorem Hw.updRsv_mem (h : Hw) (g : RsvSt → RsvSt) : (h.updRsv g).mem = h.mem := rfl
@[simp] theorem Hw.updRsv_bus (h : Hw) (g : RsvSt → RsvSt) : (h.updRsv g).bus = h.bus := rfl
@[simp] theorem Hw.updRsv_cores (h : Hw) (g : RsvSt → RsvSt) : (h.updRsv g).cores = h.cores := rfl
@[simp] theorem Hw.updRsv_cfg (h : Hw) (g : RsvSt → RsvSt) : (h.updRsv g).cfg = h.cfg := rfl
@[simp] theorem Hw.updRsv_hosts (h : Hw) (g : RsvSt → RsvSt) : (h.updRsv g).hosts = h.hosts := rfl
@[simp] theorem Hw.updRsv_semSince (h : Hw) (g : RsvSt → RsvSt) : (h.updRsv g).semSince = h.semSince := rfl
@[simp] theorem Hw.updRsv_balls (h : Hw) (g : RsvSt → RsvSt) : (h.updRsv g).balls = h.balls := rfl
@[simp] theorem Hw.updRsv_alm (h : Hw) (g : RsvSt → RsvSt) : (h.updRsv g).alm = h.alm := rfl
@[simp] theorem Hw.updRsv_hlt (h : Hw) (g : RsvSt → RsvSt) : (h.updRsv g).hlt = h.hlt := rfl
@[simp] theorem Hw.updRsv_spn (h : Hw) (g : RsvSt → RsvSt) : (h.updRsv g).spn = h.spn := rfl
@[simp] theorem Hw.updRsv_smu (h : Hw) (g : RsvSt → RsvSt) : (h.updRsv g).smu = h.smu := rfl
@[simp] theorem Hw.updRsv_dma (h : Hw) (g : RsvSt → RsvSt) : (h.updRsv g).dma = h.dma := rfl
@[simp] theorem Hw.updRsv_mbx (h : Hw) (g : RsvSt → RsvSt) : (h.updRsv g).mbx = h.mbx := rfl
@[simp] theorem Hw.updRsv_fifos (h : Hw) (g : RsvSt → RsvSt) : (h.updRsv g).fifos = h.fifos := rfl
@[simp] theorem Hw.updRsv_freeCtr (h : Hw) (g : RsvSt → RsvSt) : (h.updRsv g).freeCtr = h.freeCtr := rfl
@[simp] theorem Hw.updRsv_cal (h : Hw) (g : RsvSt → RsvSt) : (h.updRsv g).cal = h.cal := rfl
@[simp] theorem Hw.updRsv_flash (h : Hw) (g : RsvSt → RsvSt) : (h.updRsv g).flash = h.flash := rfl
@[simp] theorem Hw.updRsv_pwr (h : Hw) (g : RsvSt → RsvSt) : (h.updRsv g).pwr = h.pwr := rfl
@[simp] theorem Hw.updRsv_rsv (h : Hw) (g : RsvSt → RsvSt) : (h.updRsv g).rsv = g h.rsv := rfl
@[simp] theorem Hw.updRsv_eqx (h : Hw) (g : RsvSt → RsvSt) : (h.updRsv g).eqx = h.eqx := rfl
@[simp] theorem Hw.updRsv_lth (h : Hw) (g : RsvSt → RsvSt) : (h.updRsv g).lth = h.lth := rfl
@[simp] theorem Hw.updRsv_axl (h : Hw) (g : RsvSt → RsvSt) : (h.updRsv g).axl = h.axl := rfl
@[simp] theorem Hw.updRsv_rad (h : Hw) (g : RsvSt → RsvSt) : (h.updRsv g).rad = h.rad := rfl
@[simp] theorem Hw.updRsv_stp (h : Hw) (g : RsvSt → RsvSt) : (h.updRsv g).stp = h.stp := rfl
@[simp] theorem Hw.updRsv_ports (h : Hw) (g : RsvSt → RsvSt) : (h.updRsv g).ports = h.ports := rfl
@[simp] theorem Hw.updRsv_gns (h : Hw) (g : RsvSt → RsvSt) : (h.updRsv g).gns = h.gns := rfl
@[simp] theorem Hw.updRsv_eth (h : Hw) (g : RsvSt → RsvSt) : (h.updRsv g).eth = h.eth := rfl
@[simp] theorem Hw.updRsv_mtx (h : Hw) (g : RsvSt → RsvSt) : (h.updRsv g).mtx = h.mtx := rfl
@[simp] theorem Hw.updRsv_obs (h : Hw) (g : RsvSt → RsvSt) : (h.updRsv g).obs = h.obs := rfl
@[simp] theorem Hw.updRsv_fix (h : Hw) (g : RsvSt → RsvSt) : (h.updRsv g).fix = h.fix := rfl
@[simp] theorem Hw.updRsv_sp (h : Hw) (g : RsvSt → RsvSt) : (h.updRsv g).sp = h.sp := rfl
@[simp] theorem Hw.updRsv_brl (h : Hw) (g : RsvSt → RsvSt) : (h.updRsv g).brl = h.brl := rfl
@[simp] theorem Hw.updRsv_upd (h : Hw) (g : RsvSt → RsvSt) : (h.updRsv g).upd = h.upd := rfl
@[simp] theorem Hw.updRsv_mtr (h : Hw) (g : RsvSt → RsvSt) : (h.updRsv g).mtr = h.mtr := rfl
@[simp] theorem Hw.updRsv_reg (h : Hw) (g : RsvSt → RsvSt) (j : Nat) : (h.updRsv g).reg j = h.reg j := rfl
@[simp] theorem Hw.updRsv_f (h : Hw) (g : RsvSt → RsvSt) (j : Nat) (l : Fld) : (h.updRsv g).f j l = h.f j l := rfl
@[simp] theorem Hw.updRsv_flag (h : Hw) (g : RsvSt → RsvSt) (j : Nat) (l : Fld) : (h.updRsv g).flag j l = h.flag j l := rfl

/-! ### `Hw.updStp` -/

@[simp] theorem Hw.updStp_regs (h : Hw) (g : StpSt → StpSt) : (h.updStp g).regs = h.regs := rfl
@[simp] theorem Hw.updStp_mem (h : Hw) (g : StpSt → StpSt) : (h.updStp g).mem = h.mem := rfl
@[simp] theorem Hw.updStp_bus (h : Hw) (g : StpSt → StpSt) : (h.updStp g).bus = h.bus := rfl
@[simp] theorem Hw.updStp_cores (h : Hw) (g : StpSt → StpSt) : (h.updStp g).cores = h.cores := rfl
@[simp] theorem Hw.updStp_cfg (h : Hw) (g : StpSt → StpSt) : (h.updStp g).cfg = h.cfg := rfl
@[simp] theorem Hw.updStp_hosts (h : Hw) (g : StpSt → StpSt) : (h.updStp g).hosts = h.hosts := rfl
@[simp] theorem Hw.updStp_semSince (h : Hw) (g : StpSt → StpSt) : (h.updStp g).semSince = h.semSince := rfl
@[simp] theorem Hw.updStp_balls (h : Hw) (g : StpSt → StpSt) : (h.updStp g).balls = h.balls := rfl
@[simp] theorem Hw.updStp_alm (h : Hw) (g : StpSt → StpSt) : (h.updStp g).alm = h.alm := rfl
@[simp] theorem Hw.updStp_hlt (h : Hw) (g : StpSt → StpSt) : (h.updStp g).hlt = h.hlt := rfl
@[simp] theorem Hw.updStp_spn (h : Hw) (g : StpSt → StpSt) : (h.updStp g).spn = h.spn := rfl
@[simp] theorem Hw.updStp_smu (h : Hw) (g : StpSt → StpSt) : (h.updStp g).smu = h.smu := rfl
@[simp] theorem Hw.updStp_dma (h : Hw) (g : StpSt → StpSt) : (h.updStp g).dma = h.dma := rfl
@[simp] theorem Hw.updStp_mbx (h : Hw) (g : StpSt → StpSt) : (h.updStp g).mbx = h.mbx := rfl
@[simp] theorem Hw.updStp_fifos (h : Hw) (g : StpSt → StpSt) : (h.updStp g).fifos = h.fifos := rfl
@[simp] theorem Hw.updStp_freeCtr (h : Hw) (g : StpSt → StpSt) : (h.updStp g).freeCtr = h.freeCtr := rfl
@[simp] theorem Hw.updStp_cal (h : Hw) (g : StpSt → StpSt) : (h.updStp g).cal = h.cal := rfl
@[simp] theorem Hw.updStp_flash (h : Hw) (g : StpSt → StpSt) : (h.updStp g).flash = h.flash := rfl
@[simp] theorem Hw.updStp_pwr (h : Hw) (g : StpSt → StpSt) : (h.updStp g).pwr = h.pwr := rfl
@[simp] theorem Hw.updStp_rsv (h : Hw) (g : StpSt → StpSt) : (h.updStp g).rsv = h.rsv := rfl
@[simp] theorem Hw.updStp_eqx (h : Hw) (g : StpSt → StpSt) : (h.updStp g).eqx = h.eqx := rfl
@[simp] theorem Hw.updStp_lth (h : Hw) (g : StpSt → StpSt) : (h.updStp g).lth = h.lth := rfl
@[simp] theorem Hw.updStp_axl (h : Hw) (g : StpSt → StpSt) : (h.updStp g).axl = h.axl := rfl
@[simp] theorem Hw.updStp_rad (h : Hw) (g : StpSt → StpSt) : (h.updStp g).rad = h.rad := rfl
@[simp] theorem Hw.updStp_stp (h : Hw) (g : StpSt → StpSt) : (h.updStp g).stp = g h.stp := rfl
@[simp] theorem Hw.updStp_ports (h : Hw) (g : StpSt → StpSt) : (h.updStp g).ports = h.ports := rfl
@[simp] theorem Hw.updStp_gns (h : Hw) (g : StpSt → StpSt) : (h.updStp g).gns = h.gns := rfl
@[simp] theorem Hw.updStp_eth (h : Hw) (g : StpSt → StpSt) : (h.updStp g).eth = h.eth := rfl
@[simp] theorem Hw.updStp_mtx (h : Hw) (g : StpSt → StpSt) : (h.updStp g).mtx = h.mtx := rfl
@[simp] theorem Hw.updStp_obs (h : Hw) (g : StpSt → StpSt) : (h.updStp g).obs = h.obs := rfl
@[simp] theorem Hw.updStp_fix (h : Hw) (g : StpSt → StpSt) : (h.updStp g).fix = h.fix := rfl
@[simp] theorem Hw.updStp_sp (h : Hw) (g : StpSt → StpSt) : (h.updStp g).sp = h.sp := rfl
@[simp] theorem Hw.updStp_brl (h : Hw) (g : StpSt → StpSt) : (h.updStp g).brl = h.brl := rfl
@[simp] theorem Hw.updStp_upd (h : Hw) (g : StpSt → StpSt) : (h.updStp g).upd = h.upd := rfl
@[simp] theorem Hw.updStp_mtr (h : Hw) (g : StpSt → StpSt) : (h.updStp g).mtr = h.mtr := rfl
@[simp] theorem Hw.updStp_reg (h : Hw) (g : StpSt → StpSt) (j : Nat) : (h.updStp g).reg j = h.reg j := rfl
@[simp] theorem Hw.updStp_f (h : Hw) (g : StpSt → StpSt) (j : Nat) (l : Fld) : (h.updStp g).f j l = h.f j l := rfl
@[simp] theorem Hw.updStp_flag (h : Hw) (g : StpSt → StpSt) (j : Nat) (l : Fld) : (h.updStp g).flag j l = h.flag j l := rfl

/-! ### `Hw.updRad` -/

@[simp] theorem Hw.updRad_regs (h : Hw) (g : RadSt → RadSt) : (h.updRad g).regs = h.regs := rfl
@[simp] theorem Hw.updRad_mem (h : Hw) (g : RadSt → RadSt) : (h.updRad g).mem = h.mem := rfl
@[simp] theorem Hw.updRad_bus (h : Hw) (g : RadSt → RadSt) : (h.updRad g).bus = h.bus := rfl
@[simp] theorem Hw.updRad_cores (h : Hw) (g : RadSt → RadSt) : (h.updRad g).cores = h.cores := rfl
@[simp] theorem Hw.updRad_cfg (h : Hw) (g : RadSt → RadSt) : (h.updRad g).cfg = h.cfg := rfl
@[simp] theorem Hw.updRad_hosts (h : Hw) (g : RadSt → RadSt) : (h.updRad g).hosts = h.hosts := rfl
@[simp] theorem Hw.updRad_semSince (h : Hw) (g : RadSt → RadSt) : (h.updRad g).semSince = h.semSince := rfl
@[simp] theorem Hw.updRad_balls (h : Hw) (g : RadSt → RadSt) : (h.updRad g).balls = h.balls := rfl
@[simp] theorem Hw.updRad_alm (h : Hw) (g : RadSt → RadSt) : (h.updRad g).alm = h.alm := rfl
@[simp] theorem Hw.updRad_hlt (h : Hw) (g : RadSt → RadSt) : (h.updRad g).hlt = h.hlt := rfl
@[simp] theorem Hw.updRad_spn (h : Hw) (g : RadSt → RadSt) : (h.updRad g).spn = h.spn := rfl
@[simp] theorem Hw.updRad_smu (h : Hw) (g : RadSt → RadSt) : (h.updRad g).smu = h.smu := rfl
@[simp] theorem Hw.updRad_dma (h : Hw) (g : RadSt → RadSt) : (h.updRad g).dma = h.dma := rfl
@[simp] theorem Hw.updRad_mbx (h : Hw) (g : RadSt → RadSt) : (h.updRad g).mbx = h.mbx := rfl
@[simp] theorem Hw.updRad_fifos (h : Hw) (g : RadSt → RadSt) : (h.updRad g).fifos = h.fifos := rfl
@[simp] theorem Hw.updRad_freeCtr (h : Hw) (g : RadSt → RadSt) : (h.updRad g).freeCtr = h.freeCtr := rfl
@[simp] theorem Hw.updRad_cal (h : Hw) (g : RadSt → RadSt) : (h.updRad g).cal = h.cal := rfl
@[simp] theorem Hw.updRad_flash (h : Hw) (g : RadSt → RadSt) : (h.updRad g).flash = h.flash := rfl
@[simp] theorem Hw.updRad_pwr (h : Hw) (g : RadSt → RadSt) : (h.updRad g).pwr = h.pwr := rfl
@[simp] theorem Hw.updRad_rsv (h : Hw) (g : RadSt → RadSt) : (h.updRad g).rsv = h.rsv := rfl
@[simp] theorem Hw.updRad_eqx (h : Hw) (g : RadSt → RadSt) : (h.updRad g).eqx = h.eqx := rfl
@[simp] theorem Hw.updRad_lth (h : Hw) (g : RadSt → RadSt) : (h.updRad g).lth = h.lth := rfl
@[simp] theorem Hw.updRad_axl (h : Hw) (g : RadSt → RadSt) : (h.updRad g).axl = h.axl := rfl
@[simp] theorem Hw.updRad_rad (h : Hw) (g : RadSt → RadSt) : (h.updRad g).rad = g h.rad := rfl
@[simp] theorem Hw.updRad_stp (h : Hw) (g : RadSt → RadSt) : (h.updRad g).stp = h.stp := rfl
@[simp] theorem Hw.updRad_ports (h : Hw) (g : RadSt → RadSt) : (h.updRad g).ports = h.ports := rfl
@[simp] theorem Hw.updRad_gns (h : Hw) (g : RadSt → RadSt) : (h.updRad g).gns = h.gns := rfl
@[simp] theorem Hw.updRad_eth (h : Hw) (g : RadSt → RadSt) : (h.updRad g).eth = h.eth := rfl
@[simp] theorem Hw.updRad_mtx (h : Hw) (g : RadSt → RadSt) : (h.updRad g).mtx = h.mtx := rfl
@[simp] theorem Hw.updRad_obs (h : Hw) (g : RadSt → RadSt) : (h.updRad g).obs = h.obs := rfl
@[simp] theorem Hw.updRad_fix (h : Hw) (g : RadSt → RadSt) : (h.updRad g).fix = h.fix := rfl
@[simp] theorem Hw.updRad_sp (h : Hw) (g : RadSt → RadSt) : (h.updRad g).sp = h.sp := rfl
@[simp] theorem Hw.updRad_brl (h : Hw) (g : RadSt → RadSt) : (h.updRad g).brl = h.brl := rfl
@[simp] theorem Hw.updRad_upd (h : Hw) (g : RadSt → RadSt) : (h.updRad g).upd = h.upd := rfl
@[simp] theorem Hw.updRad_mtr (h : Hw) (g : RadSt → RadSt) : (h.updRad g).mtr = h.mtr := rfl
@[simp] theorem Hw.updRad_reg (h : Hw) (g : RadSt → RadSt) (j : Nat) : (h.updRad g).reg j = h.reg j := rfl
@[simp] theorem Hw.updRad_f (h : Hw) (g : RadSt → RadSt) (j : Nat) (l : Fld) : (h.updRad g).f j l = h.f j l := rfl
@[simp] theorem Hw.updRad_flag (h : Hw) (g : RadSt → RadSt) (j : Nat) (l : Fld) : (h.updRad g).flag j l = h.flag j l := rfl

/-! ### `Hw.updUpd` -/

@[simp] theorem Hw.updUpd_regs (h : Hw) (g : UpdSt → UpdSt) : (h.updUpd g).regs = h.regs := rfl
@[simp] theorem Hw.updUpd_mem (h : Hw) (g : UpdSt → UpdSt) : (h.updUpd g).mem = h.mem := rfl
@[simp] theorem Hw.updUpd_bus (h : Hw) (g : UpdSt → UpdSt) : (h.updUpd g).bus = h.bus := rfl
@[simp] theorem Hw.updUpd_cores (h : Hw) (g : UpdSt → UpdSt) : (h.updUpd g).cores = h.cores := rfl
@[simp] theorem Hw.updUpd_cfg (h : Hw) (g : UpdSt → UpdSt) : (h.updUpd g).cfg = h.cfg := rfl
@[simp] theorem Hw.updUpd_hosts (h : Hw) (g : UpdSt → UpdSt) : (h.updUpd g).hosts = h.hosts := rfl
@[simp] theorem Hw.updUpd_semSince (h : Hw) (g : UpdSt → UpdSt) : (h.updUpd g).semSince = h.semSince := rfl
@[simp] theorem Hw.updUpd_balls (h : Hw) (g : UpdSt → UpdSt) : (h.updUpd g).balls = h.balls := rfl
@[simp] theorem Hw.updUpd_alm (h : Hw) (g : UpdSt → UpdSt) : (h.updUpd g).alm = h.alm := rfl
@[simp] theorem Hw.updUpd_hlt (h : Hw) (g : UpdSt → UpdSt) : (h.updUpd g).hlt = h.hlt := rfl
@[simp] theorem Hw.updUpd_spn (h : Hw) (g : UpdSt → UpdSt) : (h.updUpd g).spn = h.spn := rfl
@[simp] theorem Hw.updUpd_smu (h : Hw) (g : UpdSt → UpdSt) : (h.updUpd g).smu = h.smu := rfl
@[simp] theorem Hw.updUpd_dma (h : Hw) (g : UpdSt → UpdSt) : (h.updUpd g).dma = h.dma := rfl
@[simp] theorem Hw.updUpd_mbx (h : Hw) (g : UpdSt → UpdSt) : (h.updUpd g).mbx = h.mbx := rfl
@[simp] theorem Hw.updUpd_fifos (h : Hw) (g : UpdSt → UpdSt) : (h.updUpd g).fifos = h.fifos := rfl
@[simp] theorem Hw.updUpd_freeCtr (h : Hw) (g : UpdSt → UpdSt) : (h.updUpd g).freeCtr = h.freeCtr := rfl
@[simp] theorem Hw.updUpd_cal (h : Hw) (g : UpdSt → UpdSt) : (h.updUpd g).cal = h.cal := rfl
@[simp] theorem Hw.updUpd_flash (h : Hw) (g : UpdSt → UpdSt) : (h.updUpd g).flash = h.flash := rfl
@[simp] theorem Hw.updUpd_pwr (h : Hw) (g : UpdSt → UpdSt) : (h.updUpd g).pwr = h.pwr := rfl
@[simp] theorem Hw.updUpd_rsv (h : Hw) (g : UpdSt → UpdSt) : (h.updUpd g).rsv = h.rsv := rfl
@[simp] theorem Hw.updUpd_eqx (h : Hw) (g : UpdSt → UpdSt) : (h.updUpd g).eqx = h.eqx := rfl
@[simp] theorem Hw.updUpd_lth (h : Hw) (g : UpdSt → UpdSt) : (h.updUpd g).lth = h.lth := rfl
@[simp] theorem Hw.updUpd_axl (h : Hw) (g : UpdSt → UpdSt) : (h.updUpd g).axl = h.axl := rfl
@[simp] theorem Hw.updUpd_rad (h : Hw) (g : UpdSt → UpdSt) : (h.updUpd g).rad = h.rad := rfl
@[simp] theorem Hw.updUpd_stp (h : Hw) (g : UpdSt → UpdSt) : (h.updUpd g).stp = h.stp := rfl
@[simp] theorem Hw.updUpd_ports (h : Hw) (g : UpdSt → UpdSt) : (h.updUpd g).ports = h.ports := rfl
@[simp] theorem Hw.updUpd_gns (h : Hw) (g : UpdSt → UpdSt) : (h.updUpd g).gns = h.gns := rfl
@[simp] theorem Hw.updUpd_eth (h : Hw) (g : UpdSt → UpdSt) : (h.updUpd g).eth = h.eth := rfl
@[simp] theorem Hw.updUpd_mtx (h : Hw) (g : UpdSt → UpdSt) : (h.updUpd g).mtx = h.mtx := rfl
@[simp] theorem Hw.updUpd_obs (h : Hw) (g : UpdSt → UpdSt) : (h.updUpd g).obs = h.obs := rfl
@[simp] theorem Hw.updUpd_fix (h : Hw) (g : UpdSt → UpdSt) : (h.updUpd g).fix = h.fix := rfl
@[simp] theorem Hw.updUpd_sp (h : Hw) (g : UpdSt → UpdSt) : (h.updUpd g).sp = h.sp := rfl
@[simp] theorem Hw.updUpd_brl (h : Hw) (g : UpdSt → UpdSt) : (h.updUpd g).brl = h.brl := rfl
@[simp] theorem Hw.updUpd_upd (h : Hw) (g : UpdSt → UpdSt) : (h.updUpd g).upd = g h.upd := rfl
@[simp] theorem Hw.updUpd_mtr (h : Hw) (g : UpdSt → UpdSt) : (h.updUpd g).mtr = h.mtr := rfl
@[simp] theorem Hw.updUpd_reg (h : Hw) (g : UpdSt → UpdSt) (j : Nat) : (h.updUpd g).reg j = h.reg j := rfl
@[simp] theorem Hw.updUpd_f (h : Hw) (g : UpdSt → UpdSt) (j : Nat) (l : Fld) : (h.updUpd g).f j l = h.f j l := rfl
@[simp] theorem Hw.updUpd_flag (h : Hw) (g : UpdSt → UpdSt) (j : Nat) (l : Fld) : (h.updUpd g).flag j l = h.flag j l := rfl

/-! ### `Hw.updCfg` -/

@[simp] theorem Hw.updCfg_regs (h : Hw) (g : CfgSt → CfgSt) : (h.updCfg g).regs = h.regs := rfl
@[simp] theorem Hw.updCfg_mem (h : Hw) (g : CfgSt → CfgSt) : (h.updCfg g).mem = h.mem := rfl
@[simp] theorem Hw.updCfg_bus (h : Hw) (g : CfgSt → CfgSt) : (h.updCfg g).bus = h.bus := rfl
@[simp] theorem Hw.updCfg_cores (h : Hw) (g : CfgSt → CfgSt) : (h.updCfg g).cores = h.cores := rfl
@[simp] theorem Hw.updCfg_cfg (h : Hw) (g : CfgSt → CfgSt) : (h.updCfg g).cfg = g h.cfg := rfl
@[simp] theorem Hw.updCfg_hosts (h : Hw) (g : CfgSt → CfgSt) : (h.updCfg g).hosts = h.hosts := rfl
@[simp] theorem Hw.updCfg_semSince (h : Hw) (g : CfgSt → CfgSt) : (h.updCfg g).semSince = h.semSince := rfl
@[simp] theorem Hw.updCfg_balls (h : Hw) (g : CfgSt → CfgSt) : (h.updCfg g).balls = h.balls := rfl
@[simp] theorem Hw.updCfg_alm (h : Hw) (g : CfgSt → CfgSt) : (h.updCfg g).alm = h.alm := rfl
@[simp] theorem Hw.updCfg_hlt (h : Hw) (g : CfgSt → CfgSt) : (h.updCfg g).hlt = h.hlt := rfl
@[simp] theorem Hw.updCfg_spn (h : Hw) (g : CfgSt → CfgSt) : (h.updCfg g).spn = h.spn := rfl
@[simp] theorem Hw.updCfg_smu (h : Hw) (g : CfgSt → CfgSt) : (h.updCfg g).smu = h.smu := rfl
@[simp] theorem Hw.updCfg_dma (h : Hw) (g : CfgSt → CfgSt) : (h.updCfg g).dma = h.dma := rfl
@[simp] theorem Hw.updCfg_mbx (h : Hw) (g : CfgSt → CfgSt) : (h.updCfg g).mbx = h.mbx := rfl
@[simp] theorem Hw.updCfg_fifos (h : Hw) (g : CfgSt → CfgSt) : (h.updCfg g).fifos = h.fifos := rfl
@[simp] theorem Hw.updCfg_freeCtr (h : Hw) (g : CfgSt → CfgSt) : (h.updCfg g).freeCtr = h.freeCtr := rfl
@[simp] theorem Hw.updCfg_cal (h : Hw) (g : CfgSt → CfgSt) : (h.updCfg g).cal = h.cal := rfl
@[simp] theorem Hw.updCfg_flash (h : Hw) (g : CfgSt → CfgSt) : (h.updCfg g).flash = h.flash := rfl
@[simp] theorem Hw.updCfg_pwr (h : Hw) (g : CfgSt → CfgSt) : (h.updCfg g).pwr = h.pwr := rfl
@[simp] theorem Hw.updCfg_rsv (h : Hw) (g : CfgSt → CfgSt) : (h.updCfg g).rsv = h.rsv := rfl
@[simp] theorem Hw.updCfg_eqx (h : Hw) (g : CfgSt → CfgSt) : (h.updCfg g).eqx = h.eqx := rfl
@[simp] theorem Hw.updCfg_lth (h : Hw) (g : CfgSt → CfgSt) : (h.updCfg g).lth = h.lth := rfl
@[simp] theorem Hw.updCfg_axl (h : Hw) (g : CfgSt → CfgSt) : (h.updCfg g).axl = h.axl := rfl
@[simp] theorem Hw.updCfg_rad (h : Hw) (g : CfgSt → CfgSt) : (h.updCfg g).rad = h.rad := rfl
@[simp] theorem Hw.updCfg_stp (h : Hw) (g : CfgSt → CfgSt) : (h.updCfg g).stp = h.stp := rfl
@[simp] theorem Hw.updCfg_ports (h : Hw) (g : CfgSt → CfgSt) : (h.updCfg g).ports = h.ports := rfl
@[simp] theorem Hw.updCfg_gns (h : Hw) (g : CfgSt → CfgSt) : (h.updCfg g).gns = h.gns := rfl
@[simp] theorem Hw.updCfg_eth (h : Hw) (g : CfgSt → CfgSt) : (h.updCfg g).eth = h.eth := rfl
@[simp] theorem Hw.updCfg_mtx (h : Hw) (g : CfgSt → CfgSt) : (h.updCfg g).mtx = h.mtx := rfl
@[simp] theorem Hw.updCfg_obs (h : Hw) (g : CfgSt → CfgSt) : (h.updCfg g).obs = h.obs := rfl
@[simp] theorem Hw.updCfg_fix (h : Hw) (g : CfgSt → CfgSt) : (h.updCfg g).fix = h.fix := rfl
@[simp] theorem Hw.updCfg_sp (h : Hw) (g : CfgSt → CfgSt) : (h.updCfg g).sp = h.sp := rfl
@[simp] theorem Hw.updCfg_brl (h : Hw) (g : CfgSt → CfgSt) : (h.updCfg g).brl = h.brl := rfl
@[simp] theorem Hw.updCfg_upd (h : Hw) (g : CfgSt → CfgSt) : (h.updCfg g).upd = h.upd := rfl
@[simp] theorem Hw.updCfg_mtr (h : Hw) (g : CfgSt → CfgSt) : (h.updCfg g).mtr = h.mtr := rfl
@[simp] theorem Hw.updCfg_reg (h : Hw) (g : CfgSt → CfgSt) (j : Nat) : (h.updCfg g).reg j = h.reg j := rfl
@[simp] theorem Hw.updCfg_f (h : Hw) (g : CfgSt → CfgSt) (j : Nat) (l : Fld) : (h.updCfg g).f j l = h.f j l := rfl
@[simp] theorem Hw.updCfg_flag (h : Hw) (g : CfgSt → CfgSt) (j : Nat) (l : Fld) : (h.updCfg g).flag j l = h.flag j l := rfl

end Sys2Proof.Machine
end

