-- ==== Sys2Proof/Laws/Events.lean ====
section
/-! SUPPORT. What an event, its record and its interrupt bit change: the Almanac, five counter and status registers, and for a raised
interrupt its own IRQ_STAT register. -/

namespace Sys2Proof.Machine

open Reg

/-- The registers that recording an event can change. -/
def logRegs : List Nat := [ALM_STAT, ALM_LOST, ALM_ERR, ALM_IRQ_STAT, HLT_STAT]

/-- `h'` is `h` but for the Almanac and the registers that recording changes. -/
def Logged (h h' : Hw) : Prop :=
  h' = { h with regs := h'.regs, alm := h'.alm } ∧ ∀ k, k ∉ logRegs → h'.reg k = h.reg k

theorem Logged.refl (h : Hw) : Logged h h := ⟨rfl, fun _ _ => rfl⟩

theorem Logged.trans {a b c : Hw} (h1 : Logged a b) (h2 : Logged b c) : Logged a c := by
  refine ⟨?_, fun k hk => (h2.2 k hk).trans (h1.2 k hk)⟩
  have e1 := h1.1
  have e2 := h2.1
  rw [e1] at e2
  exact e2

theorem Logged.alm (h : Hw) (a : AlmSt) : Logged h { h with alm := a } := ⟨rfl, fun _ _ => rfl⟩

theorem Logged.setReg (h : Hw) (k : Nat) (w : Word) (hk : k ∈ logRegs) : Logged h (h.setReg k w) :=
  ⟨rfl, fun _ hj => Hw.reg_setReg_other _ _ _ _ fun e => hj (e ▸ hk)⟩

theorem Logged.setF (h : Hw) (k : Nat) (f : Fld) (v : Nat) (hk : k ∈ logRegs) : Logged h (h.setF k f v) :=
  Logged.setReg _ _ _ hk

theorem Logged.setFlag (h : Hw) (k : Nat) (f : Fld) (b : Bool) (hk : k ∈ logRegs) : Logged h (h.setFlag k f b) :=
  Logged.setReg _ _ _ hk

theorem Logged.bump (h : Hw) (k : Nat) (c s : Fld) (hk : k ∈ logRegs) : Logged h (h.bump k c s) := by
  unfold Hw.bump
  split
  · exact Logged.setFlag _ _ _ _ hk
  · exact Logged.setF _ _ _ _ hk

theorem Logged.ringPlace (h : Hw) (r : AlmRec) : Logged h (h.ringPlace r) := by
  unfold Hw.ringPlace
  split
  · exact Logged.alm _ _
  · exact (Logged.bump h _ _ _ (by decide)).trans (Logged.alm _ _)

theorem Logged.enterFull (h : Hw) : Logged h h.enterFull := by
  unfold Hw.enterFull
  refine Logged.trans ?_ (Logged.alm _ _)
  have h1 := (Logged.alm h (AlmSt.advance { (h.alm.close).cover (h.mkRec almSource 0x0003 (h.reg ALM_CAP) 0 0) with
    buffer := ((h.alm.close).cover (h.mkRec almSource 0x0003 (h.reg ALM_CAP) 0 0)).buffer ++
      [h.mkRec almSource 0x0003 (h.reg ALM_CAP) 0 0] } almSource))
  have h2 := ((h1.trans (Logged.setF _ ALM_STAT ALM_STAT.state almFull (by decide))).trans
    (Logged.setFlag _ HLT_STAT HLT_STAT.log_full true (by decide))).trans
    (Logged.setFlag _ ALM_IRQ_STAT ALM_IRQ_STAT.full true (by decide))
  split
  · exact h2.trans (Logged.bump _ _ _ _ (by decide))
  · exact h2

theorem Logged.fillCheck (h : Hw) : Logged h h.fillCheck := by
  unfold Hw.fillCheck
  simp only
  split
  · exact Logged.enterFull h
  · exact Logged.refl h

theorem Logged.reportDrops (h : Hw) (src : Nat) : Logged h (h.reportDrops src) := by
  unfold Hw.reportDrops
  simp only
  split
  · exact Logged.refl h
  · exact (Logged.alm h _).trans (Logged.fillCheck _)

/-- An event changes the Almanac and the registers that recording changes, and nothing else. -/
theorem Logged.event (h : Hw) (src code : Nat) (a b c : Word) : Logged h (h.event src code a b c) := by
  unfold Hw.event
  simp only
  split
  · exact (Logged.bump h _ _ _ (by decide)).trans (Logged.alm _ _)
  · split
    · exact ((Logged.bump h _ _ _ (by decide)).trans (Logged.ringPlace _ _)).trans (Logged.alm _ _)
    · refine (Logged.reportDrops h src).trans ?_
      split
      · exact (Logged.bump _ _ _ _ (by decide)).trans (Logged.alm _ _)
      · split
        · exact (Logged.alm _ _).trans (Logged.fillCheck _)
        · exact ((Logged.bump _ _ _ _ (by decide)).trans (Logged.setFlag _ _ _ _ (by decide))).trans (Logged.alm _ _)

/-- A configuration record that is placed changes the Almanac and the registers that recording changes. -/
theorem Logged.placeCfg (h : Hw) (r : AlmRec) : Logged h (h.placeCfg r) := by
  unfold Hw.placeCfg
  simp only
  split
  · exact (Logged.bump h _ _ _ (by decide)).trans (Logged.bump _ _ _ _ (by decide))
  · split
    · exact (Logged.bump h _ _ _ (by decide)).trans (Logged.ringPlace _ _)
    · exact (Logged.alm h _).trans (Logged.fillCheck _)

/-- A raised interrupt is its IRQ_STAT bit, and a record of it at most. -/
theorem Logged.raiseFrom (h : Hw) (src stat : Nat) (f : Fld) (i : Nat) :
    Logged (h.setFlag stat f true) (h.raiseFrom src stat f i) := by
  unfold Hw.raiseFrom
  simp only
  split
  · exact Logged.event _ _ _ _ _ _
  · exact Logged.alm _ _

/-- A raised interrupt is its IRQ_STAT bit, and a record of it at most. -/
theorem Logged.raise (h : Hw) (stat : Nat) (f : Fld) (i : Nat) : Logged (h.setFlag stat f true) (h.raise stat f i) :=
  Logged.raiseFrom h _ _ _ _

/-- A field of a register that recording does not change. -/
theorem Logged.f_eq {h h' : Hw} (l : Logged h h') (k : Nat) (g : Fld) (hk : k ∉ logRegs) : h'.f k g = h.f k g := by
  rw [Hw.f, l.2 k hk, Hw.f]

/-- An event leaves the other registers. -/
theorem Hw.event_reg (h : Hw) (src code : Nat) (a b c : Word) (k : Nat) (hk : k ∉ logRegs) :
    (h.event src code a b c).reg k = h.reg k := (Logged.event h src code a b c).2 k hk

/-- An event leaves the fields of the other registers. -/
theorem Hw.event_f (h : Hw) (src code : Nat) (a b c : Word) (k : Nat) (g : Fld) (hk : k ∉ logRegs) :
    (h.event src code a b c).f k g = h.f k g := (Logged.event h src code a b c).f_eq k g hk

/-- A raised interrupt leaves the other registers. -/
theorem Hw.raiseFrom_reg (h : Hw) (src stat : Nat) (f : Fld) (i k : Nat) (hs : k ≠ stat) (hk : k ∉ logRegs) :
    (h.raiseFrom src stat f i).reg k = h.reg k :=
  ((Logged.raiseFrom h src stat f i).2 k hk).trans (Hw.reg_setFlag_other _ _ _ _ _ hs)

/-- A raised interrupt leaves the fields of the other registers. -/
theorem Hw.raiseFrom_f (h : Hw) (src stat : Nat) (f : Fld) (i k : Nat) (g : Fld) (hs : k ≠ stat) (hk : k ∉ logRegs) :
    (h.raiseFrom src stat f i).f k g = h.f k g := by
  rw [Hw.f, Hw.raiseFrom_reg _ _ _ _ _ _ hs hk, Hw.f]

/-- A raised interrupt leaves the other registers. -/
theorem Hw.raise_reg (h : Hw) (stat : Nat) (f : Fld) (i k : Nat) (hs : k ≠ stat) (hk : k ∉ logRegs) :
    (h.raise stat f i).reg k = h.reg k := Hw.raiseFrom_reg _ _ _ _ _ _ hs hk

/-- A raised interrupt leaves the fields of the other registers. -/
theorem Hw.raise_f (h : Hw) (stat : Nat) (f : Fld) (i k : Nat) (g : Fld) (hs : k ≠ stat) (hk : k ∉ logRegs) :
    (h.raise stat f i).f k g = h.f k g := Hw.raiseFrom_f _ _ _ _ _ _ _ hs hk

/-- A raised interrupt's bit is set, where its register is not one that recording changes. -/
theorem Hw.raiseFrom_flag (h : Hw) (src stat : Nat) (f : Fld) (i : Nat) (hk : stat ∉ logRegs) (hf : f.lo + f.width ≤ 32)
    (hw : 0 < f.width) : (h.raiseFrom src stat f i).flag stat f = true := by
  rw [Hw.flag, (Logged.raiseFrom h src stat f i).f_eq _ _ hk]
  exact Hw.flag_setFlag_same _ _ _ _ hf hw

/-- A raised interrupt's bit is set, where its register is not one that recording changes. -/
theorem Hw.raise_flag (h : Hw) (stat : Nat) (f : Fld) (i : Nat) (hk : stat ∉ logRegs) (hf : f.lo + f.width ≤ 32)
    (hw : 0 < f.width) : (h.raise stat f i).flag stat f = true := Hw.raiseFrom_flag _ _ _ _ _ hk hf hw

/-- A raised interrupt leaves the fields of its register that stand apart from its bit. -/
theorem Hw.raise_f_apart (h : Hw) (stat : Nat) (f g : Fld) (i : Nat) (hk : stat ∉ logRegs) (hf : f.lo + f.width ≤ 32)
    (hg : f.lo + f.width ≤ g.lo ∨ g.lo + g.width ≤ f.lo) : (h.raise stat f i).f stat g = h.f stat g := by
  rw [Hw.raise, (Logged.raiseFrom h _ stat f i).f_eq _ _ hk]
  exact Hw.f_setFlag_apart _ _ _ _ _ hf hg

/-! ### `Hw.event` -/

@[simp] theorem Hw.event_mem (h : Hw) (src code : Nat) (a b c : Word) : (h.event src code a b c).mem = h.mem := (congrArg Hw.mem (Logged.event h src code a b c).1).trans rfl
@[simp] theorem Hw.event_bus (h : Hw) (src code : Nat) (a b c : Word) : (h.event src code a b c).bus = h.bus := (congrArg Hw.bus (Logged.event h src code a b c).1).trans rfl
@[simp] theorem Hw.event_cores (h : Hw) (src code : Nat) (a b c : Word) : (h.event src code a b c).cores = h.cores := (congrArg Hw.cores (Logged.event h src code a b c).1).trans rfl
@[simp] theorem Hw.event_cfg (h : Hw) (src code : Nat) (a b c : Word) : (h.event src code a b c).cfg = h.cfg := (congrArg Hw.cfg (Logged.event h src code a b c).1).trans rfl
@[simp] theorem Hw.event_hosts (h : Hw) (src code : Nat) (a b c : Word) : (h.event src code a b c).hosts = h.hosts := (congrArg Hw.hosts (Logged.event h src code a b c).1).trans rfl
@[simp] theorem Hw.event_semSince (h : Hw) (src code : Nat) (a b c : Word) : (h.event src code a b c).semSince = h.semSince := (congrArg Hw.semSince (Logged.event h src code a b c).1).trans rfl
@[simp] theorem Hw.event_balls (h : Hw) (src code : Nat) (a b c : Word) : (h.event src code a b c).balls = h.balls := (congrArg Hw.balls (Logged.event h src code a b c).1).trans rfl
@[simp] theorem Hw.event_hlt (h : Hw) (src code : Nat) (a b c : Word) : (h.event src code a b c).hlt = h.hlt := (congrArg Hw.hlt (Logged.event h src code a b c).1).trans rfl
@[simp] theorem Hw.event_spn (h : Hw) (src code : Nat) (a b c : Word) : (h.event src code a b c).spn = h.spn := (congrArg Hw.spn (Logged.event h src code a b c).1).trans rfl
@[simp] theorem Hw.event_smu (h : Hw) (src code : Nat) (a b c : Word) : (h.event src code a b c).smu = h.smu := (congrArg Hw.smu (Logged.event h src code a b c).1).trans rfl
@[simp] theorem Hw.event_dma (h : Hw) (src code : Nat) (a b c : Word) : (h.event src code a b c).dma = h.dma := (congrArg Hw.dma (Logged.event h src code a b c).1).trans rfl
@[simp] theorem Hw.event_mbx (h : Hw) (src code : Nat) (a b c : Word) : (h.event src code a b c).mbx = h.mbx := (congrArg Hw.mbx (Logged.event h src code a b c).1).trans rfl
@[simp] theorem Hw.event_fifos (h : Hw) (src code : Nat) (a b c : Word) : (h.event src code a b c).fifos = h.fifos := (congrArg Hw.fifos (Logged.event h src code a b c).1).trans rfl
@[simp] theorem Hw.event_freeCtr (h : Hw) (src code : Nat) (a b c : Word) : (h.event src code a b c).freeCtr = h.freeCtr := (congrArg Hw.freeCtr (Logged.event h src code a b c).1).trans rfl
@[simp] theorem Hw.event_cal (h : Hw) (src code : Nat) (a b c : Word) : (h.event src code a b c).cal = h.cal := (congrArg Hw.cal (Logged.event h src code a b c).1).trans rfl
@[simp] theorem Hw.event_flash (h : Hw) (src code : Nat) (a b c : Word) : (h.event src code a b c).flash = h.flash := (congrArg Hw.flash (Logged.event h src code a b c).1).trans rfl
@[simp] theorem Hw.event_pwr (h : Hw) (src code : Nat) (a b c : Word) : (h.event src code a b c).pwr = h.pwr := (congrArg Hw.pwr (Logged.event h src code a b c).1).trans rfl
@[simp] theorem Hw.event_rsv (h : Hw) (src code : Nat) (a b c : Word) : (h.event src code a b c).rsv = h.rsv := (congrArg Hw.rsv (Logged.event h src code a b c).1).trans rfl
@[simp] theorem Hw.event_eqx (h : Hw) (src code : Nat) (a b c : Word) : (h.event src code a b c).eqx = h.eqx := (congrArg Hw.eqx (Logged.event h src code a b c).1).trans rfl
@[simp] theorem Hw.event_lth (h : Hw) (src code : Nat) (a b c : Word) : (h.event src code a b c).lth = h.lth := (congrArg Hw.lth (Logged.event h src code a b c).1).trans rfl
@[simp] theorem Hw.event_axl (h : Hw) (src code : Nat) (a b c : Word) : (h.event src code a b c).axl = h.axl := (congrArg Hw.axl (Logged.event h src code a b c).1).trans rfl
@[simp] theorem Hw.event_rad (h : Hw) (src code : Nat) (a b c : Word) : (h.event src code a b c).rad = h.rad := (congrArg Hw.rad (Logged.event h src code a b c).1).trans rfl
@[simp] theorem Hw.event_stp (h : Hw) (src code : Nat) (a b c : Word) : (h.event src code a b c).stp = h.stp := (congrArg Hw.stp (Logged.event h src code a b c).1).trans rfl
@[simp] theorem Hw.event_ports (h : Hw) (src code : Nat) (a b c : Word) : (h.event src code a b c).ports = h.ports := (congrArg Hw.ports (Logged.event h src code a b c).1).trans rfl
@[simp] theorem Hw.event_gns (h : Hw) (src code : Nat) (a b c : Word) : (h.event src code a b c).gns = h.gns := (congrArg Hw.gns (Logged.event h src code a b c).1).trans rfl
@[simp] theorem Hw.event_eth (h : Hw) (src code : Nat) (a b c : Word) : (h.event src code a b c).eth = h.eth := (congrArg Hw.eth (Logged.event h src code a b c).1).trans rfl
@[simp] theorem Hw.event_mtx (h : Hw) (src code : Nat) (a b c : Word) : (h.event src code a b c).mtx = h.mtx := (congrArg Hw.mtx (Logged.event h src code a b c).1).trans rfl
@[simp] theorem Hw.event_obs (h : Hw) (src code : Nat) (a b c : Word) : (h.event src code a b c).obs = h.obs := (congrArg Hw.obs (Logged.event h src code a b c).1).trans rfl
@[simp] theorem Hw.event_fix (h : Hw) (src code : Nat) (a b c : Word) : (h.event src code a b c).fix = h.fix := (congrArg Hw.fix (Logged.event h src code a b c).1).trans rfl
@[simp] theorem Hw.event_sp (h : Hw) (src code : Nat) (a b c : Word) : (h.event src code a b c).sp = h.sp := (congrArg Hw.sp (Logged.event h src code a b c).1).trans rfl
@[simp] theorem Hw.event_brl (h : Hw) (src code : Nat) (a b c : Word) : (h.event src code a b c).brl = h.brl := (congrArg Hw.brl (Logged.event h src code a b c).1).trans rfl
@[simp] theorem Hw.event_upd (h : Hw) (src code : Nat) (a b c : Word) : (h.event src code a b c).upd = h.upd := (congrArg Hw.upd (Logged.event h src code a b c).1).trans rfl
@[simp] theorem Hw.event_mtr (h : Hw) (src code : Nat) (a b c : Word) : (h.event src code a b c).mtr = h.mtr := (congrArg Hw.mtr (Logged.event h src code a b c).1).trans rfl

/-! ### `Hw.raiseFrom` -/

@[simp] theorem Hw.raiseFrom_mem (h : Hw) (src stat : Nat) (f : Fld) (i : Nat) : (h.raiseFrom src stat f i).mem = h.mem := (congrArg Hw.mem (Logged.raiseFrom h src stat f i).1).trans rfl
@[simp] theorem Hw.raiseFrom_bus (h : Hw) (src stat : Nat) (f : Fld) (i : Nat) : (h.raiseFrom src stat f i).bus = h.bus := (congrArg Hw.bus (Logged.raiseFrom h src stat f i).1).trans rfl
@[simp] theorem Hw.raiseFrom_cores (h : Hw) (src stat : Nat) (f : Fld) (i : Nat) : (h.raiseFrom src stat f i).cores = h.cores := (congrArg Hw.cores (Logged.raiseFrom h src stat f i).1).trans rfl
@[simp] theorem Hw.raiseFrom_cfg (h : Hw) (src stat : Nat) (f : Fld) (i : Nat) : (h.raiseFrom src stat f i).cfg = h.cfg := (congrArg Hw.cfg (Logged.raiseFrom h src stat f i).1).trans rfl
@[simp] theorem Hw.raiseFrom_hosts (h : Hw) (src stat : Nat) (f : Fld) (i : Nat) : (h.raiseFrom src stat f i).hosts = h.hosts := (congrArg Hw.hosts (Logged.raiseFrom h src stat f i).1).trans rfl
@[simp] theorem Hw.raiseFrom_semSince (h : Hw) (src stat : Nat) (f : Fld) (i : Nat) : (h.raiseFrom src stat f i).semSince = h.semSince := (congrArg Hw.semSince (Logged.raiseFrom h src stat f i).1).trans rfl
@[simp] theorem Hw.raiseFrom_balls (h : Hw) (src stat : Nat) (f : Fld) (i : Nat) : (h.raiseFrom src stat f i).balls = h.balls := (congrArg Hw.balls (Logged.raiseFrom h src stat f i).1).trans rfl
@[simp] theorem Hw.raiseFrom_hlt (h : Hw) (src stat : Nat) (f : Fld) (i : Nat) : (h.raiseFrom src stat f i).hlt = h.hlt := (congrArg Hw.hlt (Logged.raiseFrom h src stat f i).1).trans rfl
@[simp] theorem Hw.raiseFrom_spn (h : Hw) (src stat : Nat) (f : Fld) (i : Nat) : (h.raiseFrom src stat f i).spn = h.spn := (congrArg Hw.spn (Logged.raiseFrom h src stat f i).1).trans rfl
@[simp] theorem Hw.raiseFrom_smu (h : Hw) (src stat : Nat) (f : Fld) (i : Nat) : (h.raiseFrom src stat f i).smu = h.smu := (congrArg Hw.smu (Logged.raiseFrom h src stat f i).1).trans rfl
@[simp] theorem Hw.raiseFrom_dma (h : Hw) (src stat : Nat) (f : Fld) (i : Nat) : (h.raiseFrom src stat f i).dma = h.dma := (congrArg Hw.dma (Logged.raiseFrom h src stat f i).1).trans rfl
@[simp] theorem Hw.raiseFrom_mbx (h : Hw) (src stat : Nat) (f : Fld) (i : Nat) : (h.raiseFrom src stat f i).mbx = h.mbx := (congrArg Hw.mbx (Logged.raiseFrom h src stat f i).1).trans rfl
@[simp] theorem Hw.raiseFrom_fifos (h : Hw) (src stat : Nat) (f : Fld) (i : Nat) : (h.raiseFrom src stat f i).fifos = h.fifos := (congrArg Hw.fifos (Logged.raiseFrom h src stat f i).1).trans rfl
@[simp] theorem Hw.raiseFrom_freeCtr (h : Hw) (src stat : Nat) (f : Fld) (i : Nat) : (h.raiseFrom src stat f i).freeCtr = h.freeCtr := (congrArg Hw.freeCtr (Logged.raiseFrom h src stat f i).1).trans rfl
@[simp] theorem Hw.raiseFrom_cal (h : Hw) (src stat : Nat) (f : Fld) (i : Nat) : (h.raiseFrom src stat f i).cal = h.cal := (congrArg Hw.cal (Logged.raiseFrom h src stat f i).1).trans rfl
@[simp] theorem Hw.raiseFrom_flash (h : Hw) (src stat : Nat) (f : Fld) (i : Nat) : (h.raiseFrom src stat f i).flash = h.flash := (congrArg Hw.flash (Logged.raiseFrom h src stat f i).1).trans rfl
@[simp] theorem Hw.raiseFrom_pwr (h : Hw) (src stat : Nat) (f : Fld) (i : Nat) : (h.raiseFrom src stat f i).pwr = h.pwr := (congrArg Hw.pwr (Logged.raiseFrom h src stat f i).1).trans rfl
@[simp] theorem Hw.raiseFrom_rsv (h : Hw) (src stat : Nat) (f : Fld) (i : Nat) : (h.raiseFrom src stat f i).rsv = h.rsv := (congrArg Hw.rsv (Logged.raiseFrom h src stat f i).1).trans rfl
@[simp] theorem Hw.raiseFrom_eqx (h : Hw) (src stat : Nat) (f : Fld) (i : Nat) : (h.raiseFrom src stat f i).eqx = h.eqx := (congrArg Hw.eqx (Logged.raiseFrom h src stat f i).1).trans rfl
@[simp] theorem Hw.raiseFrom_lth (h : Hw) (src stat : Nat) (f : Fld) (i : Nat) : (h.raiseFrom src stat f i).lth = h.lth := (congrArg Hw.lth (Logged.raiseFrom h src stat f i).1).trans rfl
@[simp] theorem Hw.raiseFrom_axl (h : Hw) (src stat : Nat) (f : Fld) (i : Nat) : (h.raiseFrom src stat f i).axl = h.axl := (congrArg Hw.axl (Logged.raiseFrom h src stat f i).1).trans rfl
@[simp] theorem Hw.raiseFrom_rad (h : Hw) (src stat : Nat) (f : Fld) (i : Nat) : (h.raiseFrom src stat f i).rad = h.rad := (congrArg Hw.rad (Logged.raiseFrom h src stat f i).1).trans rfl
@[simp] theorem Hw.raiseFrom_stp (h : Hw) (src stat : Nat) (f : Fld) (i : Nat) : (h.raiseFrom src stat f i).stp = h.stp := (congrArg Hw.stp (Logged.raiseFrom h src stat f i).1).trans rfl
@[simp] theorem Hw.raiseFrom_ports (h : Hw) (src stat : Nat) (f : Fld) (i : Nat) : (h.raiseFrom src stat f i).ports = h.ports := (congrArg Hw.ports (Logged.raiseFrom h src stat f i).1).trans rfl
@[simp] theorem Hw.raiseFrom_gns (h : Hw) (src stat : Nat) (f : Fld) (i : Nat) : (h.raiseFrom src stat f i).gns = h.gns := (congrArg Hw.gns (Logged.raiseFrom h src stat f i).1).trans rfl
@[simp] theorem Hw.raiseFrom_eth (h : Hw) (src stat : Nat) (f : Fld) (i : Nat) : (h.raiseFrom src stat f i).eth = h.eth := (congrArg Hw.eth (Logged.raiseFrom h src stat f i).1).trans rfl
@[simp] theorem Hw.raiseFrom_mtx (h : Hw) (src stat : Nat) (f : Fld) (i : Nat) : (h.raiseFrom src stat f i).mtx = h.mtx := (congrArg Hw.mtx (Logged.raiseFrom h src stat f i).1).trans rfl
@[simp] theorem Hw.raiseFrom_obs (h : Hw) (src stat : Nat) (f : Fld) (i : Nat) : (h.raiseFrom src stat f i).obs = h.obs := (congrArg Hw.obs (Logged.raiseFrom h src stat f i).1).trans rfl
@[simp] theorem Hw.raiseFrom_fix (h : Hw) (src stat : Nat) (f : Fld) (i : Nat) : (h.raiseFrom src stat f i).fix = h.fix := (congrArg Hw.fix (Logged.raiseFrom h src stat f i).1).trans rfl
@[simp] theorem Hw.raiseFrom_sp (h : Hw) (src stat : Nat) (f : Fld) (i : Nat) : (h.raiseFrom src stat f i).sp = h.sp := (congrArg Hw.sp (Logged.raiseFrom h src stat f i).1).trans rfl
@[simp] theorem Hw.raiseFrom_brl (h : Hw) (src stat : Nat) (f : Fld) (i : Nat) : (h.raiseFrom src stat f i).brl = h.brl := (congrArg Hw.brl (Logged.raiseFrom h src stat f i).1).trans rfl
@[simp] theorem Hw.raiseFrom_upd (h : Hw) (src stat : Nat) (f : Fld) (i : Nat) : (h.raiseFrom src stat f i).upd = h.upd := (congrArg Hw.upd (Logged.raiseFrom h src stat f i).1).trans rfl
@[simp] theorem Hw.raiseFrom_mtr (h : Hw) (src stat : Nat) (f : Fld) (i : Nat) : (h.raiseFrom src stat f i).mtr = h.mtr := (congrArg Hw.mtr (Logged.raiseFrom h src stat f i).1).trans rfl

/-! ### `Hw.raise` -/

@[simp] theorem Hw.raise_mem (h : Hw) (stat : Nat) (f : Fld) (i : Nat) : (h.raise stat f i).mem = h.mem := (congrArg Hw.mem (Logged.raise h stat f i).1).trans rfl
@[simp] theorem Hw.raise_bus (h : Hw) (stat : Nat) (f : Fld) (i : Nat) : (h.raise stat f i).bus = h.bus := (congrArg Hw.bus (Logged.raise h stat f i).1).trans rfl
@[simp] theorem Hw.raise_cores (h : Hw) (stat : Nat) (f : Fld) (i : Nat) : (h.raise stat f i).cores = h.cores := (congrArg Hw.cores (Logged.raise h stat f i).1).trans rfl
@[simp] theorem Hw.raise_cfg (h : Hw) (stat : Nat) (f : Fld) (i : Nat) : (h.raise stat f i).cfg = h.cfg := (congrArg Hw.cfg (Logged.raise h stat f i).1).trans rfl
@[simp] theorem Hw.raise_hosts (h : Hw) (stat : Nat) (f : Fld) (i : Nat) : (h.raise stat f i).hosts = h.hosts := (congrArg Hw.hosts (Logged.raise h stat f i).1).trans rfl
@[simp] theorem Hw.raise_semSince (h : Hw) (stat : Nat) (f : Fld) (i : Nat) : (h.raise stat f i).semSince = h.semSince := (congrArg Hw.semSince (Logged.raise h stat f i).1).trans rfl
@[simp] theorem Hw.raise_balls (h : Hw) (stat : Nat) (f : Fld) (i : Nat) : (h.raise stat f i).balls = h.balls := (congrArg Hw.balls (Logged.raise h stat f i).1).trans rfl
@[simp] theorem Hw.raise_hlt (h : Hw) (stat : Nat) (f : Fld) (i : Nat) : (h.raise stat f i).hlt = h.hlt := (congrArg Hw.hlt (Logged.raise h stat f i).1).trans rfl
@[simp] theorem Hw.raise_spn (h : Hw) (stat : Nat) (f : Fld) (i : Nat) : (h.raise stat f i).spn = h.spn := (congrArg Hw.spn (Logged.raise h stat f i).1).trans rfl
@[simp] theorem Hw.raise_smu (h : Hw) (stat : Nat) (f : Fld) (i : Nat) : (h.raise stat f i).smu = h.smu := (congrArg Hw.smu (Logged.raise h stat f i).1).trans rfl
@[simp] theorem Hw.raise_dma (h : Hw) (stat : Nat) (f : Fld) (i : Nat) : (h.raise stat f i).dma = h.dma := (congrArg Hw.dma (Logged.raise h stat f i).1).trans rfl
@[simp] theorem Hw.raise_mbx (h : Hw) (stat : Nat) (f : Fld) (i : Nat) : (h.raise stat f i).mbx = h.mbx := (congrArg Hw.mbx (Logged.raise h stat f i).1).trans rfl
@[simp] theorem Hw.raise_fifos (h : Hw) (stat : Nat) (f : Fld) (i : Nat) : (h.raise stat f i).fifos = h.fifos := (congrArg Hw.fifos (Logged.raise h stat f i).1).trans rfl
@[simp] theorem Hw.raise_freeCtr (h : Hw) (stat : Nat) (f : Fld) (i : Nat) : (h.raise stat f i).freeCtr = h.freeCtr := (congrArg Hw.freeCtr (Logged.raise h stat f i).1).trans rfl
@[simp] theorem Hw.raise_cal (h : Hw) (stat : Nat) (f : Fld) (i : Nat) : (h.raise stat f i).cal = h.cal := (congrArg Hw.cal (Logged.raise h stat f i).1).trans rfl
@[simp] theorem Hw.raise_flash (h : Hw) (stat : Nat) (f : Fld) (i : Nat) : (h.raise stat f i).flash = h.flash := (congrArg Hw.flash (Logged.raise h stat f i).1).trans rfl
@[simp] theorem Hw.raise_pwr (h : Hw) (stat : Nat) (f : Fld) (i : Nat) : (h.raise stat f i).pwr = h.pwr := (congrArg Hw.pwr (Logged.raise h stat f i).1).trans rfl
@[simp] theorem Hw.raise_rsv (h : Hw) (stat : Nat) (f : Fld) (i : Nat) : (h.raise stat f i).rsv = h.rsv := (congrArg Hw.rsv (Logged.raise h stat f i).1).trans rfl
@[simp] theorem Hw.raise_eqx (h : Hw) (stat : Nat) (f : Fld) (i : Nat) : (h.raise stat f i).eqx = h.eqx := (congrArg Hw.eqx (Logged.raise h stat f i).1).trans rfl
@[simp] theorem Hw.raise_lth (h : Hw) (stat : Nat) (f : Fld) (i : Nat) : (h.raise stat f i).lth = h.lth := (congrArg Hw.lth (Logged.raise h stat f i).1).trans rfl
@[simp] theorem Hw.raise_axl (h : Hw) (stat : Nat) (f : Fld) (i : Nat) : (h.raise stat f i).axl = h.axl := (congrArg Hw.axl (Logged.raise h stat f i).1).trans rfl
@[simp] theorem Hw.raise_rad (h : Hw) (stat : Nat) (f : Fld) (i : Nat) : (h.raise stat f i).rad = h.rad := (congrArg Hw.rad (Logged.raise h stat f i).1).trans rfl
@[simp] theorem Hw.raise_stp (h : Hw) (stat : Nat) (f : Fld) (i : Nat) : (h.raise stat f i).stp = h.stp := (congrArg Hw.stp (Logged.raise h stat f i).1).trans rfl
@[simp] theorem Hw.raise_ports (h : Hw) (stat : Nat) (f : Fld) (i : Nat) : (h.raise stat f i).ports = h.ports := (congrArg Hw.ports (Logged.raise h stat f i).1).trans rfl
@[simp] theorem Hw.raise_gns (h : Hw) (stat : Nat) (f : Fld) (i : Nat) : (h.raise stat f i).gns = h.gns := (congrArg Hw.gns (Logged.raise h stat f i).1).trans rfl
@[simp] theorem Hw.raise_eth (h : Hw) (stat : Nat) (f : Fld) (i : Nat) : (h.raise stat f i).eth = h.eth := (congrArg Hw.eth (Logged.raise h stat f i).1).trans rfl
@[simp] theorem Hw.raise_mtx (h : Hw) (stat : Nat) (f : Fld) (i : Nat) : (h.raise stat f i).mtx = h.mtx := (congrArg Hw.mtx (Logged.raise h stat f i).1).trans rfl
@[simp] theorem Hw.raise_obs (h : Hw) (stat : Nat) (f : Fld) (i : Nat) : (h.raise stat f i).obs = h.obs := (congrArg Hw.obs (Logged.raise h stat f i).1).trans rfl
@[simp] theorem Hw.raise_fix (h : Hw) (stat : Nat) (f : Fld) (i : Nat) : (h.raise stat f i).fix = h.fix := (congrArg Hw.fix (Logged.raise h stat f i).1).trans rfl
@[simp] theorem Hw.raise_sp (h : Hw) (stat : Nat) (f : Fld) (i : Nat) : (h.raise stat f i).sp = h.sp := (congrArg Hw.sp (Logged.raise h stat f i).1).trans rfl
@[simp] theorem Hw.raise_brl (h : Hw) (stat : Nat) (f : Fld) (i : Nat) : (h.raise stat f i).brl = h.brl := (congrArg Hw.brl (Logged.raise h stat f i).1).trans rfl
@[simp] theorem Hw.raise_upd (h : Hw) (stat : Nat) (f : Fld) (i : Nat) : (h.raise stat f i).upd = h.upd := (congrArg Hw.upd (Logged.raise h stat f i).1).trans rfl
@[simp] theorem Hw.raise_mtr (h : Hw) (stat : Nat) (f : Fld) (i : Nat) : (h.raise stat f i).mtr = h.mtr := (congrArg Hw.mtr (Logged.raise h stat f i).1).trans rfl

/-! ### `Hw.bump` -/

@[simp] theorem Hw.bump_mem (h : Hw) (k : Nat) (c s : Fld) : (h.bump k c s).mem = h.mem := by
  unfold Hw.bump; split <;> rfl
@[simp] theorem Hw.bump_bus (h : Hw) (k : Nat) (c s : Fld) : (h.bump k c s).bus = h.bus := by
  unfold Hw.bump; split <;> rfl
@[simp] theorem Hw.bump_cores (h : Hw) (k : Nat) (c s : Fld) : (h.bump k c s).cores = h.cores := by
  unfold Hw.bump; split <;> rfl
@[simp] theorem Hw.bump_cfg (h : Hw) (k : Nat) (c s : Fld) : (h.bump k c s).cfg = h.cfg := by
  unfold Hw.bump; split <;> rfl
@[simp] theorem Hw.bump_hosts (h : Hw) (k : Nat) (c s : Fld) : (h.bump k c s).hosts = h.hosts := by
  unfold Hw.bump; split <;> rfl
@[simp] theorem Hw.bump_semSince (h : Hw) (k : Nat) (c s : Fld) : (h.bump k c s).semSince = h.semSince := by
  unfold Hw.bump; split <;> rfl
@[simp] theorem Hw.bump_balls (h : Hw) (k : Nat) (c s : Fld) : (h.bump k c s).balls = h.balls := by
  unfold Hw.bump; split <;> rfl
@[simp] theorem Hw.bump_alm (h : Hw) (k : Nat) (c s : Fld) : (h.bump k c s).alm = h.alm := by
  unfold Hw.bump; split <;> rfl
@[simp] theorem Hw.bump_hlt (h : Hw) (k : Nat) (c s : Fld) : (h.bump k c s).hlt = h.hlt := by
  unfold Hw.bump; split <;> rfl
@[simp] theorem Hw.bump_spn (h : Hw) (k : Nat) (c s : Fld) : (h.bump k c s).spn = h.spn := by
  unfold Hw.bump; split <;> rfl
@[simp] theorem Hw.bump_smu (h : Hw) (k : Nat) (c s : Fld) : (h.bump k c s).smu = h.smu := by
  unfold Hw.bump; split <;> rfl
@[simp] theorem Hw.bump_dma (h : Hw) (k : Nat) (c s : Fld) : (h.bump k c s).dma = h.dma := by
  unfold Hw.bump; split <;> rfl
@[simp] theorem Hw.bump_mbx (h : Hw) (k : Nat) (c s : Fld) : (h.bump k c s).mbx = h.mbx := by
  unfold Hw.bump; split <;> rfl
@[simp] theorem Hw.bump_fifos (h : Hw) (k : Nat) (c s : Fld) : (h.bump k c s).fifos = h.fifos := by
  unfold Hw.bump; split <;> rfl
@[simp] theorem Hw.bump_freeCtr (h : Hw) (k : Nat) (c s : Fld) : (h.bump k c s).freeCtr = h.freeCtr := by
  unfold Hw.bump; split <;> rfl
@[simp] theorem Hw.bump_cal (h : Hw) (k : Nat) (c s : Fld) : (h.bump k c s).cal = h.cal := by
  unfold Hw.bump; split <;> rfl
@[simp] theorem Hw.bump_flash (h : Hw) (k : Nat) (c s : Fld) : (h.bump k c s).flash = h.flash := by
  unfold Hw.bump; split <;> rfl
@[simp] theorem Hw.bump_pwr (h : Hw) (k : Nat) (c s : Fld) : (h.bump k c s).pwr = h.pwr := by
  unfold Hw.bump; split <;> rfl
@[simp] theorem Hw.bump_rsv (h : Hw) (k : Nat) (c s : Fld) : (h.bump k c s).rsv = h.rsv := by
  unfold Hw.bump; split <;> rfl
@[simp] theorem Hw.bump_eqx (h : Hw) (k : Nat) (c s : Fld) : (h.bump k c s).eqx = h.eqx := by
  unfold Hw.bump; split <;> rfl
@[simp] theorem Hw.bump_lth (h : Hw) (k : Nat) (c s : Fld) : (h.bump k c s).lth = h.lth := by
  unfold Hw.bump; split <;> rfl
@[simp] theorem Hw.bump_axl (h : Hw) (k : Nat) (c s : Fld) : (h.bump k c s).axl = h.axl := by
  unfold Hw.bump; split <;> rfl
@[simp] theorem Hw.bump_rad (h : Hw) (k : Nat) (c s : Fld) : (h.bump k c s).rad = h.rad := by
  unfold Hw.bump; split <;> rfl
@[simp] theorem Hw.bump_stp (h : Hw) (k : Nat) (c s : Fld) : (h.bump k c s).stp = h.stp := by
  unfold Hw.bump; split <;> rfl
@[simp] theorem Hw.bump_ports (h : Hw) (k : Nat) (c s : Fld) : (h.bump k c s).ports = h.ports := by
  unfold Hw.bump; split <;> rfl
@[simp] theorem Hw.bump_gns (h : Hw) (k : Nat) (c s : Fld) : (h.bump k c s).gns = h.gns := by
  unfold Hw.bump; split <;> rfl
@[simp] theorem Hw.bump_eth (h : Hw) (k : Nat) (c s : Fld) : (h.bump k c s).eth = h.eth := by
  unfold Hw.bump; split <;> rfl
@[simp] theorem Hw.bump_mtx (h : Hw) (k : Nat) (c s : Fld) : (h.bump k c s).mtx = h.mtx := by
  unfold Hw.bump; split <;> rfl
@[simp] theorem Hw.bump_obs (h : Hw) (k : Nat) (c s : Fld) : (h.bump k c s).obs = h.obs := by
  unfold Hw.bump; split <;> rfl
@[simp] theorem Hw.bump_fix (h : Hw) (k : Nat) (c s : Fld) : (h.bump k c s).fix = h.fix := by
  unfold Hw.bump; split <;> rfl
@[simp] theorem Hw.bump_sp (h : Hw) (k : Nat) (c s : Fld) : (h.bump k c s).sp = h.sp := by
  unfold Hw.bump; split <;> rfl
@[simp] theorem Hw.bump_brl (h : Hw) (k : Nat) (c s : Fld) : (h.bump k c s).brl = h.brl := by
  unfold Hw.bump; split <;> rfl
@[simp] theorem Hw.bump_upd (h : Hw) (k : Nat) (c s : Fld) : (h.bump k c s).upd = h.upd := by
  unfold Hw.bump; split <;> rfl
@[simp] theorem Hw.bump_mtr (h : Hw) (k : Nat) (c s : Fld) : (h.bump k c s).mtr = h.mtr := by
  unfold Hw.bump; split <;> rfl

/-! ### `Hw.placeCfg` -/

@[simp] theorem Hw.placeCfg_mem (h : Hw) (r : AlmRec) : (h.placeCfg r).mem = h.mem := (congrArg Hw.mem (Logged.placeCfg h r).1).trans rfl
@[simp] theorem Hw.placeCfg_bus (h : Hw) (r : AlmRec) : (h.placeCfg r).bus = h.bus := (congrArg Hw.bus (Logged.placeCfg h r).1).trans rfl
@[simp] theorem Hw.placeCfg_cores (h : Hw) (r : AlmRec) : (h.placeCfg r).cores = h.cores := (congrArg Hw.cores (Logged.placeCfg h r).1).trans rfl
@[simp] theorem Hw.placeCfg_cfg (h : Hw) (r : AlmRec) : (h.placeCfg r).cfg = h.cfg := (congrArg Hw.cfg (Logged.placeCfg h r).1).trans rfl
@[simp] theorem Hw.placeCfg_hosts (h : Hw) (r : AlmRec) : (h.placeCfg r).hosts = h.hosts := (congrArg Hw.hosts (Logged.placeCfg h r).1).trans rfl
@[simp] theorem Hw.placeCfg_semSince (h : Hw) (r : AlmRec) : (h.placeCfg r).semSince = h.semSince := (congrArg Hw.semSince (Logged.placeCfg h r).1).trans rfl
@[simp] theorem Hw.placeCfg_balls (h : Hw) (r : AlmRec) : (h.placeCfg r).balls = h.balls := (congrArg Hw.balls (Logged.placeCfg h r).1).trans rfl
@[simp] theorem Hw.placeCfg_hlt (h : Hw) (r : AlmRec) : (h.placeCfg r).hlt = h.hlt := (congrArg Hw.hlt (Logged.placeCfg h r).1).trans rfl
@[simp] theorem Hw.placeCfg_spn (h : Hw) (r : AlmRec) : (h.placeCfg r).spn = h.spn := (congrArg Hw.spn (Logged.placeCfg h r).1).trans rfl
@[simp] theorem Hw.placeCfg_smu (h : Hw) (r : AlmRec) : (h.placeCfg r).smu = h.smu := (congrArg Hw.smu (Logged.placeCfg h r).1).trans rfl
@[simp] theorem Hw.placeCfg_dma (h : Hw) (r : AlmRec) : (h.placeCfg r).dma = h.dma := (congrArg Hw.dma (Logged.placeCfg h r).1).trans rfl
@[simp] theorem Hw.placeCfg_mbx (h : Hw) (r : AlmRec) : (h.placeCfg r).mbx = h.mbx := (congrArg Hw.mbx (Logged.placeCfg h r).1).trans rfl
@[simp] theorem Hw.placeCfg_fifos (h : Hw) (r : AlmRec) : (h.placeCfg r).fifos = h.fifos := (congrArg Hw.fifos (Logged.placeCfg h r).1).trans rfl
@[simp] theorem Hw.placeCfg_freeCtr (h : Hw) (r : AlmRec) : (h.placeCfg r).freeCtr = h.freeCtr := (congrArg Hw.freeCtr (Logged.placeCfg h r).1).trans rfl
@[simp] theorem Hw.placeCfg_cal (h : Hw) (r : AlmRec) : (h.placeCfg r).cal = h.cal := (congrArg Hw.cal (Logged.placeCfg h r).1).trans rfl
@[simp] theorem Hw.placeCfg_flash (h : Hw) (r : AlmRec) : (h.placeCfg r).flash = h.flash := (congrArg Hw.flash (Logged.placeCfg h r).1).trans rfl
@[simp] theorem Hw.placeCfg_pwr (h : Hw) (r : AlmRec) : (h.placeCfg r).pwr = h.pwr := (congrArg Hw.pwr (Logged.placeCfg h r).1).trans rfl
@[simp] theorem Hw.placeCfg_rsv (h : Hw) (r : AlmRec) : (h.placeCfg r).rsv = h.rsv := (congrArg Hw.rsv (Logged.placeCfg h r).1).trans rfl
@[simp] theorem Hw.placeCfg_eqx (h : Hw) (r : AlmRec) : (h.placeCfg r).eqx = h.eqx := (congrArg Hw.eqx (Logged.placeCfg h r).1).trans rfl
@[simp] theorem Hw.placeCfg_lth (h : Hw) (r : AlmRec) : (h.placeCfg r).lth = h.lth := (congrArg Hw.lth (Logged.placeCfg h r).1).trans rfl
@[simp] theorem Hw.placeCfg_axl (h : Hw) (r : AlmRec) : (h.placeCfg r).axl = h.axl := (congrArg Hw.axl (Logged.placeCfg h r).1).trans rfl
@[simp] theorem Hw.placeCfg_rad (h : Hw) (r : AlmRec) : (h.placeCfg r).rad = h.rad := (congrArg Hw.rad (Logged.placeCfg h r).1).trans rfl
@[simp] theorem Hw.placeCfg_stp (h : Hw) (r : AlmRec) : (h.placeCfg r).stp = h.stp := (congrArg Hw.stp (Logged.placeCfg h r).1).trans rfl
@[simp] theorem Hw.placeCfg_ports (h : Hw) (r : AlmRec) : (h.placeCfg r).ports = h.ports := (congrArg Hw.ports (Logged.placeCfg h r).1).trans rfl
@[simp] theorem Hw.placeCfg_gns (h : Hw) (r : AlmRec) : (h.placeCfg r).gns = h.gns := (congrArg Hw.gns (Logged.placeCfg h r).1).trans rfl
@[simp] theorem Hw.placeCfg_eth (h : Hw) (r : AlmRec) : (h.placeCfg r).eth = h.eth := (congrArg Hw.eth (Logged.placeCfg h r).1).trans rfl
@[simp] theorem Hw.placeCfg_mtx (h : Hw) (r : AlmRec) : (h.placeCfg r).mtx = h.mtx := (congrArg Hw.mtx (Logged.placeCfg h r).1).trans rfl
@[simp] theorem Hw.placeCfg_obs (h : Hw) (r : AlmRec) : (h.placeCfg r).obs = h.obs := (congrArg Hw.obs (Logged.placeCfg h r).1).trans rfl
@[simp] theorem Hw.placeCfg_fix (h : Hw) (r : AlmRec) : (h.placeCfg r).fix = h.fix := (congrArg Hw.fix (Logged.placeCfg h r).1).trans rfl
@[simp] theorem Hw.placeCfg_sp (h : Hw) (r : AlmRec) : (h.placeCfg r).sp = h.sp := (congrArg Hw.sp (Logged.placeCfg h r).1).trans rfl
@[simp] theorem Hw.placeCfg_brl (h : Hw) (r : AlmRec) : (h.placeCfg r).brl = h.brl := (congrArg Hw.brl (Logged.placeCfg h r).1).trans rfl
@[simp] theorem Hw.placeCfg_upd (h : Hw) (r : AlmRec) : (h.placeCfg r).upd = h.upd := (congrArg Hw.upd (Logged.placeCfg h r).1).trans rfl
@[simp] theorem Hw.placeCfg_mtr (h : Hw) (r : AlmRec) : (h.placeCfg r).mtr = h.mtr := (congrArg Hw.mtr (Logged.placeCfg h r).1).trans rfl

end Sys2Proof.Machine
end

