-- ==== Sys2Proof/Laws/Bus.lean ====
section
/-! SUPPORT. What a permitted register write does before its own effect: it stores into the register and, for a 64-bit quantity, the low word
before it, marks presets modified and adds a configuration record; everything else stays. -/

namespace Sys2Proof.Machine

open Reg Sys2Proof.Safety

/-- The registers that a write of `k` can change before its own effect: it, the low word that goes with it, and the preset selections. -/
def writtenRegs (k : Nat) : List Nat := k :: ((lowWordOf k).toList ++ (List.range 21).map CFG_PRESET_SEL)

/-- `h'` is `h` with a write of `k` stored, and what it starts still to come. -/
structure Committed (h h' : Hw) (k : Nat) : Prop where
  parts : h' = { h with regs := h'.regs, bus := h'.bus, alm := h'.alm }
  alm : h'.alm = { h.alm with seqs := h'.alm.seqs }
  regs : ∀ j, j ∉ writtenRegs k → h'.reg j = h.reg j
  resp : h'.bus.resp = .done
  out : h'.bus.out = h.bus.out

theorem Hw.markModified_spec (h : Hw) (k : Nat) :
    (∃ r, h.markModified k = { h with regs := r }) ∧
      ∀ j, j ∉ (List.range 21).map CFG_PRESET_SEL → (h.markModified k).reg j = h.reg j := by
  unfold Hw.markModified
  split
  · exact ⟨⟨h.regs, rfl⟩, fun _ _ => rfl⟩
  · have key : ∀ (l : List Nat) (g : Hw),
        (∃ r, l.foldl (fun h f => if h.covered f k then h.setFlag (CFG_PRESET_SEL f) CFG_PRESET_SEL.modified true else h) g =
          { g with regs := r }) ∧
        ∀ j, j ∉ l.map CFG_PRESET_SEL →
          (l.foldl (fun h f => if h.covered f k then h.setFlag (CFG_PRESET_SEL f) CFG_PRESET_SEL.modified true else h) g).reg j =
            g.reg j := by
      intro l
      induction l with
      | nil => exact fun g => ⟨⟨g.regs, rfl⟩, fun _ _ => rfl⟩
      | cons f l ih =>
        intro g
        simp only [List.foldl_cons]
        by_cases hc : g.covered f k
        · simp only [hc, if_true]
          obtain ⟨⟨r, e⟩, h2⟩ := ih (g.setFlag (CFG_PRESET_SEL f) CFG_PRESET_SEL.modified true)
          refine ⟨⟨r, e⟩, fun j hj => ?_⟩
          simp only [List.map_cons, List.mem_cons, not_or] at hj
          rw [h2 j hj.2, Hw.reg_setFlag_other _ _ _ _ _ hj.1]
        · simp only [hc, Bool.false_eq_true, if_false]
          obtain ⟨h1, h2⟩ := ih g
          refine ⟨h1, fun j hj => h2 j ?_⟩
          simp only [List.map_cons, List.mem_cons, not_or] at hj
          exact hj.2
    exact key (List.range 21) h

/-- The word that a write of `k` leaves where no low word goes with it. -/
def Hw.writtenWord (h : Hw) (k : Nat) (r : RegDef) (v : Word) : Word :=
  clearWraps k v (wordWrite (h.locked k) (h.reg k) v (writeFields k r))

/-- The effect of a write runs on a device in which only the write is stored. -/
theorem Hw.commitWrite_spec (h : Hw) (a : BusAcc) (k : Nat) (r : RegDef) (v : Word) (eff : Word → Hw → Hw)
    (hl : r.lowWord = false) : ∃ low h', Committed h h' k ∧ ((lowWordOf k).isSome = true → low = heldLow h a.master.num k) ∧
      (lowWordOf k = none → k ∉ (List.range 21).map CFG_PRESET_SEL → h'.reg k = h.writtenWord k r v) ∧
      h.commitWrite a k r v eff = eff low h' := by
  unfold Hw.commitWrite
  rw [if_neg (by simp [hl])]
  have step1 : ∀ (g : Hw), (∃ rg sh, g = { h with regs := rg, bus := { h.bus with writeShadow := sh } }) →
      (∀ j, j ∉ k :: (lowWordOf k).toList → g.reg j = h.reg j) → ∀ (low : Word) (rej : Bool),
      ∃ h', Committed h h' k ∧ (k ∉ (List.range 21).map CFG_PRESET_SEL → h'.reg k = g.writtenWord k r v) ∧
        eff low ((((if a.unpriv then (g.storeReg k r v).1 else
          (g.storeReg k r v).1.stage a.master.num k v ((g.storeReg k r v).2 || rej) false false).markModified k).answer .done)) =
          eff low h' := by
    intro g hg hr low rej
    refine ⟨_, ?_, ?_, rfl⟩
    rotate_left
    · intro hk
      rw [Hw.answer_reg, (Hw.markModified_spec _ k).2 k hk]
      split <;> exact Hw.reg_setReg_same _ _ _
    have hs : ∀ j, j ≠ k → ((g.storeReg k r v).1).reg j = g.reg j := fun j hj => Hw.reg_setReg_other _ _ _ _ hj
    obtain ⟨rg, sh, rfl⟩ := hg
    generalize hq : (if a.unpriv then (Hw.storeReg { h with regs := rg, bus := { h.bus with writeShadow := sh } } k r v).1 else
      (Hw.storeReg { h with regs := rg, bus := { h.bus with writeShadow := sh } } k r v).1.stage a.master.num k v
        ((Hw.storeReg { h with regs := rg, bus := { h.bus with writeShadow := sh } } k r v).2 || rej) false false) = q
    have hqr : ∀ j, q.reg j = ((Hw.storeReg { h with regs := rg, bus := { h.bus with writeShadow := sh } } k r v).1).reg j := by
      intro j; rw [← hq]; split <;> rfl
    have hqp : q = { h with regs := q.regs, bus := q.bus, alm := q.alm } := by
      rw [← hq]; split <;> rfl
    have hqo : q.bus.out = h.bus.out := by
      rw [← hq]; split <;> rfl
    have hqa : q.alm = { h.alm with seqs := q.alm.seqs } := by
      rw [← hq]; split <;> rfl
    obtain ⟨⟨m, em⟩, hm⟩ := Hw.markModified_spec q k
    refine ⟨?_, ?_, ?_, rfl, ?_⟩
    · rw [em]; rw [hqp]; rfl
    · rw [em]; exact hqa
    · intro j hj
      simp only [writtenRegs, List.mem_cons, List.mem_append, not_or] at hj
      rw [Hw.answer_reg, hm j hj.2.2, hqr j, hs j hj.1]
      exact hr j (by rw [List.mem_cons, not_or]; exact ⟨hj.1, hj.2.1⟩)
    · rw [em]; exact hqo
  cases hlo : lowWordOf k with
  | none =>
    obtain ⟨h', hc, hw, he⟩ := step1 h ⟨h.regs, h.bus.writeShadow, rfl⟩ (fun _ _ => rfl) 0 false
    refine ⟨0, h', hc, ?_, fun _ => hw, he⟩
    intro e
    cases e
  | some kl =>
    have hkl : kl = k - 4 := by
      unfold lowWordOf at hlo
      split at hlo
      · split at hlo
        · exact (Option.some.inj hlo).symm
        · cases hlo
      · cases hlo
    simp only
    cases hf : regFind kl with
    | none =>
      obtain ⟨h', hc, _, he⟩ := step1 (h.takeLow a.master.num kl).2 ⟨h.regs, _, rfl⟩ (fun _ _ => rfl)
        (((h.takeLow a.master.num kl).1).getD ((h.takeLow a.master.num kl).2.reg kl)) false
      refine ⟨_, h', hc, fun _ => by rw [hkl]; rfl, ?_, he⟩
      intro e
      cases e
    | some rl =>
      obtain ⟨h', hc, _, he⟩ := step1
        (((h.takeLow a.master.num kl).2.storeReg kl rl (((h.takeLow a.master.num kl).1).getD ((h.takeLow a.master.num kl).2.reg kl))).1)
        ⟨_, _, rfl⟩ (fun j hj => by
          rw [List.mem_cons, not_or, hlo] at hj
          exact Hw.reg_setReg_other _ _ _ _ (by simpa using hj.2)) _ _
      refine ⟨_, h', hc, fun _ => by rw [hkl]; rfl, ?_, he⟩
      intro e
      cases e

/-- A permitted write of a register that is no low word stores it, then starts its effect. -/
theorem Hw.regWrite_permitted (h : Hw) (a : BusAcc) (k : Nat) (v : Word) (eff : Word → Hw → Hw) (hp : Permitted h a k)
    (hl : ∀ r, regFind k = some r → r.lowWord = false) :
    ∃ low h', Committed h h' k ∧ ((lowWordOf k).isSome = true → low = heldLow h a.master.num k) ∧
      (lowWordOf k = none → k ∉ (List.range 21).map CFG_PRESET_SEL → ∀ r, regFind k = some r → h'.reg k = h.writtenWord k r v) ∧
      h.regWrite a k v eff = eff low h' := by
  obtain ⟨h1, h2, h3⟩ := hp
  unfold Hw.regWrite
  rw [if_neg (by simp [h1])]
  obtain ⟨r, hr⟩ := Option.isSome_iff_exists.mp h2
  rw [hr]
  have hfull : ¬ ((!a.unpriv && h.stagingFull) = true) := by
    rcases h3 with h3 | h3 <;> simp [h3]
  simp only [if_neg hfull]
  have hf : regFind k = some r := by
    unfold BusAcc.sees at hr
    cases hf : regFind k with
    | none => rw [hf] at hr; cases hr
    | some q =>
      rw [hf] at hr
      simp only at hr
      split at hr
      · cases hr
      · exact hr
  obtain ⟨low, h', hc, hlo, hw, he⟩ := Hw.commitWrite_spec h a k r v eff (hl r hf)
  refine ⟨low, h', hc, hlo, fun e1 e2 q hq => ?_, he⟩
  rw [hf] at hq
  cases hq
  exact hw e1 e2

/-- A field of a register that a committed write does not reach. -/
theorem Committed.f_eq {h h' : Hw} {k : Nat} (c : Committed h h' k) (j : Nat) (g : Fld) (hj : j ∉ writtenRegs k) :
    h'.f j g = h.f j g := by
  rw [Hw.f, c.regs j hj, Hw.f]

/-- A permitted read runs its operation and answers its word. -/
theorem Hw.regReadWith_readable (h : Hw) (a : BusAcc) (k : Nat) (op : Hw → Hw × Word) (hp : Readable h a k) :
    h.regReadWith a k op = (op h).1.answer (.data [(op h).2]) := by
  obtain ⟨h1, h2, h3⟩ := hp
  obtain ⟨r, hr⟩ := Option.isSome_iff_exists.mp h3
  unfold Hw.regReadWith
  rw [if_neg (by simp [h1]), if_neg (by simp [h2]), hr]

/-- A permitted read of a register answers the shadow that the master holds, else the live word (R11). -/
theorem Hw.regRead_readable (h : Hw) (a : BusAcc) (k : Nat) (view : Hw → Nat → Word) (eff : Hw → Hw) (hp : Readable h a k)
    (hl : ∀ r, regFind k = some r → r.lowWord = false) :
    h.regRead a k view eff = eff (h.answer (.data [(h.readShadow a.master.num k).getD (view h k)])) := by
  obtain ⟨h1, h2, h3⟩ := hp
  obtain ⟨r, hr⟩ := Option.isSome_iff_exists.mp h3
  have hf : regFind k = some r := by
    unfold BusAcc.sees at hr
    cases hf : regFind k with
    | none => rw [hf] at hr; cases hr
    | some q =>
      rw [hf] at hr
      simp only at hr
      split at hr
      · cases hr
      · exact hr
  unfold Hw.regRead
  rw [if_neg (by simp [h1]), if_neg (by simp [h2]), hr]
  simp [hl r hf]

end Sys2Proof.Machine
end

