-- ==== Sys2Proof/Laws/Delivery.lean ====
section
/-! SUPPORT. What delivering a line, a token or a notice changes: the cores' and Spindle's records, what is sent out, the clusters' gates, two
status registers, and the notice register itself. -/

namespace Sys2Proof.Machine

open Reg

/-- The registers that delivery can change. -/
def deliveryRegs : List Nat := [SYS_CLUSTER 0, SYS_CLUSTER 1, HLT_STAT, SPN_ERR]

/-- `h'` is `h` after deliveries. -/
structure Delivered (h h' : Hw) : Prop where
  parts : h' = { h with regs := h'.regs, bus := h'.bus, cores := h'.cores, cfg := h'.cfg, spn := h'.spn }
  bus : h'.bus = { h.bus with out := h'.bus.out }
  cfg : h'.cfg = { h.cfg with unroutable := h'.cfg.unroutable }
  regs : ∀ k, k ∉ deliveryRegs → h'.reg k = h.reg k

theorem Delivered.refl (h : Hw) : Delivered h h := ⟨rfl, rfl, rfl, fun _ _ => rfl⟩

theorem Delivered.trans {a b c : Hw} (h1 : Delivered a b) (h2 : Delivered b c) : Delivered a c := by
  obtain ⟨p1, b1, c1, r1⟩ := h1
  obtain ⟨p2, b2, c2, r2⟩ := h2
  refine ⟨?_, ?_, ?_, fun k hk => (r2 k hk).trans (r1 k hk)⟩
  · rw [p1] at p2; exact p2
  · rw [b1] at b2; exact b2
  · rw [c1] at c2; exact c2

theorem Delivered.spn (h : Hw) (x : SpnSt) : Delivered h { h with spn := x } := ⟨rfl, rfl, rfl, fun _ _ => rfl⟩

theorem Delivered.cores (h : Hw) (x : Map CoreSt) : Delivered h { h with cores := x } := ⟨rfl, rfl, rfl, fun _ _ => rfl⟩

theorem Delivered.emit (h : Hw) (o : Out) : Delivered h (h.emit o) := ⟨rfl, rfl, rfl, fun _ _ => rfl⟩

theorem Delivered.setF (h : Hw) (k : Nat) (f : Fld) (v : Nat) (hk : k ∈ deliveryRegs) : Delivered h (h.setF k f v) :=
  ⟨rfl, rfl, rfl, fun _ hj => Hw.reg_setF_other _ _ _ _ _ fun e => hj (e ▸ hk)⟩

theorem Delivered.bump (h : Hw) (k : Nat) (c s : Fld) (hk : k ∈ deliveryRegs) : Delivered h (h.bump k c s) := by
  unfold Hw.bump
  split <;> exact Delivered.setF _ _ _ _ hk

/-- A fold of deliveries is a delivery. -/
theorem Delivered.foldl {β : Type} (f : Hw → β → Hw) (hf : ∀ h b, Delivered h (f h b)) :
    ∀ (l : List β) (h : Hw), Delivered h (l.foldl f h)
  | [], h => Delivered.refl h
  | b :: l, h => (hf h b).trans (Delivered.foldl f hf l (f h b))

theorem Delivered.ungate (h : Hw) (n : Nat) : Delivered h (h.ungate n) := by
  unfold Hw.ungate
  split
  · rename_i hn
    refine Delivered.setF _ _ _ _ ?_
    have : n / 4 = 0 ∨ n / 4 = 1 := by omega
    rcases this with e | e <;> rw [e] <;> decide
  · exact Delivered.refl h

theorem Delivered.toCore (h : Hw) (n line level : Nat) : Delivered h (h.toCore n line level) := by
  unfold Hw.toCore
  refine (Delivered.ungate h n).trans ?_
  dsimp only
  split
  · exact (Delivered.cores _ _).trans (Delivered.emit _ _)
  · exact Delivered.cores _ _

theorem Delivered.hostVectors (h : Hw) (line : Nat) : Delivered h (h.hostVectors line) := by
  unfold Hw.hostVectors
  refine Delivered.foldl _ (fun h p => ?_) _ h
  dsimp only
  split
  · split
    · exact Delivered.foldl _ (fun h v => Delivered.emit h _) _ h
    · exact Delivered.refl h
  · split
    · exact Delivered.emit _ _
    · exact Delivered.refl h

/-- Delivering a device line. -/
theorem Delivered.deviceLine (h : Hw) (line : Nat) : Delivered h (h.deviceLine line) := by
  unfold Hw.deviceLine
  refine (Delivered.hostVectors h line).trans ?_
  simp only
  split
  · exact Delivered.refl _
  · generalize hq : (if (h.hostVectors line).flag (CFG_IRQ_ROUTE line) CFG_IRQ_ROUTE.sp then
      (h.hostVectors line).toCore 8 line ((h.hostVectors line).f (CFG_IRQ_ROUTE line) CFG_IRQ_ROUTE.level)
      else h.hostVectors line) = q
    have hd : Delivered (h.hostVectors line) q := by
      rw [← hq]; split
      · exact Delivered.toCore _ _ _ _
      · exact Delivered.refl _
    refine hd.trans ?_
    split
    · exact Delivered.toCore _ _ _ _
    · split
      · exact Delivered.toCore _ _ _ _
      · split
        · exact Delivered.refl _
        · have h1 : Delivered q { q with cfg := { q.cfg with unroutable :=
              q.cfg.unroutable ++ (if memb line q.cfg.unroutable then [] else [line]) } } := ⟨rfl, rfl, rfl, fun _ _ => rfl⟩
          exact h1.trans (Delivered.setF _ _ _ _ (by decide))

theorem Delivered.offer (h : Hw) (n slot : Nat) : Delivered h (h.offer n slot) := by
  unfold Hw.offer
  simp only
  refine Delivered.trans ?_ (Delivered.emit _ _)
  refine Delivered.trans ?_ (Delivered.ungate _ _)
  split
  · exact ((((Delivered.spn h _).trans (Delivered.spn _ _)).trans (Delivered.spn _ _)).trans (Delivered.spn _ _)).trans (Delivered.spn _ _)
  · exact ((Delivered.spn h _).trans (Delivered.spn _ _)).trans (Delivered.spn _ _)

theorem Delivered.placeReady (h : Hw) (slot : Nat) : Delivered h (h.placeReady slot) := by
  unfold Hw.placeReady
  simp only
  split
  · exact Delivered.offer _ _ _
  · split
    · exact Delivered.spn _ _
    · split
      · exact Delivered.offer _ _ _
      · exact Delivered.spn _ _

theorem Delivered.becomeReady (h : Hw) (slot : Nat) : Delivered h (h.becomeReady slot) :=
  ((Delivered.spn h _).trans (Delivered.spn _ _)).trans (Delivered.placeReady _ _)

theorem Delivered.coreFree (h : Hw) (n : Nat) : Delivered h (h.coreFree n) := by
  unfold Hw.coreFree
  simp only
  split
  · exact Delivered.offer _ _ _
  · split
    · exact Delivered.offer _ _ _
    · exact Delivered.refl h

theorem Delivered.coreReturns (h : Hw) (n : Nat) : Delivered h (h.coreReturns n) := by
  unfold Hw.coreReturns
  exact (Delivered.cores h _).trans (Delivered.foldl _ (fun h l => Delivered.toCore h _ _ _) _ _)

/-- A token for a handle. -/
theorem Delivered.token (h : Hw) (handle : Nat) (err : Bool) : Delivered h (h.token handle err) := by
  unfold Hw.token
  split
  · exact Delivered.bump _ _ _ _ (by decide)
  · split
    · exact Delivered.bump _ _ _ _ (by decide)
    · simp only
      split
      · exact (Delivered.spn h _).trans (Delivered.becomeReady _ _)
      · exact Delivered.spn h _

/-- A notice: deliveries, and the notice register. -/
theorem Hw.notice_spec (h : Hw) (k : Nat) : ∃ g, Delivered h g ∧ ∃ f v, h.notice k = g.setF k f v := by
  unfold Hw.notice
  simp only
  split
  · exact ⟨_, Delivered.token h _ _, _, _, rfl⟩
  · exact ⟨h, Delivered.refl h, _, _, rfl⟩

/-- A notice leaves registers other than its own and those of delivery. -/
theorem Hw.notice_reg (h : Hw) (k j : Nat) (hj : j ≠ k) (hd : j ∉ deliveryRegs) : (h.notice k).reg j = h.reg j := by
  obtain ⟨g, dg, f, v, e⟩ := Hw.notice_spec h k
  rw [e, Hw.reg_setF_other _ _ _ _ _ hj, dg.regs j hd]

/-- A notice leaves the fields of registers other than its own and those of delivery. -/
theorem Hw.notice_f (h : Hw) (k j : Nat) (l : Fld) (hj : j ≠ k) (hd : j ∉ deliveryRegs) : (h.notice k).f j l = h.f j l := by
  rw [Hw.f, Hw.notice_reg _ _ _ hj hd, Hw.f]

/-- A field of a register that delivery leaves. -/
theorem Delivered.f_eq {h h' : Hw} (d : Delivered h h') (k : Nat) (g : Fld) (hk : k ∉ deliveryRegs) : h'.f k g = h.f k g := by
  rw [Hw.f, d.regs k hk, Hw.f]

/-- Delivering a line leaves the other registers. -/
theorem Hw.deviceLine_reg (h : Hw) (line k : Nat) (hk : k ∉ deliveryRegs) : (h.deviceLine line).reg k = h.reg k :=
  (Delivered.deviceLine h line).regs k hk

/-- Delivering a line leaves the fields of the other registers. -/
theorem Hw.deviceLine_f (h : Hw) (line k : Nat) (g : Fld) (hk : k ∉ deliveryRegs) : (h.deviceLine line).f k g = h.f k g :=
  (Delivered.deviceLine h line).f_eq k g hk

/-- A token leaves the other registers. -/
theorem Hw.token_reg (h : Hw) (handle : Nat) (err : Bool) (k : Nat) (hk : k ∉ deliveryRegs) :
    (h.token handle err).reg k = h.reg k := (Delivered.token h handle err).regs k hk

/-- A token leaves the fields of the other registers. -/
theorem Hw.token_f (h : Hw) (handle : Nat) (err : Bool) (k : Nat) (g : Fld) (hk : k ∉ deliveryRegs) :
    (h.token handle err).f k g = h.f k g := (Delivered.token h handle err).f_eq k g hk

/-! ### `Hw.deviceLine` -/

@[simp] theorem Hw.deviceLine_mem (h : Hw) (line : Nat) : (h.deviceLine line).mem = h.mem := (congrArg Hw.mem (Delivered.deviceLine h line).parts).trans rfl
@[simp] theorem Hw.deviceLine_hosts (h : Hw) (line : Nat) : (h.deviceLine line).hosts = h.hosts := (congrArg Hw.hosts (Delivered.deviceLine h line).parts).trans rfl
@[simp] theorem Hw.deviceLine_semSince (h : Hw) (line : Nat) : (h.deviceLine line).semSince = h.semSince := (congrArg Hw.semSince (Delivered.deviceLine h line).parts).trans rfl
@[simp] theorem Hw.deviceLine_balls (h : Hw) (line : Nat) : (h.deviceLine line).balls = h.balls := (congrArg Hw.balls (Delivered.deviceLine h line).parts).trans rfl
@[simp] theorem Hw.deviceLine_alm (h : Hw) (line : Nat) : (h.deviceLine line).alm = h.alm := (congrArg Hw.alm (Delivered.deviceLine h line).parts).trans rfl
@[simp] theorem Hw.deviceLine_hlt (h : Hw) (line : Nat) : (h.deviceLine line).hlt = h.hlt := (congrArg Hw.hlt (Delivered.deviceLine h line).parts).trans rfl
@[simp] theorem Hw.deviceLine_smu (h : Hw) (line : Nat) : (h.deviceLine line).smu = h.smu := (congrArg Hw.smu (Delivered.deviceLine h line).parts).trans rfl
@[simp] theorem Hw.deviceLine_dma (h : Hw) (line : Nat) : (h.deviceLine line).dma = h.dma := (congrArg Hw.dma (Delivered.deviceLine h line).parts).trans rfl
@[simp] theorem Hw.deviceLine_mbx (h : Hw) (line : Nat) : (h.deviceLine line).mbx = h.mbx := (congrArg Hw.mbx (Delivered.deviceLine h line).parts).trans rfl
@[simp] theorem Hw.deviceLine_fifos (h : Hw) (line : Nat) : (h.deviceLine line).fifos = h.fifos := (congrArg Hw.fifos (Delivered.deviceLine h line).parts).trans rfl
@[simp] theorem Hw.deviceLine_freeCtr (h : Hw) (line : Nat) : (h.deviceLine line).freeCtr = h.freeCtr := (congrArg Hw.freeCtr (Delivered.deviceLine h line).parts).trans rfl
@[simp] theorem Hw.deviceLine_cal (h : Hw) (line : Nat) : (h.deviceLine line).cal = h.cal := (congrArg Hw.cal (Delivered.deviceLine h line).parts).trans rfl
@[simp] theorem Hw.deviceLine_flash (h : Hw) (line : Nat) : (h.deviceLine line).flash = h.flash := (congrArg Hw.flash (Delivered.deviceLine h line).parts).trans rfl
@[simp] theorem Hw.deviceLine_pwr (h : Hw) (line : Nat) : (h.deviceLine line).pwr = h.pwr := (congrArg Hw.pwr (Delivered.deviceLine h line).parts).trans rfl
@[simp] theorem Hw.deviceLine_rsv (h : Hw) (line : Nat) : (h.deviceLine line).rsv = h.rsv := (congrArg Hw.rsv (Delivered.deviceLine h line).parts).trans rfl
@[simp] theorem Hw.deviceLine_eqx (h : Hw) (line : Nat) : (h.deviceLine line).eqx = h.eqx := (congrArg Hw.eqx (Delivered.deviceLine h line).parts).trans rfl
@[simp] theorem Hw.deviceLine_lth (h : Hw) (line : Nat) : (h.deviceLine line).lth = h.lth := (congrArg Hw.lth (Delivered.deviceLine h line).parts).trans rfl
@[simp] theorem Hw.deviceLine_axl (h : Hw) (line : Nat) : (h.deviceLine line).axl = h.axl := (congrArg Hw.axl (Delivered.deviceLine h line).parts).trans rfl
@[simp] theorem Hw.deviceLine_rad (h : Hw) (line : Nat) : (h.deviceLine line).rad = h.rad := (congrArg Hw.rad (Delivered.deviceLine h line).parts).trans rfl
@[simp] theorem Hw.deviceLine_stp (h : Hw) (line : Nat) : (h.deviceLine line).stp = h.stp := (congrArg Hw.stp (Delivered.deviceLine h line).parts).trans rfl
@[simp] theorem Hw.deviceLine_ports (h : Hw) (line : Nat) : (h.deviceLine line).ports = h.ports := (congrArg Hw.ports (Delivered.deviceLine h line).parts).trans rfl
@[simp] theorem Hw.deviceLine_gns (h : Hw) (line : Nat) : (h.deviceLine line).gns = h.gns := (congrArg Hw.gns (Delivered.deviceLine h line).parts).trans rfl
@[simp] theorem Hw.deviceLine_eth (h : Hw) (line : Nat) : (h.deviceLine line).eth = h.eth := (congrArg Hw.eth (Delivered.deviceLine h line).parts).trans rfl
@[simp] theorem Hw.deviceLine_mtx (h : Hw) (line : Nat) : (h.deviceLine line).mtx = h.mtx := (congrArg Hw.mtx (Delivered.deviceLine h line).parts).trans rfl
@[simp] theorem Hw.deviceLine_obs (h : Hw) (line : Nat) : (h.deviceLine line).obs = h.obs := (congrArg Hw.obs (Delivered.deviceLine h line).parts).trans rfl
@[simp] theorem Hw.deviceLine_fix (h : Hw) (line : Nat) : (h.deviceLine line).fix = h.fix := (congrArg Hw.fix (Delivered.deviceLine h line).parts).trans rfl
@[simp] theorem Hw.deviceLine_sp (h : Hw) (line : Nat) : (h.deviceLine line).sp = h.sp := (congrArg Hw.sp (Delivered.deviceLine h line).parts).trans rfl
@[simp] theorem Hw.deviceLine_brl (h : Hw) (line : Nat) : (h.deviceLine line).brl = h.brl := (congrArg Hw.brl (Delivered.deviceLine h line).parts).trans rfl
@[simp] theorem Hw.deviceLine_upd (h : Hw) (line : Nat) : (h.deviceLine line).upd = h.upd := (congrArg Hw.upd (Delivered.deviceLine h line).parts).trans rfl
@[simp] theorem Hw.deviceLine_mtr (h : Hw) (line : Nat) : (h.deviceLine line).mtr = h.mtr := (congrArg Hw.mtr (Delivered.deviceLine h line).parts).trans rfl

/-! ### `Hw.token` -/

@[simp] theorem Hw.token_mem (h : Hw) (n : Nat) (e : Bool) : (h.token n e).mem = h.mem := (congrArg Hw.mem (Delivered.token h n e).parts).trans rfl
@[simp] theorem Hw.token_hosts (h : Hw) (n : Nat) (e : Bool) : (h.token n e).hosts = h.hosts := (congrArg Hw.hosts (Delivered.token h n e).parts).trans rfl
@[simp] theorem Hw.token_semSince (h : Hw) (n : Nat) (e : Bool) : (h.token n e).semSince = h.semSince := (congrArg Hw.semSince (Delivered.token h n e).parts).trans rfl
@[simp] theorem Hw.token_balls (h : Hw) (n : Nat) (e : Bool) : (h.token n e).balls = h.balls := (congrArg Hw.balls (Delivered.token h n e).parts).trans rfl
@[simp] theorem Hw.token_alm (h : Hw) (n : Nat) (e : Bool) : (h.token n e).alm = h.alm := (congrArg Hw.alm (Delivered.token h n e).parts).trans rfl
@[simp] theorem Hw.token_hlt (h : Hw) (n : Nat) (e : Bool) : (h.token n e).hlt = h.hlt := (congrArg Hw.hlt (Delivered.token h n e).parts).trans rfl
@[simp] theorem Hw.token_smu (h : Hw) (n : Nat) (e : Bool) : (h.token n e).smu = h.smu := (congrArg Hw.smu (Delivered.token h n e).parts).trans rfl
@[simp] theorem Hw.token_dma (h : Hw) (n : Nat) (e : Bool) : (h.token n e).dma = h.dma := (congrArg Hw.dma (Delivered.token h n e).parts).trans rfl
@[simp] theorem Hw.token_mbx (h : Hw) (n : Nat) (e : Bool) : (h.token n e).mbx = h.mbx := (congrArg Hw.mbx (Delivered.token h n e).parts).trans rfl
@[simp] theorem Hw.token_fifos (h : Hw) (n : Nat) (e : Bool) : (h.token n e).fifos = h.fifos := (congrArg Hw.fifos (Delivered.token h n e).parts).trans rfl
@[simp] theorem Hw.token_freeCtr (h : Hw) (n : Nat) (e : Bool) : (h.token n e).freeCtr = h.freeCtr := (congrArg Hw.freeCtr (Delivered.token h n e).parts).trans rfl
@[simp] theorem Hw.token_cal (h : Hw) (n : Nat) (e : Bool) : (h.token n e).cal = h.cal := (congrArg Hw.cal (Delivered.token h n e).parts).trans rfl
@[simp] theorem Hw.token_flash (h : Hw) (n : Nat) (e : Bool) : (h.token n e).flash = h.flash := (congrArg Hw.flash (Delivered.token h n e).parts).trans rfl
@[simp] theorem Hw.token_pwr (h : Hw) (n : Nat) (e : Bool) : (h.token n e).pwr = h.pwr := (congrArg Hw.pwr (Delivered.token h n e).parts).trans rfl
@[simp] theorem Hw.token_rsv (h : Hw) (n : Nat) (e : Bool) : (h.token n e).rsv = h.rsv := (congrArg Hw.rsv (Delivered.token h n e).parts).trans rfl
@[simp] theorem Hw.token_eqx (h : Hw) (n : Nat) (e : Bool) : (h.token n e).eqx = h.eqx := (congrArg Hw.eqx (Delivered.token h n e).parts).trans rfl
@[simp] theorem Hw.token_lth (h : Hw) (n : Nat) (e : Bool) : (h.token n e).lth = h.lth := (congrArg Hw.lth (Delivered.token h n e).parts).trans rfl
@[simp] theorem Hw.token_axl (h : Hw) (n : Nat) (e : Bool) : (h.token n e).axl = h.axl := (congrArg Hw.axl (Delivered.token h n e).parts).trans rfl
@[simp] theorem Hw.token_rad (h : Hw) (n : Nat) (e : Bool) : (h.token n e).rad = h.rad := (congrArg Hw.rad (Delivered.token h n e).parts).trans rfl
@[simp] theorem Hw.token_stp (h : Hw) (n : Nat) (e : Bool) : (h.token n e).stp = h.stp := (congrArg Hw.stp (Delivered.token h n e).parts).trans rfl
@[simp] theorem Hw.token_ports (h : Hw) (n : Nat) (e : Bool) : (h.token n e).ports = h.ports := (congrArg Hw.ports (Delivered.token h n e).parts).trans rfl
@[simp] theorem Hw.token_gns (h : Hw) (n : Nat) (e : Bool) : (h.token n e).gns = h.gns := (congrArg Hw.gns (Delivered.token h n e).parts).trans rfl
@[simp] theorem Hw.token_eth (h : Hw) (n : Nat) (e : Bool) : (h.token n e).eth = h.eth := (congrArg Hw.eth (Delivered.token h n e).parts).trans rfl
@[simp] theorem Hw.token_mtx (h : Hw) (n : Nat) (e : Bool) : (h.token n e).mtx = h.mtx := (congrArg Hw.mtx (Delivered.token h n e).parts).trans rfl
@[simp] theorem Hw.token_obs (h : Hw) (n : Nat) (e : Bool) : (h.token n e).obs = h.obs := (congrArg Hw.obs (Delivered.token h n e).parts).trans rfl
@[simp] theorem Hw.token_fix (h : Hw) (n : Nat) (e : Bool) : (h.token n e).fix = h.fix := (congrArg Hw.fix (Delivered.token h n e).parts).trans rfl
@[simp] theorem Hw.token_sp (h : Hw) (n : Nat) (e : Bool) : (h.token n e).sp = h.sp := (congrArg Hw.sp (Delivered.token h n e).parts).trans rfl
@[simp] theorem Hw.token_brl (h : Hw) (n : Nat) (e : Bool) : (h.token n e).brl = h.brl := (congrArg Hw.brl (Delivered.token h n e).parts).trans rfl
@[simp] theorem Hw.token_upd (h : Hw) (n : Nat) (e : Bool) : (h.token n e).upd = h.upd := (congrArg Hw.upd (Delivered.token h n e).parts).trans rfl
@[simp] theorem Hw.token_mtr (h : Hw) (n : Nat) (e : Bool) : (h.token n e).mtr = h.mtr := (congrArg Hw.mtr (Delivered.token h n e).parts).trans rfl

/-! ### `Hw.coreFree` -/

@[simp] theorem Hw.coreFree_mem (h : Hw) (n : Nat) : (h.coreFree n).mem = h.mem := (congrArg Hw.mem (Delivered.coreFree h n).parts).trans rfl
@[simp] theorem Hw.coreFree_hosts (h : Hw) (n : Nat) : (h.coreFree n).hosts = h.hosts := (congrArg Hw.hosts (Delivered.coreFree h n).parts).trans rfl
@[simp] theorem Hw.coreFree_semSince (h : Hw) (n : Nat) : (h.coreFree n).semSince = h.semSince := (congrArg Hw.semSince (Delivered.coreFree h n).parts).trans rfl
@[simp] theorem Hw.coreFree_balls (h : Hw) (n : Nat) : (h.coreFree n).balls = h.balls := (congrArg Hw.balls (Delivered.coreFree h n).parts).trans rfl
@[simp] theorem Hw.coreFree_alm (h : Hw) (n : Nat) : (h.coreFree n).alm = h.alm := (congrArg Hw.alm (Delivered.coreFree h n).parts).trans rfl
@[simp] theorem Hw.coreFree_hlt (h : Hw) (n : Nat) : (h.coreFree n).hlt = h.hlt := (congrArg Hw.hlt (Delivered.coreFree h n).parts).trans rfl
@[simp] theorem Hw.coreFree_smu (h : Hw) (n : Nat) : (h.coreFree n).smu = h.smu := (congrArg Hw.smu (Delivered.coreFree h n).parts).trans rfl
@[simp] theorem Hw.coreFree_dma (h : Hw) (n : Nat) : (h.coreFree n).dma = h.dma := (congrArg Hw.dma (Delivered.coreFree h n).parts).trans rfl
@[simp] theorem Hw.coreFree_mbx (h : Hw) (n : Nat) : (h.coreFree n).mbx = h.mbx := (congrArg Hw.mbx (Delivered.coreFree h n).parts).trans rfl
@[simp] theorem Hw.coreFree_fifos (h : Hw) (n : Nat) : (h.coreFree n).fifos = h.fifos := (congrArg Hw.fifos (Delivered.coreFree h n).parts).trans rfl
@[simp] theorem Hw.coreFree_freeCtr (h : Hw) (n : Nat) : (h.coreFree n).freeCtr = h.freeCtr := (congrArg Hw.freeCtr (Delivered.coreFree h n).parts).trans rfl
@[simp] theorem Hw.coreFree_cal (h : Hw) (n : Nat) : (h.coreFree n).cal = h.cal := (congrArg Hw.cal (Delivered.coreFree h n).parts).trans rfl
@[simp] theorem Hw.coreFree_flash (h : Hw) (n : Nat) : (h.coreFree n).flash = h.flash := (congrArg Hw.flash (Delivered.coreFree h n).parts).trans rfl
@[simp] theorem Hw.coreFree_pwr (h : Hw) (n : Nat) : (h.coreFree n).pwr = h.pwr := (congrArg Hw.pwr (Delivered.coreFree h n).parts).trans rfl
@[simp] theorem Hw.coreFree_rsv (h : Hw) (n : Nat) : (h.coreFree n).rsv = h.rsv := (congrArg Hw.rsv (Delivered.coreFree h n).parts).trans rfl
@[simp] theorem Hw.coreFree_eqx (h : Hw) (n : Nat) : (h.coreFree n).eqx = h.eqx := (congrArg Hw.eqx (Delivered.coreFree h n).parts).trans rfl
@[simp] theorem Hw.coreFree_lth (h : Hw) (n : Nat) : (h.coreFree n).lth = h.lth := (congrArg Hw.lth (Delivered.coreFree h n).parts).trans rfl
@[simp] theorem Hw.coreFree_axl (h : Hw) (n : Nat) : (h.coreFree n).axl = h.axl := (congrArg Hw.axl (Delivered.coreFree h n).parts).trans rfl
@[simp] theorem Hw.coreFree_rad (h : Hw) (n : Nat) : (h.coreFree n).rad = h.rad := (congrArg Hw.rad (Delivered.coreFree h n).parts).trans rfl
@[simp] theorem Hw.coreFree_stp (h : Hw) (n : Nat) : (h.coreFree n).stp = h.stp := (congrArg Hw.stp (Delivered.coreFree h n).parts).trans rfl
@[simp] theorem Hw.coreFree_ports (h : Hw) (n : Nat) : (h.coreFree n).ports = h.ports := (congrArg Hw.ports (Delivered.coreFree h n).parts).trans rfl
@[simp] theorem Hw.coreFree_gns (h : Hw) (n : Nat) : (h.coreFree n).gns = h.gns := (congrArg Hw.gns (Delivered.coreFree h n).parts).trans rfl
@[simp] theorem Hw.coreFree_eth (h : Hw) (n : Nat) : (h.coreFree n).eth = h.eth := (congrArg Hw.eth (Delivered.coreFree h n).parts).trans rfl
@[simp] theorem Hw.coreFree_mtx (h : Hw) (n : Nat) : (h.coreFree n).mtx = h.mtx := (congrArg Hw.mtx (Delivered.coreFree h n).parts).trans rfl
@[simp] theorem Hw.coreFree_obs (h : Hw) (n : Nat) : (h.coreFree n).obs = h.obs := (congrArg Hw.obs (Delivered.coreFree h n).parts).trans rfl
@[simp] theorem Hw.coreFree_fix (h : Hw) (n : Nat) : (h.coreFree n).fix = h.fix := (congrArg Hw.fix (Delivered.coreFree h n).parts).trans rfl
@[simp] theorem Hw.coreFree_sp (h : Hw) (n : Nat) : (h.coreFree n).sp = h.sp := (congrArg Hw.sp (Delivered.coreFree h n).parts).trans rfl
@[simp] theorem Hw.coreFree_brl (h : Hw) (n : Nat) : (h.coreFree n).brl = h.brl := (congrArg Hw.brl (Delivered.coreFree h n).parts).trans rfl
@[simp] theorem Hw.coreFree_upd (h : Hw) (n : Nat) : (h.coreFree n).upd = h.upd := (congrArg Hw.upd (Delivered.coreFree h n).parts).trans rfl
@[simp] theorem Hw.coreFree_mtr (h : Hw) (n : Nat) : (h.coreFree n).mtr = h.mtr := (congrArg Hw.mtr (Delivered.coreFree h n).parts).trans rfl

/-! ### `Hw.coreReturns` -/

@[simp] theorem Hw.coreReturns_mem (h : Hw) (n : Nat) : (h.coreReturns n).mem = h.mem := (congrArg Hw.mem (Delivered.coreReturns h n).parts).trans rfl
@[simp] theorem Hw.coreReturns_hosts (h : Hw) (n : Nat) : (h.coreReturns n).hosts = h.hosts := (congrArg Hw.hosts (Delivered.coreReturns h n).parts).trans rfl
@[simp] theorem Hw.coreReturns_semSince (h : Hw) (n : Nat) : (h.coreReturns n).semSince = h.semSince := (congrArg Hw.semSince (Delivered.coreReturns h n).parts).trans rfl
@[simp] theorem Hw.coreReturns_balls (h : Hw) (n : Nat) : (h.coreReturns n).balls = h.balls := (congrArg Hw.balls (Delivered.coreReturns h n).parts).trans rfl
@[simp] theorem Hw.coreReturns_alm (h : Hw) (n : Nat) : (h.coreReturns n).alm = h.alm := (congrArg Hw.alm (Delivered.coreReturns h n).parts).trans rfl
@[simp] theorem Hw.coreReturns_hlt (h : Hw) (n : Nat) : (h.coreReturns n).hlt = h.hlt := (congrArg Hw.hlt (Delivered.coreReturns h n).parts).trans rfl
@[simp] theorem Hw.coreReturns_smu (h : Hw) (n : Nat) : (h.coreReturns n).smu = h.smu := (congrArg Hw.smu (Delivered.coreReturns h n).parts).trans rfl
@[simp] theorem Hw.coreReturns_dma (h : Hw) (n : Nat) : (h.coreReturns n).dma = h.dma := (congrArg Hw.dma (Delivered.coreReturns h n).parts).trans rfl
@[simp] theorem Hw.coreReturns_mbx (h : Hw) (n : Nat) : (h.coreReturns n).mbx = h.mbx := (congrArg Hw.mbx (Delivered.coreReturns h n).parts).trans rfl
@[simp] theorem Hw.coreReturns_fifos (h : Hw) (n : Nat) : (h.coreReturns n).fifos = h.fifos := (congrArg Hw.fifos (Delivered.coreReturns h n).parts).trans rfl
@[simp] theorem Hw.coreReturns_freeCtr (h : Hw) (n : Nat) : (h.coreReturns n).freeCtr = h.freeCtr := (congrArg Hw.freeCtr (Delivered.coreReturns h n).parts).trans rfl
@[simp] theorem Hw.coreReturns_cal (h : Hw) (n : Nat) : (h.coreReturns n).cal = h.cal := (congrArg Hw.cal (Delivered.coreReturns h n).parts).trans rfl
@[simp] theorem Hw.coreReturns_flash (h : Hw) (n : Nat) : (h.coreReturns n).flash = h.flash := (congrArg Hw.flash (Delivered.coreReturns h n).parts).trans rfl
@[simp] theorem Hw.coreReturns_pwr (h : Hw) (n : Nat) : (h.coreReturns n).pwr = h.pwr := (congrArg Hw.pwr (Delivered.coreReturns h n).parts).trans rfl
@[simp] theorem Hw.coreReturns_rsv (h : Hw) (n : Nat) : (h.coreReturns n).rsv = h.rsv := (congrArg Hw.rsv (Delivered.coreReturns h n).parts).trans rfl
@[simp] theorem Hw.coreReturns_eqx (h : Hw) (n : Nat) : (h.coreReturns n).eqx = h.eqx := (congrArg Hw.eqx (Delivered.coreReturns h n).parts).trans rfl
@[simp] theorem Hw.coreReturns_lth (h : Hw) (n : Nat) : (h.coreReturns n).lth = h.lth := (congrArg Hw.lth (Delivered.coreReturns h n).parts).trans rfl
@[simp] theorem Hw.coreReturns_axl (h : Hw) (n : Nat) : (h.coreReturns n).axl = h.axl := (congrArg Hw.axl (Delivered.coreReturns h n).parts).trans rfl
@[simp] theorem Hw.coreReturns_rad (h : Hw) (n : Nat) : (h.coreReturns n).rad = h.rad := (congrArg Hw.rad (Delivered.coreReturns h n).parts).trans rfl
@[simp] theorem Hw.coreReturns_stp (h : Hw) (n : Nat) : (h.coreReturns n).stp = h.stp := (congrArg Hw.stp (Delivered.coreReturns h n).parts).trans rfl
@[simp] theorem Hw.coreReturns_ports (h : Hw) (n : Nat) : (h.coreReturns n).ports = h.ports := (congrArg Hw.ports (Delivered.coreReturns h n).parts).trans rfl
@[simp] theorem Hw.coreReturns_gns (h : Hw) (n : Nat) : (h.coreReturns n).gns = h.gns := (congrArg Hw.gns (Delivered.coreReturns h n).parts).trans rfl
@[simp] theorem Hw.coreReturns_eth (h : Hw) (n : Nat) : (h.coreReturns n).eth = h.eth := (congrArg Hw.eth (Delivered.coreReturns h n).parts).trans rfl
@[simp] theorem Hw.coreReturns_mtx (h : Hw) (n : Nat) : (h.coreReturns n).mtx = h.mtx := (congrArg Hw.mtx (Delivered.coreReturns h n).parts).trans rfl
@[simp] theorem Hw.coreReturns_obs (h : Hw) (n : Nat) : (h.coreReturns n).obs = h.obs := (congrArg Hw.obs (Delivered.coreReturns h n).parts).trans rfl
@[simp] theorem Hw.coreReturns_fix (h : Hw) (n : Nat) : (h.coreReturns n).fix = h.fix := (congrArg Hw.fix (Delivered.coreReturns h n).parts).trans rfl
@[simp] theorem Hw.coreReturns_sp (h : Hw) (n : Nat) : (h.coreReturns n).sp = h.sp := (congrArg Hw.sp (Delivered.coreReturns h n).parts).trans rfl
@[simp] theorem Hw.coreReturns_brl (h : Hw) (n : Nat) : (h.coreReturns n).brl = h.brl := (congrArg Hw.brl (Delivered.coreReturns h n).parts).trans rfl
@[simp] theorem Hw.coreReturns_upd (h : Hw) (n : Nat) : (h.coreReturns n).upd = h.upd := (congrArg Hw.upd (Delivered.coreReturns h n).parts).trans rfl
@[simp] theorem Hw.coreReturns_mtr (h : Hw) (n : Nat) : (h.coreReturns n).mtr = h.mtr := (congrArg Hw.mtr (Delivered.coreReturns h n).parts).trans rfl

/-! ### `Hw.becomeReady` -/

@[simp] theorem Hw.becomeReady_mem (h : Hw) (n : Nat) : (h.becomeReady n).mem = h.mem := (congrArg Hw.mem (Delivered.becomeReady h n).parts).trans rfl
@[simp] theorem Hw.becomeReady_hosts (h : Hw) (n : Nat) : (h.becomeReady n).hosts = h.hosts := (congrArg Hw.hosts (Delivered.becomeReady h n).parts).trans rfl
@[simp] theorem Hw.becomeReady_semSince (h : Hw) (n : Nat) : (h.becomeReady n).semSince = h.semSince := (congrArg Hw.semSince (Delivered.becomeReady h n).parts).trans rfl
@[simp] theorem Hw.becomeReady_balls (h : Hw) (n : Nat) : (h.becomeReady n).balls = h.balls := (congrArg Hw.balls (Delivered.becomeReady h n).parts).trans rfl
@[simp] theorem Hw.becomeReady_alm (h : Hw) (n : Nat) : (h.becomeReady n).alm = h.alm := (congrArg Hw.alm (Delivered.becomeReady h n).parts).trans rfl
@[simp] theorem Hw.becomeReady_hlt (h : Hw) (n : Nat) : (h.becomeReady n).hlt = h.hlt := (congrArg Hw.hlt (Delivered.becomeReady h n).parts).trans rfl
@[simp] theorem Hw.becomeReady_smu (h : Hw) (n : Nat) : (h.becomeReady n).smu = h.smu := (congrArg Hw.smu (Delivered.becomeReady h n).parts).trans rfl
@[simp] theorem Hw.becomeReady_dma (h : Hw) (n : Nat) : (h.becomeReady n).dma = h.dma := (congrArg Hw.dma (Delivered.becomeReady h n).parts).trans rfl
@[simp] theorem Hw.becomeReady_mbx (h : Hw) (n : Nat) : (h.becomeReady n).mbx = h.mbx := (congrArg Hw.mbx (Delivered.becomeReady h n).parts).trans rfl
@[simp] theorem Hw.becomeReady_fifos (h : Hw) (n : Nat) : (h.becomeReady n).fifos = h.fifos := (congrArg Hw.fifos (Delivered.becomeReady h n).parts).trans rfl
@[simp] theorem Hw.becomeReady_freeCtr (h : Hw) (n : Nat) : (h.becomeReady n).freeCtr = h.freeCtr := (congrArg Hw.freeCtr (Delivered.becomeReady h n).parts).trans rfl
@[simp] theorem Hw.becomeReady_cal (h : Hw) (n : Nat) : (h.becomeReady n).cal = h.cal := (congrArg Hw.cal (Delivered.becomeReady h n).parts).trans rfl
@[simp] theorem Hw.becomeReady_flash (h : Hw) (n : Nat) : (h.becomeReady n).flash = h.flash := (congrArg Hw.flash (Delivered.becomeReady h n).parts).trans rfl
@[simp] theorem Hw.becomeReady_pwr (h : Hw) (n : Nat) : (h.becomeReady n).pwr = h.pwr := (congrArg Hw.pwr (Delivered.becomeReady h n).parts).trans rfl
@[simp] theorem Hw.becomeReady_rsv (h : Hw) (n : Nat) : (h.becomeReady n).rsv = h.rsv := (congrArg Hw.rsv (Delivered.becomeReady h n).parts).trans rfl
@[simp] theorem Hw.becomeReady_eqx (h : Hw) (n : Nat) : (h.becomeReady n).eqx = h.eqx := (congrArg Hw.eqx (Delivered.becomeReady h n).parts).trans rfl
@[simp] theorem Hw.becomeReady_lth (h : Hw) (n : Nat) : (h.becomeReady n).lth = h.lth := (congrArg Hw.lth (Delivered.becomeReady h n).parts).trans rfl
@[simp] theorem Hw.becomeReady_axl (h : Hw) (n : Nat) : (h.becomeReady n).axl = h.axl := (congrArg Hw.axl (Delivered.becomeReady h n).parts).trans rfl
@[simp] theorem Hw.becomeReady_rad (h : Hw) (n : Nat) : (h.becomeReady n).rad = h.rad := (congrArg Hw.rad (Delivered.becomeReady h n).parts).trans rfl
@[simp] theorem Hw.becomeReady_stp (h : Hw) (n : Nat) : (h.becomeReady n).stp = h.stp := (congrArg Hw.stp (Delivered.becomeReady h n).parts).trans rfl
@[simp] theorem Hw.becomeReady_ports (h : Hw) (n : Nat) : (h.becomeReady n).ports = h.ports := (congrArg Hw.ports (Delivered.becomeReady h n).parts).trans rfl
@[simp] theorem Hw.becomeReady_gns (h : Hw) (n : Nat) : (h.becomeReady n).gns = h.gns := (congrArg Hw.gns (Delivered.becomeReady h n).parts).trans rfl
@[simp] theorem Hw.becomeReady_eth (h : Hw) (n : Nat) : (h.becomeReady n).eth = h.eth := (congrArg Hw.eth (Delivered.becomeReady h n).parts).trans rfl
@[simp] theorem Hw.becomeReady_mtx (h : Hw) (n : Nat) : (h.becomeReady n).mtx = h.mtx := (congrArg Hw.mtx (Delivered.becomeReady h n).parts).trans rfl
@[simp] theorem Hw.becomeReady_obs (h : Hw) (n : Nat) : (h.becomeReady n).obs = h.obs := (congrArg Hw.obs (Delivered.becomeReady h n).parts).trans rfl
@[simp] theorem Hw.becomeReady_fix (h : Hw) (n : Nat) : (h.becomeReady n).fix = h.fix := (congrArg Hw.fix (Delivered.becomeReady h n).parts).trans rfl
@[simp] theorem Hw.becomeReady_sp (h : Hw) (n : Nat) : (h.becomeReady n).sp = h.sp := (congrArg Hw.sp (Delivered.becomeReady h n).parts).trans rfl
@[simp] theorem Hw.becomeReady_brl (h : Hw) (n : Nat) : (h.becomeReady n).brl = h.brl := (congrArg Hw.brl (Delivered.becomeReady h n).parts).trans rfl
@[simp] theorem Hw.becomeReady_upd (h : Hw) (n : Nat) : (h.becomeReady n).upd = h.upd := (congrArg Hw.upd (Delivered.becomeReady h n).parts).trans rfl
@[simp] theorem Hw.becomeReady_mtr (h : Hw) (n : Nat) : (h.becomeReady n).mtr = h.mtr := (congrArg Hw.mtr (Delivered.becomeReady h n).parts).trans rfl

/-! ### `Hw.notice` -/

@[simp] theorem Hw.notice_mem (h : Hw) (k : Nat) : (h.notice k).mem = h.mem := by
  obtain ⟨g, dg, f, v, e⟩ := Hw.notice_spec h k; rw [e]; exact (congrArg Hw.mem dg.parts).trans rfl
@[simp] theorem Hw.notice_hosts (h : Hw) (k : Nat) : (h.notice k).hosts = h.hosts := by
  obtain ⟨g, dg, f, v, e⟩ := Hw.notice_spec h k; rw [e]; exact (congrArg Hw.hosts dg.parts).trans rfl
@[simp] theorem Hw.notice_semSince (h : Hw) (k : Nat) : (h.notice k).semSince = h.semSince := by
  obtain ⟨g, dg, f, v, e⟩ := Hw.notice_spec h k; rw [e]; exact (congrArg Hw.semSince dg.parts).trans rfl
@[simp] theorem Hw.notice_balls (h : Hw) (k : Nat) : (h.notice k).balls = h.balls := by
  obtain ⟨g, dg, f, v, e⟩ := Hw.notice_spec h k; rw [e]; exact (congrArg Hw.balls dg.parts).trans rfl
@[simp] theorem Hw.notice_alm (h : Hw) (k : Nat) : (h.notice k).alm = h.alm := by
  obtain ⟨g, dg, f, v, e⟩ := Hw.notice_spec h k; rw [e]; exact (congrArg Hw.alm dg.parts).trans rfl
@[simp] theorem Hw.notice_hlt (h : Hw) (k : Nat) : (h.notice k).hlt = h.hlt := by
  obtain ⟨g, dg, f, v, e⟩ := Hw.notice_spec h k; rw [e]; exact (congrArg Hw.hlt dg.parts).trans rfl
@[simp] theorem Hw.notice_smu (h : Hw) (k : Nat) : (h.notice k).smu = h.smu := by
  obtain ⟨g, dg, f, v, e⟩ := Hw.notice_spec h k; rw [e]; exact (congrArg Hw.smu dg.parts).trans rfl
@[simp] theorem Hw.notice_dma (h : Hw) (k : Nat) : (h.notice k).dma = h.dma := by
  obtain ⟨g, dg, f, v, e⟩ := Hw.notice_spec h k; rw [e]; exact (congrArg Hw.dma dg.parts).trans rfl
@[simp] theorem Hw.notice_mbx (h : Hw) (k : Nat) : (h.notice k).mbx = h.mbx := by
  obtain ⟨g, dg, f, v, e⟩ := Hw.notice_spec h k; rw [e]; exact (congrArg Hw.mbx dg.parts).trans rfl
@[simp] theorem Hw.notice_fifos (h : Hw) (k : Nat) : (h.notice k).fifos = h.fifos := by
  obtain ⟨g, dg, f, v, e⟩ := Hw.notice_spec h k; rw [e]; exact (congrArg Hw.fifos dg.parts).trans rfl
@[simp] theorem Hw.notice_freeCtr (h : Hw) (k : Nat) : (h.notice k).freeCtr = h.freeCtr := by
  obtain ⟨g, dg, f, v, e⟩ := Hw.notice_spec h k; rw [e]; exact (congrArg Hw.freeCtr dg.parts).trans rfl
@[simp] theorem Hw.notice_cal (h : Hw) (k : Nat) : (h.notice k).cal = h.cal := by
  obtain ⟨g, dg, f, v, e⟩ := Hw.notice_spec h k; rw [e]; exact (congrArg Hw.cal dg.parts).trans rfl
@[simp] theorem Hw.notice_flash (h : Hw) (k : Nat) : (h.notice k).flash = h.flash := by
  obtain ⟨g, dg, f, v, e⟩ := Hw.notice_spec h k; rw [e]; exact (congrArg Hw.flash dg.parts).trans rfl
@[simp] theorem Hw.notice_pwr (h : Hw) (k : Nat) : (h.notice k).pwr = h.pwr := by
  obtain ⟨g, dg, f, v, e⟩ := Hw.notice_spec h k; rw [e]; exact (congrArg Hw.pwr dg.parts).trans rfl
@[simp] theorem Hw.notice_rsv (h : Hw) (k : Nat) : (h.notice k).rsv = h.rsv := by
  obtain ⟨g, dg, f, v, e⟩ := Hw.notice_spec h k; rw [e]; exact (congrArg Hw.rsv dg.parts).trans rfl
@[simp] theorem Hw.notice_eqx (h : Hw) (k : Nat) : (h.notice k).eqx = h.eqx := by
  obtain ⟨g, dg, f, v, e⟩ := Hw.notice_spec h k; rw [e]; exact (congrArg Hw.eqx dg.parts).trans rfl
@[simp] theorem Hw.notice_lth (h : Hw) (k : Nat) : (h.notice k).lth = h.lth := by
  obtain ⟨g, dg, f, v, e⟩ := Hw.notice_spec h k; rw [e]; exact (congrArg Hw.lth dg.parts).trans rfl
@[simp] theorem Hw.notice_axl (h : Hw) (k : Nat) : (h.notice k).axl = h.axl := by
  obtain ⟨g, dg, f, v, e⟩ := Hw.notice_spec h k; rw [e]; exact (congrArg Hw.axl dg.parts).trans rfl
@[simp] theorem Hw.notice_rad (h : Hw) (k : Nat) : (h.notice k).rad = h.rad := by
  obtain ⟨g, dg, f, v, e⟩ := Hw.notice_spec h k; rw [e]; exact (congrArg Hw.rad dg.parts).trans rfl
@[simp] theorem Hw.notice_stp (h : Hw) (k : Nat) : (h.notice k).stp = h.stp := by
  obtain ⟨g, dg, f, v, e⟩ := Hw.notice_spec h k; rw [e]; exact (congrArg Hw.stp dg.parts).trans rfl
@[simp] theorem Hw.notice_ports (h : Hw) (k : Nat) : (h.notice k).ports = h.ports := by
  obtain ⟨g, dg, f, v, e⟩ := Hw.notice_spec h k; rw [e]; exact (congrArg Hw.ports dg.parts).trans rfl
@[simp] theorem Hw.notice_gns (h : Hw) (k : Nat) : (h.notice k).gns = h.gns := by
  obtain ⟨g, dg, f, v, e⟩ := Hw.notice_spec h k; rw [e]; exact (congrArg Hw.gns dg.parts).trans rfl
@[simp] theorem Hw.notice_eth (h : Hw) (k : Nat) : (h.notice k).eth = h.eth := by
  obtain ⟨g, dg, f, v, e⟩ := Hw.notice_spec h k; rw [e]; exact (congrArg Hw.eth dg.parts).trans rfl
@[simp] theorem Hw.notice_mtx (h : Hw) (k : Nat) : (h.notice k).mtx = h.mtx := by
  obtain ⟨g, dg, f, v, e⟩ := Hw.notice_spec h k; rw [e]; exact (congrArg Hw.mtx dg.parts).trans rfl
@[simp] theorem Hw.notice_obs (h : Hw) (k : Nat) : (h.notice k).obs = h.obs := by
  obtain ⟨g, dg, f, v, e⟩ := Hw.notice_spec h k; rw [e]; exact (congrArg Hw.obs dg.parts).trans rfl
@[simp] theorem Hw.notice_fix (h : Hw) (k : Nat) : (h.notice k).fix = h.fix := by
  obtain ⟨g, dg, f, v, e⟩ := Hw.notice_spec h k; rw [e]; exact (congrArg Hw.fix dg.parts).trans rfl
@[simp] theorem Hw.notice_sp (h : Hw) (k : Nat) : (h.notice k).sp = h.sp := by
  obtain ⟨g, dg, f, v, e⟩ := Hw.notice_spec h k; rw [e]; exact (congrArg Hw.sp dg.parts).trans rfl
@[simp] theorem Hw.notice_brl (h : Hw) (k : Nat) : (h.notice k).brl = h.brl := by
  obtain ⟨g, dg, f, v, e⟩ := Hw.notice_spec h k; rw [e]; exact (congrArg Hw.brl dg.parts).trans rfl
@[simp] theorem Hw.notice_upd (h : Hw) (k : Nat) : (h.notice k).upd = h.upd := by
  obtain ⟨g, dg, f, v, e⟩ := Hw.notice_spec h k; rw [e]; exact (congrArg Hw.upd dg.parts).trans rfl
@[simp] theorem Hw.notice_mtr (h : Hw) (k : Nat) : (h.notice k).mtr = h.mtr := by
  obtain ⟨g, dg, f, v, e⟩ := Hw.notice_spec h k; rw [e]; exact (congrArg Hw.mtr dg.parts).trans rfl

end Sys2Proof.Machine
end

