-- ==== Sys2Proof/Laws/Memory.lean ====
section
/-! SUPPORT. Every operation on memory keeps its canonical form; a read after a store gives the octet stored, and a store leaves every other
octet as it was. -/

namespace Sys2Proof.Machine

open Sys2Proof

/-- Leaving entries out keeps the canonical form of a table. -/
theorem wf_filter {α : Type} [DecidableEq α] (d : Nat → α) (q : Nat × α → Bool) (m : Map α) (h : Map.wf d m = true) :
    Map.wf d (m.filter q) = true := by
  induction m with
  | nil => rfl
  | cons p m ih =>
    by_cases hq : q p = true
    · rw [List.filter_cons_of_pos hq]
      exact Map.wf_cons (Map.wf_head h) (ih (Map.wf_tail h)) fun e he => Map.wf_lt h e (List.mem_filter.mp he).1
    · rw [List.filter_cons_of_neg hq]
      exact ih (Map.wf_tail h)

/-! ### One octet -/

/-- Storing an octet keeps the canonical form. -/
theorem Hw.setByte_wf (h : Hw) (p : Nat) (b : Byte) (hm : Memory.wf h.mem = true) : Memory.wf (h.setByte p b).mem = true :=
  Map.wf_put memDefault h.mem p b hm

/-- An octet stored is read back. -/
@[simp] theorem Hw.byteAt_setByte_same (h : Hw) (p : Nat) (b : Byte) : (h.setByte p b).byteAt p = b :=
  Map.get_put_same memDefault h.mem p b

/-- Storing an octet leaves every other as it was. -/
theorem Hw.byteAt_setByte_other (h : Hw) (p a : Nat) (b : Byte) (ha : a ≠ p) : (h.setByte p b).byteAt a = h.byteAt a :=
  Map.get_put_other memDefault h.mem p a b ha

/-! ### Octets through the address map -/

/-- What storing octets through the address map can do: it keeps the canonical form, changes nothing but memory, and leaves every octet that the
range does not reach. -/
theorem Hw.storeBytes_spec (bs : List Byte) : ∀ (h : Hw) (a : Nat),
    (h.storeBytes a bs) = { h with mem := (h.storeBytes a bs).mem } ∧
    (Memory.wf h.mem = true → Memory.wf (h.storeBytes a bs).mem = true) ∧
    ∀ j, (∀ i < bs.length, h.writePlace (a + i) ≠ some j) → (h.storeBytes a bs).byteAt j = h.byteAt j := by
  induction bs with
  | nil => intro h a; exact ⟨rfl, id, fun _ _ => rfl⟩
  | cons b bs ih =>
    intro h a
    cases hp : h.writePlace a with
    | none =>
      obtain ⟨e, w, f⟩ := ih h (a + 1)
      simp only [Hw.storeBytes, hp]
      refine ⟨e, w, fun j hj => f j fun i hi => ?_⟩
      have := hj (i + 1) (by simpa using hi)
      rwa [show a + (i + 1) = a + 1 + i by omega] at this
    | some p =>
      obtain ⟨e, w, f⟩ := ih (h.setByte p b) (a + 1)
      simp only [Hw.storeBytes, hp]
      refine ⟨e, fun hm => w (h.setByte_wf p b hm), fun j hj => ?_⟩
      have h0 := hj 0 (by simp)
      simp only [Nat.add_zero, hp, ne_eq, Option.some.injEq] at h0
      rw [f j fun i hi => ?_, h.byteAt_setByte_other p j b fun x => h0 x.symm]
      have := hj (i + 1) (by simpa using hi)
      rwa [show a + (i + 1) = a + 1 + i by omega] at this

/-- A bus write keeps the canonical form. -/
theorem Hw.writePhys_wf (h g : Hw) (a : Nat) (bs : List Byte) (hm : Memory.wf h.mem = true) (hw : h.writePhys a bs = some g) :
    Memory.wf g.mem = true := by
  unfold Hw.writePhys at hw
  split at hw
  · cases hw
    exact (Hw.storeBytes_spec bs h a).2.1 hm
  · cases hw

/-! ### Flash -/

/-- Octets laid into flash: the canonical form is kept, and no octet outside them changes. -/
theorem Hw.flashBytes_spec (bs : List Byte) : ∀ (h : Hw) (a : Nat),
    (Memory.wf h.mem = true → Memory.wf (h.flashBytes a bs).mem = true) ∧
    ∀ j, j < a ∨ a + bs.length ≤ j → (h.flashBytes a bs).byteAt j = h.byteAt j := by
  induction bs with
  | nil => intro h a; exact ⟨id, fun _ _ => rfl⟩
  | cons b bs ih =>
    intro h a
    obtain ⟨w, f⟩ := ih (h.setByte a b) (a + 1)
    simp only [Hw.flashBytes, List.length_cons]
    refine ⟨fun hm => w (h.setByte_wf a b hm), fun j hj => ?_⟩
    rw [f j (by omega), h.byteAt_setByte_other a j b (by omega)]

/-- An erasure keeps the canonical form. -/
theorem Hw.flashErase_wf (h : Hw) (a n : Nat) (hm : Memory.wf h.mem = true) : Memory.wf (h.flashErase a n).mem = true :=
  wf_filter memDefault _ h.mem hm

/-- What a table with entries left out reads as. -/
theorem get_filter {α : Type} (d : Nat → α) (q : Nat → Bool) (m : Map α) (k : Nat) :
    Map.get d (m.filter fun p => q p.1) k = if q k = true then Map.get d m k else d k := by
  induction m with
  | nil => simp [Map.get]
  | cons p m ih =>
    obtain ⟨i, v⟩ := p
    by_cases hi : i = k
    · subst hi
      by_cases hq : q i = true <;> simp [Map.get, hq, ih]
    · by_cases hq : q i = true <;> simp [Map.get, hq, ih, hi]

/-- An erased range reads as unwritten; no octet outside it changes. -/
theorem Hw.byteAt_flashErase (h : Hw) (a n j : Nat) :
    (h.flashErase a n).byteAt j = if j < a ∨ a + n ≤ j then h.byteAt j else memDefault j := by
  have := get_filter memDefault (fun k => decide (k < a ∨ a + n ≤ k)) h.mem j
  simp only [decide_eq_true_eq] at this
  exact this

/-! ### Banks and resets -/

/-- Putting the entries of a list keeps the canonical form. -/
theorem foldl_put_wf {α β : Type} [DecidableEq α] (d : Nat → α) (k : β → Nat) (v : β → α) (l : List β) :
    ∀ m : Map α, Map.wf d m = true → Map.wf d (l.foldl (fun m c => Map.put d m (k c) (v c)) m) = true := by
  induction l with
  | nil => intro m h; exact h
  | cons c l ih => intro m h; exact ih _ (Map.wf_put d m (k c) (v c) h)

/-- Moving a bank keeps the canonical form. -/
theorem moveBank_wf (m : List Host.Cell) (b s : Nat) (h : Memory.wf m = true) : Memory.wf (moveBank m b s) = true :=
  foldl_put_wf memDefault _ _ _ _ (wf_filter memDefault _ m h)

/-- What a reset of the logic leaves of memory is in canonical form. -/
theorem Hw.logicLost_wf (h : Hw) (bank : Option Nat) (hm : Memory.wf h.mem = true) : Memory.wf (h.logicLost bank).mem = true := by
  have e : (h.logicLost bank).mem = h.mem.filter fun c => keptCell bank c.1 := by
    unfold Hw.logicLost
    dsimp only
    split <;> rfl
  rw [e]
  exact wf_filter memDefault _ h.mem hm

/-- Memory after reset lists nothing. -/
theorem reset_mem_wf : Memory.wf State.reset.hw.mem = true := rfl

end Sys2Proof.Machine
end

