-- ==== Sys2Proof/Tests/Slice0.lean ====
section
/-! SUPPORT. Tests of single steps on small states, each a state that meets the hypotheses of a clause of the statements beside it, and the register
map's own checks. Expected values come from the rules named. -/

namespace Sys2Proof.Tests

set_option Elab.async false

open Sys2Proof.Machine Sys2Proof.Reg Sys2Proof.Safety

/-- Registers set on a device after reset. -/
def regs (l : List (Nat × Fld × Nat)) (h : Hw := Hw.reset) : Hw := l.foldl (fun h p => h.setF p.1 p.2.1 p.2.2) h

/-- The device in which every master may use the privileged view. -/
def open_ (l : List (Nat × Fld × Nat)) : Hw := regs ((CFG_PRIV_MASK, CFG_PRIV_MASK.priv, 0xFFFF) :: l)

/-- A state with nothing waiting. -/
def st (h : Hw) : State := ⟨h, []⟩

/-- The device after a command. -/
def hwAfter (c : Instr) (h : Hw) : Hw :=
  match exec c (st h) with
  | .next t => t.hw
  | .fault _ => h
  | .refused _ => h

/-- An access of core AC0 in the privileged view. -/
def acc : BusAcc := ⟨.ac 0, .monitor, false, .word, true⟩

/-! ### Register commands, the fabric, reloads -/

/-- HLT_IRQ_MASK takes its written bits (R13). -/
theorem test_registerWrite :
    Permitted (open_ []) (viewAt acc 0x1C0010) (regKey 0x1C0010) ∧ (regFind (regKey 0x1C0010)).map (·.lowWord) = some false ∧
      lowWordOf (regKey 0x1C0010) = none ∧ (∀ p ∈ calFields, p.1 ≠ regKey 0x1C0010) ∧
      (hwAfter (.registerWrite acc 0x1C0010 0x13) (open_ [])).reg HLT_IRQ_MASK = 0x3 ∧
      (hwAfter (.registerWrite acc 0x1C0010 0x13) (open_ [])).bus.resp = .done := by decide +kernel

/-- A low-word read takes the high word for its reader (R11). -/
theorem test_lowWordRead :
    let h := (open_ []).setReg (CAL_ENC_CNT_LO 0 + 4) 7
    Readable h (viewAt acc (BitVec.ofNat 21 (CAL_ENC_CNT_LO 0))) (CAL_ENC_CNT_LO 0) ∧ (regFind (CAL_ENC_CNT_LO 0)).map (·.lowWord) = some true ∧
      (Hw.readOp acc (CAL_ENC_CNT_LO 0)).isNone = true ∧ mbxChOf (CAL_ENC_CNT_LO 0) = none ∧
      (hwAfter (.lowWordRead acc (BitVec.ofNat 21 (CAL_ENC_CNT_LO 0))) h).readShadow 1 (CAL_ENC_CNT_LO 0 + 4) = some 7 := by decide +kernel

/-- A low-word write changes no register (R11). -/
theorem test_lowWordWrite :
    Permitted (open_ []) (viewAt acc (BitVec.ofNat 21 SPN_SUBMIT_LO)) (regKey (BitVec.ofNat 21 SPN_SUBMIT_LO)) ∧
      (regFind SPN_SUBMIT_LO).map (·.lowWord) = some true ∧ mbxChOf SPN_SUBMIT_LO = none ∧ hwRetention SPN_SUBMIT_LO = false ∧
      (hwAfter (.lowWordWrite acc (BitVec.ofNat 21 SPN_SUBMIT_LO) 0x40) (open_ [])).bus.writeShadow.at (shadowKey 1 SPN_SUBMIT_LO) =
        some 0x40 := by decide +kernel

/-- A waiting write of VGL_ALARM_HI takes effect (R19). -/
theorem test_vglWriteEffect :
    let h := (open_ []).updPwr fun p => { p with vglWrites := [(VGL_IRQ_MASK, 1)] }
    (regFind VGL_IRQ_MASK).map (·.lowWord) = some false ∧ (hwAfter .vglWriteEffect h).reg VGL_IRQ_MASK = 1 ∧
      (hwAfter .vglWriteEffect h).pwr.vglWrites = [] := by decide +kernel

/-- A master's reset frees its semaphore (R27). -/
theorem test_masterReset :
    (hwAfter (.masterReset (.ac 0)) (open_ [(SEM_LOCK 3, SEM_LOCK.owner, 1)])).f (SEM_LOCK 3) SEM_LOCK.owner = 0 := by decide +kernel

/-- A waiting DMA requester stands one class higher (R29). -/
theorem test_fabricPromotion :
    (open_ []).classOf .dma < 3 ∧ (hwAfter (.fabricPromotion .dma) (open_ [])).classOf .dma = 2 := by decide +kernel

/-- Line 22 routed to core 2 is taken there (R38). -/
theorem test_deviceInterrupt :
    let h := (open_ [(CFG_IRQ_ROUTE 22, CFG_IRQ_ROUTE.enable, 1), (CFG_IRQ_ROUTE 22, CFG_IRQ_ROUTE.cores, 4),
      (CFG_IRQ_ROUTE 22, CFG_IRQ_ROUTE.level, 5), (SPN_CORE_EN 2, SPN_CORE_EN.in_service, 1), (GNS_IRQ_MASK, ⟨0, 1⟩, 1), (GNS_IRQ_STAT, ⟨0, 1⟩, 1)])
    h.lineLevel 22 = true ∧ h.flag (CFG_IRQ_ROUTE 22) CFG_IRQ_ROUTE.enable = true ∧ h.flag (CFG_IRQ_ROUTE 22) CFG_IRQ_ROUTE.sp = false ∧
      h.f (CFG_IRQ_ROUTE 22) CFG_IRQ_ROUTE.cores = 2 ^ 2 ∧ h.flag (SPN_CORE_EN 2) SPN_CORE_EN.in_service = true ∧
      h.runLevel 2 < h.f (CFG_IRQ_ROUTE 22) CFG_IRQ_ROUTE.level ∧ ((hwAfter (.deviceInterrupt 22) h).cores.at 2).taken = [(22, 5)] := by
  decide +kernel

/-- With debug unlocked a core halts (R43). -/
theorem test_debugHalt :
    let h := ((open_ []).updBrl fun b => { b with unlocked := true }).updCfg fun c => { c with image := { c.image with debugEnable := true } }
    h.debugOpen = true ∧ (h.cores.at 1).halted = false ∧ ((hwAfter (.debugHalt (.ac 1)) h).cores.at 1).halted = true := by decide +kernel

/-- A fault of a class that is only counted (R34). -/
theorem test_transientFault :
    (open_ []).f HLT_ERR HLT_ERR.transient < HLT_ERR.transient.max ∧
      (hwAfter (.transientFault 9 0 5 false) (open_ [])).f HLT_ERR HLT_ERR.transient = 1 := by decide +kernel

/-- A waiting retirement of bank 2 begins its copy to the spare (R374). -/
theorem test_retirementNext :
    let h := (open_ []).updHlt fun x => { x with queue := [⟨1, 2⟩], spareBank := some 11 }
    h.hlt.migrating = none ∧ h.hlt.bankMap = [] ∧ h.isRetired 1 11 = false ∧ (hwAfter .retirementNext h).hlt.migrating = some (2, 11) := by
  decide +kernel

/-- go starts verification (R48). -/
theorem test_reloadGo :
    Permitted (open_ []) acc CFG_RELOAD_CTRL ∧ (open_ []).reloadBusy = false ∧ (open_ []).f PWR_STAT PWR_STAT.state = 0 ∧
      (hwAfter (.reloadGo acc 2) (open_ [])).rlState = rlVerifying ∧ (hwAfter (.reloadGo acc 2) (open_ [])).rlPart = 2 := by decide +kernel

/-- A device whose reload is in a state. -/
def reloading (n : Nat) : Hw := open_ [(CFG_RELOAD_STAT, CFG_RELOAD_STAT.state, n), (CFG_RELOAD_STAT, CFG_RELOAD_STAT.partition, 6)]

/-- abort ends a reload with error 0x0B (R49). -/
theorem test_reloadAbort :
    Permitted (reloading 1) acc CFG_RELOAD_CTRL ∧ (reloading 1).rlState = rlVerifying ∧ CFG_RELOAD_CTRL.go.get (0 : Word) = 0 ∧
      (hwAfter (.reloadAbort acc 0) (reloading 1)).f CFG_RELOAD_STAT CFG_RELOAD_STAT.error = 0x0B := by decide +kernel

/-- An image with an error fails verification (R49). -/
theorem test_reloadVerified :
    (cleared (reloading 1)).verifyError default ≠ 0 ∧ (hwAfter (.reloadVerified default) (reloading 1)).rlState = rlFailed := by decide +kernel

/-- At the boundary of the Pins partition the reload is done (R49). -/
theorem test_reloadApply :
    let h := (reloading 2).updCfg fun c => { c with candidate := some default }
    h.rlState = rlWaiting ∧ (cleared h).atReloadBoundary h.rlPart (imagePart default h.rlPart) = true ∧
      (hwAfter .reloadApply h).rlState = rlDone := by decide +kernel

/-- The time limit ends a reload with error 0x08 (R49). -/
theorem test_reloadTimeout :
    (reloading 2).rlState = rlWaiting ∧ (hwAfter .reloadTimeout (reloading 2)).f CFG_RELOAD_STAT CFG_RELOAD_STAT.error = 0x08 := by
  decide +kernel

/-- A device whose image has preset 1 of function 0, which writes HLT_IRQ_MASK. -/
def withPreset : Hw :=
  (open_ []).updCfg fun c => { c with image := { c.image with partitions :=
    [{ (default : Partition) with presets := [⟨0, 1, [0x41], [(HLT_IRQ_MASK, 1)]⟩] }] } }

/-- A preset that exists is applied (R53). -/
theorem test_presetSelect :
    Permitted withPreset acc (CFG_PRESET_SEL 0) ∧ withPreset.cfg.presetBusy = none ∧
      ((withPreset.presetOf 0 (CFG_PRESET_SEL.preset.get 1)).filter fun p => p.name.any (· ≠ 0)).isSome = true ∧
      (hwAfter (.presetSelect acc 0 1) withPreset).cfg.presetBusy = some 0 ∧ (hwAfter (.presetSelect acc 0 1) withPreset).reg HLT_IRQ_MASK = 1 := by
  decide +kernel

/-- A preset that waited is applied (R53). -/
theorem test_presetQueuedApply :
    let h := withPreset.updCfg fun c => { c with presetBusy := some 3, presetQueue := [(0, 1, 1)] }
    ((h.presetOf 0 1).filter fun p => p.name.any (· ≠ 0)).isSome = true ∧ (hwAfter .presetQueuedApply h).cfg.presetBusy = some 0 := by
  decide +kernel

/-- A staged record drains (R56). -/
theorem test_stagingDrain :
    let h := (open_ []).stage 1 HLT_IRQ_MASK 1 false false false
    h.bus.staging.length = 1 ∧ h.alm.room = true ∧ h.bus.waiting = [] ∧ (hwAfter .stagingDrain h).bus.staging = [] := by decide +kernel

/-- An image that passes every check. -/
def goodImage : Image :=
  { (default : Image) with
    readOk := true, signatureOk := true, hashesOk := true, magic := 0x41474E56, formatVersion := 1, headerLength := 64, sectionCount := 9
    sectionIds := List.range 9, minStepping := 0xA0, privMask := 0x7FFE, keysDefined := true, stopaEnabled := true, stopLanes := 2
    partitions := List.replicate 9 default }

/-- A good image waits for its boundary (R49). -/
theorem test_reloadVerified_good :
    (cleared (reloading 1)).verifyError goodImage = 0 ∧ (hwAfter (.reloadVerified goodImage) (reloading 1)).rlState = rlWaiting := by
  decide +kernel

/-! ### Host ports, semaphores, mailboxes -/

/-- Port HA in SPI mode. -/
def spi : Hw := open_ [(HP_CFG 0, HP_CFG.mode, 1)]

/-- Port HA as an endpoint in L0, with BAR 2 of 64 KiB through context 0. -/
def pcie : Hw := open_ [(HP_LINK 0, HP_LINK.state, 2), (HP_CFG 0, HP_CFG.bar2_log2, 16), (SMU_CTX_CFG 0, SMU_CTX_CFG.enable, 1),
  (SMU_CTX_CFG 0, SMU_CTX_CFG.l1_log2, 4), (SMU_CTX_BASE_LO 0, ⟨12, 20⟩, 0x10000)]

/-- A table that maps the first 2 MiB of context 0 to SRAM at 0x10200000, at 0x10000000. -/
def pcieMem : Hw := pcie.storeBytes 0x10000000 (leBytes 8 (0x10200000 + 0xF))

/-- A port's reset (R58). -/
theorem test_portReset :
    spi.portMode 0 = modeSpi ∧ PortCause.spiReset ∈ [PortCause.spiWatchdog, .spiReset] ∧
      (hwAfter (.portReset .ha .spiReset) spi).flag (HP_IRQ_STAT 0) HP_IRQ_STAT.link_down = true ∧
      (hwAfter (.portReset .ha .spiReset) spi).f (HP_LINK 0) HP_LINK.down_count = 1 := by decide +kernel

/-- The link reaches L0 at 8 GT/s on two lanes (R58). -/
theorem test_pcieLinkUp : pcie.portMode 0 = modePcie ∧ (hwAfter (.pcieLinkUp .ha .gts8 true) pcie).f (HP_LINK 0) HP_LINK.speed = 3 := by
  decide +kernel

/-- A host reads SYS_ID (R59). -/
theorem test_bar0Request :
    pcie.endpointUp 0 = true ∧ Readable pcie (portAcc .ha 0) (regKey 0) ∧ (regFind (regKey 0)).map (·.lowWord) = some false ∧
      mbxChOf (regKey 0) = none ∧ (Hw.readOp (portAcc .ha 0) (regKey 0)).isNone = true ∧
      (hwAfter (.bar0Request .ha 0 (.read 1) true) pcie).bus.resp = .data [0x7128A000] := by decide +kernel

/-- A host writes device memory through its context (R59). -/
theorem test_bar2Request :
    pcieMem.endpointUp 0 = true ∧ pcieMem.f (HP_CFG 0) HP_CFG.bar2_log2 ≠ 0 ∧ 0x10 < 2 ^ pcieMem.f (HP_CFG 0) HP_CFG.bar2_log2 ∧
      0x10 % 4096 ≤ 4092 ∧ ((cleared pcieMem).writePhys 0x10200010 (leBytes 4 5)).isSome = true ∧ isRegSpace 0x10200010 = false ∧
      (hwAfter (.bar2Request .ha 0x10 (.write [5])) pcieMem).bus.resp = .done ∧
      (hwAfter (.bar2Request .ha 0x10 (.write [5])) pcieMem).byteAt 0x10200010 = 5 := by decide +kernel

/-- The context's table gives the address that the write goes to (R77). -/
theorem test_translate :
    (match (cleared pcieMem).translate 0 0x10 true with
      | .ok a => some a
      | .error _ => none) = some 0x10200010 := by decide +kernel

/-- An SPI write reaches SRAM (R60). -/
theorem test_spiWrite :
    spi.portMode 0 = modeSpi ∧ isRegSpace 0x10000000 = false ∧ ((cleared spi).writePhys 0x10000000 (leBytes 4 7)).isSome = true ∧
      (hwAfter (.spiWrite .ha 0x10000000 [7] false) spi).byteAt 0x10000000 = 7 ∧
      (hwAfter (.spiWrite .ha 0x10000000 [7] false) spi).f (HP_LINK 0) HP_LINK.state = 4 := by decide +kernel

/-- A frame with no words is not well formed, and is refused (R60). -/
theorem test_spiWrite_illFormed :
    WellFormed (.spiWrite .ha 0 [] true) = false ∧ WellFormed (.spiWrite .ha 0 (List.replicate 65 0) true) = false ∧
      WellFormed (.spiWrite .ha 0 [1] true) = true ∧
      (match exec (.spiWrite .ha 0 [] true) State.reset with
        | .refused (.illFormed _) => true
        | _ => false) = true := by decide +kernel

/-- An SPI read of SRAM (R60). -/
theorem test_spiRead :
    spi.readPhys 0x10000000 4 = some [0, 0, 0, 0] ∧
      (hwAfter (.spiRead .ha 0x10000000 0) spi).f (HP_LINK 0) HP_LINK.state = 4 := by decide +kernel

/-- A read that takes too long ends in 0xE1 after wait_max octets, at least 8 (R60). -/
theorem test_spiWaitTimeout :
    spi.readPhys 0x10000000 4 = some [0, 0, 0, 0] ∧ spi.waitMax 0 = 8 ∧
      (hwAfter (.spiWaitTimeout .ha 0x10000000 0) spi).bus.resp = .octets (List.replicate 8 0xFF ++ [0xE1]) := by decide +kernel

/-- The status octet shows and clears the watchdog's expiry (R60). -/
theorem test_spiStatus :
    (hwAfter (.spiStatus .ha) (spi.updHost 0 fun x => { x with wdogSeen := true })).bus.resp = .octets [8] := by decide +kernel

/-- 0x66 arms the reset (R60). -/
theorem test_spiResetEnable : ((hwAfter (.spiResetEnable .ha) spi).hosts.at 0).resetArmed = true := by decide +kernel

/-- 0x99 after 0x66 resets the target (R60). -/
theorem test_spiReset :
    (hwAfter (.spiReset .ha) (hwAfter (.spiResetEnable .ha) spi)).f (HP_LINK 0) HP_LINK.state = 0 := by decide +kernel

/-- The SPI watchdog (R61). -/
theorem test_spiWatchdogExpiry :
    let h := regs [(HP_SPI_CFG 0, HP_SPI_CFG.wdog_ms, 100)] spi
    h.f (HP_SPI_CFG 0) HP_SPI_CFG.wdog_ms ≠ 0 ∧ h.f (HP_LINK 0) HP_LINK.state ≠ 5 ∧
      (hwAfter (.spiWatchdogExpiry .ha) h).f (HP_LINK 0) HP_LINK.state = 5 := by decide +kernel

/-- A free semaphore is acquired by its reader; a held one reports its owner (R62). -/
theorem test_semLockRead :
    let h := open_ [(SEM_LOCK 3, SEM_LOCK.owner, 9)]
    Readable (open_ []) acc (SEM_LOCK 3) ∧ (hwAfter (.semLockRead acc 3) (open_ [])).f (SEM_LOCK 3) SEM_LOCK.owner = 1 ∧
      h.f (SEM_LOCK 3) SEM_LOCK.owner ≠ 0 ∧ Readable h acc (SEM_LOCK 3) ∧ (hwAfter (.semLockRead acc 3) h).bus.resp = .data [9] := by
  decide +kernel

/-- The owner's write of 0 releases; a write by another counts and leaves the owner (R62). -/
theorem test_semLockWrite :
    let h := open_ [(SEM_LOCK 3, SEM_LOCK.owner, 1)]
    let g := open_ [(SEM_LOCK 3, SEM_LOCK.owner, 9)]
    Permitted h acc (SEM_LOCK 3) ∧ Permitted g acc (SEM_LOCK 3) ∧ (hwAfter (.semLockWrite acc 3 0) h).f (SEM_LOCK 3) SEM_LOCK.owner = 0 ∧
      (hwAfter (.semLockWrite acc 3 0) g).f (SEM_LOCK 3) SEM_LOCK.owner = 9 ∧
      (hwAfter (.semLockWrite acc 3 0) g).f SEM_ERR SEM_ERR.last_index = 3 := by decide +kernel

/-- The key frees a semaphore (R63). -/
theorem test_semForce :
    let h := open_ [(SEM_LOCK 3, SEM_LOCK.owner, 9)]
    Permitted h acc SEM_FORCE ∧ SEM_FORCE.key.get (0x5E3A0003 : Word) = 0x5E3A ∧
      (hwAfter (.semForce acc 0x5E3A0003) h).f (SEM_LOCK 3) SEM_LOCK.owner = 0 := by decide +kernel

/-- Channel 0 between AC0 (side a) and HA (side b). -/
def mbx0 : Hw := open_ [(MBX_BIND 0, MBX_BIND.master_a, 1), (MBX_BIND 0, MBX_BIND.master_b, 10)]

/-- Channel 0 with `n` messages towards side b, and one towards side a. -/
def mbxFull (n : Nat) : Hw := { mbx0 with mbx := mbx0.mbx.set 0 { toA := [(0x18, 5)], toB := List.replicate n (8, 1) } }

/-- A message is queued for the other side; the ninth is refused (R91). -/
theorem test_mbxPost :
    mbx0.busError acc (MBX_POST_HI 0) true = false ∧ mbx0.mbxSide 0 1 = some false ∧ Permitted mbx0 acc (MBX_POST_HI 0) ∧
      ((hwAfter (.mbxPost acc 0 0x1203) mbx0).mbx.at 0).toB = [(0x300000000, 0x12)] ∧
      Permitted (mbxFull 8) acc (MBX_POST_HI 0) ∧ ((mbxFull 8).mbx.at 0).toB.length = 8 ∧
      (hwAfter (.mbxPost acc 0 0x1203) (mbxFull 8)).flag (MBX_QSTAT 0) MBX_QSTAT.last_refused = true := by decide +kernel

/-- A receive takes the oldest message (R91). -/
theorem test_mbxRecv :
    Readable (mbxFull 2) acc (MBX_RECV_LO 0) ∧ (mbxFull 2).mbxSide 0 1 = some false ∧
      (hwAfter (.mbxRecv acc 0) (mbxFull 2)).bus.resp = .data [0x18] ∧ ((hwAfter (.mbxRecv acc 0) (mbxFull 2)).mbx.at 0).toA = [] := by
  decide +kernel

/-- The channel lock goes to the reader that finds it free (R93). -/
theorem test_mbxChLockRead :
    Readable mbx0 acc (MBX_CH_LOCK 0) ∧ (hwAfter (.mbxChLockRead acc 0) mbx0).f (MBX_CH_LOCK 0) MBX_CH_LOCK.owner = 1 := by decide +kernel

/-- A ring sets the other side's doorbells (R94). -/
theorem test_mbxDbRing :
    mbx0.busError acc (MBX_DB_RING 0) true = false ∧ Permitted mbx0 acc (MBX_DB_RING 0) ∧
      (hwAfter (.mbxDbRing acc 0 6) mbx0).reg (sideReg (MBX_DB_STAT 0) true) = 6 := by decide +kernel

/-! ### Spindle, SMU, DMA -/

/-- A descriptor of priority 3, affinity to core 1, with `dep` dependences, in SRAM at 0x10000000. -/
def withDesc (dep : Nat) : Hw :=
  (open_ []).storeBytes 0x10000000 (leBytes 8 0x100 ++ leBytes 8 0x200 ++ leBytes 2 dep ++ leBytes 2 0 ++ [3, 2, 1, 0, 0, 0, 0, 0, 0, 0, 0, 0])

/-- AC0's low word of the submission is held. -/
def submitting (dep : Nat) : Hw := (withDesc dep).holdLow 1 SPN_SUBMIT_LO 0x10000000

/-- A submission with two dependences waits in slot 0 (R67). -/
theorem test_taskSubmit :
    let h := submitting 2
    Permitted h acc SPN_SUBMIT_HI ∧ heldLow h 1 SPN_SUBMIT_HI = 0x10000000 ∧ (h.readPhys 0x10000000 32).any h.taskDescOk = true ∧
      h.usableSlot 3 = some 0 ∧ ((hwAfter (.taskSubmit acc 0) h).task 0).state = .waiting ∧
      ((hwAfter (.taskSubmit acc 0) h).task 0).count = 2 ∧ (hwAfter (.taskSubmit acc 0) h).spn.results.at 1 = spnResult 0 512 := by decide +kernel

/-- Slot 5 holds a task of generation 1 in a state. -/
def task5 (stt : TaskState) (count : Nat) : Hw :=
  (open_ []).updTask 5 fun t => { t with gen := 1, state := stt, count := count, prio := 3, affinity := 2, lastCore := 1 }

/-- A token of two leaves one (R68). -/
theorem test_tokenPost :
    (task5 .waiting 2).handleSlot 517 = some 5 ∧ ((hwAfter (.tokenPost 517 true) (task5 .waiting 2)).task 5).count = 1 ∧
      ((hwAfter (.tokenPost 517 true) (task5 .waiting 2)).task 5).errIn = true := by decide +kernel

/-- A ready task is stolen by the idle core 1 (R70). -/
theorem test_affinityWindowExpiry :
    (task5 .ready 0).stealTarget 5 = some 1 ∧ ((hwAfter (.affinityWindowExpiry 5) (task5 .ready 0)).spnCore 1).offer = some 5 := by
  decide +kernel

/-- Core 1 accepts its offer (R71). -/
theorem test_taskAccept :
    let h := (task5 .offered 0).updCore 1 fun c => { c with offer := some 5 }
    Readable h (coreAcc 1) SPN_SELF ∧ ((hwAfter (.taskAccept 1) h).spnCore 1).running = some 5 ∧
      (hwAfter (.taskAccept 1) h).bus.resp = .data [0x80030205] := by decide +kernel

/-- A saved task is marked (R72). -/
theorem test_taskSaved :
    let h := (task5 .saving 0).updCore 1 fun c => { c with saving := [5] }
    Permitted h acc SPN_SAVED ∧ h.handleSlot 517 = some 5 ∧ ((hwAfter (.taskSaved acc 517) h).task 5).resumed = true ∧
      ((hwAfter (.taskSaved acc 517) h).spnCore 1).saving = [] := by decide +kernel

/-- A task saving too long is a fault (R72). -/
theorem test_savingTimeout :
    (task5 .saving 0).faultsIn 0 1 < 7 ∧ (hwAfter (.savingTimeout 5) (task5 .saving 0)).f HLT_ERR HLT_ERR.transient = 1 := by decide +kernel

/-- A task ends (R73). -/
theorem test_taskDone :
    let h := (task5 .running 0).updCore 1 fun c => { c with running := some 5 }
    Permitted h (coreAcc 1) SPN_DONE ∧ (h.spnCore 1).running = some 5 ∧ ((hwAfter (.taskDone 1 517 false) h).spnCore 1).running = none ∧
      ((hwAfter (.taskDone 1 517 false) h).task 5).state = .free := by decide +kernel

/-- A core that delivers no more (R75). -/
theorem test_coreDeliverDisable :
    let h := (task5 .offered 0).updCore 1 fun c => { c with offer := some 5 }
    Permitted h acc (SPN_CORE_EN 1) ∧ ((hwAfter (.coreDeliverDisable acc 1) h).spnCore 1).offer = none ∧
      (hwAfter (.coreDeliverDisable acc 1) h).flag (SPN_CORE_EN 1) SPN_CORE_EN.deliver = false := by decide +kernel

/-- A notice register is armed; with a notice pending for a waiting task it is spent at once (R69). -/
theorem test_noticeArm :
    let h := regs [(STM_NOTICE 2, noticePending, 1)] (task5 .waiting 2)
    Permitted (open_ []) acc (STM_NOTICE 2) ∧ (hwAfter (.noticeArm acc (.stm 2) 517) (open_ [])).f (STM_NOTICE 2) noticeHandle = 517 ∧
      Permitted h acc (STM_NOTICE 2) ∧ h.namesWaiting 517 = true ∧ h.flag (STM_NOTICE 2) noticePending = true ∧
      (hwAfter (.noticeArm acc (.stm 2) 517) h).flag (STM_NOTICE 2) noticePending = false := by decide +kernel

/-- An invalidation starts (R78). -/
theorem test_smuInvalidate :
    Permitted (open_ []) acc SMU_INVAL ∧ (hwAfter (.smuInvalidate acc 1 7) (open_ [])).smu.running = (1, 7, 0) ∧
      (hwAfter (.smuInvalidate acc 1 7) (open_ [])).flag SMU_INVAL SMU_INVAL.busy = true := by decide +kernel

/-- An invalidation ends; a queued one begins (R78). -/
theorem test_invalidateComplete :
    let h := hwAfter (.smuInvalidate acc 1 7) (open_ [])
    let g := { h with smu := { h.smu with queuedInval := [(2, 0, 0)] } }
    h.smu.queuedInval = [] ∧ (hwAfter .invalidateComplete h).flag SMU_INVAL SMU_INVAL.busy = false ∧
      (hwAfter .invalidateComplete g).smu.running = (2, 0, 0) := by decide +kernel

/-- DMA channel 3 parked on a write fault. -/
def parked3 : Hw := hwAfter (.translationFault 3 1 0x5000 true 2) (open_ [])

/-- A fault parks its unit and is queued (R79). -/
theorem test_translationFault :
    (open_ []).smu.queue.length < 64 ∧ parked3.isParked 3 = true ∧ parked3.smu.queue = [⟨0x5000, 2, true, 1, 3⟩] ∧
      parked3.f (DMA_CH_STAT 3) DMA_CH_STAT.state = 2 := by decide +kernel

/-- A pop takes the oldest record (R79). -/
theorem test_faultPop :
    Readable parked3 acc SMU_FAULT_POP_LO ∧ (hwAfter (.faultPop acc) parked3).bus.resp = .data [0x5000] ∧
      (hwAfter (.faultPop acc) parked3).smu.queue = [] := by decide +kernel

/-- A resume (R86). -/
theorem test_unitResume :
    Permitted parked3 acc (SMU_UNIT 3) ∧ (hwAfter (.unitResume acc 3) parked3).f (SMU_UNIT 3) SMU_UNIT.state = 2 := by decide +kernel

/-- An abort leaves the unit normal and its channel in error 0x3 (R86). -/
theorem test_unitAbort :
    (hwAfter (.unitAbort acc 3) parked3).f (SMU_UNIT 3) SMU_UNIT.state = 0 ∧
      (hwAfter (.unitAbort acc 3) parked3).f (DMA_CH_STAT 3) DMA_CH_STAT.error = 3 := by decide +kernel

/-- The park time limit leaves the channel in error 0x4 (R86). -/
theorem test_parkTimeout :
    (hwAfter (.parkTimeout 3) parked3).f (SMU_UNIT 3) SMU_UNIT.state = 0 ∧
      (hwAfter (.parkTimeout 3) parked3).f (DMA_CH_STAT 3) DMA_CH_STAT.error = 4 := by decide +kernel

/-- A channel that may start takes its descriptor's address (R80). -/
theorem test_dmaStart :
    let h := (regs [(DMA_CH_CFG 3, DMA_CH_CFG.enable, 1)] pcieMem).holdLow 1 (DMA_CH_START_LO 3) 0x1040
    Permitted h acc (DMA_CH_START_HI 3) ∧ h.flag (DMA_CH_CFG 3) DMA_CH_CFG.enable = true ∧
      (hwAfter (.dmaStart acc 3 2) h).dmaCur 3 = 0x200001040 := by decide +kernel

/-- A fill of 16 octets at 0x100 of context 0, its descriptor at 0x1000. -/
def fillDesc : DmaDesc :=
  { next := 0, src := 0x1122334455667788, dst := 0x100, length := 16, ctx := 0, srcSpace := 0, dstSpace := 0, flags := 8, token := 0, bad := 0 }

/-- Channel 3 runs the fill. -/
def filling : Hw := (((regs [(DMA_CH_STAT 3, DMA_CH_STAT.state, 1)] pcieMem).setReg64 (DMA_CH_CUR_LO 3) 0x1000)).setDma 3 ⟨some fillDesc, false⟩

/-- The fill moves whole and ends (R81). -/
theorem test_dmaDescriptorComplete :
    (Hw.dmaMove fillDesc [] [] 0 16 3 0 [] ((cleared filling).unitNormal 3)).2.2.2 = none ∧
      (hwAfter (.dmaDescriptorComplete 3 []) filling).f (DMA_CH_STAT 3) DMA_CH_STAT.state = 0 ∧
      (hwAfter (.dmaDescriptorComplete 3 []) filling).byteAt 0x10200100 = 0x88 ∧
      fieldAt ((List.range 4).map fun i => (hwAfter (.dmaDescriptorComplete 3 []) filling).byteAt (0x1020103C + i)) 0 4 = 2 ^ 31 + 16 := by
  decide +kernel

/-- A channel paused on a FIFO that has room goes on (R82). -/
theorem test_dmaFifoReady :
    let d := { fillDesc with dst := 4, dstSpace := 3 }
    let h := (regs [(STM_GEOM 4, STM_GEOM.mode, 1), (STM_GEOM 4, STM_GEOM.size_log2, 10)] (open_ [])).setDma 3 ⟨some d, true⟩
    h.fifoFits 4 16 = true ∧ (hwAfter (.dmaFifoReady 3) h).dmaCh 3 = ⟨some d, false⟩ := by decide +kernel

/-- A bank's copy ends (R89). -/
theorem test_migrationCopyDone :
    let h := ((open_ []).setByte 0x10400000 9).updHlt fun x => { x with migrating := some (2, 11) }
    (hwAfter (.migrationCopyDone [1]) h).hlt.bankMap.at 2 = 12 ∧ (hwAfter (.migrationCopyDone [1]) h).hlt.poisoned = [0x410001] ∧
      (hwAfter (.migrationCopyDone [1]) h).byteAt 0x11600000 = 9 := by decide +kernel

/-! ### Packet FIFOs -/

/-- FIFO 2 in a mode, of 256 words. -/
def fifo2 (mode : Nat) (x : Fifo) : Hw :=
  (open_ [(STM_GEOM 2, STM_GEOM.mode, mode), (STM_GEOM 2, STM_GEOM.size_log2, 10)]).setFifo 2 x

/-- A complete packet of two words. -/
def pkt2 : Pkt := ⟨5, 8, false, false, [0xA, 0xB], true, false⟩

/-- A framed push (R96). -/
theorem test_stmPush :
    let h := fifo2 1 { (default : Fifo) with reserved := true, openWords := [7], wr := 2 }
    Permitted h acc (STM_PUSH 2) ∧ h.fifoMode 2 = modeFramed ∧ 1 ≤ h.fifoSpace 2 ∧
      ((hwAfter (.stmPush acc 2 9) h).fifo 2).openWords = [7, 9] ∧
      ((hwAfter (.stmPush acc 2 9) (fifo2 1 default)).fifo 2).reserved = true := by decide +kernel

/-- A push into a full FIFO is dropped and sets overflow (R99). -/
theorem test_stmPush_full :
    let h := fifo2 1 { (default : Fifo) with reserved := true, openWords := [7], wr := 256 }
    Permitted h acc (STM_PUSH 2) ∧ h.fifoSpace 2 = 0 ∧ (hwAfter (.stmPush acc 2 9) h).flag (STM_STAT 2) STM_STAT.overflow = true ∧
      ((hwAfter (.stmPush acc 2 9) h).fifo 2).dropping = true := by decide +kernel

/-- A cut-through push completes the packet (R97). -/
theorem test_stmPush_cut :
    let h := fifo2 2 { (default : Fifo) with pkts := [{ pkt2 with words := [0xA], complete := false }], wr := 2 }
    Permitted h acc (STM_PUSH 2) ∧ h.fifoMode 2 = modeCut ∧ (h.fifo 2).openPkt.isSome = true ∧ 1 ≤ h.fifoSpace 2 ∧
      ((hwAfter (.stmPush acc 2 0xB) h).fifo 2).pkts = [pkt2] := by decide +kernel

/-- A framed commit makes the packet visible (R96). -/
theorem test_stmCommit :
    let h := fifo2 1 { (default : Fifo) with reserved := true, openWords := [0xA, 0xB], wr := 3 }
    Permitted h acc (STM_COMMIT 2) ∧ 8 ≤ h.packetLimit 2 ∧ wordsFor 8 = 2 ∧ ((hwAfter (.stmCommit acc 2 8 5) h).fifo 2).pkts = [pkt2] := by
  decide +kernel

/-- A cut-through start (R97). -/
theorem test_stmCommitStart :
    let h := fifo2 2 default
    Permitted h acc (STM_COMMIT 2) ∧ (h.fifo 2).openPkt.isNone = true ∧ 1 ≤ h.fifoSpace 2 ∧
      ((hwAfter (.stmCommitStart acc 2 8 5) h).fifo 2).pkts = [{ pkt2 with words := [], complete := false }] := by decide +kernel

/-- Aborts (R96, R97). -/
theorem test_stmCommitAbort :
    let h := fifo2 1 { (default : Fifo) with reserved := true, openWords := [0xA], wr := 2 }
    let g := fifo2 2 { (default : Fifo) with pkts := [{ pkt2 with words := [0xA], complete := false }], wr := 2 }
    Permitted h acc (STM_COMMIT 2) ∧ ((hwAfter (.stmCommitAbort acc 2) h).fifo 2).openWords = [] ∧
      ((hwAfter (.stmCommitAbort acc 2) h).fifo 2).wr = 0 ∧ Permitted g acc (STM_COMMIT 2) ∧ (g.fifo 2).openPkt.isSome = true ∧
      (((hwAfter (.stmCommitAbort acc 2) g).fifo 2).pkts.map (·.abort)) = [true] := by decide +kernel

/-- FIFO 2 with one complete packet. -/
def ready2 : Hw := fifo2 1 { (default : Fifo) with pkts := [pkt2], wr := 3 }

/-- A pop answers the packet's first word (R99). -/
theorem test_stmPop :
    Readable ready2 acc (STM_POP 2) ∧ ready2.fifoMode 2 ≠ 0 ∧ ready2.avail 2 = true ∧ pkt2.words[0]? = some 0xA ∧
      (hwAfter (.stmPop acc 2) ready2).bus.resp = .data [0xA] := by decide +kernel

/-- A flush at the boundary (R100). -/
theorem test_stmFlush :
    Permitted ready2 acc (STM_CTRL 2) ∧ (ready2.fifo 2).waiting = [] ∧ ((hwAfter (.stmFlush acc 2) ready2).fifo 2).pkts = [] := by decide +kernel

/-- A pending flush acts (R100). -/
theorem test_flushAct :
    let h := ready2.setFifo 2 { ready2.fifo 2 with flushPending := true }
    (h.fifo 2).begun = false ∧ ((hwAfter (.flushAct 2) h).fifo 2).pkts = [] := by decide +kernel

/-- A skip (R101). -/
theorem test_stmSkip :
    Permitted ready2 acc (STM_CTRL 2) ∧ (ready2.fifo 2).flushPending = false ∧ ((hwAfter (.stmSkip acc 2) ready2).fifo 2).pkts = [] := by
  decide +kernel

/-! ### The GNSS reference receiver -/

/-- Band links (R103). -/
theorem test_bandLink :
    (hwAfter (.bandLock 1 2) Hw.reset).f (GNS_BAND_STAT 1 2) GNS_BAND_STAT.link = 2 ∧
      (hwAfter (.frameError 1 2) Hw.reset).f (GNS_BAND_STAT 1 2) GNS_BAND_STAT.frame_err = 1 ∧
      (hwAfter (.bandLinkError 1 2) Hw.reset).flag GNS_IRQ_STAT GNS_IRQ_STAT.port_fault = true := by decide +kernel

/-- The reference clock (R104). -/
theorem test_gnssRef :
    let h := hwAfter .gnssRefLost (regs [(GNS_CFG, GNS_CFG.enable, 1), (GNS_STAT, GNS_STAT.state, 2)])
    h.gnsState = gnsHalted ∧ h.f GNS_STAT GNS_STAT.clk_state = 2 ∧ (hwAfter .gnssRefRestored h).gnsState = gnsSearching := by
  decide +kernel

/-- A time solution (R111). -/
theorem test_timeSolution :
    let h := hwAfter (.timeSolution (-5)) (regs [(GNS_STAT, GNS_STAT.state, 1)])
    h.gnsState = gnsRunning ∧ h.f GNS_TIME_OFS GNS_TIME_OFS.offset = 0x7FFFFFFB := by decide +kernel

/-- Antenna 0 with its L1 link locked, GPS L1 enabled, the receiver searching. -/
def gns0 : Hw := open_ [(GNS_STAT, GNS_STAT.state, 1), (GNS_ANT_CFG 0, GNS_ANT_CFG.quota, 8), (GNS_BAND_CFG 0 0, GNS_BAND_CFG.enable, 1),
  (GNS_BAND_CFG 0 0, GNS_BAND_CFG.lo, 157542000), (GNS_BAND_STAT 0 0, GNS_BAND_STAT.link, 2), (GNS_CFG, GNS_CFG.ref_ant, 0)]

/-- A restore of the reference (R116). -/
theorem test_referenceRestore :
    Permitted gns0 acc GNS_CTRL ∧ gns0.antUp 0 = true ∧ (hwAfter (.referenceRestore acc) gns0).gns.restore = true := by decide +kernel

/-- An epoch advances the count (R111). -/
theorem test_epochLatch : (hwAfter (.epochLatch 0 18 []) (regs [(GNS_STAT, GNS_STAT.state, 2)])).reg GNS_EPOCH = 1 := by decide +kernel

/-- A record that completes: its ring stands in SRAM by an identity block of context 1 (R122). -/
theorem test_recordComplete :
    let h := (regs [(SMU_CTX_CFG 1, SMU_CTX_CFG.enable, 1), (SMU_CTX_CFG 1, SMU_CTX_CFG.l1_log2, 1), (SMU_CTX_BASE_LO 1, ⟨0, 32⟩, 0x10000000),
      (GNS_REC_CFG, GNS_REC_CFG.ctx, 1), (GNS_REC_CFG, GNS_REC_CFG.ring_log2, 1)]).updGns
        fun g => { g with job := some ⟨0, 7, true, List.replicate 32 1, [], 0⟩ }
    let h := h.storeBytes 0x10000000 [0x0F, 0, 0, 0x10, 0, 0, 0, 0]
    h.recComplete.2.isSome = true ∧ (hwAfter .recordComplete h).gns.job = none ∧
      (hwAfter .recordComplete h).f GNS_REC_STAT GNS_REC_STAT.last_epoch = 7 := by decide +kernel

/-- A request is searched for at once in a free slot (R109). -/
theorem test_acqRequest :
    let v := GNS_ACQ_REQ.wide.set (GNS_ACQ_REQ.sv.set 0 5) 1
    Permitted gns0 acc GNS_ACQ_REQ ∧ gns0.gnsUp = true ∧ gns0.fitsBand 0 0 (gns0.satOf 0 5).k = true ∧ gns0.sought 0 0 5 = false ∧
      ((hwAfter (.acqRequest acc v) gns0).gns.searches.at 0).isSome = true := by decide +kernel

/-- A search for GPS 5 in slot 0. -/
def gnsSearch : Hw := gns0.updGns fun g => { g with searches := [(0, some (⟨0, 0, 5, none, false⟩, 0))] }

/-- A search that finds (R108). -/
theorem test_searchFound :
    gnsSearch.fitsBand 0 0 15 = true ∧ gnsSearch.usedChs.length < gnsSearch.quota 0 ∧ gnsSearch.freeChan = some 0 ∧
      ((hwAfter (.searchFound 0 3) gnsSearch).gch 0).phase = .pullIn ∧ ((hwAfter (.searchFound 0 3) gnsSearch).gch 0).sv = 5 := by
  decide +kernel

/-- A search that finds nothing, and its triple's hold (R109). -/
theorem test_searchNotFound :
    let h := hwAfter (.searchNotFound 0) gnsSearch
    (gnsSearch.endSearch 0 0 3).sought 0 0 5 = false ∧ gnsSearch.chanOf 0 0 5 = none ∧ h.gns.queue = [⟨0, 0, 5, none, true⟩] ∧
      ((hwAfter (.searchAgain 0 0 5) h).gns.searches.at 0).isSome = true := by decide +kernel

/-- Channel 3 in a phase. -/
def gnsCh (p : ChPhase) : Hw := gns0.setGch 3 { (default : GnsCh) with phase := p, sv := 5, k := 15 }

/-- The phases of a channel (R108). -/
theorem test_channelPhases :
    ((hwAfter (.pullInLock 3) (gnsCh .pullIn)).gch 3).phase = .tracking ∧ ((hwAfter (.pullInTimeout 3) (gnsCh .pullIn)).gch 3).phase = .idle ∧
      ((hwAfter (.lockLoss 3) (gnsCh .tracking)).gch 3).phase = .lost ∧ ((hwAfter (.relock 3) (gnsCh .lost)).gch 3).phase = .pullIn ∧
      ((hwAfter (.lostTimeout 3) (gnsCh .lost)).gch 3).phase = .idle := by decide +kernel

/-- Satellites (R108, R109). -/
theorem test_satellites :
    ((hwAfter (.satelliteSet 0 5 100 false) (gnsCh .tracking)).gch 3).phase = .idle ∧
      (hwAfter (.satelliteRise 3 7 4500 9) gns0).gns.sats.at (satKey 3 7) = ⟨4500, true, 9⟩ := by decide +kernel

/-- A channel's fault (R117). -/
theorem test_channelFault :
    let h := hwAfter (.channelFault 3 false) (gnsCh .tracking)
    (gnsCh .tracking).faultsIn 4 3 < 7 ∧ (h.gch 3).skipNext = true ∧ h.f GNS_ERR GNS_ERR.ch_fault = 1 := by decide +kernel

/-! ### The matrix engine -/

/-- Context 1 with the first 2 MiB of its addresses on SRAM from 0x1000_0000 on. -/
def ctx1 (l : List (Nat × Fld × Nat)) : Hw :=
  (open_ ([(SMU_CTX_CFG 1, SMU_CTX_CFG.enable, 1), (SMU_CTX_CFG 1, SMU_CTX_CFG.l1_log2, 1), (SMU_CTX_BASE_LO 1, ⟨0, 32⟩, 0x10000000)] ++ l)).storeBytes
    0x10000000 [0x0F, 0, 0, 0x10, 0, 0, 0, 0]

/-- A GAIN descriptor of a 1 × 1 matrix at 0x1000 of context 1: A at 0x2000, E at 0x3000. -/
def gainDesc : List Byte :=
  [3, 0, 1, 0, 0, 1, 0, 0] ++ leBytes 8 0x2000 ++ leBytes 24 0 ++ leBytes 8 0x3000 ++ leBytes 16 0

/-- The engine on, the descriptor in memory. -/
def mtxReady : Hw := (ctx1 [(MTX_CFG, MTX_CFG.enable, 1), (MTX_SUBMIT_LO, MTX_SUBMIT_LO.addr_lo, 0x1000 / 64)]).storeBytes 0x10001000 gainDesc

/-- A submission (R130). -/
theorem test_jobSubmit :
    let hi : Word := 1 <<< MTX_SUBMIT_HI.ctx.lo
    let h := hwAfter (.jobSubmit acc hi) mtxReady
    Permitted mtxReady acc MTX_SUBMIT_HI ∧ heldLow mtxReady 1 MTX_SUBMIT_HI = 0x1000 ∧ mtxReady.readCtx 1 0x1000 64 = .ok gainDesc ∧
      (parseJob gainDesc 1 0x1000).sound gainDesc = true ∧ (h.job 0).map MtxJob.op = some 3 ∧ h.mtx.nextId = 1 := by decide +kernel

/-- A submission with the engine off is refused (R130). -/
theorem test_jobSubmit_off :
    let h := hwAfter (.jobSubmit acc 0) (open_ [])
    Permitted (open_ []) acc MTX_SUBMIT_HI ∧ h.mtx.results.at 1 = mtxOutcome 4 0 0 ∧ h.mtx.slots = [] := by decide +kernel

/-- A job of GAIN in slot 0. -/
def gainJob : MtxJob := { parseJob gainDesc 1 0x1000 with phase := .queued }

/-- A dispatch to tile 0 (R139). -/
theorem test_jobDispatch :
    let h := mtxReady.setJob 0 (some gainJob)
    h.nextJob = some (0, gainJob, 0) ∧ h.tileFor gainJob = some 0 ∧
      (match h.loadOperands 1 gainJob.at gainJob.inputs with | .ok _ => true | .error _ => false) = true ∧
      (hwAfter .jobDispatch h).half 0 0 = some 0 := by decide +kernel

/-- A job computing in tile 0 with a NaN operand. -/
def nanJob : Hw :=
  (mtxReady.setJob 0 (some { gainJob with phase := .computing, loaded := [(0, [0, 0, 0, 0, 0, 0, 0xF8, 0x7F])] })).setHalf 0 0 (some 0)

/-- A job with a NaN operand ends with job_err (R127, R133). -/
theorem test_jobComplete :
    let h := hwAfter (.jobComplete 0) nanJob
    ((nanJob.job 0).any fun j => j.badInput) = true ∧ nanJob.isParked (mtxUnit 0) = false ∧ h.job 0 = none ∧
      h.flag MTX_IRQ_STAT MTX_IRQ_STAT.job_err = true ∧ h.readPhys 0x1000103C 4 = some [0, 0, 0, 0x83] := by decide +kernel

/-- Errors of a tile (R142). -/
theorem test_tileFault :
    let h := hwAfter (.tileFault 0 0 .residue) nanJob
    nanJob.faultsIn 2 0 < 7 ∧ h.f (MTX_TILE_ERR 0) MTX_TILE_ERR.residue = 1 ∧ (h.job 0).map MtxJob.phase = some .retrying ∧
      (hwAfter (.tileFault 1 0 .corrected) nanJob).f (MTX_TILE_ERR 1) MTX_TILE_ERR.ecc_corr = 1 ∧
      (hwAfter (.tileFault 0 0 .uncorrectable) (nanJob.updJob 0 fun j => { j with retries := 3, failed := [1, 0, 0] })).job 0 = none := by
  decide +kernel

/-- Self-tests (R144). -/
theorem test_selftest :
    let h := hwAfter (.selftestStart 2) (regs [(MTX_CFG, MTX_CFG.selftest_ms, 10)])
    h.f (MTX_TILE_STAT 2) MTX_TILE_STAT.state = 1 ∧ h.faultsIn 2 2 < 7 ∧ (hwAfter (.selftestComplete 2 false) h).hlt.tileTestFailed = [2] ∧
      (hwAfter (.selftestComplete 2 true) h).f (MTX_TILE_STAT 2) MTX_TILE_STAT.state = 0 := by decide +kernel

/-! ### Observations, fixes and verdicts -/

/-- A frame of robot 1 of the epoch 20 with a payload. -/
def frame1 (p : List Byte) : ObsIn := ⟨0, 1, 20, 5, p, 0⟩

/-- OBS on, robot 1 in a mode, the seed of epoch 20, one frame waiting. -/
def obs1 (mode : Nat) (p : List Byte) : Hw :=
  let h := open_ [(OBS_CFG, OBS_CFG.enable, 1), (FIX_RBT_CFG 1, FIX_RBT_CFG.mode, mode)]
  (h.updFix fun f => { f with seeds := [{ (default : Seed) with epoch := 20 }] }).updRad fun r => { r with toObs := [frame1 p] }

/-- A full frame of one entry, GPS 5 on L1. -/
def fullFrame : List Byte := [2, 0, 1, 0] ++ [0, 5] ++ leBytes 14 77

/-- What is asked of a frame that is taken (R146, R155). -/
def taken (h : Hw) (p : List Byte) : Bool :=
  !h.isParked obsUnit && h.obs.job.isNone && h.flag OBS_CFG OBS_CFG.enable && h.formatAllowed 1 (frameFmt p) && frameSound p &&
    (h.seedOfField 20).isSome && (h.orob 1).last.isNone && (h.freeObsBuf 1).isSome

/-- Frames (R153, R154, R155, R167). -/
theorem test_obsFrame :
    let full := hwAfter .obsFrame (obs1 1 fullFrame)
    let report := List.replicate 24 3
    (hwAfter .obsFrame ((obs1 1 fullFrame).setFlag OBS_CFG OBS_CFG.enable false)).flag OBS_IRQ_STAT OBS_IRQ_STAT.discard = true ∧
      taken (obs1 1 fullFrame) fullFrame = true ∧ (full.orob 1).last = some 20 ∧ full.f (OBS_RBT_STAT 1) OBS_RBT_STAT.set_tag = 20 ∧
      taken (obs1 2 report) report = true ∧ (hwAfter .obsFrame (obs1 2 report)).fix.reports = [(1, 20, report)] := by decide +kernel

/-- A residual frame of a set of one (R151), and one that does not match. -/
theorem test_obsFrame_residual :
    let p : List Byte := [1, 9, 1, 0, 0, 0, 0]
    let h := (obs1 1 p).updOrob 1 fun o => { o with set := [default] }
    let g := (h.setF (OBS_RBT_STAT 1) OBS_RBT_STAT.set_held 1).setF (OBS_RBT_STAT 1) OBS_RBT_STAT.set_tag 9
    taken g p = true ∧ ((hwAfter .obsFrame g).orob 1).last = some 20 ∧ taken h p = true ∧ ((hwAfter .obsFrame h).orob 1).sendFull = true := by
  decide +kernel

/-- A buffer under way is written on (R155): here its context is off, and the unit parks. -/
theorem test_obsFrame_write :
    let h := (obs1 1 fullFrame).updObs fun o => { o with job := some ⟨1, 0, 20, 0, [1]⟩ }
    h.obs.job.isSome = true ∧ (hwAfter .obsFrame h).isParked obsUnit = true := by decide +kernel

/-- Releases and a forced full frame (R154, R155). -/
theorem test_obsCtrl :
    let h := open_ [(OBS_RBT_STAT 7, OBS_RBT_STAT.buf0, 2), (OBS_RBT_STAT 7, OBS_RBT_STAT.buf1, 2)]
    Permitted h acc (OBS_RBT_CTRL 7) ∧ (hwAfter (.bufferRelease acc 7 2) h).f (OBS_RBT_STAT 7) OBS_RBT_STAT.buf1 = 0 ∧
      (hwAfter (.bufferRelease acc 7 2) h).f (OBS_RBT_STAT 7) OBS_RBT_STAT.buf0 = 2 ∧ ((hwAfter (.forceFull acc 7) h).orob 7).sendFull = true := by
  decide +kernel

/-- A position report (R167). -/
theorem test_positionReport :
    let p : List Byte := [3, 0, 0, 0] ++ leBytes 4 100 ++ leBytes 16 0
    let h := (regs [(FIX_RBT_CFG 1, FIX_RBT_CFG.mode, 2)]).updFix fun f => { f with reports := [(1, 20, p)] }
    ((hwAfter .positionReport h).frob 1).status = fixReported ∧ ((hwAfter .positionReport h).frob 1).sol.e = 100 := by decide +kernel

/-- A hold ends at its limit (R157). -/
theorem test_baseHoldExpiry :
    (hwAfter .baseHoldExpiry ((regs [(GNS_REC_HOLD, GNS_REC_HOLD.fix_hold, 6)]).updFix fun f => { f with holds := [(1, 20), (2, 22)] })).f
      GNS_REC_HOLD GNS_REC_HOLD.fix_hold = 4 := by decide +kernel

/-- Robot 1 in central mode, its fix fixed before, the base record of epoch 20. -/
def fix1 : Hw :=
  ((open_ [(FIX_RBT_CFG 1, FIX_RBT_CFG.mode, 1), (FIX_RBT_CFG 1, FIX_RBT_CFG.coast_max, 3), (FIX_CFG, FIX_CFG.min_sig, 4), (FIX_CFG, FIX_CFG.min_fix, 5)]).updFix
    fun f => { f with bases := [⟨20, 0, false, true, []⟩] }).updFrob 1 fun f => { f with status := fixFixed }

/-- A deadline without a frame, and without a base record (R161). -/
theorem test_epochDeadline :
    let h := hwAfter (.epochDeadline 1 20 default) fix1
    let g := hwAfter (.epochDeadline 1 25 default) fix1
    fix1.robotMode 1 = 1 ∧ fix1.frameIn 1 20 = false ∧ (h.frob 1).done = some 20 ∧ (h.frob 1).status = fixCoast ∧
      h.f (OBS_RBT_MISS 1) OBS_RBT_MISS.missed = 1 ∧ fix1.baseOf 25 = none ∧ g.f FIX_ERR FIX_ERR.base_missing = 1 := by decide +kernel

/-- A run of robot 1 at epoch 20. -/
def run1 (how : FixHow) : FixRun :=
  { (default : FixRun) with robot := 1, epoch := 20, how := how, searchFixed := true, held := 6, pairs := 6, conditioned := { (default : FixSol) with e := 9 } }

/-- Runs (R162, R165). -/
theorem test_fixPublish :
    let h := hwAfter (.fixPublish (run1 .solved)) fix1
    let g := hwAfter (.fixPublish (run1 .invalid)) fix1
    (fix1.baseOf 20).isSome = true ∧ (h.frob 1).done = some 20 ∧ (h.frob 1).status = fixFixed ∧ (h.frob 1).sol.e = 9 ∧
      (g.frob 1).status = fixNone ∧ g.flag FIX_IRQ_STAT FIX_IRQ_STAT.reset = true := by decide +kernel

/-- A record held too long (R165). -/
theorem test_pubDropTimeout :
    let h := Hw.reset.setFifo 0 { (default : Fifo) with waiting := [(prodPub, default)] }
    h.holdsPacket prodPub 0 = true ∧ (hwAfter .pubDropTimeout h).f FIX_ERR FIX_ERR.pub_dropped = 1 := by decide +kernel

/-- A snapshot of a record, and a reset asked for (R163, R165). -/
theorem test_fixTbl :
    let h := open_ [(FIX_TBL 3 1, ⟨0, 32⟩, 77)]
    Readable h acc (FIX_TBL 3 0) ∧ (hwAfter (.fixTblSnapshot acc 3) h).readShadow 1 (FIX_TBL 3 1) = some 77 ∧
      Permitted h acc (FIX_RBT_CTRL 3) ∧ ((hwAfter (.robotReset acc 3) h).frob 3).resetDue = true := by decide +kernel

/-- A verdict of a definite excursion (R169). -/
theorem test_spVerdict :
    let h := Hw.reset.updFix fun f => { f with verdicts := [⟨3, 20, vDefinite, none, 5, 0, false⟩] }
    h.spWorks = true ∧ ((hwAfter .spVerdict h).target 3).any (fun t => memb 8 t.asserting) = true ∧
      ((hwAfter .spVerdict h).spRob 3).speed = 5 := by decide +kernel

/-! ### Track reservation -/

/-- Two segments of 1 m from node 0 to 1 to 2, on conflict set 9 each. -/
def seg0 (a : Nat) : Seg := { (default : Seg) with length := 1000, speed := 1000, fromNode := a, toNode := a + 1, valid := true, sets := [9] }

/-- The engine on, with site time, context 1, a graph of two segments, and a request in slot 0 whose response address is not mapped, so that the slot
parks at its end. -/
def rsv1 (op : Nat) (robot old : Nat) (l : List (Nat × Fld × Nat)) : Hw :=
  (ctx1 ([(RSV_CFG, RSV_CFG.enable, 1), (RSV_CFG, RSV_CFG.horizon_s, 60), (RSV_CFG, RSV_CFG.hold_ticks, 10), (CAL_STAT, CAL_STAT.state, 1)] ++ l)).updRsv fun r => { r with
    segs := [(0, seg0 0), (1, seg0 1)], segCount := 2,
    slots := [(0, { (default : RsvSlot) with phase := .queued, op := op, robot := robot, count := 1, ctx := 1, addr := 0x1000, resp := 0x300000, oldToken := old, arg := if op = 6 then 1 else 0 })] }

/-- Element 0 of a path in memory: segment 1 from tick 10 to tick 200. -/
def elem1 : List Byte := [1, 0, 10, 0, 200, 0, 0, 0]

/-- Robot 5's token 4096 with one entry on segment 0, out at tick 50, and a hold of robot 6 on segment 1. -/
def held1 (h : Hw) : Hw :=
  h.updRsv fun r => { r with
    toks := [(0, ⟨1, 2, 5, 1, 50⟩)], used := 1, validity := [(0, ⟨1, true, 5⟩)],
    entries := [⟨5, 4096, 0, 1, 50, false, false, [(0, 0)]⟩, ⟨6, 0, 1, 1, 50, true, false, [(64, 1)]⟩] }

/-- A reservation in an empty engine (R183): robot 5 on segment 1. -/
theorem test_reserve :
    let h := (rsv1 1 5 0 []).storeBytes 0x10001020 elem1
    let q := askOf (h.rsvSlot 0) elem1
    let t := hwAfter (.reserve 0) h
    Served h 1 0 elem1 ∧ h.earlyTests q = none ∧ h.firstBlocked 5 0 (h.clipped q).1 = none ∧ h.nextTok = some 0 ∧
      freshToken h 0 = 4096 ∧ t.rsv.entries.map (fun e => (e.cal, e.token, e.tin, e.tout)) = [(1, 4096, 10, 200), (setCal 9, 4096, 10, 200)] ∧
      t.inForce 4096 = true ∧ SlotOver t 0 := by decide +kernel

/-- A check changes nothing (R183). -/
theorem test_check :
    let h := (rsv1 2 5 0 []).storeBytes 0x10001020 elem1
    Served h 2 0 elem1 ∧ (hwAfter (.check 0) h).rsv.entries = [] ∧ SlotOver (hwAfter (.check 0) h) 0 := by decide +kernel

/-- A replacement of token 4096 (R188). -/
theorem test_replace :
    let h := (held1 (rsv1 3 6 4096 [])).updRsv fun r => { r with toks := [(0, ⟨1, 2, 6, 1, 50⟩)] }
    let h := h.storeBytes 0x10001020 elem1
    let q := askOf (h.rsvSlot 0) elem1
    let t := hwAfter (.replace 0) h
    Served h 3 0 elem1 ∧ h.earlyTests q = none ∧ h.firstBlocked 6 0 (h.clipped q).1 = none ∧ h.rsv.used < 4096 ∧ t.inForce 4096 = false ∧
      t.inForce 4097 = true := by decide +kernel

/-- REVOKE and CLEAR_HOLD (R189). -/
theorem test_revoke :
    let h := held1 (rsv1 4 5 4096 [])
    let g := held1 (rsv1 5 6 0 [])
    Served h 4 0 [] ∧ h.noTime = false ∧ h.inForce 4096 = true ∧ (hwAfter (.revoke 0) h).inForce 4096 = false ∧
      (hwAfter (.revoke 0) h).rsv.entries.map Entry.token = [0, 0] ∧
      Served g 5 0 [] ∧ (hwAfter (.clearHold 0) g).rsv.entries.map Entry.robot = [5] := by decide +kernel

/-- A segment record: 500 mm at 1000 mm/s from node 1 to node 2, no set. -/
def rec500 : List Byte := leBytes 16 0 ++ leBytes 4 500 ++ [0, 0, 0xE8, 3, 1, 0, 2, 0, 0x20, 0, 0, 0] ++ List.replicate 8 0xFF ++ leBytes 8 0

/-- EDIT (R192). -/
theorem test_edit :
    let h := (rsv1 6 0 0 []).storeBytes 0x10001020 rec500
    Served h 6 0 rec500 ∧ (h.rsvEdit 1 rec500).2 = 0 ∧ ((hwAfter (.edit 0) h).seg 1).length = 500 := by decide +kernel

/-- A request packet of CLEAR_HOLD for robot 5 (R181, R182). -/
theorem test_rsvSubmit :
    let pkt : List Byte := [5, 0, 5, 0, 1, 0, 0, 0] ++ leBytes 24 0
    let h := ((rsv1 1 5 0 [(RSV_SUBMIT_LO, RSV_SUBMIT_LO.addr_lo, 0x1000 / 32)]).updRsv fun r => { r with slots := [] }).storeBytes 0x10001000 pkt
    let hi : Word := 1 <<< RSV_SUBMIT_HI.ctx.lo
    Permitted h acc RSV_SUBMIT_HI ∧ h.freeSlot = some 0 ∧ h.readCtx 1 0x1000 32 = .ok pkt ∧ headerOk pkt 1 = true ∧
      ((hwAfter (.rsvSubmit acc hi) h).rsvSlot 0).robot = 5 := by decide +kernel

/-- Graph loads (R175). -/
theorem test_graphLoad :
    let e := ctx1 []
    let h := hwAfter (.graphLoad acc 1 0) (e.setReg RSV_GRAPH_LO 0x2000)
    let g := h.storeBytes 0x10002000 (leBytes 4 7 ++ leBytes 4 1 ++ leBytes 8 0 ++ rec500)
    Permitted e acc RSV_GRAPH_HI ∧ h.f RSV_GRAPH_STAT RSV_GRAPH_STAT.state = 1 ∧ (hwAfter .graphLoadDone g).rsv.segCount = 1 ∧
      (hwAfter .graphLoadDone g).reg RSV_GRAPH_VER = 7 ∧
      (hwAfter (.graphLoad acc 1 0) (held1 (open_ []))).f RSV_GRAPH_STAT RSV_GRAPH_STAT.error = 1 := by decide +kernel

/-- A late acknowledgement (R196). -/
theorem test_mirrorAckTimeout :
    let h := (open_ []).updRsv fun r => { r with toks := [(0, ⟨1, 1, 5, 1, 50⟩)], used := 1, waitAck := [(4096, 3)] }
    h.inForce 4096 = true ∧ (hwAfter (.mirrorAckTimeout 4096) h).tokenValid 4096 = true ∧
      (hwAfter (.mirrorAckTimeout 4096) h).f RSV_ERR2 RSV_ERR2.mirror_late = 1 := by decide +kernel

/-- A sweep at tick 100 ends robot 5's token (R188). -/
theorem test_expirySweep :
    let h := held1 (open_ [])
    let g : Hw := { h with cal := { h.cal with sec := 1 } }
    g.acts = true ∧ (hwAfter .expirySweep g).inForce 4096 = false ∧ (hwAfter .expirySweep g).rsv.entries.length = 1 := by decide +kernel

/-- Revocations by register, and a query (R179, R190). -/
theorem test_rsvRevoke :
    let h := held1 (open_ [])
    let v : Word := RSV_REVOKE.robot.set (RSV_REVOKE.scope.set (RSV_REVOKE.go.set 0 1) 1) 5
    let w : Word := RSV_REVOKE.scope.set (RSV_REVOKE.go.set 0 1) 2
    Permitted h acc RSV_REVOKE ∧ h.inForce 4096 = true ∧ (hwAfter (.rsvRevoke acc v) h).inForce 4096 = false ∧
      (hwAfter (.rsvRevoke acc w) h).inForce 4096 = false ∧ Permitted h acc RSV_TOKQ ∧
      (hwAfter (.tokenQuery acc 4096) h).viewRsv 1 RSV_TOKQ_LAST = 50 ∧ (hwAfter (.tokenQuery acc 77) h).viewRsv 1 RSV_TOKQ_RES = 0 := by
  decide +kernel

/-- Errors in engine memory, and a poison's end (R194). -/
theorem test_rsvEccError :
    let h := held1 (open_ [(RSV_CFG, RSV_CFG.horizon_s, 10)])
    let p := hwAfter (.rsvEccError (.setCalendar 9)) h
    let q : Hw := { p with cal := { p.cal with sec := 20 } }
    p.isPoisoned (setCal 9) = true ∧ (hwAfter (.rsvEccError (.segment 1)) h).segClosed 1 = true ∧
      (hwAfter (.rsvEccError (.token 0)) h).inForce 4096 = false ∧ (hwAfter (.poisonClear 65545) p).isPoisoned (setCal 9) = true ∧
      (hwAfter (.poisonClear 65545) q).isPoisoned (setCal 9) = false := by decide +kernel

/-- An event held too long (R197). -/
theorem test_eventDropTimeout :
    let h := Hw.reset.setFifo 0 { (default : Fifo) with waiting := [(prodRsv, default)] }
    h.holdsPacket prodRsv 0 = true ∧ (hwAfter .eventDropTimeout h).f RSV_ERR2 RSV_ERR2.evt_dropped = 1 := by decide +kernel

/-! ### Lathe -/

/-- A request of robot 5 over segments 0 and 1 from rest (R203), of an op. -/
def lthPkt (op : Nat) : List Byte :=
  [BitVec.ofNat 8 op, 0, 5, if op = 4 then 0 else 2, 1, 0, 0, 0] ++ leBytes 8 0 ++ leBytes 8 0x300000 ++ leBytes 8 0 ++
    (if op = 4 then [] else leBytes 8 0 ++ leBytes 8 1)

/-- The engine with two segments, Lathe on, robot 5's limits, and a request in FIFO 0. -/
def lth1 (op : Nat) : Hw :=
  let h := regs [(LTH_CFG, LTH_CFG.enable, 1), (LTH_RBT_LIM0 5, LTH_RBT_LIM0.vmax, 1000), (LTH_RBT_LIM0 5, LTH_RBT_LIM0.amax, 1000),
    (LTH_RBT_LIM1 5, LTH_RBT_LIM1.dmax, 1000), (LTH_RBT_LIM1 5, LTH_RBT_LIM1.jmax, 1000), (STM_GEOM 0, STM_GEOM.mode, 1),
    (STM_GEOM 0, STM_GEOM.size_log2, 10)] (rsv1 1 9 0 [])
  (h.updRsv fun r => { r with slots := [] }).setFifo 0 { (default : Fifo) with
    pkts := [{ (default : Pkt) with words := bytesToWords (lthPkt op), length := (lthPkt op).length, complete := true }], wr := 20 }

/-- The packet is taken (R203). -/
theorem test_lthRequest :
    let h := hwAfter .lthRequest (lth1 1)
    (lthPkt 1).length = 48 ∧ lthHeaderOk (lthPkt 1) = true ∧ ((lth1 1).takePacket 0 512).isSome = true ∧ (h.lthSlot 0).robot = 5 ∧
      (h.lthSlot 0).phase = .computing ∧ (h.lthSlot 0).elems.map LthElem.seg = [0, 1] := by decide +kernel

/-- PLAN and NEGOTIATE pass their windows (R205). -/
theorem test_plan :
    let h := hwAfter .lthRequest (lth1 1)
    let g := hwAfter .lthRequest (lth1 2)
    h.lthPathOk (h.lthSlot 0) = true ∧ h.freeSlot = some 0 ∧ ((hwAfter (.plan 0) h).lthSlot 0).rsvSlot = some 0 ∧
      ((hwAfter (.plan 0) h).rsvSlot 0).path.map Prod.fst = [0, 1] ∧ ((hwAfter (.negotiate 0) g).lthSlot 0).phase = .reserving := by
  decide +kernel

/-- An ok answer makes the profile active (R207, R209). -/
theorem test_negotiateRound :
    let h := hwAfter (.plan 0) (hwAfter .lthRequest (lth1 1))
    let g := hwAfter (.negotiateRound 0) h
    h.slotTurn 0 = true ∧ h.activeProf 5 = none ∧ (g.activeProf 5).map Profile.token = some 4096 ∧ g.rsvSlot 0 = default ∧
      g.inForce 4096 = true := by decide +kernel

/-- PROFILE computes and answers; its response is not mapped, so that the slot parks (R205, R213). -/
theorem test_profile :
    let h := hwAfter .lthRequest (lth1 3)
    ((hwAfter (.profile 0) h).lthSlot 0).phase = .writing ∧ ((hwAfter (.profile 0) h).lthSlot 0).result.status = 0 ∧
      (hwAfter (.profile 0) h).isParked 192 = true := by decide +kernel

/-- Robot 5 with an active profile of token 4096. -/
def prof5 (h : Hw) : Hw :=
  let p : Profile := { (default : Profile) with token := 4096, robot := 5, finals := 3, arrive := 2000000000000 }
  let ph : Phase := { (default : Phase) with dur := 2000000000000, v := 1048576 }
  (held1 h).updLth fun l => { l with active := [(5, some { p with phases := [ph] })] }

/-- CANCEL (R205). -/
theorem test_cancel :
    let h := prof5 (hwAfter .lthRequest (lth1 4))
    (h.lthSlot 0).op = 4 ∧ (h.lthSlot 0).phase = .computing ∧ (hwAfter (.cancel 0) h).activeProf 5 = none ∧
      (hwAfter (.cancel 0) h).inForce 4096 = false := by decide +kernel

/-- A retry of a busy refusal, and its end (R205). -/
theorem test_reservationBusyRetry :
    let h := (hwAfter (.plan 0) (hwAfter .lthRequest (lth1 1))).updLthSlot 0 fun q => { q with rsvSlot := none, busySince := some 0 }
    let h := h.updRsv fun r => { r with slots := [] }
    let g : Hw := { h with cal := { h.cal with ns := 2000000 } }
    ((hwAfter (.reservationBusyRetry 0) h).lthSlot 0).rsvSlot = some 0 ∧ (hwAfter (.reservationBusyRetry 0) g).isParked 192 = true := by
  decide +kernel

/-- Robot 5 bound to lane 0. -/
def lane5 : Hw := (prof5 (open_ [(LTH_CFG, LTH_CFG.kf_repeat, 2)])).updRad fun r => { r with unslotted := [(5, 0)] }

/-- Track frames (R211). -/
theorem test_trackFrameQueue :
    lane5.laneOf 5 = some 0 ∧ lane5.tokenValid 4096 = true ∧
      ((hwAfter (.trackFrameQueue (some 5)) lane5).activeProf 5).map Profile.frames = some 1 ∧
      ((hwAfter (.trackFrameQueue none) lane5).activeProf 5).map Profile.frames = some 1 := by decide +kernel

/-- A track frame held too long (R211). -/
theorem test_kfDropTimeout :
    let h := Hw.reset.setFifo 0 { (default : Fifo) with waiting := [(prodLth, default)] }
    h.holdsPacket prodLth (h.f (RAD_LANE_FIFO 2) RAD_LANE_FIFO.tx_track) = true ∧ (hwAfter (.kfDropTimeout 2) h).f LTH_ERR LTH_ERR.kf_dropped = 1 := by
  decide +kernel

/-- Profiles end (R210). -/
theorem test_profileEnd :
    let g := lane5.updRsv fun r => { r with toks := [] }
    lane5.kfRepeat ≤ 3 ∧ lane5.inForce 4096 = true ∧ (hwAfter (.profileEnd 5) lane5).activeProf 5 = none ∧
      g.inForce 4096 = false ∧ (hwAfter (.profileEnd 5) g).flag LTH_IRQ_STAT LTH_IRQ_STAT.ended = true := by decide +kernel

/-- SP's time limits (R169, R170): robot 5 moves in central mode, unverifiable, fast under its stop. -/
theorem test_spTimeouts :
    let h := (regs [(FIX_RBT_CFG 5, FIX_RBT_CFG.mode, 1)] (prof5 Hw.reset)).updSpRob 5 fun x => { x with unverifiable := some 0, speed := 100 }
    let g := hwAfter (.stopLostTimeout 5) h
    h.spWorks = true ∧ h.robotMoves 5 = true ∧ (g.target 5).any (fun t => memb 8 t.asserting) = true ∧ g.stillSpeed < 100 ∧
      memb 9 (hwAfter (.stopConfirmTimeout 5) g).stp.sp = true ∧ h.trackCommitted = true ∧
      memb 9 (hwAfter .baseLossTimeout h).stp.sp = true ∧ memb 9 (hwAfter .silenceTimeout h).stp.sp = true := by decide +kernel

/-! ### Local axes -/

/-- Commands wait for the cycle (R218). -/
theorem test_axisCommands :
    let h := open_ []
    Permitted h acc (AXL_AX_CMD 3) ∧ ((hwAfter (.enable acc 3) h).axis 3).pendingCmd = some 1 ∧ ((hwAfter (.disable acc 3) h).axis 3).pendingCmd = some 2 ∧
      ((hwAfter (.moveAbs acc 3) h).axis 3).pendingCmd = some 3 ∧ ((hwAfter (.moveRel acc 3) h).axis 3).pendingCmd = some 4 ∧
      ((hwAfter (.jog acc 3) h).axis 3).pendingCmd = some 5 ∧ ((hwAfter (.halt acc 3) h).axis 3).pendingCmd = some 6 ∧
      ((hwAfter (.home acc 3) h).axis 3).pendingCmd = some 7 ∧ ((hwAfter (.setPos acc 3) h).axis 3).pendingCmd = some 8 ∧
      ((hwAfter (.follow acc 3) h).axis 3).pendingCmd = some 9 ∧ ((hwAfter (.release acc 3) h).axis 3).pendingCmd = some 10 := by decide +kernel

/-- AXL on with link 0; axis 3 asks to be enabled. -/
def axl3 : Hw := (open_ [(AXL_CFG, AXL_CFG.enable, 1), (AXL_LINK_CFG 0, AXL_LINK_CFG.enable, 1)]).updAxis 3 fun x => { x with pendingCmd := some 1 }

/-- A control cycle (R214, R218). -/
theorem test_controlCycle :
    let h := hwAfter .controlCycle axl3
    (axl3.axis 3).state = .disabled ∧ atRest (axl3.axis 3) = true ∧ (h.axis 3).enable = true ∧ (h.axis 3).state = .idle ∧ (h.axLink 0).seq = 1 ∧
      h.bus.out.length = 1 := by decide +kernel

/-- Upstream frames (R215). -/
theorem test_upstreamFrame :
    let b : List Byte := [0, 0, 0, 0, 0, 0, 0, 0, 0xFE, 0x02, 0, 0]
    let h := hwAfter (.upstreamFrame 0 (some (b ++ leBytes 2 (crc16 b)))) axl3
    axl3.upValid 0 (b ++ leBytes 2 (crc16 b)) = true ∧ (h.axis 3).fe = -2 ∧ (h.axis 3).limPos = true ∧
      (hwAfter (.upstreamFrame 0 none) axl3).f (AXL_LINK_ERR 0) AXL_LINK_ERR.missing = 1 ∧
      (hwAfter (.upstreamFrame 0 (some b)) axl3).f (AXL_LINK_ERR 0) AXL_LINK_ERR.crc_err = 1 := by decide +kernel

/-- A link fault (R216). -/
theorem test_linkFault :
    axl3.linkState 0 ≠ 3 ∧ ((hwAfter (.linkFault 0) axl3).axLink 0).faults = [0] ∧ (hwAfter (.linkFault 0) axl3).linkState 0 = 2 := by decide +kernel

/-- A step edge (R222). -/
theorem test_stepEdge :
    let h := (open_ [(AXL_AX_COARSE 3, AXL_AX_COARSE.coarse_div, 4)]).updAxis 3 fun x => { x with state := .following }
    ((hwAfter (.stepEdge 3 true true) h).axis 3).follow = 4 ∧ ((hwAfter (.stepEdge 3 true false) h).axis 3).follow = -4 := by decide +kernel

/-- Groups (R219, R220). -/
theorem test_groups :
    let h := axl3.updAxis 2 fun x => { x with state := .idle, enable := true }
    let v : Word := AXL_GRP_CFG.mask.set 0 4
    let g := hwAfter (.groupGo acc 1 v) h
    let m := hwAfter (.groupStart 1) g
    Permitted h acc (AXL_GRP_CFG 1) ∧ atRest (h.axis 2) = true ∧ g.grpState 1 = grpArmed ∧ (g.axis 2).state = .armed ∧ g.startMet 1 = true ∧
      m.grpState 1 = grpMoving ∧ (hwAfter (.groupHalt acc 1 v) g).grpState 1 = grpIdle ∧ (hwAfter (.groupHalt acc 1 v) m).grpState 1 = grpStopping := by
  decide +kernel

/-! ### The radio -/

/-- Lanes 0 and 1 in service, RAD on, robot 1 and a sleepy neighbour at entry 128 known, superframe under way. -/
def radio (l : List (Nat × Fld × Nat) := []) : Hw :=
  let h := open_ ([(RAD_CFG, RAD_CFG.enable, 1), (RAD_CFG, RAD_CFG.listen, 0), (RAD_STAT, RAD_STAT.in_service, 3),
    (RAD_LANE_DL 0, RAD_LANE_DL.start, 10), (RAD_LANE_DL 0, RAD_LANE_DL.cells, 80), (RAD_NB_CFG 0, RAD_NB_CFG.valid, 1),
    (RAD_NB_CFG 128, RAD_NB_CFG.valid, 1), (RAD_NB_CFG 128, RAD_NB_CFG.sleepy, 1), (RAD_NB_CFG 128, RAD_NB_CFG.joined, 1)] ++ l)
  let h := { h with ports := { h.ports with group := List.replicate 16 1, pairMaster := List.replicate 32 2 } }
  let h := { h with cal := { h.cal with sec := 0, ns := 1500000 } }
  h.updRad fun r => { r with started := true, tsf := 0 }

/-- A superframe starts (R237, R241). -/
theorem test_superframeStart :
    let h := hwAfter (.superframeStart [] 0) (radio [])
    radio.rad.bindDue = [] ∧ h.reg RAD_SFNUM = 1 ∧ h.rad.started = true ∧ radio.radSends = true ∧ radio.laneUp 1 = true ∧
      ((h.lane 1).frames.map (·.kind)) = [kBeacon] := by decide +kernel

/-- Lane info is due (R243, R247). -/
theorem test_txPacketTake_info :
    let h := radio.updLane 0 fun l => { l with infoDue := true }
    h.laneRoom 0 = true ∧ (((hwAfter (.txPacketTake 0) h).lane 0).frames.map (·.kind)) = [kLaneInfo] := by decide +kernel

/-- A track packet for robot 1 under token 0x1001 (R246, R247). -/
def trackPkt : Pkt := ⟨0, 16, false, false, [0x00010005, 0x00000001, 0x1001, 0xAABBCCDD], true, false⟩

/-- The packet is taken (R247). -/
theorem test_txPacketTake_track :
    let h := ((radio [(RAD_LANE_FIFO 0, RAD_LANE_FIFO.tx_track, 2), (STM_GEOM 2, STM_GEOM.mode, 1), (STM_GEOM 2, STM_GEOM.size_log2, 10)]).setFifo 2
      { (default : Fifo) with pkts := [trackPkt], wr := 5 })
    let h := { h with rsv := { h.rsv with validity := h.rsv.validity.set 1 { (default : Validity) with valid := true, gen := 1 } } }
    (h.takePacket 2 512).isSome = true ∧ h.laneRoom 0 = true ∧ badType (fieldAt trackPkt.octets 0 1 % 32) = false ∧
      fieldAt trackPkt.octets 8 4 = 0x1001 ∧ h.tokenValid 0x1001 = true ∧ h.nbOf (fieldAt trackPkt.octets 2 2) = some 0 ∧
      (((hwAfter (.txPacketTake 0) h).lane 0).frames.map fun f => (f.kind, f.payload)) = [(kTrack, [0xDD, 0xCC, 0xBB, 0xAA])] := by decide +kernel

/-- A correction waits (R247). -/
theorem test_txPacketTake_rtcm :
    let h := radio.updLane 0 fun l => { l with rtcm := [[1, 2]] }
    h.takePacket (h.f (RAD_LANE_FIFO 0) RAD_LANE_FIFO.tx_track) 512 = none ∧ h.takePacket (h.f (RAD_LANE_FIFO 0) RAD_LANE_FIFO.tx_echo) 512 = none ∧
      (((hwAfter (.txPacketTake 0) h).lane 0).frames.map (·.payload)) = [[1, 2]] := by decide +kernel

/-- A frame of RAD's own. -/
def bcast : TxFrame := ownFrame kRtcm ftRtcm [1, 2, 3]

/-- A frame starts (R230, R234). -/
theorem test_frameTransmit_go :
    let h := radio.updLane 0 fun l => { l with frames := [bcast] }
    let g := hwAfter (.frameTransmit 0 .go) h
    h.laneFree 0 = true ∧ pickTx h.now (h.mayStart 0) false (h.lane 0).frames = some bcast ∧ h.reg (ctrReg 0 bcast) ≠ 0xFFFFFFFF ∧
      (h.secureTx 0 bcast).isSome = true ∧ ((g.lane 0).onAir.map (·.octets)) = some (9 + 6 + 9 + 2 + 3 + 8) ∧
      g.reg (ctrReg 0 bcast) = h.reg (ctrReg 0 bcast) + 1 := by decide +kernel

/-- Lane 0 sends a frame that asks for an ACK. -/
def sending (cca : Bool) : Hw :=
  radio.updLane 0 fun l => { l with onAir := some ⟨false, false, cca, 0, some { bcast with ar := true, nb := some 0, retries := 1 }, 0, 37⟩ }

/-- Its end (R230, R231). -/
theorem test_frameTransmit_done :
    let h := sending false
    let air : Int := ((37 * 8000000 / h.rate 0 : Nat) : Int)
    let g := hwAfter (.frameTransmit 0 (.done (some 1000) (some (1000 + air)) 2)) h
    h.txOk 0 ⟨false, false, false, 0, none, 0, 37⟩ (some 1000) (some (1000 + air)) false = true ∧ (g.lane 0).onAir = none ∧
      g.f (RAD_LANE_TXCNT 0) RAD_LANE_TXCNT.frames = 1 ∧ ((g.lane 0).frames.map (·.waitAck)) = [some 1500000] := by decide +kernel

/-- A busy channel, the back-off's end, and a start after it (R240). -/
theorem test_frameTransmit_busy :
    let g := hwAfter (.frameTransmit 0 (.done none none 0x104)) (sending true)
    let r := g.updLane 0 fun l => { l with shut := true }
    let t := g.updLane 0 fun l => { l with frames := l.frames.map fun f => { f with psdu := [1, 2] } }
    (g.lane 0).onAir = none ∧ ((g.lane 0).frames.map (·.notBefore)) = [backOff] ∧ g.f (RAD_LANE_ERR 0) RAD_LANE_ERR.cca_busy = 1 ∧
      r.laneFree 0 = false ∧ (((hwAfter (.ccaRetry 0) r).lane 0).frames.map (·.notBefore)) = [1500000] ∧
      t.laneFree 0 = true ∧ (((hwAfter (.ccaRetry 0) t).lane 0).onAir.map (·.octets)) = some 6 := by decide +kernel

/-- A missing ACK (R249). -/
theorem test_ackTimeout :
    let h := fun r => radio.updLane 0 fun l => { l with frames := [{ bcast with ar := true, nb := some 0, retries := r, waitAck := some 0 }] }
    (((hwAfter (.ackTimeout 0) (h 1)).lane 0).frames.map fun f => (f.retries, f.waitAck)) = [(0, none)] ∧
      ((hwAfter (.ackTimeout 0) (h 0)).lane 0).frames = [] ∧ (hwAfter (.ackTimeout 0) (h 0)).f (RAD_NB_CNT 0) RAD_NB_CNT.retries = 1 := by
  decide +kernel

/-- Commands of the transceiver (R228). -/
theorem test_laneCommands :
    radio.cmdOpen 1 = true ∧ (hwAfter (.rxOn 1) radio).bus.out = [.lane 1 6 []] ∧ (hwAfter (.idle 1) radio).bus.out = [.lane 1 7 []] ∧
      (hwAfter (.regWrite 1 0x123 [7]) radio).bus.out = [.lane 1 8 [0x23, 1, 7]] ∧
      (hwAfter (.regRead 1 0x123 2 [7, 8, 9]) radio).bus.out = [.lane 1 9 [0x23, 1, 2]] ∧
      (hwAfter (.regRead 1 0x123 2 [7, 8, 9]) radio).bus.resp = .octets [7, 8] := by decide +kernel

/-- A frame is read, or nothing (R228, R231). -/
theorem test_laneIrq :
    ((hwAfter (.laneIrq 0 1 [1, 2] 40 200 500) radio).lane 0).rx = [⟨[1, 2], 40, 200, 1499500⟩] ∧
      ((hwAfter (.laneIrq 0 0 [] 0 0 0) radio).lane 0).idleReads = 1 := by decide +kernel

/-- A frame outside the format (R244). -/
theorem test_frameReceive_unsupported :
    let h := radio.updLane 0 fun l => { l with rx := [⟨[1, 2], 40, 200, 0⟩] }
    h.rxStep1 (parseFrame (h.f RAD_OUI RAD_OUI.oui) [1, 2]) = false ∧ ((hwAfter (.frameReceive 0) h).lane 0).rx = [] ∧
      (hwAfter (.frameReceive 0) h).f RAD_ERR2 RAD_ERR2.unsupported = 1 := by decide +kernel

/-- An observation frame of robot 1 with counter 9 and sequence number 4, in the form of R232–R236, with an octet of ciphertext and some MIC. -/
def obsPsdu : List Byte :=
  mhrBytes macData 4 (radio.f RAD_ID RAD_ID.pan_id) radio.baseAddr 1 false false ++ auxBytes 5 9 keyPair ++
    flizenIe (radio.f RAD_OUI RAD_OUI.oui) ftObs 1 7 0 none none true ++ [0xA, 1, 2, 3, 4]

/-- Such a frame comes as far as its key (R244, R245). -/
theorem test_frameReceive_obs :
    let h := radio.updLane 0 fun l => { l with rx := [⟨obsPsdu, 40, 200, 77⟩] }
    let p := parseFrame (h.f RAD_OUI RAD_OUI.oui) obsPsdu
    h.rxStep1 p = true ∧ rxStep2 p = true ∧ p.mac = macData ∧ p.ar = false ∧ (p.ie.map ieType) = some ftObs ∧ (p.ie.map ieFlood) = some none ∧
      h.sends = true ∧ h.nbOf (p.src.getD 0) = some 0 ∧ p.ctr = 9 ∧ p.seq = 4 ∧ h.freshOf 0 p.ctr p.seq = .new := by decide +kernel

/-- Without a key none opens (R234). -/
theorem test_frameReceive_auth :
    let h := radio.updLane 0 fun l => { l with rx := [⟨obsPsdu, 40, 200, 77⟩] }
    let h := { h with ports := { h.ports with pairMaster := [] } }
    (hwAfter (.frameReceive 0) h).f RAD_ERR RAD_ERR.auth_fail = 1 ∧ (hwAfter (.frameReceive 0) h).rad.toObs = [] := by decide +kernel

/-- A receive packet has waited (R246). -/
theorem test_rxDropTimeout :
    let h := (radio [(RAD_STREAMS, RAD_STREAMS.rx_fifo, 3)]).setFifo 3 { (default : Fifo) with waiting := [(prodRx, 0, [1])] }
    h.holdsPacket prodRx 3 = true ∧ (hwAfter .rxDropTimeout h).f RAD_ERR2 RAD_ERR2.rx_dropped = 1 := by decide +kernel

/-- A site broadcast of the base (R252). -/
theorem test_floodOriginate :
    let h := (radio [(RAD_STREAMS, RAD_STREAMS.flood_fifo, 2), (RAD_STREAMS, RAD_STREAMS.flood_mask, 3), (STM_GEOM 2, STM_GEOM.mode, 1),
      (STM_GEOM 2, STM_GEOM.size_log2, 10)]).setFifo 2
        { (default : Fifo) with pkts := [⟨0, 16, false, false, [0x00003008, 0, 0, 0xAABBCCDD], true, false⟩], wr := 5 }
    let g := hwAfter .floodOriginate h
    (h.takePacket 2 512).isSome = true ∧ (h.lanesUp.filter (bit 3)).all h.laneRoom = true ∧
      g.f RAD_FLOOD_ID RAD_FLOOD_ID.next_id = (h.f RAD_FLOOD_ID RAD_FLOOD_ID.next_id + 1) % 0x8000 ∧
      ((g.lane 1).frames.map fun f => (f.kind, f.payload)) = [(kSite, [0xDD, 0xCC, 0xBB, 0xAA])] := by decide +kernel

/-- A relay (R252). -/
theorem test_floodRelay :
    let h := radio.updRad fun r => { r with relays := [⟨ownFrame kRelay ftSite [1], [1]⟩] }
    h.laneRoom 1 = true ∧ (hwAfter .floodRelay h).rad.relays = [] ∧ ((hwAfter .floodRelay h).lane 1).frames = [ownFrame kRelay ftSite [1]] := by
  decide +kernel

/-- A poll with and without a frame held (R253). -/
theorem test_dataRequest :
    let h := radio.updRad fun r => { r with polls := [(0, 128)] }
    let g := h.updRad fun r => { r with indirect := [⟨128, 0, bcast⟩] }
    (hwAfter .dataRequest h).rad.polls = [] ∧ g.laneUp 0 = true ∧ g.laneRoom 0 = true ∧ (hwAfter .dataRequest g).rad.polls = [] ∧
      (hwAfter .dataRequest g).rad.indirect = [] ∧ ((hwAfter .dataRequest g).lane 0).frames = [bcast] := by decide +kernel

/-- A held frame expires (R253). -/
theorem test_indirectExpiry :
    let h := radio.updRad fun r => { r with indirect := [⟨128, 0, bcast⟩] }
    (hwAfter .indirectExpiry h).rad.indirect = [] ∧ (hwAfter .indirectExpiry h).f RAD_IND_STAT RAD_IND_STAT.indirect_drop = 1 := by decide +kernel

/-- A rendezvous (R254). -/
theorem test_rendezvous :
    let h := radio [(RAD_RDV_CFG, RAD_RDV_CFG.enable, 1), (RAD_RDV_CFG, RAD_RDV_CFG.lane_mask, 2)]
    (hwAfter .rendezvous h).rad.window = some [] ∧ ((hwAfter .rendezvous h).lane 1).rxOn = true := by decide +kernel

/-- The silent ones of a window (R255). -/
theorem test_rdvMissed :
    let h := radio.updRad fun r => { r with window := some [] }
    let l := h.setF (RAD_NB_CFG 128) RAD_NB_CFG.rdv_miss 3
    h.sleepy 128 = true ∧ h.flag (RAD_NB_CFG 128) RAD_NB_CFG.joined = true ∧ (h.rdvMissed 128).f (RAD_NB_CFG 128) RAD_NB_CFG.rdv_miss = 1 ∧
      (l.rdvMissed 128).flag (RAD_NB_CFG 128) RAD_NB_CFG.joined = false := by decide +kernel

/-! ### The stop sequencer -/

/-- The radio with the sequencer in a state, keys delivered, hosts enabled, at 1.5 ms. -/
def stp (state : Nat) (l : List (Nat × Fld × Nat) := []) : Hw :=
  let h := radio ([(STP_STAT, STP_STAT.state, state), (STP_SRC_CFG, STP_SRC_CFG.host_en, 1), (STP_SRC_CFG, STP_SRC_CFG.base_fleet, 1),
    (STP_CFG, STP_CFG.open_stop, 1), (STP_SRC_STAT, STP_SRC_STAT.latched, 0), (STP_CMD_CTR, STP_CMD_CTR.ctr, 5)] ++ l)
  { h with ports := { h.ports with stop := List.replicate 16 3, cmd := List.replicate 32 4 }, cfg := { h.cfg with applied := [3] } }

/-- An access of host A in the privileged view. -/
def accHa : BusAcc := ⟨.ha, .monitor, false, .word, true⟩

/-- A stop input (R261, R271). -/
theorem test_stopPin :
    let h := hwAfter (.stopPin .a false true) (stp stpRunning)
    let g := hwAfter (.stopPinFiltered .a) h
    (h.stp.pins.at 0).lo = true ∧ readsRun (h.stp.pins.at 0) = false ∧ (h.stp.pins.at 0).active = false ∧ h.pinEnabled .a = true ∧
      (g.stp.pins.at 0).active = true ∧ g.stpState = stpStopped ∧ g.f STP_STAT STP_STAT.reason = 1 ∧ g.fleetHold = true := by decide +kernel

/-- A discrepancy, and run again (R261). -/
theorem test_stopPin_disc :
    let h := hwAfter (.stopPin .b true true) (stp stpRunning)
    let g := hwAfter (.discrepancyLatch .b) h
    let r := hwAfter (.stopPin .b true false) (hwAfter (.stopPin .b false true) g)
    h.flag STP_PINS (discFld .b) = false ∧ g.flag STP_PINS (discFld .b) = true ∧ g.f STP_ERR STP_ERR.disc = 1 ∧
      readsRun (r.stp.pins.at 1) = true ∧ (r.stp.pins.at 1).seenStop = true ∧
      (hwAfter (.pinRunConfirmed .b) r).flag STP_PINS (discFld .b) = false := by decide +kernel

/-- SP's decisions (R263, R273). -/
theorem test_spDecision_fleet :
    let h := hwAfter (.spDecision false 1 0) (stp stpRunning)
    h.f STP_STAT STP_STAT.reason = 9 ∧ h.stpState = stpStopped ∧ memb 9 h.stp.sp = true ∧
      h.f STP_SRC_STAT STP_SRC_STAT.latched &&& (2 ^ 16 - 1 - 2 ^ 9 - 2 ^ 10) &&& (2 ^ 16 - 1 - h.targetSources) = 0 ∧
      (h.updStp fun p => { p with sp := without 9 p.sp }).fleetBlock = none ∧ h.paired = false := by decide +kernel

/-- The release (R273). -/
theorem test_spDecision_release :
    let h := (stp stpStopped [(STP_SRC_STAT, STP_SRC_STAT.latched, 512)]).updStp fun p => { p with sp := [9] }
    h.stopMinPassed = true ∧ (hwAfter (.spDecision true 1 0) h).stpState = stpRunning := by decide +kernel

/-- A targeted stop and its release (R263, R269, R273). -/
theorem test_spDecision_robot :
    let h := hwAfter (.spDecision false 0 5) (stp stpRunning)
    let g := hwAfter (.spDecision true 0 5) h
    ((h.target 5).map fun t => (t.asserting, t.sources)) = some ([8], [8]) ∧ h.f (STP_TGT 0) ⟨4, 1⟩ = 1 ∧ h.stpState = stpRunning ∧
      h.stp.targets.length = 1 ∧ g.target 5 = none ∧ g.f (STP_TGT 0) ⟨4, 1⟩ = 0 := by decide +kernel

/-- A stop frame of another base (R260, R268). -/
theorem test_stopFrame :
    let h := (stp stpRunning).updRad fun r => { r with toStp := [⟨0, 0, 0, (0xFF04, 0x8001, 2), stopPayload 1 3 7 0⟩] }
    fieldAt (stopPayload 1 3 7 0) 0 1 = 1 ∧ (stopPayload 1 3 7 0).length = 8 ∧ (hwAfter .stopFrame h).rad.toStp = [] ∧
      (hwAfter .stopFrame h).f STP_STAT STP_STAT.reason = 6 := by decide +kernel

/-- A readback (R272), a dry run (R274). -/
theorem test_readbackMismatch :
    let h := hwAfter (.readbackMismatch 2) (stp stpRunning)
    h.f STP_STAT STP_STAT.reason = 10 ∧ h.f STP_ERR STP_ERR.readback = 1 ∧
      (hwAfter (.dryRun 31) (stp stpRunning)).hlt.dryRunFailed = false ∧
      (hwAfter (.dryRun 30) (stp stpRunning)).f STP_STAT STP_STAT.reason = 10 := by decide +kernel

/-- SP (R32, R274, R279). -/
theorem test_spLockstepFail :
    let h := hwAfter (.spLockstepFail 1) (stp stpRunning)
    bit ((stp stpRunning).f STP_SRC_STAT STP_SRC_STAT.latched) 11 = false ∧ h.f STP_STAT STP_STAT.reason = 11 ∧ h.spWorks = false ∧
      (stp stpRunning).spWorks = true ∧ (hwAfter .spKick (stp stpRunning)).eqx.spKick = some 1500000 := by decide +kernel

/-- A fleet stop of host A needs no tag where open stops are allowed (R262). -/
theorem test_fleetStopCommand :
    let h := stp stpRunning [(STP_CMD_ARG, STP_CMD_ARG.kind, 1)]
    Permitted h accHa STP_CMD_TAG_HI ∧ h.stp.lastCtr < (h.reg STP_CMD_CTR).toNat ∧ STP_CMD_ARG.kind.get (h.reg STP_CMD_ARG) = 1 := by
  decide +kernel

/-- Its effect where no key has been delivered, so that no tag can verify. -/
theorem test_fleetStopCommand_open :
    let h := stp stpRunning [(STP_CMD_ARG, STP_CMD_ARG.kind, 1)]
    let g := hwAfter (.fleetStopCommand accHa 0) { h with ports := { h.ports with cmd := [] } }
    g.f STP_STAT STP_STAT.reason = 3 ∧ g.stpState = stpStopped ∧ g.f STP_CMD_RES STP_CMD_RES.result = 0 := by decide +kernel

/-- The targeted stop. -/
theorem test_targetedStopCommand_open :
    let h := stp stpRunning [(STP_CMD_ARG, STP_CMD_ARG.kind, 2), (STP_CMD_ARG, STP_CMD_ARG.robot, 7)]
    let g := hwAfter (.targetedStopCommand accHa 0) { h with ports := { h.ports with cmd := [] } }
    Permitted h accHa STP_CMD_TAG_HI ∧ STP_CMD_ARG.robot.get (h.reg STP_CMD_ARG) = 7 ∧ (g.target 7).isSome = true ∧ g.stpState = stpRunning := by
  decide +kernel

/-- A release without the key is refused (R262, R273). -/
theorem test_releaseCommand :
    let h := stp stpStopped [(STP_CMD_ARG, STP_CMD_ARG.kind, 3)]
    let g := hwAfter (.releaseCommand accHa 0) { h with ports := { h.ports with cmd := [] } }
    Permitted h accHa STP_CMD_TAG_HI ∧ h.fleetBlock = none ∧ h.stopMinPassed = true ∧ h.paired = false ∧
      STP_CMD_ARG.robot.get (h.reg STP_CMD_ARG) = 0 ∧ g.stpState = stpStopped ∧ g.f STP_CMD_RES STP_CMD_RES.result = 1 := by decide +kernel

/-- Arming (R266). -/
theorem test_arm :
    Permitted (stp stpUnarmed) accHa STP_CTRL ∧ (hwAfter (.arm accHa) (stp stpUnarmed)).stpState = stpStopped ∧
      (hwAfter (.arm accHa) (open_ [])).stpState = stpUnarmed := by decide +kernel

/-- A mark (R242, R270, R279). -/
theorem test_permitMark :
    let h := { stp stpRunning with eqx := { (stp stpRunning).eqx with spKick := some 0 } }
    let g := hwAfter (.permitMark 2) h
    h.sends = true ∧ h.laneUp 1 = true ∧ g.stp.permitSeq = 1 ∧ g.reg (STP_LANE_CTR 1) = h.reg (STP_LANE_CTR 1) + 1 ∧ g.eqx.wdogKick = 1500000 := by
  decide +kernel

/-- A repeat within the hold (R269). -/
theorem test_stopRepeat :
    let h := stp stpStopped [(STP_STAT, STP_STAT.hold, 1)]
    h.fleetHold = true ∧ h.stp.firstAt = none ∧ (hwAfter .stopRepeat h).reg (STP_LANE_CTR 1) = h.reg (STP_LANE_CTR 1) + 1 := by decide +kernel

/-- Robot 5 stopped. -/
def stopped5 : Hw := (stp stpRunning).updStp fun p => { p with targets := [{ (default : Target) with robot := 5, hold := true }] }

/-- A window's run (R269). -/
theorem test_stopRun :
    let h := hwAfter (.stopRun (.claim 0)) stopped5
    let g := hwAfter (.stopRun (.send 0)) h
    stopped5.nextTarget = some 5 ∧ h.stp.window = some (5, 0x8000) ∧ (h.lane 0).run = some 10 ∧ h.stp.relays = [] ∧
      g.reg (STP_LANE_CTR 0) = h.reg (STP_LANE_CTR 0) + 1 := by decide +kernel

/-- A relay goes in a run, or is dropped (R269). -/
theorem test_stopRun_relay :
    let r : StopRelay := ⟨true, 0, 0, (0xFF04, 0x8001, 2), [1], [0]⟩
    let h := ((stp stpRunning).updStp fun p => { p with relays := [r] }).updLane 0 fun l => { l with run := some 10 }
    (h.stp.relays.filter fun q => memb 0 q.lanes).find? StopRelay.fleet = some r ∧ (hwAfter (.stopRun (.send 0)) h).stp.relays = [] ∧
      (hwAfter .relayTimeout h).stp.relays = [] := by decide +kernel

/-- A hold ends (R269). -/
theorem test_stopHoldExpiry :
    (hwAfter (.stopHoldExpiry 0) (stp stpStopped [(STP_STAT, STP_STAT.hold, 1)])).fleetHold = false ∧
      ((hwAfter (.stopHoldExpiry 5) stopped5).stp.targets.map (·.hold)) = [false] := by decide +kernel

/-- Outputs (R272). -/
theorem test_outputs :
    let h := (stp stpRunning [(STP_OUT_CFG 1, STP_OUT_CFG.enable, 1), (STP_OUT_CFG 1, STP_OUT_CFG.pulse_us, 20)]).updStp fun p =>
      { p with marked := true }
    let g := hwAfter .outputDelayExpiry h
    let p := hwAfter (.testPulse 1 true) g
    g.stp.outsOn = true ∧ (g.outActive 1 = true) ∧ p.outActive 1 = false ∧ memb 1 p.stp.pulsing = true ∧
      (hwAfter (.testPulse 1 false) p).outActive 1 = true := by decide +kernel

/-! ### The pair -/

/-- A unit of a pair in a role, the link up and keyed. -/
def pair (role : Nat) (l : List (Nat × Fld × Nat) := []) : Hw :=
  let h := stp stpRunning ([(EQX_CFG, EQX_CFG.paired, 1), (EQX_STAT, EQX_STAT.role, role), (EQX_LINK, EQX_LINK.state, 2)] ++ l)
  { h with ports := { h.ports with link := List.replicate 32 5 } }

/-- Heartbeats (R276). -/
theorem test_heartbeats :
    let b : List Byte := 0x28 :: 0 :: 0x34 :: 0x12 :: List.replicate 44 0
    let h := hwAfter (.heartbeatReceive b true) (pair 1)
    (pair 1).paired = true ∧ (pair 1).linkUp = true ∧ (hwAfter .heartbeatSend (pair 1)).eqx.hbSeq = 1 ∧
      (hwAfter .heartbeatSend (pair 1)).eqx.txCount = 1 ∧ (h.eqx.peer.map (·.hold)) = some true ∧
      h.f EQX_STAT EQX_STAT.hb_seq = 0x1234 ∧ (hwAfter (.heartbeatReceive b false) (pair 1)).eqx.peer = none ∧
      (hwAfter (.heartbeatReceive b false) (pair 1)).f EQX_ERR EQX_ERR.auth_fail = 1 := by decide +kernel

/-- A missed heartbeat (R280). -/
theorem test_heartbeatMiss :
    let h := hwAfter .heartbeatMiss (pair 1)
    h.f EQX_LINK EQX_LINK.missed = 1 ∧ h.eqx.missedAt = some 1500000 := by decide +kernel

/-- The counters are mirrored (R277). -/
theorem test_mirrorBatch :
    let h := hwAfter .mirrorBatch (pair 2)
    (pair 2).role = 2 ∧ h.eqx.ctrSent = (pair 2).counterList := by decide +kernel

/-- Records in and out of sequence (R277, R278). -/
theorem test_mirrorRecord :
    let h := { pair 1 with eqx := { (pair 1).eqx with resynced := true, applied := 6 } }
    (hwAfter (.mirrorRecord 7 (.superframe 50000000 9 1 []) 20 true) h).rad.tsf = 50000000 ∧
      (hwAfter (.mirrorRecord 7 (.superframe 50000000 9 1 []) 20 true) h).reg RAD_SFNUM = 9 ∧
      (hwAfter (.mirrorRecord 7 (.axis 3 { (default : AxisSt) with pos := 5 }) 20 true) h).eqx.applied = 7 ∧
      ((hwAfter (.mirrorRecord 7 (.axis 3 { (default : AxisSt) with pos := 5 }) 20 true) h).axis 3).pos = 5 ∧
      (hwAfter (.mirrorRecord 9 (.base []) 20 true) h).eqx.resynced = false := by decide +kernel

/-- Snapshots and resync (R278). -/
theorem test_snapshot :
    let h := { pair 1 with eqx := { (pair 1).eqx with resynced := true, applied := 6 } }
    (hwAfter (.snapshot 0 [] [] true) (pair 2)).bus.out.length = 1 ∧ (hwAfter (.snapshot 44 [] [] true) h).eqx.applied = 44 ∧
      Permitted h acc EQX_CTRL ∧ (hwAfter (.resync acc) h).eqx.resynced = false ∧ (hwAfter (.resync acc) (pair 2)).bus.out.length = 1 := by
  decide +kernel

/-- The link (R278, R284). -/
theorem test_pairLink :
    (hwAfter .pairLinkDown (pair 2)).f EQX_LINK EQX_LINK.state = 0 ∧ (hwAfter .pairLinkUp (pair 2)).f EQX_LINK EQX_LINK.state = 2 := by
  decide +kernel

/-- EQX_SENSE and detection (R280). -/
theorem test_takeoverDetect :
    let h := hwAfter (.senseHigh true) (pair 1)
    let g := hwAfter .takeoverDetect h
    h.eqx.senseAt = some 1500000 ∧ (hwAfter (.senseHigh false) h).eqx.senseAt = none ∧ h.detects = true ∧ g.role = 3 ∧
      g.flag EQX_STAT EQX_STAT.hold = true ∧ g.eqx.warm = false := by decide +kernel

/-- A warm confirmation, and a double claim (R279, R281). -/
theorem test_interlockConfirm :
    let h := pair 3 [(EQX_STAT, EQX_STAT.hold, 1), (RAD_CFG, RAD_CFG.listen, 1)]
    let w := { h with eqx := { h.eqx with warm := true } }
    let u := h.setF EQX_CFG EQX_CFG.unit 1
    let g := w.gap
    h.role = 3 ∧ h.sends = false ∧ h.spWorks = true ∧ h.laneUp 1 = true ∧ h.laneDegraded 1 = false ∧ g = 1024 ∧
      w.f EQX_CFG EQX_CFG.unit = 0 ∧ (hwAfter (.interlockConfirm false) u).role = 1 ∧
      (hwAfter (.interlockConfirm false) u).flag EQX_STAT EQX_STAT.hold = false := by decide +kernel

/-- The watchdog (R279). -/
theorem test_interlockWatchdogExpiry :
    let h := pair 2 [(EQX_STAT, EQX_STAT.hold, 1)]
    (hwAfter .interlockWatchdogExpiry h).role = 1 ∧ (hwAfter .interlockWatchdogExpiry h).bus.out = [.pin "EQX_HOLD" true] := by decide +kernel

/-- A handover (R283). -/
theorem test_handover :
    let h := hwAfter (.handover acc) (pair 2 [(EQX_STAT, EQX_STAT.hold, 1)])
    let m := { h with eqx := { h.eqx with handover := .waitMark } }
    Permitted (pair 2) acc EQX_CTRL ∧ (pair 2).eqx.handover = .none ∧ h.eqx.handover = .waitReady ∧
      (hwAfter .handoverTimeout h).eqx.handover = .none ∧ (hwAfter .handoverRelease m).role = 1 ∧ m.role = 2 := by decide +kernel

/-- The fault latch (R280). -/
theorem test_clearFault :
    (hwAfter (.clearFault acc) (pair 1 [(EQX_STAT, EQX_STAT.interlock_fault, 1)])).flag EQX_STAT EQX_STAT.interlock_fault = false := by
  decide +kernel

/-! ### Calends and the switch -/

/-- Calends in a state at 2 s and 5 ns. -/
def calIn (st : Nat) (l : List (Nat × Fld × Nat) := []) : Hw :=
  let h := open_ ((CAL_STAT, CAL_STAT.state, st) :: l)
  { h with cal := { h.cal with sec := 2, ns := 5 } }

/-- A snapshot (R285). -/
theorem test_timeSnapshot :
    let h := hwAfter (.timeSnapshot acc) (calIn calFree)
    Readable (calIn calFree) acc CAL_TIME_NS ∧ h.bus.resp = .data [5] ∧ h.readShadow acc.master.num CAL_TIME_S_LO = some 2 := by decide +kernel

/-- An increment of 8 + 2^-32 ns (R286). -/
theorem test_incrementWrite :
    let h := calIn calFree [(CAL_INC_FRAC, CAL_INC_FRAC.frac, 1)]
    Permitted h acc CAL_INC_INT ∧ (hwAfter (.incrementWrite acc 8) h).cal.incNext = some (8 * 2 ^ 32 + 1) := by decide +kernel

/-- Steps (R287). -/
theorem test_step :
    let h := calIn calUnset
    let w := { h with bus := { h.bus with writeShadow := h.bus.writeShadow.set (shadowKey acc.master.num CAL_STEP_LO) (some 0xFFFFFFFB) } }
    Permitted w acc CAL_STEP_HI ∧ heldLow w acc.master.num CAL_STEP_HI = 0xFFFFFFFB ∧ w.stepAllowed = true ∧
      (hwAfter (.step acc 0xFFFFFFFF) w).now = 2000000000 ∧ (calIn calTracking).stepAllowed = false ∧
      (hwAfter (.step acc 0) (calIn calTracking)).f CAL_ERR CAL_ERR.step_refused = 1 := by decide +kernel

/-- Unset (R287). -/
theorem test_unset :
    Permitted (calIn calTracking) acc CAL_CTRL ∧ (calIn calTracking).noToken = true ∧
      (hwAfter (.unset acc) (calIn calTracking)).calState = calUnset ∧
      (hwAfter (.unset acc) (calIn calTracking [(STP_STAT, STP_STAT.state, 2)])).calState = calTracking := by decide +kernel

/-- A PTP offset (R288). -/
theorem test_offsetIn :
    let h := calIn calUnset [(CAL_CFG, CAL_CFG.source, 2), (CAL_CFG, CAL_CFG.servo_hw, 1)]
    let g := hwAfter (.offsetIn acc 5) h
    Permitted h acc CAL_OFS_IN ∧ h.stepAllowed = true ∧ g.f CAL_OFS CAL_OFS.offset = 5 ∧ g.now = 2000000000 := by decide +kernel

/-- Holdover (R289). -/
theorem test_sourceLost :
    let h := calIn calTracking [(CAL_UNC, ⟨0, 32⟩, 7)]
    (hwAfter .sourceLost h).calState = calHoldover ∧ (hwAfter .sourceLost h).cal.uncBase = 7 := by decide +kernel

/-- The timestamp queue (R293). -/
theorem test_tsqPop :
    let h := calIn calFree
    let g := { h with cal := { h.cal with tsq := [⟨1, 2, 3, 4, 5⟩] } }
    Readable g acc CAL_TSQ_ID ∧ (hwAfter (.tsqPop acc) g).cal.tsq = [] ∧
      (hwAfter (.tsqPop acc) g).bus.resp = .data [(TsEntry.words ⟨1, 2, 3, 4, 5⟩).1] ∧ (hwAfter (.tsqPop acc) h).bus.resp = .data [0] := by
  decide +kernel

/-- Encoder 1 counts up from 0 0 to 1 0, and down, and counts a jump (R298). -/
theorem test_encoderEdge :
    let h := calIn calFree [(CAL_ENC_CFG 1, CAL_ENC_CFG.enable, 1)]
    (hwAfter (.encoderEdge 1 true false) h).reg64 (CAL_ENC_CNT_LO 1) = 1 ∧
      (hwAfter (.encoderEdge 1 false true) h).reg64 (CAL_ENC_CNT_LO 1) = 2 ^ 64 - 1 ∧
      (hwAfter (.encoderEdge 1 true true) h).f (CAL_ENC_ERR 1) CAL_ENC_ERR.illegal = 1 := by decide +kernel

/-- Triggers (R299, R301). -/
theorem test_triggerArm :
    let h := (calIn calFree).setReg64 (CAL_TRIG_START_LO 3) 2000000005
    let v : Word := CAL_TRIG_CFG.target.set 0 7
    let a := hwAfter (.triggerArm acc 3 v) h
    let r := hwAfter (.triggerArm acc 3 (CAL_TRIG_CFG.target.set 0 8)) h
    Permitted h acc (CAL_TRIG_CFG 3) ∧ a.trigState 3 = trigArmed ∧ a.cal.next.at 3 = 2000000005 ∧ r.trigState 3 = trigRefused ∧
      r.f (CAL_TRIG_STAT 3) CAL_TRIG_STAT.reason = 3 ∧ (hwAfter (.triggerCancel acc 3 v) a).trigState 3 = trigIdle ∧
      a.trigPeriod 3 = 0 ∧ (hwAfter (.triggerFire 3) a).trigState 3 = trigFired ∧
      (hwAfter (.triggerFire 3) (a.setReg (CAL_TRIG_PERIOD 3) 10)).cal.next.at 3 = 2000000015 := by decide +kernel

/-- The switch, master of a ring, both links up. -/
def eth (ring : Nat) : Hw :=
  open_ [(ETH_RING, ETH_RING.enable, 1), (ETH_RING, ETH_RING.master, 1), (ETH_STAT, ETH_STAT.ring, ring), (ETH_PORT_CFG 0, ETH_PORT_CFG.enable, 1),
    (ETH_PORT_STAT 0, ETH_PORT_STAT.link, 1), (ETH_PTP_CFG, ETH_PTP_CFG.p2p, 1)]

/-- Frames (R295). -/
theorem test_ethFrame :
    (hwAfter (.ethFrame (.wire 0 [1, 2] false)) (eth 0)).f (ETH_PORT_ERR 0) ETH_PORT_ERR.fcs_err = 1 ∧
      (hwAfter (.ethFrame (.wire 0 [1, 2] true)) (eth 0)).reg (ETH_PORT_RXO_LO 0) = 2 := by decide +kernel

/-- A packet of the E2 transmit stream (R295). -/
theorem test_ethFrame_stream :
    let h := (regs [(ETH_STREAMS, ETH_STREAMS.tx_fifo, 2), (STM_GEOM 2, STM_GEOM.mode, 1), (STM_GEOM 2, STM_GEOM.size_log2, 10),
      (ETH_PORT_STAT 0, ETH_PORT_STAT.link, 0)] (eth 0)).setFifo 2
      { (default : Fifo) with pkts := [trackPkt], wr := 5 }
    (h.takePacket 2 512).isSome = true ∧ (hwAfter (.ethFrame .stream) h).reg (ETH_PORT_RXO_LO 2) = 16 := by decide +kernel

/-- A peer delay, the ring, the links (R294, R296, R302). -/
theorem test_ring :
    (hwAfter (.peerDelayMeasure 0 0x1000000) (eth 0)).f (ETH_PORT_STAT 0) ETH_PORT_STAT.path_delay = 0xFFFFFF ∧
      (eth 0).ringMaster = true ∧ (hwAfter .ringCheck (eth 0)).flag (ETH_PORT_STAT 1) ETH_PORT_STAT.blocked = true ∧
      (hwAfter .ringOpen (eth 1)).f ETH_STAT ETH_STAT.ring = 2 ∧ (hwAfter .ringOpen (eth 1)).f ETH_STAT ETH_STAT.breaks = 1 ∧
      (hwAfter .ringClose (eth 2)).f ETH_STAT ETH_STAT.ring = 1 ∧ (hwAfter (.ethLinkDown 0) (eth 0)).f (ETH_PORT_STAT 0) ETH_PORT_STAT.link = 0 ∧
      (hwAfter (.ethLinkUp 1) (eth 0)).f (ETH_PORT_STAT 1) ETH_PORT_STAT.link = 1 := by decide +kernel

/-! ### The meter -/

/-- The meter on, with a nominal voltage of 230 V. -/
def meter (l : List (Nat × Fld × Nat) := []) : Hw := open_ ([(MTR_CFG, MTR_CFG.enable, 1), (MTR_NOM, MTR_NOM.v_nom, 2300)] ++ l)

/-- The mains axis in a frame at 50 Hz, with the fundamental present (R309). -/
theorem test_mainsAxis :
    let h := meter.mainsAxis ⟨[0, 0, 0, 0, 0, 0, 0], 640, 50000, 230000, 7, false, none⟩
    meter.mtrOn = true ∧ h.f MTR_FREQ MTR_FREQ.freq = 50000 ∧ h.flag MTR_STAT MTR_STAT.mains_valid = true ∧ h.reg CAL_MAINS_LO = 7 ∧
      h.flag CAL_MAINS_HI CAL_MAINS_HI.valid = true := by decide +kernel

/-- A stall (R306). -/
theorem test_modulatorStall :
    let h := hwAfter (.modulatorStall 2 false) meter
    meter.chState 2 ≠ 3 ∧ h.f MTR_ERR MTR_ERR.ch_fault = 1 ∧ h.flag MTR_IRQ_STAT MTR_IRQ_STAT.ch_fault = true := by decide +kernel

/-- Harmonics held for a reader (R308). -/
theorem test_harmSnapshot :
    let h := meter [(MTR_HARM 2 5, ⟨0, 32⟩, 77)]
    Readable h acc (MTR_HARM 2 0) ∧ (hwAfter (.harmSnapshot acc 2) h).readShadow acc.master.num (MTR_HARM 2 5) = some 77 := by decide +kernel

/-- The debounce ends (R311); a dropped event. -/
theorem test_supplyOk :
    let h := { meter with mtr := { meter.mtr with okSince := some 0 } }
    let d := (meter [(MTR_SUPPLY_CFG, MTR_SUPPLY_CFG.fifo, 3)]).setFifo 3 { (default : Fifo) with waiting := [(prodMtr, 0, [1])] }
    h.flag MTR_STAT MTR_STAT.supply_ok = false ∧ (hwAfter .supplyOkDebounce h).flag MTR_STAT MTR_STAT.supply_ok = true ∧
      d.holdsPacket prodMtr 3 = true ∧ (hwAfter .supplyEventDrop d).f MTR_ERR MTR_ERR.evt_dropped = 1 := by decide +kernel

/-- Pulses (R314, R315). -/
theorem test_pulses :
    let h := meter [(MTR_PULSE_CFG 1, MTR_PULSE_CFG.enable, 1), (MTR_PULSE_STAT 1, MTR_PULSE_STAT.backlog, 4)]
    let b := hwAfter (.pulseOutput 1 true) h
    (h.stage_ 1).active = false ∧ h.stageOn 1 = true ∧ (b.stage_ 1).active = true ∧ b.f (MTR_PULSE_STAT 1) MTR_PULSE_STAT.backlog = 3 ∧
      ((hwAfter (.pulseOutput 1 false) b).stage_ 1).active = false ∧ Permitted b acc (MTR_PULSE_CFG 1) ∧
      ((hwAfter (.pulseConfig acc 1 0) b).stage_ 1).due = true ∧ ((hwAfter (.pulseConfig acc 1 0) b).stage_ 1).active = false := by decide +kernel

/-- Saves go to the slots in turn (R316). -/
theorem test_periodicSave :
    let a := hwAfter (.periodicSave true) meter
    let b := hwAfter (.periodicSave true) a
    a.mtr.newest = some false ∧ b.mtr.newest = some true ∧ b.mtr.slotB.seq = 2 ∧ (hwAfter (.periodicSave true) b).mtr.slotA.seq = 3 ∧
      (hwAfter (.periodicSave false) a).f MTR_ERR MTR_ERR.save_fail = 1 := by decide +kernel

/-- The end of conversion (R320). -/
theorem test_meterDisable :
    Permitted meter acc MTR_CFG ∧ (hwAfter (.meterDisable acc) meter).mtrOn = false ∧
      (hwAfter (.meterDisable acc) meter).flag MTR_IRQ_STAT MTR_IRQ_STAT.save = true := by decide +kernel

/-- The calibration set (R345): nothing valid in flash. -/
theorem test_calPersist :
    let h := { meter with upd := { meter.upd with calDue := true } }
    h.calNewest = none ∧ (hwAfter .calPersist h).upd.calDue = false := by decide +kernel

/-- The supply fails (R317, R399). -/
theorem test_supplyFail :
    let h := hwAfter (.periodicSave true) (regs [(EQX_CFG, EQX_CFG.paired, 1), (EQX_STAT, EQX_STAT.hold, 1), (EQX_STAT, EQX_STAT.role, 2)] meter)
    let g := hwAfter .supplyFail h
    h.pwr.unpowered = false ∧ h.pwr.power ≠ .off ∧ h.mtr.newest.isSome = true ∧ g.pwr.power = .off ∧ g.mtr.gasp.isSome = true ∧ g.role = 1 := by
  decide +kernel

/-! ### The key store -/

/-- An operation on key slot 5 with its descriptor at 0x1000 of context 1. -/
def opOf (code len auxLen : Nat) : BrlOp :=
  { (default : BrlOp) with
    state := 1, op := code, slot := 5, dstSlot := 6, ctx := 1, micLen := 4, src := 0x2000, dst := 0x3000, length := len, aux := 0x4000,
    auxLen := auxLen, desc := 0x1000 }

/-- Burl open, slot 5 of a class with a key, slot 6 a volatile one, and an operation in slot 0. -/
def burl (cls : Nat) (o : BrlOp) (l : List (Nat × Fld × Nat) := []) : Hw :=
  let h := ctx1 ([(BRL_STAT, BRL_STAT.state, brlOpen), (BRL_SLOT_DEF 5, BRL_SLOT_DEF.class, cls), (BRL_SLOT_DEF 6, BRL_SLOT_DEF.class, 1),
    (BRL_SLOT_DEF 6, BRL_SLOT_DEF.volatile, 1)] ++ l)
  (h.setSlot 5 (newSlot (List.replicate 16 9) 0 false)).setOp 0 (some o)

/-- Whether an operation of a code may run on its key and read an operand. -/
def fit (cls : Nat) (o : BrlOp) (a n : Nat) : Bool :=
  decide (Dispatchable (burl cls o) 0 o.op o) && decide (UsesKey (burl cls o) o cls (List.replicate 16 9)) &&
    ((dispatched (cleared (burl cls o)) 0 o).readCtx 1 a n).toOption.isSome

/-- Operations that may run, with their operands readable (R334–R336). -/
theorem test_fit :
    (opOf 1 8 13).nonceOk = true ∧ fit 1 (opOf 1 8 13) 0x4000 13 = true ∧ fit 1 (opOf 1 8 13) 0x2000 8 = true ∧ fit 1 (opOf 2 8 13) 0x2000 8 = true ∧
      fit 1 (opOf 2 8 13) 0x4000 13 = true ∧ fit 2 (opOf 3 8 0) 0x2000 8 = true ∧ fit 2 (opOf 4 8 0) 0x2000 8 = true := by decide +kernel

/-- The same of signatures and derivations. -/
theorem test_fit_sign :
    fit 3 (opOf 5 32 0) 0x2000 32 = true ∧ fit 4 (opOf 6 32 64) 0x2000 32 = true ∧ fit 4 (opOf 6 32 64) 0x4000 64 = true ∧
      (burl 6 (opOf 7 0 8)).dstOk (opOf 7 0 8) = true ∧ fit 6 (opOf 7 0 8) 0x4000 8 = true ∧ fit 5 (opOf 8 8 64) 0x4000 64 = true ∧
      fit 5 (opOf 8 8 64) 0x3000 8 = true ∧ fit 1 (opOf 9 8 0) 0x2000 8 = true := by decide +kernel

/-- Locked, an operation ends with status 8 (R335, R341). -/
theorem test_locked :
    let h := hwAfter (.hmac 0) (burl 2 (opOf 4 8 0) [(BRL_STAT, BRL_STAT.state, brlLocked)])
    h.brlOp 0 = none ∧ h.readPhys 0x1000103C 4 = some [0, 0, 0, 0x88] := by decide +kernel

/-- A key-update message for slot 5 (R331). -/
def kuMsg (op : Byte) : List Byte := [1, op, 5, 1, 1, 0, 0, 0] ++ List.replicate 21 0 ++ [16] ++ List.replicate 222 0

/-- A good one as far as its key, and a bad one (R331). -/
theorem test_keyUpdate :
    let h := fun (op : Byte) => (burl 1 (opOf 10 252 0)).storeBytes 0x10002000 (kuMsg op)
    let d := fun op => dispatched (cleared (h op)) 0 (opOf 10 252 0)
    Dispatchable (h 1) 0 10 (opOf 10 252 0) ∧ (d 1).readCtx 1 0x2000 252 = .ok (kuMsg 1) ∧ (h 1).brlRuns = true ∧ (h 1).kuCheck (kuMsg 1) = brlOk ∧
      (h 9).kuCheck (kuMsg 9) = brlBadMessage := by decide +kernel

/-- The bad one ends. -/
theorem test_keyUpdate_bad :
    let h := (burl 1 (opOf 10 252 0)).storeBytes 0x10002000 (kuMsg 9)
    (hwAfter (.keyUpdate 0) h).brlOp 0 = none ∧ (hwAfter (.keyUpdate 0) h).readPhys 0x1000103C 4 = some [0, 0, 0, 0x8D] := by decide +kernel

/-- A staged key of slot 1 (R332, R333). -/
def staged (at_ : Option Nat) (o : BrlOp) : Hw :=
  (burl 1 o).setShadow 1 (some ⟨List.replicate 16 7, 0, false, 0, 0, at_⟩)

/-- A swap of it (R332). -/
theorem test_swap :
    let o := { opOf 11 0 8 with slot := 1 }
    Dispatchable (staged none o) 0 11 o ∧ ((dispatched (cleared (staged none o)) 0 o).readCtx 1 0x4000 8).toOption.isSome = true ∧
      ((staged none o).shadow 1).isSome = true ∧ (staged none o).upd.writing = false := by decide +kernel

/-- It takes effect, expires, and the old key goes (R332, R333). -/
theorem test_swapTakeEffect :
    let h := staged (some 0) default
    let g := hwAfter (.swapTakeEffect 1) (h.setReg (STP_LANE_CTR 3) 9)
    let e := (staged none default).setOp 0 none
    let k := { h with ports := { h.ports with stopOld := [1], linkOld := [2] } }
    (g.keySlot 1).key = List.replicate 16 7 ∧ g.shadow 1 = none ∧ g.reg (STP_LANE_CTR 3) = 0 ∧
      (e.brlOps.any fun p => decide (e.opSlot p.2 = 1)) = false ∧ (hwAfter (.shadowExpiry 1) e).shadow 1 = none ∧
      (hwAfter (.oldKeyExpiry 1) k).ports.stopOld = [] ∧ (hwAfter (.oldKeyExpiry 2) k).ports.linkOld = [] ∧
      (hwAfter (.oldKeyExpiry 0) k).ports.stopOld = [1] := by decide +kernel

/-- A submission of an HMAC (R334). -/
theorem test_cryptoSubmit :
    let b := [4, 0, 5, 0, 1, 0, 0, 0] ++ leBytes 8 0x2000 ++ leBytes 8 0x3000 ++ leBytes 4 8 ++ List.replicate 36 0
    let h := ((ctx1 [(BRL_STAT, BRL_STAT.state, brlOpen), (BRL_SUBMIT_LO, BRL_SUBMIT_LO.addr_lo, 0x1000 / 64)]).storeBytes 0x10001000 b)
    let v : Word := BRL_SUBMIT_HI.ctx.set 0 1
    Permitted h acc BRL_SUBMIT_HI ∧ mayCrypt acc = true ∧ h.brlIsLocked = false ∧ heldLow h 1 BRL_SUBMIT_HI = 0x1000 ∧ h.readCtx 1 0x1000 64 = .ok b ∧
      (parseOp b 1 0x1000).sound b = true ∧ (List.range 16).find? (fun q => (h.brlOp q).isNone) = some 0 ∧
      ((hwAfter (.cryptoSubmit acc v) h).brlOp 0).map BrlOp.op = some 4 ∧ mayCrypt accHa = false ∧
      (hwAfter (.cryptoSubmit accHa v) h).f BRL_ERR BRL_ERR.refused = 1 := by decide +kernel

/-- A store write that waited (R336). -/
theorem test_storeWaitTimeout :
    let h := burl 1 { opOf 10 252 0 with state := 3 }
    (hwAfter (.storeWaitTimeout 0) h).brlOp 0 = none ∧ (hwAfter (.storeWaitTimeout 0) h).readPhys 0x1000103C 4 = some [0, 0, 0, 0x8E] := by
  decide +kernel

/-- Provisioning (R329). -/
theorem test_provisioning :
    let h := open_ [(BRL_STAT, BRL_STAT.state, brlOpen), (BRL_ESTATE_LO, ⟨0, 32⟩, 3)]
    let k := newSlot [1] 0 false
    let g := (((h.setSlot 0 k).setSlot 1 k).setSlot 2 k).setSlot 3 k
    Permitted h acc BRL_PROV ∧ (hwAfter (.provisioningClose acc 0xC1050001) g).brlState = brlClosed ∧
      (hwAfter (.provisioningClose acc 0xC1050001) h).flag BRL_IRQ_STAT BRL_IRQ_STAT.close_refused = true ∧ Permitted h acc BRL_ESTATE_HI ∧
      (hwAfter (.estateWrite acc 8) h).reg BRL_ESTATE_HI = 8 ∧
      (hwAfter (.estateWrite acc 9) (hwAfter (.estateWrite acc 8) h)).reg BRL_ESTATE_HI = 8 := by decide +kernel

/-- Debug (R338). -/
theorem test_debug :
    let h := open_ []
    Permitted h acc BRL_CTRL ∧ (hwAfter (.debugChallenge acc) h).brl.challenged = true ∧ Permitted h acc (BRL_DBG_ANS 15) ∧
      (hwAfter (.debugAnswer acc 7) h).brl.debugFails = 1 ∧ (hwAfter (.debugAnswer acc 7) h).brl.unlocked = false := by decide +kernel

/-- Tamper sources (R340, R341). -/
theorem test_tamper :
    let h := fun (n : Nat) => stp stpRunning [(BRL_TMP_CFG 2, BRL_TMP_CFG.level, n), (BRL_STAT, BRL_STAT.state, brlClosed)]
    let h2 := { h 2 with pwr := { (h 2).pwr with bootDue := false } }
    let a := hwAfter (.tamper 2 true) (h 1)
    let b := hwAfter (.tamper 2 true) h2
    (h 1).pwr.power = .run ∧ h2.startingUp = false ∧ a.f BRL_TMP_STAT BRL_TMP_STAT.latched = 4 ∧ a.flag BRL_IRQ_STAT BRL_IRQ_STAT.tamper = true ∧
      (hwAfter (.tamper 2 false) a).f BRL_TMP_STAT BRL_TMP_STAT.active = 0 ∧ b.brlState = brlLocked ∧ b.stpState = stpStopped ∧
      b.f STP_STAT STP_STAT.reason = 10 := by decide +kernel

/-- Debug sessions (R27, R42, R43). -/
theorem test_debugSession :
    let h := open_ [(SEM_LOCK 3, SEM_LOCK.owner, 15), (SEM_LOCK 4, SEM_LOCK.owner, 2)]
    let h := { h with cfg := { h.cfg with image := { h.cfg.image with debugEnable := true } }, brl := { h.brl with unlocked := true } }
    let h := h.setHalted 3 true
    h.debugOpen = true ∧ (h.cores.at (cpuNum (.ac 3))).halted = true ∧ ((hwAfter (.debugResume (.ac 3)) h).cores.at 3).halted = false ∧
      (hwAfter .debugSessionEnd h).f (SEM_LOCK 3) SEM_LOCK.owner = 0 ∧ (hwAfter .debugSessionEnd h).f (SEM_LOCK 4) SEM_LOCK.owner = 2 := by
  decide +kernel

/-! ### Updates -/

/-- The update engine with a record in hand. -/
def updWith (r : List Byte) (u : UpdSt) : Hw :=
  let h := open_ [(UPD_CFG, UPD_CFG.enable, 1), (BRL_STAT, BRL_STAT.state, brlOpen)]
  { h with upd := { u with inHand := some r } }

/-- A manifest of a Supervisor image of one piece; its nonce_base is zero, so that while slot 4 is empty and Burl open its piece is plaintext. -/
def mf : List Byte :=
  leBytes 4 0x50554C46 ++ [1, 2] ++ leBytes 2 1 ++ leBytes 4 3 ++ leBytes 4 100 ++ List.replicate 24 0 ++ List.replicate 32 7 ++ List.replicate 184 0

/-- A session of it. -/
def ses : Session := ⟨mf, 2, true, [0, 1, 2], [], []⟩

/-- An update engine with the session in a phase. -/
def upd (ph : Nat) : UpdSt :=
  { (default : UpdSt) with
    session := some ses, phase := ph, act0 := ⟨true, 4, [⟨false, true, 2, true, 1⟩, ⟨false, false, 0, false, 0⟩, ⟨false, true, 1, true, 2⟩]⟩,
    liveStructure := true }

/-- Whether a record is taken (UpdTakes). -/
def takes (h : Hw) (row : Nat) (p : Hw → Bool) : Bool :=
  (updNext (cleared h)).any fun x => decide (UpdTakes (cleared h) row x.1 x.2) && p x.2

/-- Manifests (R349). -/
theorem test_manifest :
    let r := [1, 0, 0, 0, 0, 0, 0, 0] ++ mf
    takes (updWith r default) 1 (fun g => decide (g.upd.session = none)) = true ∧
      takes (updWith r (upd phReceiving)) 1 (fun g => decide (g.upd.session = some ses)) = true ∧
      (hwAfter .manifest (updWith r (upd phReceiving))).f UPD_RES UPD_RES.code = resOk ∧
      mfSound mf = true := by decide +kernel

/-- A piece, the only one of its image (R350). -/
def pieceRec : List Byte := [2, 0, 7, 7, 0, 0, 0, 0] ++ List.replicate 4112 0

/-- Its fields (R348). -/
theorem test_piece_sound : recordRow pieceRec = 2 ∧ fieldAt pieceRec 4 2 = 0 ∧ ses.isId (fieldAt pieceRec 2 2) = true ∧ mfCount mf = 1 := by
  decide +kernel

/-- Its length (R348). -/
theorem test_piece_length : pieceRec.length = 4120 :=
  (List.length_append).trans (by rw [List.length_replicate]; rfl)

/-- It is sound (R348). -/
theorem test_piece_record : recordSound pieceRec = true := by
  have h : fieldAt pieceRec 0 1 = 2 ∧ fieldAt pieceRec 1 1 = 0 ∧ zeroAt pieceRec 6 2 = true := by decide +kernel
  simp [recordSound, h, test_piece_length]

/-- The engine takes it (R350). -/
theorem test_piece :
    UpdTakes (cleared (updWith pieceRec (upd phReceiving))) 2 pieceRec
      ((cleared (updWith pieceRec (upd phReceiving))).updUpd fun u => { u with inHand := none }) :=
  ⟨by decide +kernel, rfl, test_piece_sound.1, by decide +kernel, rfl, test_piece_record⟩

/-- A fragment (R348), and a fifth piece. -/
theorem test_fragment :
    let r := [3, 4, 7, 7, 0, 0, 0, 0] ++ List.replicate 128 5
    let u := upd phReceiving
    let u4 := { u with pieces := [⟨1, []⟩, ⟨2, []⟩, ⟨3, []⟩, ⟨4, []⟩] }
    takes (updWith r u) 3 (fun g => decide (g.upd.session = some ses ∧ g.upd.phase = phReceiving ∧ g.upd.pieces = [])) = true ∧
      takes (updWith r u4) 3 (fun g => decide (∀ p ∈ g.upd.pieces, p.index ≠ 0)) = true ∧
      (hwAfter (.fragment .ok) (updWith r u4)).upd.pieces.map PieceBuf.index = [2, 3, 4, 0] := by decide +kernel

/-- A settings record (R355). -/
theorem test_settings :
    let r := [4, 0, 0, 0, 0, 0, 0, 0] ++ leBytes 2 255 ++ leBytes 2 3 ++ [1, 2, 3]
    takes (updWith r default) 4 (fun g => decide (r.length = 12 + fieldAt r 10 2 ∧ fieldAt r 8 2 = g.appFormat ∧ g.upd.settings.gen = 0)) = true ∧
      (hwAfter (.settingsRecord .ok) (updWith r default)).upd.settings = ⟨true, 1, 255, [1, 2, 3]⟩ := by decide +kernel

/-- Erasing (R349, R351). -/
theorem test_eraseComplete :
    let h := { open_ [] with upd := upd phErasing }
    h.isParked updUnit = false ∧ (hwAfter (.eraseComplete .ok 2) h).upd.phase = phErasing ∧ (hwAfter (.eraseComplete .ok 3) h).upd.phase = phReceiving ∧
      (hwAfter (.eraseComplete .failed 0) { h with upd := { h.upd with fails := 2 } }).upd.phase = phFailed := by decide +kernel

/-- Activation, confirmation, rollback, abandoning (R349, R353, R354). -/
theorem test_activate :
    let h := { open_ [(UPD_CFG, UPD_CFG.tries, 3)] with upd := upd phReady }
    Permitted h acc UPD_CTRL ∧ (hwAfter (.activate acc 2) h).actPart 2 = ⟨true, true, 3, true, 2⟩ ∧
      (hwAfter (.activate acc 3) { h with upd := default }).f UPD_RES UPD_RES.code = resNotReady ∧
      ((hwAfter (.confirm acc 2) { h with upd := { h.upd with versions := [(4, some 9)] } }).actPart 2).floor = 9 ∧
      (hwAfter (.rollback acc 2) h).upd.rollbackDue = [2] ∧ ((hwAfter (.rollback acc 0) h).actPart 0).active = true ∧
      (hwAfter (.abandon acc 0x0D5A) h).upd.session = none ∧ (hwAfter (.abandon acc 0x0D5B) h).upd.session = some ses ∧
      (hwAfter (.recovery acc 0x0D5A) h).upd.recoverNext = true ∧
      (hwAfter (.updVerify acc) { h with upd := upd phReceiving }).upd.phase = phVerifying := by decide +kernel

/-- Recovery records (R360). -/
theorem test_recoveryRecord :
    let h := { open_ [] with upd := { (default : UpdSt) with recovery := true } }
    let fr := h.recoveryMac ++ [1, 2, 3, 4, 5, 6, 0x88, 0xB6, 9, 0, 0, 0, 0, 0, 0, 0]
    Permitted h acc UPD_RCV_DATA ∧ (hwAfter (.recoveryRecord (.word acc 1)) h).upd.rcv = [1, 0, 0, 0] ∧
      (hwAfter (.recoveryRecord (.frame fr)) h).f UPD_RES UPD_RES.code = resBad ∧
      (hwAfter (.recoveryRecord (.frame fr)) h).bus.out =
        [.eth 0 ([1, 2, 3, 4, 5, 6] ++ h.recoveryMac ++ [0x88, 0xB6, 9, 0, 0, 0, 0, 0, 1, 0])] := by decide +kernel

/-- A session to be verified (R351). -/
theorem test_verifyComplete :
    let h := { open_ [] with upd := upd phVerifying }
    h.upd.session = some ses ∧ h.upd.phase = phVerifying ∧ h.isParked updUnit = false := by decide +kernel

/-! ### The Almanac and the health report -/

/-- A record of firmware. -/
def rec1 : AlmRec := ⟨5, 0, 0x2000, 0x8000, 1, 2, 3, 0, 0⟩

/-- An Almanac in a state, of 32768 slots, with what it holds. -/
def alm (state : Nat) (a : AlmSt) (l : List (Nat × Fld × Nat) := []) : Hw :=
  { open_ ([(ALM_STAT, ALM_STAT.state, state), (ALM_CAP, ⟨0, 32⟩, 32768)] ++ l) with alm := a }

/-- Page programs (R364, R370): two waiting records, and the third failure. -/
theorem test_pageProgram :
    let a : AlmSt := { (default : AlmSt) with buffer := [rec1, rec1] }
    let h := alm almRecording { a with programming := 2 } [(ALM_COUNT, ⟨0, 32⟩, 7)]
    let g := { h with alm := { h.alm with attempts := (2, 0, 0) } }
    (hwAfter .pageProgram (alm almRecording a [(ALM_COUNT, ⟨0, 32⟩, 7)])).alm.programming = 1 ∧
      (hwAfter .pageProgram (alm almRecording a)).alm.programming = 2 ∧ (hwAfter (.programComplete .ok) h).reg ALM_COUNT = 9 ∧
      (hwAfter (.programComplete .ok) h).byteAt 0x09000000EC = 0x00 ∧ (hwAfter (.programComplete .ok) h).byteAt 0x09000000ED = 0x20 ∧
      (hwAfter (.programComplete .failed) h).almState = almRecording ∧ (hwAfter (.programComplete .failed) g).almState = almHalted ∧
      ((hwAfter (.programComplete .failed) g).alm.lastGasp.map AlmRec.a1) = [224] := by decide +kernel

/-- The 90 % mark (R364). -/
theorem test_fill90 :
    let h := alm almRecording { (default : AlmSt) with buffer := [rec1], programming := 1 } [(ALM_COUNT, ⟨0, 32⟩, 29491)]
    (hwAfter (.programComplete .ok) h).flag ALM_IRQ_STAT ALM_IRQ_STAT.fill_90 = true := by decide +kernel

/-- Clears (R367). -/
theorem test_clear :
    let a : AlmSt := { (default : AlmSt) with buffer := [rec1], clear := some ⟨0, 4⟩ }
    let h := alm almClearing a [(ALM_COUNT, ⟨0, 32⟩, 9), (ALM_LOST, ALM_LOST.lost, 3)]
    let g := hwAfter (.blockEraseComplete .ok) { h with flash := { h.flash with logSize := 1048576 } }
    Permitted h acc ALM_CLR_TAG_HI ∧ (hwAfter (.logClear acc 1) h).f ALM_CLR_RES ALM_CLR_RES.result = 4 ∧
      (hwAfter (.logClear acc 1) (alm almRecording default)).f ALM_CLR_RES ALM_CLR_RES.result = 1 ∧ h.alm.held + 2 < (h.reg ALM_CAP).toNat ∧
      g.alm.clear = some ⟨1, 4⟩ ∧ g.reg ALM_COUNT = 0 ∧ g.f ALM_STAT ALM_STAT.epoch = 1 ∧ g.alm.buffer.map AlmRec.code = [2, 0x8000] ∧
      (hwAfter (.blockEraseComplete .failed) h).alm.clear = some ⟨0, 4⟩ ∧
      (hwAfter (.blockEraseComplete .failed) { h with alm := { h.alm with attempts := (0, 0, 2) } }).almState = almHalted := by decide +kernel

/-- The open record (R365). -/
theorem test_eventAbsorb :
    let h := alm almRecording { (default : AlmSt) with opened := some rec1 }
    let g := alm almRecording { (default : AlmSt) with opened := some { rec1 with repeats := 65534 } }
    (hwAfter .eventAbsorb h).alm.opened = some { rec1 with repeats := 1 } ∧ (hwAfter .eventAbsorb g).alm.buffer.map AlmRec.repeats = [65535] ∧
      (hwAfter .flushTimeout h).alm.buffer = [rec1] ∧ Permitted h acc ALM_CTRL ∧ (hwAfter (.close acc) h).alm.buffer = [rec1] := by decide +kernel

/-- Posts (R372): recorded, refused, into a full log, into a full buffer. -/
theorem test_post :
    let a := fun (c : Word) (b : List AlmRec) => { (default : AlmSt) with posts := Map.set [] 1 (c, 1, 2), buffer := b }
    let h := alm almRecording (a 0x20008000 [])
    Permitted h acc (ALM_POST_ARG 2) ∧ (hwAfter (.post acc 3) h).alm.postResult.at 1 = 0 ∧
      ((hwAfter (.post acc 3) h).alm.opened.map fun r => (r.source, r.code, r.a0, r.a1, r.a2)) = some (0x2000, 0x8000, 1, 2, 3) ∧
      (hwAfter (.post acc 3) (alm almRecording (a 0x1FFF8000 []))).alm.postResult.at 1 = 1 ∧
      (hwAfter (.post acc 3) (alm almRecording (a 0x20007FFF []))).alm.postResult.at 1 = 1 ∧
      (hwAfter (.post acc 3) (alm almFull (a 0x20008000 []))).alm.postResult.at 1 = 3 ∧
      (hwAfter (.post acc 3) (alm almRecording (a 0x20008000 (List.replicate 512 rec1)))).alm.postResult.at 1 = 2 := by decide +kernel

/-- The health report (R11, R375). -/
theorem test_healthReport :
    let h := open_ []
    let g := h.setReg (HLT_REPORT 15) 7
    let f := h.setFifo 0 { (default : Fifo) with waiting := [(prodHlt, 0, [1])] }
    (hwAfter .healthReport h).reg (HLT_REPORT 0) = 1 ∧ Readable g acc (HLT_REPORT 0) ∧
      (hwAfter (.reportSnapshot acc) g).readShadow 1 (HLT_REPORT 15) = some 7 ∧ f.holdsPacket prodHlt (f.f HLT_CFG HLT_CFG.fifo) = true ∧
      (hwAfter .reportDropTimeout f).f HLT_ERR HLT_ERR.report_dropped = 1 := by decide +kernel

/-! ### Power, resets, start-up -/

/-- A device in a power state. -/
def pwr (l : List (Nat × Fld × Nat)) (g : PwrSt → PwrSt) : Hw := (open_ l).updPwr g

/-- A privileged access of core AC1. -/
def acc2 : BusAcc := ⟨.ac 1, .monitor, false, .word, true⟩

/-- Clusters and requests (R379, R380, R383). -/
theorem test_enter :
    let h := open_ [(SYS_CLUSTER 1, SYS_CLUSTER.gate_en, 1)]
    let g := pwr [(PWR_STAT, PWR_STAT.state, pwrEntering)] fun p => { p with step := 4, stopped := [0x18, 0x19, 0x17] }
    h.nothingFor 1 = true ∧ ((hwAfter (.clusterGate 1) h).cores.at 7).idle = true ∧ Permitted h acc PWR_CTRL ∧ h.pwrState = pwrRun ∧
      (hwAfter (.enterOff acc) h).f PWR_STAT PWR_STAT.target = 3 ∧ (hwAfter (.enterDeepSleep acc) h).pwr.step = 1 ∧
      (hwAfter (.powerAbort acc) g).f PWR_STAT PWR_STAT.reason = 0x15 ∧
      (hwAfter (.powerAbort acc) (open_ [(PWR_STAT, PWR_STAT.state, pwrBackOff)])).f PWR_STAT PWR_STAT.result = pwrAborted := by decide +kernel

/-- Answers of blocks (R380, R381, R358, R382): the update engine agrees, or is writing; the last block. -/
theorem test_blockAnswer :
    let h := pwr [(PWR_STAT, PWR_STAT.state, pwrEntering), (PWR_STAT, PWR_STAT.attempts, 1), (PWR_CFG, PWR_CFG.retries, 1)] fun p => { p with step := 1 }
    let g := { h with upd := { h.upd with writing := true } }
    let z := h.updPwr fun p => { p with step := 22 }
    (hwAfter (.blockAnswer true) h).pwr.stopped = [0x18] ∧ (hwAfter (.blockAnswer true) h).pwr.step = 2 ∧
      (hwAfter (.blockAnswer true) g).f PWR_STAT PWR_STAT.reason = 0x0D ∧ (hwAfter (.blockAnswer true) g).pwrState = pwrBackOff ∧
      (hwAfter .blockAnswerTimeout (g.setF PWR_STAT PWR_STAT.attempts 2)).f PWR_STAT PWR_STAT.result = pwrFailed ∧
      (hwAfter .backoffRetry (open_ [(PWR_STAT, PWR_STAT.state, pwrBackOff), (PWR_STAT, PWR_STAT.attempts, 15)])).pwr.pastCount = true ∧
      (hwAfter (.blockAnswer true) z).pwr.final = true ∧ (hwAfter (.blockAnswer false) z).f PWR_STAT PWR_STAT.reason = 0x14 ∧
      (hwAfter .backoffRetry (open_ [(PWR_STAT, PWR_STAT.state, pwrBackOff), (PWR_STAT, PWR_STAT.attempts, 1)])).f PWR_STAT PWR_STAT.attempts = 2 := by
  decide +kernel

/-- The final phase ends in Off (R382, R396). -/
theorem test_powerDown :
    let h := pwr [(PWR_STAT, PWR_STAT.target, 3)] fun p => { p with final := true }
    (hwAfter .powerDown h).pwr.power = .off ∧ (hwAfter .powerDown h).f PWR_LAST PWR_LAST.from = 3 ∧
      (hwAfter .powerDown h).f VGL_PMIC VGL_PMIC.en = 0 := by decide +kernel

/-- Wakes (R378, R382, R386). -/
theorem test_wake :
    let h := pwr [] fun p => { p with power := .deepSleep, rdvPeriod := 32768 }
    let a := (pwr [(VGL_CFG, VGL_CFG.alarm_en, 1), (VGL_CFG, VGL_CFG.wake_pol, 1)] fun p => { p with power := .sleep })
    let e := pwr [(PWR_STAT, PWR_STAT.state, pwrEntering), (PWR_STAT, PWR_STAT.target, 1), (HP_CFG 0, HP_CFG.mode, 1), (VGL_CFG, VGL_CFG.cs_wake, 1)] id
    let w := !(h.flag VGL_CFG VGL_CFG.wake_pol)
    Down h ∧ wakeNumber (h.setFlag VGL_STAT VGL_STAT.wake_in !w) (.pin w) = some causeWake ∧ h.wakesFrom .deepSleep causeWake = true ∧
      Returning (hwAfter (.wake (.pin w)) (h.setFlag VGL_STAT VGL_STAT.wake_in !w)) causeWake ∧ a.alarmNow = true ∧ Down a ∧
      Returning (hwAfter .alarm a) causeAlarm ∧ wakeNumber e .haCs = some causeHa ∧
      (hwAfter (.wake .haCs) e).f PWR_STAT PWR_STAT.reason = 0x13 ∧ Returning (hwAfter .rendezvousWake h) causeRdv ∧
      (hwAfter .alarm (a.updPwr fun p => { p with power := .run })).flag VGL_IRQ_STAT VGL_IRQ_STAT.alarm = true := by decide +kernel

/-- Regulators and stages (R385, R395). -/
theorem test_return :
    let h := pwr [] fun p => { p with power := .off, stage := .regulator }
    let f := hwAfter .pgTimeout h
    let m := pwr [(DDR_CH_STAT 0, DDR_CH_STAT.state, 2)] fun p => { p with power := .sleep, stage := .memory }
    let t : DdrTrain := { (default : DdrTrain) with second := true }
    (hwAfter (.pgGood 0) h).pwr.rail = 1 ∧ (hwAfter (.pgGood 2) (h.updPwr fun p => { p with rail := 2 })).pwr.stage = .oscillator ∧
      f.pwr.retryDue = true ∧ (hwAfter .pgRetry f).f VGL_STAT VGL_STAT.pg_retries = 1 ∧
      (hwAfter .pgTimeout (h.setF VGL_STAT VGL_STAT.pg_retries 3)).pwr.stayDown = true ∧
      (hwAfter (.returnStageReady [t]) m).pwr.stage = .logic ∧ (hwAfter (.returnStageReady []) m).pwr.bootDue = true ∧
      (hwAfter (.returnStageReady []) (pwr [] fun p => { p with power := .sleep, stage := .oscillator })).pwr.stage = .memory ∧
      LockedWith (hwAfter .pllLockTimeout (pwr [] fun p => { p with stage := .oscillator })) 5 := by decide +kernel

/-- The last stage (R378, R385). -/
theorem test_return_logic :
    let at_ := fun x => pwr [] fun p => { p with power := x, stage := .logic }
    (hwAfter (.returnStageReady []) (at_ .sleep)).flag PWR_IRQ_STAT PWR_IRQ_STAT.woke = true ∧
      (hwAfter (.returnStageReady []) (at_ .deepSleep)).pwr.warm = true ∧
      (hwAfter (.returnStageReady []) (at_ .off)).flag SYS_RST_CAUSE SYS_RST_CAUSE.supply_por = true := by decide +kernel

/-- Resets (R388–R390). -/
theorem test_resets :
    let h := pwr [(VGL_CFG, VGL_CFG.wdog_en, 1), (VGL_WDOG, VGL_WDOG.timeout_ms, 1), (RAD_CFG, RAD_CFG.enable, 1), (VGL_CNT_LO, ⟨0, 32⟩, 33)] fun p =>
      { p with bootDue := false }
    (hwAfter .resetPin h).flag SYS_RST_CAUSE SYS_RST_CAUSE.pin = true ∧ (hwAfter .resetPin h).f RAD_CFG RAD_CFG.enable = 0 ∧ (hwAfter .resetPin h).f RAD_CFG RAD_CFG.listen = 1 ∧
      (hwAfter .resetPin h).reg VGL_CNT_LO = 33 ∧ Permitted h acc SYS_RST_CTRL ∧
      (hwAfter (.softwareReset acc (SYS_RST_CTRL.device.set (SYS_RST_CTRL.key.set 0 0x7128) 1)) h).pwr.bootDue = true ∧
      (hwAfter (.softwareReset acc (SYS_RST_CTRL.device.set 0 1)) h).pwr.bootDue = false ∧ (hwAfter .watchdogExpiry h).pwr.bootDue = true ∧
      Permitted h acc VGL_WDOG ∧ (hwAfter (.watchdogKick acc) h).pwr.kickedAt = 33 ∧ (hwAfter .watchdogExpiry (hwAfter (.watchdogKick acc) h)).pwr.bootDue = false ∧
      (hwAfter .vbatPor h).vigilCount = 0 ∧ (hwAfter .vbatLoss h).vigilCount = 0 ∧
      (hwAfter .supplyPor (h.updPwr fun p => { p with power := .off, lostAt := 3 })).reg64 CAL_SLEEP_LO = 30 := by decide +kernel

/-- Cores (R27, R392). -/
theorem test_coreReset :
    let h := open_ [(SEM_LOCK 15, SEM_LOCK.owner, 3)]
    Permitted h acc (SYS_CORE_CTRL 2) ∧ (hwAfter (.coreReset acc 2) h).f (SEM_LOCK 15) SEM_LOCK.owner = 0 ∧
      (hwAfter (.coreReset acc2 1) h).f (SEM_LOCK 15) SEM_LOCK.owner = 3 ∧
      (hwAfter (.coreRelease acc 2) h).flag (SYS_CORE_CTRL 2) SYS_CORE_CTRL.run = true := by decide +kernel

/-- Start-up (R391–R395). -/
theorem test_boot :
    let h := pwr [] fun p => { p with bootDue := true }
    let x : Straps := ⟨1, 2, true, false⟩
    let at_ := fun n => (pwr [] fun p => { p with bootDue := false }).setStage n
    let b : BootFacts := { (default : BootFacts) with bank0Ok := true }
    let big := { at_ stActivation with flash := ⟨0x04000000, 0x100000⟩ }
    (hwAfter (.boot x true) h).reg SYS_STRAP = 0x19 ∧ (hwAfter (.boot x true) h).f (HP_CFG 1) HP_CFG.mode = 2 ∧
      (hwAfter (.warmStart true) (h.updPwr fun p => { p with warm := true })).flag SYS_RST_CAUSE SYS_RST_CAUSE.deep_sleep = true ∧
      (hwAfter (.bootStageComplete b) (at_ stRom)).bootStage = stKeys ∧ LockedWith (hwAfter (.bootStageComplete default) (at_ stRom)) 1 ∧
      (at_ stKeys).startTamper = false ∧ LockedWith (hwAfter (.bootStageComplete b) (at_ stKeys)) 2 ∧ big.bootStage = stActivation ∧
      LockedWith (hwAfter (.bootStageComplete b) { at_ stActivation with flash := ⟨0, 0⟩ }) 3 ∧
      (hwAfter (.bootStageComplete b) (at_ stSafety)).flag SYS_SP_STAT SYS_SP_STAT.running = true := by decide +kernel

/-- Tampers and roots at the keys stage (R323, R340). -/
theorem test_boot_keys :
    let h := (pwr [] fun p => { p with bootDue := false }).setStage stKeys
    let t := { h with brl := { h.brl with offTamper := [1] } }
    let r := { h with brl := { h.brl with roots := h.brl.roots.set 3 (.root [1]) } }
    t.startTamper = true ∧ r.startTamper = false ∧ r.brl.roots.at 3 = .root [1] ∧ r.brl.newest = none ∧ r.brl.retained = none ∧
      LockedWith (hwAfter (.bootStageComplete default) t) 6 := by decide +kernel

/-- DRAM (R395). -/
theorem test_boot_dram :
    let h := (open_ [(DDR_CFG, DDR_CFG.ch_en, 3)]).setStage stDram
    let t : DdrTrain := { (default : DdrTrain) with second := true, size := 9 }
    let b := fun l => { (default : BootFacts) with training := l }
    (hwAfter (.bootStageComplete (b [t, t])) h).bootStage = stSafety ∧ LockedWith (hwAfter (.bootStageComplete (b [t])) h) 4 ∧
      Permitted h acc DDR_INIT ∧ (hwAfter (.ddrInit acc [t]) h).f (DDR_CH_STAT 0) DDR_CH_STAT.size = 9 ∧
      (hwAfter (.ddrInit acc [t]) h).f (DDR_CH_STAT 1) DDR_CH_STAT.state = 3 ∧
      (hwAfter (.ddrInit acc [t]) (h.setF DDR_STAT DDR_STAT.state 2)).reg (DDR_CH_STAT 0) = 0 := by decide +kernel

/-- The stages structure and application: where they start from (R392). -/
theorem test_boot_late :
    let h := (pwr [] fun p => { p with bootDue := false }).setStage stApplication
    h.bootStage = stApplication ∧ (h.setStage stStructure).bootStage = stStructure ∧ (hwAfter (.bootStageComplete default) (h.setStage stSafety)).bootStage = stApplication := by
  decide +kernel

/-! ### The whole block -/

/-- After reset (R46, R257, R287, R390). -/
theorem test_reset :
    State.reset.pending = [] ∧ State.reset.hw.stpState = stpUnarmed ∧ State.reset.hw.f STP_SRC_STAT STP_SRC_STAT.latched = 1 ∧
      State.reset.hw.flag RAD_CFG RAD_CFG.listen = true ∧ State.reset.hw.calState = calUnset ∧ State.reset.hw.pwr.bootDue = true ∧
      Memory.wf State.reset.hw.mem = true := by decide +kernel

/-- Every waiting command of the empty queue is well formed. -/
theorem test_reset_queueOk : QueueOk State.reset := fun _ h => nomatch h

/-- An ill-formed command, the only check there is, is refused (R60): an SPI write of 65 words. -/
theorem test_illFormed :
    WellFormed (.spiWrite .ha 0 (List.replicate 65 0) true) = false ∧
      exec (.spiWrite .ha 0 (List.replicate 65 0) true) (st Hw.reset) = .refused (.illFormed "an SPI frame carries 1 to 64 words") :=
  ⟨by decide +kernel, rfl⟩

/-- A step takes the front command (log entry 4), and a queue drains. -/
theorem test_queue :
    let s : State := ⟨open_ [], [.flushTimeout, .relayTimeout]⟩
    (∀ c ∈ s.pending, WellFormed c = true) ∧ ((drain 1 s).map State.pending) = some [.relayTimeout] ∧ ((drain 2 s).map State.pending) = some [] := by
  decide +kernel

/-- Two idle ticks: 16 ns (R285, R286). -/
theorem test_idle :
    let h := open_ []
    0x14 ∉ h.pwr.stopped ∧ h.cal.incNext = none ∧ ((drain 2 (st h)).map fun t => t.hw.cal.ns) = some 16 ∧
      ((drain 2 (st { h with cal := { h.cal with ns := 999999990 } })).map fun t => (t.hw.cal.sec, t.hw.cal.ns)) = some (1, 6) := by decide +kernel

/-- Accesses without a right, of the wrong size, unaligned, and to window 0x1F (R9, R24, R54). -/
theorem test_busErrors :
    let h := Hw.reset
    let b : BusAcc := { acc with size := .octet }
    h.busError acc (AXL_GRP_CFG 0) true = true ∧ accessOf (.groupGo acc 0 0) = some (acc, AXL_GRP_CFG 0, true) ∧
      (hwAfter (.groupGo acc 0 0) h).f (HLT_ACC_ERR 0x10) HLT_ACC_ERR.count = 1 ∧
      (hwAfter (.stmPop b 0) (open_ [])).bus.resp = .busError ∧ (hwAfter (.lowWordRead acc 0x1C0002) (open_ [])).bus.resp = .busError ∧
      (hwAfter (.registerWrite acc 0x1F0000 1) (open_ [])).bus.resp = .busError ∧
      (hwAfter (.registerWrite acc 0x1F0000 1) (open_ [])).regs = (open_ []).regs := by decide +kernel

/-- Offsets that hold no register, and stopped blocks (R10, R20). -/
theorem test_absent :
    let h := open_ []
    let z := h.updPwr fun p => { p with stopped := [0x1C] }
    mbxChOf 0x1C7FF0 = none ∧ h.busError acc 0x1C7FF0 true = false ∧ acc.sees 0x1C7FF0 = none ∧
      (hwAfter (.lowWordRead acc 0x1C7FF0) h).bus.resp = .data [0] ∧ (hwAfter (.registerWrite acc 0x1C7FF0 5) h).bus.resp = .done ∧
      (hwAfter (.lowWordRead acc 0x1C0000) z).bus.resp = .data [0] ∧ (hwAfter (.lowWordRead acc 0x1C0000) z).f (HLT_ACC_ERR 0x1C) HLT_ACC_ERR.count = 1 ∧
      (hwAfter (.registerWrite acc 0x1C0000 5) z).bus.resp = .busError := by decide +kernel

/-- The lock rule (R13) in LTH_CFG, locked: lock and rounds are WL, enable is RW. -/
theorem test_lock :
    let h := open_ [(LTH_CFG, LTH_CFG.lock, 1)]
    let g := hwAfter (.registerWrite acc 0x0F0000 0x1001) h
    (∃ r, regFind LTH_CFG = some r ∧ PlainReg LTH_CFG r) ∧ h.locked LTH_CFG = true ∧ Permitted h (viewAt acc 0x0F0000) (regKey 0x0F0000) ∧
      g.f LTH_CFG LTH_CFG.rounds = 0 ∧ g.f LTH_CFG LTH_CFG.lock = 1 ∧ g.f LTH_CFG LTH_CFG.enable = 1 ∧ g.bus.resp = .done ∧
      (g.bus.staging.map fun q => bit q.a1.toNat 24) = [true] :=
  ⟨⟨_, rfl, rfl, by decide +kernel⟩, by decide +kernel⟩

/-- Grant order and a full staging queue (R15, R56). -/
theorem test_staging :
    let h := open_ []
    let full := { h with bus := { h.bus with staging := List.replicate 64 rec1 } }
    let s : State := ⟨h, [.registerWrite acc 0x110020 1, .registerWrite acc2 0x110020 3]⟩
    ((drain 2 s).map fun t => (t.hw.bus.staging.map fun q => (q.a0, q.seq))) = some [(1, 0), (3, 1)] ∧
      (hwAfter (.registerWrite acc 0x110020 1) full).bus.resp = .held ∧ (hwAfter (.registerWrite acc 0x110020 1) full).bus.waiting.length = 1 ∧
      (hwAfter .stagingDrain (full.setAlmState almRecording)).bus.staging.length = 63 := by decide +kernel

/-- A register of the kind that the statements on plain registers speak of, all of it RW: RAD_IRQ_MASK. -/
theorem test_plainReg :
    ∃ r, PlainReg RAD_IRQ_MASK r ∧ (∀ d ∈ r.fields, d.access = .rw ∨ d.access = .rwv) ∧ regKey 0x110020 = RAD_IRQ_MASK :=
  ⟨_, ⟨rfl, by decide +kernel⟩, by decide +kernel⟩

/-- Sleep refusals (R145, R226, R377): with a job in flight, an axis enabled, records to program; the health manager agrees. -/
theorem test_sleepRefusals :
    let h := fun n => pwr [(PWR_STAT, PWR_STAT.state, pwrEntering)] fun p => { p with step := n }
    let a := (h 11).updAxis 15 fun x => { x with enable := true }
    let l := { h 2 with alm := { (h 2).alm with opened := some rec1 } }
    (hwAfter (.blockAnswer true) a).f PWR_STAT PWR_STAT.reason = 6 ∧ (hwAfter (.blockAnswer true) (h 11)).pwr.step = 12 ∧
      (hwAfter (.blockAnswer true) l).f PWR_STAT PWR_STAT.reason = 0x0E ∧ (hwAfter (.blockAnswer true) (h 20)).pwr.step = 21 ∧
      (hwAfter (.blockAnswer true) (h 16)).pwr.stopped = [0x0C] := by decide +kernel

/-- Memory that a command stores to, and beside it (R364). -/
theorem test_memoryFrame :
    let h := alm almRecording { (default : AlmSt) with buffer := [rec1], programming := 1 } [(ALM_COUNT, ⟨0, 32⟩, 7)]
    let g := hwAfter (.programComplete .ok) (h.setByte 0x09000000DF 0x55)
    g.byteAt 0x09000000DF = 0x55 ∧ g.byteAt 0x0900000100 = 0xFF ∧ (hwAfter (.post acc 1) (h.setByte 0x09000000DF 0x55)).byteAt 0x09000000DF = 0x55 := by
  decide +kernel

end Sys2Proof.Tests
end

section
/-! SUPPORT. Register accesses that are turned away: whichever command carries the access, what is left is a count and the bus error. -/

namespace Sys2Proof.Machine

open Reg Sys2Proof.Safety

/-! ### How a command completes -/

/-- A command whose meaning runs `e` completes with what `e` makes of the cleared device. -/
theorem completes_of_run {c : Instr} {s : State} {e : Hw → Hw} {P : Hw → Prop} (he : exec c s = run s e) (hp : P (e (cleared s.hw))) :
    Completes c s P :=
  ⟨after s e, he, rfl, hp⟩

/-! ### Effects behind the access check -/

/-- `e` answers an access that the bus turns away as R9 and R24 say, whatever else it would do. -/
def Guards (a : BusAcc) (k : Nat) (w : Bool) (e : Hw → Hw) : Prop :=
  ∀ h : Hw, h.busError a k w = true → e h = h.failAccess a k

section
variable (a : BusAcc) (k ch : Nat)

theorem Guards.regWrite (v : Hw → Word) (eff : Hw → Word → Hw → Hw) : Guards a k true fun h => h.regWrite a k (v h) (eff h) :=
  fun _ hb => if_pos hb

theorem Guards.regRead (view : Hw → Nat → Word) (eff : Hw → Hw) : Guards a k false fun h => h.regRead a k view eff :=
  fun _ hb => if_pos hb

theorem Guards.regReadWith (op : Hw → Hw × Word) : Guards a k false fun h => h.regReadWith a k op :=
  fun _ hb => if_pos hb

theorem Guards.mbxWrite (v : Word) (eff : Hw → Bool → Word → Hw → Hw) : Guards a k true fun h => h.mbxWrite a ch k v (eff h) :=
  fun _ hb => if_pos hb

theorem Guards.mbxRead (op : Bool → Hw → Hw × Word) : Guards a k false fun h => h.mbxRead a ch k op :=
  fun _ hb => if_pos hb

theorem Guards.busWrite (v : Hw → Word) : Guards a k true fun h => h.busWrite a k (v h) := by
  intro h hb
  unfold Hw.busWrite
  cases mbxChOf k with
  | some ch => exact if_pos hb
  | none => by_cases hk : k / 0x10000 ≠ 0x1B <;> simp [hk, hb, Hw.regWrite]

theorem Guards.busRead : Guards a k false fun h => h.busRead a k := by
  intro h hb
  simp only [Hw.busRead]
  split
  · exact if_pos hb
  · split
    · exact if_pos hb
    · exact if_pos hb

/-- A kick that is turned away leaves the waiting Vigil writes where they are. -/
theorem Guards.watchdogKick : Guards a VGL_WDOG true fun h =>
    let h := h.busWrite a VGL_WDOG (kickWord h)
    if h.bus.resp = .done then Hw.vglAll h.pwr.vglWrites.length h else h := by
  intro h hb
  have e := Guards.busWrite a VGL_WDOG kickWord h hb
  simp only at e
  have hr : (h.failAccess a VGL_WDOG).bus.resp ≠ .done := by simp [Hw.failAccess]
  simp only [e, if_neg hr]

end

/-- Every command that is a register access checks it before anything else. -/
theorem exec_guards (c : Instr) (s : State) (a : BusAcc) (k : Nat) (w : Bool) (hc : accessOf c = some (a, k, w)) :
    ∃ e, exec c s = run s e ∧ Guards a k w e := by
  cases c
  case registerWrite | lowWordWrite | presetSelect => cases hc; unfold exec; exact ⟨_, rfl, Guards.busWrite _ _ _⟩
  case lowWordRead => cases hc; unfold exec; exact ⟨_, rfl, Guards.busRead _ _⟩
  case watchdogKick => cases hc; unfold exec; exact ⟨_, rfl, Guards.watchdogKick _⟩
  case mbxPost | mbxDbRing => cases hc; unfold exec; exact ⟨_, rfl, Guards.mbxWrite _ _ _ _ _⟩
  case mbxRecv | mbxChLockRead => cases hc; unfold exec; exact ⟨_, rfl, Guards.mbxRead _ _ _ _⟩
  case semLockRead | faultPop | stmPop | timeSnapshot | tsqPop => cases hc; unfold exec; exact ⟨_, rfl, Guards.regReadWith _ _ _⟩
  case fixTblSnapshot | harmSnapshot | reportSnapshot => cases hc; unfold exec; exact ⟨_, rfl, Guards.regRead _ _ _ _⟩
  case noticeArm via reg _ =>
    cases reg
    case mbx => cases hc; unfold exec; exact ⟨_, rfl, Guards.mbxWrite _ _ _ _ _⟩
    all_goals cases hc; unfold exec; exact ⟨_, rfl, Guards.regWrite _ _ _ _⟩
  case recoveryRecord src =>
    cases src
    · cases hc; unfold exec; exact ⟨_, rfl, Guards.regWrite _ _ _ _⟩
    · cases hc
  case reloadGo | reloadAbort | semLockWrite | semForce | taskSubmit | taskSaved | coreDeliverDisable | smuInvalidate | unitResume | unitAbort
      | dmaStart | stmPush | stmCommit | stmCommitStart | stmCommitAbort | stmFlush | stmSkip | acqRequest | referenceRestore | jobSubmit
      | bufferRelease | forceFull | robotReset | graphLoad | rsvSubmit | rsvRevoke | tokenQuery | enable | disable | moveAbs | moveRel | jog
      | halt | home | setPos | follow | release | groupGo | groupHalt | fleetStopCommand | targetedStopCommand | releaseCommand | arm | resync
      | handover | clearFault | incrementWrite | step | unset | offsetIn | triggerArm | triggerCancel | pulseConfig | meterDisable
      | provisioningClose | estateWrite | cryptoSubmit | debugChallenge | debugAnswer | activate | confirm | rollback | abandon | recovery
      | updVerify | close | logClear | post | enterSleep | enterDeepSleep | enterOff | powerAbort | softwareReset | coreReset | coreRelease
      | ddrInit =>
    cases hc; unfold exec; exact ⟨_, rfl, Guards.regWrite _ _ _ _⟩
  all_goals cases hc

/-! ### What turning an access away leaves -/

/-- Counting an access error changes the counter of the block and nothing else. -/
theorem Hw.accessError_parts (h : Hw) (b : Nat) (m : Master) : h.accessError b m = { h with regs := (h.accessError b m).regs } := by
  unfold Hw.accessError Hw.bump
  split <;> rfl

theorem Hw.accessError_reg_other (h : Hw) (b : Nat) (m : Master) (j : Nat) (hj : j ≠ HLT_ACC_ERR b) :
    (h.accessError b m).reg j = h.reg j := by
  unfold Hw.accessError
  rw [Hw.reg_setF_other _ _ _ _ _ hj, Hw.reg_bump_other _ _ _ _ _ hj]

/-- An access that is turned away: the registers but the block's counter stay, and nothing but the answer, the registers and the exception
of the master is new. -/
theorem Hw.failAccess_spec (h : Hw) (a : BusAcc) (k : Nat) :
    (h.failAccess a k = { h with regs := (h.failAccess a k).regs, bus := { h.bus with resp := .busError, out := (h.failAccess a k).bus.out } }) ∧
    (∀ j, j ≠ HLT_ACC_ERR (k / 0x10000) → (h.failAccess a k).reg j = h.reg j) ∧
    ((h.failAccess a k).bus.out = h.bus.out ∨ (h.failAccess a k).bus.out = h.bus.out ++ [.exception a.master.num]) := by
  unfold Hw.failAccess
  generalize hg : (if k / 0x10000 ≥ 0x1F then h else h.accessError (k / 0x10000) a.master) = g
  have hp : g = { h with regs := g.regs } := by
    rw [← hg]; split
    · rfl
    · exact Hw.accessError_parts _ _ _
  have hr : ∀ j, j ≠ HLT_ACC_ERR (k / 0x10000) → g.reg j = h.reg j := by
    intro j hj
    rw [← hg]; split
    · rfl
    · exact Hw.accessError_reg_other _ _ _ _ hj
  rw [hp] at hr ⊢
  simp only
  split
  · exact ⟨rfl, hr, .inr rfl⟩
  · exact ⟨rfl, hr, .inl rfl⟩

/-- Settles O52: every access command checks its access before anything else (`exec_guards`), and a failed check changes what
`Hw.failAccess_spec` says. -/
theorem busErrorsChangeNothing : Obligations.BusErrorsChangeNothing := by
  intro c s a k w hc hb
  obtain ⟨e, he, hg⟩ := exec_guards c s a k w hc
  refine completes_of_run he ?_
  rw [hg (cleared s.hw) hb]
  obtain ⟨parts, regs, out⟩ := Hw.failAccess_spec (cleared s.hw) a k
  refine ⟨parts, regs, fun o ho => ?_⟩
  rcases out with e | e <;> rw [e] at ho
  · cases ho
  · exact List.mem_singleton.mp ho

end Sys2Proof.Machine
end

section
/-! SUPPORT. Writes and reads of registers whose accesses start nothing more: where they land, and what they leave. -/

namespace Sys2Proof.Machine

open Reg Sys2Proof.Safety

/-! ### The device as a command finds it -/

@[simp] theorem cleared_f (h : Hw) (k : Nat) (f : Fld) : (cleared h).f k f = h.f k f := rfl
@[simp] theorem cleared_pwr (h : Hw) : (cleared h).pwr = h.pwr := rfl
@[simp] theorem cleared_busError (h : Hw) (a : BusAcc) (k : Nat) (w : Bool) : (cleared h).busError a k w = h.busError a k w := rfl

/-! ### Which windows start what -/

/-- Only window 0x05 holds mailbox channels (R90). -/
theorem mbxChOf_eq_none {k : Nat} (hk : k / 0x10000 ≠ 0x05) : mbxChOf k = none := by
  refine if_neg fun ⟨h1, h2, _⟩ => ?_
  simp only [MBX_BIND] at h1 h2
  omega

/-- Only window 0x01 holds preset selections (R53). -/
theorem elem_presetSel_eq_none {k : Nat} (hk : k / 0x10000 ≠ 0x01) : elem (CFG_PRESET_SEL 0) 4 32 k = none := by
  refine if_neg fun ⟨h1, _, h3⟩ => ?_
  simp only [CFG_PRESET_SEL] at h1 h3
  omega

theorem not_mem_presetSels {k : Nat} (hk : k / 0x10000 ≠ 0x01) : k ∉ (List.range 21).map CFG_PRESET_SEL := by
  intro hm
  obtain ⟨f, hf, rfl⟩ := List.mem_map.mp hm
  simp only [List.mem_range] at hf
  simp only [CFG_PRESET_SEL] at hk
  omega

/-- The windows in which a write starts nothing. -/
def quietWindows : List Nat := [0x02, 0x03, 0x0F, 0x11, 0x15, 0x1C, 0x1E]

/-- Quiet windows hold no configuration, no mailboxes and no Vigil register. -/
theorem quiet_ne {n : Nat} (hn : n ∈ quietWindows) : n ≠ 0x01 ∧ n ≠ 0x05 ∧ n ≠ 0x1B := by
  simp only [quietWindows, List.mem_cons, List.not_mem_nil, or_false] at hn
  omega

/-- A write in a quiet window starts nothing, but for a calibration field. -/
theorem Hw.wrote_quiet (old : Hw) (a : BusAcc) {k : Nat} (v low : Word) (h : Hw) (hk : k / 0x10000 ∈ quietWindows)
    (hcal : ∀ p ∈ calFields, p.1 ≠ k) : Hw.wrote old a k v low h = h := by
  obtain ⟨h1, -, -⟩ := quiet_ne hk
  have hr : k ≠ CFG_RELOAD_CTRL := fun e => h1 (by rw [e]; rfl)
  have hc : ¬ (calFields.any fun p => decide (p.1 = k)) = true := by
    simpa using fun f hf => hcal (k, f) hf rfl
  rw [Hw.wrote, if_neg hr, elem_presetSel_eq_none h1]
  unfold Hw.wroteBlock
  simp only [quietWindows, List.mem_cons, List.not_mem_nil, or_false] at hk
  rcases hk with e | e | e | e | e | e | e <;> simp only [e] <;> exact if_neg hc

/-- A write in a quiet window is a register write that starts nothing. -/
theorem Hw.busWrite_quiet (h : Hw) (a : BusAcc) {k : Nat} (v : Word) (hk : k / 0x10000 ∈ quietWindows)
    (hcal : ∀ p ∈ calFields, p.1 ≠ k) : h.busWrite a k v = h.regWrite a k v fun _ h' => h' := by
  obtain ⟨-, h5, hB⟩ := quiet_ne hk
  rw [Hw.busWrite, mbxChOf_eq_none h5]
  simp only [if_pos hB, Hw.wrote_quiet _ _ _ _ _ hk hcal]

/-! ### A write that is stored -/

@[simp] theorem Hw.markModified_bus (h : Hw) (k : Nat) : (h.markModified k).bus = h.bus := by
  obtain ⟨⟨m, e⟩, -⟩ := Hw.markModified_spec h k
  rw [e]

@[simp] theorem Hw.markModified_alm (h : Hw) (k : Nat) : (h.markModified k).alm = h.alm := by
  obtain ⟨⟨m, e⟩, -⟩ := Hw.markModified_spec h k
  rw [e]

/-- The device with a write of `k` stored, marked and recorded, where no low word goes with it (R13, R53, R55). -/
def Hw.stored (h : Hw) (a : BusAcc) (k : Nat) (r : RegDef) (v : Word) : Hw :=
  ((if a.unpriv then (h.storeReg k r v).1
    else (h.storeReg k r v).1.stage a.master.num k v (h.storeReg k r v).2 false false).markModified k).answer .done

section
variable (h : Hw) (a : BusAcc) (k : Nat) (r : RegDef) (v : Word)

theorem Hw.commitWrite_single (eff : Word → Hw → Hw) (hl : r.lowWord = false) (hn : lowWordOf k = none) :
    h.commitWrite a k r v eff = eff 0 (h.stored a k r v) := by
  simp only [Hw.commitWrite, hl, hn, Hw.stored, Bool.or_false, Bool.false_eq_true, if_false]

/-- A write that is stored changes what `Committed` says. -/
theorem Hw.stored_committed (hl : r.lowWord = false) (hn : lowWordOf k = none) : Committed h (h.stored a k r v) k := by
  obtain ⟨low, h', hc, -, -, he⟩ := Hw.commitWrite_spec h a k r v (fun _ g => g) hl
  rw [Hw.commitWrite_single _ _ _ _ _ _ hl hn] at he
  exact he ▸ hc

theorem Hw.stored_reg (hk : k ∉ (List.range 21).map CFG_PRESET_SEL) : (h.stored a k r v).reg k = h.writtenWord k r v := by
  rw [Hw.stored, Hw.answer_reg, (Hw.markModified_spec _ k).2 k hk]
  split <;> exact Hw.reg_setReg_same _ _ _

/-- The configuration record of a write (R56). -/
def Hw.writeRec (h : Hw) (a : BusAcc) (k : Nat) (r : RegDef) (v : Word) : AlmRec :=
  (h.storeReg k r v).1.mkRec cfgSource 0x0001 v (cfgArgs a.master.num k v (wordRejected (h.locked k) (h.reg k) v (writeFields k r)) false false).2 0

/-- A privileged write enters the staging queue. -/
theorem Hw.stored_staging : (h.stored a k r v).bus.staging = h.bus.staging ++ if a.unpriv then [] else [h.writeRec a k r v] := by
  simp only [Hw.stored, Hw.answer_bus, Hw.markModified_bus]
  cases a.unpriv
  · rfl
  · exact (List.append_nil _).symm

/-- A privileged write advances the configuration source's sequence; nothing else of the Almanac changes. -/
theorem Hw.stored_alm : (h.stored a k r v).alm = if a.unpriv then h.alm else h.alm.advance cfgSource := by
  simp only [Hw.stored, Hw.answer_alm, Hw.markModified_alm]
  cases a.unpriv <;> rfl

end

/-- An access that sees a register finds it at its word number. -/
theorem BusAcc.regFind_of_sees {a : BusAcc} {k : Nat} {r : RegDef} (hs : a.sees k = some r) : regFind k = some r := by
  unfold BusAcc.sees at hs
  cases hf : regFind k with
  | none => rw [hf] at hs; cases hs
  | some q =>
    rw [hf] at hs
    simp only at hs
    split at hs
    · cases hs
    · exact hs

/-- The privileged view shows every register. -/
theorem BusAcc.sees_of_privileged {a : BusAcc} (k : Nat) (ha : a.unpriv = false) : a.sees k = regFind k := by
  unfold BusAcc.sees
  cases regFind k <;> simp [ha]

/-- What a permitted write finds: a register, and room for its record. -/
theorem permitted_sees {h : Hw} {a : BusAcc} {k : Nat} (hp : Permitted h a k) : ∃ r, a.sees k = some r ∧ regFind k = some r := by
  obtain ⟨r, hr⟩ := Option.isSome_iff_exists.mp hp.2.1
  exact ⟨r, hr, BusAcc.regFind_of_sees hr⟩

theorem permitted_room {h : Hw} {a : BusAcc} {k : Nat} (hp : Permitted h a k) : ¬ (!a.unpriv && h.stagingFull) = true := by
  rcases hp.2.2 with e | e <;> simp [e]

/-- A permitted write of a register with no low word beside it stores it, then starts its effect. -/
theorem Hw.regWrite_single (h : Hw) (a : BusAcc) (k : Nat) (v : Word) (r : RegDef) (eff : Word → Hw → Hw) (hp : Permitted h a k)
    (hr : regFind k = some r) (hl : r.lowWord = false) (hn : lowWordOf k = none) :
    h.regWrite a k v eff = eff 0 (h.stored a k r v) := by
  obtain ⟨q, hq, hf⟩ := permitted_sees hp
  cases hf.symm.trans hr
  rw [Hw.regWrite, if_neg (by simp [hp.1]), hq]
  simp only [if_neg (permitted_room hp), Hw.commitWrite_single _ _ _ _ _ _ hl hn]

end Sys2Proof.Machine
end

section
/-! PROOFS. Register accesses of the plain kinds: low words, absent registers, stopped blocks, the Vigil domain (O1, O54). -/

namespace Sys2Proof.Machine

open Reg Sys2Proof.Safety

/-! ### Low words (R11) -/

/-- A permitted write outside the mailbox channels is committed where its block takes it. -/
theorem Hw.busWrite_permitted (h : Hw) (a : BusAcc) (k : Nat) (v : Word) (r : RegDef) (hp : Permitted h a k) (hr : regFind k = some r)
    (hm : mbxChOf k = none) : h.busWrite a k v = h.commitAny a k r v := by
  obtain ⟨q, hq, hf⟩ := permitted_sees hp
  cases hf.symm.trans hr
  rw [Hw.busWrite, hm]
  by_cases hB : k / 0x10000 = 0x1B
  · simp only [hB, ne_eq, not_true_eq_false, if_false, hp.1, Bool.false_eq_true, hq, if_neg (permitted_room hp)]
  · simp only [hB, ne_eq, not_false_eq_true, if_true, Hw.regWrite, hp.1, Bool.false_eq_true, if_false, hq, if_neg (permitted_room hp),
      Hw.commitAny]

/-- A low word that is committed is held for its master, and no register changes. -/
theorem Hw.commitAny_low (h : Hw) (a : BusAcc) (k : Nat) (v : Word) (r : RegDef) (hl : r.lowWord = true) (hret : hwRetention k = false) :
    (h.commitAny a k r v).bus.writeShadow.at (shadowKey a.master.num k) = some v ∧ (h.commitAny a k r v).bus.resp = .done ∧
      (h.commitAny a k r v).regs = h.regs := by
  unfold Hw.commitAny
  split
  · rw [if_neg (by simp [hret])]
    simp only [Hw.vglWrite, hl, if_true]
    refine ⟨Map.at_set_same _ _ _, rfl, ?_⟩
    cases a.unpriv <;> rfl
  · simp only [Hw.commitWrite, hl, if_true]
    cases a.unpriv <;> exact ⟨Map.at_set_same _ _ _, rfl, rfl⟩

/-- A shadow just taken is held. -/
theorem Hw.readShadow_setReadShadow_same (h : Hw) (m k : Nat) (w : Word) : (h.setReadShadow m k w).readShadow m k = some w :=
  Map.at_set_same _ _ _

/-- A permitted read of a low word takes its high word for the reader. -/
theorem Hw.busRead_low (h : Hw) (a : BusAcc) (k : Nat) (r : RegDef) (hp : Readable h a k) (hr : regFind k = some r) (hl : r.lowWord = true)
    (hm : mbxChOf k = none) (ho : Hw.readOp a k = none) :
    h.busRead a k = (h.setReadShadow a.master.num (k + 4) (h.view a.master.num (k + 4))).answer
      (.data [(h.readShadow a.master.num k).getD (h.view a.master.num k)]) := by
  obtain ⟨hb, hst, hs⟩ := hp
  obtain ⟨q, hq⟩ := Option.isSome_iff_exists.mp hs
  cases (BusAcc.regFind_of_sees hq).symm.trans hr
  simp only [Hw.busRead, hm, ho, Hw.regRead, hb, hst, hq, hl, Bool.false_eq_true, if_false, if_true, id]

/-! ### The Vigil domain takes a write (R19) -/

/-- A waiting write of a single register takes effect, and the next one waits. -/
theorem Hw.vglNext_single (h : Hw) (k : Nat) (v : Word) (rest : List (Nat × Word)) (r : RegDef) (hw : h.pwr.vglWrites = (k, v) :: rest)
    (hr : regFind k = some r) (hl : r.lowWord = false) : h.vglNext = (h.updPwr fun p => { p with vglWrites := rest }).vglStore k v := by
  unfold Hw.vglNext
  rw [hw]
  simp [hr, hl]

/-- A write that takes effect on a Vigil register stores it, and may kick the watchdog. -/
theorem Hw.vglStore_parts (h : Hw) (k : Nat) (v : Word) (r : RegDef) (hr : regFind k = some r) :
    ∃ t, h.vglStore k v = { (h.storeReg k r v).1 with pwr := { h.pwr with kickedAt := t } } := by
  unfold Hw.vglStore
  rw [hr]
  dsimp only
  by_cases hk : k = VGL_WDOG ∧ VGL_WDOG.key.get v = 0x4B1C
  · exact ⟨_, if_pos hk⟩
  · exact ⟨_, if_neg hk⟩

/-- Settles O1: a quiet register is stored (`Hw.stored_reg`), a low word is held or taken, a waiting Vigil write is stored. -/
theorem registerCommandsComplete : Obligations.RegisterCommandsComplete := by
  refine ⟨?_, ?_, ?_, ?_⟩
  · intro s via reg v r hp hr hl hn hk hcal
    refine completes_of_run (e := fun h => h.busWrite (viewAt via reg) (regKey reg) v) rfl ?_
    have hp' : Permitted (cleared s.hw) (viewAt via reg) (regKey reg) := hp
    rw [Hw.busWrite_quiet _ _ _ hk hcal, Hw.regWrite_single _ _ _ _ r _ hp' hr hl hn]
    exact ⟨Hw.stored_reg _ _ _ _ _ (not_mem_presetSels (quiet_ne hk).1), (Hw.stored_committed _ _ _ _ _ hl hn).resp⟩
  · intro s via reg r hp hr hl hm ho
    refine completes_of_run (e := fun h => h.busRead (viewAt via reg) (regKey reg)) rfl ?_
    rw [Hw.busRead_low (cleared s.hw) _ _ r hp hr hl hm ho]
    exact ⟨Hw.readShadow_setReadShadow_same _ _ _ _, rfl⟩
  · intro s via reg v r hp hr hl hm hret
    refine completes_of_run (e := fun h => h.busWrite (viewAt via reg) (regKey reg) v) rfl ?_
    rw [Hw.busWrite_permitted (cleared s.hw) _ _ _ r hp hr hm]
    exact Hw.commitAny_low _ _ _ _ r hl hret
  · intro s k v rest r hw hr hl
    refine completes_of_run (e := Hw.vglNext) rfl ?_
    rw [Hw.vglNext_single (cleared s.hw) k v rest r hw hr hl]
    obtain ⟨t, e⟩ := Hw.vglStore_parts ((cleared s.hw).updPwr fun p => { p with vglWrites := rest }) k v r hr
    rw [e]
    exact ⟨Hw.reg_setReg_same _ _ _, rfl⟩

/-! ### Absent registers and stopped blocks (R10, R20) -/

/-- A read is turned away only where a write would be; a write is turned away by a stopped block too. -/
theorem Hw.busError_write (h : Hw) (a : BusAcc) (k : Nat) :
    h.busError a k true = (h.busError a k false || memb (k / 0x10000) h.pwr.stopped) := by
  unfold Hw.busError
  cases memb (k / 0x10000) h.pwr.stopped <;> simp

/-- A write at an offset that shows no register does nothing. -/
theorem Hw.busWrite_absent (h : Hw) (a : BusAcc) (k : Nat) (v : Word) (hm : mbxChOf k = none) (hb : h.busError a k true = false)
    (hs : a.sees k = none) : h.busWrite a k v = h.answer .done := by
  rw [Hw.busWrite, hm]
  by_cases hB : k / 0x10000 = 0x1B <;> simp [hB, hb, hs, Hw.regWrite]

/-- A read at an offset that shows no register gives zero. -/
theorem Hw.busRead_absent (h : Hw) (a : BusAcc) (k : Nat) (hm : mbxChOf k = none) (hb : h.busError a k false = false)
    (hst : memb (k / 0x10000) h.pwr.stopped = false) (hs : a.sees k = none) : h.busRead a k = h.answer (.data [0]) := by
  rw [Hw.busRead, hm]
  cases ho : Hw.readOp a k with
  | none => simp [Hw.regRead, hb, hst, hs]
  | some op => simp [Hw.regReadWith, hb, hst, hs]

/-- A read of a block whose clock is stopped gives zero and counts. -/
theorem Hw.busRead_stopped (h : Hw) (a : BusAcc) (k : Nat) (hm : mbxChOf k = none) (hb : h.busError a k false = false)
    (hst : memb (k / 0x10000) h.pwr.stopped = true) : h.busRead a k = (h.accessError (k / 0x10000) a.master).answer (.data [0]) := by
  rw [Hw.busRead, hm]
  cases ho : Hw.readOp a k with
  | none => simp only [Hw.regRead, hb, hst, Bool.false_eq_true, if_false, if_true]
  | some op => simp only [Hw.regReadWith, hb, hst, Bool.false_eq_true, if_false, if_true]

/-- A saturating counter whose flag stands apart from it counts up to its maximum (R376). -/
theorem Hw.f_bump (h : Hw) (k : Nat) (c s : Fld) (hc : c.lo + c.width ≤ 32) (hs : s.lo + s.width ≤ 32)
    (ha : s.lo + s.width ≤ c.lo ∨ c.lo + c.width ≤ s.lo) : (h.bump k c s).f k c = min c.max (h.f k c + 1) := by
  have hlt : h.f k c < 2 ^ c.width := Fld.get_lt _ _
  by_cases hm : h.f k c = c.max
  · rw [Hw.bump, if_pos hm, Hw.f_setFlag_apart _ _ _ _ _ hs ha, hm]
    omega
  · have hl : h.f k c < c.max := by unfold Fld.max at hm ⊢; omega
    rw [Hw.f_bump_lt _ _ _ _ hc hl]
    omega

/-- The count of access errors after one more. -/
theorem Hw.f_accessError_count (h : Hw) (b : Nat) (m : Master) : (h.accessError b m).f (HLT_ACC_ERR b) HLT_ACC_ERR.count =
    min HLT_ACC_ERR.count.max (h.f (HLT_ACC_ERR b) HLT_ACC_ERR.count + 1) := by
  rw [Hw.accessError, Hw.f_setF_apart _ _ _ _ _ (by decide) (by decide), Hw.f_bump _ _ _ _ (by decide) (by decide) (by decide)]

/-- Settles O54: behind the access check an absent register answers at once, and a stopped block counts. -/
theorem absentRegistersAndStoppedBlocks : Obligations.AbsentRegistersAndStoppedBlocks := by
  intro s via reg v hm
  refine ⟨fun hb hs => ?_, fun hb hst => ?_⟩
  · rw [Hw.busError_write, Bool.or_eq_false_iff] at hb
    exact ⟨completes_of_run (e := fun h => h.busWrite (viewAt via reg) (regKey reg) v) rfl
        (Hw.busWrite_absent _ _ _ _ hm ((Hw.busError_write _ _ _).trans (by simp [hb])) hs),
      completes_of_run (e := fun h => h.busRead (viewAt via reg) (regKey reg)) rfl (Hw.busRead_absent _ _ _ hm hb.1 hb.2 hs)⟩
  · have hw : s.hw.busError (viewAt via reg) (regKey reg) true = true := by rw [Hw.busError_write, hst, Bool.or_true]
    constructor
    · refine completes_of_run (e := fun h => h.busWrite (viewAt via reg) (regKey reg) v) rfl ?_
      exact (congrArg (fun h => h.bus.resp) (Guards.busWrite _ _ (fun _ => v) (cleared s.hw) hw)).trans rfl
    · refine completes_of_run (e := fun h => h.busRead (viewAt via reg) (regKey reg)) rfl ?_
      rw [Hw.busRead_stopped (cleared s.hw) _ _ hm hb hst]
      exact ⟨rfl, fun j hj => Hw.accessError_reg_other _ _ _ j hj, Hw.f_accessError_count _ _ _⟩

end Sys2Proof.Machine
end

section
/-! PROOFS. Privileged writes in grant order, and the staging queue (O56). -/

namespace Sys2Proof.Machine

open Reg Sys2Proof.Safety

/-! ### What a write of read-write fields leaves -/

/-- Copying a field from one word into another copies its bits and no others. -/
theorem Fld.testBit_copy (f : Fld) (w n : Word) (i : Nat) :
    (f.set w (f.get n)).toNat.testBit i = if f.lo ≤ i ∧ i < f.lo + f.width then n.toNat.testBit i else w.toNat.testBit i := by
  have hout : ∀ (x : Word), ¬ i < 32 → x.toNat.testBit i = false := fun x hi =>
    Nat.testBit_lt_two_pow (Nat.lt_of_lt_of_le x.isLt (Nat.pow_le_pow_right (by omega) (by omega)))
  by_cases hi : i < 32
  · have hlow : w.toNat % 2 ^ f.lo < 2 ^ f.lo := Nat.mod_lt _ (Nat.two_pow_pos _)
    have e : w.toNat / 2 ^ (f.lo + f.width) * 2 ^ (f.lo + f.width) + f.get n % 2 ^ f.width * 2 ^ f.lo + w.toNat % 2 ^ f.lo =
        2 ^ f.lo * (2 ^ f.width * (w.toNat / 2 ^ (f.lo + f.width)) + f.get n % 2 ^ f.width) + w.toNat % 2 ^ f.lo := by
      rw [Nat.pow_add]; ring
    rw [Fld.set, BitVec.toNat_ofNat, Nat.testBit_mod_two_pow, decide_eq_true hi, Bool.true_and, e,
      Nat.testBit_two_pow_mul_add _ hlow]
    by_cases h1 : i < f.lo
    · simp [h1, Nat.not_le.mpr h1, Nat.testBit_mod_two_pow]
    · rw [if_neg h1, Nat.testBit_two_pow_mul_add _ (Nat.mod_lt _ (Nat.two_pow_pos _))]
      by_cases h2 : i < f.lo + f.width
      · have h3 : i - f.lo < f.width := by omega
        simp [Fld.get, h3, h2, Nat.not_lt.mp h1, Nat.testBit_mod_two_pow, Nat.testBit_div_two_pow]
      · have h3 : ¬ i - f.lo < f.width := by omega
        rw [if_neg h3, if_neg (fun h => h2 h.2), Nat.testBit_div_two_pow]
        congr 1; omega
  · rw [hout _ hi, hout _ hi, hout _ hi, ite_self]

/-- Two words have equal fields where their bits agree. -/
theorem Fld.get_eq_iff (f : Fld) (x y : Word) :
    f.get x = f.get y ↔ ∀ i, f.lo ≤ i → i < f.lo + f.width → x.toNat.testBit i = y.toNat.testBit i := by
  have bits : ∀ (w : Word) (j : Nat), (f.get w).testBit j = (decide (j < f.width) && w.toNat.testBit (j + f.lo)) := fun w j => by
    rw [Fld.get, Nat.testBit_mod_two_pow, Nat.testBit_div_two_pow]
  constructor
  · intro e i h1 h2
    have := congrArg (·.testBit (i - f.lo)) e
    simp only [bits, Nat.sub_add_cancel h1, decide_eq_true (show i - f.lo < f.width by omega), Bool.true_and] at this
    exact this
  · intro h
    refine Nat.eq_of_testBit_eq fun j => ?_
    rw [bits, bits]
    by_cases hj : j < f.width
    · rw [h _ (by omega) (by omega)]
    · simp [hj]

/-- Where every field takes what is written, each reads as written afterwards, however the fields lie. -/
theorem get_wordWrite_rw (locked : Bool) (old new : Word) (ds : List FieldDef) (hrw : ∀ d ∈ ds, d.access = .rw ∨ d.access = .rwv) :
    ∀ d ∈ ds, Fld.get ⟨d.lo, d.width⟩ (wordWrite locked old new ds) = Fld.get ⟨d.lo, d.width⟩ new := by
  induction ds with
  | nil => intro d hd; cases hd
  | cons e ds ih =>
    have he : fieldWrite locked e (Fld.get ⟨e.lo, e.width⟩ old) (Fld.get ⟨e.lo, e.width⟩ new) = Fld.get ⟨e.lo, e.width⟩ new := by
      rcases hrw e (by simp) with h | h <;> simp only [fieldWrite, h]
    intro d hd
    rw [wordWrite]
    simp only [he]
    rw [Fld.get_eq_iff]
    intro i h1 h2
    rw [Fld.testBit_copy]
    split
    · rfl
    · rename_i hne
      rcases List.mem_cons.mp hd with rfl | hd
      · exact absurd ⟨h1, h2⟩ hne
      · exact (Fld.get_eq_iff _ _ _).mp (ih (fun d hd => hrw d (List.mem_cons_of_mem _ hd)) d hd) i h1 h2

/-- The registers of RAD and ETH that hold an accumulator's wraps beside its wrap flag (R376). -/
def wrapRegs : List Nat :=
  (List.range 8).flatMap (fun n => [0x110130 + 0x40 * n, 0x110134 + 0x40 * n]) ++
    (List.range 3).flatMap fun n => [0x150110 + 0x20 * n, 0x150118 + 0x20 * n]

/-- The wrap flag in them is not read-write. -/
theorem wrapRegs_not_rw : ∀ k ∈ wrapRegs, ∀ r ∈ regFind k, ∃ d ∈ r.fields, ¬ (d.access = .rw ∨ d.access = .rwv) := by
  decide +kernel

/-- A register outside the meter that holds no wraps takes a write as its fields do. -/
theorem clearWraps_eq {k : Nat} (v w : Word) (hk : k ∉ wrapRegs) (hm : k / 0x10000 ≠ 0x16) : clearWraps k v w = w := by
  have htr : ¬ (k / 0x10000 = 0x11 ∧ 0x110100 ≤ k ∧ k < 0x110300 ∧ ((k - 0x110100) % 0x40 = 0x30 ∨ (k - 0x110100) % 0x40 = 0x34)) := by
    rintro ⟨-, h1, h2, h3⟩
    refine hk (List.mem_append_left _ (List.mem_flatMap.mpr ⟨(k - 0x110100) / 0x40, List.mem_range.mpr (by omega), ?_⟩))
    simp only [List.mem_cons, List.not_mem_nil, or_false]
    omega
  have hoc : ¬ (k / 0x10000 = 0x15 ∧ 0x150100 ≤ k ∧ k < 0x150160 ∧ ((k - 0x150100) % 0x20 = 0x10 ∨ (k - 0x150100) % 0x20 = 0x18)) := by
    rintro ⟨-, h1, h2, h3⟩
    refine hk (List.mem_append_right _ (List.mem_flatMap.mpr ⟨(k - 0x150100) / 0x20, List.mem_range.mpr (by omega), ?_⟩))
    simp only [List.mem_cons, List.not_mem_nil, or_false]
    omega
  simp only [clearWraps, htr, hoc, hm, false_and, if_false]

/-- Only the entries of CFG_IRQ_ROUTE have fields that a write finds changed. -/
theorem writeFields_eq {k : Nat} (r : RegDef) (hk : k / 0x10000 ≠ 0x01) : writeFields k r = r.fields := by
  refine if_neg fun ⟨h1, h2⟩ => hk ?_
  simp only [CFG_IRQ_ROUTE] at h1 h2
  omega

/-- A quiet register all of whose fields are read-write holds what was written last. -/
theorem Hw.f_writtenWord_rw (h : Hw) {k : Nat} {r : RegDef} (v : Word) (hk : k / 0x10000 ∈ quietWindows) (hr : regFind k = some r)
    (hrw : ∀ d ∈ r.fields, d.access = .rw ∨ d.access = .rwv) :
    ∀ d ∈ r.fields, Fld.get ⟨d.lo, d.width⟩ (h.writtenWord k r v) = Fld.get ⟨d.lo, d.width⟩ v := by
  have hn : k ∉ wrapRegs := fun hm => by
    obtain ⟨d, hd, hx⟩ := wrapRegs_not_rw k hm r hr
    exact hx (hrw d hd)
  have h16 : k / 0x10000 ≠ 0x16 := by
    simp only [quietWindows, List.mem_cons, List.not_mem_nil, or_false] at hk
    omega
  rw [Hw.writtenWord, clearWraps_eq _ _ hn h16, writeFields_eq r (quiet_ne hk).1]
  exact get_wordWrite_rw _ _ _ _ hrw

/-! ### Sequence numbers (R362) -/

theorem AlmSt.seqs_advance_same (a : AlmSt) (src : Nat) : (a.advance src).seqs.at src = (a.seqs.at src + 1) % 2 ^ 32 :=
  Map.at_upd_same a.seqs src fun n => (n + 1) % 2 ^ 32

theorem AlmSt.seqs_advance_other (a : AlmSt) (src j : Nat) (hj : j ≠ src) : (a.advance src).seqs.at j = a.seqs.at j :=
  Map.at_upd_other a.seqs src j (fun n => (n + 1) % 2 ^ 32) hj

/-! ### A write of a quiet register, as a command -/

/-- A permitted write of a quiet register stores it. -/
theorem exec_registerWrite_quiet (s : State) (via : BusAcc) (reg : BitVec 21) (v : Word) (r : RegDef) (hq : PlainReg (regKey reg) r)
    (hp : Permitted s.hw (viewAt via reg) (regKey reg)) :
    exec (.registerWrite via reg v) s = .next { s with hw := (cleared s.hw).stored (viewAt via reg) (regKey reg) r v } := by
  obtain ⟨hr, hl, hn, hk, hcal⟩ := hq
  refine congrArg (fun h => Host.Outcome.next { s with hw := h }) ?_
  rw [← Hw.regWrite_single (cleared s.hw) (viewAt via reg) (regKey reg) v r (fun _ h => h) hp hr hl hn]
  exact Hw.busWrite_quiet _ _ _ hk hcal

/-- A privileged access of an existing register with room in the staging queue is permitted. -/
theorem permitted_of_privileged {h : Hw} {a : BusAcc} {k : Nat} {r : RegDef} (hb : h.busError a k true = false) (ha : a.unpriv = false)
    (hr : regFind k = some r) (hlen : h.bus.staging.length < 64) : Permitted h a k := by
  refine ⟨hb, ?_, .inr ?_⟩
  · rw [BusAcc.sees_of_privileged k ha, hr]; rfl
  · simp only [Hw.stagingFull, ge_iff_le, decide_eq_false_iff_not]; omega

/-- A stored write outside CFG changes no right of access. -/
theorem Committed.busError_eq {h g : Hw} {k : Nat} (c : Committed h g k) (hn : lowWordOf k = none) (hk : k / 0x10000 ≠ 0x01)
    (a : BusAcc) (j : Nat) (w : Bool) : g.busError a j w = h.busError a j w := by
  have hm : g.f CFG_PRIV_MASK CFG_PRIV_MASK.priv = h.f CFG_PRIV_MASK CFG_PRIV_MASK.priv := by
    refine c.f_eq _ _ ?_
    rw [writtenRegs, hn]
    simp only [Option.toList_none, List.nil_append, List.mem_cons, not_or]
    exact ⟨fun e => hk (e ▸ rfl), by decide⟩
  have hp := c.parts
  unfold Hw.busError Hw.noRight Hw.overChallenge Hw.debugOpen
  rw [hm, hp]

/-- A privileged write of a quiet register that finds the staging queue full waits. -/
theorem Hw.busWrite_held (h : Hw) (a : BusAcc) (k : Nat) (v : Word) (r : RegDef) (hq : PlainReg k r) (hb : h.busError a k true = false)
    (ha : a.unpriv = false) (hf : h.stagingFull = true) :
    h.busWrite a k v = ({ h with bus := { h.bus with waiting := h.bus.waiting ++ [Held.mk a k v] } }).answer .held := by
  obtain ⟨hr, -, -, hk, hcal⟩ := hq
  rw [Hw.busWrite_quiet _ _ _ hk hcal, Hw.regWrite, if_neg (by simp [hb]), BusAcc.sees_of_privileged k ha, hr]
  simp [ha, hf]

/-- A drain of a recording log with room takes the oldest record out of the staging queue. -/
theorem Hw.drainStaging_bus (h : Hw) (hroom : h.alm.room = true) :
    h.drainStaging.bus = { h.bus with staging := h.bus.staging.tail } := by
  unfold Hw.drainStaging
  cases hs : h.bus.staging with
  | nil => simp only; rw [List.tail_nil, ← hs]
  | cons q rs => simp only [hroom, or_true, if_true, Hw.placeCfg_bus, List.tail_cons]

/-- A drain with no write waiting moves one record. -/
theorem exec_stagingDrain_alone (s : State) (hw : (cleared s.hw).drainStaging.bus.waiting = []) :
    exec .stagingDrain s = .next (after s Hw.drainStaging) := by
  refine congrArg (fun h => Host.Outcome.next { s with hw := h }) ?_
  change (match (cleared s.hw).drainStaging.bus.waiting with
    | [] => (cleared s.hw).drainStaging
    | _ :: _ => _) = _
  rw [hw]

/-- Settles O56: each of the two writes is stored and staged (`exec_registerWrite_quiet`), the second on the device that the first has left. -/
theorem privilegedWritesInOrder : Obligations.PrivilegedWritesInOrder := by
  refine ⟨?_, ?_, ?_⟩
  · intro s a b reg v w r rest hpend hq hba hbb hreg hlen hrw
    obtain ⟨hr, hl, hn, hk, hcal⟩ := hq
    have h1 := (quiet_ne hk).1
    have hpa : Permitted s.hw (viewAt a reg) (regKey reg) := permitted_of_privileged hba hreg hr (by omega)
    have hca := Hw.stored_committed (cleared s.hw) (viewAt a reg) (regKey reg) r v hl hn
    have hsa := Hw.stored_staging (cleared s.hw) (viewAt a reg) (regKey reg) r v
    have hla := Hw.stored_alm (cleared s.hw) (viewAt a reg) (regKey reg) r v
    have ea := exec_registerWrite_quiet { s with pending := .registerWrite b reg w :: rest } a reg v r ⟨hr, hl, hn, hk, hcal⟩ hpa
    simp only at ea
    generalize (cleared s.hw).stored (viewAt a reg) (regKey reg) r v = g at hca hsa hla ea
    rw [show (viewAt a reg).unpriv = false from hreg] at hsa hla
    simp only [Bool.false_eq_true, if_false] at hsa hla
    have hpb : Permitted g (viewAt b reg) (regKey reg) :=
      permitted_of_privileged ((hca.busError_eq hn h1 _ _ _).trans hbb) hreg hr (by rw [hsa]; simp [cleared]; omega)
    have hsb := Hw.stored_staging (cleared g) (viewAt b reg) (regKey reg) r w
    rw [show (viewAt b reg).unpriv = false from hreg] at hsb
    have eb := exec_registerWrite_quiet ⟨g, rest⟩ b reg w r ⟨hr, hl, hn, hk, hcal⟩ hpb
    refine ⟨⟨(cleared g).stored (viewAt b reg) (regKey reg) r w, rest⟩, (cleared s.hw).writeRec (viewAt a reg) (regKey reg) r v,
      (cleared g).writeRec (viewAt b reg) (regKey reg) r w, ?_, ?_, ?_, ?_, rfl, rfl, ?_⟩
    · simp only [drain, step, hpend, ea, eb]
    · rfl
    · intro d hd
      rw [Hw.f, Hw.stored_reg _ _ _ _ _ (not_mem_presetSels h1)]
      exact Hw.f_writtenWord_rw _ _ hk hr hrw d hd
    · rw [hsb]
      simp [cleared, hsa]
    · change g.alm.seqs.at cfgSource = (s.hw.alm.seqs.at cfgSource + 1) % 2 ^ 32
      rw [hla]
      exact AlmSt.seqs_advance_same _ _
  · intro s via reg v r hq hb hreg hf
    refine completes_of_run (e := fun h => h.busWrite (viewAt via reg) (regKey reg) v) rfl ?_
    rw [Hw.busWrite_held (cleared s.hw) _ _ _ r hq hb hreg hf]
    exact ⟨rfl, rfl, rfl, rfl, rfl⟩
  · intro s _ hw _ hroom
    have hb := Hw.drainStaging_bus (cleared s.hw) hroom
    refine ⟨after s Hw.drainStaging, exec_stagingDrain_alone s ?_, rfl, ?_⟩
    · rw [hb]; exact hw
    · exact (congrArg BusSt.staging hb).trans rfl

end Sys2Proof.Machine
end

section
/-! PROOFS. Frames of the commands that write registers or one part of the device (O58). -/

namespace Sys2Proof.Machine

open Reg Sys2Proof.Safety

/-! ### Register writes -/

/-- What a stored write leaves as the command found it. -/
theorem Committed.frame {h g : Hw} {k : Nat} (c : Committed (cleared h) g k) (hn : lowWordOf k = none) :
    g = { h with regs := g.regs, bus := g.bus, alm := { h.alm with seqs := g.alm.seqs } } ∧
      ∀ j, j ≠ k → (∀ f < 21, j ≠ CFG_PRESET_SEL f) → g.reg j = h.reg j := by
  refine ⟨c.parts.trans (congrArg (fun x : AlmSt => { h with regs := g.regs, bus := g.bus, alm := x }) c.alm), fun j hj hf => c.regs j ?_⟩
  rw [writtenRegs, hn]
  simp only [Option.toList_none, List.nil_append, List.mem_cons, List.mem_map, List.mem_range, not_or, not_exists, not_and]
  exact ⟨hj, fun f hlt e => hf f hlt e.symm⟩

/-- The axis commands are writes of the axis's command register. -/
theorem exec_axisCommand (s : State) (via : BusAcc) (n : Fin 16) (c : Instr)
    (hc : c ∈ [Instr.enable via n, .disable via n, .moveAbs via n, .moveRel via n, .jog via n, .halt via n, .home via n, .setPos via n,
      .follow via n, .release via n]) : ∃ op, exec c s = run s fun h => h.axCmdWrite via n.val op := by
  simp only [List.mem_cons, List.not_mem_nil, or_false] at hc
  rcases hc with rfl | rfl | rfl | rfl | rfl | rfl | rfl | rfl | rfl | rfl
  exacts [⟨1, rfl⟩, ⟨2, rfl⟩, ⟨3, rfl⟩, ⟨4, rfl⟩, ⟨5, rfl⟩, ⟨6, rfl⟩, ⟨7, rfl⟩, ⟨8, rfl⟩, ⟨9, rfl⟩, ⟨10, rfl⟩]

/-- No axis command register is half of a 64-bit quantity. -/
theorem axCmd_single : ∀ n : Fin 16, lowWordOf (AXL_AX_CMD n.val) = none ∧ ∀ r ∈ regFind (AXL_AX_CMD n.val), r.lowWord = false := by
  decide +kernel

/-- A permitted axis command stores its register; the command waits at its axis. -/
theorem Hw.axCmdWrite_permitted (h : Hw) (via : BusAcc) (n : Fin 16) (op : Nat) (hp : Permitted h via (AXL_AX_CMD n.val)) :
    ∃ g, Committed h g (AXL_AX_CMD n.val) ∧ h.axCmdWrite via n.val op = g.axWrite n.val op := by
  obtain ⟨low, g, hc, -, -, he⟩ := Hw.regWrite_permitted h via (AXL_AX_CMD n.val) (BitVec.ofNat 32 op) (fun _ h => h.axWrite n.val op) hp
    (axCmd_single n).2
  exact ⟨g, hc, he⟩

/-- A command that waits at an axis leaves the other axes. -/
theorem Hw.axis_axWrite_other (h : Hw) (n m op : Nat) (hm : m ≠ n) : (h.axWrite n op).axis m = h.axis m :=
  Map.at_upd_other h.axl.axes n m (fun x => { x with pendingCmd := some op }) hm

/-! ### Commands that change registers and the power manager's record -/

/-- `g` is `h` but for the power manager's record and the registers of `ks`. -/
def PowerOnly (ks : List Nat) (h g : Hw) : Prop :=
  g = { h with regs := g.regs, pwr := g.pwr } ∧ ∀ j, j ∉ ks → g.reg j = h.reg j

section
variable {ks : List Nat} (h : Hw)

theorem PowerOnly.refl : PowerOnly ks h h := ⟨rfl, fun _ _ => rfl⟩

variable {h} {g : Hw} (p : PowerOnly ks h g)
include p

theorem PowerOnly.setReg {k : Nat} (w : Word) (hk : k ∈ ks) : PowerOnly ks h (g.setReg k w) := by
  obtain ⟨e, hr⟩ := p
  refine ⟨congrArg (fun x => Hw.setReg x k w) e, fun j hj => ?_⟩
  exact (Hw.reg_setReg_other g k j w fun hjk => hj (hjk ▸ hk)).trans (hr j hj)

theorem PowerOnly.setF {k : Nat} (f : Fld) (v : Nat) (hk : k ∈ ks) : PowerOnly ks h (g.setF k f v) := p.setReg _ hk

theorem PowerOnly.setFlag {k : Nat} (f : Fld) (b : Bool) (hk : k ∈ ks) : PowerOnly ks h (g.setFlag k f b) := p.setReg _ hk

theorem PowerOnly.updPwr (u : PwrSt → PwrSt) : PowerOnly ks h (g.updPwr u) :=
  ⟨congrArg (fun x => Hw.updPwr x u) p.1, p.2⟩

end

/-- The registers of the power manager's own state, the rails and their status. -/
def powerRegs : List Nat := [PWR_STAT, VGL_PMIC, VGL_STAT]

theorem PowerOnly.attempt (h : Hw) : PowerOnly powerRegs h h.attempt :=
  ((((PowerOnly.refl h).updPwr _).setF _ _ (by decide)).setF _ _ (by decide)).updPwr _ |>.setF _ _ (by decide)

theorem PowerOnly.beginReturn {h g : Hw} (p : PowerOnly powerRegs h g) (causes : Nat) : PowerOnly powerRegs h (g.beginReturn causes) := by
  have q : PowerOnly powerRegs h (((g.updPwr fun x => { x with causes := causes, returnAt := g.vigilCount }).setF VGL_STAT
      VGL_STAT.pg_retries 0).setPwrState pwrReturning) :=
    ((p.updPwr _).setF _ _ (by decide)).setF _ _ (by decide)
  unfold Hw.beginReturn
  simp only
  split
  · exact q
  · exact q.updPwr _
  · exact (q.setF _ _ (by decide)).updPwr _
  · exact (q.setF _ _ (by decide)).updPwr _

/-- The registers in which a start shows the straps, the stage and its cause. -/
def startRegs : List Nat := [SYS_STRAP, SYS_BOOT, SYS_RST_CAUSE, HP_CFG 0, HP_CFG 1, SYS_CORE_CTRL 0]

theorem PowerOnly.romBegins {h g : Hw} (p : PowerOnly startRegs h g) (ok : Bool) : PowerOnly startRegs h (g.romBegins ok) := by
  have q : PowerOnly startRegs h g.showStraps :=
    ((p.setReg (k := SYS_STRAP) _ (by decide)).setF (k := HP_CFG 0) _ _ (by decide)).setF (k := HP_CFG 1) _ _ (by decide)
  have q' : PowerOnly startRegs h ((g.showStraps.setStage stRom).setFlag (SYS_CORE_CTRL 0) SYS_CORE_CTRL.self_ok ok) :=
    (q.setF (k := SYS_BOOT) _ _ (by decide)).setFlag _ _ (by decide)
  exact (q'.setFlag (k := SYS_BOOT) SYS_BOOT.warm _ (by decide)).updPwr fun p => { p with bootDue := false }

/-- The commands of the power manager that change its registers and its record alone. -/
theorem powerCommand_frame (s : State) (c : Instr)
    (hc : c ∈ [Instr.backoffRetry, .pgRetry, .rendezvousWake, .pgGood 0, .pgGood 1, .pgGood 2]) :
    Completes c s fun h => PowerOnly powerRegs (cleared s.hw) h := by
  have h0 : PowerOnly powerRegs (cleared s.hw) (cleared s.hw) := PowerOnly.refl _
  have pgGood : ∀ n : Fin 3, Completes (.pgGood n) s fun h => PowerOnly powerRegs (cleared s.hw) h := by
    intro n
    refine ⟨_, rfl, rfl, ?_⟩
    dsimp only
    split
    · exact h0.setF _ _ (by decide)
    · split
      · exact ((h0.setF _ _ (by decide)).setF _ _ (by decide)).updPwr _
      · exact (h0.setF _ _ (by decide)).updPwr _
  simp only [List.mem_cons, List.not_mem_nil, or_false] at hc
  rcases hc with rfl | rfl | rfl | rfl | rfl | rfl
  · refine ⟨_, rfl, rfl, ?_⟩
    dsimp only
    split
    · exact PowerOnly.attempt _
    · exact h0
  · refine ⟨_, rfl, rfl, ?_⟩
    dsimp only
    split
    · exact h0
    · exact ((h0.setF _ _ (by decide)).setF _ _ (by decide)).updPwr _
  · refine ⟨_, rfl, rfl, ?_⟩
    dsimp only
    split
    · exact h0
    · exact (h0.updPwr _).beginReturn _
  · exact pgGood 0
  · exact pgGood 1
  · exact pgGood 2

/-- The starts change the registers that show them, and the power manager's record. -/
theorem startCommand_frame (s : State) (x : Straps) (ok : Bool) (c : Instr) (hc : c ∈ [Instr.boot x ok, .warmStart ok]) :
    Completes c s fun h => PowerOnly startRegs (cleared s.hw) h := by
  have h0 : PowerOnly startRegs (cleared s.hw) (cleared s.hw) := PowerOnly.refl _
  simp only [List.mem_cons, List.not_mem_nil, or_false] at hc
  rcases hc with rfl | rfl
  · refine ⟨_, rfl, rfl, ?_⟩
    dsimp only
    split
    · exact h0
    · exact (h0.updPwr _).romBegins _
  · refine ⟨_, rfl, rfl, ?_⟩
    dsimp only
    split
    · exact h0
    · exact (h0.romBegins _).setFlag _ _ (by decide)

/-! ### A cluster's gate -/

/-- Cores made idle: nothing else changes, and no core that is not in the list. -/
theorem foldl_idle_frame (f : Nat → Nat) (l : List Nat) : ∀ h : Hw,
    let g := l.foldl (fun (h : Hw) i => { h with cores := h.cores.upd (f i) fun c => { c with idle := true } }) h
    g = { h with cores := g.cores } ∧ ∀ n, n ∉ l.map f → g.cores.at n = h.cores.at n := by
  induction l with
  | nil => exact fun h => ⟨rfl, fun _ _ => rfl⟩
  | cons i l ih =>
    intro h
    obtain ⟨e, hn⟩ := ih { h with cores := h.cores.upd (f i) fun c => { c with idle := true } }
    refine ⟨e, fun n hni => ?_⟩
    rw [List.map_cons, List.mem_cons, not_or] at hni
    exact (hn n hni.2).trans (Map.at_upd_other h.cores (f i) n (fun c => { c with idle := true }) hni.1)

/-- Gating a cluster changes its register and its four cores. -/
theorem clusterGate_frame (s : State) (k : Fin 2) : Completes (.clusterGate k) s fun h =>
    h = { cleared s.hw with regs := h.regs, cores := h.cores } ∧ (∀ j, j ≠ SYS_CLUSTER k.val → h.reg j = s.hw.reg j) ∧
      ∀ n, n / 4 ≠ k.val → h.cores.at n = s.hw.cores.at n := by
  refine ⟨_, rfl, rfl, ?_⟩
  dsimp only
  split
  · obtain ⟨e, hn⟩ := foldl_idle_frame (fun i => 4 * k.val + i) (List.range 4) (cleared s.hw)
    have eg := congrArg (fun x => Hw.setFlag x (SYS_CLUSTER k.val) SYS_CLUSTER.gated true) e
    refine ⟨eg, fun j hj => ?_, fun n hk => hn n ?_⟩
    · have er := congrArg (fun x => Hw.reg x j) e
      exact (Hw.reg_setFlag_other _ _ _ _ _ hj).trans er
    · simp only [List.mem_map, List.mem_range, not_exists, not_and]
      omega
  · exact ⟨rfl, fun _ _ => rfl, fun _ _ => rfl⟩

/-- Settles O58, a clause for each part that a command may change. -/
theorem registerCommandsFrame : Obligations.RegisterCommandsFrame := by
  refine ⟨?_, ?_, ?_, ?_, ?_, ?_, ?_, clusterGate_frame, ?_⟩
  · intro s via reg v r hq hp
    have hn := hq.2.2.1
    exact ⟨_, exec_registerWrite_quiet s via reg v r hq hp, rfl, (Hw.stored_committed _ _ _ _ _ hq.2.1 hn).frame hn⟩
  · intro s via n hp c hc
    obtain ⟨op, he⟩ := exec_axisCommand s via n c hc
    refine completes_of_run he ?_
    obtain ⟨g, hg, eg⟩ := Hw.axCmdWrite_permitted (cleared s.hw) via n op hp
    obtain ⟨parts, regs⟩ := hg.frame (axCmd_single n).1
    have hx := congrArg Hw.axl parts
    have ew := congrArg (fun x => Hw.axWrite x n.val op) parts
    rw [eg]
    refine ⟨ew.trans ?_, fun m hm => ?_, regs⟩
    · rw [Hw.axWrite, Hw.axWrite, Hw.updAxis, Hw.updAxis, show g.axl = s.hw.axl from hx]
    · exact (Hw.axis_axWrite_other _ _ _ _ hm).trans (congrArg (fun x : AxlSt => x.axes.at m) hx)
  · intro s who
    refine ⟨_, rfl, rfl, ?_⟩
    dsimp only
    split
    · exact ⟨rfl, fun _ _ => rfl⟩
    · exact ⟨rfl, fun n hn => Map.at_set_other _ _ _ _ hn⟩
  · intro s c hc
    simp only [List.mem_cons, List.not_mem_nil, or_false] at hc
    rcases hc with rfl | rfl
    · exact ⟨_, rfl, rfl, rfl⟩
    · refine ⟨_, rfl, rfl, ?_⟩
      dsimp only
      split <;> rfl
  · intro s c hc
    simp only [List.mem_cons, List.not_mem_nil, or_false] at hc
    rcases hc with rfl | rfl | rfl <;> exact ⟨_, rfl, rfl, rfl⟩
  · intro s n
    refine ⟨_, rfl, rfl, ?_⟩
    dsimp only
    split
    · exact ⟨rfl, rfl⟩
    · split <;> exact ⟨rfl, rfl⟩
  · intro s c hc
    obtain ⟨t, he, hpend, parts, regs⟩ := powerCommand_frame s c hc
    refine ⟨t, he, hpend, parts, fun j h1 h2 h3 => regs j ?_⟩
    simp only [powerRegs, List.mem_cons, List.not_mem_nil, or_false, not_or]
    exact ⟨h1, h2, h3⟩
  · intro s x ok c hc
    exact startCommand_frame s x ok c hc

end Sys2Proof.Machine
end

section
/-! PROOFS. The open record, firmware posts and the health report (O41). -/

namespace Sys2Proof.Machine

open Reg Sys2Proof.Safety

/-! ### Placing a record (R365) -/

section
variable (a : AlmSt) (r o : AlmRec)

/-- Closing moves the open record, if there is one, to the end of the buffer. -/
theorem AlmSt.close_eq : a.close = { a with opened := none, buffer := a.buffer ++ a.opened.toList } := by
  unfold AlmSt.close
  cases h : a.opened with
  | none =>
    simp only
    rw [Option.toList_none, List.append_nil, ← h]
  | some r => rfl

/-- With no record open the new one opens. -/
theorem AlmSt.place_none (h : a.opened = none) : a.place r = { a.cover r with opened := some r } := by
  unfold AlmSt.place
  simp only [AlmSt.cover, h]

/-- An equal record repeats the open one, which closes at its last repetition. -/
theorem AlmSt.place_same (h : a.opened = some o) (hs : o.same r = true) (hr : o.repeats < 65535) :
    a.place r = if o.repeats = 65534 then { a.cover r with opened := none, buffer := a.buffer ++ [{ o with repeats := 65535 }] }
      else { a.cover r with opened := some { o with repeats := o.repeats + 1 } } := by
  unfold AlmSt.place
  simp only [AlmSt.cover, h, hs, hr, decide_true, Bool.and_self, if_true]
  by_cases he : o.repeats = 65534
  · simp only [he, if_true, AlmSt.close]
  · simp only [he, if_false, show ¬ o.repeats + 1 = 65535 by omega]

/-- A repetition takes no place in the buffer. -/
theorem AlmSt.held_place_same (h : a.opened = some o) (hs : o.same r = true) (hr : o.repeats < 65535) : (a.place r).held = a.held := by
  rw [AlmSt.place_same a r o h hs hr]
  split <;> simp [AlmSt.held, AlmSt.cover, h]

/-- A repetition needs no room. -/
theorem AlmSt.absorbs_same (h : a.opened = some o) (hs : o.same r = true) (hr : o.repeats < 65535) : a.absorbs r = true := by
  simp only [AlmSt.absorbs, h, hs, hr, decide_true, Bool.and_self]

@[simp] theorem AlmSt.absorbs_none (h : a.opened = none) : a.absorbs r = false := by
  simp only [AlmSt.absorbs, h]

@[simp] theorem AlmSt.place_posts : (a.place r).posts = a.posts := by
  unfold AlmSt.place
  simp only [AlmSt.close_eq]
  split
  · split
    · split <;> rfl
    · rfl
  · rfl

@[simp] theorem AlmSt.place_seqs : (a.place r).seqs = a.seqs := by
  unfold AlmSt.place
  simp only [AlmSt.close_eq]
  split
  · split
    · split <;> rfl
    · rfl
  · rfl

end

/-! ### What an event does (R364, R366) -/

/-- With a slot to spare the log does not fill. -/
theorem Hw.fillCheck_eq (h : Hw) (hc : (h.reg ALM_CAP).toNat = 0 ∨ (h.reg ALM_COUNT).toNat + h.alm.held + 1 < (h.reg ALM_CAP).toNat) :
    h.fillCheck = h := by
  refine if_neg fun ⟨_, h1, h2⟩ => ?_
  omega

/-- With no drop to report, or no room for it, nothing is reported. -/
theorem Hw.reportDrops_eq (h : Hw) (src : Nat) (hd : h.alm.drops.at src = 0 ∨ h.alm.room = false) : h.reportDrops src = h :=
  if_pos (hd.imp id fun e => by simp [e])

section
variable (h : Hw) (src code : Nat) (a0 a1 a2 : Word)

/-- An event that is recorded: its record is placed and its source's sequence advances. -/
theorem Hw.event_recorded (hf : h.almState ≠ almFull) (hh : h.almState ≠ almHalted) (hd : h.alm.drops.at src = 0)
    (hr : h.alm.absorbs (h.mkRec src code a0 a1 a2) = true ∨ h.alm.room = true)
    (hc : (h.reg ALM_CAP).toNat = 0 ∨
      h.almCount + (h.alm.place (h.mkRec src code a0 a1 a2)).held + 1 < (h.reg ALM_CAP).toNat) :
    h.event src code a0 a1 a2 = { h with alm := (h.alm.place (h.mkRec src code a0 a1 a2)).advance src } := by
  unfold Hw.event
  rw [Hw.almState] at hf hh
  simp only [hf, hh, if_false, Hw.reportDrops_eq h src (.inl hd), Bool.or_eq_true, hr, if_true]
  exact Hw.fillCheck_eq _ hc

/-- An event that finds the buffer full is dropped, and the drop counts. -/
theorem Hw.event_dropped (hf : h.almState ≠ almFull) (hh : h.almState ≠ almHalted)
    (hr : h.alm.absorbs (h.mkRec src code a0 a1 a2) = false) (hroom : h.alm.room = false) :
    (h.event src code a0 a1 a2).f ALM_ERR ALM_ERR.dropped = min ALM_ERR.dropped.max (h.f ALM_ERR ALM_ERR.dropped + 1) := by
  unfold Hw.event
  rw [Hw.almState] at hf hh
  simp only [hf, hh, if_false, Hw.reportDrops_eq h src (.inr hroom), hr, hroom, Bool.or_self, Bool.false_eq_true]
  exact (Hw.f_setFlag_other _ _ _ _ _ _ (by decide)).trans (Hw.f_bump _ _ _ _ (by decide) (by decide) (by decide))

@[simp] theorem Hw.enterFull_posts : h.enterFull.alm.posts = h.alm.posts := by
  unfold Hw.enterFull
  simp only [AlmSt.close_eq]
  split <;> simp [AlmSt.advance, AlmSt.cover, Hw.setIrq]

@[simp] theorem Hw.fillCheck_posts : h.fillCheck.alm.posts = h.alm.posts := by
  unfold Hw.fillCheck
  simp only
  split
  · exact Hw.enterFull_posts h
  · rfl

@[simp] theorem Hw.reportDrops_posts : (h.reportDrops src).alm.posts = h.alm.posts := by
  unfold Hw.reportDrops
  simp only
  split
  · rfl
  · simp [AlmSt.advance]

@[simp] theorem Hw.ringPlace_posts (r : AlmRec) : (h.ringPlace r).alm.posts = h.alm.posts := by
  unfold Hw.ringPlace
  split <;> simp

/-- An event leaves the words that masters hold for posting. -/
@[simp] theorem Hw.event_posts : (h.event src code a0 a1 a2).alm.posts = h.alm.posts := by
  unfold Hw.event
  simp only
  split
  · simp [AlmSt.advance]
  · split
    · simp [AlmSt.advance]
    · split
      · simp [AlmSt.advance]
      · split
        · simp [AlmSt.advance]
        · simp [AlmSt.advance, Hw.setIrq]

end

/-! ### The open record repeats -/

/-- An open record is repeated by the record of an event with its source, code and arguments. -/
theorem AlmRec.same_mkRec_iff (o : AlmRec) (h : Hw) (src code : Nat) (a0 a1 a2 : Word) :
    o.same (h.mkRec src code a0 a1 a2) = true ↔ o.source = src ∧ o.code = code ∧ o.a0 = a0 ∧ o.a1 = a1 ∧ o.a2 = a2 :=
  decide_eq_true_iff

theorem AlmRec.same_mkRec (o : AlmRec) (h : Hw) : o.same (h.mkRec o.source o.code o.a0 o.a1 o.a2) = true :=
  (AlmRec.same_mkRec_iff o h _ _ _ _ _).mpr ⟨rfl, rfl, rfl, rfl, rfl⟩

/-- Equality has no regard to the flags, where a gap shows. -/
theorem AlmRec.same_regap (o r : AlmRec) (h : Hw) (hs : o.same r = true) : o.same (h.regap r) = true := hs

/-- The open record `o` took one more repetition, and closed at its last. -/
def Repeated (o : AlmRec) (a b : AlmSt) : Prop :=
  if o.repeats = 65534 then b.opened = none ∧ b.buffer = a.buffer ++ [{ o with repeats := 65535 }]
  else b.opened = some { o with repeats := o.repeats + 1 } ∧ b.buffer = a.buffer

/-- The sequence of a source has no part in a repetition. -/
theorem Repeated.advance {o : AlmRec} {a b : AlmSt} (h : Repeated o a b) (src : Nat) : Repeated o a (b.advance src) := h

/-- A record equal to the open one repeats it. -/
theorem AlmSt.repeated_place (a : AlmSt) (r o : AlmRec) (h : a.opened = some o) (hs : o.same r = true) (hr : o.repeats < 65535) :
    Repeated o a (a.place r) := by
  unfold Repeated
  rw [AlmSt.place_same a r o h hs hr]
  by_cases he : o.repeats = 65534
  · rw [if_pos he, if_pos he]
    exact ⟨rfl, rfl⟩
  · rw [if_neg he, if_neg he]
    exact ⟨rfl, rfl⟩

/-- The log takes a repetition of the open record `o`: it is open for events and does not fill. -/
structure TakesRepeat (h : Hw) (o : AlmRec) : Prop where
  opened : h.alm.opened = some o
  notFull : h.f ALM_STAT ALM_STAT.state ≠ almFull
  notHalted : h.f ALM_STAT ALM_STAT.state ≠ almHalted
  more : o.repeats < 65535
  room : (h.reg ALM_CAP).toNat = 0 ∨ (h.reg ALM_COUNT).toNat + h.alm.held + 1 < (h.reg ALM_CAP).toNat

theorem TakesRepeat.advance {h : Hw} {o : AlmRec} (t : TakesRepeat h o) (src : Nat) : TakesRepeat (h.updAlm (·.advance src)) o where
  opened := t.opened
  notFull := by rw [Hw.updAlm_f]; exact t.notFull
  notHalted := by rw [Hw.updAlm_f]; exact t.notHalted
  more := t.more
  room := by rw [Hw.updAlm_reg, Hw.updAlm_reg]; exact t.room

section
variable {h : Hw} {o : AlmRec} (t : TakesRepeat h o)
include t

/-- The log does not fill by placing a repetition. -/
theorem TakesRepeat.place_room (r : AlmRec) (hs : o.same r = true) :
    (h.reg ALM_CAP).toNat = 0 ∨ (h.reg ALM_COUNT).toNat + (h.alm.place r).held + 1 < (h.reg ALM_CAP).toNat := by
  rw [AlmSt.held_place_same _ _ o t.opened hs t.more]
  exact t.room

/-- A configuration record equal to the open one is placed, its timestamp moved with the open record's. -/
theorem TakesRepeat.placeCfg_eq (r : AlmRec) (hs : o.same (h.regap r) = true) :
    h.placeCfg r = { h with alm := h.alm.place (h.regap r) } := by
  unfold Hw.placeCfg
  simp only [t.notFull, t.notHalted, if_false]
  exact Hw.fillCheck_eq _ (t.place_room _ hs)

/-- An event equal to the open record repeats it: its source's sequence advances, and it closes at the last repetition. -/
theorem Hw.absorbOne_spec (hd : h.alm.drops.at o.source = 0) :
    h.absorbOne.alm.seqs.at o.source = (h.alm.seqs.at o.source + 1) % 2 ^ 32 ∧ Repeated o h.alm h.absorbOne.alm := by
  unfold Hw.absorbOne
  simp only [t.opened]
  by_cases hcfg : o.source = cfgSource
  · have hs := AlmRec.same_regap _ _ (h.updAlm (·.advance cfgSource)) (AlmRec.same_mkRec o h)
    rw [if_pos hcfg, ← hcfg] at *
    rw [(t.advance o.source).placeCfg_eq _ hs, Hw.updAlm_alm, AlmSt.place_seqs, AlmSt.seqs_advance_same]
    exact ⟨rfl, AlmSt.repeated_place (h.alm.advance o.source) _ o t.opened hs t.more⟩
  · have hs := AlmRec.same_mkRec o h
    rw [if_neg hcfg, Hw.event_recorded h o.source o.code o.a0 o.a1 o.a2 t.notFull t.notHalted hd
      (.inl (AlmSt.absorbs_same _ _ o t.opened hs t.more)) (t.place_room _ hs), AlmSt.seqs_advance_same, AlmSt.place_seqs]
    exact ⟨rfl, (AlmSt.repeated_place _ _ o t.opened hs t.more).advance _⟩

end

/-! ### Firmware posts (R372) -/

/-- The device with a master's held posting words taken. -/
def Hw.postTaken (h : Hw) (m : Nat) : Hw := h.updAlm fun a => { a with posts := a.posts.set m default }

/-- The device with the result of a master's post shown. -/
def Hw.postShows (h : Hw) (m res : Nat) : Hw := h.updAlm fun a => { a with postResult := a.postResult.set m res }

/-- A post may name a source and a code of firmware. -/
def firmwareCode (c : Word) : Prop :=
  0x2000 ≤ ALM_POST_CODE.source.get c ∧ ALM_POST_CODE.source.get c ≤ 0x2FFF ∧ 0x8000 ≤ ALM_POST_CODE.code.get c

section
variable {h : Hw} {m : Nat} {v c a0 a1 : Word} (hp : h.alm.posts.at m = (c, a0, a1))
include hp

theorem Hw.post_refused (hn : ¬ firmwareCode c) : h.post m v = (h.postTaken m).postShows m 1 := by
  unfold firmwareCode at hn
  simp only [Hw.post, hp, hn, not_false_eq_true, if_true, Hw.postTaken, Hw.postShows]

theorem Hw.post_shut (hn : firmwareCode c) (hst : h.almState = almFull ∨ h.almState = almHalted) :
    h.post m v = ((h.postTaken m).event (ALM_POST_CODE.source.get c) (ALM_POST_CODE.code.get c) a0 a1 v).postShows m 3 := by
  unfold firmwareCode at hn
  have hst' : (h.updAlm fun a => { a with posts := a.posts.set m default }).almState = almFull ∨
    (h.updAlm fun a => { a with posts := a.posts.set m default }).almState = almHalted := hst
  simp only [Hw.post, hp, hn, and_self, not_true_eq_false, if_false, hst', if_true, Hw.postTaken, Hw.postShows]

theorem Hw.post_open (hn : firmwareCode c) (hf : h.almState ≠ almFull) (hh : h.almState ≠ almHalted) (ho : h.alm.opened = none) :
    h.post m v = ((h.postTaken m).event (ALM_POST_CODE.source.get c) (ALM_POST_CODE.code.get c) a0 a1 v).postShows m
      (if h.alm.room then 0 else 2) := by
  unfold firmwareCode at hn
  have hst' : ¬ ((h.updAlm fun a => { a with posts := a.posts.set m default }).almState = almFull ∨
    (h.updAlm fun a => { a with posts := a.posts.set m default }).almState = almHalted) := not_or.mpr ⟨hf, hh⟩
  have hr : (h.updAlm fun a => { a with posts := a.posts.set m default }).alm.room = h.alm.room := rfl
  have ha := AlmSt.absorbs_none (h.updAlm fun a => { a with posts := a.posts.set m default }).alm
  simp only [Hw.post, hp, hn, and_self, not_true_eq_false, if_false, hst', hr, ha _ ho, Bool.or_false, Hw.postTaken, Hw.postShows]

end

/-- What a posted write leaves for the post itself: the Almanac as it was, but for the sequence of configuration records. -/
structure PostWritten (h g : Hw) : Prop where
  alm : g.alm = { h.alm with seqs := g.alm.seqs }
  seqs : ∀ src, src ≠ cfgSource → g.alm.seqs.at src = h.alm.seqs.at src
  regs : ∀ k ∈ [ALM_STAT, ALM_CAP, ALM_COUNT, ALM_ERR], g.reg k = h.reg k
  now : g.now = h.now

/-- ALM_POST_ARG[2] is no half of a 64-bit quantity. -/
theorem postArg_single : lowWordOf (ALM_POST_ARG 2) = none ∧ ∀ r ∈ regFind (ALM_POST_ARG 2), r.lowWord = false := by
  decide +kernel

/-- A permitted write of ALM_POST_ARG[2] posts. -/
theorem post_completes {s : State} {via : BusAcc} {v : Word} {P : Hw → Prop} (hp : Permitted s.hw via (ALM_POST_ARG 2))
    (hP : ∀ g, PostWritten s.hw g → P (g.post via.master.num v)) : Completes (.post via v) s P := by
  refine completes_of_run (e := fun h => h.regWrite via (ALM_POST_ARG 2) v fun _ h => h.post via.master.num v) rfl ?_
  have hp' : Permitted (cleared s.hw) via (ALM_POST_ARG 2) := hp
  obtain ⟨r, -, hr⟩ := permitted_sees hp
  have hl := postArg_single.2 r hr
  have hn := postArg_single.1
  rw [Hw.regWrite_single _ _ _ _ r _ hp' hr hl hn]
  have hc := Hw.stored_committed (cleared s.hw) via (ALM_POST_ARG 2) r v hl hn
  have ha := Hw.stored_alm (cleared s.hw) via (ALM_POST_ARG 2) r v
  refine hP _ ⟨hc.alm, fun src hs => ?_, fun k hk => hc.regs k ?_, ?_⟩
  · rw [ha]
    split
    · rfl
    · exact AlmSt.seqs_advance_other _ _ _ hs
  · rw [writtenRegs, hn]
    revert k
    decide
  · have := congrArg Hw.now hc.parts
    exact this

section
variable {h g : Hw} (w : PostWritten h g)
include w

theorem PostWritten.almState_eq : g.almState = h.almState := by
  rw [Hw.almState, Hw.f, w.regs _ (by simp), Hw.almState, Hw.f]

theorem PostWritten.posts_eq : g.alm.posts = h.alm.posts := (congrArg AlmSt.posts w.alm).trans rfl

theorem PostWritten.opened_eq : g.alm.opened = h.alm.opened := (congrArg AlmSt.opened w.alm).trans rfl

theorem PostWritten.held_eq : g.alm.held = h.alm.held := (congrArg AlmSt.held w.alm).trans rfl

theorem PostWritten.room_eq : g.alm.room = h.alm.room := (congrArg AlmSt.room w.alm).trans rfl

theorem PostWritten.drops_eq : g.alm.drops = h.alm.drops := (congrArg AlmSt.drops w.alm).trans rfl

end

end Sys2Proof.Machine
end

section
/-! PROOFS. What the Almanac's commands complete: the open record and firmware posts (R365, R372). -/

namespace Sys2Proof.Machine

open Reg Sys2Proof.Safety

/-- EVENT_ABSORB repeats the open record. -/
theorem eventAbsorb_completes (s : State) (o : AlmRec) (t : TakesRepeat s.hw o) (hd : s.hw.alm.drops.at o.source = 0) :
    Completes .eventAbsorb s fun h =>
      h.alm.seqs.at o.source = (s.hw.alm.seqs.at o.source + 1) % 2 ^ 32 ∧ Repeated o s.hw.alm h.alm :=
  have t' : TakesRepeat (cleared s.hw) o := ⟨t.opened, t.notFull, t.notHalted, t.more, t.room⟩
  completes_of_run (e := Hw.absorbOne) rfl (Hw.absorbOne_spec t' hd)

/-- The open record of `a`, if there is one, stands closed in `b`. -/
def Closed (a b : AlmSt) : Prop := b.opened = none ∧ b.buffer = a.buffer ++ a.opened.toList

theorem AlmSt.closed_close (a : AlmSt) : Closed a a.close := by
  rw [AlmSt.close_eq]
  exact ⟨rfl, rfl⟩

/-- FLUSH_TIMEOUT closes the open record. -/
theorem flushTimeout_completes (s : State) : Completes .flushTimeout s fun h => Closed s.hw.alm h.alm :=
  completes_of_run (e := Hw.almClose) rfl (AlmSt.closed_close _)

/-- No half of ALM_CTRL is held. -/
theorem almCtrl_single : ∀ r, regFind ALM_CTRL = some r → r.lowWord = false := by
  have h : ∀ r ∈ regFind ALM_CTRL, r.lowWord = false := by decide +kernel
  exact h

/-- A write of ALM_CTRL with `close` closes the open record. -/
theorem close_completes (s : State) (via : BusAcc) (hp : Permitted s.hw via ALM_CTRL) :
    Completes (.close via) s fun h => Closed s.hw.alm h.alm := by
  refine completes_of_run (e := fun h => h.regWrite via ALM_CTRL (BitVec.ofNat 32 (2 ^ 31)) fun _ h => h.almCtrl (BitVec.ofNat 32 (2 ^ 31))) rfl ?_
  have hp' : Permitted (cleared s.hw) via ALM_CTRL := hp
  obtain ⟨low, g, hc, -, -, e⟩ := Hw.regWrite_permitted (cleared s.hw) via ALM_CTRL (BitVec.ofNat 32 (2 ^ 31))
    (fun _ h => h.almCtrl (BitVec.ofNat 32 (2 ^ 31))) hp' almCtrl_single
  have hb : bit (BitVec.ofNat 32 (2 ^ 31)).toNat ALM_CTRL.close.lo = true := by decide
  rw [e, Hw.almCtrl, if_pos hb, Hw.almClose, Hw.updAlm_alm, hc.alm]
  exact AlmSt.closed_close _

/-! ### Posts -/

theorem AlmSt.held_place_none (a : AlmSt) (r : AlmRec) (h : a.opened = none) : (a.place r).held = a.held + 1 := by
  rw [AlmSt.place_none a r h]
  simp [AlmSt.held, AlmSt.cover, h]

section
variable (s : State) (via : BusAcc) (v c a0 a1 : Word) (hp : Permitted s.hw via (ALM_POST_ARG 2))
  (hc : s.hw.alm.posts.at via.master.num = (c, a0, a1))
include hp hc

/-- A post of a source or code that is not firmware's gives result 1 and no record. -/
theorem post_refused_completes (hn : ¬ firmwareCode c) :
    Completes (.post via v) s fun h =>
      h.alm.postResult.at via.master.num = 1 ∧ h.alm.opened = s.hw.alm.opened ∧ h.alm.posts.at via.master.num = default := by
  refine post_completes hp fun g w => ?_
  rw [Hw.post_refused (by rwa [w.posts_eq]) hn]
  exact ⟨Map.at_set_same _ _ _, w.opened_eq, Map.at_set_same _ _ _⟩

/-- A post while the log is full or halted gives result 3. -/
theorem post_shut_completes (hn : firmwareCode c) (hst : s.hw.almState = almFull ∨ s.hw.almState = almHalted) :
    Completes (.post via v) s fun h => h.alm.postResult.at via.master.num = 3 ∧ h.alm.posts.at via.master.num = default := by
  refine post_completes hp fun g w => ?_
  rw [Hw.post_shut (by rwa [w.posts_eq]) hn (by rwa [w.almState_eq])]
  refine ⟨Map.at_set_same _ _ _, ?_⟩
  rw [Hw.postShows, Hw.updAlm_alm, Hw.event_posts]
  exact Map.at_set_same _ _ _

section
variable (hn : firmwareCode c) (hf : s.hw.almState ≠ almFull) (hh : s.hw.almState ≠ almHalted) (ho : s.hw.alm.opened = none)
include hn hf hh ho

/-- A post that the buffer takes gives result 0 and opens its record. -/
theorem post_recorded_completes (hroom : s.hw.alm.room = true) (hd : s.hw.alm.drops.at (ALM_POST_CODE.source.get c) = 0)
    (hcap : (s.hw.reg ALM_CAP).toNat = 0 ∨ s.hw.almCount + s.hw.alm.held + 2 < (s.hw.reg ALM_CAP).toNat) :
    Completes (.post via v) s fun h =>
      h.alm.postResult.at via.master.num = 0 ∧ h.alm.posts.at via.master.num = default ∧
      ∃ r, h.alm.opened = some r ∧ r.source = ALM_POST_CODE.source.get c ∧ r.code = ALM_POST_CODE.code.get c ∧ r.a0 = a0 ∧ r.a1 = a1 ∧
        r.a2 = v ∧ r.stamp = s.hw.now % 2 ^ 64 ∧ r.seq = s.hw.alm.seqs.at (ALM_POST_CODE.source.get c) := by
  refine post_completes hp fun g w => ?_
  have hsrc : ALM_POST_CODE.source.get c ≠ cfgSource := by
    have : cfgSource < 0x2000 := by decide
    have := hn.1
    omega
  have hopen : (g.postTaken via.master.num).alm.opened = none := w.opened_eq.trans ho
  have hrec := Hw.event_recorded (g.postTaken via.master.num) (ALM_POST_CODE.source.get c) (ALM_POST_CODE.code.get c) a0 a1 v
    (w.almState_eq ▸ hf) (w.almState_eq ▸ hh) (w.drops_eq ▸ hd) (.inr (w.room_eq ▸ hroom)) (by
      rw [AlmSt.held_place_none _ _ hopen]
      rw [← w.regs ALM_CAP (by simp), Hw.almCount, ← w.regs ALM_COUNT (by simp), ← w.held_eq] at hcap
      exact hcap)
  rw [Hw.post_open (by rwa [w.posts_eq]) hn (by rwa [w.almState_eq]) (by rwa [w.almState_eq]) (by rwa [w.opened_eq]), hrec, w.room_eq,
    hroom, if_pos rfl]
  refine ⟨Map.at_set_same _ _ _, ?_, (g.postTaken via.master.num).mkRec (ALM_POST_CODE.source.get c) (ALM_POST_CODE.code.get c) a0 a1 v,
    ?_, rfl, rfl, rfl, rfl, rfl, ?_, ?_⟩
  · rw [Hw.postShows, Hw.updAlm_alm, AlmSt.advance, AlmSt.place_posts]
    exact Map.at_set_same _ _ _
  · rw [Hw.postShows, Hw.updAlm_alm, AlmSt.advance, AlmSt.place_none _ _ hopen]
  · rw [← w.now]
    rfl
  · exact w.seqs _ hsrc

/-- A post that finds the buffer full gives result 2, and its event counts as dropped. -/
theorem post_dropped_completes (hroom : s.hw.alm.room = false) :
    Completes (.post via v) s fun h =>
      h.alm.postResult.at via.master.num = 2 ∧
      h.f ALM_ERR ALM_ERR.dropped = min ALM_ERR.dropped.max (s.hw.f ALM_ERR ALM_ERR.dropped + 1) := by
  refine post_completes hp fun g w => ?_
  have hopen : (g.postTaken via.master.num).alm.opened = none := w.opened_eq.trans ho
  rw [Hw.post_open (by rwa [w.posts_eq]) hn (by rwa [w.almState_eq]) (by rwa [w.almState_eq]) (by rwa [w.opened_eq]), w.room_eq, hroom]
  refine ⟨Map.at_set_same _ _ _, ?_⟩
  rw [Hw.postShows, Hw.updAlm_f, Hw.event_dropped _ _ _ _ _ _ (w.almState_eq ▸ hf) (w.almState_eq ▸ hh) (AlmSt.absorbs_none _ _ hopen)
    (w.room_eq ▸ hroom), Hw.postTaken, Hw.updAlm_f, Hw.f, w.regs ALM_ERR (by simp), Hw.f]

end

end

end Sys2Proof.Machine
end

section
/-! PROOFS. The health report (R375), and the settling of O41. -/

namespace Sys2Proof.Machine

open Reg Sys2Proof.Safety

/-! ### The report is rebuilt -/

section
variable (key : Nat → Nat) (val : Nat → Word)

/-- The registers `key k` set to `val k`, for every `k` of a list. -/
def Hw.setEach (h : Hw) (l : List Nat) : Hw := l.foldl (fun h k => h.setReg (key k) (val k)) h

theorem Hw.setEach_hlt (h : Hw) (l : List Nat) : (h.setEach key val l).hlt = h.hlt := by
  induction l generalizing h with
  | nil => rfl
  | cons k l ih => exact ih (h.setReg (key k) (val k))

theorem Hw.setEach_reg_other (h : Hw) (l : List Nat) (j : Nat) (hj : ∀ k ∈ l, j ≠ key k) : (h.setEach key val l).reg j = h.reg j := by
  induction l generalizing h with
  | nil => rfl
  | cons k l ih =>
    refine (ih (h.setReg (key k) (val k)) fun i hi => hj i (List.mem_cons_of_mem k hi)).trans ?_
    exact Hw.reg_setReg_other _ _ _ _ (hj k List.mem_cons_self)

theorem Hw.setEach_reg (hkey : Function.Injective key) (h : Hw) (l : List Nat) (hl : l.Nodup) (k : Nat) (hk : k ∈ l) :
    (h.setEach key val l).reg (key k) = val k := by
  induction l generalizing h with
  | nil => cases hk
  | cons i l ih =>
    obtain ⟨hi, hl⟩ := List.nodup_cons.mp hl
    rcases List.mem_cons.mp hk with rfl | hk
    · refine (Hw.setEach_reg_other key val (h.setReg (key k) (val k)) l _ fun j hj e => ne_of_mem_of_not_mem hj hi (hkey e).symm).trans ?_
      exact Hw.reg_setReg_same _ _ _
    · exact ih (h.setReg (key i) (val i)) hl hk

end

/-- The registers that raising and publishing the report must leave. -/
def reportRegs : List Nat := HLT_CFG :: (List.range 16).map HLT_REPORT

/-- The report and the health manager's record stand. -/
structure ReportKept (h g : Hw) : Prop where
  hlt : g.hlt = h.hlt
  regs : ∀ k ∈ reportRegs, g.reg k = h.reg k

theorem report_mem_reportRegs (k : Nat) (hk : k < 16) : HLT_REPORT k ∈ reportRegs :=
  List.mem_cons_of_mem _ (List.mem_map_of_mem (List.mem_range.mpr hk))

theorem reportRegs_apart : ∀ k ∈ reportRegs, k ≠ HLT_IRQ_STAT ∧ k ≠ HLT_ERR ∧ k ∉ logRegs ∧ k ∉ deliveryRegs := by decide

theorem reportRegs_ne_notice : ∀ f < 48, STM_NOTICE f ∉ reportRegs := by decide

theorem ReportKept.refl (h : Hw) : ReportKept h h := ⟨rfl, fun _ _ => rfl⟩

section
variable {h g : Hw} (p : ReportKept h g)
include p

theorem ReportKept.trans {x : Hw} (q : ReportKept g x) : ReportKept h x :=
  ⟨q.hlt.trans p.hlt, fun k hk => (q.regs k hk).trans (p.regs k hk)⟩

theorem ReportKept.f_cfg (l : Fld) : g.f HLT_CFG l = h.f HLT_CFG l := by
  rw [Hw.f, p.regs HLT_CFG List.mem_cons_self, Hw.f]

theorem ReportKept.flag_cfg (l : Fld) : g.flag HLT_CFG l = h.flag HLT_CFG l := by
  rw [Hw.flag, p.f_cfg, Hw.flag]

end

section
variable (h : Hw)

theorem ReportKept.raise (f : Fld) (i : Nat) : ReportKept h (h.raise HLT_IRQ_STAT f i) where
  hlt := Hw.raise_hlt _ _ _ _
  regs k hk := Hw.raise_reg _ _ _ _ _ (reportRegs_apart k hk).1 (reportRegs_apart k hk).2.2.1

theorem ReportKept.bump (c t : Fld) : ReportKept h (h.bump HLT_ERR c t) where
  hlt := Hw.bump_hlt _ _ _ _
  regs k hk := Hw.reg_bump_other _ _ _ _ _ (reportRegs_apart k hk).2.1

theorem ReportKept.fifoNotice (f : Nat) (hf : f < 48) : ReportKept h (h.fifoNotice f) where
  hlt := by rw [Hw.fifoNotice, Hw.notice_hlt, Hw.deviceLine_hlt]
  regs k hk := by
    have hd := (reportRegs_apart k hk).2.2.2
    have hn : k ≠ STM_NOTICE f := ne_of_mem_of_not_mem hk (reportRegs_ne_notice f hf)
    rw [Hw.fifoNotice, Hw.notice_reg _ _ _ hn hd, Hw.deviceLine_reg _ _ _ hd]

/-- A packet that hardware sends leaves the report, whether it enters, waits or is lost. -/
theorem ReportKept.hwSend (prod f tag : Nat) (bs : List Byte) (hf : f < 48) : ReportKept h (h.hwSend prod f tag bs).1 := by
  have set : ∀ x, ReportKept h (h.setFifo f x) := fun _ => ⟨rfl, fun _ _ => rfl⟩
  unfold Hw.hwSend
  split
  · exact .refl h
  · split
    · exact (set _).trans (.fifoNotice _ f hf)
    · exact set _

theorem ReportKept.hwSendFree (prod f : Nat) (bs : List Byte) (hf : f < 48) : ReportKept h (h.hwSendFree prod f bs).1 :=
  have used : ReportKept h (h.useFree 1) := ⟨rfl, fun _ _ => rfl⟩
  used.trans (.hwSend _ prod f _ bs hf)

/-- The report is raised where it has changed, and published where a FIFO takes it. -/
def Hw.announceReport (changed : Bool) (bs : List Byte) : Hw :=
  let h := if changed then h.raise HLT_IRQ_STAT HLT_IRQ_STAT.report 0 else h
  if h.flag HLT_CFG HLT_CFG.fifo_en then
    let (h, lost) := h.hwSendFree prodHlt (h.f HLT_CFG HLT_CFG.fifo) bs
    if lost then h.bump HLT_ERR HLT_ERR.report_dropped HLT_ERR.drop_sat else h
  else h

theorem ReportKept.announceReport (changed : Bool) (bs : List Byte)
    (hf : h.flag HLT_CFG HLT_CFG.fifo_en = true → h.f HLT_CFG HLT_CFG.fifo < 48) : ReportKept h (h.announceReport changed bs) := by
  have raised : ReportKept h (if changed then h.raise HLT_IRQ_STAT HLT_IRQ_STAT.report 0 else h) := by
    cases changed
    · exact .refl h
    · exact .raise h _ _
  unfold Hw.announceReport
  generalize (if changed then h.raise HLT_IRQ_STAT HLT_IRQ_STAT.report 0 else h) = g at raised
  simp only
  by_cases he : g.flag HLT_CFG HLT_CFG.fifo_en = true
  · have hlt : g.f HLT_CFG HLT_CFG.fifo < 48 := by
      rw [raised.f_cfg]
      exact hf (raised.flag_cfg _ ▸ he)
    have sent := raised.trans (.hwSendFree g prodHlt _ bs hlt)
    rw [if_pos he]
    split
    · exact sent.trans (.bump _ _ _)
    · exact sent
  · rw [if_neg he]
    exact raised

end

/-- The health manager counts one more report. -/
def Hw.nextReport (h : Hw) : Hw := h.updHlt fun x => { x with reportSeq := (x.reportSeq + 1) % 2 ^ 32 }

/-- The report is written whole before it is announced. -/
theorem Hw.rebuild_eq (h : Hw) : ∃ changed, h.rebuild =
    ((h.nextReport.setEach HLT_REPORT (fun k => BitVec.ofNat 32 (fieldAt h.nextReport.reportOctets (4 * k) 4)) (List.range 16)).announceReport
      changed h.nextReport.reportOctets) :=
  ⟨_, rfl⟩

theorem HLT_REPORT_injective : Function.Injective HLT_REPORT := fun i j e => by
  unfold HLT_REPORT at e
  omega

/-- HEALTH_REPORT writes the report with the next sequence number. -/
theorem healthReport_completes (s : State) (hf : s.hw.flag HLT_CFG HLT_CFG.fifo_en = true → s.hw.f HLT_CFG HLT_CFG.fifo < 48) :
    Completes .healthReport s fun h =>
      h.hlt.reportSeq = (s.hw.hlt.reportSeq + 1) % 2 ^ 32 ∧
      ∀ k < 16, h.reg (HLT_REPORT k) = BitVec.ofNat 32 (fieldAt (cleared s.hw).nextReport.reportOctets (4 * k) 4) := by
  refine completes_of_run (e := Hw.rebuild) rfl ?_
  obtain ⟨changed, e⟩ := Hw.rebuild_eq (cleared s.hw)
  generalize hv : (fun k => BitVec.ofNat 32 (fieldAt (cleared s.hw).nextReport.reportOctets (4 * k) 4)) = val at e
  have hcfg : ∀ l, ((cleared s.hw).nextReport.setEach HLT_REPORT val (List.range 16)).f HLT_CFG l = s.hw.f HLT_CFG l := fun l => by
    rw [Hw.f, Hw.setEach_reg_other _ _ _ _ _ (by decide)]
    rfl
  have kept := ReportKept.announceReport ((cleared s.hw).nextReport.setEach HLT_REPORT val (List.range 16)) changed
    (cleared s.hw).nextReport.reportOctets (by rw [Hw.flag, hcfg, hcfg, ← Hw.flag]; exact hf)
  rw [e]
  refine ⟨?_, fun k hk => ?_⟩
  · rw [kept.hlt, Hw.setEach_hlt]
    rfl
  · rw [kept.regs _ (report_mem_reportRegs k hk),
      Hw.setEach_reg _ _ HLT_REPORT_injective _ _ List.nodup_range k (List.mem_range.mpr hk), ← hv]

end Sys2Proof.Machine
end

section
/-! PROOFS. A read of the report takes all of it, a held report is dropped (R11, R375), and O41 is settled. -/

namespace Sys2Proof.Machine

open Reg Sys2Proof.Safety

/-! ### A read of word 0 takes the report -/

section
variable (m : Nat) (key : Nat → Nat)

/-- One word of a snapshot: word 0 is the read itself. -/
def Hw.takeWord (h : Hw) (w : Nat) : Hw := if w = 0 then h else h.setReadShadow m (key w) (h.reg (key w))

theorem Hw.takeWord_reg (h : Hw) (w j : Nat) : (h.takeWord m key w).reg j = h.reg j := by
  unfold Hw.takeWord
  split <;> rfl

theorem Hw.takeWord_resp (h : Hw) (w : Nat) : (h.takeWord m key w).bus.resp = h.bus.resp := by
  unfold Hw.takeWord
  split <;> rfl

theorem Hw.takeWord_same (h : Hw) (w : Nat) (hw : w ≠ 0) : (h.takeWord m key w).readShadow m (key w) = some (h.reg (key w)) := by
  rw [Hw.takeWord, if_neg hw]
  exact Hw.readShadow_setReadShadow_same _ _ _ _

theorem Hw.takeWord_other (h : Hw) (w k : Nat) (hk : k ≠ key w) : (h.takeWord m key w).readShadow m k = h.readShadow m k := by
  unfold Hw.takeWord
  split
  · rfl
  · refine Map.at_set_other _ _ _ _ fun e => hk ?_
    unfold shadowKey at e
    omega

theorem Hw.foldl_takeWord_resp (h : Hw) (l : List Nat) : (l.foldl (Hw.takeWord m key) h).bus.resp = h.bus.resp := by
  induction l generalizing h with
  | nil => rfl
  | cons i l ih => exact (ih _).trans (Hw.takeWord_resp m key h i)

theorem Hw.foldl_takeWord_other (h : Hw) (l : List Nat) (k : Nat) (hk : ∀ i ∈ l, k ≠ key i) :
    (l.foldl (Hw.takeWord m key) h).readShadow m k = h.readShadow m k := by
  induction l generalizing h with
  | nil => rfl
  | cons i l ih =>
    exact (ih _ fun j hj => hk j (List.mem_cons_of_mem i hj)).trans (Hw.takeWord_other m key h i k (hk i List.mem_cons_self))

/-- Each word of the snapshot but word 0 stands held for the master as the register showed it. -/
theorem Hw.foldl_takeWord (hkey : Function.Injective key) (h : Hw) (l : List Nat) (w : Nat) (hw : w ≠ 0) (hl : w ∈ l) :
    (l.foldl (Hw.takeWord m key) h).readShadow m (key w) = some (h.reg (key w)) := by
  induction l generalizing h with
  | nil => cases hl
  | cons i l ih =>
    by_cases hm : w ∈ l
    · exact (ih _ hm).trans (congrArg some (Hw.takeWord_reg m key h i _))
    · obtain rfl : w = i := (List.mem_cons.mp hl).resolve_right hm
      refine (Hw.foldl_takeWord_other m key _ l _ fun j hj e => ne_of_mem_of_not_mem hj hm (hkey e).symm).trans ?_
      exact Hw.takeWord_same m key h w hw

end

theorem report_single : ∀ r, regFind (HLT_REPORT 0) = some r → r.lowWord = false := by
  have h : ∀ r ∈ regFind (HLT_REPORT 0), r.lowWord = false := by decide +kernel
  exact h

/-- REPORT_SNAPSHOT reads word 0 and takes the others for the reading master. -/
theorem reportSnapshot_completes (s : State) (via : BusAcc) (hp : Readable s.hw via (HLT_REPORT 0)) :
    Completes (.reportSnapshot via) s fun h =>
      h.bus.resp = .data [((cleared s.hw).readShadow via.master.num (HLT_REPORT 0)).getD (s.hw.reg (HLT_REPORT 0))] ∧
      ∀ w < 15, h.readShadow via.master.num (HLT_REPORT (w + 1)) = some (s.hw.reg (HLT_REPORT (w + 1))) := by
  refine completes_of_run (e := fun h => h.regRead via (HLT_REPORT 0) Hw.reg fun h =>
    (List.range 16).foldl (Hw.takeWord via.master.num HLT_REPORT) h) rfl ?_
  have hp' : Readable (cleared s.hw) via (HLT_REPORT 0) := hp
  rw [Hw.regRead_readable _ _ _ _ _ hp' report_single]
  refine ⟨(Hw.foldl_takeWord_resp _ _ _ _).trans rfl, fun w hw => ?_⟩
  exact Hw.foldl_takeWord _ _ HLT_REPORT_injective _ _ (w + 1) (Nat.succ_ne_zero w) (List.mem_range.mpr (Nat.succ_lt_succ hw))

/-! ### A report held past its time -/

/-- REPORT_DROP_TIMEOUT drops the oldest report that the FIFO holds back, and counts it. -/
theorem reportDropTimeout_completes (s : State) (hh : s.hw.holdsPacket prodHlt (s.hw.f HLT_CFG HLT_CFG.fifo) = true) :
    Completes .reportDropTimeout s fun h =>
      (h.fifo (s.hw.f HLT_CFG HLT_CFG.fifo)).waiting =
        (s.hw.fifo (s.hw.f HLT_CFG HLT_CFG.fifo)).waiting.eraseP (fun p => decide (p.1 = prodHlt)) ∧
      h.f HLT_ERR HLT_ERR.report_dropped = min HLT_ERR.report_dropped.max (s.hw.f HLT_ERR HLT_ERR.report_dropped + 1) := by
  refine completes_of_run (e := fun h => if h.holdsPacket prodHlt (h.f HLT_CFG HLT_CFG.fifo)
    then (h.dropHeld prodHlt (h.f HLT_CFG HLT_CFG.fifo)).bump HLT_ERR HLT_ERR.report_dropped HLT_ERR.drop_sat else h) rfl ?_
  have hh' : (cleared s.hw).holdsPacket prodHlt ((cleared s.hw).f HLT_CFG HLT_CFG.fifo) = true := hh
  rw [if_pos hh', cleared_f]
  generalize s.hw.f HLT_CFG HLT_CFG.fifo = f
  refine ⟨?_, ?_⟩
  · rw [Hw.fifo, Hw.bump_fifos, Hw.dropHeld, Hw.setFifo, Map.at_set_same]
    rfl
  · exact Hw.f_bump _ _ _ _ (by decide) (by decide) (by decide)

/-- Settles O41: each command of the open record, of posts and of the report completes as its own theorem says. -/
theorem recordCommandsComplete : Obligations.RecordCommandsComplete := by
  refine ⟨fun s o ho hf hh hr hd hc => eventAbsorb_completes s o ⟨ho, hf, hh, hr, hc⟩ hd, flushTimeout_completes, close_completes,
    fun s via v c a0 a1 hp hc => ⟨post_refused_completes s via v c a0 a1 hp hc, fun h1 h2 h3 => ?_⟩, healthReport_completes,
    reportSnapshot_completes, reportDropTimeout_completes⟩
  have hn : firmwareCode c := ⟨h1, h2, h3⟩
  exact ⟨post_shut_completes s via v c a0 a1 hp hc hn, post_recorded_completes s via v c a0 a1 hp hc hn,
    post_dropped_completes s via v c a0 a1 hp hc hn⟩

end Sys2Proof.Machine
end

section
/-! SUPPORT. A master's reset gives back what it held: the owner of every mailbox channel lock and host semaphore (R27). -/

namespace Sys2Proof.Machine

open Reg

/-- `free` clears the owner field of the register `key n`, and of the other registers changes those of recording at most. -/
structure FreesOwner (key : Nat → Nat) (owner : Fld) (free : Hw → Nat → Hw) : Prop where
  cleared : ∀ h n, key n ∉ logRegs → (free h n).f (key n) owner = 0
  others : ∀ h n k, k ≠ key n → k ∉ logRegs → (free h n).reg k = h.reg k

/-- Free one lock where a master owns it. -/
def Hw.freeHeld (m : Nat) (key : Nat → Nat) (owner : Fld) (free : Hw → Nat → Hw) (h : Hw) (n : Nat) : Hw :=
  if h.f (key n) owner = m then free h n else h

section
variable {m : Nat} {key : Nat → Nat} {owner : Fld} {free : Hw → Nat → Hw} (hf : FreesOwner key owner free)
include hf

theorem Hw.freeHeld_reg_other (h : Hw) (n k : Nat) (hk : k ≠ key n) (hl : k ∉ logRegs) :
    (h.freeHeld m key owner free n).reg k = h.reg k := by
  unfold Hw.freeHeld
  split
  · exact hf.others h n k hk hl
  · rfl

/-- A lock that is looked at is not the master's afterwards. -/
theorem Hw.freeHeld_owner_ne (hm : m ≠ 0) (h : Hw) (n : Nat) (hl : key n ∉ logRegs) :
    (h.freeHeld m key owner free n).f (key n) owner ≠ m := by
  unfold Hw.freeHeld
  split
  case isTrue => rw [hf.cleared h n hl]; exact hm.symm
  case isFalse he => exact he

/-- A lock that is not the master's stays so, whichever lock is looked at. -/
theorem Hw.freeHeld_keeps_owner_ne (hm : m ≠ 0) (h : Hw) (n k : Nat) (hl : k ∉ logRegs) (hk : h.f k owner ≠ m) :
    (h.freeHeld m key owner free n).f k owner ≠ m := by
  by_cases e : k = key n
  · subst e
    exact Hw.freeHeld_owner_ne hf hm h n hl
  · rw [Hw.f, Hw.freeHeld_reg_other hf h n k e hl]
    exact hk

theorem Hw.foldl_freeHeld_reg_other (l : List Nat) (k : Nat) (hk : ∀ n ∈ l, k ≠ key n) (hl : k ∉ logRegs) (h : Hw) :
    (l.foldl (Hw.freeHeld m key owner free) h).reg k = h.reg k := by
  induction l generalizing h with
  | nil => rfl
  | cons n l ih =>
    exact (ih (fun i hi => hk i (List.mem_cons_of_mem n hi)) _).trans (Hw.freeHeld_reg_other hf h n k (hk n List.mem_cons_self) hl)

theorem Hw.foldl_freeHeld_keeps_owner_ne (hm : m ≠ 0) (l : List Nat) (k : Nat) (hl : k ∉ logRegs) (h : Hw) (hk : h.f k owner ≠ m) :
    (l.foldl (Hw.freeHeld m key owner free) h).f k owner ≠ m := by
  induction l generalizing h with
  | nil => exact hk
  | cons n l ih => exact ih _ (Hw.freeHeld_keeps_owner_ne hf hm h n k hl hk)

/-- After all locks of a list are looked at, none of them is the master's. -/
theorem Hw.foldl_freeHeld_owner_ne (hm : m ≠ 0) (l : List Nat) (n : Nat) (hn : n ∈ l) (hl : key n ∉ logRegs) (h : Hw) :
    (l.foldl (Hw.freeHeld m key owner free) h).f (key n) owner ≠ m := by
  induction l generalizing h with
  | nil => cases hn
  | cons i l ih =>
    rcases List.mem_cons.mp hn with rfl | hn
    · exact Hw.foldl_freeHeld_keeps_owner_ne hf hm l _ hl _ (Hw.freeHeld_owner_ne hf hm h n hl)
    · exact ih hn _

end

/-! ### The locks of a master's reset -/

/-- Free a mailbox channel lock, with its record. -/
def Hw.freeChannel (m : Nat) (h : Hw) (ch : Nat) : Hw :=
  (h.setF (MBX_CH_LOCK ch) MBX_CH_LOCK.owner 0).event (srcOf 0x05 0) 0x0006 1 (BitVec.ofNat 32 ch) (BitVec.ofNat 32 m)

/-- Free a host semaphore, with its record. -/
def Hw.freeSem (m : Nat) (h : Hw) (n : Nat) : Hw :=
  (h.semFree n).event (srcOf 0x04 0) 0x0006 2 (BitVec.ofNat 32 n) (BitVec.ofNat 32 m)

/-- A master's reset looks at every channel lock, then at every semaphore. -/
theorem Hw.releaseLocks_eq (h : Hw) (m : Nat) : h.releaseLocks m =
    (List.range 16).foldl (Hw.freeHeld m SEM_LOCK SEM_LOCK.owner (Hw.freeSem m))
      ((List.range 32).foldl (Hw.freeHeld m MBX_CH_LOCK MBX_CH_LOCK.owner (Hw.freeChannel m)) h) := rfl

theorem freesOwner_freeChannel (m : Nat) : FreesOwner MBX_CH_LOCK MBX_CH_LOCK.owner (Hw.freeChannel m) where
  cleared h ch hl := by
    rw [Hw.freeChannel, Hw.event_f _ _ _ _ _ _ _ _ hl]
    exact Hw.f_setF_same _ _ _ _ (by decide)
  others h ch k hk hl := by
    rw [Hw.freeChannel, Hw.event_reg _ _ _ _ _ _ _ hl]
    exact Hw.reg_setF_other _ _ _ _ _ hk

theorem freesOwner_freeSem (m : Nat) : FreesOwner SEM_LOCK SEM_LOCK.owner (Hw.freeSem m) where
  cleared h n hl := by
    rw [Hw.freeSem, Hw.event_f _ _ _ _ _ _ _ _ hl]
    exact Hw.f_setF_same _ _ _ _ (by decide)
  others h n k hk hl := by
    rw [Hw.freeSem, Hw.event_reg _ _ _ _ _ _ _ hl]
    exact Hw.reg_setF_other _ _ _ _ _ hk

theorem channelLocks_not_log : ∀ ch < 32, MBX_CH_LOCK ch ∉ logRegs := by decide

theorem semLocks_not_log : ∀ n < 16, SEM_LOCK n ∉ logRegs := by decide

theorem channelLock_ne_semLock : ∀ ch < 32, ∀ n < 16, MBX_CH_LOCK ch ≠ SEM_LOCK n := by decide

/-- A master's number is never the 0 of a free lock (R25). -/
theorem masterNum_ne_zero (m : Master) : m.num ≠ 0 := by
  cases m <;> simp [Master.num]

/-- A master's reset leaves it no channel lock: the semaphores freed afterwards touch none. -/
theorem Hw.releaseLocks_channel (h : Hw) {m : Nat} (hm : m ≠ 0) (ch : Nat) (hch : ch < 32) :
    (h.releaseLocks m).f (MBX_CH_LOCK ch) MBX_CH_LOCK.owner ≠ m := by
  have hl := channelLocks_not_log ch hch
  rw [Hw.releaseLocks_eq, Hw.f, Hw.foldl_freeHeld_reg_other (freesOwner_freeSem m) _ _
    (fun n hn => channelLock_ne_semLock ch hch n (List.mem_range.mp hn)) hl]
  exact Hw.foldl_freeHeld_owner_ne (freesOwner_freeChannel m) hm _ ch (List.mem_range.mpr hch) hl h

/-- A master's reset leaves it no semaphore. -/
theorem Hw.releaseLocks_sem (h : Hw) {m : Nat} (hm : m ≠ 0) (n : Nat) (hn : n < 16) :
    (h.releaseLocks m).f (SEM_LOCK n) SEM_LOCK.owner ≠ m := by
  rw [Hw.releaseLocks_eq]
  exact Hw.foldl_freeHeld_owner_ne (freesOwner_freeSem m) hm _ n (List.mem_range.mpr hn) (semLocks_not_log n hn) _

end Sys2Proof.Machine
end

section
/-! PROOFS. Resets of a master, promotions, lines, halts, counted faults and waiting retirements complete (O2). -/

namespace Sys2Proof.Machine

open Reg Sys2Proof.Safety

/-! ### A line to one core (R38, R64) -/

/-- Ungating a core's cluster changes registers alone. -/
theorem Hw.ungate_eq (h : Hw) (n : Nat) : ∃ r, h.ungate n = { h with regs := r } := by
  unfold Hw.ungate
  split
  · exact ⟨_, rfl⟩
  · exact ⟨h.regs, rfl⟩

/-- A core takes what is above its running level. -/
theorem Hw.takes_of_runLevel_lt {h : Hw} {n level : Nat} (hl : h.runLevel n < level) : h.takes n level = true := by
  rw [Hw.takes, decide_eq_true hl, Bool.true_or]

/-- An interrupt that a core takes is the newest that it has taken. -/
theorem Hw.toCore_taken (h : Hw) (n line level : Nat) (ht : h.takes n level = true) :
    ((h.toCore n line level).cores.at n).taken = (line, level) :: (h.cores.at n).taken := by
  obtain ⟨r, e⟩ := h.ungate_eq n
  have ht' : Hw.takes { h with regs := r } n level = true := ht
  simp only [Hw.toCore, e, ht', if_true, Hw.emit_cores, Map.at_upd_same]

/-- `g` is `h` but for what has been output. -/
def OutputOnly (h g : Hw) : Prop := ∃ out, g = { h with bus := { h.bus with out := out } }

theorem OutputOnly.refl (h : Hw) : OutputOnly h h := ⟨h.bus.out, rfl⟩

theorem OutputOnly.emit (h : Hw) (o : Out) : OutputOnly h (h.emit o) := ⟨_, rfl⟩

theorem OutputOnly.trans {a b c : Hw} (h1 : OutputOnly a b) (h2 : OutputOnly b c) : OutputOnly a c := by
  obtain ⟨o1, rfl⟩ := h1
  obtain ⟨o2, rfl⟩ := h2
  exact ⟨o2, rfl⟩

theorem OutputOnly.foldl {β : Type} (f : Hw → β → Hw) (hf : ∀ h b, OutputOnly h (f h b)) (l : List β) (h : Hw) :
    OutputOnly h (l.foldl f h) := by
  induction l generalizing h with
  | nil => exact .refl h
  | cons b l ih => exact (hf h b).trans (ih (f h b))

/-- A line's host vectors are output, in PCIe mode and in SPI mode. -/
theorem OutputOnly.hostVectors (h : Hw) (line : Nat) : OutputOnly h (h.hostVectors line) := by
  refine .foldl _ (fun h p => ?_) _ h
  dsimp only
  split
  · split
    · exact .foldl _ (fun h v => .emit h _) _ h
    · exact .refl h
  · split
    · exact .emit h _
    · exact .refl h

/-- The cores in service of a routing mask with one bit. -/
theorem routedCores_one (p : Nat → Bool) (n : Fin 8) (hn : p n.val = true) :
    ((List.range 8).filter fun i => bit (2 ^ n.val) i && p i) = [n.val] := by
  have one : ∀ n : Fin 8, ((List.range 8).filter fun i => decide (n.val = i)) = [n.val] := by decide
  rw [← one n]
  refine List.filter_congr fun i _ => ?_
  rw [bit, Nat.testBit_two_pow]
  by_cases e : n.val = i
  · rw [← e, hn, Bool.and_true]
  · rw [decide_eq_false e, Bool.false_and]

/-- A line is routed to one application core in service, and not to SP (R64). -/
structure RoutedTo (h : Hw) (line : Nat) (n : Fin 8) : Prop where
  enabled : h.flag (CFG_IRQ_ROUTE line) CFG_IRQ_ROUTE.enable = true
  notSp : h.flag (CFG_IRQ_ROUTE line) CFG_IRQ_ROUTE.sp = false
  cores : h.f (CFG_IRQ_ROUTE line) CFG_IRQ_ROUTE.cores = 2 ^ n.val
  inService : h.flag (SPN_CORE_EN n.val) SPN_CORE_EN.in_service = true

theorem OutputOnly.routedTo {h g : Hw} (o : OutputOnly h g) {line : Nat} {n : Fin 8} (hr : RoutedTo h line n) : RoutedTo g line n := by
  obtain ⟨out, rfl⟩ := o
  exact ⟨hr.enabled, hr.notSp, hr.cores, hr.inService⟩

/-- A line routed to one core that takes its level goes there, after the hosts' vectors. -/
theorem Hw.deviceLine_one (h : Hw) (line : Nat) (n : Fin 8) (hr : RoutedTo (h.hostVectors line) line n)
    (ht : (h.hostVectors line).takes n.val ((h.hostVectors line).f (CFG_IRQ_ROUTE line) CFG_IRQ_ROUTE.level) = true) :
    h.deviceLine line = (h.hostVectors line).toCore n.val line ((h.hostVectors line).f (CFG_IRQ_ROUTE line) CFG_IRQ_ROUTE.level) := by
  have hcs := routedCores_one (fun i => (h.hostVectors line).flag (SPN_CORE_EN i) SPN_CORE_EN.in_service) n hr.inService
  simp only [Hw.deviceLine, hr.enabled, hr.notSp, hr.cores, hcs, List.find?_cons, ht, not_true_eq_false, Bool.false_eq_true, if_false]

/-- A line routed to one core that takes its level is the newest that the core has taken. -/
theorem Hw.deviceLine_taken (h : Hw) (line : Nat) (n : Fin 8) (hr : RoutedTo h line n)
    (ht : h.takes n.val (h.f (CFG_IRQ_ROUTE line) CFG_IRQ_ROUTE.level) = true) :
    ((h.deviceLine line).cores.at n.val).taken = (line, h.f (CFG_IRQ_ROUTE line) CFG_IRQ_ROUTE.level) :: (h.cores.at n.val).taken := by
  have o := OutputOnly.hostVectors h line
  have hr' := o.routedTo hr
  have hone := Hw.deviceLine_one h line n hr'
  obtain ⟨out, e⟩ := o
  rw [e] at hone
  rw [hone ht]
  exact Hw.toCore_taken _ _ _ _ ht

/-- DEVICE_INTERRUPT of an asserted line is taken by the one core it is routed to, where its level is above the core's. -/
theorem deviceInterrupt_completes (s : State) (line : Fin 224) (n : Fin 8) (hl : s.hw.lineLevel line.val = true)
    (hr : RoutedTo s.hw line.val n) (hlt : s.hw.runLevel n.val < s.hw.f (CFG_IRQ_ROUTE line.val) CFG_IRQ_ROUTE.level) :
    Completes (.deviceInterrupt line) s fun h => (h.cores.at n.val).taken =
      (line.val, s.hw.f (CFG_IRQ_ROUTE line.val) CFG_IRQ_ROUTE.level) :: (s.hw.cores.at n.val).taken := by
  refine completes_of_run (e := fun h => if h.lineLevel line.val || eventLine line.val then h.deviceLine line.val else h) rfl ?_
  have hl' : (cleared s.hw).lineLevel line.val = true := hl
  have hr' : RoutedTo (cleared s.hw) line.val n := ⟨hr.enabled, hr.notSp, hr.cores, hr.inService⟩
  rw [if_pos (by rw [hl', Bool.true_or])]
  exact Hw.deviceLine_taken _ _ _ hr' (Hw.takes_of_runLevel_lt hlt)

/-! ### Promotions and halts (R29, R43) -/

/-- Give a requester a number of promotions since its last grant. -/
def Hw.promote (h : Hw) (who : Requester) (n : Nat) : Hw :=
  { h with bus := { h.bus with promoted := h.bus.promoted.set (requesterIndex who) n } }

theorem Hw.classOf_promote (h : Hw) (who : Requester) (n : Nat) : (h.promote who n).classOf who = fabricClass who + n := by
  rw [Hw.classOf, Hw.promote, Map.at_set_same]

/-- FABRIC_PROMOTION lifts a requester below class 3 by one class. -/
theorem fabricPromotion_completes (s : State) (who : Requester) (hc : s.hw.classOf who < 3) :
    Completes (.fabricPromotion who) s fun h => h.classOf who = s.hw.classOf who + 1 := by
  refine completes_of_run (e := fun h => if fabricClass who = 3 then h
    else h.promote who (if h.classOf who < 3 then h.bus.promoted.at (requesterIndex who) + 1 else 1)) rfl ?_
  have hc' : (cleared s.hw).classOf who < 3 := hc
  have h3 : fabricClass who ≠ 3 := by unfold Hw.classOf at hc; omega
  rw [if_neg h3, if_pos hc', Hw.classOf_promote]
  rfl

@[simp] theorem Hw.withdrawOffer_cores (h : Hw) (n : Nat) : (h.withdrawOffer n).cores = h.cores := by
  unfold Hw.withdrawOffer
  split <;> rfl

@[simp] theorem Hw.runningShows_cores (h : Hw) (n : Nat) (st : TaskState) : (h.runningShows n st).cores = h.cores := by
  unfold Hw.runningShows
  split <;> rfl

/-- DEBUG_HALT of an application core halts it while debug is open. -/
theorem debugHalt_completes (s : State) (n : Fin 8) (ho : s.hw.debugOpen = true) (hh : (s.hw.cores.at n).halted = false) :
    Completes (.debugHalt (.ac n)) s fun h => (h.cores.at n).halted = true := by
  refine completes_of_run (e := fun h => if !h.debugOpen || (h.cores.at n).halted then h
    else ((h.setHalted n true).withdrawOffer n).runningShows n .preempted) rfl ?_
  have ho' : (cleared s.hw).debugOpen = true := ho
  have hh' : ((cleared s.hw).cores.at n).halted = false := hh
  rw [if_neg (by simp [ho', hh']), Hw.runningShows_cores, Hw.withdrawOffer_cores, Hw.setHalted, Map.at_upd_same]

/-! ### Counted faults and waiting retirements (R34, R374) -/

/-- A transient fault is counted once and shown. -/
theorem Hw.countTransient_counts (h : Hw) (cls inst : Nat) (kind : Word) (hlt : h.f HLT_ERR HLT_ERR.transient < HLT_ERR.transient.max) :
    (h.countTransient cls inst kind).f HLT_ERR HLT_ERR.transient = h.f HLT_ERR HLT_ERR.transient + 1 ∧
      (h.countTransient cls inst kind).flag HLT_IRQ_STAT HLT_IRQ_STAT.transient = true := by
  refine ⟨?_, Hw.raise_flag _ _ _ _ (by decide) (by decide) (by decide)⟩
  rw [Hw.countTransient, Hw.raise_f _ _ _ _ _ _ (by decide) (by decide), Hw.event_f _ _ _ _ _ _ _ _ (by decide)]
  exact Hw.f_bump_lt _ _ _ _ (by decide) hlt

/-- A fault of a class from 9 on is only counted: no unit of it is classified. -/
theorem Hw.fault_countedOnly (h : Hw) (cls inst : Nat) (kind : Word) (failed : Bool) (hc : 9 ≤ cls) :
    h.fault cls inst kind failed = h.countTransient cls inst kind :=
  if_pos (Or.inl hc)

/-- TRANSIENT_FAULT of a class from 9 on counts the fault and shows it. -/
theorem transientFault_completes (s : State) (cls : Fin 15) (inst : Fin 512) (kind : Word) (failed : Bool) (hc : 9 ≤ cls.val)
    (hlt : s.hw.f HLT_ERR HLT_ERR.transient < HLT_ERR.transient.max) :
    Completes (.transientFault cls inst kind failed) s fun h =>
      h.f HLT_ERR HLT_ERR.transient = s.hw.f HLT_ERR HLT_ERR.transient + 1 ∧ h.flag HLT_IRQ_STAT HLT_IRQ_STAT.transient = true := by
  refine completes_of_run (e := fun h => if cls.val = 3 ∧ inst.val < 8 then h.laneFault inst.val kind failed
    else h.fault cls.val inst.val kind failed) rfl ?_
  rw [if_neg (by omega), Hw.fault_countedOnly _ _ _ _ _ hc]
  exact Hw.countTransient_counts (cleared s.hw) _ _ _ hlt

/-- The retirement of a bank that a free spare replaces begins its copy. -/
theorem Hw.bankRetired_migrates (h : Hw) (b spare : Nat) (hm : h.hlt.migrating = none) (hb : h.hlt.bankMap = [])
    (hs : h.hlt.spareBank = some spare) (hne : spare ≠ b) (hr : h.isRetired 1 spare = false) :
    h.bankRetired b = h.updHlt fun x => { x with migrating := some (b, spare) } := by
  simp [Hw.bankRetired, hm, hb, hs, hne, hr]

theorem Hw.replaceUnit_bank (h : Hw) (b : Nat) : h.replaceUnit ⟨1, b⟩ = h.bankRetired b := rfl

/-- With no copy under way the replacement of the next waiting unit begins. -/
theorem exec_retirementNext (s : State) (r : Retire) (rest : List Retire) (hq : s.hw.hlt.queue = r :: rest)
    (hm : s.hw.hlt.migrating = none) :
    exec .retirementNext s = run s fun h => (h.updHlt fun x => { x with queue := rest }).replaceUnit r := by
  change execRetirementNext s = _
  simp only [execRetirementNext, run, hq, hm, Option.isSome_none, Bool.false_eq_true, if_false]

/-- RETIREMENT_NEXT of an SRAM bank begins its copy to the free spare. -/
theorem retirementNext_completes (s : State) (b spare : Nat) (rest : List Retire) (hq : s.hw.hlt.queue = ⟨1, b⟩ :: rest)
    (hm : s.hw.hlt.migrating = none) (hb : s.hw.hlt.bankMap = []) (hs : s.hw.hlt.spareBank = some spare) (hne : spare ≠ b)
    (hr : s.hw.isRetired 1 spare = false) :
    Completes .retirementNext s fun h => h.hlt.migrating = some (b, spare) ∧ h.hlt.queue = rest := by
  refine completes_of_run (exec_retirementNext s ⟨1, b⟩ rest hq hm) ?_
  rw [Hw.replaceUnit_bank,
    Hw.bankRetired_migrates ((cleared s.hw).updHlt fun x => { x with queue := rest }) b spare hm hb hs hne hr]
  exact ⟨rfl, rfl⟩

/-- Settles O2: a master's reset frees its locks (`Hw.releaseLocks_eq`), and each other command completes as its own theorem says. -/
theorem fabricCommandsComplete : Obligations.FabricCommandsComplete :=
  ⟨fun s m => completes_of_run (e := fun h => h.releaseLocks m.num) rfl
      ⟨Hw.releaseLocks_channel (cleared s.hw) (masterNum_ne_zero m), Hw.releaseLocks_sem (cleared s.hw) (masterNum_ne_zero m)⟩,
    fabricPromotion_completes,
    fun s line n hl he hsp hc hs hlt => deviceInterrupt_completes s line n hl ⟨he, hsp, hc, hs⟩ hlt,
    debugHalt_completes, transientFault_completes, retirementNext_completes⟩

end Sys2Proof.Machine
end

section
/-! PROOFS. Every well-formed command answers a next state, and the others are refused by name (O48). -/

namespace Sys2Proof.Machine

open Sys2Proof.Safety

/-- An SPI write runs where its frame's words are as many as a frame carries. -/
theorem exec_spiWrite (port : Port) (addr : BitVec 40) (words : List Word) (crcOk : Bool) (s : State) :
    ∃ check e, exec (.spiWrite port addr words crcOk) s = runIf (spiWordsOk words) check s e :=
  ⟨_, _, rfl⟩

/-- The meaning of a well-formed command is an effect on the device, run in every state. -/
theorem exec_eq_run (c : Instr) (s : State) (hc : WellFormed c = true) : ∃ e, exec c s = run s e := by
  cases c
  case spiWrite port addr words crcOk =>
    obtain ⟨check, e, he⟩ := exec_spiWrite port addr words crcOk s
    exact ⟨e, he.trans (if_pos hc)⟩
  all_goals
    unfold exec
    exact ⟨_, rfl⟩

/-- A command that is not well formed is an SPI write of the wrong length, and is refused by name. -/
theorem exec_illFormed (c : Instr) (s : State) (hc : WellFormed c = false) : ∃ check, exec c s = .refused (.illFormed check) := by
  cases c
  case spiWrite port addr words crcOk =>
    obtain ⟨check, e, he⟩ := exec_spiWrite port addr words crcOk s
    exact ⟨check, he.trans (if_neg (Bool.eq_false_iff.mp hc))⟩
  all_goals cases hc

/-- Settles O48: a well-formed command runs an effect (`exec_eq_run`), which leaves the queue alone; any other is refused
(`exec_illFormed`). -/
theorem wellFormedCommandsAnswer : Obligations.WellFormedCommandsAnswer := by
  intro c s
  refine ⟨fun hc => ?_, exec_illFormed c s⟩
  obtain ⟨e, he⟩ := exec_eq_run c s hc
  exact ⟨after s e, he, rfl⟩

end Sys2Proof.Machine
end

section
/-! PROOFS. Reloads: what a write of CFG_RELOAD_CTRL starts, how a reload ends, and what each of its commands completes (R48–R50). -/

namespace Sys2Proof.Machine

open Reg Sys2Proof.Safety

/-- Two effects are the same command where they leave the same of the device that it finds. -/
theorem run_congr {s : State} {e e' : Hw → Hw} (h : e (cleared s.hw) = e' (cleared s.hw)) : run s e = run s e' :=
  congrArg (fun g => (.next { s with hw := g } : Host.Outcome State Fault Refusal)) h

/-! ### The end of a reload (R50) -/

/-- CFG_RELOAD_STAT with the outcome of a reload stored. -/
def Hw.outcome (h : Hw) (st err : Nat) : Hw :=
  ((h.setF CFG_RELOAD_STAT CFG_RELOAD_STAT.state st).setF CFG_RELOAD_STAT CFG_RELOAD_STAT.error err).setFlag
    CFG_RELOAD_STAT CFG_RELOAD_STAT.done true

/-- A configuration record leaves the registers. -/
theorem Hw.stage_f (h : Hw) (m k : Nat) (v : Word) (rejected preset reload : Bool) (j : Nat) (l : Fld) :
    (h.stage m k v rejected preset reload).f j l = h.f j l := rfl

section
variable (h : Hw) (st err : Nat)

/-- The record of the outcome and line 18 leave CFG_RELOAD_STAT as the outcome is stored. -/
theorem Hw.reloadEnd_f (l : Fld) : (h.reloadEnd st err).f CFG_RELOAD_STAT l = (h.outcome st err).f CFG_RELOAD_STAT l := by
  rw [Hw.reloadEnd, Hw.deviceLine_f _ _ _ _ (by decide), Hw.stage_f, Hw.updCfg_f, Hw.outcome]

theorem Hw.reloadEnd_rlState : (h.reloadEnd st err).rlState = st % 16 := by
  rw [Hw.rlState, Hw.reloadEnd_f, Hw.outcome, Hw.f_setFlag_apart _ _ _ _ _ (by decide) (by decide),
    Hw.f_setF_apart _ _ _ _ _ (by decide) (by decide), Hw.f_setF_same _ _ _ _ (by decide)]
  rfl

theorem Hw.reloadEnd_error : (h.reloadEnd st err).f CFG_RELOAD_STAT CFG_RELOAD_STAT.error = err % 256 := by
  rw [Hw.reloadEnd_f, Hw.outcome, Hw.f_setFlag_apart _ _ _ _ _ (by decide) (by decide), Hw.f_setF_same _ _ _ _ (by decide)]
  rfl

theorem Hw.reloadEnd_done : (h.reloadEnd st err).flag CFG_RELOAD_STAT CFG_RELOAD_STAT.done = true := by
  rw [Hw.flag, Hw.reloadEnd_f]
  exact Hw.flag_setFlag_same _ _ _ _ (by decide) (by decide)

/-- A reload that has ended holds no image: line 18 leaves the configuration block but for what could not be routed. -/
theorem Hw.reloadEnd_candidate : (h.reloadEnd st err).cfg.candidate = none :=
  (congrArg CfgSt.candidate (Delivered.deviceLine _ 18).cfg).trans rfl

end

/-! ### A write of CFG_RELOAD_CTRL -/

theorem reloadCtrl_fields : ∀ r ∈ regFind CFG_RELOAD_CTRL, r.lowWord = false ∧
    r.fields = [⟨31, 1, .wo, .val, 0⟩, ⟨30, 1, .wo, .val, 0⟩, ⟨4, 1, .rw, .val, 0⟩, ⟨0, 4, .rw, .val, 0⟩] := by
  decide +kernel

theorem reloadCtrl_lowWordOf : lowWordOf CFG_RELOAD_CTRL = none := by decide +kernel

/-- A write of CFG_RELOAD_CTRL stores the partition that it names. -/
theorem Hw.writtenWord_partition (h : Hw) (r : RegDef) (v : Word) (hr : regFind CFG_RELOAD_CTRL = some r) :
    CFG_RELOAD_CTRL.partition.get (h.writtenWord CFG_RELOAD_CTRL r v) = CFG_RELOAD_CTRL.partition.get v := by
  have hw : writeFields CFG_RELOAD_CTRL r = r.fields := if_neg (by decide)
  rw [Hw.writtenWord, clearWraps_eq _ _ (by decide) (by decide), hw, (reloadCtrl_fields r hr).2]
  simp only [wordWrite]
  rw [Fld.get_set_other _ _ _ _ (by decide) (by decide), Fld.get_set_other _ _ _ _ (by decide) (by decide),
    Fld.get_set_other _ _ _ _ (by decide) (by decide)]
  refine (Fld.get_set_same CFG_RELOAD_CTRL.partition _ _ (by decide)).trans ?_
  exact Nat.mod_eq_of_lt (Fld.get_lt _ _)

/-- What a write of CFG_RELOAD_CTRL leaves for what it starts: the partition named, the state of the reload and of power as they were. -/
structure CtrlWritten (h g : Hw) (v : Word) : Prop where
  partition : g.f CFG_RELOAD_CTRL CFG_RELOAD_CTRL.partition = CFG_RELOAD_CTRL.partition.get v
  state : g.rlState = h.rlState
  power : g.f PWR_STAT PWR_STAT.state = h.f PWR_STAT PWR_STAT.state

theorem writtenRegs_reloadCtrl : ∀ k ∈ [CFG_RELOAD_STAT, PWR_STAT], k ∉ writtenRegs CFG_RELOAD_CTRL := by
  rw [writtenRegs, reloadCtrl_lowWordOf]
  decide

/-- A permitted write of CFG_RELOAD_CTRL is stored, then starts or aborts a reload. -/
theorem Hw.regWrite_reloadCtrl (h : Hw) (via : BusAcc) (v : Word) (hp : Permitted h via CFG_RELOAD_CTRL) :
    ∃ g, CtrlWritten h g v ∧
      h.regWrite via CFG_RELOAD_CTRL v (fun _ g => g.reloadCtrl via.master.num v) = g.reloadCtrl via.master.num v := by
  obtain ⟨low, g, hc, -, hw, he⟩ := Hw.regWrite_permitted h via CFG_RELOAD_CTRL v (fun _ g => g.reloadCtrl via.master.num v) hp
    fun r hr => (reloadCtrl_fields r hr).1
  obtain ⟨r, -, hr⟩ := permitted_sees hp
  refine ⟨g, ⟨?_, hc.f_eq _ _ (writtenRegs_reloadCtrl _ (by simp)), hc.f_eq _ _ (writtenRegs_reloadCtrl _ (by simp))⟩, he⟩
  rw [Hw.f, hw reloadCtrl_lowWordOf (by decide) r hr]
  exact h.writtenWord_partition r v hr

/-! ### What go and abort start (R48, R49) -/

/-- A reload that is not under way is neither verifying nor waiting. -/
theorem Hw.not_abortable_of_idle {h : Hw} (hb : h.reloadBusy = false) : ¬ (h.rlState = rlVerifying ∨ h.rlState = rlWaiting) := by
  simp only [Hw.reloadBusy, decide_eq_false_iff_not] at hb
  simp only [Hw.rlState, rlVerifying, rlWaiting]
  omega

/-- go of one of the partitions 1 to 8, with no reload under way and power in run, begins verification. -/
theorem Hw.reloadGo_eq (h : Hw) (m : Nat) (hb : h.reloadBusy = false) (h1 : 1 ≤ h.f CFG_RELOAD_CTRL CFG_RELOAD_CTRL.partition)
    (h8 : h.f CFG_RELOAD_CTRL CFG_RELOAD_CTRL.partition ≤ 8) (hp : h.f PWR_STAT PWR_STAT.state = 0) :
    ∃ g : CfgSt → CfgSt, h.reloadGo m =
      (((h.setF CFG_RELOAD_STAT CFG_RELOAD_STAT.partition (h.f CFG_RELOAD_CTRL CFG_RELOAD_CTRL.partition)).updCfg g).setF
        CFG_RELOAD_STAT CFG_RELOAD_STAT.state rlVerifying).setF CFG_RELOAD_STAT CFG_RELOAD_STAT.error 0 := by
  have hpart : ¬ (h.f CFG_RELOAD_CTRL CFG_RELOAD_CTRL.partition = 0 ∨ h.f CFG_RELOAD_CTRL CFG_RELOAD_CTRL.partition > 8) := by omega
  have hpwr : (h.setF CFG_RELOAD_STAT CFG_RELOAD_STAT.partition (h.f CFG_RELOAD_CTRL CFG_RELOAD_CTRL.partition)).f PWR_STAT PWR_STAT.state = 0 :=
    (Hw.f_setF_other _ _ _ _ _ _ (by decide)).trans hp
  refine ⟨fun c => { c with reloadMaster := m, fromMemory := h.flag CFG_RELOAD_CTRL CFG_RELOAD_CTRL.source }, ?_⟩
  simp only [Hw.reloadGo, hb, hpart, Hw.updCfg_f, hpwr, Bool.false_eq_true, if_false, ne_eq, not_true_eq_false]

/-- go shows its partition verifying, without an error. -/
theorem Hw.reloadGo_verifies (h : Hw) (m : Nat) (hb : h.reloadBusy = false) (h1 : 1 ≤ h.f CFG_RELOAD_CTRL CFG_RELOAD_CTRL.partition)
    (h8 : h.f CFG_RELOAD_CTRL CFG_RELOAD_CTRL.partition ≤ 8) (hp : h.f PWR_STAT PWR_STAT.state = 0) :
    (h.reloadGo m).rlState = rlVerifying ∧ (h.reloadGo m).rlPart = h.f CFG_RELOAD_CTRL CFG_RELOAD_CTRL.partition ∧
      (h.reloadGo m).f CFG_RELOAD_STAT CFG_RELOAD_STAT.error = 0 := by
  obtain ⟨g, e⟩ := h.reloadGo_eq m hb h1 h8 hp
  rw [e]
  refine ⟨?_, ?_, Hw.f_setF_same _ _ _ _ (by decide)⟩
  · rw [Hw.rlState, Hw.f_setF_apart _ _ _ _ _ (by decide) (by decide), Hw.f_setF_same _ _ _ _ (by decide)]
    rfl
  · rw [Hw.rlPart, Hw.f_setF_apart _ _ _ _ _ (by decide) (by decide), Hw.f_setF_apart _ _ _ _ _ (by decide) (by decide), Hw.updCfg_f,
      Hw.f_setF_same _ _ _ _ (by decide)]
    exact Nat.mod_eq_of_lt (Nat.lt_of_le_of_lt h8 (by decide))

/-- A write with go, with no reload under way, starts one, whatever it says of abort. -/
theorem Hw.reloadCtrl_go (h : Hw) (m : Nat) (v : Word) (hb : h.reloadBusy = false) (hgo : CFG_RELOAD_CTRL.go.get v = 1) :
    h.reloadCtrl m v = h.reloadGo m := by
  simp only [Hw.reloadCtrl, Hw.reloadAbort, if_neg (Hw.not_abortable_of_idle hb), ite_self, hgo, if_true]

/-- A write with abort and without go ends the reload that verifies or waits. -/
theorem Hw.reloadCtrl_abort (h : Hw) (m : Nat) (v : Word) (hst : h.rlState = rlVerifying ∨ h.rlState = rlWaiting)
    (ha : CFG_RELOAD_CTRL.abort.get v = 1) (hgo : CFG_RELOAD_CTRL.go.get v = 0) : h.reloadCtrl m v = h.reloadEnd rlFailed 0x0B := by
  simp only [Hw.reloadCtrl, Hw.reloadAbort, if_pos hst, ha, hgo, if_true, Nat.zero_ne_one, if_false]

/-! ### The commands of a reload -/

/-- RELOAD_GO starts verification of its partition. -/
theorem reloadGo_completes (s : State) (via : BusAcc) (v : Word) (hp : Permitted s.hw via CFG_RELOAD_CTRL) (hb : s.hw.reloadBusy = false)
    (h1 : 1 ≤ CFG_RELOAD_CTRL.partition.get v) (h8 : CFG_RELOAD_CTRL.partition.get v ≤ 8) (hpwr : s.hw.f PWR_STAT PWR_STAT.state = 0) :
    Completes (.reloadGo via v) s fun h =>
      h.rlState = rlVerifying ∧ h.rlPart = CFG_RELOAD_CTRL.partition.get v ∧ h.f CFG_RELOAD_STAT CFG_RELOAD_STAT.error = 0 := by
  refine completes_of_run (e := fun h => h.regWrite via CFG_RELOAD_CTRL (CFG_RELOAD_CTRL.go.set v 1) fun _ h =>
    h.reloadCtrl via.master.num (CFG_RELOAD_CTRL.go.set v 1)) rfl ?_
  obtain ⟨g, hw, e⟩ := Hw.regWrite_reloadCtrl (cleared s.hw) via (CFG_RELOAD_CTRL.go.set v 1) hp
  have hpart := hw.partition.trans (Fld.get_set_other _ _ v 1 (by decide) (by decide))
  have hbusy : g.reloadBusy = false := by
    rw [Hw.reloadBusy, ← Hw.rlState, hw.state]
    exact hb
  rw [e, Hw.reloadCtrl_go g _ _ hbusy (Fld.get_set_same _ v 1 (by decide)), ← hpart]
  exact g.reloadGo_verifies _ hbusy (by rwa [hpart]) (by rwa [hpart]) (hw.power.trans hpwr)

/-- RELOAD_ABORT ends the reload with its error. -/
theorem reloadAbort_completes (s : State) (via : BusAcc) (v : Word) (hp : Permitted s.hw via CFG_RELOAD_CTRL)
    (hst : s.hw.rlState = rlVerifying ∨ s.hw.rlState = rlWaiting) (hgo : CFG_RELOAD_CTRL.go.get v = 0) :
    Completes (.reloadAbort via v) s fun h =>
      h.rlState = rlFailed ∧ h.f CFG_RELOAD_STAT CFG_RELOAD_STAT.error = 0x0B ∧ h.flag CFG_RELOAD_STAT CFG_RELOAD_STAT.done = true := by
  refine completes_of_run (e := fun h => h.regWrite via CFG_RELOAD_CTRL (CFG_RELOAD_CTRL.abort.set v 1) fun _ h =>
    h.reloadCtrl via.master.num (CFG_RELOAD_CTRL.abort.set v 1)) rfl ?_
  obtain ⟨g, hw, e⟩ := Hw.regWrite_reloadCtrl (cleared s.hw) via (CFG_RELOAD_CTRL.abort.set v 1) hp
  rw [e, Hw.reloadCtrl_abort g _ _ (by rw [hw.state]; exact hst) (Fld.get_set_same _ v 1 (by decide))
    ((Fld.get_set_other _ _ v 1 (by decide) (by decide)).trans hgo)]
  exact ⟨g.reloadEnd_rlState _ _, g.reloadEnd_error _ _, g.reloadEnd_done _ _⟩

/-- RELOAD_VERIFIED of an image that is being verified. -/
theorem exec_reloadVerified (s : State) (img : Image) (hst : s.hw.rlState = rlVerifying) : exec (.reloadVerified img) s = run s fun h =>
    if h.verifyError img ≠ 0 then h.reloadEnd rlFailed (h.verifyError img)
    else (h.updCfg fun c => { c with candidate := some img }).setF CFG_RELOAD_STAT CFG_RELOAD_STAT.state rlWaiting := by
  change execReloadVerified img s = _
  exact run_congr (if_neg (not_not.mpr hst))

/-- RELOAD_VERIFIED without an error keeps the image and waits for the boundary. -/
theorem reloadVerified_waits (s : State) (img : Image) (hst : s.hw.rlState = rlVerifying) (he : (cleared s.hw).verifyError img = 0) :
    Completes (.reloadVerified img) s fun h => h.rlState = rlWaiting ∧ h.cfg.candidate = some img := by
  refine completes_of_run (exec_reloadVerified s img hst) ?_
  rw [if_neg (not_not.mpr he)]
  exact ⟨Hw.f_setF_same _ _ _ _ (by decide), rfl⟩

/-- RELOAD_VERIFIED with an error ends the reload with it. -/
theorem reloadVerified_fails (s : State) (img : Image) (hst : s.hw.rlState = rlVerifying) (he : (cleared s.hw).verifyError img ≠ 0) :
    Completes (.reloadVerified img) s fun h =>
      h.rlState = rlFailed ∧ h.f CFG_RELOAD_STAT CFG_RELOAD_STAT.error = (cleared s.hw).verifyError img % 256 := by
  refine completes_of_run (exec_reloadVerified s img hst) ?_
  rw [if_pos he]
  exact ⟨Hw.reloadEnd_rlState _ _ _, Hw.reloadEnd_error _ _ _⟩

/-- RELOAD_APPLY of an image that waits at its boundary: its partition and presets take effect, and the reload ends. -/
theorem exec_reloadApply (s : State) (img : Image) (hst : s.hw.rlState = rlWaiting) (hc : s.hw.cfg.candidate = some img)
    (hb : (cleared s.hw).atReloadBoundary s.hw.rlPart (imagePart img s.hw.rlPart) = true) :
    exec .reloadApply s = run s fun h => ((h.applyPartition h.rlPart (imagePart img h.rlPart) h.cfg.fromMemory).reloadPresets
      (imagePart img h.rlPart)).reloadEnd rlDone 0 := by
  have hst' : (cleared s.hw).rlState = rlWaiting := hst
  have hc' : (cleared s.hw).cfg.candidate = some img := hc
  have hb' : (cleared s.hw).atReloadBoundary (cleared s.hw).rlPart (imagePart img (cleared s.hw).rlPart) = true := hb
  change execReloadApply s = _
  rw [execReloadApply]
  refine run_congr ?_
  generalize cleared s.hw = g at hst' hc' hb' ⊢
  simp only [hc', hst', hb', ne_eq, not_true_eq_false, or_self, if_false]

/-- RELOAD_APPLY at the boundary is done. -/
theorem reloadApply_completes (s : State) (img : Image) (hst : s.hw.rlState = rlWaiting) (hc : s.hw.cfg.candidate = some img)
    (hb : (cleared s.hw).atReloadBoundary s.hw.rlPart (imagePart img s.hw.rlPart) = true) :
    Completes .reloadApply s fun h =>
      h.rlState = rlDone ∧ h.f CFG_RELOAD_STAT CFG_RELOAD_STAT.error = 0 ∧ h.cfg.candidate = none :=
  completes_of_run (exec_reloadApply s img hst hc hb) ⟨Hw.reloadEnd_rlState _ _ _, Hw.reloadEnd_error _ _ _, Hw.reloadEnd_candidate _ _ _⟩

/-- RELOAD_TIMEOUT ends a reload that verifies or waits. -/
theorem reloadTimeout_completes (s : State) (hst : s.hw.rlState = rlVerifying ∨ s.hw.rlState = rlWaiting) :
    Completes .reloadTimeout s fun h =>
      h.rlState = rlFailed ∧ h.f CFG_RELOAD_STAT CFG_RELOAD_STAT.error = 0x08 ∧ h.cfg.candidate = none := by
  refine completes_of_run (e := fun h => if h.rlState = rlVerifying ∨ h.rlState = rlWaiting then h.reloadEnd rlFailed 0x08 else h) rfl ?_
  have hst' : (cleared s.hw).rlState = rlVerifying ∨ (cleared s.hw).rlState = rlWaiting := hst
  rw [if_pos hst']
  exact ⟨Hw.reloadEnd_rlState _ _ _, Hw.reloadEnd_error _ _ _, Hw.reloadEnd_candidate _ _ _⟩

end Sys2Proof.Machine
end

section
/-! PROOFS. Selections of presets and the staging queue's drain complete (R53, R56), and O3 is settled. -/

namespace Sys2Proof.Machine

open Reg Sys2Proof.Safety

/-! ### A preset is applied (R53) -/

/-- A preset stands in the image in force. -/
theorem Hw.presetOf_congr {h g : Hw} (hc : g.cfg = h.cfg) (f n : Nat) : g.presetOf f n = h.presetOf f n := by
  rw [Hw.presetOf, Hw.presets, hc, Hw.presetOf, Hw.presets]

/-- A function has a preset of a number with a name (R53). -/
def Hw.presetNamed (h : Hw) (f n : Nat) : Prop := ((h.presetOf f n).filter fun p => p.name.any (· ≠ 0)).isSome = true

/-- A named preset that a master selects keeps its function busy and unmodified. -/
theorem Hw.applyPreset_named (h : Hw) (m : Master) (f n : Nat) (hn : h.presetNamed f n) :
    (h.applyPreset m f n false).cfg.presetBusy = some f ∧
      (h.applyPreset m f n false).flag (CFG_PRESET_SEL f) CFG_PRESET_SEL.modified = false := by
  obtain ⟨p, hp⟩ := Option.isSome_iff_exists.mp hn
  rw [Hw.applyPreset, hp]
  exact ⟨rfl, Hw.flag_setFlag_same _ _ _ _ (by decide) (by decide)⟩

/-! ### The selections -/

theorem presetSel_single : ∀ f : Fin 32, ∀ r ∈ regFind (CFG_PRESET_SEL f.val), r.lowWord = false := by
  decide +kernel

/-- No selection stands among the mailbox channels, in the Vigil domain, or at CFG_RELOAD_CTRL; it is the element of its function. -/
theorem presetSel_place (f : Fin 32) : mbxChOf (CFG_PRESET_SEL f.val) = none ∧ CFG_PRESET_SEL f.val / 0x10000 ≠ 0x1B ∧
    CFG_PRESET_SEL f.val ≠ CFG_RELOAD_CTRL ∧ elem (CFG_PRESET_SEL 0) 4 32 (CFG_PRESET_SEL f.val) = some f.val := by
  revert f
  decide

/-- A permitted write of a selection is stored, then the selection is made. -/
theorem Hw.busWrite_presetSel (h : Hw) (via : BusAcc) (f : Fin 32) (v : Word) (hp : Permitted h via (CFG_PRESET_SEL f.val)) :
    ∃ g, g.cfg = h.cfg ∧ h.busWrite via (CFG_PRESET_SEL f.val) v =
      Hw.presetWritten h via.master f.val (CFG_PRESET_SEL.preset.get v) g := by
  obtain ⟨hm, hB, hr, he⟩ := presetSel_place f
  obtain ⟨low, g, hc, -, -, e⟩ := Hw.regWrite_permitted h via (CFG_PRESET_SEL f.val) v
    (fun low g => Hw.wrote h via (CFG_PRESET_SEL f.val) v low g) hp (presetSel_single f)
  refine ⟨g, (congrArg Hw.cfg hc.parts).trans rfl, ?_⟩
  rw [Hw.busWrite, hm]
  simp only [Hw.wrote, if_neg hr, he] at e
  simp only [if_pos hB, Hw.wrote, if_neg hr, he, e]

/-- A selection while none is being applied is applied at once. -/
theorem Hw.presetWritten_idle (old : Hw) (m : Master) (f n : Nat) (h : Hw) (hf : f < 21) (hb : h.cfg.presetBusy = none) :
    Hw.presetWritten old m f n h =
      (h.setF (CFG_PRESET_SEL f) CFG_PRESET_SEL.preset (old.f (CFG_PRESET_SEL f) CFG_PRESET_SEL.preset)).applyPreset m f n false := by
  simp only [Hw.presetWritten, if_neg (Nat.not_le.mpr hf), ge_iff_le, Hw.setF_cfg, hb, Option.isSome_none, Bool.false_eq_true, if_false]

/-- PRESET_SELECT of a named preset applies it where none is being applied. -/
theorem presetSelect_completes (s : State) (via : BusAcc) (f : Fin 32) (v : Word) (hf : f.val < 21)
    (hp : Permitted s.hw via (CFG_PRESET_SEL f.val)) (hb : s.hw.cfg.presetBusy = none)
    (hn : s.hw.presetNamed f.val (CFG_PRESET_SEL.preset.get v)) :
    Completes (.presetSelect via f v) s fun h =>
      h.cfg.presetBusy = some f.val ∧ h.flag (CFG_PRESET_SEL f.val) CFG_PRESET_SEL.modified = false := by
  refine completes_of_run (e := fun h => h.busWrite via (CFG_PRESET_SEL f.val) v) rfl ?_
  obtain ⟨g, hc, e⟩ := Hw.busWrite_presetSel (cleared s.hw) via f v hp
  have hc' : g.cfg = s.hw.cfg := hc
  rw [e, Hw.presetWritten_idle _ _ _ _ _ hf (by rw [hc', hb])]
  refine Hw.applyPreset_named _ _ _ _ ?_
  rwa [Hw.presetNamed, Hw.presetOf_congr (h := s.hw) (by rw [Hw.setF_cfg, hc'])]

/-- The oldest selection that waits is applied next. -/
theorem Hw.presetNext_cons (h : Hw) (f n m : Nat) (q : List (Nat × Nat × Nat)) (hq : h.cfg.presetQueue = (f, n, m) :: q) :
    h.presetNext = (h.updCfg fun c => { c with presetBusy := none, presetQueue := q }).applyPreset (masterOf m) f n false := by
  simp only [Hw.presetNext, Hw.updCfg, hq]

/-- PRESET_QUEUED_APPLY applies the oldest selection that waits. -/
theorem presetQueuedApply_completes (s : State) (f n m : Nat) (q : List (Nat × Nat × Nat)) (hq : s.hw.cfg.presetQueue = (f, n, m) :: q)
    (hn : s.hw.presetNamed f n) :
    Completes .presetQueuedApply s fun h =>
      h.cfg.presetBusy = some f ∧ h.flag (CFG_PRESET_SEL f) CFG_PRESET_SEL.modified = false := by
  refine completes_of_run (e := Hw.presetNext) rfl ?_
  rw [Hw.presetNext_cons (cleared s.hw) f n m q hq]
  exact Hw.applyPreset_named _ _ _ _ hn

/-! ### The staging queue (R56) -/

/-- STAGING_DRAIN with room and no write waiting takes the oldest record out of the queue. -/
theorem stagingDrain_completes (s : State) (r : AlmRec) (rs : List AlmRec) (hs : s.hw.bus.staging = r :: rs) (hroom : s.hw.alm.room = true)
    (hw : s.hw.bus.waiting = []) : Completes .stagingDrain s fun h => h.bus.staging = rs := by
  have hb := Hw.drainStaging_bus (cleared s.hw) hroom
  have hs' : (cleared s.hw).bus.staging = r :: rs := hs
  refine ⟨after s Hw.drainStaging, exec_stagingDrain_alone s ?_, rfl, ?_⟩
  · rw [hb]
    exact hw
  · exact (congrArg BusSt.staging hb).trans (congrArg List.tail hs')

/-- Settles O3: each command of a reload, of the presets and of the staging queue completes as its own theorem says. -/
theorem reloadCommandsComplete : Obligations.ReloadCommandsComplete :=
  ⟨reloadGo_completes, reloadAbort_completes, reloadVerified_waits, reloadVerified_fails, reloadApply_completes, reloadTimeout_completes,
    presetSelect_completes, presetQueuedApply_completes, stagingDrain_completes⟩

end Sys2Proof.Machine
end

section
/-! SUPPORT. What the host ports keep while locks are released and units park (R27, R58, R79, R85): their records and their registers. -/

namespace Sys2Proof.Machine

open Reg Sys2Proof.Safety

/-- A register of the windows of HA and HB (R21). -/
def portReg (k : Nat) : Prop := 0x20000 ≤ k ∧ k < 0x40000

/-- `g` has the ports' records and registers as `h` has them. -/
structure PortsKept (h g : Hw) : Prop where
  hosts : g.hosts = h.hosts
  regs : ∀ k, portReg k → g.reg k = h.reg k

theorem PortsKept.refl (h : Hw) : PortsKept h h := ⟨rfl, fun _ _ => rfl⟩

theorem PortsKept.trans {a b c : Hw} (p : PortsKept a b) (q : PortsKept b c) : PortsKept a c :=
  ⟨q.hosts.trans p.hosts, fun k hk => (q.regs k hk).trans (p.regs k hk)⟩

theorem PortsKept.foldl {β : Type} (f : Hw → β → Hw) (hf : ∀ h b, PortsKept h (f h b)) (l : List β) (h : Hw) :
    PortsKept h (l.foldl f h) := by
  induction l generalizing h with
  | nil => exact .refl h
  | cons b l ih => exact (hf h b).trans (ih (f h b))

theorem PortsKept.f_eq {h g : Hw} (p : PortsKept h g) {k : Nat} (hk : portReg k) (l : Fld) : g.f k l = h.f k l := by
  rw [Hw.f, p.regs k hk, Hw.f]

/-- A store outside the ports' windows keeps them. -/
theorem PortsKept.setReg (h : Hw) {k : Nat} (w : Word) (hk : ¬ portReg k) : PortsKept h (h.setReg k w) :=
  ⟨rfl, fun _ hj => Hw.reg_setReg_other _ _ _ _ fun e => hk (e ▸ hj)⟩

theorem PortsKept.setF (h : Hw) {k : Nat} (c : Fld) (v : Nat) (hk : ¬ portReg k) : PortsKept h (h.setF k c v) := .setReg h _ hk

theorem PortsKept.bump (h : Hw) {k : Nat} (c s : Fld) (hk : ¬ portReg k) : PortsKept h (h.bump k c s) :=
  ⟨Hw.bump_hosts _ _ _ _, fun _ hj => Hw.reg_bump_other _ _ _ _ _ fun e => hk (e ▸ hj)⟩

theorem logRegs_not_portReg : ∀ k ∈ logRegs, ¬ portReg k := by
  unfold portReg
  decide

theorem deliveryRegs_not_portReg : ∀ k ∈ deliveryRegs, ¬ portReg k := by
  unfold portReg
  decide

theorem PortsKept.event (h : Hw) (src code : Nat) (a b c : Word) : PortsKept h (h.event src code a b c) :=
  ⟨Hw.event_hosts _ _ _ _ _ _, fun k hk => Hw.event_reg _ _ _ _ _ _ k fun hm => logRegs_not_portReg k hm hk⟩

theorem PortsKept.deviceLine (h : Hw) (line : Nat) : PortsKept h (h.deviceLine line) :=
  ⟨Hw.deviceLine_hosts _ _, fun k hk => Hw.deviceLine_reg _ _ k fun hm => deliveryRegs_not_portReg k hm hk⟩

theorem PortsKept.notice (h : Hw) {n : Nat} (hn : ¬ portReg n) : PortsKept h (h.notice n) :=
  ⟨Hw.notice_hosts _ _, fun k hk => Hw.notice_reg _ _ k (fun e => hn (e ▸ hk)) fun hm => deliveryRegs_not_portReg k hm hk⟩

/-! ### Locks and parked units -/

theorem PortsKept.releaseLocks (h : Hw) (m : Nat) : PortsKept h (h.releaseLocks m) := by
  have channel : ∀ h ch, PortsKept h (Hw.freeHeld m MBX_CH_LOCK MBX_CH_LOCK.owner (Hw.freeChannel m) h ch) := fun h ch => by
    unfold Hw.freeHeld
    split
    · exact (PortsKept.setF h _ _ (by simp only [portReg, MBX_CH_LOCK]; omega)).trans (.event _ _ _ _ _ _)
    · exact .refl h
  have sem : ∀ h n, PortsKept h (Hw.freeHeld m SEM_LOCK SEM_LOCK.owner (Hw.freeSem m) h n) := fun h n => by
    unfold Hw.freeHeld
    split
    · have owner := PortsKept.setF h (k := SEM_LOCK n) SEM_LOCK.owner 0 (by simp only [portReg, SEM_LOCK]; omega)
      have freed : PortsKept h (h.semFree n) := ⟨rfl, owner.regs⟩
      exact freed.trans (.event _ _ _ _ _ _)
    · exact .refl h
  rw [Hw.releaseLocks_eq]
  exact (PortsKept.foldl _ channel _ h).trans (.foldl _ sem _ _)

/-- A unit that parks, with its record and its context's notice, keeps the ports. -/
theorem PortsKept.park (h : Hw) (u ctx addr : Nat) (write : Bool) (kind : Nat) : PortsKept h (h.park u ctx addr write kind) := by
  have unit : ¬ portReg (SMU_UNIT u) := by simp only [portReg, SMU_UNIT]; omega
  have parked : PortsKept h (h.setParked u ctx kind) := by
    have q := ((PortsKept.setF h SMU_UNIT.state unitParked unit).trans (.setF _ SMU_UNIT.kind kind unit)).trans (.setF _ SMU_UNIT.ctx ctx unit)
    unfold Hw.setParked
    dsimp only
    split
    · exact q.trans (.setF _ _ _ (by simp only [portReg, DMA_CH_STAT]; omega))
    · exact q
  have record : ∀ h r, PortsKept h (Hw.faultRecord h r) := fun h r => by
    have queued : PortsKept h (if h.smu.queue.length < 64 then { h with smu := { h.smu with queue := h.smu.queue ++ [r] } }
        else h.setFlag SMU_FAULT_STAT SMU_FAULT_STAT.overflow true) := by
      split
      · exact ⟨rfl, fun _ _ => rfl⟩
      · exact .setF h _ _ (by unfold portReg; decide)
    exact ((queued.trans (.bump _ _ _ (by unfold portReg; decide))).trans (.deviceLine _ 19)).trans
      (.notice _ (by simp only [portReg, SMU_CTX_HANDLER]; omega))
  unfold Hw.park
  dsimp only
  split
  · exact record _ _
  · exact parked.trans (record _ _)

theorem PortsKept.parkTowards (h : Hw) (p : Nat) : PortsKept h (h.parkTowards p) := by
  unfold Hw.parkTowards
  refine PortsKept.foldl _ (fun h ch => ?_) _ h
  split
  · dsimp only
    split
    · exact .park _ _ _ _ _ _
    · exact .refl h
  · exact .refl h

end Sys2Proof.Machine
end

section
/-! PROOFS. A port reset shows link_down, counts, and leaves the link where its cause put it; a link that comes up shows itself (R58). -/

namespace Sys2Proof.Machine

open Reg Sys2Proof.Safety

/-! ### Registers of a port -/

/-- The registers that a port's commands touch lie in the ports' windows, and recording an event changes none of them. -/
theorem portRegs_place (p : Port) : ∀ k ∈ [HP_LINK (portNum p), HP_IRQ_STAT (portNum p), HP_ERR (portNum p), HP_SPI_CFG (portNum p),
    HP_SPI_LAST_LO (portNum p), HP_SPI_LAST_HI (portNum p), HP_SPI_LAST_DATA (portNum p)], portReg k ∧ k ∉ logRegs := by
  unfold portReg
  cases p <;> decide

theorem link_ne_irqStat (p : Nat) : HP_LINK p ≠ HP_IRQ_STAT p := by
  simp only [HP_LINK, HP_IRQ_STAT]
  omega

section
variable (p : Port)

theorem link_place : portReg (HP_LINK (portNum p)) ∧ HP_LINK (portNum p) ∉ logRegs := portRegs_place p _ (by simp)

theorem irqStat_place : portReg (HP_IRQ_STAT (portNum p)) ∧ HP_IRQ_STAT (portNum p) ∉ logRegs := portRegs_place p _ (by simp)

/-- A raised interrupt of a port leaves its link register. -/
theorem Hw.raise_link (h : Hw) (f : Fld) (i : Nat) (l : Fld) :
    (h.raise (HP_IRQ_STAT (portNum p)) f i).f (HP_LINK (portNum p)) l = h.f (HP_LINK (portNum p)) l :=
  Hw.raise_f _ _ _ _ _ _ (link_ne_irqStat _) (link_place p).2

end

/-! ### The link's state -/

section
variable (h : Hw) (n st : Nat)

theorem Hw.setLinkState_state : (h.setLinkState n st).f (HP_LINK n) HP_LINK.state = st % 8 :=
  Hw.f_setF_same _ _ _ _ (by decide)

theorem Hw.setLinkState_apart (l : Fld) (hl : HP_LINK.state.lo + HP_LINK.state.width ≤ l.lo) :
    (h.setLinkState n st).f (HP_LINK n) l = h.f (HP_LINK n) l :=
  Hw.f_setF_apart _ _ _ _ _ (by decide) (.inl hl)

@[simp] theorem Hw.setLinkState_hosts : (h.setLinkState n st).hosts = h.hosts := rfl

@[simp] theorem Hw.updHost_f (g : HostSt → HostSt) (k : Nat) (l : Fld) : (h.updHost n g).f k l = h.f k l := rfl

@[simp] theorem Hw.updHost_hosts (g : HostSt → HostSt) : (h.updHost n g).hosts = h.hosts.upd n g := rfl

theorem Hw.linkDetect_state : (h.linkDetect n).f (HP_LINK n) HP_LINK.state = 0 := by
  rw [Hw.linkDetect, Hw.f_setF_apart _ _ _ _ _ (by decide) (by decide), Hw.f_setF_apart _ _ _ _ _ (by decide) (by decide),
    Hw.setLinkState_state]

theorem Hw.linkDetect_down_count : (h.linkDetect n).f (HP_LINK n) HP_LINK.down_count = h.f (HP_LINK n) HP_LINK.down_count := by
  rw [Hw.linkDetect, Hw.f_setF_apart _ _ _ _ _ (by decide) (by decide), Hw.f_setF_apart _ _ _ _ _ (by decide) (by decide),
    Hw.setLinkState_apart _ _ _ _ (by decide)]

end

/-! ### A port reset -/

/-- A saturating count leaves the fields of its register that stand apart from the counter and its flag. -/
theorem Hw.f_bump_apart (h : Hw) (k : Nat) (c s l : Fld) (hc : c.lo + c.width ≤ 32) (hs : s.lo + s.width ≤ 32)
    (hlc : c.lo + c.width ≤ l.lo ∨ l.lo + l.width ≤ c.lo) (hls : s.lo + s.width ≤ l.lo ∨ l.lo + l.width ≤ s.lo) :
    (h.bump k c s).f k l = h.f k l := by
  unfold Hw.bump
  split
  · exact Hw.f_setFlag_apart _ _ _ _ _ hs hls
  · exact Hw.f_setF_apart _ _ _ _ _ hc hlc

section
variable (h : Hw) (p : Port)

/-- A port reset releases the master's locks, counts, raises link_down, and parks the channels towards the host. -/
theorem Hw.portReset_eq : h.portReset p =
    (((h.releaseLocks (portMaster p).num).bump (HP_LINK (portNum p)) HP_LINK.down_count HP_LINK.down_sat).raise
      (HP_IRQ_STAT (portNum p)) HP_IRQ_STAT.link_down 0).parkTowards (portNum p) := rfl

@[simp] theorem Hw.portReset_hosts : (h.portReset p).hosts = h.hosts := by
  rw [Hw.portReset_eq, (PortsKept.parkTowards _ _).hosts, Hw.raise_hosts, Hw.bump_hosts, (PortsKept.releaseLocks _ _).hosts]

theorem Hw.portReset_link_down : (h.portReset p).flag (HP_IRQ_STAT (portNum p)) HP_IRQ_STAT.link_down = true := by
  rw [Hw.portReset_eq, Hw.flag, (PortsKept.parkTowards _ _).f_eq (irqStat_place p).1]
  exact Hw.raise_flag _ _ _ _ (irqStat_place p).2 (by decide) (by decide)

/-- A port reset leaves the port's other interrupts. -/
theorem Hw.portReset_irqStat (l : Fld) (hl : HP_IRQ_STAT.link_down.lo + HP_IRQ_STAT.link_down.width ≤ l.lo ∨ l.lo + l.width ≤ HP_IRQ_STAT.link_down.lo) :
    (h.portReset p).f (HP_IRQ_STAT (portNum p)) l = h.f (HP_IRQ_STAT (portNum p)) l := by
  rw [Hw.portReset_eq, (PortsKept.parkTowards _ _).f_eq (irqStat_place p).1,
    Hw.raise_f_apart _ _ _ _ _ (irqStat_place p).2 (by decide) hl, Hw.f_bump_other _ _ _ _ _ _ (link_ne_irqStat _).symm,
    (PortsKept.releaseLocks _ _).f_eq (irqStat_place p).1]

theorem Hw.portReset_down_count : (h.portReset p).f (HP_LINK (portNum p)) HP_LINK.down_count =
    min 255 (h.f (HP_LINK (portNum p)) HP_LINK.down_count + 1) := by
  rw [Hw.portReset_eq, (PortsKept.parkTowards _ _).f_eq (link_place p).1, Hw.raise_link,
    Hw.f_bump _ _ _ _ (by decide) (by decide) (by decide), (PortsKept.releaseLocks _ _).f_eq (link_place p).1]
  rfl

theorem Hw.portReset_state : (h.portReset p).f (HP_LINK (portNum p)) HP_LINK.state = h.f (HP_LINK (portNum p)) HP_LINK.state := by
  rw [Hw.portReset_eq, (PortsKept.parkTowards _ _).f_eq (link_place p).1, Hw.raise_link,
    Hw.f_bump_apart _ _ _ _ _ (by decide) (by decide) (by decide) (by decide), (PortsKept.releaseLocks _ _).f_eq (link_place p).1]

end

/-- What the cause of a port reset does before it. -/
def Hw.beforeReset (h : Hw) (p : Port) : PortCause → Hw
  | .linkDown | .hotReset => h.linkDetect (portNum p)
  | .functionReset => h
  | .spiWatchdog => ((h.setLinkState (portNum p) 5).updHost (portNum p) fun x => { x with wdogSeen := true }).raise
      (HP_IRQ_STAT (portNum p)) HP_IRQ_STAT.wdog 0
  | .spiReset => (h.updHost (portNum p) fun _ => default).setLinkState (portNum p) 0

/-- A cause is of the mode that a port is in. -/
def Hw.causeOfMode (h : Hw) (p : Port) (c : PortCause) : Prop :=
  h.portMode (portNum p) = modePcie ∧ c ∈ [PortCause.linkDown, .hotReset, .functionReset] ∨
    h.portMode (portNum p) = modeSpi ∧ c ∈ [PortCause.spiWatchdog, .spiReset]

/-- PORT_RESET by a cause of the port's own mode. -/
theorem exec_portReset (s : State) (p : Port) (c : PortCause) (hm : s.hw.causeOfMode p c) :
    exec (.portReset p c) s = run s fun h => (h.beforeReset p c).portReset p := by
  change execPortReset p c s = _
  refine run_congr ?_
  have hm' : (cleared s.hw).causeOfMode p c := hm
  generalize cleared s.hw = g at hm' ⊢
  simp only [Hw.causeOfMode, List.mem_cons, List.not_mem_nil, or_false] at hm'
  rcases hm' with ⟨hmode, rfl | rfl | rfl⟩ | ⟨hmode, rfl | rfl⟩ <;> simp only [hmode] <;> rfl

/-- A cause leaves the count of resets, and puts the link where the reset shows it. -/
theorem Hw.beforeReset_link (h : Hw) (p : Port) (c : PortCause) :
    (h.beforeReset p c).f (HP_LINK (portNum p)) HP_LINK.down_count = h.f (HP_LINK (portNum p)) HP_LINK.down_count ∧
      (c ≠ .functionReset → (h.beforeReset p c).f (HP_LINK (portNum p)) HP_LINK.state = if c = .spiWatchdog then 5 else 0) := by
  cases c
  case linkDown | hotReset => exact ⟨Hw.linkDetect_down_count _ _, fun _ => Hw.linkDetect_state _ _⟩
  case functionReset => exact ⟨rfl, fun hc => absurd rfl hc⟩
  case spiWatchdog =>
    refine ⟨?_, fun _ => ?_⟩
    · rw [Hw.beforeReset, Hw.raise_link, Hw.updHost_f, Hw.setLinkState_apart _ _ _ _ (by decide)]
    · rw [Hw.beforeReset, Hw.raise_link, Hw.updHost_f, Hw.setLinkState_state]
      rfl
  case spiReset => exact ⟨Hw.setLinkState_apart _ _ _ _ (by decide), fun _ => Hw.setLinkState_state _ _ _⟩

/-- PORT_RESET shows link_down, counts, and leaves the link where its cause puts it. -/
theorem portReset_completes (s : State) (p : Port) (c : PortCause) (hm : s.hw.causeOfMode p c) :
    Completes (.portReset p c) s fun h =>
      h.flag (HP_IRQ_STAT (portNum p)) HP_IRQ_STAT.link_down = true ∧
      h.f (HP_LINK (portNum p)) HP_LINK.down_count = min 255 (s.hw.f (HP_LINK (portNum p)) HP_LINK.down_count + 1) ∧
      (c ≠ .functionReset → h.f (HP_LINK (portNum p)) HP_LINK.state = if c = .spiWatchdog then 5 else 0) := by
  refine completes_of_run (exec_portReset s p c hm) ?_
  obtain ⟨hcount, hstate⟩ := (cleared s.hw).beforeReset_link p c
  refine ⟨Hw.portReset_link_down _ _, ?_, fun hc => ?_⟩
  · rw [Hw.portReset_down_count, hcount, cleared_f]
  · rw [Hw.portReset_state, hstate hc]

/-! ### A link that comes up -/

/-- The link of a port in L0 at a speed and width. -/
def Hw.linkL0 (h : Hw) (n : Nat) (speed : PcieSpeed) (two : Bool) : Hw :=
  ((h.setLinkState n 2).setF (HP_LINK n) HP_LINK.speed (speedCode speed)).setF (HP_LINK n) HP_LINK.width (if two then 2 else 1)

section
variable (h : Hw) (n : Nat) (speed : PcieSpeed) (two : Bool)

theorem Hw.linkL0_state : (h.linkL0 n speed two).f (HP_LINK n) HP_LINK.state = 2 := by
  rw [Hw.linkL0, Hw.f_setF_apart _ _ _ _ _ (by decide) (by decide), Hw.f_setF_apart _ _ _ _ _ (by decide) (by decide),
    Hw.setLinkState_state]

theorem Hw.linkL0_speed : (h.linkL0 n speed two).f (HP_LINK n) HP_LINK.speed = speedCode speed := by
  rw [Hw.linkL0, Hw.f_setF_apart _ _ _ _ _ (by decide) (by decide), Hw.f_setF_same _ _ _ _ (by decide)]
  cases speed <;> rfl

theorem Hw.linkL0_width : (h.linkL0 n speed two).f (HP_LINK n) HP_LINK.width = if two then 2 else 1 := by
  rw [Hw.linkL0, Hw.f_setF_same _ _ _ _ (by decide)]
  cases two <;> rfl

end

/-- PCIE_LINK_UP shows L0, the speed and the width. -/
theorem pcieLinkUp_completes (s : State) (p : Port) (speed : PcieSpeed) (two : Bool) (hm : s.hw.portMode (portNum p) = modePcie) :
    Completes (.pcieLinkUp p speed two) s fun h =>
      h.f (HP_LINK (portNum p)) HP_LINK.state = 2 ∧ h.f (HP_LINK (portNum p)) HP_LINK.speed = speedCode speed ∧
      h.f (HP_LINK (portNum p)) HP_LINK.width = (if two then 2 else 1) ∧ h.flag (HP_IRQ_STAT (portNum p)) HP_IRQ_STAT.link_up = true := by
  have he : exec (.pcieLinkUp p speed two) s = run s fun h =>
      (h.linkL0 (portNum p) speed two).raise (HP_IRQ_STAT (portNum p)) HP_IRQ_STAT.link_up 0 := by
    change execPcieLinkUp p speed two s = _
    exact run_congr (if_neg (not_not.mpr hm))
  refine completes_of_run he ?_
  simp only [Hw.raise_link, Hw.linkL0_state, Hw.linkL0_speed, Hw.linkL0_width, true_and]
  exact Hw.raise_flag _ _ _ _ (irqStat_place p).2 (by decide) (by decide)

end Sys2Proof.Machine
end

section
/-! PROOFS. One word through BAR 0 and BAR 2 (R59, R85), and O4 is settled. -/

namespace Sys2Proof.Machine

open Reg Sys2Proof.Safety

/-! ### BAR 0 -/

/-- A permitted read of a register that is no low word, has no operation of its own and stands in no mailbox channel. -/
theorem Hw.busRead_plain (h : Hw) (a : BusAcc) (k : Nat) (r : RegDef) (hp : Readable h a k) (hr : regFind k = some r)
    (hl : r.lowWord = false) (hm : mbxChOf k = none) (ho : Hw.readOp a k = none) :
    h.busRead a k = h.answer (.data [(h.readShadow a.master.num k).getD (h.view a.master.num k)]) := by
  rw [Hw.busRead, hm]
  simp only [ho]
  exact Hw.regRead_readable h a k _ id hp fun q hq => Option.some.inj (hr.symm.trans hq) ▸ hl

/-- A BAR 0 request of one word reads it. -/
theorem Hw.barWords_one (h g : Hw) (a : Nat → BusAcc) (o : Nat) (w : Word)
    (hr : h.busRead (a o) (regKey (BitVec.ofNat 21 o)) = g.answer (.data [w])) :
    Hw.barWords a 1 o h = (g.answer (.data [w]), some [w]) := by
  simp only [Hw.barWords, hr, Hw.answer_bus, Option.map_some]

theorem portAcc_master (p : Port) (o : Nat) : (portAcc p o).master = portMaster p := rfl

theorem regKey_ofNat_toNat (o : BitVec 21) : regKey (BitVec.ofNat 21 o.toNat) = regKey o := by
  rw [BitVec.ofNat_toNat, BitVec.setWidth_eq]

/-- The last answer stands. -/
theorem Hw.answer_answer (h : Hw) (r r' : Resp) : (h.answer r).answer r' = h.answer r' := rfl

/-- BAR0_REQUEST that reads one register answers its word. -/
theorem bar0Read_completes (s : State) (p : Port) (o : BitVec 21) (r : RegDef) (hup : s.hw.endpointUp (portNum p) = true)
    (hp : Readable s.hw (portAcc p o.toNat) (regKey o)) (hr : regFind (regKey o) = some r) (hl : r.lowWord = false)
    (hm : mbxChOf (regKey o) = none) (ho : Hw.readOp (portAcc p o.toNat) (regKey o) = none) :
    Completes (.bar0Request p o (.read 1) true) s fun h =>
      h.bus.resp = .data [((cleared s.hw).readShadow (portMaster p).num (regKey o)).getD
        ((cleared s.hw).view (portMaster p).num (regKey o))] := by
  have hread := Hw.busRead_plain (cleared s.hw) (portAcc p o.toNat) (regKey o) r hp hr hl hm ho
  rw [portAcc_master] at hread
  have hone := Hw.barWords_one (cleared s.hw) (cleared s.hw) (portAcc p) o.toNat _ ((congrArg (Hw.busRead _ _) (regKey_ofNat_toNat o)).trans hread)
  have he : exec (.bar0Request p o (.read 1) true) s = run s fun h =>
      h.answer (.data [(h.readShadow (portMaster p).num (regKey o)).getD (h.view (portMaster p).num (regKey o))]) := by
    change execBar0Request p o (.read 1) true s = _
    refine run_congr ?_
    have hup' : (cleared s.hw).endpointUp (portNum p) = true := hup
    generalize cleared s.hw = g at hup' hone ⊢
    simp only [hup', hone, Bool.not_true, Bool.false_eq_true, true_or, not_true_eq_false, or_self, if_false,
      Hw.answer_answer]
  refine completes_of_run he ?_
  rw [Hw.answer_bus]

/-! ### BAR 2 -/

/-- A translation that is kept changes the record of the SMU alone. The function is unfolded before it is applied: on its arguments the kernel
would run the walk of the tables to compare the two sides. -/
theorem Hw.keepCached_eq (h : Hw) (ctx addr : Nat) : ∃ x, h.keepCached ctx addr = { h with smu := x } := by
  obtain ⟨keep, hk⟩ : ∃ keep, keep = @Hw.keepCached := ⟨_, rfl⟩
  rw [← hk]
  delta Hw.keepCached at hk
  rw [hk]
  beta_reduce
  generalize h.walk ctx addr = w
  cases w with
  | error k => exact ⟨h.smu, rfl⟩
  | ok r =>
    dsimp only
    split
    · exact ⟨_, rfl⟩
    · exact ⟨h.smu, rfl⟩

/-- An engine's write to memory where its context's table says. -/
theorem Hw.engineWrite_memory (h h' : Hw) (ctx addr pa : Nat) (bs : List Byte) (ht : h.translate ctx addr true = .ok pa)
    (hreg : isRegSpace pa = false) (hw : h.writePhys pa bs = some h') : ∃ g, g.mem = h'.mem ∧ h.engineWrite ctx addr bs = (g, none) := by
  obtain ⟨x, e⟩ := h'.keepCached_eq ctx addr
  refine ⟨{ h' with smu := x }, rfl, ?_⟩
  simp only [Hw.engineWrite, ht, hreg, hw, e, Bool.false_eq_true, if_false]

/-- Nothing is left to write. -/
theorem Hw.barWrite_nil (ctx fuel addr : Nat) (h : Hw) : Hw.barWrite ctx fuel addr [] h = (h, none) := by
  cases fuel <;> rfl

/-- A BAR 2 write within one page is one write of the engine. -/
theorem Hw.barWrite_page (ctx fuel addr : Nat) (bs : List Byte) (h g : Hw) (hne : bs ≠ []) (hlen : bs.length ≤ 4096 - addr % 4096)
    (hw : h.engineWrite ctx addr bs = (g, none)) : Hw.barWrite ctx (fuel + 1) addr bs h = (g, none) := by
  have hm : pagePart addr bs.length = bs.length := Nat.min_eq_left hlen
  rw [Hw.barWrite, if_neg (by simpa using hne)]
  simp only [hm, List.take_length, hw, List.drop_length, Hw.barWrite_nil]

/-- The octets of one word. -/
theorem wordsToBytes_one (w : Word) : wordsToBytes [w] = leBytes 4 w.toNat := List.flatMap_singleton _ _

/-- BAR2_REQUEST that writes one word within a page stores its octets. -/
theorem bar2Write_completes (s : State) (p : Port) (o : BitVec 34) (w : Word) (pa : Nat) (h' : Hw)
    (hup : s.hw.endpointUp (portNum p) = true) (hsize : s.hw.f (HP_CFG (portNum p)) HP_CFG.bar2_log2 ≠ 0)
    (hin : o.toNat < 2 ^ s.hw.f (HP_CFG (portNum p)) HP_CFG.bar2_log2) (hpage : o.toNat % 4096 ≤ 4092)
    (ht : (cleared s.hw).translate (s.hw.f (HP_CFG (portNum p)) HP_CFG.ctx) o.toNat true = .ok pa) (hreg : isRegSpace pa = false)
    (hw : (cleared s.hw).writePhys pa (leBytes 4 w.toNat) = some h') :
    Completes (.bar2Request p o (.write [w])) s fun h => h.bus.resp = .done ∧ h.mem = h'.mem := by
  obtain ⟨g, hmem, hg⟩ := Hw.engineWrite_memory _ h' _ _ pa _ ht hreg hw
  have hwrite := Hw.barWrite_page _ 1 o.toNat (leBytes 4 w.toNat) (cleared s.hw) g (List.cons_ne_nil _ _)
    (show 4 ≤ 4096 - o.toNat % 4096 by omega) hg
  have he : exec (.bar2Request p o (.write [w])) s = run s fun _ => g.answer .done := by
    change execBar2Request p o (.write [w]) s = _
    refine run_congr ?_
    have hup' : (cleared s.hw).endpointUp (portNum p) = true := hup
    have hin' : ¬ ((!(cleared s.hw).endpointUp (portNum p) || decide ((cleared s.hw).f (HP_CFG (portNum p)) HP_CFG.bar2_log2 = 0 ∨
        o.toNat ≥ 2 ^ (cleared s.hw).f (HP_CFG (portNum p)) HP_CFG.bar2_log2)) = true) := by
      rw [hup', Bool.not_true, Bool.false_or, decide_eq_true_iff]
      exact not_or.mpr ⟨hsize, Nat.not_le.mpr hin⟩
    refine (if_neg hin').trans ?_
    simp only [wordsToBytes_one, List.length_singleton, Nat.reduceDiv, Nat.zero_add, cleared_f, hwrite]
  exact completes_of_run he ⟨rfl, hmem⟩

/-- Settles O4: each command of the endpoint, and each port reset, completes as its own theorem says. -/
theorem pciePortCommandsComplete : Obligations.PciePortCommandsComplete :=
  ⟨portReset_completes, pcieLinkUp_completes, bar0Read_completes, bar2Write_completes⟩

end Sys2Proof.Machine
end

section
/-! PROOFS. The SPI target's frames, status, reset and watchdog (R60, R61), and O5 is settled. -/

namespace Sys2Proof.Machine

open Reg Sys2Proof.Safety

/-! ### Registers of the SPI target -/

theorem spiCfg_place (p : Port) : HP_SPI_CFG (portNum p) ∉ logRegs := (portRegs_place p _ (by simp)).2

theorem spiCfg_apart (n : Nat) : HP_SPI_CFG n ≠ HP_LINK n ∧ HP_SPI_CFG n ≠ HP_IRQ_STAT n ∧ HP_SPI_CFG n ≠ HP_ERR n ∧
    HP_SPI_CFG n ≠ HP_SPI_LAST_LO n ∧ HP_SPI_CFG n ≠ HP_SPI_LAST_HI n ∧ HP_SPI_CFG n ≠ HP_SPI_LAST_DATA n := by
  simp only [HP_SPI_CFG, HP_LINK, HP_IRQ_STAT, HP_ERR, HP_SPI_LAST_LO, HP_SPI_LAST_HI, HP_SPI_LAST_DATA]
  omega

theorem link_apart (n : Nat) : HP_LINK n ≠ HP_SPI_LAST_LO n ∧ HP_LINK n ≠ HP_SPI_LAST_HI n ∧ HP_LINK n ≠ HP_SPI_LAST_DATA n := by
  simp only [HP_LINK, HP_SPI_LAST_LO, HP_SPI_LAST_HI, HP_SPI_LAST_DATA]
  omega

/-! ### A valid frame -/

/-- A port that a valid frame has made active. -/
def Hw.spiActive (h : Hw) (n : Nat) (arms failed : Bool) : Hw :=
  (h.setLinkState n 4).updHost n fun x => { x with resetArmed := arms, lastFailed := failed }

section
variable (h : Hw) (p : Port) (arms failed : Bool)

/-- A valid frame makes the port active, and raises link_up where it was not. -/
theorem Hw.spiFrame_cases : h.spiFrame (portNum p) arms failed = h.spiActive (portNum p) arms failed ∨
    h.spiFrame (portNum p) arms failed =
      (h.spiActive (portNum p) arms failed).raise (HP_IRQ_STAT (portNum p)) HP_IRQ_STAT.link_up 0 := by
  unfold Hw.spiFrame
  dsimp only
  split
  · exact .inl rfl
  · exact .inr rfl

theorem Hw.spiFrame_state : (h.spiFrame (portNum p) arms failed).f (HP_LINK (portNum p)) HP_LINK.state = 4 := by
  have hactive : (h.spiActive (portNum p) arms failed).f (HP_LINK (portNum p)) HP_LINK.state = 4 := Hw.setLinkState_state _ _ _
  rcases h.spiFrame_cases p arms failed with e | e
  · rw [e, hactive]
  · rw [e, Hw.raise_link, hactive]

theorem Hw.spiFrame_spiCfg (l : Fld) :
    (h.spiFrame (portNum p) arms failed).f (HP_SPI_CFG (portNum p)) l = h.f (HP_SPI_CFG (portNum p)) l := by
  obtain ⟨hlink, hirq, -⟩ := spiCfg_apart (portNum p)
  have hactive : (h.spiActive (portNum p) arms failed).f (HP_SPI_CFG (portNum p)) l = h.f (HP_SPI_CFG (portNum p)) l :=
    Hw.f_setF_other _ _ _ _ _ _ hlink
  rcases h.spiFrame_cases p arms failed with e | e
  · rw [e, hactive]
  · rw [e, Hw.raise_f _ _ _ _ _ _ hirq (spiCfg_place p), hactive]

@[simp] theorem Hw.spiFrame_mem : (h.spiFrame (portNum p) arms failed).mem = h.mem := by
  rcases h.spiFrame_cases p arms failed with e | e
  · rw [e]; rfl
  · rw [e, Hw.raise_mem]; rfl

@[simp] theorem Hw.spiFrame_hosts : (h.spiFrame (portNum p) arms failed).hosts =
    h.hosts.upd (portNum p) fun x => { x with resetArmed := arms, lastFailed := failed } := by
  rcases h.spiFrame_cases p arms failed with e | e
  · rw [e]; rfl
  · rw [e, Hw.raise_hosts]; rfl

end

/-! ### The registers of the last access, and a failed frame -/

section
variable (h : Hw) (n addr outcome : Nat) (write : Bool) (w : Word)

/-- The registers of the last access are three. -/
theorem Hw.spiLast_reg_other (k : Nat) (hlo : k ≠ HP_SPI_LAST_LO n) (hhi : k ≠ HP_SPI_LAST_HI n) (hdata : k ≠ HP_SPI_LAST_DATA n) :
    (h.spiLast n addr outcome write w).reg k = h.reg k := by
  rw [Hw.spiLast, Hw.reg_setReg_other _ _ _ _ hdata, Hw.reg_setReg_other _ _ _ _ hhi, Hw.reg_setReg_other _ _ _ _ hlo]

@[simp] theorem Hw.spiLast_data : (h.spiLast n addr outcome write w).reg (HP_SPI_LAST_DATA n) = w := Hw.reg_setReg_same _ _ _

@[simp] theorem Hw.spiLast_mem : (h.spiLast n addr outcome write w).mem = h.mem := rfl

@[simp] theorem Hw.spiLast_link (l : Fld) : (h.spiLast n addr outcome write w).f (HP_LINK n) l = h.f (HP_LINK n) l := by
  obtain ⟨hlo, hhi, hdata⟩ := link_apart n
  rw [Hw.f, Hw.spiLast_reg_other _ _ _ _ _ _ _ hlo hhi hdata, Hw.f]

@[simp] theorem Hw.spiLast_spiCfg (l : Fld) : (h.spiLast n addr outcome write w).f (HP_SPI_CFG n) l = h.f (HP_SPI_CFG n) l := by
  obtain ⟨-, -, -, hlo, hhi, hdata⟩ := spiCfg_apart n
  rw [Hw.f, Hw.spiLast_reg_other _ _ _ _ _ _ _ hlo hhi hdata, Hw.f]

end

@[simp] theorem Hw.spiError_spiCfg (h : Hw) (p : Port) (l : Fld) :
    (h.spiError (portNum p)).f (HP_SPI_CFG (portNum p)) l = h.f (HP_SPI_CFG (portNum p)) l := by
  obtain ⟨-, hirq, herr, -⟩ := spiCfg_apart (portNum p)
  rw [Hw.spiError, Hw.raise_f _ _ _ _ _ _ hirq (spiCfg_place p), Hw.f_bump_other _ _ _ _ _ _ herr]

/-! ### One word of memory -/

/-- A frame that writes one word of memory stores its octets. -/
theorem Hw.spiStore_word (p : Port) (w : Word) (a : Nat) (h h' : Hw) (ha : isRegSpace a = false)
    (hw : h.writePhys a (leBytes 4 w.toNat) = some h') : Hw.spiStore p [w] a false h = (h', false) := by
  simp only [Hw.spiStore, ha, hw, Bool.false_eq_true, if_false]

/-- A frame that reads one word of memory changes nothing by it. -/
theorem Hw.spiLoad_word (p : Port) (a : Nat) (h : Hw) (bs : List Byte) (ha : isRegSpace a = false) (hr : h.readPhys a 4 = some bs) :
    Hw.spiLoad p 1 a h = (h, [some (BitVec.ofNat 32 (leNat bs))]) := by
  simp only [Hw.spiLoad, ha, hr, Bool.false_eq_true, if_false, Option.map_some]

/-- A word that was read stands for itself. -/
theorem Hw.spiWords_word (h : Hw) (w : Word) : h.spiWords [some w] = ([w], h.useFree 1) := rfl

/-- The answer that ran before does not change what memory holds. -/
@[simp] theorem cleared_readPhys (h : Hw) (a n : Nat) : (cleared h).readPhys a n = h.readPhys a n := by
  induction n generalizing a with
  | zero => rfl
  | succ n ih =>
    have hplace : (cleared h).readPlace a = h.readPlace a := rfl
    simp only [Hw.readPhys, hplace, ih]
    rfl

/-- A write of one word leaves the port active and shows the word. -/
theorem spiWrite_completes (s : State) (p : Port) (a : BitVec 40) (w : Word) (crc : Bool) (h' : Hw)
    (hm : s.hw.portMode (portNum p) = modeSpi)
    (hcrc : s.hw.flag (HP_SPI_CFG (portNum p)) HP_SPI_CFG.crc_en = true → crc = true) (ha : isRegSpace a.toNat = false)
    (hw : (cleared s.hw).writePhys a.toNat (leBytes 4 w.toNat) = some h') :
    Completes (.spiWrite p a [w] crc) s fun h =>
      h.mem = h'.mem ∧ h.f (HP_LINK (portNum p)) HP_LINK.state = 4 ∧ h.reg (HP_SPI_LAST_DATA (portNum p)) = w := by
  have hstore := Hw.spiStore_word p w a.toNat _ h' ha hw
  have he : exec (.spiWrite p a [w] crc) s = run s fun _ =>
      ((h'.spiFrame (portNum p) false false).spiLast (portNum p) a.toNat 0 true w).answer .none := by
    change execSpiWrite p a [w] crc s = _
    rw [execSpiWrite, runIf, if_pos (show spiWordsOk [w] = true from rfl)]
    refine run_congr ?_
    have hm' : (cleared s.hw).portMode (portNum p) = modeSpi := hm
    have hcrc' : ¬ ((cleared s.hw).flag (HP_SPI_CFG (portNum p)) HP_SPI_CFG.crc_en = true ∧ (!crc) = true) := by
      rintro ⟨hen, hbad⟩
      rw [hcrc hen] at hbad
      exact Bool.false_ne_true hbad
    generalize cleared s.hw = g at hm' hcrc' hstore ⊢
    simp only [hm', ne_eq, not_true_eq_false, if_false, if_neg hcrc', List.headD_cons, hstore, Bool.false_eq_true]
  refine completes_of_run he ?_
  simp only [Hw.answer_mem, Hw.spiLast_mem, Hw.spiFrame_mem, Hw.answer_f, Hw.spiLast_link, Hw.spiFrame_state, Hw.answer_reg,
    Hw.spiLast_data, and_self]

/-- The device after a read of one word, before its answer. -/
def Hw.spiReadDone (h : Hw) (p : Port) (addr : Nat) (w : Word) : Hw :=
  (((h.useFree 1).useFree 1).spiFrame (portNum p) false false).spiLast (portNum p) addr 0 false w

/-- The octets of the response to a read of one word (R60): filler, marker, data and CRC. -/
def Hw.spiReadOctets (h : Hw) (n : Nat) (w : Word) : List Byte :=
  List.replicate (Config.freeNat (h.freeCtr + 1) % (h.waitMax n + 1)) 0xFF ++ 0x5A :: wordsToBytes [w] ++
    if h.flag (HP_SPI_CFG n) HP_SPI_CFG.crc_en then leBytes 2 (crc16 (0x5A :: wordsToBytes [w])) else []

/-- A read of one word leaves the port active, shows the word, and answers octets. -/
theorem spiRead_completes (s : State) (p : Port) (a : BitVec 40) (bs : List Byte) (hm : s.hw.portMode (portNum p) = modeSpi)
    (ha : isRegSpace a.toNat = false) (hr : s.hw.readPhys a.toNat 4 = some bs) :
    Completes (.spiRead p a 0) s fun h =>
      h.reg (HP_SPI_LAST_DATA (portNum p)) = BitVec.ofNat 32 (leNat bs) ∧ h.f (HP_LINK (portNum p)) HP_LINK.state = 4 ∧
      ∃ out, h.bus.resp = .octets out := by
  have hload := Hw.spiLoad_word p a.toNat (cleared s.hw) bs ha ((cleared_readPhys _ _ _).trans hr)
  have he : exec (.spiRead p a 0) s = run s fun h => (h.spiReadDone p a.toNat (BitVec.ofNat 32 (leNat bs))).answer
      (.octets (h.spiReadOctets (portNum p) (BitVec.ofNat 32 (leNat bs)))) := by
    change execSpiRead p a 0 s = _
    refine run_congr ?_
    have hm' : (cleared s.hw).portMode (portNum p) = modeSpi := hm
    generalize cleared s.hw = g at hm' hload ⊢
    simp only [hm', ne_eq, not_true_eq_false, if_false, Fin.val_zero, Nat.zero_add, hload, Hw.spiWords_word, List.any_cons,
      List.any_nil, Option.isNone_some, Bool.or_self, Bool.false_eq_true, List.headD_cons]
    rfl
  refine completes_of_run he ⟨?_, ?_, _, rfl⟩
  · exact Hw.spiLast_data _ _ _ _ _ _
  · rw [Hw.answer_f, Hw.spiReadDone, Hw.spiLast_link, Hw.spiFrame_state]

/-- The device after a read of one word that took too long, before its answer. -/
def Hw.spiLateDone (h : Hw) (p : Port) (addr : Nat) (w : Word) : Hw :=
  (((h.useFree 1).spiFrame (portNum p) false true).spiError (portNum p)).spiLast (portNum p) addr 3 false w

/-- A late read leaves the number of filler octets. -/
theorem Hw.spiLateDone_waitMax (h : Hw) (p : Port) (addr : Nat) (w : Word) :
    (h.spiLateDone p addr w).waitMax (portNum p) = h.waitMax (portNum p) := by
  rw [Hw.waitMax, Hw.spiLateDone, Hw.spiLast_spiCfg, Hw.spiError_spiCfg, Hw.spiFrame_spiCfg, Hw.useFree_f, Hw.waitMax]

/-- A read that takes too long shows its word, and ends in 0xE1. -/
theorem spiWaitTimeout_completes (s : State) (p : Port) (a : BitVec 40) (bs : List Byte) (hm : s.hw.portMode (portNum p) = modeSpi)
    (ha : isRegSpace a.toNat = false) (hr : s.hw.readPhys a.toNat 4 = some bs) :
    Completes (.spiWaitTimeout p a 0) s fun h =>
      h.reg (HP_SPI_LAST_DATA (portNum p)) = BitVec.ofNat 32 (leNat bs) ∧
      h.bus.resp = .octets (List.replicate (s.hw.waitMax (portNum p)) 0xFF ++ [0xE1]) := by
  have hload := Hw.spiLoad_word p a.toNat (cleared s.hw) bs ha ((cleared_readPhys _ _ _).trans hr)
  have he : exec (.spiWaitTimeout p a 0) s = run s fun h => (h.spiLateDone p a.toNat (BitVec.ofNat 32 (leNat bs))).answer
      (.octets (List.replicate ((h.spiLateDone p a.toNat (BitVec.ofNat 32 (leNat bs))).waitMax (portNum p)) 0xFF ++ [0xE1])) := by
    change execSpiWaitTimeout p a 0 s = _
    refine run_congr ?_
    have hm' : (cleared s.hw).portMode (portNum p) = modeSpi := hm
    generalize cleared s.hw = g at hm' hload ⊢
    simp only [hm', ne_eq, not_true_eq_false, if_false, Fin.val_zero, Nat.zero_add, hload, Hw.spiWords_word, List.any_cons,
      List.any_nil, Option.isNone_some, Bool.or_self, Bool.false_eq_true, List.headD_cons, Hw.spiLateDone]
  refine completes_of_run he ⟨Hw.spiLast_data _ _ _ _ _ _, ?_⟩
  rw [Hw.spiLateDone_waitMax]
  rfl

/-! ### Status, reset and watchdog -/

@[simp] theorem cleared_irqnAsserted (h : Hw) (n : Nat) : (cleared h).irqnAsserted n = h.irqnAsserted n := rfl

/-- The status octet of a port (R60). -/
def Hw.spiStatusOctet (h : Hw) (n : Nat) : Byte :=
  BitVec.ofNat 8 ((h.irqnAsserted n).toNat + (h.hosts.at n).lastFailed.toNat * 2 + (h.hosts.at n).crcSeen.toNat * 4 +
    (h.hosts.at n).wdogSeen.toNat * 8)

/-- SPI_STATUS answers the status octet, and has told of the watchdog. -/
theorem spiStatus_completes (s : State) (p : Port) (hm : s.hw.portMode (portNum p) = modeSpi) :
    Completes (.spiStatus p) s fun h =>
      h.bus.resp = .octets [s.hw.spiStatusOctet (portNum p)] ∧ (h.hosts.at (portNum p)).wdogSeen = false := by
  have he : exec (.spiStatus p) s = run s fun h =>
      ((h.spiFrame (portNum p) false false).updHost (portNum p) fun x => { x with wdogSeen := false }).answer
        (.octets [h.spiStatusOctet (portNum p)]) := by
    change execSpiStatus p s = _
    exact run_congr (if_neg (not_not.mpr hm))
  refine completes_of_run he ⟨?_, ?_⟩
  · rw [Hw.answer_bus, Hw.spiStatusOctet, cleared_irqnAsserted]
    rfl
  · rw [Hw.answer_hosts, Hw.updHost_hosts, Map.at_upd_same]

/-- SPI_RESET_ENABLE arms the reset command. -/
theorem spiResetEnable_completes (s : State) (p : Port) (hm : s.hw.portMode (portNum p) = modeSpi) :
    Completes (.spiResetEnable p) s fun h =>
      (h.hosts.at (portNum p)).resetArmed = true ∧ h.f (HP_LINK (portNum p)) HP_LINK.state = 4 := by
  have he : exec (.spiResetEnable p) s = run s fun h => h.spiFrame (portNum p) true false := by
    change execSpiResetEnable p s = _
    exact run_congr (if_neg (not_not.mpr hm))
  refine completes_of_run he ⟨?_, Hw.spiFrame_state _ _ _ _⟩
  rw [Hw.spiFrame_hosts, Map.at_upd_same]

/-- A reset of the target disarms the command and takes the link down. -/
theorem Hw.spiTargetReset_hosts (h : Hw) (p : Port) : (h.spiTargetReset p).hosts = h.hosts.upd (portNum p) fun _ => default := by
  rw [Hw.spiTargetReset, Hw.portReset_hosts, Hw.setLinkState_hosts, Hw.updHost_hosts]

theorem Hw.spiTargetReset_state (h : Hw) (p : Port) : (h.spiTargetReset p).f (HP_LINK (portNum p)) HP_LINK.state = 0 := by
  rw [Hw.spiTargetReset, Hw.portReset_state, Hw.setLinkState_state]

/-- SPI_RESET resets the target right after it was armed, and is a frame like another else. -/
theorem spiReset_completes (s : State) (p : Port) (hm : s.hw.portMode (portNum p) = modeSpi) :
    Completes (.spiReset p) s fun h =>
      (h.hosts.at (portNum p)).resetArmed = false ∧
      h.f (HP_LINK (portNum p)) HP_LINK.state = if (s.hw.hosts.at (portNum p)).resetArmed then 0 else 4 := by
  have he : exec (.spiReset p) s = run s fun h =>
      if (h.hosts.at (portNum p)).resetArmed then (h.spiFrame (portNum p) false false).spiTargetReset p
      else h.spiFrame (portNum p) false false := by
    change execSpiReset p s = _
    exact run_congr (if_neg (not_not.mpr hm))
  refine completes_of_run he ?_
  change (Map.at (Hw.hosts (if (s.hw.hosts.at (portNum p)).resetArmed then _ else _)) _).resetArmed = false ∧
    Hw.f (if (s.hw.hosts.at (portNum p)).resetArmed then _ else _) _ _ = _
  cases (s.hw.hosts.at (portNum p)).resetArmed with
  | true =>
    refine ⟨?_, Hw.spiTargetReset_state _ _⟩
    rw [if_pos rfl, Hw.spiTargetReset_hosts, Map.at_upd_same]
    rfl
  | false =>
    refine ⟨?_, Hw.spiFrame_state _ _ _ _⟩
    rw [if_neg Bool.false_ne_true, Hw.spiFrame_hosts, Map.at_upd_same]

/-- The watchdog's expiry is a port reset with its own cause. -/
theorem Hw.spiExpired_eq (h : Hw) (p : Port) : h.spiExpired p = (h.beforeReset p .spiWatchdog).portReset p := rfl

/-- SPI_WATCHDOG_EXPIRY shows in the link's state, in the status octet to come and in the port's interrupts. -/
theorem spiWatchdogExpiry_completes (s : State) (p : Port) (hm : s.hw.portMode (portNum p) = modeSpi)
    (hon : s.hw.f (HP_SPI_CFG (portNum p)) HP_SPI_CFG.wdog_ms ≠ 0) (hlink : s.hw.f (HP_LINK (portNum p)) HP_LINK.state ≠ 5) :
    Completes (.spiWatchdogExpiry p) s fun h =>
      h.f (HP_LINK (portNum p)) HP_LINK.state = 5 ∧ (h.hosts.at (portNum p)).wdogSeen = true ∧
      h.flag (HP_IRQ_STAT (portNum p)) HP_IRQ_STAT.wdog = true := by
  have he : exec (.spiWatchdogExpiry p) s = run s fun h => (h.beforeReset p .spiWatchdog).portReset p := by
    change execSpiWatchdogExpiry p s = _
    exact run_congr (if_neg (not_or.mpr ⟨not_not.mpr hm, not_or.mpr ⟨hon, hlink⟩⟩))
  refine completes_of_run he ⟨?_, ?_, ?_⟩
  · rw [Hw.portReset_state]
    exact ((cleared s.hw).beforeReset_link p .spiWatchdog).2 (fun e => nomatch e)
  · rw [Hw.portReset_hosts, Hw.beforeReset, Hw.raise_hosts, Hw.updHost_hosts, Map.at_upd_same]
  · rw [Hw.flag, Hw.portReset_irqStat _ _ _ (by decide)]
    exact Hw.raise_flag _ _ _ _ (irqStat_place p).2 (by decide) (by decide)

/-- Settles O5: each command of the SPI target completes as its own theorem says. -/
theorem spiCommandsComplete : Obligations.SpiCommandsComplete :=
  ⟨spiWrite_completes, spiRead_completes, spiWaitTimeout_completes, spiStatus_completes, spiResetEnable_completes, spiReset_completes,
    spiWatchdogExpiry_completes⟩

end Sys2Proof.Machine
end

section
/-! SUPPORT. A permitted register write as a command: what it finds and leaves for the effect that it starts, and the fields of the
written register that it cannot change (R11, R13). -/

namespace Sys2Proof.Machine

open Reg Sys2Proof.Safety

/-! ### A write as a command -/

/-- `g` is `h` with `v` written to `k` by `a`, and `low` is the low word that the write commits with it. -/
structure Written (h g : Hw) (a : BusAcc) (k : Nat) (v low : Word) : Prop extends Committed h g k where
  low_eq : (lowWordOf k).isSome = true → low = heldLow h a.master.num k
  word : lowWordOf k = none → k ∉ (List.range 21).map CFG_PRESET_SEL → ∃ r, regFind k = some r ∧ g.reg k = h.writtenWord k r v

/-- A command that is a permitted write of a register, no low word, completes with what the write's effect makes of the device written. -/
theorem completes_of_regWrite {c : Instr} {s : State} {via : BusAcc} {k : Nat} {v : Word} {eff : Word → Hw → Hw} {P : Hw → Prop}
    (he : exec c s = run s fun h => h.regWrite via k v eff) (hp : Permitted s.hw via k) (hl : ∀ r ∈ regFind k, r.lowWord = false)
    (hP : ∀ low g, Written (cleared s.hw) g via k v low → P (eff low g)) : Completes c s P := by
  refine completes_of_run he ?_
  have hp' : Permitted (cleared s.hw) via k := hp
  obtain ⟨r, -, hr⟩ := permitted_sees hp
  obtain ⟨low, g, hc, hlow, hword, e⟩ := Hw.regWrite_permitted (cleared s.hw) via k v eff hp' hl
  rw [e]
  exact hP low g { toCommitted := hc, low_eq := hlow, word := fun hn hs => ⟨r, hr, hword hn hs r hr⟩ }

/-- A command that is a permitted read with an operation completes with what the operation leaves, and answers its word. -/
theorem completes_of_regReadWith {c : Instr} {s : State} {via : BusAcc} {k : Nat} {op : Hw → Hw × Word} {P : Hw → Prop}
    (he : exec c s = run s fun h => h.regReadWith via k op) (hp : Readable s.hw via k)
    (hP : P ((op (cleared s.hw)).1.answer (.data [(op (cleared s.hw)).2]))) : Completes c s P := by
  refine completes_of_run he ?_
  rw [Hw.regReadWith_readable (cleared s.hw) via k op hp]
  exact hP

/-! ### Fields that a write leaves -/

/-- A write through field `d` cannot change field `f`: hardware owns `d`, or it lies apart. -/
abbrev LeavesField (f : Fld) (d : FieldDef) : Prop :=
  d.access = .ro ∨ d.access = .wo ∨ d.lo + d.width ≤ 32 ∧ (d.lo + d.width ≤ f.lo ∨ f.lo + f.width ≤ d.lo)

/-- A field that no field written can change keeps its value. -/
theorem get_wordWrite_kept (locked : Bool) (old new : Word) (f : Fld) (ds : List FieldDef) (hd : ∀ d ∈ ds, LeavesField f d) :
    f.get (wordWrite locked old new ds) = f.get old := by
  induction ds with
  | nil => rfl
  | cons d ds ih =>
    have rest := ih fun e he => hd e (List.mem_cons_of_mem d he)
    have owned (hw : fieldWrite locked d (Fld.get ⟨d.lo, d.width⟩ old) (Fld.get ⟨d.lo, d.width⟩ new) = Fld.get ⟨d.lo, d.width⟩ old) :
        f.get (wordWrite locked old new (d :: ds)) = f.get old := by
      rw [wordWrite, hw, Fld.get_eq_iff]
      intro i h1 h2
      rw [Fld.testBit_copy]
      split
      · rfl
      · exact (Fld.get_eq_iff _ _ _).mp rest i h1 h2
    rcases hd d List.mem_cons_self with hro | hwo | ⟨hw, hapart⟩
    · exact owned (by simp only [fieldWrite, hro])
    · exact owned (by simp only [fieldWrite, hwo])
    · rw [wordWrite, Fld.get_set_other _ _ _ _ hw hapart, rest]

/-- Outside RAD, ETH and MTR no register holds wraps (R376). -/
theorem clearWraps_of_window {k : Nat} (v w : Word) (h11 : k / 0x10000 ≠ 0x11) (h15 : k / 0x10000 ≠ 0x15) (h16 : k / 0x10000 ≠ 0x16) :
    clearWraps k v w = w := by
  simp only [clearWraps, h11, h15, h16, false_and, if_false]

section
variable {h g : Hw} {a : BusAcc} {k : Nat} {v low : Word} (w : Written h g a k v low)
include w

/-- A field that a write of an SMU register cannot change stays. -/
theorem Written.f_kept (hn : lowWordOf k = none) (hk : k / 0x10000 = 0x07) (f : Fld)
    (hf : ∀ r ∈ regFind k, ∀ d ∈ r.fields, LeavesField f d) : g.f k f = h.f k f := by
  have window (n : Nat) (hne : n ≠ 0x07) : k / 0x10000 ≠ n := fun e => hne (e.symm.trans hk)
  obtain ⟨r, hr, hw⟩ := w.word hn (not_mem_presetSels (window _ (by decide)))
  rw [Hw.f, hw, Hw.writtenWord, clearWraps_of_window _ _ (window _ (by decide)) (window _ (by decide)) (window _ (by decide)),
    writeFields_eq r (window _ (by decide)), get_wordWrite_kept _ _ _ _ _ (hf r hr), Hw.f]

theorem Written.spn_eq : g.spn = h.spn := (congrArg Hw.spn w.parts).trans rfl

theorem Written.smu_eq : g.smu = h.smu := (congrArg Hw.smu w.parts).trans rfl

theorem Written.fifos_eq : g.fifos = h.fifos := (congrArg Hw.fifos w.parts).trans rfl

end

/-- A register outside CFG that is neither the one written nor its low word. -/
theorem not_mem_writtenRegs {k j : Nat} (hk : j ≠ k) (hlow : j ≠ k - 4) (hj : j / 0x10000 ≠ 0x01) : j ∉ writtenRegs k := by
  have hl : lowWordOf k = some j → j = k - 4 := by
    unfold lowWordOf
    split
    · split
      · exact fun e => (Option.some.inj e).symm
      · exact fun e => nomatch e
    · exact fun e => nomatch e
  simp only [writtenRegs, List.mem_cons, List.mem_append, Option.mem_toList, not_or]
  exact ⟨hk, fun e => hlow (hl e), not_mem_presetSels hj⟩

end Sys2Proof.Machine
end

section
/-! PROOFS. A write of a handle to a notice register (R69), and O9 is settled. -/

namespace Sys2Proof.Machine

open Reg Sys2Proof.Safety

/-- Whether a handle names a waiting task is Spindle's to say. -/
theorem Hw.namesWaiting_congr {h g : Hw} (hs : g.spn = h.spn) (hd : Nat) : g.namesWaiting hd = h.namesWaiting hd :=
  calc g.namesWaiting hd = ({ h with spn := g.spn }).namesWaiting hd := rfl
    _ = h.namesWaiting hd := by rw [hs]

section
variable (h : Hw) (k hd : Nat)

/-- Unless a notice is pending for a waiting task, the handle written is armed. -/
theorem Hw.armNotice_armed (hlt : hd < 2 ^ 16) (hn : ¬ (h.namesWaiting hd = true ∧ h.flag k noticePending = true)) :
    (h.armNotice k hd).f k noticeHandle = hd := by
  have stored : (h.setF k noticeHandle hd).f k noticeHandle = hd :=
    (Hw.f_setF_same _ _ _ _ (by decide)).trans (Nat.mod_eq_of_lt hlt)
  unfold Hw.armNotice
  by_cases h0 : hd = 0
  · rw [if_pos h0, ← h0]
    exact stored
  · rw [if_neg h0, if_neg hn]
    exact stored

/-- A notice that is pending for a waiting task is spent: nothing stays pending or armed. -/
theorem Hw.armNotice_spent (h0 : hd ≠ 0) (hw : h.namesWaiting hd = true) (hp : h.flag k noticePending = true) :
    (h.armNotice k hd).f k noticeHandle = 0 ∧ (h.armNotice k hd).flag k noticePending = false := by
  rw [Hw.armNotice, if_neg h0, if_pos ⟨hw, hp⟩]
  refine ⟨Hw.f_setF_same _ _ _ _ (by decide), ?_⟩
  rw [Hw.flag, Hw.f_setF_apart _ _ _ _ _ (by decide) (by decide), Hw.f_setF_same _ _ _ _ (by decide)]
  rfl

/-- The word that a write of a notice register found is put back before the rule decides. -/
theorem Hw.flag_setReg_eq {g : Hw} (f : Fld) : (g.setReg k (h.reg k)).flag k f = h.flag k f := by
  rw [Hw.flag, Hw.f_setReg_same, Hw.flag, Hw.f]

end

/-- No notice register outside the mailboxes is a low word. -/
theorem noticeKey_single (via : BusAcc) (h : Hw) (reg : NoticeReg) (hm : ∀ ch, reg ≠ .mbx ch) :
    ∀ r ∈ regFind (noticeKey via h reg), r.lowWord = false := by
  cases reg with
  | mbx ch => exact absurd rfl (hm ch)
  | smu c => exact (by decide +kernel : ∀ c : Fin 64, ∀ r ∈ regFind (SMU_CTX_HANDLER c.val), r.lowWord = false) c
  | stm f => exact (by decide +kernel : ∀ f : Fin 48, ∀ r ∈ regFind (STM_NOTICE f.val), r.lowWord = false) f
  | gns => exact (by decide +kernel : ∀ r ∈ regFind GNS_REC_NOTICE, r.lowWord = false)
  | obs n => exact (by decide +kernel : ∀ n : Fin 128, ∀ r ∈ regFind (OBS_RBT_NOTICE (n.val + 1)), r.lowWord = false) n

/-- NOTICE_ARM outside the mailboxes is a write of its notice register. -/
theorem exec_noticeArm (s : State) (via : BusAcc) (reg : NoticeReg) (hd : BitVec 16) (hm : ∀ ch, reg ≠ .mbx ch) :
    exec (.noticeArm via reg hd) s = run s fun h => h.regWrite via (noticeKey via s.hw reg) (hd.setWidth 32) fun _ g =>
      g.noticeWritten (noticeKey via s.hw reg) (s.hw.reg (noticeKey via s.hw reg)) hd.toNat := by
  change execNoticeArm via reg hd s = _
  rw [execNoticeArm]
  refine run_congr ?_
  cases reg with
  | mbx ch => exact absurd rfl (hm ch)
  | smu c => rfl
  | stm f => rfl
  | gns => rfl
  | obs n => rfl

/-- A permitted write of a notice register completes with what the rule makes of it, on a device whose register and tasks are as before. -/
theorem noticeArm_completes {s : State} {via : BusAcc} {reg : NoticeReg} {hd : BitVec 16} {P : Hw → Prop} (hm : ∀ ch, reg ≠ .mbx ch)
    (hp : Permitted s.hw via (noticeKey via s.hw reg))
    (hP : ∀ g : Hw, g.namesWaiting hd.toNat = s.hw.namesWaiting hd.toNat →
      g.flag (noticeKey via s.hw reg) noticePending = s.hw.flag (noticeKey via s.hw reg) noticePending →
      P (g.armNotice (noticeKey via s.hw reg) hd.toNat)) : Completes (.noticeArm via reg hd) s P := by
  refine completes_of_regWrite (exec_noticeArm s via reg hd hm) hp (noticeKey_single via s.hw reg hm) fun low g w => ?_
  exact hP _ (Hw.namesWaiting_congr w.spn_eq _) (Hw.flag_setReg_eq s.hw _ _)

/-- Settles O9: the rule of a notice register arms the handle (`Hw.armNotice_armed`) or spends the notice (`Hw.armNotice_spent`). -/
theorem noticeArmCompletes : Obligations.NoticeArmCompletes := by
  refine ⟨fun s via reg hd hm hp hn => noticeArm_completes hm hp fun g hw hpend => ?_,
    fun s via reg hd hm hp h0 hwait hpending => noticeArm_completes hm hp fun g hw hpend => ?_⟩
  · exact g.armNotice_armed _ _ hd.isLt (by rwa [hw, hpend])
  · exact g.armNotice_spent _ _ (fun e => h0 (BitVec.eq_of_toNat_eq e)) (hw.trans hwait) (hpend.trans hpending)

end Sys2Proof.Machine
end

section
/-! SUPPORT. Fault records and parked units: the record queued, the unit's own record, and the registers that parking leaves (R79, R84). -/

namespace Sys2Proof.Machine

open Reg Sys2Proof.Safety

/-- Events and deliveries change no register of SMU, DMA or STM. -/
theorem recordingRegs_outside : ∀ k ∈ logRegs ++ deliveryRegs, ¬ (0x70000 ≤ k ∧ k < 0xA0000) := by decide

theorem not_mem_logRegs {k : Nat} (h1 : 0x70000 ≤ k) (h2 : k < 0xA0000) : k ∉ logRegs := fun hm =>
  recordingRegs_outside k (List.mem_append_left _ hm) ⟨h1, h2⟩

theorem not_mem_deliveryRegs {k : Nat} (h1 : 0x70000 ≤ k) (h2 : k < 0xA0000) : k ∉ deliveryRegs := fun hm =>
  recordingRegs_outside k (List.mem_append_right _ hm) ⟨h1, h2⟩

/-- A unit's register lies in SMU's window, behind its contexts and before DMA's channels. -/
theorem unit_place (u : Fin 320) : SMU_UNIT u.val / 0x10000 = 0x07 ∧ SMU_UNIT u.val ∉ logRegs ∧ SMU_UNIT u.val ∉ deliveryRegs := by
  have := u.isLt
  simp only [SMU_UNIT]
  exact ⟨by omega, not_mem_logRegs (by omega) (by omega), not_mem_deliveryRegs (by omega) (by omega)⟩

theorem unit_ne_dmaStat (u : Nat) : SMU_UNIT u ≠ DMA_CH_STAT u := by
  simp only [SMU_UNIT, DMA_CH_STAT]
  omega

/-! ### The record (R79) -/

section
variable (h : Hw) (r : FaultRec)

/-- A record enters a queue with room at its end. -/
theorem Hw.faultRecord_queue (hroom : h.smu.queue.length < 64) : (h.faultRecord r).smu.queue = h.smu.queue ++ [r] := by
  simp only [Hw.faultRecord, if_pos hroom, Hw.notice_smu, Hw.deviceLine_smu, Hw.bump_smu]

/-- Queueing a record changes the queue's register, the handler's and those of delivery. -/
theorem Hw.faultRecord_reg {k : Nat} (hs : k ≠ SMU_FAULT_STAT) (hh : k ≠ SMU_CTX_HANDLER r.ctx) (hd : k ∉ deliveryRegs) :
    (h.faultRecord r).reg k = h.reg k := by
  have queued : (if h.smu.queue.length < 64 then { h with smu := { h.smu with queue := h.smu.queue ++ [r] } }
      else h.setFlag SMU_FAULT_STAT SMU_FAULT_STAT.overflow true).reg k = h.reg k := by
    split
    · rfl
    · exact Hw.reg_setFlag_other _ _ _ _ _ hs
  rw [Hw.faultRecord, Hw.notice_reg _ _ _ hh hd, Hw.deviceLine_reg _ _ _ hd, Hw.reg_bump_other _ _ _ _ _ hs, queued]

end

/-! ### The unit (R84) -/

section
variable (h : Hw) (u ctx kind : Nat)

theorem Hw.setParked_smu : (h.setParked u ctx kind).smu = h.smu := by
  unfold Hw.setParked
  dsimp only
  split <;> rfl

theorem Hw.setParked_reg {k : Nat} (hu : k ≠ SMU_UNIT u) (hd : k ≠ DMA_CH_STAT u) : (h.setParked u ctx kind).reg k = h.reg k := by
  unfold Hw.setParked
  dsimp only
  split
  · rw [Hw.reg_setF_other _ _ _ _ _ hd, Hw.reg_setF_other _ _ _ _ _ hu, Hw.reg_setF_other _ _ _ _ _ hu, Hw.reg_setF_other _ _ _ _ _ hu]
  · rw [Hw.reg_setF_other _ _ _ _ _ hu, Hw.reg_setF_other _ _ _ _ _ hu, Hw.reg_setF_other _ _ _ _ _ hu]

/-- The record that a unit keeps of its parking. -/
theorem Hw.setParked_unit (l : Fld) : (h.setParked u ctx kind).f (SMU_UNIT u) l =
    (((h.setF (SMU_UNIT u) SMU_UNIT.state unitParked).setF (SMU_UNIT u) SMU_UNIT.kind kind).setF (SMU_UNIT u) SMU_UNIT.ctx ctx).f
      (SMU_UNIT u) l := by
  unfold Hw.setParked
  dsimp only
  split
  · exact Hw.f_setF_other _ _ _ _ _ _ (unit_ne_dmaStat u)
  · rfl

end

section
variable (h : Hw) (u ctx addr : Nat) (write : Bool) (kind : Nat)

/-- A fault's record is queued, whether its unit parks or not. -/
theorem Hw.park_queue (hroom : h.smu.queue.length < 64) :
    (h.park u ctx addr write kind).smu.queue = h.smu.queue ++ [⟨addr, kind, write, ctx, u⟩] := by
  have hsmu : (if u = 294 ∨ u = 295 then h else h.setParked u ctx kind).smu = h.smu := by
    split
    · rfl
    · exact h.setParked_smu u ctx kind
  rw [Hw.park, Hw.faultRecord_queue _ _ (by rwa [hsmu]), hsmu]

/-- Parking changes the unit's register, its channel's status, the queue's register, the handler's and those of delivery. -/
theorem Hw.park_reg {k : Nat} (hu : k ≠ SMU_UNIT u) (hst : k ≠ DMA_CH_STAT u) (hs : k ≠ SMU_FAULT_STAT) (hh : k ≠ SMU_CTX_HANDLER ctx)
    (hd : k ∉ deliveryRegs) : (h.park u ctx addr write kind).reg k = h.reg k := by
  rw [Hw.park, Hw.faultRecord_reg _ ⟨addr, kind, write, ctx, u⟩ hs hh hd]
  split
  · rfl
  · exact h.setParked_reg u ctx kind hu hst

/-- A unit that parks shows kind and context. -/
theorem Hw.park_unit (hu : u < 320) (hn : u ≠ 294 ∧ u ≠ 295) (hctx : ctx < 64) (hkind : kind < 8) :
    (h.park u ctx addr write kind).isParked u = true ∧
      (h.park u ctx addr write kind).f (SMU_UNIT u) SMU_UNIT.kind = kind ∧ (h.park u ctx addr write kind).f (SMU_UNIT u) SMU_UNIT.ctx = ctx := by
  obtain ⟨-, -, hd⟩ := unit_place ⟨u, hu⟩
  have hs : SMU_UNIT u ≠ SMU_FAULT_STAT := by
    simp only [SMU_UNIT, SMU_FAULT_STAT]
    omega
  have hh : SMU_UNIT u ≠ SMU_CTX_HANDLER ctx := by
    simp only [SMU_UNIT, SMU_CTX_HANDLER]
    omega
  have shown (l : Fld) : (h.park u ctx addr write kind).f (SMU_UNIT u) l = (h.setParked u ctx kind).f (SMU_UNIT u) l := by
    rw [Hw.park, if_neg (not_or.mpr hn), Hw.f, Hw.faultRecord_reg _ ⟨addr, kind, write, ctx, u⟩ hs hh hd, Hw.f]
  refine ⟨decide_eq_true ?_, ?_, ?_⟩
  · rw [shown, Hw.setParked_unit, Hw.f_setF_apart _ _ _ _ _ (by decide) (by decide), Hw.f_setF_apart _ _ _ _ _ (by decide) (by decide),
      Hw.f_setF_same _ _ _ _ (by decide)]
    rfl
  · rw [shown, Hw.setParked_unit, Hw.f_setF_apart _ _ _ _ _ (by decide) (by decide), Hw.f_setF_same _ _ _ _ (by decide)]
    exact Nat.mod_eq_of_lt hkind
  · rw [shown, Hw.setParked_unit, Hw.f_setF_same _ _ _ _ (by decide)]
    exact Nat.mod_eq_of_lt hctx

end

end Sys2Proof.Machine
end

section
/-! PROOFS. Invalidations, fault records and parked units (R78, R79, R86), and O10 is settled. -/

namespace Sys2Proof.Machine

open Reg Sys2Proof.Safety

/-! ### Invalidation (R78) -/

/-- SMU_INVAL stands alone, and a write cannot change busy. -/
theorem inval_single : lowWordOf SMU_INVAL = none ∧
    ∀ r ∈ regFind SMU_INVAL, r.lowWord = false ∧ ∀ d ∈ r.fields, LeavesField SMU_INVAL.busy d := by
  decide +kernel

/-- With none running an invalidation starts. -/
theorem Hw.invalidate_idle (h : Hw) (scope ctx : Nat) (hb : h.flag SMU_INVAL SMU_INVAL.busy = false) :
    h.invalidate scope ctx = ({ h with smu := { h.smu with running := (scope, ctx, h.f SMU_INVAL_ADDR SMU_INVAL_ADDR.page) } }).setFlag
      SMU_INVAL SMU_INVAL.busy true := by
  simp only [Hw.invalidate, hb, Bool.false_eq_true, if_false]

/-- SMU_INVALIDATE with none running starts, with its scope and page. -/
theorem smuInvalidate_completes (s : State) (via : BusAcc) (scope : Fin 4) (ctx : Fin 64) (hp : Permitted s.hw via SMU_INVAL)
    (hb : s.hw.flag SMU_INVAL SMU_INVAL.busy = false) :
    Completes (.smuInvalidate via scope ctx) s fun h =>
      h.flag SMU_INVAL SMU_INVAL.busy = true ∧ h.smu.running = (scope.val, ctx.val, s.hw.f SMU_INVAL_ADDR SMU_INVAL_ADDR.page) := by
  refine completes_of_regWrite (eff := fun _ g => g.invalidate scope.val ctx.val) rfl hp (fun r hr => (inval_single.2 r hr).1)
    fun low g w => ?_
  have busy := w.f_kept inval_single.1 rfl SMU_INVAL.busy fun r hr => (inval_single.2 r hr).2
  have page := w.f_eq SMU_INVAL_ADDR SMU_INVAL_ADDR.page (not_mem_writtenRegs (by decide) (by decide) (by decide))
  rw [cleared_f] at busy page
  rw [Hw.invalidate_idle g _ _ (by rwa [Hw.flag, busy]), page]
  exact ⟨Hw.flag_setFlag_same _ _ _ _ (by decide) (by decide), rfl⟩

/-- The device once the translations that the running invalidation covers are dropped. -/
def Hw.scopeDropped (h : Hw) : Hw :=
  { h with smu := { h.smu with
    cached := h.smu.cached.filter fun p => !inScope h.smu.running.1 h.smu.running.2.1 h.smu.running.2.2 p.1 p.2 } }

section
variable (h : Hw) (hb : h.flag SMU_INVAL SMU_INVAL.busy = true)
include hb

theorem Hw.invalidateDone_last (hq : h.smu.queuedInval = []) :
    h.invalidateDone = h.scopeDropped.setFlag SMU_INVAL SMU_INVAL.busy false := by
  simp only [Hw.invalidateDone, hb, if_true, hq, Hw.scopeDropped]

theorem Hw.invalidateDone_next {q : Nat × Nat × Nat} {qs : List (Nat × Nat × Nat)} (hq : h.smu.queuedInval = q :: qs) :
    h.invalidateDone = { h.scopeDropped with smu := { h.scopeDropped.smu with running := q, queuedInval := qs } } := by
  simp only [Hw.invalidateDone, hb, if_true, hq, Hw.scopeDropped]

end

/-- INVALIDATE_COMPLETE with none queued drops what the scope covers and clears busy. -/
theorem invalidateComplete_last (s : State) (hb : s.hw.flag SMU_INVAL SMU_INVAL.busy = true) (hq : s.hw.smu.queuedInval = []) :
    Completes .invalidateComplete s fun h =>
      h.flag SMU_INVAL SMU_INVAL.busy = false ∧
      h.smu.cached = s.hw.smu.cached.filter fun p => !inScope s.hw.smu.running.1 s.hw.smu.running.2.1 s.hw.smu.running.2.2 p.1 p.2 := by
  refine completes_of_run (e := Hw.invalidateDone) rfl ?_
  rw [Hw.invalidateDone_last (cleared s.hw) hb hq]
  exact ⟨Hw.flag_setFlag_same _ _ _ _ (by decide) (by decide), rfl⟩

/-- INVALIDATE_COMPLETE begins the oldest one queued. -/
theorem invalidateComplete_next (s : State) (q : Nat × Nat × Nat) (qs : List (Nat × Nat × Nat))
    (hb : s.hw.flag SMU_INVAL SMU_INVAL.busy = true) (hq : s.hw.smu.queuedInval = q :: qs) :
    Completes .invalidateComplete s fun h =>
      h.flag SMU_INVAL SMU_INVAL.busy = true ∧ h.smu.running = q ∧ h.smu.queuedInval = qs := by
  refine completes_of_run (e := Hw.invalidateDone) rfl ?_
  rw [Hw.invalidateDone_next (cleared s.hw) hb hq]
  exact ⟨hb, rfl, rfl⟩

/-! ### Faults (R79) -/

/-- TRANSLATION_FAULT queues its record and parks its unit. -/
theorem translationFault_completes (s : State) (u : Fin 320) (ctx : Fin 64) (a : BitVec 36) (w : Bool) (kind : Fin 8)
    (hroom : s.hw.smu.queue.length < 64) :
    Completes (.translationFault u ctx a w kind) s fun h =>
      h.smu.queue = s.hw.smu.queue ++ [⟨a.toNat, kind.val, w, ctx.val, u.val⟩] ∧
      (u.val ≠ 294 → u.val ≠ 295 →
        h.isParked u.val = true ∧ h.f (SMU_UNIT u.val) SMU_UNIT.kind = kind.val ∧ h.f (SMU_UNIT u.val) SMU_UNIT.ctx = ctx.val) :=
  completes_of_run (e := fun h => h.park u.val ctx.val a.toNat w kind.val) rfl
    ⟨(cleared s.hw).park_queue _ _ _ _ _ hroom,
      fun h4 h5 => (cleared s.hw).park_unit _ _ _ _ _ u.isLt ⟨h4, h5⟩ ctx.isLt kind.isLt⟩

/-- FAULT_POP takes the oldest record: its low word is the answer, its high word waits for the reader. -/
theorem faultPop_completes (s : State) (via : BusAcc) (r : FaultRec) (rs : List FaultRec) (hp : Readable s.hw via SMU_FAULT_POP_LO)
    (hq : s.hw.smu.queue = r :: rs) :
    Completes (.faultPop via) s fun h =>
      h.smu.queue = rs ∧ h.bus.resp = .data [r.words.1] ∧ h.readShadow via.master.num SMU_FAULT_POP_HI = some r.words.2 := by
  refine completes_of_regReadWith (op := fun h => h.popFault via.master.num) rfl hp ?_
  have hq' : (cleared s.hw).smu.queue = r :: rs := hq
  have pop : (cleared s.hw).popFault via.master.num = ((({ cleared s.hw with smu := { s.hw.smu with queue := rs } } : Hw).setReadShadow
      via.master.num SMU_FAULT_POP_HI r.words.2), r.words.1) := by
    simp only [Hw.popFault, hq']
    rfl
  rw [pop]
  exact ⟨rfl, rfl, Hw.readShadow_setReadShadow_same _ _ _ _⟩

/-! ### Resume and abort (R86) -/

/-- A unit's register stands alone, and a write cannot change its state. -/
theorem unit_single : ∀ u : Fin 320, lowWordOf (SMU_UNIT u.val) = none ∧
    ∀ r ∈ regFind (SMU_UNIT u.val), r.lowWord = false ∧ ∀ d ∈ r.fields, LeavesField SMU_UNIT.state d := by
  decide +kernel

/-- A write of a unit's register leaves the unit parked. -/
theorem Written.isParked_eq {h g : Hw} {a : BusAcc} {u : Fin 320} {v low : Word} (w : Written h g a (SMU_UNIT u.val) v low) :
    g.isParked u.val = h.isParked u.val := by
  rw [Hw.isParked, w.f_kept (unit_single u).1 (unit_place u).1 _ fun r hr => ((unit_single u).2 r hr).2, Hw.isParked]

/-- A parked unit that is resumed is resuming. -/
theorem Hw.resumeUnit_state (h : Hw) (u : Nat) (hp : h.isParked u = true) :
    (h.resumeUnit u).f (SMU_UNIT u) SMU_UNIT.state = unitResuming := by
  unfold Hw.resumeUnit
  rw [if_pos hp]
  dsimp only
  split
  · exact (Hw.f_setF_other _ _ _ _ _ _ (unit_ne_dmaStat u)).trans (Hw.f_setF_same _ _ _ _ (by decide))
  · exact Hw.f_setF_same _ _ _ _ (by decide)

/-- A parked unit whose work is aborted is normal. -/
theorem Hw.abortUnit_state (h : Hw) (u : Nat) (byTimeout : Bool) (hp : h.isParked u = true) :
    (h.abortUnit u byTimeout).f (SMU_UNIT u) SMU_UNIT.state = 0 := by
  rw [Hw.abortUnit, if_pos hp, Hw.unitNormal, Hw.f_setF_same _ _ _ _ (by decide)]
  rfl

/-- UNIT_RESUME of a parked unit. -/
theorem unitResume_completes (s : State) (via : BusAcc) (u : Fin 320) (hp : Permitted s.hw via (SMU_UNIT u.val))
    (hpark : s.hw.isParked u.val = true) :
    Completes (.unitResume via u) s fun h => h.f (SMU_UNIT u.val) SMU_UNIT.state = unitResuming :=
  completes_of_regWrite (eff := fun _ g => g.resumeUnit u.val) rfl hp (fun r hr => ((unit_single u).2 r hr).1)
    fun _ g w => g.resumeUnit_state _ (w.isParked_eq.trans hpark)

/-- UNIT_ABORT of a parked unit. -/
theorem unitAbort_completes (s : State) (via : BusAcc) (u : Fin 320) (hp : Permitted s.hw via (SMU_UNIT u.val))
    (hpark : s.hw.isParked u.val = true) :
    Completes (.unitAbort via u) s fun h => h.f (SMU_UNIT u.val) SMU_UNIT.state = 0 := by
  refine completes_of_regWrite (eff := fun _ g => g.unitWritten u.val (SMU_UNIT.abort.set 0 1)) rfl hp
    (fun r hr => ((unit_single u).2 r hr).1) fun _ g w => ?_
  have asked : SMU_UNIT.abort.get (SMU_UNIT.abort.set 0 1) = 1 := by decide
  rw [Hw.unitWritten, if_pos asked]
  exact g.abortUnit_state _ _ (w.isParked_eq.trans hpark)

/-- PARK_TIMEOUT of a parked unit: its abort, and a record. -/
theorem parkTimeout_completes (s : State) (u : Fin 320) (hpark : s.hw.isParked u.val = true) :
    Completes (.parkTimeout u) s fun h => h.f (SMU_UNIT u.val) SMU_UNIT.state = 0 := by
  have he : exec (.parkTimeout u) s = run s fun h => (h.abortUnit u.val true).event (srcOf 0x07 0) 0x000C (BitVec.ofNat 32 u.val)
      (BitVec.ofNat 32 (h.f (SMU_UNIT u.val) SMU_UNIT.ctx)) 0 := by
    change execParkTimeout u s = _
    exact run_congr (if_pos hpark)
  refine completes_of_run he ?_
  rw [Hw.event_f _ _ _ _ _ _ _ _ (unit_place u).2.1]
  exact (cleared s.hw).abortUnit_state _ _ hpark

/-- Settles O10: each command of the System Memory Unit completes as its own theorem says. -/
theorem smuCommandsComplete : Obligations.SmuCommandsComplete :=
  ⟨smuInvalidate_completes, invalidateComplete_last, invalidateComplete_next, translationFault_completes, faultPop_completes,
    unitResume_completes, unitAbort_completes, parkTimeout_completes⟩

end Sys2Proof.Machine
end

section
/-! SUPPORT. What fetching a descriptor leaves of the current addresses of the DMA channels (R80, R81, R84). -/

namespace Sys2Proof.Machine

open Reg Sys2Proof.Safety

/-- A word of a channel's current descriptor address. -/
def curReg (k : Nat) : Prop := 0x80100 ≤ k ∧ k < 0x81100 ∧ (k % 32 = 0x14 ∨ k % 32 = 0x18)

theorem curReg_of_channel (ch : Fin 128) : curReg (DMA_CH_CUR_LO ch.val) ∧ curReg (DMA_CH_CUR_LO ch.val + 4) := by
  have := ch.isLt
  simp only [curReg, DMA_CH_CUR_LO]
  omega

/-- `g` has the current addresses as `h` has them. -/
def CurKept (h g : Hw) : Prop := ∀ k, curReg k → g.reg k = h.reg k

theorem CurKept.of_regs {h g : Hw} (e : g.regs = h.regs) : CurKept h g := fun k _ => by rw [Hw.reg, e, Hw.reg]

theorem CurKept.trans {a b c : Hw} (p : CurKept a b) (q : CurKept b c) : CurKept a c := fun k hk => (q k hk).trans (p k hk)

theorem CurKept.dmaCur_eq {h g : Hw} (p : CurKept h g) (ch : Fin 128) : g.dmaCur ch.val = h.dmaCur ch.val := by
  obtain ⟨hlo, hhi⟩ := curReg_of_channel ch
  rw [Hw.dmaCur, Hw.reg64, p _ hlo, p _ hhi, Hw.dmaCur, Hw.reg64]

section
variable (h : Hw)

theorem CurKept.setF {k : Nat} (f : Fld) (v : Nat) (hk : ¬ curReg k) : CurKept h (h.setF k f v) :=
  fun _ hj => Hw.reg_setF_other _ _ _ _ _ fun e => hk (e ▸ hj)

theorem CurKept.bump {k : Nat} (c s : Fld) (hk : ¬ curReg k) : CurKept h (h.bump k c s) :=
  fun _ hj => Hw.reg_bump_other _ _ _ _ _ fun e => hk (e ▸ hj)

theorem CurKept.token (hd : Nat) (err : Bool) : CurKept h (h.token hd err) :=
  fun _ hj => Hw.token_reg _ _ _ _ (not_mem_deliveryRegs (by unfold curReg at hj; omega) (by unfold curReg at hj; omega))

/-- A count of errors of the channels. -/
theorem CurKept.dmaErr (c s : Fld) : CurKept h (h.bump DMA_ERR c s) := .bump h c s (by unfold curReg; decide)

end

/-! ### Memory -/

/-- A bus write changes no register. -/
theorem Hw.writePhys_regs {h g : Hw} {a : Nat} {bs : List Byte} (hw : h.writePhys a bs = some g) : g.regs = h.regs := by
  unfold Hw.writePhys at hw
  split at hw
  · cases hw
    exact (congrArg Hw.regs (Hw.storeBytes_spec bs h a).1).trans rfl
  · cases hw

theorem Hw.keepCached_regs (h : Hw) (ctx addr : Nat) : (h.keepCached ctx addr).regs = h.regs := by
  obtain ⟨x, e⟩ := h.keepCached_eq ctx addr
  rw [e]

/-- A write in a context's space changes no register. -/
theorem Hw.writeCtxGo_regs (ctx fuel : Nat) : ∀ (h : Hw) (addr : Nat) (bs : List Byte) (n : Nat),
    (Hw.writeCtxGo ctx fuel h addr bs n).1.regs = h.regs := by
  induction fuel with
  | zero => exact fun _ _ _ _ => rfl
  | succ fuel ih =>
    intro h addr bs n
    rw [Hw.writeCtxGo]
    split
    · rfl
    · dsimp only
      split
      · rfl
      · split
        · rfl
        · next h' hw => rw [ih, Hw.keepCached_regs, Hw.writePhys_regs hw]

theorem Hw.writeCtx_regs (h : Hw) (ctx addr : Nat) (bs : List Byte) : (h.writeCtx ctx addr bs).1.regs = h.regs :=
  Hw.writeCtxGo_regs _ _ _ _ _ _

/-! ### A channel -/

section
variable (h : Hw) (ch : Fin 128)

theorem CurKept.dmaState (st err : Nat) : CurKept h (h.dmaState ch.val st err) := by
  have hk : ¬ curReg (DMA_CH_STAT ch.val) := by
    simp only [curReg, DMA_CH_STAT]
    omega
  exact (CurKept.setF h _ _ hk).trans (.setF _ _ _ hk)

theorem CurKept.unitNormal : CurKept h (h.unitNormal ch.val) := by
  refine .setF h _ _ ?_
  simp only [curReg, SMU_UNIT]
  omega

/-- A channel that parks keeps its address. -/
theorem CurKept.park {ctx : Nat} (hctx : ctx < 64) (addr : Nat) (write : Bool) (kind : Nat) :
    CurKept h (h.park ch.val ctx addr write kind) := by
  intro k hk
  have := ch.isLt
  refine Hw.park_reg _ _ _ _ _ _ ?_ ?_ ?_ ?_ (not_mem_deliveryRegs ?_ ?_) <;> unfold curReg at hk
  · simp only [SMU_UNIT]; omega
  · simp only [DMA_CH_STAT]; omega
  · simp only [SMU_FAULT_STAT]; omega
  · simp only [SMU_CTX_HANDLER]; omega
  · omega
  · omega

/-- Ending a descriptor in error leaves the address at which the chain stopped. -/
theorem CurKept.dmaFail (err : Nat) : CurKept h (h.dmaFail ch.val err) := by
  unfold Hw.dmaFail
  split
  · exact .dmaState h ch 3 err
  · next d _ =>
    have written := CurKept.of_regs (h.writeCtx_regs (h.f (DMA_CH_CFG ch.val) DMA_CH_CFG.ctx) (h.dmaCur ch.val + 60)
      (dmaStatus err (h.f (DMA_CH_PROG ch.val) DMA_CH_PROG.progress)))
    have posted (g : Hw) : CurKept g (if bit d.flags 0 then g.token d.token true else g) := by
      split
      · exact .token g _ _
      · exact .of_regs rfl
    have counted (g : Hw) : CurKept g ((g.bump DMA_ERR DMA_ERR.desc_err DMA_ERR.desc_sat).unitNormal ch.val) :=
      (CurKept.dmaErr g _ _).trans (.unitNormal _ ch)
    have ended (g : Hw) : CurKept g ((g.setDma ch.val { desc := none, paused := false }).dmaState ch.val 3 err) :=
      (CurKept.of_regs (g := g.setDma ch.val _) rfl).trans (.dmaState _ ch 3 err)
    exact ((written.trans (posted _)).trans (counted _)).trans (ended _)

/-- Fetching a descriptor leaves its address, whether it runs, ends in error or parks. -/
theorem CurKept.dmaFetch : CurKept h (h.dmaFetch ch.val) := by
  have hctx : h.f (DMA_CH_CFG ch.val) DMA_CH_CFG.ctx < 64 := Fld.get_lt _ _
  have begun : CurKept h (h.setF (DMA_CH_PROG ch.val) DMA_CH_PROG.progress 0) := by
    refine .setF h _ _ ?_
    simp only [curReg, DMA_CH_PROG]
    omega
  have idle (g : Hw) (d : DmaCh) : CurKept g (g.setDma ch.val d) := .of_regs rfl
  unfold Hw.dmaFetch
  refine begun.trans ?_
  dsimp only
  split
  · exact (idle _ _).trans (.park _ ch hctx _ _ _)
  · exact ((idle _ _).trans (.dmaState _ ch 3 2)).trans (.dmaErr _ _ _)
  · next bs _ =>
    have cached (g : Hw) (addr : Nat) (d : DmaCh) :
        CurKept g ((g.keepCached (h.f (DMA_CH_CFG ch.val) DMA_CH_CFG.ctx) addr).setDma ch.val d) :=
      (CurKept.of_regs (g.keepCached_regs _ addr)).trans (idle _ d)
    split
    · exact (cached _ _ _).trans (.dmaFail _ ch _)
    · exact (cached _ _ _).trans (.dmaState _ ch 1 0)

end

end Sys2Proof.Machine
end

section
/-! PROOFS. A DMA channel starts, ends a descriptor and goes on, and a bank's copy ends (R80–R82, R89); O11 is settled. -/

namespace Sys2Proof.Machine

open Reg Sys2Proof.Safety

/-! ### A channel starts (R80) -/

/-- A start is the high word of a pair. -/
theorem dmaStart_pair : ∀ ch : Fin 128, (lowWordOf (DMA_CH_START_HI ch.val)).isSome = true ∧
    ∀ r ∈ regFind (DMA_CH_START_HI ch.val), r.lowWord = false := by
  decide +kernel

/-- A channel may start: it neither runs nor stands parked, and is enabled and not retired. -/
structure MayStart (h : Hw) (ch : Nat) : Prop where
  notRunning : h.f (DMA_CH_STAT ch) DMA_CH_STAT.state ≠ 1
  notParked : h.f (DMA_CH_STAT ch) DMA_CH_STAT.state ≠ 2
  enabled : h.flag (DMA_CH_CFG ch) DMA_CH_CFG.enable = true
  inService : h.flag (DMA_CH_CFG ch) DMA_CH_CFG.retired = false

/-- A start's write leaves the channel's status and configuration. -/
theorem Written.mayStart {h g : Hw} {a : BusAcc} {ch : Fin 128} {v low : Word} (w : Written h g a (DMA_CH_START_HI ch.val) v low)
    (m : MayStart h ch.val) : MayStart g ch.val := by
  have := ch.isLt
  have stat : DMA_CH_STAT ch.val ∉ writtenRegs (DMA_CH_START_HI ch.val) := by
    apply not_mem_writtenRegs <;> simp only [DMA_CH_STAT, DMA_CH_START_HI] <;> omega
  have cfg : DMA_CH_CFG ch.val ∉ writtenRegs (DMA_CH_START_HI ch.val) := by
    apply not_mem_writtenRegs <;> simp only [DMA_CH_CFG, DMA_CH_START_HI] <;> omega
  exact ⟨by rw [w.f_eq _ _ stat]; exact m.notRunning, by rw [w.f_eq _ _ stat]; exact m.notParked,
    by rw [Hw.flag, w.f_eq _ _ cfg]; exact m.enabled, by rw [Hw.flag, w.f_eq _ _ cfg]; exact m.inService⟩

/-- A channel that starts takes the descriptor's address. -/
theorem Hw.dmaStart_cur (h : Hw) (ch : Fin 128) (low high : Word) (m : MayStart h ch.val) :
    (h.dmaStart ch.val low high).dmaCur ch.val =
      DMA_CH_START_LO.addr_lo.get low * 64 + DMA_CH_START_HI.addr_hi.get high * 2 ^ 32 := by
  have may : ¬ (h.f (DMA_CH_STAT ch.val) DMA_CH_STAT.state = 1 ∨ h.f (DMA_CH_STAT ch.val) DMA_CH_STAT.state = 2 ∨
      ¬ h.flag (DMA_CH_CFG ch.val) DMA_CH_CFG.enable = true ∨ h.flag (DMA_CH_CFG ch.val) DMA_CH_CFG.retired = true) := by
    simp only [m.notRunning, m.notParked, m.enabled, m.inService, Bool.false_eq_true, not_true_eq_false, or_self, not_false_eq_true]
  have hlo : DMA_CH_START_LO.addr_lo.get low < 2 ^ 26 := Fld.get_lt _ _
  have hhi : DMA_CH_START_HI.addr_hi.get high < 2 ^ 4 := Fld.get_lt _ _
  rw [Hw.dmaStart]
  simp only [if_neg may]
  rw [(CurKept.dmaFetch _ ch).dmaCur_eq, Hw.dmaCur, Hw.reg64_setReg64]
  exact Nat.mod_eq_of_lt (by omega)

/-- DMA_START of a channel that may start. -/
theorem dmaStart_completes (s : State) (via : BusAcc) (ch : Fin 128) (hi : Word) (hp : Permitted s.hw via (DMA_CH_START_HI ch.val))
    (h1 : s.hw.f (DMA_CH_STAT ch.val) DMA_CH_STAT.state ≠ 1) (h2 : s.hw.f (DMA_CH_STAT ch.val) DMA_CH_STAT.state ≠ 2)
    (hen : s.hw.flag (DMA_CH_CFG ch.val) DMA_CH_CFG.enable = true) (hret : s.hw.flag (DMA_CH_CFG ch.val) DMA_CH_CFG.retired = false) :
    Completes (.dmaStart via ch hi) s fun h =>
      h.dmaCur ch.val = DMA_CH_START_LO.addr_lo.get (heldLow s.hw via.master.num (DMA_CH_START_HI ch.val)) * 64 +
        DMA_CH_START_HI.addr_hi.get hi * 2 ^ 32 := by
  refine completes_of_regWrite (eff := fun low g => g.dmaStart ch.val low hi) rfl hp (dmaStart_pair ch).2 fun low g w => ?_
  have hlow : low = heldLow s.hw via.master.num (DMA_CH_START_HI ch.val) := w.low_eq (dmaStart_pair ch).1
  rw [← hlow]
  exact g.dmaStart_cur ch low hi (w.mayStart ⟨h1, h2, hen, hret⟩)

/-! ### A descriptor ends (R81) -/

/-- The device with a channel idle after its descriptor, without an error. -/
def Hw.dmaIdle (h : Hw) (ch : Nat) : Hw := ((h.setDma ch { desc := none, paused := false }).unitNormal ch).dmaState ch 0 0

theorem Hw.dmaIdle_state (h : Hw) (ch : Nat) : (h.dmaIdle ch).f (DMA_CH_STAT ch) DMA_CH_STAT.state = 0 := by
  rw [Hw.dmaIdle, Hw.dmaState, Hw.f_setF_apart _ _ _ _ _ (by decide) (by decide), Hw.f_setF_same _ _ _ _ (by decide)]
  rfl

theorem Hw.dmaIdle_error (h : Hw) (ch : Nat) : (h.dmaIdle ch).f (DMA_CH_STAT ch) DMA_CH_STAT.error = 0 := by
  rw [Hw.dmaIdle, Hw.dmaState, Hw.f_setF_same _ _ _ _ (by decide)]
  rfl

theorem Hw.dmaIdle_desc (h : Hw) (ch : Nat) : ((h.dmaIdle ch).dmaCh ch).desc = none :=
  congrArg DmaCh.desc (Map.at_set_same h.dma ch { desc := none, paused := false })

/-- The last descriptor of a chain, without token or line, ends with its channel idle once its status is written. -/
theorem Hw.dmaEnd_last {h g : Hw} {ch n : Nat} {d : DmaDesc} (hnext : d.next = 0) (htok : bit d.flags 0 = false)
    (hline : bit d.flags 1 = false) (hw : h.engineWrite d.ctx (h.dmaCur ch + 60) (dmaStatus 0 n) = (g, none)) :
    h.dmaEnd ch d 0 n = g.dmaIdle ch := by
  simp only [Hw.dmaEnd, hw, hnext, htok, hline, if_true, Bool.false_eq_true, if_false, Hw.dmaIdle]

/-- A descriptor away from the FIFOs whose octets move whole goes to its end. -/
theorem Hw.dmaRun_whole {h g : Hw} {ch n p err : Nat} {d : DmaDesc} {pkt host acc : List Byte} (hd : d.dstSpace ≠ 3)
    (hm : Hw.dmaMove d pkt host (h.f (DMA_CH_PROG ch) DMA_CH_PROG.progress) n (n / 2048 + 3) (h.f (DMA_CH_PROG ch) DMA_CH_PROG.progress) [] h =
      (g, p, acc, none)) :
    h.dmaRun ch d pkt host n err = ((g.setF (DMA_CH_PROG ch) DMA_CH_PROG.progress p).dmaEnd ch d err p, true) := by
  simp only [Hw.dmaRun, hd, if_false, hm, false_and]

/-- A running channel whose descriptor reads and writes no FIFO moves its octets. -/
theorem Hw.dmaComplete_memory {h : Hw} {ch : Nat} {d : DmaDesc} (host : List Byte) (hst : h.f (DMA_CH_STAT ch) DMA_CH_STAT.state = 1)
    (hch : h.dmaCh ch = ⟨some d, false⟩) (hsrc : d.srcSpace ≠ 3) (hdst : d.dstSpace ≠ 3) :
    h.dmaComplete ch host = ((h.unitNormal ch).dmaRun ch d [] host d.length 0).1 := by
  simp only [Hw.dmaComplete, hst, hch, hsrc, hdst, ne_eq, not_true_eq_false, Bool.false_eq_true, or_self, if_false, false_and,
    decide_false, Bool.false_and]

/-- The unit's return to normal leaves the channel's progress. -/
theorem Hw.unitNormal_progress (h : Hw) (ch : Nat) :
    (h.unitNormal ch).f (DMA_CH_PROG ch) DMA_CH_PROG.progress = h.f (DMA_CH_PROG ch) DMA_CH_PROG.progress := by
  refine Hw.f_setF_other _ _ _ _ _ _ ?_
  simp only [DMA_CH_PROG, SMU_UNIT]
  omega

/-- DMA_DESCRIPTOR_COMPLETE of a chain's last descriptor. -/
theorem dmaDescriptorComplete_completes (s : State) (ch : Fin 128) (host : List Byte) (d : DmaDesc) (p : Nat) (acc : List Byte)
    (h1 h2 : Hw) (hst : s.hw.f (DMA_CH_STAT ch.val) DMA_CH_STAT.state = 1) (hch : s.hw.dmaCh ch.val = ⟨some d, false⟩)
    (hsrc : d.srcSpace ≠ 3) (hdst : d.dstSpace ≠ 3) (hnext : d.next = 0) (htok : bit d.flags 0 = false) (hline : bit d.flags 1 = false)
    (hm : Hw.dmaMove d [] host (s.hw.f (DMA_CH_PROG ch.val) DMA_CH_PROG.progress) d.length (d.length / 2048 + 3)
      (s.hw.f (DMA_CH_PROG ch.val) DMA_CH_PROG.progress) [] ((cleared s.hw).unitNormal ch.val) = (h1, p, acc, none))
    (hw : (h1.setF (DMA_CH_PROG ch.val) DMA_CH_PROG.progress p).engineWrite d.ctx
      ((h1.setF (DMA_CH_PROG ch.val) DMA_CH_PROG.progress p).dmaCur ch.val + 60) (dmaStatus 0 p) = (h2, none)) :
    Completes (.dmaDescriptorComplete ch host) s fun h =>
      h.f (DMA_CH_STAT ch.val) DMA_CH_STAT.state = 0 ∧ h.f (DMA_CH_STAT ch.val) DMA_CH_STAT.error = 0 ∧ (h.dmaCh ch.val).desc = none := by
  have hprog : ((cleared s.hw).unitNormal ch.val).f (DMA_CH_PROG ch.val) DMA_CH_PROG.progress =
      s.hw.f (DMA_CH_PROG ch.val) DMA_CH_PROG.progress := Hw.unitNormal_progress _ _
  rw [← hprog] at hm
  have he : exec (.dmaDescriptorComplete ch host) s = run s fun _ => (h2.dmaIdle ch.val).answer .none := by
    change execDmaDescriptorComplete ch host s = _
    have hst' : (cleared s.hw).f (DMA_CH_STAT ch.val) DMA_CH_STAT.state = 1 := hst
    have hch' : (cleared s.hw).dmaCh ch.val = ⟨some d, false⟩ := hch
    refine run_congr ?_
    rw [Hw.dmaComplete_memory host hst' hch' hsrc hdst, Hw.dmaRun_whole hdst hm, Hw.dmaEnd_last hnext htok hline hw]
  refine completes_of_run he ⟨?_, ?_, ?_⟩
  · rw [Hw.answer_f, Hw.dmaIdle_state]
  · rw [Hw.answer_f, Hw.dmaIdle_error]
  · rw [Hw.dmaCh, Hw.answer_dma, ← Hw.dmaCh, Hw.dmaIdle_desc]

/-! ### A paused channel goes on (R82) -/

/-- DMA_FIFO_READY of a channel paused on a destination FIFO that has room. -/
theorem dmaFifoReady_completes (s : State) (ch : Fin 128) (d : DmaDesc) (hch : s.hw.dmaCh ch.val = ⟨some d, true⟩) (hsrc : d.srcSpace ≠ 3)
    (hdst : d.dstSpace = 3) (hfit : s.hw.fifoFits (d.dst % 64) d.length = true) :
    Completes (.dmaFifoReady ch) s fun h => h.dmaCh ch.val = ⟨some d, false⟩ := by
  have he : exec (.dmaFifoReady ch) s = run s fun h => h.setDma ch.val ⟨some d, false⟩ := by
    change execDmaFifoReady ch s = _
    rw [execDmaFifoReady]
    refine run_congr ?_
    have hch' : (cleared s.hw).dmaCh ch.val = ⟨some d, true⟩ := hch
    have hfit' : (cleared s.hw).fifoFits (d.dst % 64) d.length = true := hfit
    generalize cleared s.hw = g at hch' hfit' ⊢
    simp only [hch', hsrc, hdst, hfit', decide_false, decide_true, Bool.false_and, Bool.true_and, Bool.not_true, Bool.or_self,
      Bool.false_eq_true, if_false]
  exact completes_of_run he (Map.at_set_same _ _ _)

/-! ### A bank's copy ends (R89) -/

/-- A line that the copy could not correct: poisoned in bank `b`, and recorded. -/
def Hw.lineLost (b : Nat) (h : Hw) (l : Nat) : Hw :=
  (h.updHlt fun x => { x with poisoned := addCode ((bankBase b + l * 64) / 64) x.poisoned }).event hltSource 0x000D
    (BitVec.ofNat 32 (bankBase b + l * 64)) (BitVec.ofNat 32 ((bankBase b + l * 64) / 2 ^ 32)) (BitVec.ofNat 32 b)

theorem mem_addCode (c : Nat) (l : List Nat) : c ∈ addCode c l := by
  unfold addCode
  split
  · next hm => exact (memb_iff c l).mp hm
  · exact List.mem_append_right _ List.mem_cons_self

theorem mem_addCode_of_mem {c d : Nat} {l : List Nat} (hd : d ∈ l) : d ∈ addCode c l := by
  unfold addCode
  split
  · exact hd
  · exact List.mem_append_left _ hd

theorem Hw.lineLost_hlt (b : Nat) (h : Hw) (l : Nat) :
    (Hw.lineLost b h l).hlt = { h.hlt with poisoned := addCode ((bankBase b + l * 64) / 64) h.hlt.poisoned } :=
  Hw.event_hlt _ _ _ _ _ _

/-- Lost lines leave the health manager's record but for the poison: every one of them is poisoned, and no poison goes away. -/
theorem Hw.foldl_lineLost (b : Nat) (ls : List Nat) : ∀ h : Hw,
    (ls.foldl (Hw.lineLost b) h).hlt = { h.hlt with poisoned := (ls.foldl (Hw.lineLost b) h).hlt.poisoned } ∧
      (∀ c ∈ h.hlt.poisoned, c ∈ (ls.foldl (Hw.lineLost b) h).hlt.poisoned) ∧
      ∀ l ∈ ls, (bankBase b + l * 64) / 64 ∈ (ls.foldl (Hw.lineLost b) h).hlt.poisoned := by
  induction ls with
  | nil => exact fun h => ⟨rfl, fun _ hc => hc, fun _ hl => nomatch hl⟩
  | cons l ls ih =>
    intro h
    obtain ⟨hrest, hold, hnew⟩ := ih (Hw.lineLost b h l)
    rw [Hw.lineLost_hlt] at hrest hold
    rw [List.foldl_cons]
    refine ⟨hrest, fun c hc => hold c (mem_addCode_of_mem hc), fun k hk => ?_⟩
    rcases List.mem_cons.mp hk with rfl | hk
    · exact hold _ (mem_addCode _ _)
    · exact hnew k hk

/-- The device once the spare answers for a bank, before the lost lines. -/
def Hw.spareAnswers (h : Hw) (b spare : Nat) : Hw :=
  ({ h with mem := moveBank h.mem b spare } : Hw).updHlt fun x => { x with migrating := none, bankMap := x.bankMap.set b (spare + 1) }

theorem Hw.migrated_eq {h : Hw} {b spare : Nat} (bad : List Nat) (hm : h.hlt.migrating = some (b, spare)) :
    h.migrated bad = (bad.filter fun l => decide (l < 32768)).foldl (Hw.lineLost b) (h.spareAnswers b spare) := by
  rw [Hw.migrated, hm]
  rfl

/-- MIGRATION_COPY_DONE leaves the spare answering for the bank, with the named lines poisoned. -/
theorem migrationCopyDone_completes (s : State) (bad : List Nat) (b spare : Nat) (hm : s.hw.hlt.migrating = some (b, spare)) :
    Completes (.migrationCopyDone bad) s fun h =>
      h.hlt.migrating = none ∧ h.hlt.bankMap.at b = spare + 1 ∧
      ∀ l ∈ bad, l < 32768 → (bankBase b + l * 64) / 64 ∈ h.hlt.poisoned := by
  refine completes_of_run (e := fun h => h.migrated bad) rfl ?_
  have hm' : (cleared s.hw).hlt.migrating = some (b, spare) := hm
  rw [Hw.migrated_eq bad hm']
  obtain ⟨hrest, -, hnew⟩ := Hw.foldl_lineLost b (bad.filter fun l => decide (l < 32768)) ((cleared s.hw).spareAnswers b spare)
  refine ⟨(congrArg HltSt.migrating hrest).trans rfl, ?_, fun l hl hlt => ?_⟩
  · rw [congrArg HltSt.bankMap hrest]
    exact Map.at_set_same _ _ _
  · exact hnew l (List.mem_filter.mpr ⟨hl, decide_eq_true hlt⟩)

/-- Settles O11: each command of DMA, and the end of a bank's copy, completes as its own theorem says. -/
theorem dmaCommandsComplete : Obligations.DmaCommandsComplete :=
  ⟨dmaStart_completes, dmaDescriptorComplete_completes, dmaFifoReady_completes, migrationCopyDone_completes⟩

end Sys2Proof.Machine
end

section
/-! SUPPORT. The packet FIFOs: what the command registers leave of a FIFO, its last packet, the word of a commit (R95–R98). -/

namespace Sys2Proof.Machine

open Reg Sys2Proof.Safety

/-! ### A FIFO under changes of the device -/

@[simp] theorem Hw.fifo_setFifo_same (h : Hw) (f : Nat) (x : Fifo) : (h.setFifo f x).fifo f = x := Map.at_set_same _ _ _

@[simp] theorem Hw.setFlag_fifo (h : Hw) (k : Nat) (l : Fld) (b : Bool) (f : Nat) : (h.setFlag k l b).fifo f = h.fifo f := rfl

/-- A FIFO's notice changes no FIFO. -/
@[simp] theorem Hw.fifoNotice_fifo (h : Hw) (n f : Nat) : (h.fifoNotice n).fifo f = h.fifo f := by
  rw [Hw.fifo, Hw.fifoNotice, Hw.notice_fifos, Hw.deviceLine_fifos, ← Hw.fifo]

/-- With nothing held back, nothing enters. -/
theorem Hw.settle_idle {h : Hw} {f : Nat} (hw : (h.fifo f).waiting = []) : h.settle f = h := by
  rw [Hw.settle, hw]
  rfl

/-- `g` has FIFO `f` as `h` has it, with its mode, size and threshold. -/
structure FifoKept (h g : Hw) (f : Nat) : Prop where
  fifo : g.fifo f = h.fifo f
  geom : g.reg (STM_GEOM f) = h.reg (STM_GEOM f)

section
variable {h g : Hw} {f : Nat} (w : FifoKept h g f)
include w

theorem FifoKept.mode_eq : g.fifoMode f = h.fifoMode f := by
  rw [Hw.fifoMode, Hw.f, w.geom, ← Hw.f, ← Hw.fifoMode]

theorem FifoKept.words_eq : g.fifoWords f = h.fifoWords f := by
  rw [Hw.fifoWords, Hw.f, w.geom, ← Hw.f, ← Hw.fifoWords]

theorem FifoKept.space_eq : g.fifoSpace f = h.fifoSpace f := by
  rw [Hw.fifoSpace, Hw.fifoUsed, w.words_eq, w.fifo, ← Hw.fifoUsed, ← Hw.fifoSpace]

theorem FifoKept.limit_eq : g.packetLimit f = h.packetLimit f := by
  rw [Hw.packetLimit, w.words_eq, ← Hw.packetLimit]

theorem FifoKept.avail_eq : g.avail f = h.avail f := by
  rw [Hw.avail, Hw.f, w.geom, w.fifo, ← Hw.f, ← Hw.avail]

end

/-! ### The command registers -/

/-- The registers of FIFO `f` by which software commands it. -/
def stmCommandRegs (f : Nat) : List Nat := [STM_PUSH f, STM_COMMIT f, STM_CTRL f]

/-- No command register is a low word. -/
theorem stmCommand_single : ∀ f : Fin 48, ∀ k ∈ stmCommandRegs f.val, ∀ r ∈ regFind k, r.lowWord = false := by
  decide +kernel

/-- No command register is the geometry of its FIFO, or the word behind it. -/
theorem geom_not_written {f : Fin 48} {k : Nat} (hk : k ∈ stmCommandRegs f.val) : STM_GEOM f.val ∉ writtenRegs k := by
  have := f.isLt
  simp only [stmCommandRegs, List.mem_cons, List.not_mem_nil, or_false, STM_PUSH, STM_COMMIT, STM_CTRL] at hk
  apply not_mem_writtenRegs <;> simp only [STM_GEOM] <;> omega

/-- A command that is a permitted write of a command register completes with what its effect makes of the FIFO as it was. -/
theorem completes_of_stmWrite {c : Instr} {s : State} {via : BusAcc} {f : Fin 48} {k : Nat} {v : Word} {eff : Hw → Hw} {P : Hw → Prop}
    (he : exec c s = run s fun h => h.regWrite via k v fun _ => eff) (hp : Permitted s.hw via k) (hk : k ∈ stmCommandRegs f.val)
    (hP : ∀ g, FifoKept s.hw g f.val → P (eff g)) : Completes c s P := by
  refine completes_of_regWrite (eff := fun _ => eff) he hp (stmCommand_single f k hk) fun low g w => hP g ⟨?_, ?_⟩
  · rw [Hw.fifo, w.fifos_eq]
    rfl
  · exact w.regs _ (geom_not_written hk)

/-! ### The last packet -/

/-- The open packet is the last. -/
theorem Fifo.getLast_of_openPkt {x : Fifo} {p : Pkt} (ho : x.openPkt = some p) : x.pkts.getLast? = some p := by
  unfold Fifo.openPkt at ho
  exact (Option.filter_eq_some_iff.mp ho).1

/-- The last packet after a change of it. -/
theorem Fifo.updLast_getLast {x : Fifo} {p : Pkt} (hp : x.pkts.getLast? = some p) (g : Pkt → Pkt) :
    (x.updLast g).pkts.getLast? = some (g p) := by
  rw [List.getLast?_eq_head?_reverse] at hp
  obtain ⟨ps, hps⟩ := List.head?_eq_some_iff.mp hp
  rw [Fifo.updLast, hps]
  simp only [List.getLast?_reverse, List.head?_cons]

/-! ### The word of a commit -/

section
variable (abort start : Bool) (n : BitVec 16) (tag : BitVec 13)

theorem commitWord_toNat : (commitWord abort start n tag).toNat =
    n.toNat + tag.toNat * 2 ^ 16 + start.toNat * 2 ^ 30 + abort.toNat * 2 ^ 31 := by
  have := n.isLt
  have := tag.isLt
  have := start.toNat_lt
  have := abort.toNat_lt
  rw [commitWord, BitVec.toNat_ofNat]
  omega

/-- Every field of a commit reads as it was put there. -/
theorem commitWord_fields : STM_COMMIT.length.get (commitWord abort start n tag) = n.toNat ∧
    STM_COMMIT.tag.get (commitWord abort start n tag) = tag.toNat ∧ STM_COMMIT.start.get (commitWord abort start n tag) = start.toNat ∧
    STM_COMMIT.abort.get (commitWord abort start n tag) = abort.toNat := by
  have := n.isLt
  have := tag.isLt
  have := start.toNat_lt
  have := abort.toNat_lt
  simp only [Fld.get, commitWord_toNat, STM_COMMIT.length, STM_COMMIT.tag, STM_COMMIT.start, STM_COMMIT.abort]
  omega

end

end Sys2Proof.Machine
end

section
/-! PROOFS. Pushes, commits, pops, flushes and skips complete (R96, R97, R99–R101), and O12 is settled. -/

namespace Sys2Proof.Machine

open Reg Sys2Proof.Safety

theorem modeCut_ne_framed : modeCut ≠ modeFramed := by decide

/-! ### Pushes (R96, R97, R99) -/

section
variable {h : Hw} {f : Nat} (w : Word)

section
variable (hm : h.fifoMode f = modeFramed) (hd : (h.fifo f).dropping = false)
include hm hd

/-- A framed push with room adds its word. -/
theorem Hw.push_framed (hr : (h.fifo f).reserved = true) (hs : 1 ≤ h.fifoSpace f) : h.push f w =
    h.setFifo f { h.fifo f with openWords := (h.fifo f).openWords ++ [w], wr := h.advance f (h.fifo f).wr 1 } := by
  simp only [Hw.push, hm, hd, hr, ge_iff_le, hs, if_true, Bool.false_eq_true, if_false]

/-- The first push of a framed packet reserves its header too. -/
theorem Hw.push_first (hr : (h.fifo f).reserved = false) (hs : 2 ≤ h.fifoSpace f) : h.push f w =
    h.setFifo f { h.fifo f with openWords := [w], reserved := true, wr := h.advance f (h.fifo f).wr 2 } := by
  simp only [Hw.push, hm, hd, hr, ge_iff_le, hs, if_true, Bool.false_eq_true, if_false]

/-- A framed push without room is lost, and its packet with it. -/
theorem Hw.push_overflow (hr : (h.fifo f).reserved = true) (hs : h.fifoSpace f = 0) : h.push f w =
    (h.setFifo f { h.fifo f with dropping := true }).setFlag (STM_STAT f) STM_STAT.overflow true := by
  have full : ¬ h.fifoSpace f ≥ 1 := by omega
  simp only [Hw.push, hm, hd, hr, full, if_true, Bool.false_eq_true, if_false]

end

/-- A cut-through push with room adds its word to the open packet. -/
theorem Hw.push_cut {p : Pkt} (hm : h.fifoMode f = modeCut) (ho : (h.fifo f).openPkt = some p) (hk : p.skipped = false)
    (hs : 1 ≤ h.fifoSpace f) : ((h.push f w).fifo f).pkts.getLast? =
      some { p with words := p.words ++ [w], complete := decide (wordsFor p.length ≤ p.words.length + 1) } := by
  have hs0 : h.fifoSpace f ≠ 0 := by omega
  have hk' : ¬ p.skipped = true := by rw [hk]; exact Bool.false_ne_true
  have last := Fifo.updLast_getLast (Fifo.getLast_of_openPkt ho) fun q =>
    { q with words := q.words ++ [w], complete := decide (wordsFor p.length ≤ p.words.length + 1) }
  simp only [Hw.push, hm, modeCut_ne_framed, if_false, if_true, ho, if_neg hk', hs0]
  split
  · rw [Hw.fifoNotice_fifo, Hw.fifo_setFifo_same]
    exact last
  · rw [Hw.fifo_setFifo_same]
    exact last

end

section
variable (s : State) (via : BusAcc) (f : Fin 48) (w : Word) (hp : Permitted s.hw via (STM_PUSH f.val))
include hp

/-- STM_PUSH is a permitted write of its register. -/
theorem stmPush_completes {P : Hw → Prop} (hP : ∀ g, FifoKept s.hw g f.val → P (g.push f.val w)) : Completes (.stmPush via f w) s P :=
  completes_of_stmWrite (eff := fun g => g.push f.val w) rfl hp List.mem_cons_self hP

section
variable (hm : s.hw.fifoMode f.val = modeFramed) (hd : (s.hw.fifo f.val).dropping = false)
include hm hd

/-- STM_PUSH of a framed packet under way, with room. -/
theorem stmPush_framed (hr : (s.hw.fifo f.val).reserved = true) (hs : 1 ≤ s.hw.fifoSpace f.val) :
    Completes (.stmPush via f w) s fun h =>
      (h.fifo f.val).openWords = (s.hw.fifo f.val).openWords ++ [w] ∧ (h.fifo f.val).pkts = (s.hw.fifo f.val).pkts := by
  refine stmPush_completes s via f w hp fun g k => ?_
  rw [← k.mode_eq] at hm
  rw [← k.space_eq] at hs
  rw [← k.fifo] at hd hr ⊢
  rw [Hw.push_framed w hm hd hr hs, Hw.fifo_setFifo_same]
  exact ⟨rfl, rfl⟩

/-- STM_PUSH of a framed packet's first word, with room for it and its header. -/
theorem stmPush_first (hr : (s.hw.fifo f.val).reserved = false) (hs : 2 ≤ s.hw.fifoSpace f.val) :
    Completes (.stmPush via f w) s fun h => (h.fifo f.val).openWords = [w] ∧ (h.fifo f.val).reserved = true := by
  refine stmPush_completes s via f w hp fun g k => ?_
  rw [← k.mode_eq] at hm
  rw [← k.space_eq] at hs
  rw [← k.fifo] at hd hr
  rw [Hw.push_first w hm hd hr hs, Hw.fifo_setFifo_same]
  exact ⟨rfl, rfl⟩

/-- STM_PUSH of a framed packet that finds no room. -/
theorem stmPush_overflow (hr : (s.hw.fifo f.val).reserved = true) (hs : s.hw.fifoSpace f.val = 0) :
    Completes (.stmPush via f w) s fun h =>
      h.flag (STM_STAT f.val) STM_STAT.overflow = true ∧ (h.fifo f.val).dropping = true ∧
      (h.fifo f.val).openWords = (s.hw.fifo f.val).openWords := by
  refine stmPush_completes s via f w hp fun g k => ?_
  rw [← k.mode_eq] at hm
  rw [← k.space_eq] at hs
  rw [← k.fifo] at hd hr ⊢
  rw [Hw.push_overflow w hm hd hr hs, Hw.setFlag_fifo, Hw.fifo_setFifo_same]
  exact ⟨Hw.flag_setFlag_same _ _ _ _ (by decide) (by decide), rfl, rfl⟩

end

/-- STM_PUSH to the open cut-through packet, with room. -/
theorem stmPush_cut (p : Pkt) (hm : s.hw.fifoMode f.val = modeCut) (ho : (s.hw.fifo f.val).openPkt = some p) (hk : p.skipped = false)
    (hs : 1 ≤ s.hw.fifoSpace f.val) :
    Completes (.stmPush via f w) s fun h =>
      (h.fifo f.val).pkts.getLast? =
        some { p with words := p.words ++ [w], complete := decide (wordsFor p.length ≤ p.words.length + 1) } := by
  refine stmPush_completes s via f w hp fun g k => ?_
  exact Hw.push_cut w (k.mode_eq.trans hm) (by rwa [k.fifo]) hk (by rwa [k.space_eq])

end

/-! ### Commits (R96, R97) -/

section
variable {h : Hw} {f : Nat} (n : BitVec 16) (tag : BitVec 13)

/-- A consistent framed commit makes its packet visible whole. -/
theorem Hw.commit_framed (hm : h.fifoMode f = modeFramed) (hd : (h.fifo f).dropping = false) (hr : (h.fifo f).reserved = true)
    (hlim : n.toNat ≤ h.packetLimit f) (hlen : wordsFor n.toNat = (h.fifo f).openWords.length) :
    h.commit f (commitWord false false n tag) = (h.setFifo f { h.fifo f with
      pkts := (h.fifo f).pkts ++ [⟨tag.toNat, n.toNat, false, false, (h.fifo f).openWords, true, false⟩], openWords := [],
      reserved := false }).fifoNotice f := by
  obtain ⟨elen, etag, -, eabort⟩ := commitWord_fields false false n tag
  simp only [Hw.commit, hm, elen, etag, eabort, Bool.toNat_false, Nat.zero_ne_one, Hw.commitFramed, hd, hr, Bool.false_eq_true,
    not_true_eq_false, false_and, if_false, if_true, gt_iff_lt, Nat.not_lt.mpr hlim, hlen, ne_eq, or_self]

/-- A cut-through start with none open puts a header. -/
theorem Hw.commit_start (hm : h.fifoMode f = modeCut) (ho : (h.fifo f).openPkt = none) (hs : 1 ≤ h.fifoSpace f) :
    ((h.commit f (commitWord false true n tag)).fifo f).pkts =
      (h.fifo f).pkts ++ [⟨tag.toNat, n.toNat, false, false, [], decide (n.toNat = 0), false⟩] := by
  obtain ⟨elen, etag, estart, eabort⟩ := commitWord_fields false true n tag
  have hs0 : h.fifoSpace f ≠ 0 := by omega
  simp only [Hw.commit, hm, modeCut_ne_framed, elen, etag, estart, eabort, Bool.toNat_false, Bool.toNat_true, Nat.zero_ne_one, Hw.startCut,
    ho, Option.isSome_none, Bool.false_eq_true, hs0, if_false, if_true]
  split <;> simp only [Hw.fifoNotice_fifo, Hw.fifo_setFifo_same]

/-- A framed abort withdraws the open packet. -/
theorem Hw.commit_abort_framed (hm : h.fifoMode f = modeFramed) : h.commit f (commitWord true false 0 0) = h.withdraw f := by
  obtain ⟨-, -, -, eabort⟩ := commitWord_fields true false 0 0
  simp only [Hw.commit, hm, eabort, Bool.toNat_true, if_true]

/-- A cut-through abort ends the open packet as aborted. -/
theorem Hw.commit_abort_cut {p : Pkt} (hm : h.fifoMode f = modeCut) (ho : (h.fifo f).openPkt = some p) (hk : p.skipped = false) :
    ((h.commit f (commitWord true false 0 0)).fifo f).pkts.getLast? = some { p with abort := true, complete := true } := by
  obtain ⟨-, -, -, eabort⟩ := commitWord_fields true false 0 0
  have hk' : ¬ p.skipped = true := by rw [hk]; exact Bool.false_ne_true
  simp only [Hw.commit, hm, modeCut_ne_framed, eabort, Bool.toNat_true, if_false, if_true, Hw.endAborted, ho, if_neg hk',
    Hw.fifoNotice_fifo, Hw.fifo_setFifo_same]
  exact Fifo.updLast_getLast (Fifo.getLast_of_openPkt ho) _

end

section
variable (s : State) (via : BusAcc) (f : Fin 48)

theorem commit_mem_commandRegs : STM_COMMIT f.val ∈ stmCommandRegs f.val := List.mem_cons_of_mem _ List.mem_cons_self

/-- STM_COMMIT of a length that agrees with the words pushed. -/
theorem stmCommit_completes (n : BitVec 16) (tag : BitVec 13) (hp : Permitted s.hw via (STM_COMMIT f.val))
    (hm : s.hw.fifoMode f.val = modeFramed) (hd : (s.hw.fifo f.val).dropping = false) (hr : (s.hw.fifo f.val).reserved = true)
    (hlim : n.toNat ≤ s.hw.packetLimit f.val) (hlen : wordsFor n.toNat = (s.hw.fifo f.val).openWords.length) :
    Completes (.stmCommit via f n tag) s fun h =>
      (h.fifo f.val).pkts =
        (s.hw.fifo f.val).pkts ++ [⟨tag.toNat, n.toNat, false, false, (s.hw.fifo f.val).openWords, true, false⟩] ∧
      (h.fifo f.val).openWords = [] ∧ (h.fifo f.val).reserved = false := by
  refine completes_of_stmWrite (eff := fun g => g.commit f.val (commitWord false false n tag)) rfl hp (commit_mem_commandRegs f) fun g k => ?_
  rw [← k.mode_eq] at hm
  rw [← k.limit_eq] at hlim
  rw [← k.fifo] at hd hr hlen ⊢
  rw [Hw.commit_framed n tag hm hd hr hlim hlen, Hw.fifoNotice_fifo, Hw.fifo_setFifo_same]
  exact ⟨rfl, rfl, rfl⟩

/-- STM_COMMIT_START with no packet open and room for its header. -/
theorem stmCommitStart_completes (n : BitVec 16) (tag : BitVec 13) (hp : Permitted s.hw via (STM_COMMIT f.val))
    (hm : s.hw.fifoMode f.val = modeCut) (ho : (s.hw.fifo f.val).openPkt = none) (hs : 1 ≤ s.hw.fifoSpace f.val) :
    Completes (.stmCommitStart via f n tag) s fun h =>
      (h.fifo f.val).pkts = (s.hw.fifo f.val).pkts ++ [⟨tag.toNat, n.toNat, false, false, [], decide (n.toNat = 0), false⟩] := by
  refine completes_of_stmWrite (eff := fun g => g.commit f.val (commitWord false true n tag)) rfl hp (commit_mem_commandRegs f) fun g k => ?_
  rw [← k.fifo] at ho ⊢
  exact Hw.commit_start n tag (k.mode_eq.trans hm) ho (by rwa [k.space_eq])

/-- STM_COMMIT_ABORT in framed mode. -/
theorem stmCommitAbort_framed (hp : Permitted s.hw via (STM_COMMIT f.val)) (hm : s.hw.fifoMode f.val = modeFramed) :
    Completes (.stmCommitAbort via f) s fun h =>
      (h.fifo f.val).openWords = [] ∧ (h.fifo f.val).reserved = false ∧ (h.fifo f.val).pkts = (s.hw.fifo f.val).pkts := by
  refine completes_of_stmWrite (eff := fun g => g.commit f.val (commitWord true false 0 0)) rfl hp (commit_mem_commandRegs f) fun g k => ?_
  rw [Hw.commit_abort_framed (k.mode_eq.trans hm), Hw.withdraw, Hw.fifo_setFifo_same, ← k.fifo]
  exact ⟨rfl, rfl, rfl⟩

/-- STM_COMMIT_ABORT of the open cut-through packet. -/
theorem stmCommitAbort_cut (p : Pkt) (hp : Permitted s.hw via (STM_COMMIT f.val)) (hm : s.hw.fifoMode f.val = modeCut)
    (ho : (s.hw.fifo f.val).openPkt = some p) (hk : p.skipped = false) :
    Completes (.stmCommitAbort via f) s fun h => (h.fifo f.val).pkts.getLast? = some { p with abort := true, complete := true } :=
  completes_of_stmWrite (eff := fun g => g.commit f.val (commitWord true false 0 0)) rfl hp (commit_mem_commandRegs f)
    fun _ k => Hw.commit_abort_cut (k.mode_eq.trans hm) (by rwa [k.fifo]) hk

end

/-! ### Pops (R97, R99) -/

/-- A pop of a packet that may be read gives its next word. -/
theorem Hw.pop_word {h : Hw} {f : Nat} {p : Pkt} {ps : List Pkt} {w : Word} (hm : h.fifoMode f ≠ 0) (hpk : (h.fifo f).pkts = p :: ps)
    (hk : p.skipped = false) (ha : (h.fifo f).begun = true ∨ h.avail f = true) (hw : p.words[(h.fifo f).taken]? = some w) :
    (h.pop f).2 = w := by
  have readable : ¬ (h.fifoMode f = 0 ∨ (¬ (h.fifo f).begun = true ∧ ¬ h.avail f = true) ∨ p.skipped = true) := by
    rw [hk]
    rintro (e | ⟨hb, hv⟩ | e)
    · exact hm e
    · exact ha.elim hb hv
    · exact Bool.false_ne_true e
  simp only [Hw.pop, hpk, if_neg readable, hw]
  split <;> rfl

/-- STM_POP answers the next word of a packet that may be read. -/
theorem stmPop_completes (s : State) (via : BusAcc) (f : Fin 48) (p : Pkt) (ps : List Pkt) (w : Word) (hp : Readable s.hw via (STM_POP f.val))
    (hm : s.hw.fifoMode f.val ≠ 0) (hpk : (s.hw.fifo f.val).pkts = p :: ps) (hk : p.skipped = false)
    (ha : (s.hw.fifo f.val).begun = true ∨ s.hw.avail f.val = true) (hw : p.words[(s.hw.fifo f.val).taken]? = some w) :
    Completes (.stmPop via f) s fun h => h.bus.resp = .data [w] := by
  refine completes_of_regReadWith (op := fun h => h.popFifo f.val) rfl hp ?_
  have word : ((cleared s.hw).popFifo f.val).2 = w := Hw.pop_word (h := cleared s.hw) hm hpk hk ha hw
  rw [word, Hw.answer_bus]

/-! ### Flushes and skips (R100, R101) -/

section
variable {h : Hw} {f : Nat}

/-- What a flush removes: the complete packets. -/
theorem Hw.flushNow_fifo : ((h.flushNow f).fifo f).pkts = (h.fifo f).pkts.filter (fun p => !p.complete) ∧
    ((h.flushNow f).fifo f).flushPending = false ∧ ((h.flushNow f).fifo f).waiting = (h.fifo f).waiting := by
  rw [Hw.flushNow, Hw.fifo_setFifo_same]
  exact ⟨rfl, rfl, rfl⟩

/-- A flush in the middle of a packet waits. -/
theorem Hw.flushFifo_begun (hb : (h.fifo f).begun = true) (hw : (h.fifo f).waiting = []) :
    h.flushFifo f = h.setFifo f { h.fifo f with flushPending := true } := by
  rw [Hw.flushFifo, Hw.flush, if_pos hb]
  exact Hw.settle_idle (by rw [Hw.fifo_setFifo_same, hw])

/-- A flush at a packet boundary acts at once. -/
theorem Hw.flushFifo_boundary (hb : (h.fifo f).begun = false) (hw : (h.fifo f).waiting = []) : h.flushFifo f = h.flushNow f := by
  rw [Hw.flushFifo, Hw.flush, if_neg (by rw [hb]; exact Bool.false_ne_true)]
  exact Hw.settle_idle (by rw [Hw.flushNow_fifo.2.2, hw])

/-- A flush that is pending acts at the boundary. -/
theorem Hw.atBoundary_pending (hf : (h.fifo f).flushPending = true) (hb : (h.fifo f).begun = false) : h.atBoundary f = h.flushNow f :=
  if_pos ⟨hf, by rw [hb]; exact Bool.false_ne_true⟩

/-- With no flush pending the boundary is passed. -/
theorem Hw.atBoundary_idle (hf : (h.fifo f).flushPending = false) : h.atBoundary f = h :=
  if_neg fun hand => Bool.false_ne_true (hf.symm.trans hand.1)

/-- A skip of a complete packet that may be read removes it, where nothing waits for the boundary. -/
theorem Hw.skipFifo_complete {p : Pkt} {ps : List Pkt} (hpk : (h.fifo f).pkts = p :: ps) (hc : p.complete = true) (hk : p.skipped = false)
    (ha : (h.fifo f).begun = true ∨ h.avail f = true) (hf : (h.fifo f).flushPending = false) (hw : (h.fifo f).waiting = []) :
    ∃ rd, h.skipFifo f = h.setFifo f { h.fifo f with pkts := ps, begun := false, taken := 0, rd := rd } := by
  have readable : ¬ (p.skipped = true ∨ ¬ ((h.fifo f).begun = true ∨ h.avail f = true)) := by
    rw [hk]
    exact not_or.mpr ⟨Bool.false_ne_true, not_not.mpr ha⟩
  obtain ⟨rd, hdrop⟩ : ∃ rd, h.dropFirst f = h.setFifo f { h.fifo f with pkts := ps, begun := false, taken := 0, rd := rd } := by
    simp only [Hw.dropFirst, hpk]
    exact ⟨_, rfl⟩
  have hskip : h.skip f = (h.dropFirst f).atBoundary f := by
    simp only [Hw.skip, hpk, if_neg readable, hc, if_true]
  refine ⟨rd, ?_⟩
  rw [Hw.skipFifo, hskip, hdrop, Hw.atBoundary_idle (by rw [Hw.fifo_setFifo_same, hf])]
  exact Hw.settle_idle (by rw [Hw.fifo_setFifo_same, hw])

end

section
variable (s : State) (via : BusAcc) (f : Fin 48)

theorem ctrl_mem_commandRegs : STM_CTRL f.val ∈ stmCommandRegs f.val := List.mem_cons_of_mem _ (List.mem_cons_of_mem _ List.mem_cons_self)

/-- STM_FLUSH waits for the boundary in the middle of a packet, and acts at once else. -/
theorem stmFlush_completes (hp : Permitted s.hw via (STM_CTRL f.val)) (hw : (s.hw.fifo f.val).waiting = []) :
    Completes (.stmFlush via f) s fun h =>
      if (s.hw.fifo f.val).begun then (h.fifo f.val).flushPending = true ∧ (h.fifo f.val).pkts = (s.hw.fifo f.val).pkts
      else (h.fifo f.val).pkts = (s.hw.fifo f.val).pkts.filter fun p => !p.complete := by
  refine completes_of_stmWrite (eff := fun g => g.flushFifo f.val) rfl hp (ctrl_mem_commandRegs f) fun g k => ?_
  rw [← k.fifo] at hw ⊢
  cases hb : (g.fifo f.val).begun with
  | true =>
    rw [if_pos rfl, Hw.flushFifo_begun hb hw, Hw.fifo_setFifo_same]
    exact ⟨rfl, rfl⟩
  | false =>
    rw [if_neg Bool.false_ne_true, Hw.flushFifo_boundary hb hw]
    exact Hw.flushNow_fifo.1

/-- FLUSH_ACT of a pending flush at the consumer's boundary. -/
theorem flushAct_completes (hf : (s.hw.fifo f.val).flushPending = true) (hb : (s.hw.fifo f.val).begun = false)
    (hw : (s.hw.fifo f.val).waiting = []) :
    Completes (.flushAct f) s fun h =>
      (h.fifo f.val).pkts = (s.hw.fifo f.val).pkts.filter (fun p => !p.complete) ∧ (h.fifo f.val).flushPending = false := by
  refine completes_of_run (e := fun h => (h.atBoundary f.val).settle f.val) rfl ?_
  obtain ⟨hpkts, hpend, hwait⟩ := Hw.flushNow_fifo (h := cleared s.hw) (f := f.val)
  rw [Hw.atBoundary_pending (h := cleared s.hw) hf hb, Hw.settle_idle (hwait.trans hw)]
  exact ⟨hpkts, hpend⟩

/-- STM_SKIP of a complete packet that may be read. -/
theorem stmSkip_completes (p : Pkt) (ps : List Pkt) (hp : Permitted s.hw via (STM_CTRL f.val)) (hpk : (s.hw.fifo f.val).pkts = p :: ps)
    (hc : p.complete = true) (hk : p.skipped = false) (ha : (s.hw.fifo f.val).begun = true ∨ s.hw.avail f.val = true)
    (hf : (s.hw.fifo f.val).flushPending = false) (hw : (s.hw.fifo f.val).waiting = []) :
    Completes (.stmSkip via f) s fun h => (h.fifo f.val).pkts = ps ∧ (h.fifo f.val).begun = false := by
  refine completes_of_stmWrite (eff := fun g => g.skipFifo f.val) rfl hp (ctrl_mem_commandRegs f) fun g k => ?_
  rw [← k.avail_eq] at ha
  rw [← k.fifo] at hpk ha hf hw
  obtain ⟨rd, e⟩ := Hw.skipFifo_complete hpk hc hk ha hf hw
  rw [e, Hw.fifo_setFifo_same]
  exact ⟨rfl, rfl⟩

end

/-- Settles O12: each command of the packet FIFOs completes as its own theorem says. -/
theorem streamCommandsComplete : Obligations.StreamCommandsComplete :=
  ⟨fun s via f w hp => stmPush_framed s via f w hp, fun s via f w hp => stmPush_first s via f w hp,
    fun s via f w hp => stmPush_overflow s via f w hp, fun s via f w p hp => stmPush_cut s via f w hp p,
    stmCommit_completes, stmCommitStart_completes, stmCommitAbort_framed, stmCommitAbort_cut, stmPop_completes, stmFlush_completes,
    flushAct_completes, stmSkip_completes⟩

end Sys2Proof.Machine
end

section
/-! SUPPORT. The receiver's registers under what other blocks do: packets of FIFOs and robots' resets leave them (R24, R98, R163). -/

namespace Sys2Proof.Machine

open Reg Sys2Proof.Safety

/-- A register of the receiver's window (R24). -/
abbrev gnsReg (k : Nat) : Prop := 0xA0000 ≤ k ∧ k < 0xB0000

/-- `g` has the receiver's registers as `h` has them, but for those of `ks`. -/
def RxKept (ks : List Nat) (h g : Hw) : Prop := ∀ k, gnsReg k → k ∉ ks → g.reg k = h.reg k

theorem recordingRegs_not_gnsReg : ∀ k ∈ logRegs ++ deliveryRegs, ¬ gnsReg k := by decide

theorem gnsReg.not_log {k : Nat} (hk : gnsReg k) : k ∉ logRegs := fun hm => recordingRegs_not_gnsReg k (List.mem_append_left _ hm) hk

theorem gnsReg.not_delivery {k : Nat} (hk : gnsReg k) : k ∉ deliveryRegs := fun hm =>
  recordingRegs_not_gnsReg k (List.mem_append_right _ hm) hk

/-! ### How the frame composes -/

section
variable {ks : List Nat}

theorem RxKept.of_regs {h g : Hw} (e : g.regs = h.regs) : RxKept ks h g := fun k _ _ => by rw [Hw.reg, e, Hw.reg]

theorem RxKept.refl (h : Hw) : RxKept ks h h := .of_regs rfl

theorem RxKept.trans {a b c : Hw} (p : RxKept ks a b) (q : RxKept ks b c) : RxKept ks a c :=
  fun k hk hn => (q k hk hn).trans (p k hk hn)

/-- What leaves all of them leaves all but some. -/
theorem RxKept.weaken {h g : Hw} (p : RxKept [] h g) : RxKept ks h g := fun k hk _ => p k hk List.not_mem_nil

theorem RxKept.ite {c : Prop} [Decidable c] {h a b : Hw} (p : RxKept ks h a) (q : RxKept ks h b) : RxKept ks h (if c then a else b) := by
  split
  · exact p
  · exact q

theorem RxKept.foldl {β : Type} (f : Hw → β → Hw) (l : List β) (hf : ∀ h, ∀ b ∈ l, RxKept ks h (f h b)) (h : Hw) :
    RxKept ks h (l.foldl f h) := by
  induction l generalizing h with
  | nil => exact .refl h
  | cons b l ih => exact (hf h b List.mem_cons_self).trans (ih (fun h c hc => hf h c (List.mem_cons_of_mem b hc)) (f h b))

section
variable {h g : Hw} (p : RxKept ks h g) {k : Nat} (hk : gnsReg k) (hn : k ∉ ks) (l : Fld)
include p hk hn

theorem RxKept.f_eq : g.f k l = h.f k l := by rw [Hw.f, p k hk hn, Hw.f]

theorem RxKept.flag_eq : g.flag k l = h.flag k l := by rw [Hw.flag, p.f_eq hk hn, Hw.flag]

end

section
variable (h : Hw) {k : Nat}

theorem RxKept.setReg (w : Word) (hk : gnsReg k → k ∈ ks := by decide) : RxKept ks h (h.setReg k w) :=
  fun _ hj hn => Hw.reg_setReg_other _ _ _ _ fun e => hn (e ▸ hk (e ▸ hj))

theorem RxKept.setF (f : Fld) (v : Nat) (hk : gnsReg k → k ∈ ks := by decide) : RxKept ks h (h.setF k f v) := .setReg h _ hk

theorem RxKept.setFlag (f : Fld) (b : Bool) (hk : gnsReg k → k ∈ ks := by decide) : RxKept ks h (h.setFlag k f b) := .setReg h _ hk

theorem RxKept.bump (c s : Fld) (hk : gnsReg k → k ∈ ks := by decide) : RxKept ks h (h.bump k c s) :=
  .ite (.setFlag h _ _ hk) (.setF h _ _ hk)

theorem RxKept.raise (f : Fld) (i : Nat) (hk : gnsReg k → k ∈ ks := by decide) : RxKept ks h (h.raise k f i) :=
  fun _ hj hn => Hw.raise_reg _ _ _ _ _ (fun e => hn (e ▸ hk (e ▸ hj))) hj.not_log

theorem RxKept.notice (hk : gnsReg k → k ∈ ks := by decide) : RxKept ks h (h.notice k) :=
  fun _ hj hn => Hw.notice_reg _ _ _ (fun e => hn (e ▸ hk (e ▸ hj))) hj.not_delivery

end
end

theorem RxKept.event (h : Hw) (src code : Nat) (a b c : Word) : RxKept [] h (h.event src code a b c) :=
  fun _ hk _ => Hw.event_reg _ _ _ _ _ _ _ hk.not_log

theorem RxKept.deviceLine (h : Hw) (line : Nat) : RxKept [] h (h.deviceLine line) := fun _ hk _ => Hw.deviceLine_reg _ _ _ hk.not_delivery

theorem RxKept.setReg64 (h : Hw) {k : Nat} (v : Nat) (hk : 0xB0000 ≤ k) : RxKept [] h (h.setReg64 k v) :=
  (RxKept.setReg h _ fun hg => by omega).trans (.setReg _ _ fun hg => by omega)

/-! ### Packet FIFOs (R98, R99, R101) -/

section
variable (h : Hw) {f : Nat} (hf : f < 64)

section
include hf

theorem RxKept.fifoNotice : RxKept [] h (h.fifoNotice f) :=
  (RxKept.deviceLine h _).trans (.notice _ fun hg => by simp only [gnsReg, STM_NOTICE] at hg; omega)

theorem RxKept.hwPacket (tag : Nat) (bs : List Byte) : RxKept [] h (h.hwPacket f tag bs) :=
  (RxKept.of_regs (g := h.setFifo f _) rfl).trans (.fifoNotice _ hf)

theorem RxKept.hwSend (prod tag : Nat) (bs : List Byte) : RxKept [] h (h.hwSend prod f tag bs).1 := by
  unfold Hw.hwSend
  split
  · exact .refl h
  · split
    · exact .hwPacket h hf _ _
    · exact .of_regs rfl

theorem RxKept.hwSendFree (prod : Nat) (bs : List Byte) : RxKept [] h (h.hwSendFree prod f bs).1 :=
  (RxKept.of_regs (g := h.useFree 1) rfl).trans (.hwSend _ hf _ _ _)

theorem RxKept.settleGo (n : Nat) : RxKept [] h (Hw.settleGo f n h) := by
  induction n generalizing h with
  | zero => exact .refl h
  | succ n ih =>
    rw [Hw.settleGo]
    split
    · exact .refl h
    · exact .ite ((RxKept.of_regs (g := h.setFifo f _) rfl).trans (.trans (.hwPacket _ hf _ _) (ih _))) (.refl h)

end

theorem Hw.dropFirst_regs : (h.dropFirst f).regs = h.regs := by
  unfold Hw.dropFirst
  dsimp only
  split <;> rfl

theorem Hw.atBoundary_regs : (h.atBoundary f).regs = h.regs := by
  unfold Hw.atBoundary
  split <;> rfl

include hf in
/-- A packet that a consumer takes whole, and those it skips, leave the receiver's registers. -/
theorem RxKept.takePacket (fuel : Nat) : ∀ {h g : Hw} {p : Pkt} {n : Nat}, h.takePacket f fuel = some (p, n, g) → RxKept [] h g := by
  induction fuel with
  | zero => exact fun e => nomatch e
  | succ fuel ih =>
    intro h g p n e
    have next : RxKept [] h (((h.dropFirst f).atBoundary f).settle f) :=
      (RxKept.of_regs ((Hw.atBoundary_regs _).trans (Hw.dropFirst_regs h))).trans (.settleGo _ hf _)
    rw [Hw.takePacket] at e
    split at e
    · cases e
    · split at e
      · cases e
      · split at e
        · cases e
        · dsimp only at e
          split at e
          · obtain ⟨⟨q, m, g'⟩, hq, e⟩ := Option.map_eq_some_iff.mp e
            cases e
            exact next.trans (ih hq)
          · cases e
            exact next.trans (.ite (.setFlag _ _ _ fun hg => by simp only [gnsReg, STM_STAT] at hg; omega) (.refl _))

end

/-! ### Robots (R163) -/

theorem RxKept.robotStat (h : Hw) (r : Nat) (f : Fld) (v : Nat) : RxKept [] h (h.setF (OBS_RBT_STAT r) f v) :=
  .setF h _ _ fun hg => by simp only [gnsReg, OBS_RBT_STAT] at hg; omega

theorem RxKept.freeBuf (h : Hw) (r b : Nat) : RxKept [] h (h.freeBuf r b) := by
  unfold Hw.freeBuf
  exact .trans (.of_regs rfl) (.robotStat _ r _ _)

theorem RxKept.robotReset (h : Hw) (r : Nat) : RxKept [] h (h.robotReset r) := by
  unfold Hw.robotReset
  refine .trans ?_ (.raise _ _ _)
  exact ((RxKept.freeBuf h r 0).trans (.freeBuf _ r 1)).trans (.trans (.robotStat _ r _ _) (.of_regs rfl))

theorem RxKept.dueResets (h : Hw) : RxKept [] h h.dueResets := by
  unfold Hw.dueResets
  refine .foldl _ _ (fun h p _ => ?_) h
  exact .ite (.robotReset h p.1) (.refl h)

end Sys2Proof.Machine
end

section
/-! SUPPORT. Calends and the Ethernet switch leave the receiver's registers: the servo and its triggers, frames through the switch (R287–R289,
R293–R300). -/

namespace Sys2Proof.Machine

open Reg Sys2Proof.Safety

/-! ### Calends (R286–R289) -/

section
variable (h : Hw)

theorem RxKept.setInc (raw : Int) : RxKept [] h (h.setInc raw) := by
  unfold Hw.setInc
  exact .trans (.of_regs rfl) (.setFlag _ _ _)

theorem RxKept.setCalState (st : Nat) : RxKept [] h (h.setCalState st) := .setF h _ _

theorem RxKept.trackUnc : RxKept [] h h.trackUnc := .setReg h _

theorem RxKept.enterTracking : RxKept [] h h.enterTracking :=
  .ite (.trackUnc h) (((RxKept.setCalState h _).trans (.trackUnc _)).trans (.raise _ _ _))

theorem RxKept.sourceLost : RxKept [] h h.sourceLost := by
  unfold Hw.sourceLost
  refine .ite (.refl h) (.trans ?_ (.raise _ _ _))
  exact ((RxKept.setInc h _).trans (.of_regs rfl)).trans (.setCalState _ _)

theorem RxKept.tsqPush (port msgType seqId : Nat) : RxKept [] h (h.tsqPush port msgType seqId) :=
  .ite ((RxKept.bump h _ _).trans (.raise _ _ _)) (.trans (.of_regs rfl) (.raise _ _ _))

end

/-! ### Triggers (R299, R300) -/

section
variable (h : Hw) (t : Nat)

theorem RxKept.trigStat (f : Fld) (v : Nat) : RxKept [] h (h.setF (CAL_TRIG_STAT t) f v) :=
  .setF h _ _ fun hg => by simp only [gnsReg, CAL_TRIG_STAT] at hg; omega

theorem RxKept.trigLateValue (v : Nat) : RxKept [] h (h.setReg64 (CAL_TRIG_LATE_LO t) v) :=
  .setReg64 h _ (by simp only [CAL_TRIG_LATE_LO]; omega)

theorem RxKept.trigTarget : RxKept [] h (h.trigTarget t) := by
  unfold Hw.trigTarget
  refine .ite (.ite (.refl h) (.of_regs rfl)) (.ite (.of_regs rfl) (.ite (.ite (.of_regs rfl) (.refl h)) (.ite (.trigLateValue h t _) ?_)))
  exact .trans (.of_regs rfl) (.trigLateValue _ t _)

theorem RxKept.trigFire : RxKept [] h (h.trigFire t) := by
  unfold Hw.trigFire
  have fired (g : Hw) : RxKept [] g (if g.trigPeriod t = 0 then g.setTrig t trigFired else g) := .ite (.trigStat g t _ _) (.refl g)
  have counted : RxKept [] h ((h.trigTarget t).countUp (CAL_TRIG_STAT t) CAL_TRIG_STAT.fires) :=
    (RxKept.trigTarget h t).trans (.ite (.refl _) (.trigStat _ t _ _))
  exact (counted.trans (fired _)).trans (.raise _ _ _)

theorem RxKept.trigMiss (n : Nat) : RxKept [] h (h.trigMiss t n) := .trigStat h t _ _

theorem RxKept.trigAdvance (n : Nat) : RxKept [] h (h.trigAdvance t n) := .of_regs rfl

/-- A trigger that is late, whatever its policy. -/
theorem RxKept.trigLate : RxKept [] h (h.trigLate t) := by
  unfold Hw.trigLate
  extract_lets past g p passed fired
  have marked : RxKept [] h g := ((RxKept.trigStat h t _ _).trans (.trigLateValue _ t _)).trans (.raise _ _ _)
  have fires : RxKept [] g fired := (RxKept.trigMiss g t passed).trans (.trigFire _ t)
  clear_value fired
  refine .ite (.refl h) (marked.trans (.ite ?_ (.ite (.trigStat g t _ _) ?_)))
  · exact .ite fires (fires.trans (.trigAdvance _ t _))
  · exact (RxKept.trigMiss g t _).trans (.trigAdvance _ t _)

theorem RxKept.trigRejudge : RxKept [] h h.trigRejudge := by
  unfold Hw.trigRejudge
  refine .foldl _ _ (fun h t _ => ?_) h
  exact .ite (.trigLate h t) (.refl h)

end

/-! ### An offset arrives (R287–R289) -/

section
variable (h : Hw)

theorem RxKept.step (off : Int) : RxKept [] h (h.step off) := by
  unfold Hw.step
  extract_lets t g w logged raised judged
  have stepped : RxKept [] h g := .of_regs rfl
  have recorded : RxKept [] g raised := (RxKept.event g _ _ _ _ _).trans (.raise _ _ _)
  have entered : RxKept [] raised judged := .ite (.setCalState _ _) (.enterTracking _)
  exact .ite (.bump h _ _) (stepped.trans (recorded.trans (entered.trans (.trigRejudge judged))))

theorem RxKept.calOffset (o : Int) : RxKept [] h (h.calOffset o) := by
  unfold Hw.calOffset
  extract_lets sat g servo sum g2 st
  have shown : RxKept [] h g := (RxKept.setFlag h _ _).trans (.setF _ _ _)
  clear_value g
  have summed : RxKept [] g (g.updCal fun c => { c with sum := sum }) := .of_regs (Hw.updCal_regs _ _)
  have steered : RxKept [] g g2 := .ite (summed.trans (.setInc _ _)) (.refl g)
  clear_value g2
  exact shown.trans (.ite (.step g _) (steered.trans (.ite (.enterTracking g2) (.refl g2))))

end

/-! ### The Ethernet switch (R293–R297) -/

section
variable (h : Hw) (p : Nat)

theorem RxKept.portErr (c s : Fld) : RxKept [] h (h.bump (ETH_PORT_ERR p) c s) :=
  .bump h _ _ fun hg => by simp only [gnsReg, ETH_PORT_ERR] at hg; omega

theorem RxKept.ethDrop : RxKept [] h (h.ethDrop p) := (RxKept.portErr h p _ _).trans (.raise _ _ _)

theorem RxKept.addOctets {lo hi : Nat} (hlo : 0xB0000 ≤ lo) (hhi : 0xB0000 ≤ hi) (n : Nat) : RxKept [] h (h.addOctets lo hi n) := by
  have high (g : Hw) (f : Fld) (v : Nat) : RxKept [] g (g.setF hi f v) := .setF g _ _ fun hg => by omega
  unfold Hw.addOctets
  dsimp only
  refine .trans ((RxKept.setReg h _ fun hg => by omega).trans (high _ _ _)) (.ite ?_ (.refl _))
  exact (high _ _ _).trans (high _ _ _)

theorem RxKept.ptpEgress (x : EthItem) : RxKept [] h (h.ptpEgress p x).1 := by
  unfold Hw.ptpEgress
  dsimp only
  split
  · split
    · exact .portErr h p _ _
    · split
      · exact .of_regs rfl
      · exact .refl h
  · split
    · split
      · exact .portErr h p _ _
      · split
        · exact .of_regs rfl
        · exact .portErr h p _ _
    · split
      · split
        · exact .refl h
        · exact .tsqPush h _ _ _
      · exact .refl h

/-- A hardware producer whose FIFO is a field of ETH_STREAMS. -/
theorem RxKept.streamSend (f : Fld) (hf : 2 ^ f.width ≤ 64) (prod : Nat) (bs : List Byte) :
    RxKept [] h (h.hwSendFree prod (h.f ETH_STREAMS f) bs).1 :=
  .hwSendFree h (Nat.lt_of_lt_of_le (Fld.get_lt _ _) hf) prod bs

theorem RxKept.ethOut (q : Nat) (x : EthItem) : RxKept [] h (h.ethOut p q x) := by
  unfold Hw.ethOut
  split
  · have left := RxKept.ptpEgress h 2 x
    split
    next g f e =>
      rw [e] at left
      have sent := RxKept.streamSend g ETH_STREAMS.rx_fifo (by decide) prodEth f
      split
      next k lost e =>
        rw [e] at sent
        exact left.trans (sent.trans (.ite (.ethDrop k 2) (.addOctets k (by decide) (by decide) _)))
  · exact .ite (.refl h) (.ite (.ethDrop h p) (.of_regs rfl))

theorem RxKept.forward (f : List Byte) (vid members : Nat) : RxKept [] h (h.forward p f vid members) := by
  unfold Hw.forward
  dsimp only
  refine .trans (.of_regs rfl) (.foldl _ _ (fun h n _ => ?_) _)
  exact .ethOut h n _ _

theorem RxKept.ethIn (f : List Byte) : RxKept [] h (h.ethIn p f) := by
  unfold Hw.ethIn
  extract_lets counted flushed stopped x vid
  have octets : RxKept [] h counted := .addOctets h (by simp only [ETH_PORT_RXO_LO]; omega) (by simp only [ETH_PORT_RXO_HI]; omega) _
  clear_value counted
  have flush : RxKept [] counted flushed := .ite (.of_regs (Hw.updEth_regs _ _)) (.refl _)
  clear_value flushed
  have stop : RxKept [] flushed stopped := .ite ((RxKept.streamSend _ _ (by decide) _ _).trans (.raise _ _ _)) (.refl _)
  clear_value stopped
  refine octets.trans (.ite (.ethDrop _ p) (.ite (.refl _) (flush.trans (stop.trans (.ite (.refl _) (.ite ?_ ?_))))))
  · exact .ite (.ethOut _ _ _ _) (.ite (.ethOut _ _ _ _) (.refl _))
  · split
    · exact .ethDrop _ p
    · exact .forward _ p f _ _

end

theorem RxKept.ethRtcm (n : Nat) (h : Hw) : RxKept [] h (Hw.ethRtcm n h) := by
  induction n generalizing h with
  | zero => exact .refl h
  | succ n ih =>
    have hf : h.f ETH_STREAMS ETH_STREAMS.rtcm_fifo < 64 := Fld.get_lt _ _
    rw [Hw.ethRtcm]
    split
    next q m g e =>
      have used (k : Hw) : RxKept [] k (k.useFree 1) := .of_regs rfl
      exact (RxKept.takePacket hf 512 e).trans ((RxKept.ethIn g 2 (g.rtcmDatagram q.octets)).trans ((used _).trans (ih _)))
    · exact .refl h

end Sys2Proof.Machine
end

section
/-! SUPPORT. A base epoch changes five status registers of the receiver beside its count: the monitor, RTCM and the record writer (R111–R123). -/

namespace Sys2Proof.Machine

open Reg Sys2Proof.Safety

/-- The receiver's registers that an epoch changes once it has been counted. -/
def epochRegs : List Nat := [GNS_STAT, GNS_TIME_OFS, GNS_ERR, GNS_IRQ_STAT, GNS_REC_STAT]

/-- Changes of the receiver's record leave its registers. -/
theorem RxKept.updGns {ks : List Nat} (h : Hw) (u : GnsSt → GnsSt) : RxKept ks h (h.updGns u) := .of_regs (Hw.updGns_regs _ _)

/-! ### The monitor (R114–R116) -/

section
variable (h : Hw)

theorem RxKept.setGch {ks : List Nat} (c : Nat) (x : GnsCh) : RxKept ks h (h.setGch c x) := .updGns h _

theorem RxKept.updAnt {ks : List Nat} (a : Nat) (u : GnsAnt → GnsAnt) : RxKept ks h (h.updAnt a u) := .updGns h _

theorem RxKept.enterObs (obs : List EpochObs) : RxKept epochRegs h (h.enterObs obs) := by
  unfold Hw.enterObs
  refine .foldl _ _ (fun h o _ => ?_) h
  exact .setGch h _ _

theorem RxKept.faultAnt (a reason : Nat) : RxKept epochRegs h (h.faultAnt a reason) :=
  .ite (.refl h) ((RxKept.updAnt h _ _).trans (.raise _ _ _))

theorem RxKept.judgeAnt (obs : List EpochObs) (a : Nat) : RxKept epochRegs h (h.judgeAnt obs a) := by
  unfold Hw.judgeAnt
  refine .ite (.refl h) (.ite (.faultAnt h _ _) ?_)
  split
  next n l =>
    extract_lets missing since g
    have entered : RxKept epochRegs h g := .updAnt h _ _
    clear_value since g
    refine entered.trans (.ite (.faultAnt g _ _) ?_)
    split
    · exact .ite (.faultAnt g _ _) (.refl g)
    · exact .refl g

theorem RxKept.recoverAnt (obs : List EpochObs) (a : Nat) : RxKept epochRegs h (h.recoverAnt obs a) :=
  .ite (.refl h) (.ite (.updAnt h _ _) (.ite (.updAnt h _ _) (.updAnt h _ _)))

theorem RxKept.moveRef : RxKept epochRegs h h.moveRef.1 := by
  have moved (g : Hw) (a : Nat) : RxKept epochRegs g ((g.setF GNS_STAT GNS_STAT.active_ref a).raise GNS_IRQ_STAT GNS_IRQ_STAT.ref_switch a) :=
    (RxKept.setF g _ _).trans (.raise _ _ _)
  have asked := RxKept.updGns (ks := epochRegs) h fun g => { g with restore := false }
  unfold Hw.moveRef
  dsimp only
  split
  · exact asked.trans (moved _ _)
  · split
    · exact asked.trans (moved _ _)
    · exact asked

theorem RxKept.epochMonitor (ms : List ObsMeas) : RxKept epochRegs h (h.epochMonitor ms).1 := by
  unfold Hw.epochMonitor
  extract_lets obs entered judged
  have entry : RxKept epochRegs h entered := .enterObs h obs
  have judging : RxKept epochRegs entered judged := .foldl _ _ (fun h a _ => .judgeAnt h obs a) _
  have moving := RxKept.moveRef judged
  clear_value entered judged
  split
  next g moved e =>
    rw [e] at moving
    refine (entry.trans (judging.trans moving)).trans (.trans (.trans ?_ (.foldl _ _ (fun h o _ => .setGch h _ _) _)) (.updGns _ _))
    exact .foldl _ _ (fun h a _ => .recoverAnt h _ a) _

end

/-! ### RTCM (R119, R120) -/

section
variable (h : Hw)

theorem RxKept.routeLanes (m : List Byte) : RxKept epochRegs h (h.routeLanes m) := by
  unfold Hw.routeLanes
  refine .foldl _ _ (fun h n _ => ?_) h
  exact .ite (.of_regs rfl) (.refl h)

theorem RxKept.dropRouteEpoch (r : Nat) : RxKept epochRegs h (h.dropRouteEpoch r) :=
  .ite (.trans (.of_regs rfl) (.bump _ _ _)) (.refl h)

theorem RxKept.routeSend (r : Nat) (m : List Byte) : RxKept epochRegs h (h.routeSend r m) :=
  (RxKept.hwSendFree h (Fld.get_lt _ _) _ m).weaken

theorem RxKept.routeEmit (gps leap : Nat) (obs : List EpochObs) (moved : Bool) (r : Nat) :
    RxKept epochRegs h (h.routeEmit gps leap obs moved r) := by
  unfold Hw.routeEmit
  refine .ite (.refl h) ?_
  split
  next ms due e =>
    have lanes (g : Hw) : RxKept epochRegs g (ms.foldl Hw.routeLanes g) := .foldl _ _ (fun h m _ => .routeLanes h m) g
    have sends (g : Hw) : RxKept epochRegs g (ms.foldl (fun h m => h.routeSend r m) g) := .foldl _ _ (fun h m _ => .routeSend h r m) g
    refine .trans (.updGns h _) (.ite (.refl _) (.ite (lanes _) ?_))
    exact ((RxKept.dropRouteEpoch _ r).trans (sends _)).trans (.updGns _ _)

theorem RxKept.rtcmEmit (gps leap : Nat) (obs : List EpochObs) (moved : Bool) : RxKept epochRegs h (h.rtcmEmit gps leap obs moved) := by
  unfold Hw.rtcmEmit
  extract_lets mine omitOn sent shown aligned emitted
  have omission : RxKept epochRegs h shown := .ite (.raise h _ _) (.refl h)
  have alignment : RxKept epochRegs shown aligned := .foldl _ _ (fun h o _ => .setGch h _ _) _
  have emission : RxKept epochRegs aligned emitted := .foldl _ _ (fun h r _ => .routeEmit h _ _ _ _ r) _
  exact omission.trans (alignment.trans (emission.trans (.updGns _ _)))

end

/-! ### The record (R121–R123) -/

section
variable (h : Hw)

/-- The record writer that parks. -/
theorem RxKept.parkWriter {ctx : Nat} (hctx : ctx < 64) (addr : Nat) (kind : Nat) : RxKept epochRegs h (h.park recUnit ctx addr true kind) := by
  intro k hk _
  refine Hw.park_reg _ _ _ _ _ _ ?_ ?_ ?_ ?_ hk.not_delivery
  · simp only [SMU_UNIT, recUnit]; omega
  · simp only [DMA_CH_STAT, recUnit]; omega
  · simp only [SMU_FAULT_STAT]; omega
  · simp only [SMU_CTX_HANDLER]; omega

theorem RxKept.recStore (addr : Nat) (bs : List Byte) : RxKept epochRegs h (h.recStore addr bs).1 := by
  have hctx : h.recCtx < 64 := Fld.get_lt _ _
  have written := RxKept.of_regs (ks := epochRegs) (h.writeCtx_regs h.recCtx addr bs)
  unfold Hw.recStore
  split
  next e => rw [e] at written; exact written
  next e => rw [e] at written; exact written.trans (.parkWriter _ (Fld.get_lt _ _) _ _)
  next e => rw [e] at written; exact written.trans (.parkWriter _ (Fld.get_lt _ _) _ _)

theorem RxKept.markBuf (j : RecJob) : RxKept epochRegs h (h.markBuf j).1 := by
  have stored := RxKept.recStore h (h.bufAddr j.index + 4) (leBytes 4 0xFFFFFFFF)
  unfold Hw.markBuf
  split
  · exact .refl h
  · split
    next g ok e =>
      rw [e] at stored
      split
      · exact stored.trans (.updGns _ _)
      · exact stored

theorem RxKept.recDrop : RxKept epochRegs h h.recDrop := ((RxKept.updGns h _).trans (.bump _ _ _)).trans (.raise _ _ _)

theorem RxKept.recStart (entries : List (List Byte)) (gps : Nat) (switch : Bool) :
    RxKept epochRegs h (h.recStart entries gps switch) :=
  .ite (.recDrop h) (((RxKept.updGns h _).trans (.setFlag _ _ _)).trans (.markBuf _ _))

theorem RxKept.setTimeOfs (o : Int) : RxKept epochRegs h (h.setTimeOfs o) := (RxKept.setF h _ _).trans (.setFlag _ _ _)

end

/-! ### The epoch (R111) -/

/-- A running receiver counts the epoch, and then changes its status registers only. -/
theorem Hw.epochLatch_kept (h : Hw) (offset : Int) (leap : Nat) (ms : List ObsMeas) (hr : h.gnsState = gnsRunning) :
    RxKept epochRegs (h.setReg GNS_EPOCH (h.reg GNS_EPOCH + 1)) (h.epochLatch offset leap ms).1 := by
  unfold Hw.epochLatch
  rw [if_neg (not_not.mpr hr)]
  extract_lets solved gps latched
  have solution : RxKept epochRegs (h.setReg GNS_EPOCH (h.reg GNS_EPOCH + 1)) solved := .setTimeOfs _ offset
  have latch : RxKept epochRegs solved latched := .updGns _ _
  have monitored := RxKept.epochMonitor latched ms
  clear_value solved latched
  split
  next g obs moved e =>
    rw [e] at monitored
    extract_lets all eqx switched emitted
    have switch : RxKept epochRegs g switched := .of_regs rfl
    have emission : RxKept epochRegs switched emitted := .rtcmEmit _ _ _ _ _
    exact (solution.trans (latch.trans monitored)).trans (switch.trans (emission.trans (.recStart _ _ _ _)))

/-- A base epoch of a running receiver, with what Ethernet and Calends take from it. -/
theorem Hw.baseEpoch_kept (h : Hw) (offset : Int) (leap : Nat) (ms : List ObsMeas) (hr : h.gnsState = gnsRunning) :
    RxKept epochRegs (h.setReg GNS_EPOCH (h.reg GNS_EPOCH + 1)) (h.baseEpoch offset leap ms).1 := by
  have latched := h.epochLatch_kept offset leap ms hr
  unfold Hw.baseEpoch
  split
  next g done e =>
    rw [e] at latched
    split
    · exact latched
    · extract_lets sent
      have datagrams : RxKept epochRegs g sent := .ite (RxKept.ethRtcm 64 g).weaken (.refl g)
      exact latched.trans (datagrams.trans (.ite (RxKept.calOffset sent offset).weaken (.refl sent)))

end Sys2Proof.Machine
end

section
/-! SUPPORT. What the receiver makes of its channels, searches and record: the end of all of them, a restart, a record that completes (R104, R109,
R122). -/

namespace Sys2Proof.Machine

open Reg Sys2Proof.Safety

/-! ### Channels and searches settle (R107, R109) -/

/-- The status registers of the searches. -/
def acqRegs : List Nat := (List.range 32).map GNS_ACQ_STAT

theorem acqStat_mem_acqRegs {n : Nat} (hn : n ∈ List.range 32) : GNS_ACQ_STAT n ∈ acqRegs := List.mem_map_of_mem hn

section
variable (h : Hw)

theorem RxKept.allocate (ant sig sv k : Nat) : RxKept acqRegs h (h.allocate ant sig sv k) := by
  unfold Hw.allocate
  refine .ite (.refl h) ?_
  split
  · exact .setGch h _ _
  · split
    · exact .ite (.setGch h _ _) (.refl h)
    · exact .refl h

theorem RxKept.handOff : RxKept acqRegs h h.handOff := by
  unfold Hw.handOff
  refine .foldl _ _ (fun h w _ => ?_) h
  exact .allocate h _ _ _ _

theorem RxKept.queueTriple (q : AcqReq) : RxKept acqRegs h (h.queueTriple q) := .ite (.refl h) (.updGns h _)

theorem RxKept.schedule : RxKept acqRegs h h.schedule := by
  unfold Hw.schedule
  refine .foldl _ _ (fun h p _ => .ite (.refl h) (.foldl _ _ (fun h a _ => ?_) h)) h
  split
  · exact .queueTriple h _
  · exact .refl h

theorem RxKept.fillSearches : RxKept acqRegs h h.fillSearches := by
  unfold Hw.fillSearches
  refine .ite (.refl h) (.foldl _ _ (fun h n hn => .ite (.refl h) ?_) h)
  split
  · exact .refl h
  · exact (RxKept.updGns h _).trans (.setReg _ _ fun _ => acqStat_mem_acqRegs hn)

theorem RxKept.gnsSettle : RxKept acqRegs h h.gnsSettle :=
  .ite (((RxKept.handOff h).trans (.schedule _)).trans (.fillSearches _)) (.refl h)

end

/-! ### The receiver ends and starts (R104) -/

theorem gnsReg_stat : gnsReg GNS_STAT ∧ GNS_STAT ∉ acqRegs := by decide

theorem Hw.sourceLost_gns (h : Hw) : h.sourceLost.gns = h.gns := by
  unfold Hw.sourceLost
  split
  · rfl
  · rw [Hw.raise_gns]
    rfl

section
variable (h : Hw) (st : Nat)

/-- The status registers of all searches are cleared. -/
def Hw.acqCleared : Hw := (List.range 32).foldl (fun h n => h.setReg (GNS_ACQ_STAT n) 0) h

theorem RxKept.acqCleared : RxKept acqRegs h h.acqCleared :=
  .foldl _ _ (fun h _ hn => .setReg h _ fun _ => acqStat_mem_acqRegs hn) h

theorem Hw.acqCleared_gns : h.acqCleared.gns = h.gns := by
  unfold Hw.acqCleared
  generalize List.range 32 = l
  induction l generalizing h with
  | nil => rfl
  | cons n l ih => rw [List.foldl_cons, ih, Hw.setReg_gns]

/-- With the receiver's end no channel is left in use, no triple waits, and nothing is searched for. -/
theorem Hw.gnsEnd_gns : (h.gnsEnd st).gns =
    { h.gns with chs := h.gns.chs.filter (fun p => decide (p.2.phase = .retired)), queue := [], searches := [] } := by
  have source (g : Hw) : g.gnsSourceLost.gns = g.gns := by
    unfold Hw.gnsSourceLost
    split
    · exact g.sourceLost_gns
    · rfl
  unfold Hw.gnsEnd
  rw [source, Hw.setFlag_gns, Hw.setF_gns]
  exact Hw.acqCleared_gns _

/-- The receiver's end changes the state in GNS_STAT. -/
theorem Hw.gnsEnd_stat : (h.gnsEnd st).reg GNS_STAT = GNS_STAT.state.set (h.reg GNS_STAT) st := by
  obtain ⟨window, notAcq⟩ := gnsReg_stat
  have source (g : Hw) : RxKept [] g g.gnsSourceLost := .ite (.sourceLost g) (.refl g)
  have freed (u : GnsSt → GnsSt) : (h.updGns u).acqCleared.reg GNS_STAT = h.reg GNS_STAT := RxKept.acqCleared _ _ window notAcq
  unfold Hw.gnsEnd
  rw [source _ _ window List.not_mem_nil, Hw.reg_setFlag_other _ _ _ _ _ (by decide), Hw.reg_setF_same]
  exact congrArg (GNS_STAT.state.set · st) (freed _)

theorem Hw.gnsStart_stat : h.gnsStart.reg GNS_STAT = GNS_STAT.state.set (h.reg GNS_STAT) gnsSearching := by
  obtain ⟨window, notAcq⟩ := gnsReg_stat
  rw [Hw.gnsStart, RxKept.gnsSettle _ _ window notAcq, Hw.reg_setF_same]

end

/-! ### A record completes (R122) -/

/-- The writer is free, and shows and announces the record it has completed. -/
def Hw.recordShown (h : Hw) (j : RecJob) : Hw :=
  ((((h.updGns fun g => { g with job := none }).unitNormal recUnit).setReg GNS_REC_STAT
    (GNS_REC_STAT.last_index.set (GNS_REC_STAT.last_epoch.set 0 (j.epoch % 65536)) j.index)).raise GNS_IRQ_STAT GNS_IRQ_STAT.epoch 0).notice
      GNS_REC_NOTICE

/-- A record that completes is shown on the device that holds its octets. -/
theorem Hw.recComplete_shown {h : Hw} {j : RecJob} : h.recComplete.2 = some j → ∃ g : Hw, h.recComplete.1 = g.recordShown j := by
  unfold Hw.recComplete
  split
  · exact fun e => nomatch e
  · dsimp only
    split
    · exact fun e => nomatch e
    · split
      · exact fun e => nomatch e
      · split
        · exact fun e => nomatch e
        · split
          · exact fun e => nomatch e
          · exact fun e => Option.some.inj e ▸ ⟨_, rfl⟩

section
variable (h : Hw) (j : RecJob)

theorem Hw.recordShown_job : (h.recordShown j).gns.job = none := by
  rw [Hw.recordShown, Hw.notice_gns, Hw.raise_gns]
  rfl

theorem Hw.recordShown_recStat (l : Fld) : (h.recordShown j).f GNS_REC_STAT l =
    l.get (GNS_REC_STAT.last_index.set (GNS_REC_STAT.last_epoch.set 0 (j.epoch % 65536)) j.index) := by
  rw [Hw.recordShown, Hw.notice_f _ _ _ _ (by decide) (by decide), Hw.raise_f _ _ _ _ _ _ (by decide) (by decide), Hw.f_setReg_same]

theorem Hw.recordShown_epoch : (h.recordShown j).flag GNS_IRQ_STAT GNS_IRQ_STAT.epoch = true := by
  rw [Hw.recordShown, Hw.flag, Hw.notice_f _ _ _ _ (by decide) (by decide)]
  exact Hw.raise_flag _ _ _ _ (by decide) (by decide) (by decide)

/-! ### FIX takes the record (R157) -/

theorem Hw.mirror_gns (i : MirrorItem) : (h.mirror i).gns = h.gns := by
  unfold Hw.mirror
  split <;> rfl

theorem Hw.mirror_regs (i : MirrorItem) : (h.mirror i).regs = h.regs := by
  unfold Hw.mirror
  split <;> rfl

theorem Hw.settleHolds_gns : h.settleHolds.gns = h.gns := rfl

theorem RxKept.settleHolds : RxKept [GNS_REC_HOLD] h h.settleHolds := by
  unfold Hw.settleHolds
  exact .trans (.of_regs (Hw.updFix_regs _ _)) (.setF _ _ _)

theorem Hw.takeRecord_gns : (h.takeRecord j).gns = h.gns := by
  unfold Hw.takeRecord
  extract_lets gps grid switch g base used hold held kept
  have start : g.gns = h.gns := by
    unfold g
    split <;> rfl
  clear_value g
  split
  · exact start
  · split
    · exact start
    · rw [Hw.mirror_gns]
      exact start

theorem RxKept.takeRecord : RxKept [GNS_REC_HOLD] h (h.takeRecord j) := by
  unfold Hw.takeRecord
  extract_lets gps grid switch g base used hold held kept
  have start : RxKept [GNS_REC_HOLD] h g := .ite (.of_regs (Hw.updFix_regs _ _)) (.refl h)
  have use : RxKept [GNS_REC_HOLD] g used := .of_regs (Hw.updFix_regs _ _)
  have hold : RxKept [GNS_REC_HOLD] used held := .setF used _ _
  have keep : RxKept [GNS_REC_HOLD] held kept := .of_regs (Hw.updFix_regs _ _)
  refine start.trans (.ite (.refl g) (use.trans (.ite (.refl used) (hold.trans (keep.trans ?_)))))
  exact (RxKept.settleHolds kept).trans (.of_regs (Hw.mirror_regs _ _))

end

end Sys2Proof.Machine
end

section
/-! PROOFS. Band links, the reference clock, time solutions, epochs and records complete (R103, R104, R111, R116, R122), and O13 is settled. -/

namespace Sys2Proof.Machine

open Reg Sys2Proof.Safety

/-! ### Band links (R103) -/

theorem Hw.setLink_link (h : Hw) (a b st : Nat) : (h.setLink a b st).f (GNS_BAND_STAT a b) GNS_BAND_STAT.link = st % 4 :=
  Hw.f_setF_same _ _ _ _ (by decide)

theorem bandLock_completes (s : State) (ant : Fin 4) (band : Fin 3) : Completes (.bandLock ant band) s fun h =>
    h.f (GNS_BAND_STAT ant.val band.val) GNS_BAND_STAT.link = linkLocked :=
  completes_of_run (e := fun h => h.setLink ant.val band.val linkLocked) rfl (Hw.setLink_link _ _ _ _)

theorem frameError_completes (s : State) (ant : Fin 4) (band : Fin 3)
    (hlt : s.hw.f (GNS_BAND_STAT ant.val band.val) GNS_BAND_STAT.frame_err < GNS_BAND_STAT.frame_err.max) :
    Completes (.frameError ant band) s fun h =>
      h.f (GNS_BAND_STAT ant.val band.val) GNS_BAND_STAT.link = linkTraining ∧
      h.f (GNS_BAND_STAT ant.val band.val) GNS_BAND_STAT.frame_err =
        s.hw.f (GNS_BAND_STAT ant.val band.val) GNS_BAND_STAT.frame_err + 1 := by
  refine completes_of_run (e := fun h => (h.bump (GNS_BAND_STAT ant.val band.val) GNS_BAND_STAT.frame_err
    GNS_BAND_STAT.frame_sat).setLink ant.val band.val linkTraining) rfl ⟨Hw.setLink_link _ _ _ _, ?_⟩
  rw [Hw.setLink, Hw.f_setF_apart _ _ _ _ _ (by decide) (by decide)]
  exact Hw.f_bump_lt (cleared s.hw) _ _ _ (by decide) hlt

theorem bandStat_apart : ∀ (ant : Fin 4) (band : Fin 3), GNS_BAND_STAT ant.val band.val ≠ GNS_IRQ_STAT ∧
    GNS_BAND_STAT ant.val band.val ∉ logRegs := by decide

theorem bandLinkError_completes (s : State) (ant : Fin 4) (band : Fin 3) : Completes (.bandLinkError ant band) s fun h =>
    h.f (GNS_BAND_STAT ant.val band.val) GNS_BAND_STAT.link = linkError ∧ h.flag GNS_IRQ_STAT GNS_IRQ_STAT.port_fault = true := by
  obtain ⟨notIrq, notLog⟩ := bandStat_apart ant band
  refine completes_of_run (e := fun h => (h.setLink ant.val band.val linkError).raise GNS_IRQ_STAT GNS_IRQ_STAT.port_fault ant.val) rfl
    ⟨?_, Hw.raise_flag _ _ _ _ (by decide) (by decide) (by decide)⟩
  rw [Hw.raise_f _ _ _ _ _ _ notIrq notLog]
  exact Hw.setLink_link _ _ _ _

/-! ### The reference clock (R104) -/

theorem gnssRefLost_completes (s : State) : Completes .gnssRefLost s fun h =>
    h.f GNS_STAT GNS_STAT.clk_state = 2 ∧ h.gnsState = gnsHalted ∧ h.gns.queue = [] ∧ h.gns.searches = [] ∧
    (∀ p ∈ h.gns.chs, p.2.phase = .retired) ∧ h.flag GNS_IRQ_STAT GNS_IRQ_STAT.clk_lost = true := by
  have stat (g : Hw) (l : Fld) : ((g.gnsEnd gnsHalted).raise GNS_IRQ_STAT GNS_IRQ_STAT.clk_lost 0).f GNS_STAT l =
      l.get (GNS_STAT.state.set (g.reg GNS_STAT) gnsHalted) := by
    rw [Hw.raise_f _ _ _ _ _ _ (by decide) (by decide), Hw.f, Hw.gnsEnd_stat]
  refine completes_of_run (e := fun h => ((h.setF GNS_STAT GNS_STAT.clk_state 2).gnsEnd gnsHalted).raise GNS_IRQ_STAT GNS_IRQ_STAT.clk_lost 0)
    rfl ⟨?_, ?_, ?_, ?_, ?_, Hw.raise_flag _ _ _ _ (by decide) (by decide) (by decide)⟩
  · rw [stat, Fld.get_set_other _ _ _ _ (by decide) (by decide)]
    exact Hw.f_setF_same _ _ _ _ (by decide)
  · rw [Hw.gnsState, stat]
    exact Fld.get_set_same _ _ _ (by decide)
  · rw [Hw.raise_gns, Hw.gnsEnd_gns]
  · rw [Hw.raise_gns, Hw.gnsEnd_gns]
  · rw [Hw.raise_gns, Hw.gnsEnd_gns]
    exact fun p hp => of_decide_eq_true (List.mem_filter.mp hp).2

/-- The domain's clock comes from the reference again. -/
def Hw.clockBack (h : Hw) : Hw := h.setF GNS_STAT GNS_STAT.clk_state 1

section
variable (h : Hw)

theorem Hw.clockBack_gnsState : h.clockBack.gnsState = h.gnsState := Hw.f_setF_apart _ _ _ _ _ (by decide) (by decide)

theorem Hw.clockBack_enable : h.clockBack.flag GNS_CFG GNS_CFG.enable = h.flag GNS_CFG GNS_CFG.enable :=
  congrArg (· != 0) (Hw.f_setF_other h GNS_STAT GNS_CFG GNS_STAT.clk_state GNS_CFG.enable 1 (by decide))

/-- A state stored beside it leaves the clock's source. -/
theorem Hw.clockBack_clk (st : Nat) : GNS_STAT.clk_state.get (GNS_STAT.state.set (h.clockBack.reg GNS_STAT) st) = 1 := by
  rw [Fld.get_set_other _ _ _ _ (by decide) (by decide)]
  exact Hw.f_setF_same _ _ _ _ (by decide)

end

/-- A halted receiver's restart. -/
theorem exec_gnssRefRestored (s : State) (hh : s.hw.gnsState = gnsHalted) : exec .gnssRefRestored s = run s fun h =>
    if h.clockBack.flag GNS_CFG GNS_CFG.enable then h.clockBack.gnsStart else h.clockBack.setF GNS_STAT GNS_STAT.state gnsOff := by
  have halted : (cleared s.hw).clockBack.gnsState = gnsHalted := (Hw.clockBack_gnsState _).trans hh
  change execGnssRefRestored s = _
  exact run_congr (if_pos halted)

theorem gnssRefRestored_completes (s : State) (hh : s.hw.gnsState = gnsHalted) : Completes .gnssRefRestored s fun h =>
    h.f GNS_STAT GNS_STAT.clk_state = 1 ∧
    h.gnsState = if s.hw.flag GNS_CFG GNS_CFG.enable then gnsSearching else gnsOff := by
  have enable : (cleared s.hw).clockBack.flag GNS_CFG GNS_CFG.enable = s.hw.flag GNS_CFG GNS_CFG.enable := Hw.clockBack_enable _
  refine completes_of_run (exec_gnssRefRestored s hh) ?_
  rw [enable]
  split
  · rw [Hw.gnsState, Hw.f, Hw.f, Hw.gnsStart_stat]
    exact ⟨Hw.clockBack_clk _ _, Fld.get_set_same _ _ _ (by decide)⟩
  · rw [Hw.gnsState, Hw.f, Hw.f, Hw.reg_setF_same]
    exact ⟨Hw.clockBack_clk _ _, Fld.get_set_same _ _ _ (by decide)⟩

/-! ### Time solutions and the reference antenna (R111, R116) -/

theorem ofInt_lt (w : Nat) (i : Int) : ofInt w i < 2 ^ w :=
  (Int.toNat_lt' (Nat.two_pow_pos w)).mpr (Int.emod_lt_of_pos i (Int.natCast_pos.mpr (Nat.two_pow_pos w)))

theorem timeSolution_completes (s : State) (offset : Int) (hs : s.hw.gnsState = gnsSearching) :
    Completes (.timeSolution offset) s fun h =>
      h.gnsState = gnsRunning ∧ h.flag GNS_TIME_OFS GNS_TIME_OFS.valid = true ∧
      h.f GNS_TIME_OFS GNS_TIME_OFS.offset = ofInt 31 (max (-1073741823) (min 1073741823 offset)) := by
  refine completes_of_run (e := fun h =>
    if h.gnsState = gnsSearching then (h.setTimeOfs offset).setF GNS_STAT GNS_STAT.state gnsRunning else h) rfl ?_
  rw [if_pos (show (cleared s.hw).gnsState = gnsSearching from hs)]
  refine ⟨Hw.f_setF_same _ _ _ _ (by decide), ?_, ?_⟩
  · rw [Hw.flag, Hw.f_setF_other _ _ _ _ _ _ (by decide)]
    exact Hw.flag_setFlag_same _ _ _ _ (by decide) (by decide)
  · rw [Hw.f_setF_other _ _ _ _ _ _ (by decide), Hw.setTimeOfs, Hw.f_setFlag_apart _ _ _ _ _ (by decide) (by decide),
      Hw.f_setF_same _ _ _ _ (by decide)]
    exact Nat.mod_eq_of_lt (ofInt_lt 31 _)

/-- An antenna's state stands while the receiver's record and the registers of antennas and bands do. -/
theorem Hw.antUp_eq {h g : Hw} (hg : g.gns = h.gns) (kept : ∀ k, 0xA0100 ≤ k → k < 0xA0200 → g.reg k = h.reg k) {a : Nat} (ha : a < 4) :
    g.antUp a = h.antUp a := by
  have cap : g.quota a = h.quota a := by
    rw [Hw.quota, Hw.f, kept _ (by simp only [GNS_ANT_CFG]; omega) (by simp only [GNS_ANT_CFG]; omega), ← Hw.f, ← Hw.quota]
  have record : g.gant a = h.gant a := by rw [Hw.gant, hg, Hw.gant]
  have links (st : Nat) : g.anyLink a st = h.anyLink a st := by
    have cfg (b : Nat) (hb : b < 3) : g.reg (GNS_BAND_CFG a b) = h.reg (GNS_BAND_CFG a b) :=
      kept _ (by simp only [GNS_BAND_CFG]; omega) (by simp only [GNS_BAND_CFG]; omega)
    have stat (b : Nat) (hb : b < 3) : g.reg (GNS_BAND_STAT a b) = h.reg (GNS_BAND_STAT a b) :=
      kept _ (by simp only [GNS_BAND_STAT]; omega) (by simp only [GNS_BAND_STAT]; omega)
    rw [Hw.anyLink, Hw.anyLink, Bool.eq_iff_iff, List.any_eq_true, List.any_eq_true]
    refine exists_congr fun b => and_congr_right fun hb => ?_
    rw [Hw.flag, Hw.f, Hw.f, cfg b (List.mem_range.mp hb), stat b (List.mem_range.mp hb), ← Hw.f, ← Hw.f, ← Hw.flag]
  rw [Hw.antUp, Hw.antState, cap, record, links, ← Hw.antState, ← Hw.antUp]

theorem gnsCtrl_single : ∀ r ∈ regFind GNS_CTRL, r.lowWord = false := by decide +kernel

theorem Committed.rxKept {h g : Hw} {k : Nat} (c : Committed h g k) : RxKept [k, k - 4] h g := fun j hj hn => by
  simp only [List.mem_cons, List.not_mem_nil, or_false, not_or] at hn
  exact c.regs j (not_mem_writtenRegs hn.1 hn.2 (by omega))

theorem Committed.gns_eq {h g : Hw} {k : Nat} (c : Committed h g k) : g.gns = h.gns := (congrArg Hw.gns c.parts).trans rfl

theorem referenceRestore_completes (s : State) (via : BusAcc) (hp : Permitted s.hw via GNS_CTRL)
    (hup : s.hw.antUp (s.hw.f GNS_CFG GNS_CFG.ref_ant) = true) :
    Completes (.referenceRestore via) s fun h => h.gns.restore = true := by
  refine completes_of_regWrite (eff := fun _ h => h.restoreWritten) rfl hp gnsCtrl_single fun low g w => ?_
  have kept := w.rxKept
  have ref : g.f GNS_CFG GNS_CFG.ref_ant = s.hw.f GNS_CFG GNS_CFG.ref_ant := kept.f_eq (by decide) (by decide) _
  have antennas (k : Nat) (h1 : 0xA0100 ≤ k) (h2 : k < 0xA0200) : g.reg k = (cleared s.hw).reg k :=
    kept k (by omega) (by simp only [GNS_CTRL, List.mem_cons, List.not_mem_nil, or_false]; omega)
  have up : g.antUp (g.f GNS_CFG GNS_CFG.ref_ant) = true := by
    rw [Hw.antUp_eq w.gns_eq antennas (Fld.get_lt _ _), ref]
    exact hup
  rw [Hw.restoreWritten, if_pos up]
  rfl

/-! ### Epochs and records (R111, R122) -/

theorem exec_epochLatch (s : State) (offset : Int) (leap : BitVec 8) (ms : List ObsMeas) :
    exec (.epochLatch offset leap ms) s = run s fun h =>
      let r := h.baseEpoch offset leap.toNat ms
      if r.2 && r.1.onGrid then r.1.dueResets else r.1 := rfl

theorem epochLatch_completes (s : State) (offset : Int) (leap : BitVec 8) (ms : List ObsMeas) (hr : s.hw.gnsState = gnsRunning) :
    Completes (.epochLatch offset leap ms) s fun h => h.reg GNS_EPOCH = s.hw.reg GNS_EPOCH + 1 := by
  have latched := Hw.baseEpoch_kept (cleared s.hw) offset leap.toNat ms hr
  have reset (g : Hw) (due : Bool) : RxKept [] g (if due then g.dueResets else g) := .ite (.dueResets g) (.refl g)
  refine completes_of_run (exec_epochLatch s offset leap ms) ?_
  rw [reset _ _ _ (by decide) (by decide), latched _ (by decide) (by decide)]
  exact Hw.reg_setReg_same _ _ _

theorem exec_recordComplete (s : State) {g : Hw} {j : RecJob} (e : (cleared s.hw).recComplete = (g, some j)) :
    exec .recordComplete s = .next { s with hw := g.takeRecord j } := by
  unfold cleared at e
  change execRecordComplete s = _
  rw [execRecordComplete, run, e]

theorem recordComplete_completes (s : State) (j : RecJob) (hj : (cleared s.hw).recComplete.2 = some j) :
    Completes .recordComplete s fun h =>
      h.gns.job = none ∧ h.flag GNS_REC_STAT GNS_REC_STAT.writing = false ∧
      h.f GNS_REC_STAT GNS_REC_STAT.last_epoch = j.epoch % 65536 ∧ h.flag GNS_IRQ_STAT GNS_IRQ_STAT.epoch = true := by
  obtain ⟨g, hg⟩ := Hw.recComplete_shown hj
  have taken := exec_recordComplete s (g := g.recordShown j) (Prod.ext hg hj)
  have kept := RxKept.takeRecord (g.recordShown j) j
  refine ⟨_, taken, rfl, ?_, ?_, ?_, ?_⟩
  · exact (congrArg GnsSt.job (Hw.takeRecord_gns _ _)).trans (Hw.recordShown_job g j)
  · rw [kept.flag_eq (by decide) (by decide), Hw.flag, Hw.recordShown_recStat]
    rw [Fld.get_set_other _ _ _ _ (by decide) (by decide), Fld.get_set_other _ _ _ _ (by decide) (by decide)]
    rfl
  · rw [kept.f_eq (by decide) (by decide), Hw.recordShown_recStat, Fld.get_set_other _ _ _ _ (by decide) (by decide),
      Fld.get_set_same _ _ _ (by decide)]
    exact Nat.mod_mod _ _
  · rw [kept.flag_eq (by decide) (by decide)]
    exact g.recordShown_epoch j

/-- Settles O13: each command of the links and the reference completes as its own theorem says. -/
theorem gnssLinkCommandsComplete : Obligations.GnssLinkCommandsComplete :=
  ⟨bandLock_completes, frameError_completes, bandLinkError_completes, gnssRefLost_completes, gnssRefRestored_completes,
    timeSolution_completes, referenceRestore_completes, epochLatch_completes, recordComplete_completes⟩

end Sys2Proof.Machine
end

section
/-! PROOFS. A search that finds starts its channel on each of the device's four antennas (R107–R109); a request in a slot that names an antenna
the device does not have refutes O14. -/

namespace Sys2Proof.Machine

open Reg Sys2Proof.Safety

/-! ### A search that finds, on antennas 0 to 3 (R107–R109) -/

theorem bandOf_lt (sig : Nat) : bandOf sig < 3 := by
  by_cases hs : sig < 15
  · exact (by decide : ∀ i : Fin 15, bandOf i.val < 3) ⟨sig, hs⟩
  · rw [bandOf, List.getD_eq_default _ _ (Nat.not_lt.mp hs)]
    decide

theorem acqRegs_ge {k : Nat} (hk : k ∈ acqRegs) : 0xA2000 ≤ k := by
  obtain ⟨n, -, rfl⟩ := List.mem_map.mp hk
  simp only [GNS_ACQ_STAT]
  omega

section
variable {h g : Hw} (kept : RxKept acqRegs h g) {ant : Nat} (ha : ant < 4)
include kept ha

/-- What a search's status leaves of an antenna's bands. -/
theorem RxKept.fitsBand_eq (sig k : Nat) : g.fitsBand ant sig k = h.fitsBand ant sig k := by
  have hb := bandOf_lt sig
  have band (l : Fld) : g.f (GNS_BAND_CFG ant (bandOf sig)) l = h.f (GNS_BAND_CFG ant (bandOf sig)) l := by
    refine kept.f_eq ⟨?_, ?_⟩ (fun hm => absurd (acqRegs_ge hm) ?_) l <;> simp only [GNS_BAND_CFG] <;> omega
  simp only [Hw.fitsBand, Hw.flag, band]

theorem RxKept.quota_eq : g.quota ant = h.quota ant := by
  refine kept.f_eq ⟨?_, ?_⟩ (fun hm => absurd (acqRegs_ge hm) ?_) _ <;> simp only [GNS_ANT_CFG] <;> omega

end

/-- A demand that fits its band and its antenna's cap takes the lowest free channel (R107). -/
theorem Hw.allocate_free {h : Hw} {ant sig sv k c : Nat} (fits : h.fitsBand ant sig k = true)
    (room : (h.usedChs.filter fun p => decide (p.2.ant = ant)).length < h.quota ant) (free : h.freeChan = some c) :
    h.allocate ant sig sv k = h.setGch c { (default : GnsCh) with phase := .pullIn, ant := ant, sig := sig, sv := sv, k := k } := by
  have may : ¬ (¬ h.fitsBand ant sig k ∨ (h.usedChs.filter fun p => decide (p.2.ant = ant)).length ≥ h.quota ant) :=
    not_or.mpr ⟨not_not.mpr fits, Nat.not_le.mpr room⟩
  unfold Hw.allocate
  rw [if_neg may, free]

theorem RxKept.endSearch (h : Hw) (slot : Fin 32) (since st : Nat) : RxKept acqRegs h (h.endSearch slot.val since st) := by
  have status (g : Hw) (f : Fld) (v : Nat) : RxKept acqRegs g (g.setF (GNS_ACQ_STAT slot.val) f v) :=
    .setF g _ _ fun _ => acqStat_mem_acqRegs (List.mem_range.mpr slot.isLt)
  unfold Hw.endSearch
  exact ((RxKept.updGns h _).trans (status _ _ _)).trans (status _ _ _)

/-- A search on one of the device's antennas that finds starts the lowest free channel in pull-in (R108). -/
theorem searchFound_completes (s : State) (slot : Fin 32) (k : Fin 16) (q : AcqReq) (since c : Nat) (ha : q.ant < 4)
    (hslot : s.hw.gns.searches.at slot.val = some (q, since))
    (fits : s.hw.fitsBand q.ant q.sig (if conOf q.sig = 3 then k.val else 15) = true)
    (room : (s.hw.usedChs.filter fun p => decide (p.2.ant = q.ant)).length < s.hw.quota q.ant) (free : s.hw.freeChan = some c) :
    Completes (.searchFound slot k) s fun h =>
      h = (((cleared s.hw).endSearch slot.val since 2).setGch c { (default : GnsCh) with
        phase := .pullIn, ant := q.ant, sig := q.sig, sv := q.sv, k := if conOf q.sig = 3 then k.val else 15 }).gnsSettle := by
  have kept := RxKept.endSearch (cleared s.hw) slot since 2
  refine completes_of_run (e := fun h => h.searchFound slot.val k.val) rfl ?_
  rw [Hw.searchFound, show (cleared s.hw).gns.searches.at slot.val = some (q, since) from hslot]
  dsimp only
  rw [Hw.allocate_free ((kept.fitsBand_eq ha _ _).trans fits) (room.trans_eq (kept.quota_eq ha).symm) free]

/-! ### A search on an antenna that the device does not have -/

/-- A receiver that is off, with a search in slot 9 for GPS 5 on antenna 124. The device has antennas 0 to 3; where the map would have band 0 of
antenna 124 stands the status of slot 9 (`bandCfg_stray`), and it holds an enable bit and an LO that the L1 carrier just fits (R105). -/
def straySearch : Hw :=
  (((Hw.reset.setF (GNS_ANT_CFG 124) GNS_ANT_CFG.quota 1).setFlag (GNS_BAND_CFG 124 0) GNS_BAND_CFG.enable true).setF (GNS_BAND_CFG 124 0)
    GNS_BAND_CFG.lo 154268400).updGns fun g => { g with searches := [(9, some (⟨124, 0, 5, none, false⟩, 0))] }

theorem bandCfg_stray : GNS_BAND_CFG 124 0 = GNS_ACQ_STAT 9 := rfl

/-- The search meets what the statement asks of a search that finds a free channel. -/
theorem straySearch_may_find : straySearch.gns.searches.at 9 = some (⟨124, 0, 5, none, false⟩, 0) ∧ straySearch.fitsBand 124 0 15 = true ∧
    (straySearch.usedChs.filter fun p => decide (p.2.ant = 124)).length < straySearch.quota 124 ∧ straySearch.freeChan = some 0 := by
  decide +kernel

/-- The end of the search writes its status, and with it the LO: the carrier no longer fits, and no channel starts. -/
theorem straySearch_no_channel : (((cleared straySearch).searchFound 9 0).gch 0).phase = .idle := by decide +kernel

/-- What the statement asks: channel 0 in pull-in after the end of the search. -/
theorem straySearch_channel_asked : (((((cleared straySearch).endSearch 9 0 2).setGch 0 { (default : GnsCh) with
    phase := .pullIn, ant := 124, sig := 0, sv := 5, k := 15 }).gnsSettle).gch 0).phase = .pullIn := by decide +kernel

/-- Refutes O14: its clause on SEARCH_FOUND bounds the antenna of the request by nothing, and the search of `straySearch`, on antenna 124, finds
without starting a channel. On antennas 0 to 3 the clause holds (`searchFound_completes`). -/
theorem not_gnssChannelCommandsComplete : ¬ Obligations.GnssChannelCommandsComplete := by
  intro ⟨_, searchFound, _⟩
  obtain ⟨slot, fits, room, free⟩ := straySearch_may_find
  obtain ⟨t, ht, -, asked⟩ := searchFound ⟨straySearch, []⟩ 9 0 ⟨124, 0, 5, none, false⟩ 0 0 slot fits room free
  have found : t.hw = (cleared straySearch).searchFound 9 0 := by
    cases ht
    rfl
  have idle := straySearch_no_channel
  rw [← found, asked] at idle
  exact absurd (straySearch_channel_asked.symm.trans idle) (by decide)

end Sys2Proof.Machine
end

section
/-! PROOFS. The blocks' answers to a sleep request (R380, R381), and O57 is settled. -/

namespace Sys2Proof.Machine

open Reg Sys2Proof.Safety

/-! ### A request rolled back (R381) -/

section
variable (h : Hw) (reason block : Nat)

theorem Hw.rollback_pwr : (h.rollback reason block).pwr = { h.pwr with stopped := [], step := 0, final := false } := by
  simp only [Hw.rollback, Hw.raise_pwr, Hw.bump_pwr, Hw.setF_pwr, Hw.updPwr_pwr]

theorem Hw.rollback_reason (hr : reason < 32) : (h.rollback reason block).f PWR_STAT PWR_STAT.reason = reason := by
  rw [Hw.rollback, Hw.raise_f _ _ _ _ _ _ (by decide) (by decide), Hw.f_bump_other _ _ _ _ _ _ (by decide),
    Hw.f_setF_apart _ _ _ _ _ (by decide) (by decide), Hw.f_setF_same _ _ _ _ (by decide)]
  exact Nat.mod_eq_of_lt hr

theorem Hw.retryOrFail_pwr : h.retryOrFail.pwr = h.pwr := by
  unfold Hw.retryOrFail
  split
  · rfl
  · exact Hw.raise_pwr _ _ _ _

theorem Hw.retryOrFail_reason : h.retryOrFail.f PWR_STAT PWR_STAT.reason = h.f PWR_STAT PWR_STAT.reason := by
  have ended (g : Hw) (st result : Nat) :
      ((g.setPwrState st).setF PWR_STAT PWR_STAT.result result).f PWR_STAT PWR_STAT.reason = g.f PWR_STAT PWR_STAT.reason := by
    rw [Hw.f_setF_apart _ _ _ _ _ (by decide) (by decide), Hw.setPwrState, Hw.f_setF_apart _ _ _ _ _ (by decide) (by decide)]
  unfold Hw.retryOrFail
  split
  · exact ended _ _ _
  · rw [Hw.raise_f _ _ _ _ _ _ (by decide) (by decide), Hw.endRequest, ended]

/-- A block agrees at one of the steps before the last: its windows stop, and the next step is asked. -/
theorem Hw.agree_pwr (hn : h.pwr.step < 22) :
    h.agree.pwr.stopped = h.pwr.stopped ++ stepWindows h.pwr.step ∧ h.agree.pwr.step = h.pwr.step + 1 := by
  simp only [Hw.agree, if_pos hn]
  exact ⟨rfl, rfl⟩

end

/-! ### The block asked refuses or agrees (R380) -/

/-- At step `n` the block asked refuses with `reason` exactly while `cond` holds. -/
def Hw.RefusesWhile (h : Hw) (ok : Bool) (n reason : Nat) (cond : Prop) : Prop :=
  (cond → h.refusal ok n = some reason) ∧ (¬cond → h.refusal ok n = none)

theorem Hw.RefusesWhile.of_ite {h : Hw} {ok : Bool} {n reason : Nat} {p cond : Prop} [Decidable p]
    (e : h.refusal ok n = if p then some reason else none) (hp : p ↔ cond) : h.RefusesWhile ok n reason cond :=
  ⟨fun hc => e.trans (if_pos (hp.mpr hc)), fun hc => e.trans (if_neg fun x => hc (hp.mp x))⟩

theorem Hw.RefusesWhile.of_ite_not {h : Hw} {ok : Bool} {n reason : Nat} {p cond : Prop} [Decidable p]
    (e : h.refusal ok n = if p then none else some reason) (hp : p ↔ ¬cond) : h.RefusesWhile ok n reason cond :=
  ⟨fun hc => e.trans (if_neg fun x => hp.mp x hc), fun hc => e.trans (if_pos (hp.mpr hc))⟩

/-- The block of step `n` prepares, then refuses or agrees. -/
def Hw.answerStep (h : Hw) (ok : Bool) (n : Nat) : Hw :=
  match (h.beforeAnswer n).refusal ok n with
  | some r => ((h.beforeAnswer n).rollback r ((stepWindows n).headD 0)).retryOrFail
  | none => (h.beforeAnswer n).agree

section
variable {n : Nat}

theorem exec_blockAnswer (s : State) (ok : Bool) (entering : s.hw.pwrState = pwrEntering) (early : s.hw.pwr.final = false)
    (step : s.hw.pwr.step = n) (hn : n ≠ 0) : exec (.blockAnswer ok) s = run s fun h => h.answerStep ok n := by
  have asked : ¬ ((cleared s.hw).pwrState ≠ pwrEntering ∨ (cleared s.hw).pwr.final = true ∨ (cleared s.hw).pwr.step = 0) := by
    rintro (h | h | h)
    · exact h entering
    · exact Bool.false_ne_true (early.symm.trans h)
    · exact hn (step.symm.trans h)
  subst step
  unfold exec execBlockAnswer
  exact run_congr (if_neg asked)

variable {h : Hw} {ok : Bool} {reason : Nat}

theorem Hw.answerStep_refused (hr : (h.beforeAnswer n).refusal ok n = some reason) (hlt : reason < 32) :
    (h.answerStep ok n).pwr.stopped = [] ∧ (h.answerStep ok n).f PWR_STAT PWR_STAT.reason = reason := by
  rw [Hw.answerStep, hr]
  exact ⟨by rw [Hw.retryOrFail_pwr, Hw.rollback_pwr], by rw [Hw.retryOrFail_reason, Hw.rollback_reason _ _ _ hlt]⟩

theorem Hw.answerStep_agrees (hr : (h.beforeAnswer n).refusal ok n = none) (prepared : (h.beforeAnswer n).pwr = h.pwr)
    (step : h.pwr.step = n) (hn : n < 22) :
    (h.answerStep ok n).pwr.stopped = h.pwr.stopped ++ stepWindows n ∧ (h.answerStep ok n).pwr.step = n + 1 := by
  have stands : (h.beforeAnswer n).pwr.step = n := prepared ▸ step
  obtain ⟨stopped, next⟩ := (h.beforeAnswer n).agree_pwr (stands.trans_lt hn)
  rw [stands, prepared] at stopped
  rw [stands] at next
  rw [Hw.answerStep, hr]
  exact ⟨stopped, next⟩

end

/-- BLOCK_ANSWER at a step before the last, of a block that refuses exactly while `cond` holds and whose preparations leave the handshake. -/
theorem blockAnswer_completes (s : State) (ok : Bool) {n reason : Nat} {cond : Prop} (entering : s.hw.pwrState = pwrEntering)
    (early : s.hw.pwr.final = false) (step : s.hw.pwr.step = n) (hn : n ≠ 0 ∧ n < 22) (hreason : reason < 32)
    (prepared : ((cleared s.hw).beforeAnswer n).pwr = s.hw.pwr)
    (refuses : ((cleared s.hw).beforeAnswer n).RefusesWhile ok n reason cond) :
    Completes (.blockAnswer ok) s fun h =>
      (cond → h.pwr.stopped = [] ∧ h.f PWR_STAT PWR_STAT.reason = reason) ∧
      (¬cond → h.pwr.stopped = s.hw.pwr.stopped ++ stepWindows n ∧ h.pwr.step = n + 1) :=
  completes_of_run (exec_blockAnswer s ok entering early step hn.1)
    ⟨fun hc => Hw.answerStep_refused (refuses.1 hc) hreason, fun hc => Hw.answerStep_agrees (refuses.2 hc) prepared step hn.2⟩

/-! ### The condition of each block -/

/-- Closing the open record leaves the number of records that the buffer holds (R365). -/
theorem AlmSt.held_close (a : AlmSt) : a.close.held = a.held := by
  rw [AlmSt.close_eq]
  cases e : a.opened <;> simp [AlmSt.held, e]

section
variable (h : Hw) (ok : Bool)

/-- The Almanac closes its open record, then refuses while it clears or has records to program (R377). -/
theorem Hw.almanac_refusesWhile : (h.beforeAnswer 2).RefusesWhile ok 2 0x0E
    (h.alm.clear.isSome = true ∨ h.alm.held ≠ 0 ∨ h.bus.staging ≠ []) := by
  refine .of_ite rfl ?_
  have clear : h.alm.close.clear = h.alm.clear := by rw [AlmSt.close_eq]
  rw [Hw.beforeAnswer, Hw.almClose, Hw.updAlm_alm, Hw.updAlm_bus, clear, AlmSt.held_close, List.isEmpty_iff]

/-- Burl refuses while an operation is in flight (R339). -/
theorem Hw.burl_refusesWhile : h.RefusesWhile ok 3 0x0C (h.brlOps ≠ []) :=
  .of_ite_not rfl (by rw [List.isEmpty_iff, not_not])

/-- Calends refuses while a trigger is armed (R302). -/
theorem Hw.calends_refusesWhile : h.RefusesWhile ok 6 0x0A (∃ t < 16, h.trigState t = trigArmed) :=
  .of_ite rfl (by simp only [List.any_eq_true, List.mem_range, decide_eq_true_eq])

/-- The pair refuses while its link is up (R284). -/
theorem Hw.pair_refusesWhile : h.RefusesWhile ok 9 0x09 (h.linkUp = true) := .of_ite rfl Iff.rfl

/-- The stop sequencer refuses while it runs (R284). -/
theorem Hw.sequencer_refusesWhile : h.RefusesWhile ok 10 0x08 (h.stpState = stpRunning) := .of_ite rfl Iff.rfl

/-- The axes refuse while one is enabled (R226). -/
theorem Hw.axes_refusesWhile : h.RefusesWhile ok 11 0x06 (∃ i < 16, (h.axis i).enable = true) :=
  .of_ite rfl (by simp only [Hw.anyAxis, List.any_eq_true, List.mem_range])

/-- Lathe refuses while a profile is active or pending (R226). -/
theorem Hw.lathe_refusesWhile : h.RefusesWhile ok 12 0x05 (h.lth.active ≠ [] ∨ h.lth.pending ≠ []) :=
  .of_ite_not rfl (by rw [Bool.and_eq_true, List.isEmpty_iff, List.isEmpty_iff, not_or, not_not, not_not])

/-- Track reservation refuses while a token, or a hold (an entry of no token), is in force (R198). -/
theorem Hw.reservation_refusesWhile : h.RefusesWhile ok 13 0x04
    ((∃ p ∈ h.rsv.toks, p.2.state ≠ 0) ∨ ∃ e ∈ h.rsv.entries, e.token = 0) := by
  refine .of_ite_not rfl ?_
  simp only [Hw.noToken, Bool.and_eq_true, Bool.not_eq_true', ← Bool.not_eq_true, List.any_eq_true, decide_eq_true_eq, not_or]

/-- OBS and FIX refuse while a robot is in central or broadcast mode (R172). -/
theorem Hw.robots_refusesWhile : h.RefusesWhile ok 14 0x03 (∃ r, 1 ≤ r ∧ r < 129 ∧ (h.robotMode r = 1 ∨ h.robotMode r = 2)) := by
  refine .of_ite rfl ?_
  simp only [List.any_eq_true, List.mem_range, Bool.and_eq_true, Bool.or_eq_true, decide_eq_true_eq, and_left_comm]

/-- The radio refuses while a lane sends (R258). -/
theorem Hw.radio_refusesWhile : h.RefusesWhile ok 15 0x07 (∃ l < 8, (h.lane l).onAir.isSome = true) :=
  .of_ite rfl (by simp only [List.any_eq_true, List.mem_range])

/-- The matrix engine refuses while a job is in flight (R145). -/
theorem Hw.matrix_refusesWhile : h.RefusesWhile ok 16 0x02 (h.jobs ≠ []) :=
  .of_ite_not rfl (by rw [List.isEmpty_iff, not_not])

/-- The health manager agrees at once (R377). -/
theorem Hw.health_refusesWhile : h.RefusesWhile ok 20 0 False := ⟨False.elim, fun _ => rfl⟩

end

/-- Settles O57: the block asked answers by the condition of its own lemma, and `blockAnswer_completes` says what the answer does. -/
theorem sleepRefusals : Obligations.SleepRefusals := by
  intro s ok n reason cond entering early step asked
  have answer := blockAnswer_completes (reason := reason) (cond := cond) s ok entering early step
  rcases asked with ⟨rfl, rfl, rfl⟩ | ⟨rfl, rfl, rfl⟩ | ⟨rfl, rfl, rfl⟩ | ⟨rfl, rfl, rfl⟩ | ⟨rfl, rfl, rfl⟩ | ⟨rfl, rfl, rfl⟩ |
    ⟨rfl, rfl, rfl⟩ | ⟨rfl, rfl, rfl⟩ | ⟨rfl, rfl, rfl⟩ | ⟨rfl, rfl, rfl⟩ | ⟨rfl, rfl, rfl⟩ | ⟨rfl, rfl, rfl⟩
  all_goals refine answer (by decide) (by decide) rfl ?_
  · exact Hw.almanac_refusesWhile _ ok
  · exact Hw.burl_refusesWhile _ ok
  · exact Hw.calends_refusesWhile _ ok
  · exact Hw.pair_refusesWhile _ ok
  · exact Hw.sequencer_refusesWhile _ ok
  · exact Hw.axes_refusesWhile _ ok
  · exact Hw.lathe_refusesWhile _ ok
  · exact Hw.reservation_refusesWhile _ ok
  · exact Hw.robots_refusesWhile _ ok
  · exact Hw.radio_refusesWhile _ ok
  · exact Hw.matrix_refusesWhile _ ok
  · exact Hw.health_refusesWhile _ ok

end Sys2Proof.Machine
end

section
/-! SUPPORT. What a read in a context's address space depends on (R76, R77). -/

namespace Sys2Proof.Machine

open Reg Sys2Proof.Safety

/-- The registers that a read in a context's space looks at: the context's own, and the sizes of DRAM. -/
def ctxRegs (ctx : Nat) : List Nat := [SMU_CTX_CFG ctx, SMU_CTX_BASE_LO ctx, SMU_CTX_BASE_LO ctx + 4, DDR_CH_STAT 0, DDR_CH_STAT 1]

/-- `g` holds all that a read in a context's space depends on as `h` holds it. -/
structure SameSpace (ctx : Nat) (h g : Hw) : Prop where
  mem : g.mem = h.mem
  hlt : g.hlt = h.hlt
  flash : g.flash = h.flash
  smu : g.smu = h.smu
  freeCtr : g.freeCtr = h.freeCtr
  regs : ∀ k ∈ ctxRegs ctx, g.reg k = h.reg k

theorem SameSpace.trans {ctx : Nat} {a b c : Hw} (p : SameSpace ctx a b) (q : SameSpace ctx b c) : SameSpace ctx a c :=
  ⟨q.mem.trans p.mem, q.hlt.trans p.hlt, q.flash.trans p.flash, q.smu.trans p.smu, q.freeCtr.trans p.freeCtr,
    fun k hk => (q.regs k hk).trans (p.regs k hk)⟩

theorem SameSpace.cleared (ctx : Nat) (h : Hw) : SameSpace ctx h (cleared h) := ⟨rfl, rfl, rfl, rfl, rfl, fun _ _ => rfl⟩

theorem SameSpace.setF (ctx : Nat) (h : Hw) {k : Nat} (f : Fld) (v : Nat) (hk : k ∉ ctxRegs ctx) : SameSpace ctx h (h.setF k f v) :=
  ⟨rfl, rfl, rfl, rfl, rfl, fun _ hj => Hw.reg_setF_other _ _ _ _ _ fun e => hk (e ▸ hj)⟩

section
variable {ctx : Nat} {h g : Hw} (same : SameSpace ctx h g)
include same

theorem SameSpace.reg_cfg : g.reg (SMU_CTX_CFG ctx) = h.reg (SMU_CTX_CFG ctx) := same.regs _ (by simp [ctxRegs])

theorem SameSpace.reg64_base : g.reg64 (SMU_CTX_BASE_LO ctx) = h.reg64 (SMU_CTX_BASE_LO ctx) := by
  rw [Hw.reg64, same.regs _ (by simp [ctxRegs]), same.regs _ (by simp [ctxRegs]), Hw.reg64]

theorem SameSpace.dramSize : g.dramSize = h.dramSize := by
  simp only [Hw.dramSize, Hw.f, same.regs (DDR_CH_STAT 0) (by simp [ctxRegs]), same.regs (DDR_CH_STAT 1) (by simp [ctxRegs])]

theorem SameSpace.readPlace (a : Nat) : g.readPlace a = h.readPlace a := by
  rw [Hw.readPlace, Hw.poisonedAt, Hw.sramPlace, same.hlt, same.flash, same.dramSize]
  rfl

theorem SameSpace.readPhys (n : Nat) : ∀ a, g.readPhys a n = h.readPhys a n := by
  have octet : g.byteAt = h.byteAt := funext fun p => by rw [Hw.byteAt, same.mem, Hw.byteAt]
  induction n with
  | zero => exact fun _ => rfl
  | succ n ih => exact fun a => by rw [Hw.readPhys, same.readPlace, ih, octet, Hw.readPhys]

theorem SameSpace.walk (a : Nat) : g.walk ctx a = h.walk ctx a := by
  have entry : g.tableEntry = h.tableEntry := funext fun x => congrArg (Option.map leNat) (same.readPhys 8 x)
  -- The kernel compares the function with its body, not a call with its value: that would run the read of the entry.
  generalize e : @Hw.walk = walk
  delta Hw.walk at e
  subst e
  beta_reduce
  rw [same.reg64_base, entry]

theorem SameSpace.translate (a : Nat) (write : Bool) : g.translate ctx a write = h.translate ctx a write := by
  have walked : g.walkCached ctx a = h.walkCached ctx a := by
    rw [Hw.walkCached, same.smu, same.freeCtr, same.walk, Hw.walkCached]
  have field (f : Fld) : g.f (SMU_CTX_CFG ctx) f = h.f (SMU_CTX_CFG ctx) f := by rw [Hw.f, same.reg_cfg, Hw.f]
  rw [Hw.translate, Hw.flag, field, field, field, walked, Hw.translate, Hw.flag]

theorem SameSpace.readCtx (a n : Nat) : g.readCtx ctx a n = h.readCtx ctx a n := by
  have pages (fuel : Nat) : ∀ a n, g.readCtxGo ctx fuel a n = h.readCtxGo ctx fuel a n := by
    induction fuel with
    | zero => exact fun _ _ => rfl
    | succ fuel ih => exact fun a n => by simp only [Hw.readCtxGo, same.translate, same.readPhys, ih]
  exact pages _ a n

theorem SameSpace.loadOperands (addr : Nat → Nat) (l : List (Nat × Nat)) : g.loadOperands ctx addr l = h.loadOperands ctx addr l := by
  induction l with
  | nil => rfl
  | cons x l ih => simp only [Hw.loadOperands, same.readCtx, ih]

end

end Sys2Proof.Machine
end

section
/-! PROOFS. The matrix engine dispatches a job in each of the device's 64 contexts (R139); a job in a context that the device does not have refutes
O15. -/

namespace Sys2Proof.Machine

open Reg Sys2Proof.Safety

/-! ### The device about to load (R139, R144) -/

/-- A job goes to a tile of the device. -/
theorem Hw.tileFor_lt {h : Hw} {j : MtxJob} {t : Nat} (ht : h.tileFor j = some t) : t < 4 := by
  have up : t ∈ h.tilesUp := by
    unfold Hw.tileFor at ht
    dsimp only at ht
    have candidates (c : Bool) (others : List Nat) : ∀ x ∈ (if c then h.tilesUp.filter fun t => (h.freeHalf t).isSome
        else (h.tilesUp.filter fun t => (h.freeHalf t).isSome).filter fun t => memb t others), x ∈ h.tilesUp := by
      intro x hx
      split at hx
      · exact (List.mem_filter.mp hx).1
      · exact (List.mem_filter.mp (List.mem_filter.mp hx).1).1
    split at ht
    · next e => cases ht; exact candidates _ _ _ (List.mem_of_find?_eq_some e)
    · exact candidates _ _ _ (List.mem_of_head? ht)
  exact List.mem_range.mp (List.mem_filter.mp up).1

/-- The job of a slot after it is changed. -/
theorem Hw.updJob_job (h : Hw) (s : Nat) (f : MtxJob → MtxJob) : (h.updJob s f).job s = (h.job s).map f := Map.at_set_same _ _ _

/-- A change of a job leaves the halves. -/
theorem Hw.updJob_halves (h : Hw) (s : Nat) (f : MtxJob → MtxJob) : (h.updJob s f).mtx.halves = h.mtx.halves := rfl

/-- The device with slot `s` about to load on tile `t`: the tile's self-test is abandoned (R144), and the slot's unit is normal. -/
def Hw.dispatching (h : Hw) (t s streak : Nat) : Hw :=
  ((h.endSelftest t).updMtx fun x => { x with streak := streak }).unitNormal (mtxUnit s)

section
variable (h : Hw) {t s : Nat} (streak : Nat)

theorem Hw.dispatching_mtx : (h.dispatching t s streak).mtx = { h.mtx with streak := streak } := by
  unfold Hw.dispatching Hw.endSelftest
  split <;> rfl

/-- A dispatch leaves what a job reads in one of the device's contexts. -/
theorem SameSpace.dispatching {ctx : Nat} (hctx : ctx < 64) (ht : t < 4) (hs : s < 64) : SameSpace ctx h (h.dispatching t s streak) := by
  have tile : MTX_TILE_STAT t ∉ ctxRegs ctx := by
    simp only [ctxRegs, List.mem_cons, List.not_mem_nil, or_false, not_or, MTX_TILE_STAT, SMU_CTX_CFG, SMU_CTX_BASE_LO, DDR_CH_STAT]
    omega
  have unit : SMU_UNIT (mtxUnit s) ∉ ctxRegs ctx := by
    simp only [ctxRegs, List.mem_cons, List.not_mem_nil, or_false, not_or, SMU_UNIT, mtxUnit, SMU_CTX_CFG, SMU_CTX_BASE_LO, DDR_CH_STAT]
    omega
  have ended : SameSpace ctx h ((h.endSelftest t).updMtx fun x => { x with streak := streak }) := by
    unfold Hw.endSelftest
    split
    · exact (SameSpace.setF ctx h _ _ tile).trans ⟨rfl, rfl, rfl, rfl, rfl, fun _ _ => rfl⟩
    · exact ⟨rfl, rfl, rfl, rfl, rfl, fun _ _ => rfl⟩
  exact ended.trans (.setF ctx _ _ _ unit)

end

/-! ### A load that ends and one that is stopped (R139, R141) -/

/-- A job dispatched with its operands loaded: it computes, unless the other half of its tile does. -/
def Hw.dispatchedJob (h : Hw) (t : Nat) (xs : List (Nat × List Byte)) (x : MtxJob) : MtxJob :=
  { x with phase := if h.computing t then .loading else .computing, tile := t, half := (h.freeHalf t).getD 0, loaded := xs }

theorem Hw.mtxDispatch_loaded {h : Hw} {t s streak : Nat} {j : MtxJob} {xs : List (Nat × List Byte)} (next : h.nextJob = some (s, j, streak))
    (tile : h.tileFor j = some t) (loaded : (h.dispatching t s streak).loadOperands j.ctx j.at j.inputs = .ok xs) :
    h.mtxDispatch = ((h.dispatching t s streak).updJob s (h.dispatchedJob t xs)).setHalf t ((h.freeHalf t).getD 0) (some s) := by
  have computing : (h.dispatching t s streak).computing t = h.computing t := by
    simp only [Hw.computing, Hw.half, Hw.job, Hw.dispatching_mtx]
  simp only [Hw.mtxDispatch, next, tile]
  rw [← Hw.dispatching, loaded, computing]
  rfl

/-- A unit that parks leaves the matrix engine's record. -/
theorem Hw.park_mtx (h : Hw) (u ctx addr : Nat) (write : Bool) (kind : Nat) : (h.park u ctx addr write kind).mtx = h.mtx := by
  have parked : (h.setParked u ctx kind).mtx = h.mtx := by
    unfold Hw.setParked
    dsimp only
    split <;> rfl
  have recorded (g : Hw) (r : FaultRec) : (g.faultRecord r).mtx = g.mtx := by
    rw [Hw.faultRecord, Hw.notice_mtx, Hw.deviceLine_mtx, Hw.bump_mtx]
    split
    · rfl
    · exact Hw.setFlag_mtx _ _ _ _
  rw [Hw.park, recorded]
  split
  · rfl
  · exact parked

/-- A load that is stopped takes no half (R141). -/
theorem Hw.mtxDispatch_stopped {h : Hw} {t s streak i : Nat} {j : MtxJob} {e : MemErr} (next : h.nextJob = some (s, j, streak))
    (tile : h.tileFor j = some t) (stopped : (h.dispatching t s streak).loadOperands j.ctx j.at j.inputs = .error (i, e)) (u b : Nat) :
    h.mtxDispatch.half u b = h.half u b := by
  simp only [Hw.mtxDispatch, next, tile]
  rw [← Hw.dispatching, stopped]
  have kept (g : Hw) (hg : g.mtx.halves = (h.dispatching t s streak).mtx.halves) : g.half u b = h.half u b := by
    rw [Hw.half, hg, Hw.dispatching_mtx, Hw.half]
  have parked (f : MtxJob → MtxJob) (ctx a : Nat) (kind : Nat) :
      ((((h.dispatching t s streak).updJob s f).setProg s 0 i 0).park (mtxUnit s) ctx a false kind).mtx.halves =
        (h.dispatching t s streak).mtx.halves := by
    rw [Hw.park_mtx, Hw.setProg, Hw.setReg_mtx, Hw.updJob_halves]
  cases e <;> exact kept _ (parked _ _ _ _)

/-- JOB_DISPATCH of a job in one of the device's contexts. -/
theorem jobDispatch_completes (s : State) (slot : Fin 64) (t streak : Nat) (j : MtxJob) (xs : List (Nat × List Byte)) (hctx : j.ctx < 64)
    (next : s.hw.nextJob = some (slot.val, j, streak)) (tile : s.hw.tileFor j = some t)
    (loaded : s.hw.loadOperands j.ctx j.at j.inputs = .ok xs) :
    Completes .jobDispatch s fun h =>
      h.half t ((s.hw.freeHalf t).getD 0) = some slot.val ∧ h.mtx.streak = streak ∧
      ∀ x, s.hw.job slot.val = some x → h.job slot.val = some { x with
        phase := if s.hw.computing t then .loading else .computing, tile := t, half := (s.hw.freeHalf t).getD 0, loaded := xs } := by
  have same : SameSpace j.ctx (cleared s.hw) ((cleared s.hw).dispatching t slot.val streak) :=
    .dispatching (cleared s.hw) streak hctx (Hw.tileFor_lt tile) slot.isLt
  refine completes_of_run (e := Hw.mtxDispatch) rfl ?_
  have read : (cleared s.hw).loadOperands j.ctx j.at j.inputs = .ok xs := (SameSpace.cleared j.ctx s.hw).loadOperands _ _ ▸ loaded
  rw [Hw.mtxDispatch_loaded (h := cleared s.hw) next tile ((same.loadOperands _ _).trans read)]
  refine ⟨Map.at_set_same _ _ _, congrArg MtxSt.streak ((cleared s.hw).dispatching_mtx streak (t := t) (s := slot.val)), fun x hx => ?_⟩
  have held : ((cleared s.hw).dispatching t slot.val streak).job slot.val = some x := by
    rw [Hw.job, Hw.dispatching_mtx]
    exact hx
  exact (Hw.updJob_job _ _ _).trans (congrArg (Option.map _) held)

/-! ### A context that the device does not have -/

/-- A job of GAIN with one state, no measurements and its operand at 0x1000, in context 112; the device has contexts 0 to 63. -/
def strayJob : MtxJob :=
  { (default : MtxJob) with phase := .queued, op := 3, n := 1, ctx := 112, addrs := [0x1000, 0, 0, 0, 0x1000, 0] }

/-- The engine idle, with `strayJob` in slot 1. Where the map would have the base of context 112 stands the unit of slot 1 (`ctxBase_stray`): it
reads as resuming, with a leaf entry at the address that it spells. -/
def strayContext : Hw :=
  (((Hw.reset.setFlag (SMU_CTX_CFG 112) SMU_CTX_CFG.enable true).setReg (SMU_CTX_BASE_LO 112) 0x10000002).setByte 0x10000002 7).setJob 1
    (some strayJob)

theorem ctxBase_stray : SMU_CTX_BASE_LO 112 = SMU_UNIT (mtxUnit 1) := rfl

/-- The job meets what the statement asks of a job that is dispatched: it is the next, tile 0 takes it, and its operand is read. -/
theorem strayContext_may_dispatch : strayContext.nextJob = some (1, strayJob, 0) ∧ strayContext.tileFor strayJob = some 0 ∧
    strayContext.loadOperands strayJob.ctx strayJob.at strayJob.inputs = .ok [(0, List.replicate 8 0)] := by
  decide +kernel

/-- The dispatch writes the state of the slot's unit, and with it the base: the entry at the new base is not valid. -/
theorem strayContext_stopped : ((cleared strayContext).dispatching 0 1 0).loadOperands strayJob.ctx strayJob.at strayJob.inputs =
    .error (0, .fault 0x1000 kindNotValid) := by
  decide +kernel

/-- What a command completes with holds of the device that it makes. -/
theorem run_of_completes {c : Instr} {s : State} {e : Hw → Hw} {P : Hw → Prop} (hc : Completes c s P) (he : exec c s = run s e) :
    P (e (cleared s.hw)) := by
  obtain ⟨t, ht, -, holds⟩ := hc
  rw [he] at ht
  cases ht
  exact holds

/-- Refutes O15: its clause on JOB_DISPATCH bounds the context of the job by nothing, and the job of `strayContext`, in context 112, is dispatched
without taking a half. In contexts 0 to 63 the clause holds (`jobDispatch_completes`). -/
theorem not_matrixCommandsComplete : ¬ Obligations.MatrixCommandsComplete := by
  intro ⟨_, _, dispatch, _⟩
  obtain ⟨next, tile, loaded⟩ := strayContext_may_dispatch
  obtain ⟨taken, -⟩ := run_of_completes (e := Hw.mtxDispatch) (dispatch ⟨strayContext, []⟩ 1 0 0 strayJob _ next tile loaded) rfl
  rw [Hw.mtxDispatch_stopped (h := cleared strayContext) next tile strayContext_stopped] at taken
  have free (b : Nat) : (cleared strayContext).half 0 b = none := Map.at_nil _
  exact Option.some_ne_none _ (taken.symm.trans (free _))

end Sys2Proof.Machine
end

section
/-! SUPPORT. What the intake keeps of a robot while a buffer is written, fails or parks: its last epoch, its set, and that a full frame has come
(R84, R151, R153, R155). -/

namespace Sys2Proof.Machine

open Reg Sys2Proof.Safety

/-! ### Memory and parked units leave OBS -/

/-- A bus write leaves OBS. -/
theorem Hw.writePhys_obs {h g : Hw} {a : Nat} {bs : List Byte} (hw : h.writePhys a bs = some g) : g.obs = h.obs := by
  unfold Hw.writePhys at hw
  split at hw
  · cases hw
    exact (congrArg Hw.obs (Hw.storeBytes_spec bs h a).1).trans rfl
  · cases hw

theorem Hw.keepCached_obs (h : Hw) (ctx addr : Nat) : (h.keepCached ctx addr).obs = h.obs := by
  obtain ⟨x, e⟩ := h.keepCached_eq ctx addr
  rw [e]

/-- A write in a context's space leaves OBS. -/
theorem Hw.writeCtxGo_obs (ctx fuel : Nat) : ∀ (h : Hw) (addr : Nat) (bs : List Byte) (n : Nat),
    (Hw.writeCtxGo ctx fuel h addr bs n).1.obs = h.obs := by
  induction fuel with
  | zero => exact fun _ _ _ _ => rfl
  | succ fuel ih =>
    intro h addr bs n
    rw [Hw.writeCtxGo]
    split
    · rfl
    · dsimp only
      split
      · rfl
      · split
        · rfl
        · next h' hw => rw [ih, Hw.keepCached_obs, Hw.writePhys_obs hw]

theorem Hw.writeCtx_obs (h : Hw) (ctx addr : Nat) (bs : List Byte) : (h.writeCtx ctx addr bs).1.obs = h.obs :=
  Hw.writeCtxGo_obs _ _ _ _ _ _

/-- A unit that parks leaves OBS. -/
theorem Hw.park_obs (h : Hw) (u ctx addr : Nat) (write : Bool) (kind : Nat) : (h.park u ctx addr write kind).obs = h.obs := by
  have parked : (h.setParked u ctx kind).obs = h.obs := by
    unfold Hw.setParked
    dsimp only
    split <;> rfl
  have recorded (g : Hw) (r : FaultRec) : (g.faultRecord r).obs = g.obs := by
    rw [Hw.faultRecord, Hw.notice_obs, Hw.deviceLine_obs, Hw.bump_obs]
    split <;> rfl
  rw [Hw.park, recorded]
  split
  · rfl
  · exact parked

/-! ### The registers of OBS -/

/-- A register of the window of OBS (R24). -/
abbrev obsReg (k : Nat) : Prop := 0xB0000 ≤ k ∧ k < 0xC0000

theorem recordingRegs_not_obsReg : ∀ k ∈ logRegs ++ deliveryRegs, ¬ obsReg k := by decide

theorem obsReg.not_log {k : Nat} (hk : obsReg k) : k ∉ logRegs := fun hm => recordingRegs_not_obsReg k (List.mem_append_left _ hm) hk

theorem obsReg.not_delivery {k : Nat} (hk : obsReg k) : k ∉ deliveryRegs := fun hm =>
  recordingRegs_not_obsReg k (List.mem_append_right _ hm) hk

theorem obsReg_irqStat : obsReg OBS_IRQ_STAT := by decide

theorem obsReg_rbtStat {r : Nat} (hr : r < 129) : obsReg (OBS_RBT_STAT r) := by
  simp only [OBS_RBT_STAT]
  omega

theorem rbtStat_ne_irqStat (r : Nat) : OBS_RBT_STAT r ≠ OBS_IRQ_STAT := by
  simp only [OBS_RBT_STAT, OBS_IRQ_STAT]
  omega

theorem rbtStat_ne_notice (r j : Nat) : OBS_RBT_STAT r ≠ OBS_RBT_NOTICE j := by
  simp only [OBS_RBT_STAT, OBS_RBT_NOTICE]
  omega

theorem irqStat_ne_notice (j : Nat) : OBS_IRQ_STAT ≠ OBS_RBT_NOTICE j := by
  simp only [OBS_IRQ_STAT, OBS_RBT_NOTICE]
  omega

/-- The fields of OBS_RBT_STAT that tell of the set and of the last epoch. -/
def setFields : List Fld := [OBS_RBT_STAT.last_epoch, OBS_RBT_STAT.set_tag, OBS_RBT_STAT.set_held]

/-- A buffer's state stands apart from them. -/
theorem bufFld_apart (b : Nat) : (bufFld b).lo + (bufFld b).width ≤ 32 ∧
    ∀ l ∈ setFields, (bufFld b).lo + (bufFld b).width ≤ l.lo ∨ l.lo + l.width ≤ (bufFld b).lo := by
  unfold bufFld
  split <;> decide

/-! ### What stays of a robot -/

@[simp] theorem Hw.orob_updOrob_same (h : Hw) (r : Nat) (u : ObsRbt → ObsRbt) : (h.updOrob r u).orob r = u (h.orob r) :=
  Map.at_upd_same h.obs.robots r u

/-- `g` has of every robot the last epoch and what OBS_RBT_STAT shows of the set as `h` has them, and the bit of a full frame. -/
structure IntakeKept (h g : Hw) : Prop where
  last : ∀ r, (g.orob r).last = (h.orob r).last
  stat : ∀ r < 129, ∀ l ∈ setFields, g.f (OBS_RBT_STAT r) l = h.f (OBS_RBT_STAT r) l
  full : g.f OBS_IRQ_STAT OBS_IRQ_STAT.full_frame = h.f OBS_IRQ_STAT OBS_IRQ_STAT.full_frame

theorem IntakeKept.refl (h : Hw) : IntakeKept h h := ⟨fun _ => rfl, fun _ _ _ _ => rfl, rfl⟩

theorem IntakeKept.trans {a b c : Hw} (p : IntakeKept a b) (q : IntakeKept b c) : IntakeKept a c :=
  ⟨fun r => (q.last r).trans (p.last r), fun r hr l hl => (q.stat r hr l hl).trans (p.stat r hr l hl), q.full.trans p.full⟩

/-- What leaves OBS and its registers keeps the intake. -/
theorem IntakeKept.of_window {h g : Hw} (obs : g.obs = h.obs) (regs : ∀ k, obsReg k → g.reg k = h.reg k) : IntakeKept h g where
  last r := by rw [Hw.orob, obs, Hw.orob]
  stat r hr l _ := by rw [Hw.f, regs _ (obsReg_rbtStat hr), Hw.f]
  full := by rw [Hw.f, regs _ obsReg_irqStat, Hw.f]

section
variable (h : Hw)

theorem IntakeKept.writeCtx (ctx addr : Nat) (bs : List Byte) : IntakeKept h (h.writeCtx ctx addr bs).1 :=
  .of_window (h.writeCtx_obs ctx addr bs) fun k _ => by rw [Hw.reg, h.writeCtx_regs ctx addr bs, Hw.reg]

/-- OBS that parks. -/
theorem IntakeKept.park {ctx : Nat} (hctx : ctx < 64) (addr kind : Nat) : IntakeKept h (h.park obsUnit ctx addr true kind) := by
  refine .of_window (h.park_obs _ _ _ _ _) fun k hk => Hw.park_reg _ _ _ _ _ _ ?_ ?_ ?_ ?_ hk.not_delivery
  · simp only [SMU_UNIT, obsUnit]; omega
  · simp only [DMA_CH_STAT, obsUnit]; omega
  · simp only [SMU_FAULT_STAT]; omega
  · simp only [SMU_CTX_HANDLER]; omega

theorem IntakeKept.unitNormal : IntakeKept h (h.unitNormal obsUnit) :=
  .of_window rfl fun k hk => Hw.reg_setF_other _ _ _ _ _ (by simp only [SMU_UNIT, obsUnit]; omega)

/-- A buffer's state is shown. -/
theorem IntakeKept.setBuf (j b st : Nat) : IntakeKept h (h.setF (OBS_RBT_STAT j) (bufFld b) st) where
  last _ := rfl
  stat r _ l hl := by
    obtain ⟨hw, apart⟩ := bufFld_apart b
    by_cases e : OBS_RBT_STAT r = OBS_RBT_STAT j
    · rw [e]
      exact Hw.f_setF_apart _ _ _ _ _ hw (apart l hl)
    · exact Hw.f_setF_other _ _ _ _ _ _ e
  full := Hw.f_setF_other _ _ _ _ _ _ (rbtStat_ne_irqStat j).symm

theorem IntakeKept.notice (j : Nat) : IntakeKept h (h.notice (OBS_RBT_NOTICE j)) where
  last r := by rw [Hw.orob, Hw.notice_obs, Hw.orob]
  stat r hr _ _ := Hw.notice_f _ _ _ _ (rbtStat_ne_notice r j) (obsReg_rbtStat hr).not_delivery
  full := Hw.notice_f _ _ _ _ (irqStat_ne_notice j) obsReg_irqStat.not_delivery

theorem IntakeKept.raiseEpoch (j : Nat) : IntakeKept h (h.raise OBS_IRQ_STAT OBS_IRQ_STAT.epoch j) where
  last r := by rw [Hw.orob, Hw.raise_obs, Hw.orob]
  stat r hr _ _ := Hw.raise_f _ _ _ _ _ _ (rbtStat_ne_irqStat r) (obsReg_rbtStat hr).not_log
  full := Hw.raise_f_apart _ _ _ _ _ (by decide) (by decide) (by decide)

/-- A change of OBS that leaves every robot's last epoch. -/
theorem IntakeKept.updObs (u : ObsSt → ObsSt) (hu : ∀ r, ((u h.obs).robots.at r).last = (h.obs.robots.at r).last) : IntakeKept h (h.updObs u) :=
  ⟨hu, fun _ _ _ _ => rfl, rfl⟩

/-- A change of a robot that leaves its last epoch. -/
theorem IntakeKept.updOrob (j : Nat) (u : ObsRbt → ObsRbt) (hu : ∀ o, (u o).last = o.last) : IntakeKept h (h.updOrob j u) := by
  refine .updObs h _ fun r => ?_
  by_cases e : r = j
  · subst e
    rw [Map.at_upd_same, hu]
  · rw [Map.at_upd_other _ _ _ _ e]

/-- Writing the buffer under way keeps the intake, whether it completes or parks. -/
theorem IntakeKept.obsWrite : IntakeKept h h.obsWrite := by
  have hctx : h.f OBS_CFG OBS_CFG.ctx < 64 := Fld.get_lt _ _
  unfold Hw.obsWrite
  split
  · exact .refl h
  · next j _ =>
    have written := IntakeKept.writeCtx h (h.f OBS_CFG OBS_CFG.ctx) j.addr j.octets
    have completed (g : Hw) := (((IntakeKept.updObs g (fun o => { o with job := none }) fun _ => rfl).trans (.unitNormal _)).trans
      (.setBuf _ j.robot j.buf bufComplete)).trans (.updOrob _ j.robot (fun o =>
        { o with epochs := if j.buf = 0 then (j.epoch, o.epochs.2) else (o.epochs.1, j.epoch) }) fun _ => rfl)
    dsimp only
    split
    next e => rw [e] at written; exact written.trans (.park _ hctx _ _)
    next e => rw [e] at written; exact written.trans (.park _ hctx _ _)
    next e => rw [e] at written; exact (written.trans (completed _)).trans ((IntakeKept.notice _ _).trans (.raiseEpoch _ _))

end

/-! ### A frame is accepted (R155) -/

section
variable (h : Hw) (x : ObsIn) (epoch b : Nat) (new : Bool) (es : List (List Byte))

/-- The intake as an accepted frame leaves it, its buffer still to be written. -/
def Hw.obsAccepted : Hw :=
  ((h.updOrob x.robot fun o => { o with last := some epoch, counter := x.counter }).setF (OBS_RBT_STAT x.robot) OBS_RBT_STAT.last_epoch
    (epoch % 65536)).setF (OBS_RBT_STAT x.robot) (bufFld b) bufFilling

theorem IntakeKept.obsStart : IntakeKept (h.obsAccepted x epoch b) (h.obsStart x epoch b new es) := by
  unfold Hw.obsStart
  exact .trans (.updObs (h.obsAccepted x epoch b) _ fun _ => rfl) (.obsWrite _)

/-- An accepted frame's epoch is the robot's last. -/
theorem Hw.obsStart_last : ((h.obsStart x epoch b new es).orob x.robot).last = some epoch := by
  rw [(IntakeKept.obsStart h x epoch b new es).last x.robot]
  exact congrArg ObsRbt.last (h.orob_updOrob_same x.robot fun o => { o with last := some epoch, counter := x.counter })

section
variable (hr : x.robot < 129)
include hr

/-- An accepted frame's epoch is shown. -/
theorem Hw.obsStart_last_epoch : (h.obsStart x epoch b new es).f (OBS_RBT_STAT x.robot) OBS_RBT_STAT.last_epoch = epoch % 65536 := by
  rw [(IntakeKept.obsStart h x epoch b new es).stat _ hr _ (by decide), Hw.obsAccepted,
    (IntakeKept.setBuf _ x.robot b bufFilling).stat _ hr _ (by decide), Hw.f_setF_same _ _ _ _ (by decide)]
  exact Nat.mod_mod _ _

/-- An accepted frame leaves what is shown of the set. -/
theorem Hw.obsStart_set (l : Fld) (hl : l ∈ setFields)
    (apart : OBS_RBT_STAT.last_epoch.lo + OBS_RBT_STAT.last_epoch.width ≤ l.lo ∨ l.lo + l.width ≤ OBS_RBT_STAT.last_epoch.lo) :
    (h.obsStart x epoch b new es).f (OBS_RBT_STAT x.robot) l = h.f (OBS_RBT_STAT x.robot) l := by
  rw [(IntakeKept.obsStart h x epoch b new es).stat _ hr _ hl, Hw.obsAccepted,
    (IntakeKept.setBuf _ x.robot b bufFilling).stat _ hr _ hl, Hw.f_setF_apart _ _ _ _ _ (by decide) apart]
  rfl

end

/-- An accepted frame leaves the bit of a full frame. -/
theorem Hw.obsStart_full_frame : (h.obsStart x epoch b new es).flag OBS_IRQ_STAT OBS_IRQ_STAT.full_frame =
    h.flag OBS_IRQ_STAT OBS_IRQ_STAT.full_frame := by
  rw [Hw.flag, (IntakeKept.obsStart h x epoch b new es).full, Hw.obsAccepted, (IntakeKept.setBuf _ x.robot b bufFilling).full,
    Hw.f_setF_other _ _ _ _ _ _ (rbtStat_ne_irqStat x.robot).symm]
  rfl

end

end Sys2Proof.Machine
end

section
/-! PROOFS. The observation intake takes frames, frees buffers and asks for full frames (R146, R151, R153–R155, R167), and O16 is settled. -/

namespace Sys2Proof.Machine

open Reg Sys2Proof.Safety

/-! ### OBS takes the oldest frame (R155) -/

/-- OBS takes a frame of an epoch after the robot's last, by its format and the buffers that are free (R155). -/
def Hw.takeNewer (h : Hw) (x : ObsIn) (s : Seed) : Hw :=
  match h.freeObsBuf x.robot with
  | none =>
    if frameFmt x.payload = 2 ∧ frameReset x.payload then h.takeFull x s.epoch
    else h.obsDiscard x.robot OBS_ERR2 OBS_ERR2.overrun OBS_ERR2.overrun_sat
  | some b => if frameFmt x.payload = 2 then h.takeFull x s.epoch else h.takeResidual x s b

section
variable {h : Hw} {x : ObsIn} {sd : Seed}

/-- With no buffer under way OBS takes the oldest frame from RAD. -/
theorem Hw.obsFrame_takes {rest : List ObsIn} (parked : h.isParked obsUnit = false) (idle : h.obs.job = none) (queue : h.rad.toObs = x :: rest) :
    h.obsFrame = (h.updRad fun r => { r with toObs := rest }).obsTake x := by
  simp only [Hw.obsFrame, parked, idle, queue, Option.isSome_none, Bool.false_eq_true, if_false]

/-- A frame passes the tests before its epoch's place among the robot's is looked at: OBS is on, the robot's mode allows the format, the payload
is sound, and the frame comes in time for a seed. -/
structure InTime (h : Hw) (x : ObsIn) (sd : Seed) : Prop where
  on : h.flag OBS_CFG OBS_CFG.enable = true
  allowed : h.formatAllowed x.robot (frameFmt x.payload) = true
  sound : frameSound x.payload = true
  seed : h.seedOfField x.epoch = some sd
  time : x.time ≤ sd.time + h.lateNs

section
variable (t : InTime h x sd)
include t

/-- The tests do not look at the frames that still wait. -/
theorem InTime.dequeued (rest : List ObsIn) : InTime ((cleared h).updRad fun r => { r with toObs := rest }) x sd :=
  ⟨t.on, t.allowed, t.sound, t.seed, t.time⟩

/-- A frame is allowed to robots 1 to 128 only. -/
theorem InTime.robot_lt : x.robot < 129 := by
  have allowed := t.allowed
  unfold Hw.formatAllowed Hw.robotMode at allowed
  by_contra big
  rw [if_neg (by omega)] at allowed
  cases allowed

/-- A position report in time waits for FIX (R167). -/
theorem InTime.obsTake_report (fmt : frameFmt x.payload = 3) :
    h.obsTake x = h.updFix fun f => { f with reports := f.reports ++ [(x.robot, sd.epoch, x.payload)] } := by
  have allowed := fmt ▸ t.allowed
  simp only [Hw.obsTake, t.on, fmt, allowed, t.sound, t.seed, not_lt.mpr t.time, not_true_eq_false, or_self, if_false, if_true]

/-- A full or residual frame in time, of an epoch after the robot's last, is taken by its format. -/
theorem InTime.obsTake_newer (fmt : frameFmt x.payload ≠ 3) (newer : ∀ l, (h.orob x.robot).last = some l → l < sd.epoch) :
    h.obsTake x = h.takeNewer x sd := by
  simp only [Hw.obsTake, t.on, t.allowed, t.sound, t.seed, not_lt.mpr t.time, fmt, not_true_eq_false, or_self, if_false]
  cases last : (h.orob x.robot).last with
  | none => rfl
  | some l =>
    have lt := newer l last
    have later : decide (l > sd.epoch) = false := decide_eq_false (by omega)
    have same : decide (l = sd.epoch) = false := decide_eq_false (by omega)
    simp only [Option.map_some, later, same]
    rfl

end
end

section
variable {h : Hw} {x : ObsIn} (sd : Seed)

/-- A full frame is taken where a buffer is free, or where it resets the robot. -/
theorem Hw.takeNewer_full (fmt : frameFmt x.payload = 2) (room : frameReset x.payload = true ∨ (h.freeObsBuf x.robot).isSome = true) :
    h.takeNewer x sd = h.takeFull x sd.epoch := by
  unfold Hw.takeNewer
  split
  · next full =>
    rw [full] at room
    exact if_pos ⟨fmt, room.resolve_right Bool.false_ne_true⟩
  · exact if_pos fmt

/-- A residual frame is taken where a buffer is free. -/
theorem Hw.takeNewer_residual {b : Nat} (fmt : frameFmt x.payload = 1) (free : h.freeObsBuf x.robot = some b) :
    h.takeNewer x sd = h.takeResidual x sd b := by
  simp only [Hw.takeNewer, free, fmt, Nat.reduceEqDiff, if_false]

end

/-- OBS_FRAME with no buffer under way completes with what taking the oldest frame makes of the device. -/
theorem obsFrame_completes {s : State} {x : ObsIn} {rest : List ObsIn} {P : Hw → Prop} (parked : s.hw.isParked obsUnit = false)
    (idle : s.hw.obs.job = none) (queue : s.hw.rad.toObs = x :: rest)
    (hP : P (((cleared s.hw).updRad fun r => { r with toObs := rest }).obsTake x)) : Completes .obsFrame s P := by
  refine completes_of_run (e := Hw.obsFrame) rfl ?_
  rw [Hw.obsFrame_takes (h := cleared s.hw) parked idle queue]
  exact hP

/-- A frame that is discarded with OBS off (R146). -/
theorem obsFrame_off (s : State) (x : ObsIn) (rest : List ObsIn) (parked : s.hw.isParked obsUnit = false) (idle : s.hw.obs.job = none)
    (queue : s.hw.rad.toObs = x :: rest) (off : s.hw.flag OBS_CFG OBS_CFG.enable = false) :
    Completes .obsFrame s fun h => h.rad.toObs = rest ∧ h.flag OBS_IRQ_STAT OBS_IRQ_STAT.discard = true ∧ h.obs = s.hw.obs := by
  refine obsFrame_completes parked idle queue ?_
  have off' : ((cleared s.hw).updRad fun r => { r with toObs := rest }).flag OBS_CFG OBS_CFG.enable = false := off
  simp only [Hw.obsTake, off', Bool.false_eq_true, not_false_eq_true, if_true, Hw.raise_rad, Hw.raise_obs]
  exact ⟨rfl, Hw.raise_flag _ _ _ _ (by decide) (by decide) (by decide), rfl⟩

/-! ### Full frames (R153, R154) -/

section
variable (h : Hw) (r : Nat)

/-- A buffer that is freed shows so. -/
theorem Hw.freeBuf_free (b : Nat) : (h.freeBuf r b).f (OBS_RBT_STAT r) (bufFld b) = bufFree := by
  rw [Hw.freeBuf, Hw.f_setF_same _ _ _ _ (bufFld_apart b).1]
  exact Nat.zero_mod _

/-- Buffer 0 stays as buffer 1 is freed. -/
theorem Hw.freeBuf_one_buf0 : (h.freeBuf r 1).f (OBS_RBT_STAT r) OBS_RBT_STAT.buf0 = h.f (OBS_RBT_STAT r) OBS_RBT_STAT.buf0 :=
  Hw.f_setF_apart _ _ _ _ _ (by decide) (by decide)

/-- A robot that is reset has a free buffer (R163). -/
theorem Hw.robotReset_freeObsBuf (hr : r < 129) : ((h.robotReset r).freeObsBuf r).isSome = true := by
  have free : (h.robotReset r).f (OBS_RBT_STAT r) (bufFld 0) = bufFree := by
    have stat : OBS_RBT_STAT r ≠ FIX_IRQ_STAT := by
      simp only [OBS_RBT_STAT, FIX_IRQ_STAT]
      omega
    rw [Hw.robotReset, Hw.raise_f _ _ _ _ _ _ stat (obsReg_rbtStat hr).not_log]
    exact (Hw.f_setF_apart _ _ _ _ _ (by decide) (by decide)).trans ((Hw.freeBuf_one_buf0 _ r).trans (h.freeBuf_free r 0))
  exact List.find?_isSome.mpr ⟨0, List.mem_cons_self, decide_eq_true free⟩

end

section
variable (h : Hw) (x : ObsIn) (epoch : Nat)

/-- A full frame's set is shown, and full_frame raised. -/
def Hw.fullShown : Hw :=
  ((h.setF (OBS_RBT_STAT x.robot) OBS_RBT_STAT.set_tag (epoch % 256)).setF (OBS_RBT_STAT x.robot) OBS_RBT_STAT.set_held 1).raise
    OBS_IRQ_STAT OBS_IRQ_STAT.full_frame x.robot

theorem Hw.fullShown_full_frame : (h.fullShown x epoch).flag OBS_IRQ_STAT OBS_IRQ_STAT.full_frame = true :=
  Hw.raise_flag _ _ _ _ (by decide) (by decide) (by decide)

section
variable (hr : x.robot < 129)
include hr

theorem Hw.fullShown_set_tag : (h.fullShown x epoch).f (OBS_RBT_STAT x.robot) OBS_RBT_STAT.set_tag = epoch % 256 := by
  rw [Hw.fullShown, Hw.raise_f _ _ _ _ _ _ (rbtStat_ne_irqStat _) (obsReg_rbtStat hr).not_log, Hw.f_setF_apart _ _ _ _ _ (by decide) (by decide),
    Hw.f_setF_same _ _ _ _ (by decide)]
  exact Nat.mod_mod _ _

theorem Hw.fullShown_set_held : (h.fullShown x epoch).f (OBS_RBT_STAT x.robot) OBS_RBT_STAT.set_held = 1 := by
  rw [Hw.fullShown, Hw.raise_f _ _ _ _ _ _ (rbtStat_ne_irqStat _) (obsReg_rbtStat hr).not_log, Hw.f_setF_same _ _ _ _ (by decide)]
  rfl

/-- A full frame is accepted where a buffer is free, or where it resets the robot, which frees them. -/
theorem Hw.takeFull_accepts (room : frameReset x.payload = true ∨ (h.freeObsBuf x.robot).isSome = true) :
    ∃ (g : Hw) (b : Nat) (es : List (List Byte)), h.takeFull x epoch = (g.fullShown x epoch).obsStart x epoch b true es := by
  have free : ((if frameReset x.payload then h.robotReset x.robot else h).freeObsBuf x.robot).isSome = true := by
    split
    · exact h.robotReset_freeObsBuf x.robot hr
    · next keeps => exact room.resolve_left keeps
  obtain ⟨b, hb⟩ := Option.isSome_iff_exists.mp free
  unfold Hw.takeFull
  dsimp only
  rw [hb]
  exact ⟨_, b, _, rfl⟩

end
end

/-- A full frame replaces the set and its tag (R153). -/
theorem obsFrame_full (s : State) (x : ObsIn) (rest : List ObsIn) (sd : Seed) (parked : s.hw.isParked obsUnit = false)
    (idle : s.hw.obs.job = none) (queue : s.hw.rad.toObs = x :: rest) (t : InTime s.hw x sd) (fmt : frameFmt x.payload = 2)
    (newer : ∀ l, (s.hw.orob x.robot).last = some l → l < sd.epoch)
    (room : frameReset x.payload = true ∨ (s.hw.freeObsBuf x.robot).isSome = true) :
    Completes .obsFrame s fun h =>
      (h.orob x.robot).last = some sd.epoch ∧ h.f (OBS_RBT_STAT x.robot) OBS_RBT_STAT.set_tag = sd.epoch % 256 ∧
      h.f (OBS_RBT_STAT x.robot) OBS_RBT_STAT.set_held = 1 ∧ h.flag OBS_IRQ_STAT OBS_IRQ_STAT.full_frame = true := by
  refine obsFrame_completes parked idle queue ?_
  have hr := t.robot_lt
  let h := (cleared s.hw).updRad fun r => { r with toObs := rest }
  have t' : InTime h x sd := t.dequeued rest
  have taken : h.obsTake x = h.takeFull x sd.epoch := (t'.obsTake_newer (by omega) newer).trans (Hw.takeNewer_full sd fmt room)
  obtain ⟨g, b, es, accepted⟩ := h.takeFull_accepts x sd.epoch hr room
  rw [taken, accepted, Hw.obsStart_set _ _ _ _ _ _ hr _ (by decide) (by decide), Hw.obsStart_set _ _ _ _ _ _ hr _ (by decide) (by decide),
    Hw.obsStart_full_frame]
  exact ⟨Hw.obsStart_last _ _ _ _ _ _, g.fullShown_set_tag x _ hr, g.fullShown_set_held x _ hr, g.fullShown_full_frame x _⟩

/-! ### Residual frames (R151, R154) -/

/-- A residual frame is of the robot's set: a set is held, of the frame's tag and with as many entries. -/
def Hw.ofSet (h : Hw) (x : ObsIn) : Prop :=
  h.f (OBS_RBT_STAT x.robot) OBS_RBT_STAT.set_held ≠ 0 ∧
    fieldAt x.payload 1 1 = h.f (OBS_RBT_STAT x.robot) OBS_RBT_STAT.set_tag ∧ frameCount x.payload = (h.orob x.robot).set.length

section
variable {h : Hw} {x : ObsIn} (sd : Seed) (b : Nat)

/-- A residual frame of the set is accepted. -/
theorem Hw.takeResidual_accepts (of : h.ofSet x) :
    ∃ (g : Hw) (es : List (List Byte)), h.takeResidual x sd b = g.obsStart x sd.epoch b false es := by
  obtain ⟨held, tag, count⟩ := of
  simp only [Hw.takeResidual, held, tag, count, ne_eq, not_true_eq_false, or_self, if_false]
  exact ⟨_, _, rfl⟩

/-- Any other is discarded, and the next seed asks for a full frame. -/
theorem Hw.takeResidual_mismatch (other : ¬ h.ofSet x) : h.takeResidual x sd b =
    (h.updOrob x.robot fun o => { o with sendFull := true }).obsDiscard x.robot OBS_ERR OBS_ERR.set_mismatch OBS_ERR.set_sat := by
  refine if_pos ?_
  by_contra named
  rw [not_or, not_or, not_not, not_not] at named
  exact other named

end

/-- A discarded frame leaves OBS but for its counts. -/
theorem Hw.obsDiscard_obs (h : Hw) (r k : Nat) (c t : Fld) : (h.obsDiscard r k c t).obs = h.obs := by
  rw [Hw.obsDiscard, Hw.raise_obs, Hw.bump_obs]

/-- A discarded frame raises discard. -/
theorem Hw.obsDiscard_flag (h : Hw) (r k : Nat) (c t : Fld) : (h.obsDiscard r k c t).flag OBS_IRQ_STAT OBS_IRQ_STAT.discard = true :=
  Hw.raise_flag _ _ _ _ (by decide) (by decide) (by decide)

/-- A residual frame of the set makes its epoch the last; of another it is discarded, and a full frame asked for. -/
theorem obsFrame_residual (s : State) (x : ObsIn) (rest : List ObsIn) (sd : Seed) (parked : s.hw.isParked obsUnit = false)
    (idle : s.hw.obs.job = none) (queue : s.hw.rad.toObs = x :: rest) (t : InTime s.hw x sd) (fmt : frameFmt x.payload = 1)
    (newer : ∀ l, (s.hw.orob x.robot).last = some l → l < sd.epoch) (room : (s.hw.freeObsBuf x.robot).isSome = true) :
    Completes .obsFrame s fun h =>
      if s.hw.f (OBS_RBT_STAT x.robot) OBS_RBT_STAT.set_held ≠ 0 ∧
          fieldAt x.payload 1 1 = s.hw.f (OBS_RBT_STAT x.robot) OBS_RBT_STAT.set_tag ∧
          frameCount x.payload = (s.hw.orob x.robot).set.length then
        (h.orob x.robot).last = some sd.epoch ∧ h.f (OBS_RBT_STAT x.robot) OBS_RBT_STAT.last_epoch = sd.epoch % 65536
      else (h.orob x.robot).sendFull = true ∧ h.flag OBS_IRQ_STAT OBS_IRQ_STAT.discard = true := by
  refine obsFrame_completes parked idle queue ?_
  let h := (cleared s.hw).updRad fun r => { r with toObs := rest }
  have t' : InTime h x sd := t.dequeued rest
  obtain ⟨b, hb⟩ := Option.isSome_iff_exists.mp room
  have taken : h.obsTake x = h.takeResidual x sd b := (t'.obsTake_newer (by omega) newer).trans (Hw.takeNewer_residual sd fmt hb)
  split
  · next of =>
    obtain ⟨g, es, accepted⟩ := Hw.takeResidual_accepts (h := h) sd b of
    rw [taken, accepted]
    exact ⟨Hw.obsStart_last _ _ _ _ _ _, Hw.obsStart_last_epoch _ _ _ _ _ _ t.robot_lt⟩
  · next other =>
    rw [taken, Hw.takeResidual_mismatch (h := h) sd b other]
    refine ⟨?_, Hw.obsDiscard_flag _ _ _ _ _⟩
    rw [Hw.orob, Hw.obsDiscard_obs, ← Hw.orob, Hw.orob_updOrob_same]

/-- A position report goes to FIX (R167). -/
theorem obsFrame_report (s : State) (x : ObsIn) (rest : List ObsIn) (sd : Seed) (parked : s.hw.isParked obsUnit = false)
    (idle : s.hw.obs.job = none) (queue : s.hw.rad.toObs = x :: rest) (t : InTime s.hw x sd) (fmt : frameFmt x.payload = 3) :
    Completes .obsFrame s fun h => h.fix.reports = s.hw.fix.reports ++ [(x.robot, sd.epoch, x.payload)] := by
  refine obsFrame_completes parked idle queue ?_
  rw [(t.dequeued rest).obsTake_report fmt]
  rfl

/-- A buffer under way is written on. -/
theorem obsFrame_writes (s : State) (parked : s.hw.isParked obsUnit = false) (busy : s.hw.obs.job.isSome = true) :
    Completes .obsFrame s fun h => h = (cleared s.hw).obsWrite := by
  refine completes_of_run (e := Hw.obsFrame) rfl ?_
  have parked' : (cleared s.hw).isParked obsUnit = false := parked
  have busy' : (cleared s.hw).obs.job.isSome = true := busy
  simp only [Hw.obsFrame, parked', busy', Bool.false_eq_true, if_false, if_true]

/-! ### Writes of OBS_RBT_CTRL (R154, R155) -/

theorem rbtCtrl_single : ∀ robot : Fin 129, ∀ r ∈ regFind (OBS_RBT_CTRL robot.val), r.lowWord = false := by decide +kernel

/-- The word of a release has a bit for each buffer, and asks for no full frame. -/
theorem releaseWord : ∀ bufs : Fin 4, (OBS_RBT_CTRL.release0.get (BitVec.ofNat 32 bufs.val) = 1 ↔ bit bufs.val 0 = true) ∧
    (OBS_RBT_CTRL.release1.get (BitVec.ofNat 32 bufs.val) = 1 ↔ bit bufs.val 1 = true) ∧
    OBS_RBT_CTRL.force_full.get (BitVec.ofNat 32 bufs.val) ≠ 1 := by decide

theorem Hw.obsCtrlWritten_release (h : Hw) (r : Nat) (bufs : Fin 4) : h.obsCtrlWritten r (BitVec.ofNat 32 bufs.val) =
    if bit bufs.val 1 then (if bit bufs.val 0 then h.freeBuf r 0 else h).freeBuf r 1 else if bit bufs.val 0 then h.freeBuf r 0 else h := by
  obtain ⟨first, second, force⟩ := releaseWord bufs
  simp only [Hw.obsCtrlWritten, first, second, force, if_false]

/-- BUFFER_RELEASE frees the buffers it names. -/
theorem bufferRelease_completes (s : State) (via : BusAcc) (robot : Fin 129) (bufs : Fin 4) (hp : Permitted s.hw via (OBS_RBT_CTRL robot.val)) :
    Completes (.bufferRelease via robot bufs) s fun h =>
      (bit bufs.val 0 = true → h.f (OBS_RBT_STAT robot.val) OBS_RBT_STAT.buf0 = bufFree) ∧
      (bit bufs.val 1 = true → h.f (OBS_RBT_STAT robot.val) OBS_RBT_STAT.buf1 = bufFree) := by
  refine completes_of_regWrite (eff := fun _ h => h.obsCtrlWritten robot.val (BitVec.ofNat 32 bufs.val)) rfl hp (rbtCtrl_single robot)
    fun _ g _ => ?_
  rw [Hw.obsCtrlWritten_release]
  refine ⟨fun first => ?_, fun second => ?_⟩
  · rw [if_pos first]
    split
    · exact (Hw.freeBuf_one_buf0 _ _).trans (g.freeBuf_free robot.val 0)
    · exact g.freeBuf_free robot.val 0
  · rw [if_pos second]
    exact Hw.freeBuf_free _ robot.val 1

/-- FORCE_FULL makes the next seed ask the robot for a full frame. -/
theorem forceFull_completes (s : State) (via : BusAcc) (robot : Fin 129) (hp : Permitted s.hw via (OBS_RBT_CTRL robot.val)) :
    Completes (.forceFull via robot) s fun h => (h.orob robot.val).sendFull = true := by
  refine completes_of_regWrite (eff := fun _ h => h.obsCtrlWritten robot.val 0x80000000) rfl hp (rbtCtrl_single robot) fun _ g _ => ?_
  have word : OBS_RBT_CTRL.force_full.get 0x80000000 = 1 := by decide
  rw [Hw.obsCtrlWritten, if_pos word, Hw.orob_updOrob_same]

/-- Settles O16: each kind of frame that OBS takes, a buffer under way, and each write of OBS_RBT_CTRL completes as its own theorem says. -/
theorem observationCommandsComplete : Obligations.ObservationCommandsComplete :=
  ⟨obsFrame_off,
    fun s x rest sd parked idle queue on allowed sound seed time =>
      obsFrame_report s x rest sd parked idle queue ⟨on, allowed, sound, seed, time⟩,
    fun s x rest sd parked idle queue on allowed sound seed time =>
      obsFrame_full s x rest sd parked idle queue ⟨on, allowed, sound, seed, time⟩,
    fun s x rest sd parked idle queue on allowed sound seed time =>
      obsFrame_residual s x rest sd parked idle queue ⟨on, allowed, sound, seed, time⟩,
    obsFrame_writes, bufferRelease_completes, forceFull_completes⟩

end Sys2Proof.Machine
end

section
/-! SUPPORT. What FIX keeps while a fix goes out to its readers: the robots, the reports that wait, and the counts of missed epochs and base records
(R157, R161, R165–R168). -/

namespace Sys2Proof.Machine

open Reg Sys2Proof.Safety

@[simp] theorem Hw.frob_updFrob_same (h : Hw) (r : Nat) (u : FixRbt → FixRbt) : (h.updFrob r u).frob r = u (h.frob r) :=
  Map.at_upd_same h.fix.robots r u

/-! ### The counts of an epoch (R157, R161) -/

/-- A register that counts what an epoch lacks: OBS_RBT_MISS of a robot, or FIX_ERR. -/
def countReg (k : Nat) : Prop := (0xB0100 ≤ k ∧ k < 0xB0A00 ∧ k % 16 = 12) ∨ k = FIX_ERR

theorem countReg_miss {r : Nat} (hr : r < 129) : countReg (OBS_RBT_MISS r) := by
  simp only [countReg, OBS_RBT_MISS]
  omega

theorem recordingRegs_not_countReg : ∀ k ∈ logRegs ++ deliveryRegs, ¬ countReg k := by
  unfold countReg
  decide

theorem countReg.not_log {k : Nat} (hk : countReg k) : k ∉ logRegs := fun hm => recordingRegs_not_countReg k (List.mem_append_left _ hm) hk

theorem countReg.not_delivery {k : Nat} (hk : countReg k) : k ∉ deliveryRegs := fun hm =>
  recordingRegs_not_countReg k (List.mem_append_right _ hm) hk

/-- `g` has the counts of missed epochs and of missing base records as `h` has them. -/
structure CountsKept (h g : Hw) : Prop where
  missed : ∀ r < 129, g.reg (OBS_RBT_MISS r) = h.reg (OBS_RBT_MISS r)
  base : g.f FIX_ERR FIX_ERR.base_missing = h.f FIX_ERR FIX_ERR.base_missing

theorem CountsKept.trans {a b c : Hw} (p : CountsKept a b) (q : CountsKept b c) : CountsKept a c :=
  ⟨fun r hr => (q.missed r hr).trans (p.missed r hr), q.base.trans p.base⟩

/-- What leaves the registers that count keeps the counts. -/
theorem CountsKept.of_reg {h g : Hw} (e : ∀ k, countReg k → g.reg k = h.reg k) : CountsKept h g where
  missed _ hr := e _ (countReg_miss hr)
  base := by rw [Hw.f, e _ (Or.inr rfl), Hw.f]

theorem CountsKept.of_regs {h g : Hw} (e : g.regs = h.regs) : CountsKept h g := .of_reg fun _ _ => by rw [Hw.reg, e, Hw.reg]

section
variable (h : Hw) {k : Nat} (hk : ¬ countReg k)
include hk

theorem CountsKept.setReg (w : Word) : CountsKept h (h.setReg k w) := .of_reg fun _ hj => Hw.reg_setReg_other _ _ _ _ fun e => hk (e ▸ hj)

theorem CountsKept.setF (l : Fld) (v : Nat) : CountsKept h (h.setF k l v) := .setReg h hk _

theorem CountsKept.raise (l : Fld) (i : Nat) : CountsKept h (h.raise k l i) :=
  .of_reg fun _ hj => Hw.raise_reg _ _ _ _ _ (fun e => hk (e ▸ hj)) hj.not_log

theorem CountsKept.notice : CountsKept h (h.notice k) :=
  .of_reg fun _ hj => Hw.notice_reg _ _ _ (fun e => hk (e ▸ hj)) hj.not_delivery

end

theorem CountsKept.updFrob (h : Hw) (r : Nat) (u : FixRbt → FixRbt) : CountsKept h (h.updFrob r u) := .of_regs rfl

theorem CountsKept.deviceLine (h : Hw) (line : Nat) : CountsKept h (h.deviceLine line) :=
  .of_reg fun _ hj => Hw.deviceLine_reg _ _ _ hj.not_delivery

/-- A dropped record counts in a field of its own. -/
theorem CountsKept.pubDropped (h : Hw) : CountsKept h (h.bump FIX_ERR FIX_ERR.pub_dropped FIX_ERR.pub_sat) where
  missed r _ := Hw.reg_bump_other _ _ _ _ _ (by simp only [OBS_RBT_MISS, FIX_ERR]; omega)
  base := Hw.f_bump_apart _ _ _ _ _ (by decide) (by decide) (by decide) (by decide)

theorem irqStat_not_countReg : ¬ countReg FIX_IRQ_STAT := by
  unfold countReg
  decide

/-! ### The robots and the reports -/

/-- `g` keeps the counts, every robot and the reports that wait, as `h` has them. -/
structure FixKept (h g : Hw) : Prop extends CountsKept h g where
  robots : g.fix.robots = h.fix.robots
  reports : g.fix.reports = h.fix.reports

theorem FixKept.frob_eq {h g : Hw} (p : FixKept h g) (r : Nat) : g.frob r = h.frob r := by rw [Hw.frob, p.robots, Hw.frob]

theorem FixKept.of_fix {h g : Hw} (counts : CountsKept h g) (fix : g.fix = h.fix) : FixKept h g where
  toCountsKept := counts
  robots := congrArg FixSt.robots fix
  reports := congrArg FixSt.reports fix

theorem FixKept.refl (h : Hw) : FixKept h h := .of_fix (.of_regs rfl) rfl

theorem FixKept.trans {a b c : Hw} (p : FixKept a b) (q : FixKept b c) : FixKept a c :=
  ⟨p.toCountsKept.trans q.toCountsKept, q.robots.trans p.robots, q.reports.trans p.reports⟩

theorem FixKept.ite {c : Prop} [Decidable c] {h a b : Hw} (p : FixKept h a) (q : FixKept h b) : FixKept h (if c then a else b) := by
  split
  · exact p
  · exact q

/-- What is kept of a device stays kept where both sides change one robot alike. -/
theorem FixKept.updFrob {h g : Hw} (p : FixKept h g) (r : Nat) (u : FixRbt → FixRbt) : FixKept (h.updFrob r u) (g.updFrob r u) where
  missed := p.missed
  base := p.base
  robots := congrArg (fun m => Map.upd m r u) p.robots
  reports := p.reports

section
variable (h : Hw)

theorem FixKept.raise (l : Fld) (i : Nat) : FixKept h (h.raise FIX_IRQ_STAT l i) := .of_fix (.raise h irqStat_not_countReg l i) (Hw.raise_fix _ _ _ _)

/-! ### Packets (R98, R165, R166) -/

theorem FixKept.fifoNotice {f : Nat} (hf : f < 64) : FixKept h (h.fifoNotice f) := by
  have apart : ¬ countReg (STM_NOTICE f) := by
    simp only [countReg, STM_NOTICE, FIX_ERR]
    omega
  refine .of_fix (CountsKept.trans (.deviceLine h _) (.notice _ apart)) ?_
  rw [Hw.fifoNotice, Hw.notice_fix, Hw.deviceLine_fix]

theorem FixKept.hwSend {f : Nat} (hf : f < 64) (prod tag : Nat) (bs : List Byte) : FixKept h (h.hwSend prod f tag bs).1 := by
  have set (x : Fifo) : FixKept h (h.setFifo f x) := .of_fix (.of_regs rfl) rfl
  unfold Hw.hwSend
  split
  · exact .refl h
  · split
    · exact (set _).trans (.fifoNotice _ hf)
    · exact set _

theorem FixKept.hwSendFree {f : Nat} (hf : f < 64) (prod : Nat) (bs : List Byte) : FixKept h (h.hwSendFree prod f bs).1 :=
  .trans (b := h.useFree 1) (.of_fix (.of_regs rfl) rfl) (.hwSend _ hf _ _ _)

/-- A record that is published, or lost and counted. -/
theorem FixKept.publishFix (bs : List Byte) : FixKept h (h.publishFix bs) := by
  have sent := FixKept.hwSendFree h (f := h.f FIX_PUB_CFG FIX_PUB_CFG.fifo) (Fld.get_lt _ _) prodPub bs
  unfold Hw.publishFix
  split
  · exact .ite (sent.trans (.of_fix (.pubDropped _) (Hw.bump_fix _ _ _ _))) sent
  · exact .refl h

theorem FixKept.echoFix (r : FixRec) (sol : FixSol) : FixKept h (h.echoFix r sol) := by
  unfold Hw.echoFix
  split
  · exact .refl h
  · exact .ite (.hwSendFree h (Fld.get_lt _ _) _ _) (.refl h)

/-! ### Verdicts, releases and holds (R157, R169, R187) -/

theorem FixKept.sendVerdict (robot epoch status : Nat) (c : Corridor) (sol : FixSol) : FixKept h (h.sendVerdict robot epoch status c sol) := by
  have queued (v : Verdict) : FixKept h (h.updFix fun f => { f with verdicts := f.verdicts ++ [v] }) := ⟨.of_regs rfl, rfl, rfl⟩
  exact .ite (.ite (queued _) ((queued _).trans (.raise _ _ _))) (.refl h)

theorem Hw.mirror_fix (i : MirrorItem) : (h.mirror i).fix = h.fix := by
  unfold Hw.mirror
  split <;> rfl

theorem FixKept.releaseBehind (robot seg : Nat) (e n : Int) (tick : Nat) : FixKept h (h.releaseBehind robot seg e n tick) := by
  have released (keys : List Nat) (now : Nat) : FixKept h ((h.releaseKeys robot keys now).mirrorRsv (.release robot keys now)) :=
    .of_fix (.of_regs (Hw.mirror_regs _ _)) (Hw.mirror_fix _ _)
  unfold Hw.releaseBehind
  dsimp only
  split
  · exact .refl h
  · exact .ite (.refl h) (released _ _)

theorem FixKept.settleHolds : FixKept h h.settleHolds where
  toCountsKept := by
    have apart : ¬ countReg GNS_REC_HOLD := by
      unfold countReg
      decide
    unfold Hw.settleHolds
    exact .trans (.of_regs (Hw.updFix_regs _ _)) (.setF _ apart _ _)
  robots := rfl
  reports := rfl

/-! ### A fix goes out (R165) -/

theorem FixKept.enterFix (robot : Nat) (bs : List Byte) : FixKept h (h.enterFix robot bs) := by
  have words (l : List Nat) (g : Hw) :
      FixKept g (l.foldl (fun h w => h.setReg (FIX_TBL robot w) (BitVec.ofNat 32 (fieldAt bs (4 * w) 4))) g) := by
    induction l generalizing g with
    | nil => exact .refl g
    | cons w l ih =>
      have apart : ¬ countReg (FIX_TBL robot w) := by
        simp only [countReg, FIX_TBL, FIX_ERR]
        omega
      exact .trans (.of_fix (.setReg g apart _) rfl) (ih _)
  exact words _ h

/-- A robot's record with the fix of an epoch; one that is newly lost is lost since now (R161). -/
def Hw.withFix (robot epoch status : Nat) (sol : FixSol) (f : FixRbt) : FixRbt :=
  { f with
    status := status, sol := sol, time := h.epochTime epoch, done := some epoch
    lostAt := if decide (status = fixLost ∧ (h.frob robot).status ≠ fixLost) then h.now else f.lostAt }

/-- A fix changes its robot; what goes out keeps the robots, the reports and the counts. -/
theorem FixKept.fixOut (robot epoch status pairs ratio flags latency : Nat) (mismatch : Bool) (sol : FixSol) :
    FixKept (h.updFrob robot (h.withFix robot epoch status sol)) (h.fixOut robot epoch status pairs ratio flags latency mismatch sol) := by
  unfold Hw.fixOut
  extract_lets t tick c seq numbered rec octets lost entered published raised shown judged released
  have begun : FixKept (h.updFrob robot (h.withFix robot epoch status sol)) entered :=
    FixKept.updFrob (.trans (a := h) (b := numbered) (.of_fix (.of_regs rfl) rfl) (.enterFix numbered robot octets)) robot
      (h.withFix robot epoch status sol)
  have sent : FixKept entered published := .trans (.publishFix entered octets) (.echoFix _ rec sol)
  have announce : FixKept published shown := .trans (.raise published _ _) (.ite (.raise raised _ _) (.refl raised))
  have judge : FixKept shown judged := .sendVerdict shown robot epoch status c sol
  have release : FixKept judged released := .ite (.releaseBehind judged robot c.segment sol.e sol.n tick) (.refl judged)
  exact (begun.trans sent).trans ((announce.trans judge).trans (release.trans (.settleHolds released)))

end

end Sys2Proof.Machine
end

section
/-! PROOFS. Epochs that coast, runs that end, and robots that are reset keep the epoch done and its counts (R158–R163). -/

namespace Sys2Proof.Machine

open Reg Sys2Proof.Safety

section
variable (h : Hw)

/-! ### A fix and a reset of a robot -/

/-- The robot after its fix has gone out. -/
theorem Hw.fixOut_frob (robot epoch status pairs ratio flags latency : Nat) (mismatch : Bool) (sol : FixSol) :
    (h.fixOut robot epoch status pairs ratio flags latency mismatch sol).frob robot = h.withFix robot epoch status sol (h.frob robot) := by
  rw [(FixKept.fixOut h _ _ _ _ _ _ _ _ _).frob_eq, Hw.frob_updFrob_same]

/-- A robot's record after a reset: no status and no run of bad epochs; the epoch done and the last report stay (R163). -/
def FixRbt.restarted (f : FixRbt) : FixRbt :=
  { f with status := fixNone, coasts := 0, notPd := 0, lostAt := 0, resetDue := false, own := none }

theorem Hw.robotReset_frob (r : Nat) : (h.robotReset r).frob r = (h.frob r).restarted := by
  rw [Hw.robotReset, Hw.frob, Hw.raise_fix]
  exact Map.at_upd_same h.fix.robots r FixRbt.restarted

theorem Hw.settleHolds_frob (r : Nat) : h.settleHolds.frob r = h.frob r := (FixKept.settleHolds h).frob_eq r

theorem CountsKept.robotReset {r : Nat} (hr : r < 129) : CountsKept h (h.robotReset r) := by
  have apart : ¬ countReg (OBS_RBT_STAT r) := by
    simp only [countReg, OBS_RBT_STAT, FIX_ERR]
    omega
  have freed (g : Hw) (b : Nat) : CountsKept g (g.freeBuf r b) := by
    unfold Hw.freeBuf
    exact .trans (.of_regs (Hw.updObs_regs _ _)) (.setF _ apart _ _)
  have unset (g : Hw) : CountsKept g (g.setF (OBS_RBT_STAT r) OBS_RBT_STAT.set_held 0) := .setF g apart _ _
  unfold Hw.robotReset
  refine .trans ?_ (.raise _ irqStat_not_countReg _ _)
  exact ((freed h 0).trans (freed _ 1)).trans ((unset _).trans (.of_regs rfl))

/-! ### An epoch that coasts (R161) -/

/-- A robot's epoch is done, and nothing else of it changed. -/
def Hw.epochDone (robot epoch : Nat) : Hw := h.updFrob robot fun f => { f with done := some epoch }

theorem Hw.epochDone_frob (robot epoch : Nat) : (h.epochDone robot epoch).frob robot = { h.frob robot with done := some epoch } :=
  h.frob_updFrob_same robot _

section
variable (robot epoch : Nat) (restored : Bool) (predicted : FixSol)

/-- What an epoch that coasts comes to: nothing but the epoch done, a reset beside it, or a fix of status lost or coasting. -/
theorem Hw.coast_cases : h.coast robot epoch restored predicted = (h.epochDone robot epoch).settleHolds ∨
    h.coast robot epoch restored predicted = ((h.epochDone robot epoch).robotReset robot).settleHolds ∨
    ∃ (g : Hw) (status flags : Nat) (mismatch : Bool) (sol : FixSol), CountsKept h g ∧
      h.coast robot epoch restored predicted = g.fixOut robot epoch status 0 0 flags 0 mismatch sol := by
  unfold Hw.coast
  dsimp only
  split
  · exact .inl rfl
  · split
    · split
      · exact .inr (.inl rfl)
      · exact .inr (.inr ⟨h, _, _, _, _, .of_regs rfl, rfl⟩)
    · exact .inr (.inr ⟨_, _, _, _, _, .updFrob h robot _, rfl⟩)

/-- An epoch that coasts is done. -/
theorem Hw.coast_done : ((h.coast robot epoch restored predicted).frob robot).done = some epoch := by
  obtain e | e | ⟨g, status, flags, mismatch, sol, -, e⟩ := h.coast_cases robot epoch restored predicted <;> rw [e]
  · rw [Hw.settleHolds_frob, Hw.epochDone_frob]
  · rw [Hw.settleHolds_frob, Hw.robotReset_frob, Hw.epochDone_frob, FixRbt.restarted]
  · rw [Hw.fixOut_frob, Hw.withFix]

/-- Coasting counts nothing more. -/
theorem CountsKept.coast (hr : robot < 129) : CountsKept h (h.coast robot epoch restored predicted) := by
  have done : CountsKept h (h.epochDone robot epoch) := .updFrob h robot _
  have settled (g : Hw) : CountsKept g g.settleHolds := (FixKept.settleHolds g).toCountsKept
  obtain e | e | ⟨g, status, flags, mismatch, sol, begun, e⟩ := h.coast_cases robot epoch restored predicted <;> rw [e]
  · exact done.trans (settled _)
  · exact (done.trans (.robotReset _ hr)).trans (settled _)
  · exact begun.trans ((CountsKept.updFrob g robot _).trans (FixKept.fixOut g robot epoch status 0 0 flags 0 mismatch sol).toCountsKept)

end

/-! ### A run that ends (R158, R162, R277) -/

theorem Hw.compareCkpt_fix (robot : Nat) : (h.compareCkpt robot).fix = h.fix := by
  have counted : (h.compareFail robot).fix = h.fix := by
    simp only [Hw.compareFail, Hw.countOpen, Hw.countTransient, Hw.raise_fix, Hw.event_fix, Hw.bump_fix, Hw.useFree_fix]
  unfold Hw.compareCkpt
  split
  · split
    · exact counted
    · rfl
  · rfl

/-- A checkpoint changes of its robot the standby's own at most. -/
theorem Hw.checkpoint_frob (r : FixRun) : ∃ own, (h.checkpoint r).frob r.robot = { h.frob r.robot with own := own } := by
  have same (g : Hw) (e : g.fix = h.fix) : ∃ own, g.frob r.robot = { h.frob r.robot with own := own } :=
    ⟨(h.frob r.robot).own, by rw [Hw.frob, e, Hw.frob]⟩
  have compared (u : FixRbt → FixRbt) : ((h.updFrob r.robot u).compareCkpt r.robot).frob r.robot = u (h.frob r.robot) := by
    rw [Hw.frob, Hw.compareCkpt_fix, ← Hw.frob, Hw.frob_updFrob_same]
  unfold Hw.checkpoint
  dsimp only
  split
  · split
    · exact same _ (Hw.mirror_fix _ _)
    · exact same _ rfl
  · exact ⟨_, compared _⟩

/-- A run gives a fixed solution: its search held and validated one, on a robot that has a fix to go on from (R159, R160). -/
def Hw.runFixed (r : FixRun) : Bool :=
  r.searchFixed && decide (r.held ≥ h.f FIX_CFG FIX_CFG.min_fix ∧ (h.frob r.robot).status ≠ fixNone ∧ (h.frob r.robot).status ≠ fixLost) &&
    validSum r.sum (h.reg FIX_VAL_CHI).toNat r.m

/-- A run that is solved with enough signals leaves its robot with its solution, fixed or float, and the epoch done. -/
theorem Hw.fixRun_solved (r : FixRun) (mode : h.robotMode r.robot ≠ 0) (base : (h.baseOf r.epoch).isSome = true) (how : r.how = .solved)
    (pairs : h.f FIX_CFG FIX_CFG.min_sig ≤ r.pairs) :
    ((h.fixRun r).frob r.robot).done = some r.epoch ∧
      ((h.fixRun r).frob r.robot).status = (if h.runFixed r then fixFixed else fixFloat) ∧
      ((h.fixRun r).frob r.robot).sol = (if h.runFixed r then r.conditioned else r.filtered) := by
  have found : (h.baseOf r.epoch).isNone = false := by rw [← Option.not_isSome, base, Bool.not_true]
  have sent (g : Hw) (status pairs ratio flags latency : Nat) (mismatch : Bool) (sol : FixSol) :
      (((g.fixOut r.robot r.epoch status pairs ratio flags latency mismatch sol).checkpoint r).frob r.robot).done = some r.epoch ∧
      (((g.fixOut r.robot r.epoch status pairs ratio flags latency mismatch sol).checkpoint r).frob r.robot).status = status ∧
      (((g.fixOut r.robot r.epoch status pairs ratio flags latency mismatch sol).checkpoint r).frob r.robot).sol = sol := by
    obtain ⟨own, kept⟩ := (g.fixOut r.robot r.epoch status pairs ratio flags latency mismatch sol).checkpoint_frob r
    rw [kept, Hw.fixOut_frob]
    exact ⟨rfl, rfl, rfl⟩
  unfold Hw.fixRun
  simp only [mode, found, how, not_lt.mpr pairs, Bool.false_eq_true, if_false]
  exact sent _ _ _ _ _ _ _ _

/-- A run that is invalid resets its robot (R163). -/
theorem Hw.fixRun_invalid (r : FixRun) (mode : h.robotMode r.robot ≠ 0) (base : (h.baseOf r.epoch).isSome = true) (how : r.how = .invalid) :
    h.fixRun r = ((h.epochDone r.robot r.epoch).robotReset r.robot).settleHolds := by
  have found : (h.baseOf r.epoch).isNone = false := by rw [← Option.not_isSome, base, Bool.not_true]
  simp only [Hw.fixRun, mode, found, how, Bool.false_eq_true, if_false, Hw.epochDone]

end

end Sys2Proof.Machine
end

section
/-! PROOFS. Reports, holds, deadlines, runs, records and resets of robots complete (R157, R161–R163, R165, R167), and O17 is settled. -/

namespace Sys2Proof.Machine

open Reg Sys2Proof.Safety

/-! ### Position reports (R167) -/

/-- The device with the oldest report taken and kept for its robot. -/
def Hw.reportTaken (h : Hw) (robot epoch : Nat) (p : List Byte) (rest : List (Nat × Nat × List Byte)) : Hw :=
  (h.updFix fun f => { f with reports := rest }).updFrob robot fun f => { f with report := some (epoch, reportSol p) }

/-- A report is entered as a fix, and its epoch is not one done. -/
def Hw.reportEntered (h : Hw) (robot epoch : Nat) (p : List Byte) : Hw :=
  (h.fixOut robot epoch fixReported 0 0 0 ((h.now - h.epochTime epoch) / 1000) false (reportSol p)).updFrob robot
    fun f => { f with done := (h.frob robot).done }

theorem exec_positionReport (s : State) (robot epoch : Nat) (p : List Byte) (rest : List (Nat × Nat × List Byte))
    (waits : s.hw.fix.reports = (robot, epoch, p) :: rest) :
    exec .positionReport s = run s fun h => (h.reportTaken robot epoch p rest).reportEntered robot epoch p := by
  change execPositionReport s = _
  refine run_congr ?_
  have waits' : (cleared s.hw).fix.reports = (robot, epoch, p) :: rest := waits
  rw [waits']
  rfl

/-- POSITION_REPORT enters the oldest report as its robot's fix. -/
theorem positionReport_completes (s : State) (robot : Fin 129) (epoch : Nat) (p : List Byte) (rest : List (Nat × Nat × List Byte))
    (waits : s.hw.fix.reports = (robot.val, epoch, p) :: rest) :
    Completes .positionReport s fun h =>
      h.fix.reports = rest ∧ (h.frob robot.val).status = fixReported ∧ (h.frob robot.val).sol = reportSol p ∧
      (h.frob robot.val).report = some (epoch, reportSol p) := by
  refine completes_of_run (exec_positionReport s robot.val epoch p rest waits) ?_
  have out := FixKept.fixOut ((cleared s.hw).reportTaken robot.val epoch p rest) robot.val epoch fixReported 0 0 0
    ((((cleared s.hw).reportTaken robot.val epoch p rest).now - ((cleared s.hw).reportTaken robot.val epoch p rest).epochTime epoch) / 1000)
    false (reportSol p)
  refine ⟨out.reports, ?_⟩
  rw [Hw.reportEntered, Hw.frob_updFrob_same, Hw.fixOut_frob, Hw.withFix, Hw.reportTaken, Hw.frob_updFrob_same]
  exact ⟨rfl, rfl, rfl⟩

/-! ### The oldest hold ends (R157) -/

theorem exec_baseHoldExpiry (s : State) (i e : Nat) (rest : List (Nat × Nat)) (held : s.hw.fix.holds = (i, e) :: rest) :
    exec .baseHoldExpiry s = run s fun h => (h.updFix fun f => { f with holds := rest }).setF GNS_REC_HOLD GNS_REC_HOLD.fix_hold
      (if bit (h.f GNS_REC_HOLD GNS_REC_HOLD.fix_hold) i then h.f GNS_REC_HOLD GNS_REC_HOLD.fix_hold - 2 ^ i
        else h.f GNS_REC_HOLD GNS_REC_HOLD.fix_hold) := by
  change execBaseHoldExpiry s = _
  refine run_congr ?_
  have held' : (cleared s.hw).fix.holds = (i, e) :: rest := held
  rw [held']

/-- A number less a bit that it has does not have the bit. -/
theorem bit_sub_two_pow {v i : Nat} (set : bit v i = true) : bit (v - 2 ^ i) i = false := by
  have flipped : (2 ^ i + (v - 2 ^ i)).testBit i = !(v - 2 ^ i).testBit i := Nat.testBit_two_pow_add_eq _ _
  rw [Nat.add_sub_cancel' (Nat.ge_two_pow_of_testBit set), show v.testBit i = true from set] at flipped
  exact (Bool.not_eq_true' _).mp flipped.symm

/-- BASE_HOLD_EXPIRY ends the oldest hold. -/
theorem baseHoldExpiry_completes (s : State) (i e : Nat) (rest : List (Nat × Nat)) (held : s.hw.fix.holds = (i, e) :: rest) :
    Completes .baseHoldExpiry s fun h => h.fix.holds = rest ∧ bit (h.f GNS_REC_HOLD GNS_REC_HOLD.fix_hold) i = false := by
  refine completes_of_run (exec_baseHoldExpiry s i e rest held) ⟨rfl, ?_⟩
  have small : (cleared s.hw).f GNS_REC_HOLD GNS_REC_HOLD.fix_hold < 2 ^ GNS_REC_HOLD.fix_hold.width := Fld.get_lt _ _
  rw [Hw.f_setF_same _ _ _ _ (by decide)]
  split
  · next set =>
    rw [Nat.mod_eq_of_lt (Nat.lt_of_le_of_lt (Nat.sub_le _ _) small)]
    exact bit_sub_two_pow set
  · next clear =>
    rw [Nat.mod_eq_of_lt small]
    exact Bool.eq_false_iff.mpr clear

/-! ### Deadlines (R161) -/

/-- The device with an epoch counted by what it lacks: the robot's frame, its base record. -/
def Hw.deadlineCounted (h : Hw) (r epoch : Nat) : Hw :=
  let g := if h.frameIn r epoch then h else h.bump (OBS_RBT_MISS r) OBS_RBT_MISS.missed OBS_RBT_MISS.missed_sat
  if (h.baseOf epoch).isSome then g else g.bump FIX_ERR FIX_ERR.base_missing FIX_ERR.base_sat

section
variable {h : Hw} {r epoch : Nat}

/-- A central robot's epoch that lacks its frame or its base record is counted, and coasts. -/
theorem Hw.epochDeadline_coasts (predicted : FixSol) (mode : h.robotMode r = 1) (newer : ∀ d, (h.frob r).done = some d → d < epoch)
    (lacks : h.frameIn r epoch = false ∨ h.baseOf epoch = none) :
    h.epochDeadline r epoch predicted = (h.deadlineCounted r epoch).coast r epoch false predicted := by
  have undone : ((h.frob r).done.map fun d => decide (d ≥ epoch)).getD false = false := by
    cases done : (h.frob r).done with
    | none => rfl
    | some d => exact decide_eq_false (not_le.mpr (newer d done))
  have counted (g : Hw) (e : g.fix = h.fix) : g.baseOf epoch = h.baseOf epoch := by rw [Hw.baseOf, e, Hw.baseOf]
  have base : (if h.frameIn r epoch then h else h.bump (OBS_RBT_MISS r) OBS_RBT_MISS.missed OBS_RBT_MISS.missed_sat).baseOf epoch =
      h.baseOf epoch := by
    split
    · rfl
    · exact counted _ (Hw.bump_fix _ _ _ _)
  have short : (h.frameIn r epoch && (h.baseOf epoch).isSome) = false := by
    rcases lacks with e | e <;> rw [e]
    · exact Bool.false_and _
    · exact Bool.and_false _
  unfold Hw.epochDeadline
  simp only [mode, undone, base, short, decide_true, Bool.true_or, not_true_eq_false, Bool.false_eq_true, or_self, if_false]
  rfl

theorem miss_ne_err (hr : r < 129) : OBS_RBT_MISS r ≠ FIX_ERR := by
  simp only [OBS_RBT_MISS, FIX_ERR]
  omega

/-- A missed frame counts once (R161). -/
theorem Hw.deadlineCounted_missed (hr : r < 129) (absent : h.frameIn r epoch = false)
    (room : h.f (OBS_RBT_MISS r) OBS_RBT_MISS.missed < OBS_RBT_MISS.missed.max) :
    (h.deadlineCounted r epoch).f (OBS_RBT_MISS r) OBS_RBT_MISS.missed = h.f (OBS_RBT_MISS r) OBS_RBT_MISS.missed + 1 := by
  simp only [Hw.deadlineCounted, absent, Bool.false_eq_true, if_false]
  split
  · exact Hw.f_bump_lt _ _ _ _ (by decide) room
  · rw [Hw.f_bump_other _ _ _ _ _ _ (miss_ne_err hr), Hw.f_bump_lt _ _ _ _ (by decide) room]

/-- A missing base record counts once (R157). -/
theorem Hw.deadlineCounted_base (hr : r < 129) (absent : h.baseOf epoch = none)
    (room : h.f FIX_ERR FIX_ERR.base_missing < FIX_ERR.base_missing.max) :
    (h.deadlineCounted r epoch).f FIX_ERR FIX_ERR.base_missing = h.f FIX_ERR FIX_ERR.base_missing + 1 := by
  have same : (if h.frameIn r epoch then h else h.bump (OBS_RBT_MISS r) OBS_RBT_MISS.missed OBS_RBT_MISS.missed_sat).f FIX_ERR
      FIX_ERR.base_missing = h.f FIX_ERR FIX_ERR.base_missing := by
    split
    · rfl
    · exact Hw.f_bump_other _ _ _ _ _ _ (miss_ne_err hr).symm
  simp only [Hw.deadlineCounted, absent, Option.isSome_none, Bool.false_eq_true, if_false]
  rw [Hw.f_bump_lt _ _ _ _ (by decide) (same ▸ room), same]

end

section
variable (s : State) (robot : Fin 129) (epoch : Word) (pr : FixSol) (mode : s.hw.robotMode robot.val = 1)
  (newer : ∀ d, (s.hw.frob robot.val).done = some d → d < epoch.toNat)
include mode newer

/-- EPOCH_DEADLINE of an epoch that lacks something completes with the epoch counted, and then with what coasting makes of it. -/
theorem epochDeadline_completes {P : Hw → Prop} (lacks : s.hw.frameIn robot.val epoch.toNat = false ∨ s.hw.baseOf epoch.toNat = none)
    (hP : P (((cleared s.hw).deadlineCounted robot.val epoch.toNat).coast robot.val epoch.toNat false pr)) :
    Completes (.epochDeadline robot epoch pr) s P := by
  refine completes_of_run (e := fun h => h.epochDeadline robot.val epoch.toNat pr) rfl ?_
  rw [Hw.epochDeadline_coasts (h := cleared s.hw) pr mode newer lacks]
  exact hP

/-- An epoch without a frame is counted and settled. -/
theorem epochDeadline_frame (absent : s.hw.frameIn robot.val epoch.toNat = false)
    (room : s.hw.f (OBS_RBT_MISS robot.val) OBS_RBT_MISS.missed < OBS_RBT_MISS.missed.max) :
    Completes (.epochDeadline robot epoch pr) s fun h =>
      (h.frob robot.val).done = some epoch.toNat ∧
      h.f (OBS_RBT_MISS robot.val) OBS_RBT_MISS.missed = s.hw.f (OBS_RBT_MISS robot.val) OBS_RBT_MISS.missed + 1 := by
  refine epochDeadline_completes s robot epoch pr mode newer (.inl absent) ⟨Hw.coast_done _ _ _ _ _, ?_⟩
  rw [Hw.f, (CountsKept.coast _ robot.val _ _ _ robot.isLt).missed _ robot.isLt]
  exact Hw.deadlineCounted_missed (h := cleared s.hw) robot.isLt absent room

/-- An epoch without a base record is counted and settled. -/
theorem epochDeadline_base (absent : s.hw.baseOf epoch.toNat = none) (room : s.hw.f FIX_ERR FIX_ERR.base_missing < FIX_ERR.base_missing.max) :
    Completes (.epochDeadline robot epoch pr) s fun h =>
      (h.frob robot.val).done = some epoch.toNat ∧ h.f FIX_ERR FIX_ERR.base_missing = s.hw.f FIX_ERR FIX_ERR.base_missing + 1 := by
  refine epochDeadline_completes s robot epoch pr mode newer (.inr absent) ⟨Hw.coast_done _ _ _ _ _, ?_⟩
  rw [(CountsKept.coast _ robot.val _ _ _ robot.isLt).base]
  exact Hw.deadlineCounted_base (h := cleared s.hw) robot.isLt absent room

end

/-! ### Runs (R159–R163) -/

section
variable (s : State) (r : FixRun) (mode : s.hw.robotMode r.robot ≠ 0) (base : (s.hw.baseOf r.epoch).isSome = true)
include mode base

/-- FIX_PUBLISH of a run that is solved gives its solution, fixed or float. -/
theorem fixPublish_solved (how : r.how = .solved) (pairs : s.hw.f FIX_CFG FIX_CFG.min_sig ≤ r.pairs) :
    Completes (.fixPublish r) s fun h =>
      (h.frob r.robot).done = some r.epoch ∧
      if r.searchFixed = true ∧ s.hw.f FIX_CFG FIX_CFG.min_fix ≤ r.held ∧ (s.hw.frob r.robot).status ≠ fixNone ∧
          (s.hw.frob r.robot).status ≠ fixLost ∧ validSum r.sum (s.hw.reg FIX_VAL_CHI).toNat r.m = true then
        (h.frob r.robot).status = fixFixed ∧ (h.frob r.robot).sol = r.conditioned
      else (h.frob r.robot).status = fixFloat ∧ (h.frob r.robot).sol = r.filtered := by
  refine completes_of_run (e := fun h => h.fixRun r) rfl ?_
  obtain ⟨done, status, sol⟩ := (cleared s.hw).fixRun_solved r mode base how pairs
  have fixed : (cleared s.hw).runFixed r = true ↔ r.searchFixed = true ∧ s.hw.f FIX_CFG FIX_CFG.min_fix ≤ r.held ∧
      (s.hw.frob r.robot).status ≠ fixNone ∧ (s.hw.frob r.robot).status ≠ fixLost ∧
      validSum r.sum (s.hw.reg FIX_VAL_CHI).toNat r.m = true := by
    simp only [Hw.runFixed, Bool.and_eq_true, decide_eq_true_eq, and_assoc]
    rfl
  refine ⟨done, ?_⟩
  rw [status, sol]
  split
  · next holds => exact ⟨if_pos (fixed.mpr holds), if_pos (fixed.mpr holds)⟩
  · next fails => exact ⟨if_neg fun yes => fails (fixed.mp yes), if_neg fun yes => fails (fixed.mp yes)⟩

/-- FIX_PUBLISH of a run that is invalid resets its robot. -/
theorem fixPublish_invalid (how : r.how = .invalid) :
    Completes (.fixPublish r) s fun h =>
      (h.frob r.robot).done = some r.epoch ∧ (h.frob r.robot).status = fixNone ∧ h.flag FIX_IRQ_STAT FIX_IRQ_STAT.reset = true := by
  refine completes_of_run (e := fun h => h.fixRun r) rfl ?_
  rw [(cleared s.hw).fixRun_invalid r mode base how, Hw.settleHolds_frob, Hw.robotReset_frob, Hw.epochDone_frob]
  refine ⟨rfl, rfl, ?_⟩
  rw [Hw.flag, Hw.settleHolds, Hw.f_setF_other _ _ _ _ _ _ (by decide), ← Hw.flag]
  exact Hw.raise_flag _ _ _ _ (by decide) (by decide) (by decide)

end

/-! ### Records (R165) -/

/-- Dropping a packet that a producer has waiting leaves one fewer. -/
theorem Hw.dropHeld_length {h : Hw} {prod f : Nat} (held : h.holdsPacket prod f = true) :
    ((h.dropHeld prod f).fifo f).waiting.length + 1 = (h.fifo f).waiting.length := by
  obtain ⟨p, waits, mine⟩ := List.any_eq_true.mp held
  rw [Hw.dropHeld, Hw.fifo_setFifo_same]
  exact List.length_eraseP_add_one waits mine

/-- PUB_DROP_TIMEOUT drops the oldest record held back, and counts it. -/
theorem pubDropTimeout_completes (s : State) (held : s.hw.holdsPacket prodPub (s.hw.f FIX_PUB_CFG FIX_PUB_CFG.fifo) = true)
    (room : s.hw.f FIX_ERR FIX_ERR.pub_dropped < FIX_ERR.pub_dropped.max) :
    Completes .pubDropTimeout s fun h =>
      h.f FIX_ERR FIX_ERR.pub_dropped = s.hw.f FIX_ERR FIX_ERR.pub_dropped + 1 ∧
      (h.fifo (s.hw.f FIX_PUB_CFG FIX_PUB_CFG.fifo)).waiting.length + 1 =
        (s.hw.fifo (s.hw.f FIX_PUB_CFG FIX_PUB_CFG.fifo)).waiting.length := by
  refine completes_of_run (e := fun h => if h.holdsPacket prodPub (h.f FIX_PUB_CFG FIX_PUB_CFG.fifo)
    then (h.dropHeld prodPub (h.f FIX_PUB_CFG FIX_PUB_CFG.fifo)).bump FIX_ERR FIX_ERR.pub_dropped FIX_ERR.pub_sat else h) rfl ?_
  have held' : (cleared s.hw).holdsPacket prodPub ((cleared s.hw).f FIX_PUB_CFG FIX_PUB_CFG.fifo) = true := held
  rw [if_pos held']
  refine ⟨Hw.f_bump_lt _ _ _ _ (by decide) room, ?_⟩
  rw [Hw.fifo, Hw.bump_fifos, ← Hw.fifo]
  exact Hw.dropHeld_length held'

theorem fixTbl_single : ∀ robot : Fin 129, ∀ r ∈ regFind (FIX_TBL robot.val 0), r.lowWord = false := by decide +kernel

theorem FIX_TBL_injective (robot : Nat) : Function.Injective (FIX_TBL robot) := fun i j e => by
  unfold FIX_TBL at e
  omega

/-- FIX_TBL_SNAPSHOT reads word 0 and takes the others for the reading master. -/
theorem fixTblSnapshot_completes (s : State) (via : BusAcc) (robot : Fin 129) (hp : Readable s.hw via (FIX_TBL robot.val 0)) :
    Completes (.fixTblSnapshot via robot) s fun h =>
      h.bus.resp = .data [(s.hw.readShadow via.master.num (FIX_TBL robot.val 0)).getD (s.hw.reg (FIX_TBL robot.val 0))] ∧
      ∀ w, 1 ≤ w → w < 10 → h.readShadow via.master.num (FIX_TBL robot.val w) = some (s.hw.reg (FIX_TBL robot.val w)) := by
  refine completes_of_run (e := fun h => h.regRead via (FIX_TBL robot.val 0) Hw.reg fun h =>
    (List.range 10).foldl (Hw.takeWord via.master.num (FIX_TBL robot.val)) h) rfl ?_
  have hp' : Readable (cleared s.hw) via (FIX_TBL robot.val 0) := hp
  rw [Hw.regRead_readable _ _ _ _ _ hp' (fixTbl_single robot)]
  refine ⟨(Hw.foldl_takeWord_resp _ _ _ _).trans rfl, fun w first last => ?_⟩
  exact Hw.foldl_takeWord _ _ (FIX_TBL_injective _) _ _ w (Nat.ne_of_gt first) (List.mem_range.mpr last)

/-! ### A reset asked for (R163) -/

theorem fixCtrl_single : ∀ robot : Fin 129, ∀ r ∈ regFind (FIX_RBT_CTRL robot.val), r.lowWord = false := by decide +kernel

/-- ROBOT_RESET keeps the reset until the robot's epoch. -/
theorem robotReset_completes (s : State) (via : BusAcc) (robot : Fin 129) (hp : Permitted s.hw via (FIX_RBT_CTRL robot.val)) :
    Completes (.robotReset via robot) s fun h => (h.frob robot.val).resetDue = true := by
  refine completes_of_regWrite (eff := fun _ h => h.fixCtrlWritten robot.val 0x80000000) rfl hp (fixCtrl_single robot) fun _ g _ => ?_
  have word : FIX_RBT_CTRL.reset.get 0x80000000 = 1 := by decide
  rw [Hw.fixCtrlWritten, if_pos word, Hw.frob_updFrob_same]

/-- Settles O17: each command of the fix manager completes as its own theorem says. -/
theorem fixCommandsComplete : Obligations.FixCommandsComplete :=
  ⟨positionReport_completes, baseHoldExpiry_completes, epochDeadline_frame, epochDeadline_base, fixPublish_solved, fixPublish_invalid,
    pubDropTimeout_completes, fixTblSnapshot_completes, robotReset_completes⟩

end Sys2Proof.Machine
end

section
/-! SUPPORT. What packets, mirror records, writes in a context's space and parked units leave of the reservation engine's record (R84, R196,
R197). -/

namespace Sys2Proof.Machine

open Reg Sys2Proof.Safety

section
variable (h : Hw)

/-- A packet that a hardware producer offers leaves the engine's record. -/
theorem Hw.hwSend_rsv (prod f tag : Nat) (bs : List Byte) : (h.hwSend prod f tag bs).1.rsv = h.rsv := by
  have noticed (g : Hw) : (g.fifoNotice f).rsv = g.rsv := by rw [Hw.fifoNotice, Hw.notice_rsv, Hw.deviceLine_rsv]
  unfold Hw.hwSend
  split
  · rfl
  · split
    · exact noticed _
    · rfl

@[simp] theorem Hw.rsvEvent_rsv (ev robot seg token : Nat) : (h.rsvEvent ev robot seg token).rsv = h.rsv := by
  have sent (g : Hw) (f : Nat) (bs : List Byte) : (g.hwSendFree prodRsv f bs).1.rsv = g.rsv := Hw.hwSend_rsv _ _ _ _ _
  unfold Hw.rsvEvent
  dsimp only
  split
  · split
    · rw [Hw.bump_rsv, sent]
    · rw [sent]
  · rfl

@[simp] theorem Hw.mirrorRsv_rsv (c : RsvChange) : (h.mirrorRsv c).rsv = h.rsv := by
  unfold Hw.mirrorRsv Hw.mirror
  split <;> rfl

/-- A list of events leaves the engine's record. -/
theorem Hw.foldl_rsvEvent_rsv (ev robot : Nat) (l : List Entry) : (l.foldl (fun h e => h.rsvEvent ev robot e.cal 0) h).rsv = h.rsv := by
  induction l generalizing h with
  | nil => rfl
  | cons e l ih => exact (ih _).trans (h.rsvEvent_rsv ev robot e.cal 0)

/-- A bus write changes memory and the lines that are poisoned. -/
theorem Hw.writePhys_eq {g : Hw} {a : Nat} {bs : List Byte} (hw : h.writePhys a bs = some g) :
    ∃ m x, g = { h with mem := m, hlt := x } := by
  unfold Hw.writePhys at hw
  split at hw
  · cases hw
    rw [(Hw.storeBytes_spec bs h a).1]
    exact ⟨_, _, rfl⟩
  · cases hw

end

/-- A write in a context's space changes memory, the lines that are poisoned and the translations kept. -/
theorem Hw.writeCtxGo_eq (ctx fuel : Nat) : ∀ (h : Hw) (addr : Nat) (bs : List Byte) (n : Nat),
    ∃ m x y, (Hw.writeCtxGo ctx fuel h addr bs n).1 = { h with mem := m, hlt := x, smu := y } := by
  induction fuel with
  | zero => exact fun h _ _ _ => ⟨h.mem, h.hlt, h.smu, rfl⟩
  | succ fuel ih =>
    intro h addr bs n
    rw [Hw.writeCtxGo]
    split
    · exact ⟨h.mem, h.hlt, h.smu, rfl⟩
    · dsimp only
      split
      · exact ⟨h.mem, h.hlt, h.smu, rfl⟩
      · split
        · exact ⟨h.mem, h.hlt, h.smu, rfl⟩
        · next g hw =>
          obtain ⟨m, x, rfl⟩ := h.writePhys_eq hw
          obtain ⟨y, kept⟩ := Hw.keepCached_eq { h with mem := m, hlt := x } ctx addr
          rw [kept]
          exact ih _ _ _ _

theorem Hw.writeCtx_rsv (h : Hw) (ctx addr : Nat) (bs : List Byte) : (h.writeCtx ctx addr bs).1.rsv = h.rsv := by
  obtain ⟨m, x, y, e⟩ := Hw.writeCtxGo_eq ctx (bs.length / 4096 + 2) h addr bs 0
  rw [Hw.writeCtx, e]

/-- A unit that parks leaves the engine's record. -/
theorem Hw.park_rsv (h : Hw) (u ctx addr : Nat) (write : Bool) (kind : Nat) : (h.park u ctx addr write kind).rsv = h.rsv := by
  have parked : (h.setParked u ctx kind).rsv = h.rsv := by
    unfold Hw.setParked
    dsimp only
    split <;> rfl
  have recorded (g : Hw) (r : FaultRec) : (g.faultRecord r).rsv = g.rsv := by
    rw [Hw.faultRecord, Hw.notice_rsv, Hw.deviceLine_rsv, Hw.bump_rsv]
    split <;> rfl
  rw [Hw.park, recorded]
  split
  · rfl
  · exact parked

/-- A unit that parks in one of the device's contexts is parked, whatever the kind of its fault. -/
theorem Hw.park_isParked (h : Hw) {u ctx : Nat} (addr : Nat) (write : Bool) (kind : Nat) (hu : u < 320) (hn : u ≠ 294 ∧ u ≠ 295)
    (hctx : ctx < 64) : (h.park u ctx addr write kind).isParked u = true := by
  obtain ⟨-, -, outside⟩ := unit_place ⟨u, hu⟩
  have queue : SMU_UNIT u ≠ SMU_FAULT_STAT := by
    simp only [SMU_UNIT, SMU_FAULT_STAT]
    omega
  have handler : SMU_UNIT u ≠ SMU_CTX_HANDLER ctx := by
    simp only [SMU_UNIT, SMU_CTX_HANDLER]
    omega
  refine decide_eq_true ?_
  rw [Hw.park, if_neg (not_or.mpr hn), Hw.f, Hw.faultRecord_reg _ ⟨addr, kind, write, ctx, u⟩ queue handler outside, ← Hw.f,
    Hw.setParked_unit, Hw.f_setF_apart _ _ _ _ _ (by decide) (by decide), Hw.f_setF_apart _ _ _ _ _ (by decide) (by decide),
    Hw.f_setF_same _ _ _ _ (by decide)]
  rfl

end Sys2Proof.Machine
end

section
/-! PROOFS. A request served in one of the device's 64 contexts ends with its slot free or parked, and CLEAR_HOLD frees the holds of its robot
(R183, R185, R189, R193); a request in a context that the device does not have refutes O19. -/

namespace Sys2Proof.Machine

open Reg Sys2Proof.Safety

/-! ### A request that is served (R183, R185, R193) -/

/-- The device with the body of a request run, and its result in its slot, about to respond. -/
def Hw.rsvTested (h : Hw) (s : Nat) (body : List Byte) : Hw :=
  (h.rsvRun (h.rsvSlot s) body).1.updSlot s fun q => { q with
    phase := .writing, result := (h.rsvRun (h.rsvSlot s) body).2, committed := decide ((h.rsvRun (h.rsvSlot s) body).2.token ≠ 0) }

/-- The request is served as well with the last answer gone. -/
theorem served_cleared {h : Hw} {op slot : Nat} {body : List Byte} (served : Served h op slot body) :
    Served (cleared h) op slot body := by
  obtain ⟨code, memory, queued, turn, read⟩ := served
  exact ⟨code, memory, queued, turn, ((SameSpace.cleared _ h).readCtx _ _).trans read⟩

/-- A request that is served is tested and responds. -/
theorem Hw.rsvServe_served {h : Hw} {op s : Nat} {body : List Byte} (served : Served h op s body) :
    h.rsvServe op s = (h.rsvTested s body).rsvRespond s := by
  obtain ⟨code, memory, queued, turn, read⟩ := served
  have asked : ¬ ((h.rsvSlot s).op ≠ op ∨ (h.rsvSlot s).lathe = true) := by simp [code, memory]
  have fresh : ¬ ((h.rsvSlot s).phase = .writing ∧ ¬ h.isParked (240 + s) = true) := by simp [queued]
  simp only [Hw.rsvServe, if_neg asked, if_neg fresh, turn, not_true_eq_false, if_false, read]
  rfl

theorem Hw.rsvSlot_updSlot_same (h : Hw) (s : Nat) (u : RsvSlot → RsvSlot) : (h.updSlot s u).rsvSlot s = u (h.rsvSlot s) :=
  Map.at_upd_same h.rsv.slots s u

theorem Hw.updSlot_entries (h : Hw) (s : Nat) (u : RsvSlot → RsvSlot) : (h.updSlot s u).rsv.entries = h.rsv.entries := rfl

theorem Hw.slotFree_rsv (h : Hw) (s : Nat) : (h.slotFree s).rsv = { h.rsv with slots := h.rsv.slots.set s default } := rfl

theorem Hw.rsvSlot_slotFree (h : Hw) (s : Nat) : (h.slotFree s).rsvSlot s = default := Map.at_set_same _ _ _

/-- The counters of a response leave the engine's record. -/
theorem Hw.countStatus_rsv (h : Hw) (st : Nat) : (h.countStatus st).rsv = h.rsv := by
  unfold Hw.countStatus
  split
  · exact Hw.bump_rsv _ _ _ _
  · split
    · exact Hw.bump_rsv _ _ _ _
    · split
      · exact Hw.bump_rsv _ _ _ _
      · rfl

/-- A response of a request that has committed nothing, in one of the device's contexts, parks its slot or frees it, and of the engine's record
changes the slots at most. -/
theorem Hw.rsvRespond_uncommitted (h : Hw) {s : Nat} (hs : s < 32) (hctx : (h.rsvSlot s).ctx < 64)
    (uncommitted : (h.rsvSlot s).committed = false) :
    SlotOver (h.rsvRespond s) s ∧ ∃ m, (h.rsvRespond s).rsv = { h.rsv with slots := m } := by
  rw [Hw.rsvRespond]
  dsimp only
  generalize e : (h.useFree 7).writeCtx (h.rsvSlot s).ctx (h.rsvSlot s).resp (rsvResponse (h.rsvSlot s).robot (h.rsvSlot s).reqId
    (h.openResult (h.rsvSlot s).op (h.rsvSlot s).result)) = w
  obtain ⟨g, n, err⟩ := w
  have wrote : g.rsv = h.rsv := (congrArg (fun w => w.1.rsv) e).symm.trans (Hw.writeCtx_rsv _ _ _ _)
  split
  · exact ⟨.inr (g.park_isParked _ true _ (by omega) (by omega) hctx), h.rsv.slots, (g.park_rsv _ _ _ _ _).trans wrote⟩
  · refine ⟨.inl (congrArg RsvSlot.phase (Hw.rsvSlot_slotFree _ s)), h.rsv.slots.set s default, ?_⟩
    simp only [Hw.slotFree_rsv, uncommitted, Bool.false_eq_true, if_false, apply_ite Hw.rsv, Hw.raise_rsv, Hw.token_rsv, Hw.countStatus_rsv,
      wrote, ite_self]

/-! ### CLEAR_HOLD (R189) -/

/-- What CLEAR_HOLD leaves of the engine's record: every entry but the holds of its robot. -/
theorem Hw.clearHolds_rsv (h : Hw) (robot : Nat) : (h.clearHolds robot).rsv =
    { h.rsv with entries := h.rsv.entries.filter fun e => decide (¬(e.robot = robot ∧ e.token = 0)) } := by
  rw [Hw.clearHolds, Hw.mirrorRsv_rsv, Hw.foldl_rsvEvent_rsv]
  rfl

/-- The body of CLEAR_HOLD with site time set: the holds go, and the status is ok. -/
theorem Hw.rsvRun_clearHold {h : Hw} {q : RsvSlot} (code : q.op = 5) (time : h.noTime = false) (body : List Byte) :
    h.rsvRun q body = (h.clearHolds q.robot, { (default : RsvResult) with status := 0, set := 0xFFFF }) := by
  simp [Hw.rsvRun, code, time]

/-- CLEAR_HOLD of a request in one of the device's contexts. -/
theorem clearHold_completes (s : State) (slot : Fin 32) (body : List Byte) (hctx : (s.hw.rsvSlot slot.val).ctx < 64)
    (served : Served s.hw 5 slot.val body) (time : s.hw.noTime = false) :
    Completes (.clearHold slot) s fun h =>
      (∀ e ∈ h.rsv.entries, ¬(e.robot = (s.hw.rsvSlot slot.val).robot ∧ e.token = 0)) ∧ SlotOver h slot.val := by
  refine completes_of_run (e := fun h => h.rsvServe 5 slot.val) rfl ?_
  have ran := Hw.rsvRun_clearHold (h := cleared s.hw) (q := (cleared s.hw).rsvSlot slot.val) served.1 time body
  have tested : ((cleared s.hw).rsvTested slot.val body).rsvSlot slot.val = { s.hw.rsvSlot slot.val with
      phase := .writing, result := { (default : RsvResult) with status := 0, set := 0xFFFF }, committed := false } := by
    rw [Hw.rsvTested, ran, Hw.rsvSlot_updSlot_same, Hw.rsvSlot, Hw.clearHolds_rsv]
    rfl
  obtain ⟨ended, m, kept⟩ := ((cleared s.hw).rsvTested slot.val body).rsvRespond_uncommitted slot.isLt
    (by rw [tested]; exact hctx) (by rw [tested])
  have entries : ((cleared s.hw).rsvTested slot.val body).rsv.entries =
      s.hw.rsv.entries.filter fun e => decide (¬(e.robot = (s.hw.rsvSlot slot.val).robot ∧ e.token = 0)) := by
    rw [Hw.rsvTested, ran, Hw.updSlot_entries, Hw.clearHolds_rsv]
    rfl
  rw [Hw.rsvServe_served (served_cleared served)]
  refine ⟨fun e he => ?_, ended⟩
  rw [kept, entries] at he
  exact of_decide_eq_true (List.mem_filter.mp he).2

/-! ### A context that the device does not have -/

/-- A device with site time, and in slot 3 a CLEAR_HOLD for robot 5 in context 140; the device has contexts 0 to 63. Where the map would have the
handler of context 140 stands the unit of slot 3 (`ctxHandler_stray`); its word is 512 here, and handle 513 names a task that waits. -/
def strayRequest : Hw :=
  (((Hw.reset.setF CAL_STAT CAL_STAT.state 1).setReg (SMU_UNIT 243) 512).updTask 1 fun t =>
    { t with gen := 1, state := .waiting, count := 1 }).updRsv fun r => { r with
      slots := [(3, { (default : RsvSlot) with phase := .queued, op := 5, robot := 5, ctx := 140 })] }

theorem ctxHandler_stray : SMU_CTX_HANDLER 140 = SMU_UNIT (240 + 3) := rfl

/-- The request meets what the statement asks of a CLEAR_HOLD that is served. -/
theorem strayRequest_served : Served strayRequest 5 3 [] ∧ strayRequest.noTime = false := by decide +kernel

/-- The response faults and the unit parks, so that its word is 513 in the handle's octets; the notice of the fault takes that for the task's handle
and clears it, and the parked state with it. The slot keeps its response unwritten and is not parked. -/
theorem strayRequest_lost : (((cleared strayRequest).rsvServe 5 3).rsvSlot 3).phase = .writing ∧
    ((cleared strayRequest).rsvServe 5 3).isParked (240 + 3) = false := by
  decide +kernel

/-- Refutes O19: its clause on CLEAR_HOLD bounds the context of the request by nothing, and the slot of `strayRequest`, in context 140, ends neither
free nor parked. In contexts 0 to 63 the clause holds (`clearHold_completes`). -/
theorem not_reservationRequestsComplete : ¬ Obligations.ReservationRequestsComplete := by
  intro ⟨_, _, _, _, _, clearHold, _⟩
  obtain ⟨served, time⟩ := strayRequest_served
  obtain ⟨-, ended⟩ := run_of_completes (e := fun h => h.rsvServe 5 3) (clearHold ⟨strayRequest, []⟩ 3 [] served time) rfl
  obtain ⟨writing, unparked⟩ := strayRequest_lost
  rcases ended with free | parked
  · exact absurd (writing.symm.trans free) (by decide)
  · exact Bool.false_ne_true (unparked.symm.trans parked)

end Sys2Proof.Machine
end

section
/-! PROOFS. A retry that lasts 2 ms ends its request in one of the device's 64 contexts (R205, R208, R213); a request in a context that the device
does not have refutes O21. -/

namespace Sys2Proof.Machine

open Reg Sys2Proof.Safety

/-! ### A computation slot whose request ends (R208, R213) -/

/-- A computation slot's request has ended, or waits parked for its response to be written (R208, R213). -/
abbrev LthOver (h : Hw) (slot : Nat) : Prop := (h.lthSlot slot).phase = .free ∨ h.isParked (192 + slot) = true

theorem Hw.lthSlot_updLthSlot_same (h : Hw) (s : Nat) (u : LthSlot → LthSlot) : (h.updLthSlot s u).lthSlot s = u (h.lthSlot s) :=
  Map.at_upd_same h.lth.slots s u

theorem Hw.lthSlot_updLthSlot_other (h : Hw) {s o : Nat} (u : LthSlot → LthSlot) (ne : s ≠ o) : (h.updLthSlot o u).lthSlot s = h.lthSlot s :=
  Map.at_upd_other h.lth.slots o s u ne

/-- A fold that keeps what it has or takes the next element ends with an element of its list. -/
theorem mem_of_foldl_select {α : Type} {f : Option α → α → Option α} (select : ∀ best o x, f best o = some x → best = some x ∨ o = x) {x : α} :
    ∀ (l : List α) (best : Option α), l.foldl f best = some x → best = some x ∨ x ∈ l
  | [], _, e => .inl e
  | o :: l, best, e => by
    rcases mem_of_foldl_select select l (f best o) e with hb | hl
    · rcases select best o x hb with hb | rfl
      · exact .inl hb
      · exact .inr List.mem_cons_self
    · exact .inr (List.mem_cons_of_mem o hl)

/-- A slot that is freed is free: the request that begins to compute in its place waits in another slot (R204). -/
theorem Hw.lthFree_free (h : Hw) (s : Nat) : ((h.lthFree s).lthSlot s).phase = .free := by
  unfold Hw.lthFree
  dsimp only
  generalize hg : (h.updLth fun l => { l with slots := l.slots.set s default }).unitNormal (192 + s) = g
  have freed : (g.lthSlot s).phase = .free := by
    rw [← hg]
    exact congrArg LthSlot.phase (Map.at_set_same h.lth.slots s default)
  split
  · next o e =>
    obtain hnone | waits := mem_of_foldl_select (fun best o x hx => by
      split at hx
      · exact .inr (Option.some.inj hx)
      · split at hx
        · exact .inr (Option.some.inj hx)
        · exact .inl hx) _ _ e
    · cases hnone
    · obtain ⟨waiting, -⟩ := of_decide_eq_true (List.mem_filter.mp waits).2
      have ne : s ≠ o := by
        rintro rfl
        exact nomatch freed.symm.trans waiting
      split
      · exact freed
      · rw [Hw.lthSlot_updLthSlot_other _ _ ne]
        exact freed
  · exact freed

/-- A request that ends, in one of the device's contexts, frees its slot or parks it. -/
theorem Hw.lthEnd_over (h : Hw) {s : Nat} (st : Nat) (hs : s < 48) (hctx : (h.lthSlot s).ctx < 64) : LthOver (h.lthEnd s st) s := by
  have ctx : ((h.updLthSlot s fun q => { q with phase := .writing, result := { q.result with status := st } }).lthSlot s).ctx < 64 := by
    rw [Hw.lthSlot_updLthSlot_same]
    exact hctx
  rw [Hw.lthEnd, Hw.lthRespond]
  dsimp only
  split
  · exact .inr (Hw.park_isParked _ _ _ _ (by omega) (by omega) ctx)
  · exact .inl (Hw.lthFree_free _ _)

/-- A retry that has lasted 2 ms ends its request with status 0x0A. -/
def Hw.retryEnds (h : Hw) (s : Nat) : Hw :=
  (h.updLthSlot s fun q => { q with busySince := none, result := { q.result with rsvStatus := 0 } }).lthEnd s 0x0A

section
variable (s : State) (slot : Fin 48) (t : Nat) (busy : (s.hw.lthSlot slot.val).busySince = some t)
  (asking : (s.hw.lthSlot slot.val).phase = .reserving) (late : t + 2000000 ≤ s.hw.now)
include busy asking late

theorem exec_reservationBusyRetry_late : exec (.reservationBusyRetry slot) s = run s fun h => h.retryEnds slot.val := by
  change execReservationBusyRetry slot s = _
  refine run_congr ?_
  have busy : ((cleared s.hw).lthSlot slot.val).busySince = some t := busy
  have asking : ((cleared s.hw).lthSlot slot.val).phase = .reserving := asking
  have late : (cleared s.hw).now ≥ t + 2000000 := late
  simp only [busy, asking, ne_eq, not_true_eq_false, if_false, if_pos late]
  rfl

/-- In one of the device's contexts it frees its slot or parks it. -/
theorem reservationBusyRetry_late (hctx : (s.hw.lthSlot slot.val).ctx < 64) :
    Completes (.reservationBusyRetry slot) s fun h => LthOver h slot.val := by
  refine completes_of_run (exec_reservationBusyRetry_late s slot t busy asking late) (Hw.lthEnd_over _ _ slot.isLt ?_)
  rw [Hw.lthSlot_updLthSlot_same]
  exact hctx

end

/-! ### A context that the device does not have -/

/-- A device 2 ms after reset whose slot 3 has been refused as busy since then, in context 128; the device has contexts 0 to 63. Where the map would
have the handler of context 128 stands the unit of slot 3 (`ctxHandler_strayRetry`); its word is 512 here, and handle 513 names a task that waits. -/
def strayRetry : Hw :=
  let h := ((Hw.reset.setReg (SMU_UNIT 195) 512).updTask 1 fun t => { t with gen := 1, state := .waiting, count := 1 }).updLth fun l => { l with
    slots := [(3, { (default : LthSlot) with phase := .reserving, busySince := some 0, ctx := 128 })] }
  { h with cal := { h.cal with ns := 2000000 } }

theorem ctxHandler_strayRetry : SMU_CTX_HANDLER 128 = SMU_UNIT (192 + 3) := rfl

/-- The slot meets what the statement asks of a retry that ends. -/
theorem strayRetry_due : (strayRetry.lthSlot 3).busySince = some 0 ∧ (strayRetry.lthSlot 3).phase = .reserving ∧ 0 + 2000000 ≤ strayRetry.now := by
  decide +kernel

/-- The request ends with its response unwritten: the response faults and the unit parks, so that its word is 513 in the handle's octets; the notice
of the fault takes that for the task's handle and clears it, and the parked state with it. -/
theorem strayRetry_lost : (((cleared strayRetry).retryEnds 3).lthSlot 3).phase = .writing ∧
    ((cleared strayRetry).retryEnds 3).isParked (192 + 3) = false := by
  decide +kernel

/-- Refutes O21: its clause on a retry that ends bounds the context of the request by nothing, and the slot of `strayRetry`, in context 128, ends
neither free nor parked. In contexts 0 to 63 the clause holds (`reservationBusyRetry_late`). -/
theorem not_latheRequestsComplete : ¬ Obligations.LatheRequestsComplete := by
  intro ⟨_, _, _, _, _, _, _, ends⟩
  obtain ⟨busy, asking, late⟩ := strayRetry_due
  have ended := run_of_completes (ends ⟨strayRetry, []⟩ 3 0 busy asking late) (exec_reservationBusyRetry_late ⟨strayRetry, []⟩ 3 0 busy asking late)
  obtain ⟨writing, unparked⟩ := strayRetry_lost
  rcases ended with free | parked
  · exact absurd (writing.symm.trans free) (by decide)
  · exact Bool.false_ne_true (unparked.symm.trans parked)

end Sys2Proof.Machine
end

section
/-! PROOFS. Track frames are queued and dropped, profiles end (R209–R211), and O22 is settled. -/

namespace Sys2Proof.Machine

open Reg Sys2Proof.Safety

/-! ### Folds that reach one index once -/

/-- A fold over a list without repeats reaches `k` once: what the other steps keep before and after it, and what its own step makes of it. -/
theorem foldl_reaches {β : Type} {f : Hw → β → Hw} {k : β} {Pre Post : Hw → Prop} (before : ∀ h j, j ≠ k → Pre h → Pre (f h j))
    (reached : ∀ h, Pre h → Post (f h k)) (after : ∀ h j, j ≠ k → Post h → Post (f h j)) :
    ∀ (l : List β), l.Nodup → k ∈ l → ∀ h, Pre h → Post (l.foldl f h)
  | j :: l, nodup, mem, h, pre => by
    obtain ⟨notin, nodup⟩ := List.nodup_cons.mp nodup
    by_cases e : j = k
    · subst e
      have kept : ∀ (l : List β) (g : Hw), j ∉ l → Post g → Post (l.foldl f g) := fun l => by
        induction l with
        | nil => exact fun _ _ post => post
        | cons i l ih =>
          intro g ni post
          obtain ⟨ne, ni⟩ := not_or.mp fun e => ni (List.mem_cons.mpr e)
          exact ih _ ni (after g i (Ne.symm ne) post)
      exact kept l _ notin (reached h pre)
    · exact foldl_reaches before reached after l nodup ((List.mem_cons.mp mem).resolve_left fun e' => e e'.symm) _ (before h j e pre)

/-! ### What a track frame leaves (R211, R248) -/

/-- A register of the radio's window, of its neighbour's or of the pair's (R24). -/
abbrev fleetReg (k : Nat) : Prop := 0x110000 ≤ k ∧ k < 0x140000

theorem recordingRegs_not_fleetReg : ∀ k ∈ logRegs ++ deliveryRegs, ¬ fleetReg k := by decide

theorem fleetReg.not_log {k : Nat} (hk : fleetReg k) : k ∉ logRegs := fun hm => recordingRegs_not_fleetReg k (List.mem_append_left _ hm) hk

theorem fleetReg.not_delivery {k : Nat} (hk : fleetReg k) : k ∉ deliveryRegs := fun hm =>
  recordingRegs_not_fleetReg k (List.mem_append_right _ hm) hk

/-- `g` binds robots to lanes, holds tokens as valid and acts as `h` does. -/
structure FleetKept (h g : Hw) : Prop where
  rsv : g.rsv = h.rsv
  rad : g.rad = h.rad
  regs : ∀ k, fleetReg k → g.reg k = h.reg k

theorem FleetKept.refl (h : Hw) : FleetKept h h := ⟨rfl, rfl, fun _ _ => rfl⟩

theorem FleetKept.trans {a b c : Hw} (p : FleetKept a b) (q : FleetKept b c) : FleetKept a c :=
  ⟨q.rsv.trans p.rsv, q.rad.trans p.rad, fun k hk => (q.regs k hk).trans (p.regs k hk)⟩

section
variable {h g : Hw} (kept : FleetKept h g)
include kept

theorem FleetKept.f_eq {k : Nat} (hk : fleetReg k) (l : Fld) : g.f k l = h.f k l := by rw [Hw.f, kept.regs k hk, Hw.f]

theorem FleetKept.acts_eq : g.acts = h.acts := by
  have stat : fleetReg EQX_STAT := by decide
  have cfg : fleetReg EQX_CFG := by decide
  rw [Hw.acts, Hw.paired, Hw.role, Hw.flag, kept.f_eq stat, kept.f_eq cfg]
  rfl

theorem FleetKept.tokenValid_eq (t : Nat) : g.tokenValid t = h.tokenValid t := by rw [Hw.tokenValid, kept.rsv, Hw.tokenValid]

theorem FleetKept.laneOf_eq (robot : Nat) : g.laneOf robot = h.laneOf robot := by
  have slots : ∀ n ∈ List.range 8, g.slotsOf n false = h.slotsOf n false := fun n hn => by
    refine List.filterMap_congr fun k hk => ?_
    have slot : fleetReg (RAD_SLOT n k) := by
      rw [List.mem_range] at hn hk
      simp only [fleetReg, RAD_SLOT]
      omega
    simp only [kept.f_eq slot, Bool.false_eq_true, if_false]
  have found : ((List.range 8).find? fun n => (g.slotsOf n false).any fun p => decide (p.1 = robot)) =
      (List.range 8).find? fun n => (h.slotsOf n false).any fun p => decide (p.1 = robot) :=
    List.find?_congr fun n hn => by rw [slots n hn]
  rw [Hw.laneOf, found, kept.rad]
  rfl

end

section
variable (h : Hw)

theorem FleetKept.fifoNotice {f : Nat} (hf : f < 64) : FleetKept h (h.fifoNotice f) where
  rsv := by rw [Hw.fifoNotice, Hw.notice_rsv, Hw.deviceLine_rsv]
  rad := by rw [Hw.fifoNotice, Hw.notice_rad, Hw.deviceLine_rad]
  regs k hk := by
    have ne : k ≠ STM_NOTICE f := by
      simp only [fleetReg] at hk
      simp only [STM_NOTICE]
      omega
    rw [Hw.fifoNotice, Hw.notice_reg _ _ _ ne hk.not_delivery, Hw.deviceLine_reg _ _ _ hk.not_delivery]

theorem FleetKept.hwSend {f : Nat} (hf : f < 64) (prod tag : Nat) (bs : List Byte) : FleetKept h (h.hwSend prod f tag bs).1 := by
  unfold Hw.hwSend
  split
  · exact .refl h
  · split
    · exact FleetKept.trans (b := h.setFifo f _) ⟨rfl, rfl, fun _ _ => rfl⟩ (.fifoNotice _ hf)
    · exact ⟨rfl, rfl, fun _ _ => rfl⟩

/-- A packet that a hardware producer offers leaves Lathe. -/
theorem Hw.hwSend_lth (prod f tag : Nat) (bs : List Byte) : (h.hwSend prod f tag bs).1.lth = h.lth := by
  have noticed (g : Hw) : (g.fifoNotice f).lth = g.lth := by rw [Hw.fifoNotice, Hw.notice_lth, Hw.deviceLine_lth]
  unfold Hw.hwSend
  split
  · rfl
  · split
    · exact noticed _
    · rfl

theorem FleetKept.kfDropped (lane : Nat) : FleetKept h (h.kfDropped lane) where
  rsv := by rw [Hw.kfDropped, Hw.raise_rsv, Hw.bump_rsv]
  rad := by rw [Hw.kfDropped, Hw.raise_rad, Hw.bump_rad]
  regs k hk := by
    have irq : k ≠ LTH_IRQ_STAT := fun e => absurd (e ▸ hk) (by decide)
    have err : k ≠ LTH_ERR := fun e => absurd (e ▸ hk) (by decide)
    rw [Hw.kfDropped, Hw.raise_reg _ _ _ _ _ irq hk.not_log, Hw.reg_bump_other _ _ _ _ _ err]

/-! ### A track frame (R211) -/

/-- A packet goes to the track stream of a lane, or is counted as dropped. -/
def Hw.sendTrack (h : Hw) (lane : Nat) (bs : List Byte) : Hw :=
  let sent := h.hwSendFree prodLth (h.f (RAD_LANE_FIFO lane) RAD_LANE_FIFO.tx_track) bs
  if sent.2 then sent.1.kfDropped lane else sent.1

theorem FleetKept.sendTrack (lane : Nat) (bs : List Byte) : FleetKept h (h.sendTrack lane bs) := by
  have stream : h.f (RAD_LANE_FIFO lane) RAD_LANE_FIFO.tx_track < 64 := Fld.get_lt _ _
  have sent : FleetKept h (h.hwSendFree prodLth (h.f (RAD_LANE_FIFO lane) RAD_LANE_FIFO.tx_track) bs).1 :=
    FleetKept.trans (b := h.useFree 1) ⟨rfl, rfl, fun _ _ => rfl⟩ (.hwSend _ stream _ _ _)
  unfold Hw.sendTrack
  dsimp only
  split
  · exact sent.trans (.kfDropped _ _)
  · exact sent

theorem Hw.sendTrack_lth (lane : Nat) (bs : List Byte) : (h.sendTrack lane bs).lth = h.lth := by
  have sent (f : Nat) : (h.hwSendFree prodLth f bs).1.lth = h.lth := Hw.hwSend_lth _ _ _ _ _
  unfold Hw.sendTrack
  dsimp only
  split
  · rw [Hw.kfDropped, Hw.raise_lth, Hw.bump_lth, sent]
  · exact sent _

/-- A robot's active profile with one more frame queued. -/
def Hw.frameCounted (h : Hw) (r : Nat) (p : Profile) (finals : Nat) : Hw :=
  h.updLth fun l => { l with active := l.active.set r (some { p with frames := p.frames + 1, finals := finals }) }

theorem Hw.frameCounted_active_same (r : Nat) (p : Profile) (finals : Nat) :
    (h.frameCounted r p finals).lth.active.at r = some { p with frames := p.frames + 1, finals := finals } := Map.at_set_same _ _ _

theorem Hw.frameCounted_active_other {r robot : Nat} (ne : r ≠ robot) (p : Profile) (finals : Nat) :
    (h.frameCounted r p finals).lth.active.at robot = h.lth.active.at robot := Map.at_set_other _ _ _ _ ne.symm

/-- A robot whose active profile queues frames: it is bound to a lane, its token is valid, and the unit acts. -/
structure MayTrack (h : Hw) (r : Nat) (p : Profile) : Prop where
  active : h.activeProf r = some p
  lane : (h.laneOf r).isSome = true
  acts : h.acts = true
  valid : h.tokenValid p.token = true

/-- A frame is queued, or nothing happens. -/
theorem Hw.queueTrack_cases (r : Nat) : h.queueTrack r = h ∨ ∃ p n finals bs, h.queueTrack r = (h.frameCounted r p finals).sendTrack n bs := by
  unfold Hw.queueTrack
  split
  · split
    · exact .inl rfl
    · exact .inr ⟨_, _, _, _, rfl⟩
  · exact .inl rfl

variable {h}

theorem MayTrack.queueTrack {r : Nat} {p : Profile} (may : MayTrack h r p) :
    ∃ n finals bs, h.queueTrack r = (h.frameCounted r p finals).sendTrack n bs := by
  obtain ⟨n, hn⟩ := Option.isSome_iff_exists.mp may.lane
  unfold Hw.queueTrack
  simp only [may.active, hn, may.acts, may.valid, not_true_eq_false, or_self, if_false]
  exact ⟨_, _, _, rfl⟩

/-- The frame of a robot that may track is counted. -/
theorem MayTrack.counted {r : Nat} {p : Profile} (may : MayTrack h r p) :
    ((h.queueTrack r).activeProf r).map Profile.frames = some (p.frames + 1) := by
  obtain ⟨n, finals, bs, e⟩ := may.queueTrack
  rw [e, Hw.activeProf, Hw.sendTrack_lth, Hw.frameCounted_active_same]
  rfl

variable (h)

/-- Another robot's frame leaves a robot's active profile. -/
theorem Hw.queueTrack_activeProf_other {r robot : Nat} (ne : r ≠ robot) : (h.queueTrack r).activeProf robot = h.activeProf robot := by
  obtain e | ⟨p, n, finals, bs, e⟩ := h.queueTrack_cases r
  · rw [e]
  · rw [e, Hw.activeProf, Hw.sendTrack_lth, Hw.frameCounted_active_other h ne, Hw.activeProf]

theorem FleetKept.queueTrack (r : Nat) : FleetKept h (h.queueTrack r) := by
  obtain e | ⟨p, n, finals, bs, e⟩ := h.queueTrack_cases r
  · rw [e]
    exact .refl h
  · rw [e]
    exact FleetKept.trans (b := h.frameCounted r p finals) ⟨rfl, rfl, fun _ _ => rfl⟩ (.sendTrack _ _ _)

end

/-- Another robot's frame leaves a robot free to track. -/
theorem MayTrack.queueTrack_other {h : Hw} {r robot : Nat} {p : Profile} (may : MayTrack h robot p) (ne : r ≠ robot) :
    MayTrack (h.queueTrack r) robot p where
  active := (h.queueTrack_activeProf_other ne).trans may.active
  lane := by rw [(FleetKept.queueTrack h r).laneOf_eq, may.lane]
  acts := by rw [(FleetKept.queueTrack h r).acts_eq, may.acts]
  valid := by rw [(FleetKept.queueTrack h r).tokenValid_eq, may.valid]

theorem mem_allRobots {robot : Nat} (low : 1 ≤ robot) (high : robot ≤ 128) : robot ∈ allRobots :=
  List.mem_map.mpr ⟨robot - 1, List.mem_range.mpr (by omega), by omega⟩

theorem allRobots_nodup : allRobots.Nodup := List.nodup_range.map fun _ _ e => Nat.succ.inj e

/-- At a boundary every robot that may track has its frame counted. -/
theorem MayTrack.boundary {h : Hw} {robot : Nat} {p : Profile} (may : MayTrack h robot p) (low : 1 ≤ robot) (high : robot ≤ 128) :
    ((allRobots.foldl Hw.queueTrack h).activeProf robot).map Profile.frames = some (p.frames + 1) :=
  foldl_reaches (f := Hw.queueTrack) (Pre := fun h => MayTrack h robot p)
    (Post := fun h => (h.activeProf robot).map Profile.frames = some (p.frames + 1))
    (fun _ _ ne may => may.queueTrack_other ne) (fun _ may => may.counted)
    (fun h r ne counted => by rw [h.queueTrack_activeProf_other ne, counted]) allRobots allRobots_nodup (mem_allRobots low high) h may

/-- KF_DROP_TIMEOUT drops the oldest frame held back from a lane's stream, counts it and raises its interrupt bit. -/
theorem kfDropTimeout_completes (s : State) (lane : Fin 8)
    (held : s.hw.holdsPacket prodLth (s.hw.f (RAD_LANE_FIFO lane.val) RAD_LANE_FIFO.tx_track) = true)
    (room : s.hw.f LTH_ERR LTH_ERR.kf_dropped < LTH_ERR.kf_dropped.max) :
    Completes (.kfDropTimeout lane) s fun h =>
      h.f LTH_ERR LTH_ERR.kf_dropped = s.hw.f LTH_ERR LTH_ERR.kf_dropped + 1 ∧ h.flag LTH_IRQ_STAT LTH_IRQ_STAT.kf_dropped = true := by
  have dropped : exec (.kfDropTimeout lane) s = run s fun h =>
      (h.dropHeld prodLth (h.f (RAD_LANE_FIFO lane.val) RAD_LANE_FIFO.tx_track)).kfDropped lane.val := by
    change execKfDropTimeout lane s = _
    exact run_congr (if_pos held)
  refine completes_of_run dropped ⟨?_, ?_⟩
  · rw [Hw.kfDropped, Hw.raise_f _ _ _ _ _ _ (by decide) (by decide)]
    exact Hw.f_bump_lt _ _ _ _ (by decide) room
  · exact Hw.raise_flag _ _ _ _ (by decide) (by decide) (by decide)

/-! ### The end of a profile (R209, R210) -/

/-- The device has lost a profile: its token is out of force, or stands under an acknowledgement while it is not valid (R180, R210). -/
def Hw.lostProf (h : Hw) (p : Profile) : Bool :=
  decide (h.inForce p.token = false) || (decide ((h.rsv.toks.at (tokIdx p.token)).state = 2) && !h.tokenValid p.token)

section
variable (h : Hw)

theorem Hw.mirror_lth (i : MirrorItem) : (h.mirror i).lth = h.lth := by
  unfold Hw.mirror
  split <;> rfl

theorem Hw.setProfs_active (r : Nat) (a p : Option Profile) : (h.setProfs r a p).activeProf r = a := by
  rw [Hw.activeProf, Hw.setProfs, Hw.mirror_lth]
  exact Map.at_set_same _ _ _

theorem Hw.setProfs_pending (r : Nat) (a p : Option Profile) : (h.setProfs r a p).pendingProf r = p := by
  rw [Hw.pendingProf, Hw.setProfs, Hw.mirror_lth]
  exact Map.at_set_same _ _ _

variable {h} {r : Nat} {p : Profile} (active : h.activeProf r = some p)
include active

/-- A profile whose final keyframe has been repeated gives way. -/
theorem Hw.profileEnd_done (lost : h.lostProf p = false) (done : h.kfRepeat ≤ p.finals) :
    h.profileEnd r = h.setProfs r (h.pendingProf r) none := by
  unfold Hw.lostProf at lost
  unfold Hw.profileEnd
  simp only [active, lost, ge_iff_le, done, Bool.false_eq_true, not_false_eq_true, decide_true, not_true_eq_false, and_false, if_false]

/-- A profile that is lost ends; a successor that is lost too ends with it. -/
theorem Hw.profileEnd_lost (lost : h.lostProf p = true) :
    h.profileEnd r = (h.setProfs r ((h.pendingProf r).filter fun n => h.inForce n.token) none).raise LTH_IRQ_STAT LTH_IRQ_STAT.ended r := by
  unfold Hw.lostProf at lost
  unfold Hw.profileEnd
  simp only [active, lost, not_true_eq_false, false_and, if_false, if_true]

end

/-- Settles O22: a frame is counted (`MayTrack.counted`, `MayTrack.boundary`), a frame held too long is dropped, and a profile ends as
`Hw.profileEnd_done` and `Hw.profileEnd_lost` say. -/
theorem trackCommandsComplete : Obligations.TrackCommandsComplete := by
  have may (s : State) {robot : Nat} {p : Profile} {n : Nat} (active : s.hw.activeProf robot = some p) (lane : s.hw.laneOf robot = some n)
      (acts : s.hw.acts = true) (valid : s.hw.tokenValid p.token = true) : MayTrack (cleared s.hw) robot p :=
    ⟨active, Option.isSome_iff_exists.mpr ⟨n, lane⟩, acts, valid⟩
  refine ⟨?_, ?_, kfDropTimeout_completes, ?_, ?_⟩
  · intro s robot p n active lane acts valid
    exact completes_of_run (e := fun h => h.queueTrack robot.val) rfl (may s active lane acts valid).counted
  · intro s robot p n low high active lane acts valid
    exact completes_of_run (e := fun h => allRobots.foldl Hw.queueTrack h) rfl ((may s active lane acts valid).boundary low high)
  · intro s robot p active inForce acked done
    have lost : (cleared s.hw).lostProf p = false := by
      have inForce' : (cleared s.hw).inForce p.token = true := inForce
      by_cases st : ((cleared s.hw).rsv.toks.at (tokIdx p.token)).state = 2
      · have valid : (cleared s.hw).tokenValid p.token = true := acked st
        simp [Hw.lostProf, inForce', valid]
      · simp [Hw.lostProf, inForce', st]
    refine completes_of_run (e := fun h => h.profileEnd robot.val) rfl ?_
    rw [Hw.profileEnd_done (h := cleared s.hw) active lost done]
    exact ⟨Hw.setProfs_active _ _ _ _, Hw.setProfs_pending _ _ _ _⟩
  · intro s robot p active out
    have lost : (cleared s.hw).lostProf p = true := by
      have out' : (cleared s.hw).inForce p.token = false := out
      simp [Hw.lostProf, out']
    refine completes_of_run (e := fun h => h.profileEnd robot.val) rfl ?_
    rw [Hw.profileEnd_lost (h := cleared s.hw) active lost]
    refine ⟨?_, ?_, Hw.raise_flag _ _ _ _ (by decide) (by decide) (by decide)⟩
    · rw [Hw.activeProf, Hw.raise_lth]
      exact Hw.setProfs_active _ _ _ _
    · rw [Hw.pendingProf, Hw.raise_lth]
      exact Hw.setProfs_pending _ _ _ _

end Sys2Proof.Machine
end

section
/-! SUPPORT. What the operations on axes and groups leave: the links, the stop, the registers that enable AXL and its links, and every axis that is in
no group and not operated on (R214–R224). -/

namespace Sys2Proof.Machine

open Reg Sys2Proof.Safety

/-- The registers that enable AXL and its links. -/
def axlEnables : List Nat := AXL_CFG :: (List.range 4).map AXL_LINK_CFG

theorem mem_axlEnables {k : Nat} (hk : k < 4) : AXL_LINK_CFG k ∈ axlEnables :=
  List.mem_cons_of_mem _ (List.mem_map.mpr ⟨k, List.mem_range.mpr hk, rfl⟩)

theorem axlEnables_lt : ∀ k ∈ axlEnables, k < 0x100200 := by decide

theorem axlEnables_not_log : ∀ k ∈ axlEnables, k ∉ logRegs := by decide

/-- From its groups' registers on, no register of AXL enables anything. -/
theorem not_mem_axlEnables {k : Nat} (hk : 0x100200 ≤ k) : k ∉ axlEnables := fun hm => absurd (axlEnables_lt k hm) (by omega)

theorem grpStat_not_axlEnables (g : Nat) : AXL_GRP_STAT g ∉ axlEnables := not_mem_axlEnables (by unfold AXL_GRP_STAT; omega)

/-- `g` has AXL's links, its stop and what enables them as `h` has them, and the axes that are in no group and not in `ms`. -/
structure CycleKept (ms : List Nat) (h g : Hw) : Prop where
  links : g.axl.links = h.axl.links
  stop : g.axl.stop = h.axl.stop
  regs : ∀ k ∈ axlEnables, g.reg k = h.reg k
  ungrouped : ∀ n, n ∉ ms → (h.axis n).group = none → g.axis n = h.axis n

/-! ### How the frame composes -/

section
variable {ms : List Nat}

theorem CycleKept.of_axl {h g : Hw} (axl : g.axl = h.axl) (regs : ∀ k ∈ axlEnables, g.reg k = h.reg k) : CycleKept ms h g where
  links := by rw [axl]
  stop := by rw [axl]
  regs := regs
  ungrouped n _ _ := by rw [Hw.axis, axl, Hw.axis]

theorem CycleKept.refl (h : Hw) : CycleKept ms h h := .of_axl rfl fun _ _ => rfl

theorem CycleKept.trans {a b c : Hw} (p : CycleKept ms a b) (q : CycleKept ms b c) : CycleKept ms a c where
  links := q.links.trans p.links
  stop := q.stop.trans p.stop
  regs k hk := (q.regs k hk).trans (p.regs k hk)
  ungrouped n hn free := by
    have mid := p.ungrouped n hn free
    exact (q.ungrouped n hn (by rw [mid, free])).trans mid

/-- What leaves all axes but some leaves all but more. -/
theorem CycleKept.mono {ks : List Nat} {h g : Hw} (p : CycleKept ks h g) (sub : ∀ n ∈ ks, n ∈ ms) : CycleKept ms h g :=
  ⟨p.links, p.stop, p.regs, fun n hn => p.ungrouped n fun hm => hn (sub n hm)⟩

theorem CycleKept.weaken {h g : Hw} (p : CycleKept [] h g) : CycleKept ms h g := p.mono fun _ hn => nomatch hn

theorem CycleKept.ite {c : Prop} [Decidable c] {h a b : Hw} (p : CycleKept ms h a) (q : CycleKept ms h b) : CycleKept ms h (if c then a else b) := by
  split
  · exact p
  · exact q

theorem CycleKept.foldl {β : Type} (f : Hw → β → Hw) (l : List β) (hf : ∀ h, ∀ b ∈ l, CycleKept ms h (f h b)) (h : Hw) :
    CycleKept ms h (l.foldl f h) := by
  induction l generalizing h with
  | nil => exact .refl h
  | cons b l ih => exact (hf h b List.mem_cons_self).trans (ih (fun h c hc => hf h c (List.mem_cons_of_mem b hc)) (f h b))

variable (h : Hw)

theorem CycleKept.setReg {k : Nat} (w : Word) (hk : k ∉ axlEnables := by decide) : CycleKept ms h (h.setReg k w) :=
  .of_axl rfl fun _ hj => Hw.reg_setReg_other _ _ _ _ fun e => hk (e ▸ hj)

theorem CycleKept.setF {k : Nat} (f : Fld) (v : Nat) (hk : k ∉ axlEnables := by decide) : CycleKept ms h (h.setF k f v) := .setReg h _ hk

theorem CycleKept.bump {k : Nat} (c s : Fld) (hk : k ∉ axlEnables := by decide) : CycleKept ms h (h.bump k c s) :=
  .ite (.setF h _ _ hk) (.setF h _ _ hk)

theorem CycleKept.raise {k : Nat} (f : Fld) (i : Nat) (hk : k ∉ axlEnables := by decide) : CycleKept ms h (h.raise k f i) :=
  .of_axl (Hw.raise_axl _ _ _ _) fun j hj => Hw.raise_reg _ _ _ _ _ (fun e => hk (e ▸ hj)) (axlEnables_not_log j hj)

theorem CycleKept.mirror (i : MirrorItem) : CycleKept ms h (h.mirror i) := by
  unfold Hw.mirror
  split
  · exact .of_axl rfl fun _ _ => rfl
  · exact .refl h

theorem CycleKept.updGroup (g : Nat) (u : GroupSt → GroupSt) : CycleKept ms h (h.updGroup g u) := ⟨rfl, rfl, fun _ _ => rfl, fun _ _ _ => rfl⟩

theorem CycleKept.setGrp (g st : Nat) : CycleKept ms h (h.setGrp g st) := .setF h _ _ (grpStat_not_axlEnables g)

end

/-! ### One axis -/

@[simp] theorem Hw.axis_updAxis_same (h : Hw) (n : Nat) (u : AxisSt → AxisSt) : (h.updAxis n u).axis n = u (h.axis n) :=
  Map.at_upd_same h.axl.axes n u

theorem Hw.axis_updAxis_other (h : Hw) {m n : Nat} (u : AxisSt → AxisSt) (ne : m ≠ n) : (h.updAxis n u).axis m = h.axis m :=
  Map.at_upd_other h.axl.axes n m u ne

theorem Hw.mirror_axl (h : Hw) (i : MirrorItem) : (h.mirror i).axl = h.axl := by
  unfold Hw.mirror
  split <;> rfl

@[simp] theorem Hw.axis_mirrorAxis (h : Hw) (m n : Nat) : (h.mirrorAxis n).axis m = h.axis m := by
  rw [Hw.axis, Hw.mirrorAxis, Hw.mirror_axl, Hw.axis]

section
variable (h : Hw) (n : Nat)

theorem CycleKept.updAxis (u : AxisSt → AxisSt) : CycleKept [n] h (h.updAxis n u) where
  links := rfl
  stop := rfl
  regs _ _ := rfl
  ungrouped _ hm _ := h.axis_updAxis_other u fun e => hm (List.mem_singleton.mpr e)

theorem CycleKept.mirrorAxis {ms : List Nat} : CycleKept ms h (h.mirrorAxis n) := .mirror h _

theorem CycleKept.stopAxis : CycleKept [n] h (h.stopAxis n) :=
  .ite (.refl h) (.trans (.updAxis h n _) (.mirrorAxis _ n))

theorem CycleKept.haltAxis : CycleKept [n] h (h.haltAxis n) := .updAxis h n _

theorem CycleKept.runAxis (v : Int) (st : AxState) : CycleKept [n] h (h.runAxis n v st) := .updAxis h n _

theorem CycleKept.homeStart : CycleKept [n] h (h.homeStart n) := .trans (.runAxis h n _ _) (.updAxis _ n _)

theorem CycleKept.axResult (r : Nat) : CycleKept [n] h (h.axResult n r) :=
  .ite (.updAxis h n _) (.trans (.updAxis h n _) (.bump _ _ _))

theorem CycleKept.iteFst {ms : List Nat} {c : Prop} [Decidable c] {a b : Hw × Nat} (p : CycleKept ms h a.1) (q : CycleKept ms h b.1) :
    CycleKept ms h (if c then a else b).1 := by
  split
  · exact p
  · exact q

/-- A command on an axis. -/
theorem CycleKept.axCommand (op : Nat) : CycleKept [n] h (h.axCommand n op).1 := by
  have done (u : AxisSt → AxisSt) (r : Nat) : CycleKept [n] h (h.updAxis n u, r).1 := .updAxis h n u
  have none (r : Nat) : CycleKept [n] h (h, r).1 := .refl h
  unfold Hw.axCommand
  refine .iteFst h (done _ 0) (.iteFst h (none 1) (.iteFst h ?enable (.iteFst h ?move (.iteFst h ?jog (.iteFst h ?halt (.iteFst h ?home
    (.iteFst h ?setPos (.iteFst h ?follow (.iteFst h ?release (none 5))))))))))
  case enable => exact .iteFst h (none 2) (.iteFst h (none 0) (done _ 0))
  case move =>
    dsimp only
    split
    · exact done _ 0
    · exact none _
  case jog =>
    dsimp only
    split
    · exact .runAxis h n _ _
    · exact none _
  case halt =>
    split
    · exact none 0
    · exact none 0
    · exact .iteFst h (none 0) (.trans (.updAxis h n _) (.haltAxis _ n))
  case home =>
    split
    · exact .iteFst h (none 5) (.homeStart h n)
    · exact none _
  case setPos => exact .iteFst h (none 3) (done _ 0)
  case follow =>
    split
    · exact done _ 0
    · exact none _
  case release => exact .iteFst h (none 2) (done _ 0)

theorem CycleKept.axTakeCmd : CycleKept [n] h (h.axTakeCmd n) := by
  unfold Hw.axTakeCmd
  split
  · exact .refl h
  · exact (CycleKept.updAxis h n _).trans (.trans (.axCommand _ n _) (.trans (.axResult _ n _) (.mirrorAxis _ n)))

/-! ### Homing and motion (R217, R218, R222, R223) -/

theorem CycleKept.homeFail : CycleKept [n] h (h.homeFail n) :=
  .trans (.updAxis h n _) (.trans (.haltAxis _ n) (.trans (.bump _ _ _) (.raise _ _ _)))

theorem CycleKept.homeZero (ref : Int) : CycleKept [n] h (h.homeZero n ref) :=
  .trans (.updAxis h n _) (.trans (.haltAxis _ n) (.raise _ _ _))

/-- The homing run away from the reference that was found. -/
theorem CycleKept.backOff (v : Int) (u : AxisSt → AxisSt) : CycleKept [n] h ((h.runAxis n v .homing).updAxis n u) :=
  .trans (.runAxis h n _ _) (.updAxis _ n _)

theorem CycleKept.latch (v : Nat) : CycleKept [n] h (h.setReg64 (AXL_AX_LATCH_LO n) v) :=
  .trans (.setReg h _ (not_mem_axlEnables (by unfold AXL_AX_LATCH_LO; omega)))
    (.setReg _ _ (not_mem_axlEnables (by unfold AXL_AX_LATCH_LO; omega)))

theorem CycleKept.homeCycle : CycleKept [n] h (h.homeCycle n) := by
  unfold Hw.homeCycle
  dsimp only
  split
  · exact .refl h
  · exact .ite (.trans (.haltAxis h n) (.updAxis _ n _)) (.ite (.trans (.updAxis h n _) (.backOff _ n _ _)) (.ite (.homeFail h n) (.refl h)))
  · exact .ite (.backOff h n _ _) (.refl h)
  · exact .ite (.ite (.refl h) (.updAxis h n _)) (.ite (.ite (.updAxis h n _) (.homeZero h n _)) (.refl h))
  · exact .ite (.trans (.latch h n _) (.updAxis _ n _)) (.ite (.homeFail h n) (.refl h))
  · exact .homeZero h n _

theorem CycleKept.axisArrived : CycleKept [n] h (h.axisArrived n) := by
  refine CycleKept.trans (.updAxis h n fun x => { x with phases := [], v := 0, a := 0, jog := false, rest := 0 }) ?_
  unfold Hw.axisArrived
  dsimp only
  split
  · exact .trans (.updAxis _ n _) (.trans (.raise _ _ _) (.mirrorAxis _ n))
  · exact .trans (.updAxis _ n _) (.mirrorAxis _ n)
  · exact .refl _

theorem CycleKept.axisMove : CycleKept [n] h (h.axisMove n) :=
  .ite (.refl h) (.ite (.updAxis h n _) (.ite (.updAxis h n _) (.ite (.trans (.updAxis h n _) (.axisArrived _ n)) (.updAxis h n _))))

end

/-! ### Groups (R219–R221) -/

section
variable (h : Hw)

/-- An axis in a group may change. -/
theorem CycleKept.updGrouped {n : Nat} (grouped : (h.axis n).group ≠ none) (u : AxisSt → AxisSt) : CycleKept [] h (h.updAxis n u) where
  links := rfl
  stop := rfl
  regs _ _ := rfl
  ungrouped _ _ free := h.axis_updAxis_other u fun e => grouped (e ▸ free)

/-- A change of a group's member, where it is still in the group. -/
theorem CycleKept.member {g n : Nat} (u : AxisSt → AxisSt) : CycleKept [] h (if (h.axis n).group = some g then h.updAxis n u else h) := by
  split
  · next e => exact .updGrouped h (by simp [e]) u
  · exact .refl h

theorem CycleKept.freeMembers (g : Nat) (st : AxState) : CycleKept [] h (h.freeMembers g st) := by
  refine .foldl _ _ (fun h p _ => ?_) h
  split
  · next e => exact .trans (.updGrouped h (by simp [e]) _) (.mirrorAxis _ _)
  · exact .refl h

theorem CycleKept.groupStop (g : Nat) (stop : Bool) (dec jerk : Nat → Nat) : CycleKept [] h (h.groupStop g stop dec jerk) :=
  .ite (.trans (.freeMembers h g _) (.setGrp _ g _))
    (.ite (.trans (.updGroup h g _) (.trans (.foldl _ _ (fun h _ _ => .member h _) _) (.setGrp _ g _))) (.refl h))

theorem CycleKept.groupCycle (g : Nat) : CycleKept [] h (h.groupCycle g) := by
  unfold Hw.groupCycle
  generalize h.groupAdvance g = q
  obtain ⟨adv, lag, count, clamped⟩ := q
  extract_lets st wasLag
  split
  · exact .refl h
  dsimp -zeta only
  extract_lets advanced lagging raised x l m ended s moved
  have timed : CycleKept [] h raised :=
    .trans (.updGroup h g _) (.trans (.setF advanced _ _ (grpStat_not_axlEnables g)) (.ite (.raise (k := AXL_IRQ_STAT) lagging _ _) (.refl _)))
  have placed : CycleKept [] h moved := timed.trans (.foldl _ _ (fun h _ _ => .member h _) _)
  exact .ite placed (.ite (placed.trans (.trans (.freeMembers _ g _) (.trans (.setGrp _ g _) (.raise (k := AXL_IRQ_STAT) _ _ _))))
    (placed.trans (.trans (.freeMembers _ g _) (.setGrp _ g _))))

end

section
variable (h : Hw) (n : Nat)

/-! ### One cycle of an axis (R214) -/

/-- A motion towards an active limit stops the axis, and its group. -/
theorem CycleKept.limitCheck : CycleKept [n] h (h.limitCheck n) := by
  have stopped (g : Hw) : CycleKept [n] g (((g.stopAxis n).bump AXL_ERR AXL_ERR.limit_stop AXL_ERR.limit_sat).raise AXL_IRQ_STAT AXL_IRQ_STAT.limit n) :=
    .trans (.stopAxis g n) (.trans (.bump _ _ _) (.raise _ _ _))
  unfold Hw.limitCheck
  dsimp only
  split
  · split
    · exact .trans (.updAxis h n _) (.trans (CycleKept.groupStop _ _ _ _ _).weaken (stopped _))
    · exact stopped h
  · exact .refl h

theorem CycleKept.axisCycle : CycleKept [n] h (h.axisCycle n) :=
  .trans (.axTakeCmd h n) (.trans (.axisMove _ n) (.trans (.homeCycle _ n) (.limitCheck _ n)))

end

end Sys2Proof.Machine
end

section
/-! PROOFS. A command written to an axis waits for the control cycle, which enables an axis that asked for it and advances every enabled link (R214,
R218). -/

namespace Sys2Proof.Machine

open Reg Sys2Proof.Safety

/-! ### Commands wait (R218) -/

theorem axisCommand_waits (s : State) (via : BusAcc) (n : Fin 16) {c : Instr} (op : Nat) (hp : Permitted s.hw via (AXL_AX_CMD n.val))
    (he : exec c s = run s fun h => h.axCmdWrite via n.val op) : Completes c s fun h =>
      (h.axis n.val).pendingCmd = some op ∧ (h.axis n.val).state = (s.hw.axis n.val).state ∧ (h.axis n.val).pos = (s.hw.axis n.val).pos := by
  have hp' : Permitted (cleared s.hw) via (AXL_AX_CMD n.val) := hp
  obtain ⟨g, written, e⟩ := Hw.axCmdWrite_permitted _ via n op hp'
  have axis : g.axis n.val = s.hw.axis n.val := congrArg (fun h => h.axis n.val) written.parts
  refine completes_of_run he ?_
  rw [e, Hw.axWrite, Hw.axis_updAxis_same, axis]
  exact ⟨rfl, rfl, rfl⟩

/-! ### The cycle of an axis that asks to be enabled (R218) -/

/-- An axis at rest, disabled and in no group, asks to be enabled; AXL is on and no stop holds it. -/
structure AsksEnable (h : Hw) (n : Nat) : Prop where
  on : h.flag AXL_CFG AXL_CFG.enable = true
  running : h.axl.stop = false
  asks : (h.axis n).pendingCmd = some 1
  off : (h.axis n).enable = false
  disabled : (h.axis n).state = .disabled
  home : (h.axis n).home = .none
  free : (h.axis n).group = none
  rest : atRest (h.axis n) = true

/-- An axis whose command to be enabled has been carried out, in no group. -/
structure Enabled (h : Hw) (n : Nat) : Prop where
  enable : (h.axis n).enable = true
  idle : (h.axis n).state = .idle
  taken : (h.axis n).pendingCmd = none
  ok : (h.axis n).result = 0
  free : (h.axis n).group = none

section
variable {h g : Hw} {n : Nat} {ms : List Nat} (p : CycleKept ms h g)
include p

theorem CycleKept.f_eq {k : Nat} (hk : k ∈ axlEnables) (l : Fld) : g.f k l = h.f k l := by rw [Hw.f, p.regs k hk, Hw.f]

theorem CycleKept.flag_eq {k : Nat} (hk : k ∈ axlEnables) (l : Fld) : g.flag k l = h.flag k l := by rw [Hw.flag, p.f_eq hk, Hw.flag]

theorem AsksEnable.kept (q : AsksEnable h n) (hn : n ∉ ms) : AsksEnable g n := by
  have axis := p.ungrouped n hn q.free
  obtain ⟨on, running, asks, off, disabled, home, free, rest⟩ := q
  constructor
  case on => rw [p.flag_eq List.mem_cons_self, on]
  case running => rw [p.stop, running]
  all_goals rw [axis]; assumption

theorem Enabled.kept (q : Enabled h n) (hn : n ∉ ms) : Enabled g n := by
  have axis := p.ungrouped n hn q.free
  obtain ⟨enable, idle, taken, ok, free⟩ := q
  constructor <;> rw [axis] <;> assumption

end

section
variable {h : Hw} {n : Nat}

/-- The command enables the axis. -/
theorem AsksEnable.axTakeCmd (q : AsksEnable h n) :
    (h.axTakeCmd n).axis n = { h.axis n with pendingCmd := none, enable := true, state := .idle, rest := 0, result := 0 } := by
  have cleared : ((h.updAxis n fun x => { x with pendingCmd := none }).axCommand n 1) =
      ((h.updAxis n fun x => { x with pendingCmd := none }).updAxis n fun x => { x with enable := true, state := .idle, rest := 0 }, 0) := by
    have on : (h.updAxis n fun x => { x with pendingCmd := none }).flag AXL_CFG AXL_CFG.enable = true := q.on
    have running : (h.updAxis n fun x => { x with pendingCmd := none }).axl.stop = false := q.running
    simp [Hw.axCommand, on, running, q.disabled, q.off]
  unfold Hw.axTakeCmd
  rw [q.asks]
  dsimp only
  rw [cleared, Hw.axis_mirrorAxis, Hw.axResult]
  simp

/-- An idle axis at rest, in no group, rests for another cycle. -/
theorem Hw.axisMove_rest (idle : (h.axis n).state = .idle) (free : (h.axis n).group = none) (rest : (h.axis n).phases.isEmpty = true) :
    h.axisMove n = h.updAxis n fun x => { x with rest := x.rest + cyclePs } := by
  unfold Hw.axisMove
  simp [idle, free, rest]

/-- An axis that is not homing does nothing in its homing step. -/
theorem Hw.homeCycle_none (home : (h.axis n).home = .none) : h.homeCycle n = h := by
  unfold Hw.homeCycle
  simp only [home]

/-- An axis that stands does not move towards a limit. -/
theorem Hw.limitCheck_still (still : (h.axis n).v = 0) : h.limitCheck n = h := by
  unfold Hw.limitCheck
  simp [towardLimit, still]

theorem AsksEnable.axisCycle (q : AsksEnable h n) : Enabled (h.axisCycle n) n := by
  have taken := q.axTakeCmd
  obtain ⟨rest, still⟩ := Bool.and_eq_true_iff.mp q.rest
  have moved : (h.axTakeCmd n).axisMove n = (h.axTakeCmd n).updAxis n fun x => { x with rest := x.rest + cyclePs } :=
    Hw.axisMove_rest (by rw [taken]) (by rw [taken]; exact q.free) (by rw [taken]; exact rest)
  have axis : ((h.axTakeCmd n).axisMove n).axis n =
      { h.axis n with pendingCmd := none, enable := true, state := .idle, rest := 0 + cyclePs, result := 0 } := by
    rw [moved, Hw.axis_updAxis_same, taken]
  have home : (((h.axTakeCmd n).axisMove n).axis n).home = .none := by rw [axis]; exact q.home
  have stands : (((h.axTakeCmd n).axisMove n).axis n).v = 0 := by rw [axis]; exact of_decide_eq_true still
  have cycle : h.axisCycle n = (h.axTakeCmd n).axisMove n := by rw [Hw.axisCycle, Hw.homeCycle_none home, Hw.limitCheck_still stands]
  constructor <;> rw [cycle, axis]
  exact q.free

end

/-! ### Links (R214) -/

theorem linkStat_not_axlEnables (k : Nat) : AXL_LINK_STAT k ∉ axlEnables := by
  intro hm
  simp only [axlEnables, List.mem_cons, List.mem_map, AXL_LINK_STAT, AXL_CFG, AXL_LINK_CFG] at hm
  omega

section
variable (h : Hw)

theorem Hw.axLink_updLink_same (k : Nat) (u : LinkSt → LinkSt) : (h.updLink k u).axLink k = u (h.axLink k) :=
  Map.at_upd_same h.axl.links k u

theorem Hw.axLink_updLink_other {j k : Nat} (u : LinkSt → LinkSt) (ne : j ≠ k) : (h.updLink k u).axLink j = h.axLink j :=
  Map.at_upd_other h.axl.links k j u ne

/-- The sequence of an enabled link advances. -/
def Hw.linkAdvanced (k : Nat) : Hw :=
  if h.flag (AXL_LINK_CFG k) AXL_LINK_CFG.enable then h.updLink k fun l => { l with seq := (l.seq + 1) % 256 } else h

/-- Beside the sequence, a link's part of a cycle changes the link's state and what is sent. -/
theorem CycleKept.linkCycle (k : Nat) : CycleKept [] (h.linkAdvanced k) (h.linkCycle k) := by
  have stat (g : Hw) (st : Nat) : CycleKept [] g (g.setF (AXL_LINK_STAT k) AXL_LINK_STAT.state st) := .setF g _ _ (linkStat_not_axlEnables k)
  unfold Hw.linkAdvanced Hw.linkCycle
  by_cases on : h.flag (AXL_LINK_CFG k) AXL_LINK_CFG.enable = true
  · rw [if_pos on, if_neg (not_not.mpr on)]
    exact .trans (.ite (stat _ 1) (.refl _)) (.ite (.of_axl rfl fun _ _ => rfl) (.refl _))
  · rw [if_neg on, if_pos on]
    exact stat h 0

theorem Hw.linkAdvanced_axes (k : Nat) : (h.linkAdvanced k).axl.axes = h.axl.axes := by
  unfold Hw.linkAdvanced
  split <;> rfl

theorem Hw.linkAdvanced_regs (k : Nat) : (h.linkAdvanced k).regs = h.regs := by
  unfold Hw.linkAdvanced
  split <;> rfl

theorem Hw.linkCycle_flag (j : Nat) {k : Nat} (hk : k ∈ axlEnables) (l : Fld) : (h.linkCycle j).flag k l = h.flag k l := by
  rw [(CycleKept.linkCycle h j).flag_eq hk, Hw.flag, Hw.f, Hw.reg, h.linkAdvanced_regs j]
  rfl

theorem Hw.linkCycle_seq {k : Nat} (on : h.flag (AXL_LINK_CFG k) AXL_LINK_CFG.enable = true) :
    ((h.linkCycle k).axLink k).seq = ((h.axLink k).seq + 1) % 256 := by
  rw [Hw.axLink, (CycleKept.linkCycle h k).links, Hw.linkAdvanced, if_pos on]
  exact congrArg LinkSt.seq (h.axLink_updLink_same k _)

theorem Hw.linkCycle_axLink_other {j k : Nat} (ne : j ≠ k) : (h.linkCycle j).axLink k = h.axLink k := by
  rw [Hw.axLink, (CycleKept.linkCycle h j).links, Hw.linkAdvanced]
  split
  · exact h.axLink_updLink_other _ ne.symm
  · rfl

theorem Enabled.linkCycle {n : Nat} (q : Enabled h n) (k : Nat) : Enabled (h.linkCycle k) n := by
  have axis : (h.linkAdvanced k).axis n = h.axis n := by rw [Hw.axis, h.linkAdvanced_axes k, Hw.axis]
  refine Enabled.kept (CycleKept.linkCycle h k) ?_ (List.not_mem_nil)
  obtain ⟨enable, idle, taken, ok, free⟩ := q
  constructor <;> rw [axis] <;> assumption

/-! ### The control cycle (R214) -/

/-- The axes and groups after a control cycle, before the links' frames. -/
def Hw.motionCycled : Hw :=
  let h := if h.flag AXL_CFG AXL_CFG.enable then h
    else (List.range 16).foldl (fun h n => if (h.axis n).enable then (h.axCommand n 2).1 else h) h
  (List.range 4).foldl (fun h g => h.groupCycle g) ((List.range 16).foldl (fun h n => h.axisCycle n) h)

theorem Hw.controlCycle_eq : h.controlCycle = ((List.range 4).foldl (fun h k => h.linkCycle k) h.motionCycled).stopDoneCheck := rfl

theorem CycleKept.groupsCycled : CycleKept [] h ((List.range 4).foldl (fun h g => h.groupCycle g) h) :=
  .foldl _ _ (fun h g _ => .groupCycle h g) h

/-- The motion of a cycle leaves the links. -/
theorem CycleKept.motionCycled : CycleKept (List.range 16) h h.motionCycled := by
  have own {n : Nat} (hn : n ∈ List.range 16) : ∀ m ∈ [n], m ∈ List.range 16 := fun m hm => List.mem_singleton.mp hm ▸ hn
  have disabled : CycleKept (List.range 16) h
      ((List.range 16).foldl (fun h n => if (h.axis n).enable then (h.axCommand n 2).1 else h) h) :=
    .foldl _ _ (fun h n hn => .ite ((CycleKept.axCommand h n 2).mono (own hn)) (.refl h)) h
  unfold Hw.motionCycled
  exact CycleKept.trans (.ite (.refl h) disabled) (.trans (.foldl _ _ (fun h n hn => (CycleKept.axisCycle h n).mono (own hn)) _)
    (CycleKept.groupsCycled _).weaken)

/-- An axis that asks to be enabled is enabled by its own cycle; those of the other axes leave it. -/
theorem AsksEnable.motionCycled {n : Nat} (q : AsksEnable h n) (hn : n < 16) : Enabled h.motionCycled n := by
  have other {j : Nat} (ne : j ≠ n) : n ∉ [j] := fun hm => ne (List.mem_singleton.mp hm).symm
  unfold Hw.motionCycled
  rw [if_pos q.on]
  refine Enabled.kept (CycleKept.groupsCycled _) ?_ List.not_mem_nil
  exact foldl_reaches (f := fun h n => h.axisCycle n) (Pre := fun h => AsksEnable h n) (Post := fun h => Enabled h n)
    (fun h j ne asks => asks.kept (.axisCycle h j) (other ne)) (fun _ asks => asks.axisCycle)
    (fun h j ne enabled => enabled.kept (.axisCycle h j) (other ne)) _ List.nodup_range (List.mem_range.mpr hn) h q

/-- The check that every axis rests after a stop leaves AXL but for having raised its interrupt. -/
theorem CycleKept.stopDoneCheck : CycleKept [] h h.stopDoneCheck :=
  .ite (CycleKept.trans (b := { h with axl := { h.axl with stopDone := true } }) ⟨rfl, rfl, fun _ _ => rfl, fun _ _ _ => rfl⟩ (.raise _ _ _))
    (.refl h)

theorem Hw.controlCycle_seq {k : Nat} (hk : k < 4) (on : h.flag (AXL_LINK_CFG k) AXL_LINK_CFG.enable = true) :
    (h.controlCycle.axLink k).seq = ((h.axLink k).seq + 1) % 256 := by
  have motion := CycleKept.motionCycled h
  have before : h.motionCycled.axLink k = h.axLink k := by rw [Hw.axLink, motion.links, Hw.axLink]
  rw [h.controlCycle_eq, Hw.axLink, (CycleKept.stopDoneCheck _).links, ← before]
  exact foldl_reaches (f := fun h k => h.linkCycle k)
    (Pre := fun g => g.flag (AXL_LINK_CFG k) AXL_LINK_CFG.enable = true ∧ g.axLink k = h.motionCycled.axLink k)
    (Post := fun g => (g.axLink k).seq = ((h.motionCycled.axLink k).seq + 1) % 256)
    (fun g j ne ⟨on, same⟩ => ⟨(g.linkCycle_flag j (mem_axlEnables hk) _).trans on, (g.linkCycle_axLink_other ne).trans same⟩)
    (fun g ⟨on, same⟩ => by rw [g.linkCycle_seq on, same])
    (fun g j ne seq => by rw [g.linkCycle_axLink_other ne, seq]) _ List.nodup_range (List.mem_range.mpr hk) h.motionCycled
    ⟨(motion.flag_eq (mem_axlEnables hk) _).trans on, rfl⟩

theorem AsksEnable.controlCycle {n : Nat} (q : AsksEnable h n) (hn : n < 16) : Enabled h.controlCycle n := by
  rw [h.controlCycle_eq]
  refine Enabled.kept (CycleKept.stopDoneCheck _) ?_ List.not_mem_nil
  exact List.foldlRecOn (motive := fun g => Enabled g n) _ _ (q.motionCycled h hn) fun g enabled k _ => enabled.linkCycle g k

end

end Sys2Proof.Machine
end

section
/-! PROOFS. Upstream frames, link faults and step edges of the axes (R215, R216, R222). -/

namespace Sys2Proof.Machine

open Reg Sys2Proof.Safety

/-! ### Upstream frames (R215, R216) -/

/-- The inputs of an axis are those that a word of an upstream frame gives. -/
structure ReadsWord (x : AxisSt) (w : Nat) : Prop where
  fe : x.fe = toInt 8 (w % 256)
  homeIn : x.homeIn = bit w 8
  limPos : x.limPos = bit w 9
  limNeg : x.limNeg = bit w 10
  fault : x.fault = bit w 12

section
variable (h : Hw)

/-- The stop of an axis leaves its inputs. -/
theorem ReadsWord.stopAxis {n w : Nat} (q : ReadsWord (h.axis n) w) : ReadsWord ((h.stopAxis n).axis n) w := by
  obtain ⟨fe, homeIn, limPos, limNeg, fault⟩ := q
  unfold Hw.stopAxis
  dsimp only
  split
  · exact ⟨fe, homeIn, limPos, limNeg, fault⟩
  · rw [Hw.axis_mirrorAxis, Hw.axis_updAxis_same]
    split
    · exact ⟨fe, homeIn, limPos, limNeg, fault⟩
    · split
      · exact ⟨fe, homeIn, limPos, limNeg, fault⟩
      · split
        · exact ⟨fe, homeIn, limPos, limNeg, fault⟩
        · exact ⟨fe, homeIn, limPos, limNeg, fault⟩

theorem Hw.axis_stopAxis_other {m n : Nat} (ne : m ≠ n) : (h.stopAxis n).axis m = h.axis m := by
  unfold Hw.stopAxis
  dsimp only
  split
  · rfl
  · rw [Hw.axis_mirrorAxis, Hw.axis_updAxis_other _ _ ne]

/-- An axis that takes its word has its inputs. -/
theorem ReadsWord.upAxis (n w : Nat) : ReadsWord ((h.upAxis n w).axis n) w := by
  unfold Hw.upAxis
  dsimp only
  split
  · refine ReadsWord.stopAxis _ ?_
    rw [Hw.axis_updAxis_same]
    exact ⟨rfl, rfl, rfl, rfl, rfl⟩
  · rw [Hw.axis_updAxis_same]
    exact ⟨rfl, rfl, rfl, rfl, rfl⟩

theorem Hw.axis_upAxis_other {m n : Nat} (ne : m ≠ n) (w : Nat) : (h.upAxis n w).axis m = h.axis m := by
  unfold Hw.upAxis
  dsimp only
  split
  · rw [Hw.axis_stopAxis_other _ ne, Hw.axis_updAxis_other _ _ ne]
  · rw [Hw.axis_updAxis_other _ _ ne]

theorem CycleKept.upAxis (n w : Nat) : CycleKept [n] h (h.upAxis n w) :=
  .ite (.trans (.updAxis h n _) (.stopAxis _ n)) (.updAxis h n _)

/-- A link's four axes take their words of an upstream frame. -/
def Hw.upWords (k : Nat) (b : List Byte) : Hw := (List.range 4).foldl (fun h i => h.upAxis (4 * k + i) (fieldAt b (2 + 2 * i) 2)) h

theorem CycleKept.upWords (k : Nat) (b : List Byte) : CycleKept ((List.range 4).map (4 * k + ·)) h (h.upWords k b) :=
  .foldl _ _ (fun h i hi => (CycleKept.upAxis h _ _).mono fun _ hm => List.mem_singleton.mp hm ▸ List.mem_map.mpr ⟨i, hi, rfl⟩) h

theorem ReadsWord.upWords (k : Nat) (b : List Byte) {i : Nat} (hi : i < 4) :
    ReadsWord ((h.upWords k b).axis (4 * k + i)) (fieldAt b (2 + 2 * i) 2) :=
  foldl_reaches (f := fun h i => h.upAxis (4 * k + i) (fieldAt b (2 + 2 * i) 2)) (Pre := fun _ => True)
    (Post := fun h => ReadsWord (h.axis (4 * k + i)) (fieldAt b (2 + 2 * i) 2)) (fun _ _ _ _ => trivial)
    (fun h _ => .upAxis h _ _) (fun h j ne reads => by rw [Hw.axis_upAxis_other h (by omega)]; exact reads)
    _ List.nodup_range (List.mem_range.mpr hi) h trivial

/-- A valid upstream frame ends the misses, shows its stage, and may end a fault of its link. -/
theorem Hw.upFrame_valid {k : Nat} {b : List Byte} (valid : h.upValid k b = true) :
    ∃ g : Hw, (g.axLink k).misses = 0 ∧ h.upFrame k (some b) = g.upWords k b := by
  unfold Hw.upFrame
  simp only [valid, not_true_eq_false, if_false]
  refine ⟨_, ?_, rfl⟩
  have zero : ((h.updLink k fun l => { l with misses := 0 }).axLink k).misses = 0 := congrArg LinkSt.misses (h.axLink_updLink_same k _)
  split <;> exact zero

theorem upstreamFrame_valid (s : State) (k : Fin 4) (b : List Byte) (valid : s.hw.upValid k.val b = true) :
    Completes (.upstreamFrame k (some b)) s fun h =>
      (h.axLink k.val).misses = 0 ∧ ∀ i < 4, ReadsWord (h.axis (4 * k.val + i)) (fieldAt b (2 + 2 * i) 2) := by
  refine completes_of_run (e := fun h => h.upFrame k.val (some b)) rfl ?_
  have valid' : (cleared s.hw).upValid k.val b = true := valid
  obtain ⟨g, ended, e⟩ := Hw.upFrame_valid _ valid'
  rw [e]
  refine ⟨?_, fun i hi => .upWords g k.val b hi⟩
  rw [Hw.axLink, (CycleKept.upWords g k.val b).links]
  exact ended

/-- No frame counts as missing, an invalid one as a CRC error. -/
theorem Hw.upFrame_miss {k : Nat} {frame : Option (List Byte)} (bad : ∀ b, frame = some b → h.upValid k b = false) :
    h.upFrame k frame = h.linkMiss k frame.isNone := by
  unfold Hw.upFrame
  cases frame with
  | none => rfl
  | some b =>
    simp only [bad b rfl, Bool.false_eq_true, not_false_eq_true, if_true]
    rfl

theorem Hw.linkMiss_misses (k : Nat) (missing : Bool) : ((h.linkMiss k missing).axLink k).misses = (h.axLink k).misses + 1 := by
  unfold Hw.linkMiss
  dsimp only
  rw [Hw.axLink_updLink_same, Hw.axLink]
  split <;> rw [Hw.bump_axl] <;> rfl

end

theorem upstreamFrame_miss (s : State) (k : Fin 4) (frame : Option (List Byte)) (bad : ∀ b, frame = some b → s.hw.upValid k.val b = false)
    (missRoom : s.hw.f (AXL_LINK_ERR k.val) AXL_LINK_ERR.missing < AXL_LINK_ERR.missing.max)
    (crcRoom : s.hw.f (AXL_LINK_ERR k.val) AXL_LINK_ERR.crc_err < AXL_LINK_ERR.crc_err.max) :
    Completes (.upstreamFrame k frame) s fun h =>
      (h.axLink k.val).misses = (s.hw.axLink k.val).misses + 1 ∧
      h.f (AXL_LINK_ERR k.val) AXL_LINK_ERR.missing = s.hw.f (AXL_LINK_ERR k.val) AXL_LINK_ERR.missing + (if frame = none then 1 else 0) ∧
      h.f (AXL_LINK_ERR k.val) AXL_LINK_ERR.crc_err = s.hw.f (AXL_LINK_ERR k.val) AXL_LINK_ERR.crc_err + (if frame = none then 0 else 1) := by
  refine completes_of_run (e := fun h => h.upFrame k.val frame) rfl ?_
  rw [Hw.upFrame_miss (cleared s.hw) bad]
  refine ⟨Hw.linkMiss_misses _ _ _, ?_⟩
  cases frame with
  | none => exact ⟨Hw.f_bump_lt (cleared s.hw) _ _ _ (by decide) missRoom,
      Hw.f_bump_apart (cleared s.hw) _ _ _ _ (by decide) (by decide) (by decide) (by decide)⟩
  | some b => exact ⟨Hw.f_bump_apart (cleared s.hw) _ _ _ _ (by decide) (by decide) (by decide) (by decide),
      Hw.f_bump_lt (cleared s.hw) _ _ _ (by decide) crcRoom⟩

/-! ### Link faults (R216) -/

section
variable (h : Hw)

theorem Hw.stopLink_links (k : Nat) : (h.stopLink k).axl.links = h.axl.links := by
  have kept : CycleKept ([0, 1, 2, 3].map (4 * k + ·)) h (h.stopLink k) := by
    refine .foldl _ _ (fun h i hi => ?_) h
    dsimp only
    split
    · exact (CycleKept.groupStop h _ _ _ _).weaken
    · exact (CycleKept.stopAxis h _).mono fun _ hm => List.mem_singleton.mp hm ▸ List.mem_map.mpr ⟨i, hi, rfl⟩
  exact kept.links

theorem Hw.countTransient_axl (cls inst : Nat) (kind : Word) : (h.countTransient cls inst kind).axl = h.axl := by
  rw [Hw.countTransient, Hw.raise_axl, Hw.event_axl]
  exact Hw.bump_axl _ _ _ _

/-- The retirement of a link stops its axes and leaves what is kept of the links. -/
theorem Hw.retire_links (k cause : Nat) : (h.retire 7 k cause).axl.links = h.axl.links := by
  unfold Hw.retire
  simp only [show ¬(7 : Nat) = 1 by decide, show ¬(7 : Nat) = 3 by decide, if_false, Hw.noNewWork, Hw.replaceUnit]
  split
  · simp
  · split
    · simp
    · simp [Hw.stopLink_links]

theorem Hw.fault_links (k : Nat) (kind : Word) (failed : Bool) : (h.fault 7 k kind failed).axl.links = h.axl.links := by
  have counted : (h.countTransient 7 k kind).axl.links = h.axl.links := by rw [Hw.countTransient_axl]
  unfold Hw.fault
  dsimp only
  split
  · exact counted
  · split
    · exact (Hw.retire_links _ _ _).trans counted
    · split
      · exact (Hw.retire_links _ _ _).trans counted
      · exact counted

end

theorem linkFault_completes (s : State) (k : Fin 4) (up : s.hw.linkState k.val ≠ 3) :
    Completes (.linkFault k) s fun h =>
      (h.axLink k.val).misses = 0 ∧
      (h.axLink k.val).faults = ((s.hw.axLink k.val).faults.filter fun t => decide (s.hw.now < t + 60000000000)) ++ [s.hw.now] := by
  have faulted : exec (.linkFault k) s = run s fun h =>
      ((((h.setF (AXL_LINK_STAT k.val) AXL_LINK_STAT.state 2).updLink k.val fun l => { l with
        misses := 0, faults := (l.faults.filter fun t => decide (h.now < t + 60000000000)) ++ [h.now] }).raise AXL_IRQ_STAT
          AXL_IRQ_STAT.link_fault k.val).stopLink k.val).faultOpen 7 k.val false := by
    change execLinkFault k s = _
    exact run_congr (if_neg up)
  refine completes_of_run faulted ?_
  rw [Hw.axLink, Hw.faultOpen, Hw.fault_links, Hw.useFree_axl, Hw.stopLink_links, Hw.raise_axl, ← Hw.axLink, Hw.axLink_updLink_same]
  exact ⟨rfl, rfl⟩

/-! ### Step edges (R222) -/

theorem stepEdge_completes (s : State) (n : Fin 16) (dir stable : Bool) (following : (s.hw.axis n.val).state = .following) :
    Completes (.stepEdge n dir stable) s fun h =>
      (h.axis n.val).follow = (s.hw.axis n.val).follow +
        (if (if stable then dir else (s.hw.axis n.val).lastDir) = s.hw.flag (AXL_AX_COARSE n.val) AXL_AX_COARSE.dir_inv then (-1 : Int) else 1) *
          (max 1 (s.hw.f (AXL_AX_COARSE n.val) AXL_AX_COARSE.coarse_div) : Nat) ∧
      (h.axis n.val).interval = s.hw.now - (s.hw.axis n.val).lastStep := by
  have moved : exec (.stepEdge n dir stable) s = run s fun h => h.updAxis n.val fun x => { x with
      follow := if (if stable then dir else (h.axis n.val).lastDir) != h.flag (AXL_AX_COARSE n.val) AXL_AX_COARSE.dir_inv
        then x.follow + (max 1 (h.f (AXL_AX_COARSE n.val) AXL_AX_COARSE.coarse_div) : Nat)
        else x.follow - (max 1 (h.f (AXL_AX_COARSE n.val) AXL_AX_COARSE.coarse_div) : Nat)
      lastDir := if stable then dir else (h.axis n.val).lastDir, interval := h.now - x.lastStep, lastStep := h.now, time := 0 } := by
    change execStepEdge n dir stable s = _
    exact run_congr (if_neg (not_not.mpr following))
  refine completes_of_run moved ?_
  rw [Hw.axis_updAxis_same]
  refine ⟨?_, rfl⟩
  change (if (if stable then dir else (s.hw.axis n.val).lastDir) != s.hw.flag (AXL_AX_COARSE n.val) AXL_AX_COARSE.dir_inv then _ else _) = _
  by_cases against : (if stable then dir else (s.hw.axis n.val).lastDir) = s.hw.flag (AXL_AX_COARSE n.val) AXL_AX_COARSE.dir_inv
  · rw [if_neg (by simp [against]), if_pos against, neg_one_mul, ← sub_eq_add_neg]
    rfl
  · rw [if_pos (by simpa using against), if_neg against, one_mul]
    rfl

end Sys2Proof.Machine
end

section
/-! PROOFS. A group of axes is armed, started and halted (R219, R220); the commands of the local axes complete. -/

namespace Sys2Proof.Machine

open Reg Sys2Proof.Safety

/-! ### A field that reads as it was written -/

/-- Field `d` of a register is the read-write field `f`. -/
abbrev WritesField (f : Fld) (d : FieldDef) : Prop := d.access = .rw ∧ d.lo = f.lo ∧ d.width = f.width

/-- Field `d` of a register has no bit in common with field `f`. -/
abbrev ApartFrom (f : Fld) (d : FieldDef) : Prop := d.lo + d.width ≤ 32 ∧ (d.lo + d.width ≤ f.lo ∨ f.lo + f.width ≤ d.lo)

/-- A read-write field that no other field of its register overlaps reads as it was written. -/
theorem get_wordWrite_written (locked : Bool) (old new : Word) (f : Fld) (hf : f.lo + f.width ≤ 32) (ds : List FieldDef)
    (apart : ∀ d ∈ ds, WritesField f d ∨ ApartFrom f d) (mem : ∃ d ∈ ds, WritesField f d) : f.get (wordWrite locked old new ds) = f.get new := by
  induction ds with
  | nil =>
    obtain ⟨d, hd, -⟩ := mem
    exact nomatch hd
  | cons e ds ih =>
    by_cases own : WritesField f e
    · obtain ⟨rw', lo, width⟩ := own
      simp only [wordWrite, fieldWrite, rw', lo, width]
      rw [Fld.get_set_same f _ _ hf, Nat.mod_eq_of_lt (f.get_lt new)]
    · obtain ⟨d, hd, owns⟩ := mem
      have later : d ∈ ds := (List.mem_cons.mp hd).resolve_left fun same => own (same ▸ owns)
      obtain ⟨fits, sep⟩ := (apart e List.mem_cons_self).resolve_left own
      rw [wordWrite, Fld.get_set_other _ _ _ _ fits sep]
      exact ih (fun d hd => apart d (List.mem_cons_of_mem e hd)) ⟨d, later, owns⟩

/-! ### The register that arms and halts a group -/

theorem grpCfg_single : ∀ g : Fin 4, lowWordOf (AXL_GRP_CFG g.val) = none ∧ ∀ r ∈ regFind (AXL_GRP_CFG g.val), r.lowWord = false := by
  decide +kernel

/-- What a group's start and members are configured by reads as written. -/
theorem grpCfg_fields : ∀ g : Fin 4, ∀ r ∈ regFind (AXL_GRP_CFG g.val), ∀ f ∈ [AXL_GRP_CFG.start, AXL_GRP_CFG.mask],
    (∀ d ∈ r.fields, WritesField f d ∨ ApartFrom f d) ∧ ∃ d ∈ r.fields, WritesField f d := by
  decide +kernel

theorem grpCfg_window (g : Fin 4) : AXL_GRP_CFG g.val / 0x10000 = 0x10 := by
  have := g.isLt
  unfold AXL_GRP_CFG
  omega

section
variable {h j : Hw} {a : BusAcc} {g : Fin 4} {v low : Word} (w : Written h j a (AXL_GRP_CFG g.val) v low)
include w

theorem Written.axl_eq : j.axl = h.axl := (congrArg Hw.axl w.parts).trans rfl

theorem Written.grpCfg_eq {f : Fld} (hf : f ∈ [AXL_GRP_CFG.start, AXL_GRP_CFG.mask]) (fits : f.lo + f.width ≤ 32) :
    j.f (AXL_GRP_CFG g.val) f = f.get v := by
  have window {n : Nat} (ne : n ≠ 0x10) : AXL_GRP_CFG g.val / 0x10000 ≠ n := fun e => ne (e.symm.trans (grpCfg_window g))
  obtain ⟨r, hr, word⟩ := w.word (grpCfg_single g).1 (not_mem_presetSels (window (by decide)))
  obtain ⟨apart, mem⟩ := grpCfg_fields g r hr f hf
  rw [Hw.f, word, Hw.writtenWord, clearWraps_of_window _ _ (window (by decide)) (window (by decide)) (window (by decide)),
    writeFields_eq r (window (by decide)), get_wordWrite_written _ _ _ f fits _ apart mem]

theorem Written.axlOn_eq : j.flag AXL_CFG AXL_CFG.enable = h.flag AXL_CFG AXL_CFG.enable := by
  have kept : AXL_CFG ∉ writtenRegs (AXL_GRP_CFG g.val) := by
    apply not_mem_writtenRegs <;> simp only [AXL_CFG, AXL_GRP_CFG] <;> omega
  rw [Hw.flag, w.f_eq _ _ kept, Hw.flag]

theorem Written.grpState_eq : j.grpState g.val = h.grpState g.val := by
  refine w.f_eq _ _ ?_
  apply not_mem_writtenRegs <;> simp only [AXL_GRP_STAT, AXL_GRP_CFG] <;> omega

end

/-! ### Arming (R219) -/

section
variable (h : Hw)

/-- An axis becomes an armed member of a group. -/
def Hw.armAxis (g n : Nat) : Hw := (h.updAxis n fun x => { x with state := .armed, group := some g, result := 0 }).mirrorAxis n

theorem Hw.armAxis_same (g n : Nat) : ((h.armAxis g n).axis n).state = .armed ∧ ((h.armAxis g n).axis n).group = some g := by
  rw [Hw.armAxis, Hw.axis_mirrorAxis, Hw.axis_updAxis_same]
  exact ⟨rfl, rfl⟩

theorem Hw.armAxis_other {m n : Nat} (g : Nat) (ne : n ≠ m) : (h.armAxis g n).axis m = h.axis m := by
  rw [Hw.armAxis, Hw.axis_mirrorAxis, Hw.axis_updAxis_other _ _ ne.symm]

theorem Hw.armAxis_regs (g n : Nat) : (h.armAxis g n).regs = h.regs := Hw.mirror_regs _ _

/-- A group becomes armed with its members. -/
def Hw.armGroup (g : Nat) (ms : List Nat) : Hw :=
  ((ms.foldl (fun h n => h.armAxis g n) h).updGroup g fun _ => { (default : GroupSt) with members := ms.map fun n => (n, 0, 0) }).setReg
    (AXL_GRP_STAT g) (AXL_GRP_STAT.state.set 0 grpArmed)

theorem Hw.armGroup_state (g : Nat) (ms : List Nat) : (h.armGroup g ms).grpState g = grpArmed := by
  rw [Hw.grpState, Hw.armGroup, Hw.f_setReg_same]
  rfl

theorem Hw.armGroup_member (g : Nat) {ms : List Nat} (nodup : ms.Nodup) {n : Nat} (hn : n ∈ ms) :
    ((h.armGroup g ms).axis n).state = .armed ∧ ((h.armGroup g ms).axis n).group = some g :=
  foldl_reaches (f := fun h n => h.armAxis g n) (Pre := fun _ => True) (Post := fun h => (h.axis n).state = .armed ∧ (h.axis n).group = some g)
    (fun _ _ _ _ => trivial) (fun h _ => h.armAxis_same g n) (fun h j ne armed => by rw [h.armAxis_other g ne]; exact armed)
    ms nodup hn h trivial

/-- Arming a group leaves the register that configures it. -/
theorem Hw.armGroup_cfg (g : Nat) (ms : List Nat) (f : Fld) : (h.armGroup g ms).f (AXL_GRP_CFG g) f = h.f (AXL_GRP_CFG g) f := by
  have regs : (ms.foldl (fun h n => h.armAxis g n) h).regs = h.regs :=
    List.foldlRecOn (motive := fun j : Hw => j.regs = h.regs) _ _ rfl fun j same n _ => (j.armAxis_regs g n).trans same
  rw [Hw.armGroup, Hw.f_setReg_other _ _ _ _ _ (by simp only [AXL_GRP_CFG, AXL_GRP_STAT]; omega)]
  exact congrArg (fun m => f.get (Map.get regReset m (AXL_GRP_CFG g))) regs

end

/-- An idle axis at rest at no limit may join a group. -/
structure MayJoin (x : AxisSt) : Prop where
  idle : x.state = .idle
  rest : atRest x = true
  limPos : x.limPos = false
  limNeg : x.limNeg = false

section
variable {h : Hw}

theorem MayJoin.not_refused {n : Nat} (q : MayJoin (h.axis n)) (d : Int) : h.moveRefusal n d = 0 := by
  simp [Hw.moveRefusal, towardLimit, q.idle, q.limPos, q.limNeg]

/-- Members that may join are armed at once where the group has no start to be late for. -/
theorem Hw.groupGo_arms {g : Nat} (on : h.flag AXL_CFG AXL_CFG.enable = true) (start : h.f (AXL_GRP_CFG g) AXL_GRP_CFG.start = 0)
    (join : ∀ n ∈ maskAxes (h.f (AXL_GRP_CFG g) AXL_GRP_CFG.mask), MayJoin (h.axis n)) :
    h.groupGo g = h.armGroup g (maskAxes (h.f (AXL_GRP_CFG g) AXL_GRP_CFG.mask)) := by
  have now := (h.armGroup_cfg g (maskAxes (h.f (AXL_GRP_CFG g) AXL_GRP_CFG.mask)) AXL_GRP_CFG.start).trans start
  unfold Hw.groupGo
  dsimp only
  split
  · next n found =>
    have member := join n (List.mem_of_find?_eq_some found)
    have refused := List.find?_some found
    simp [on, member.rest, member.not_refused] at refused
  · refine if_neg fun late => ?_
    rcases late.1 with e | e
    · exact absurd (now.symm.trans e) (by decide)
    · exact absurd (now.symm.trans e) (by decide)

end

theorem groupGo_completes (s : State) (via : BusAcc) (g : Fin 4) (v : Word) (hp : Permitted s.hw via (AXL_GRP_CFG g.val))
    (on : s.hw.flag AXL_CFG AXL_CFG.enable = true) (start : AXL_GRP_CFG.start.get v = 0)
    (join : ∀ n ∈ maskAxes (AXL_GRP_CFG.mask.get v), MayJoin (s.hw.axis n)) :
    Completes (.groupGo via g v) s fun h =>
      h.grpState g.val = grpArmed ∧ ∀ n ∈ maskAxes (AXL_GRP_CFG.mask.get v), (h.axis n).state = .armed ∧ (h.axis n).group = some g.val := by
  refine completes_of_regWrite (eff := fun _ h => h.groupGo g.val) rfl hp (grpCfg_single g).2 fun low j w => ?_
  have start' : j.f (AXL_GRP_CFG g.val) AXL_GRP_CFG.start = 0 := by
    rw [w.grpCfg_eq (by decide) (by decide), Fld.get_set_other _ _ _ _ (by decide) (by decide), start]
  have mask : j.f (AXL_GRP_CFG g.val) AXL_GRP_CFG.mask = AXL_GRP_CFG.mask.get v := by
    rw [w.grpCfg_eq (by decide) (by decide), Fld.get_set_other _ _ _ _ (by decide) (by decide)]
  have axis (n : Nat) : j.axis n = s.hw.axis n := by
    rw [Hw.axis, w.axl_eq]
    rfl
  rw [Hw.groupGo_arms (w.axlOn_eq.trans on) start' (fun n hn => by rw [axis]; exact join n (mask ▸ hn)), mask]
  exact ⟨Hw.armGroup_state _ _ _, fun n hn => Hw.armGroup_member _ _ (List.nodup_range.filter _) hn⟩

/-! ### Starting and halting (R219, R220) -/

section
variable (h : Hw) (g : Nat)

theorem Hw.grpState_setGrp {st : Nat} (fits : st < 2 ^ 3) : (h.setGrp g st).grpState g = st := by
  rw [Hw.grpState, Hw.setGrp, Hw.f_setF_same _ _ _ _ (by decide)]
  exact Nat.mod_eq_of_lt fits

theorem Hw.groupStart_state (armed : h.grpState g = grpArmed) (met : h.startMet g = true) : (h.groupStart g).grpState g = grpMoving := by
  unfold Hw.groupStart
  rw [if_neg (by simp [armed, met])]
  exact Hw.grpState_setGrp _ g (by decide)

/-- A stop disarms an armed group and lets a moving one decelerate. -/
theorem Hw.groupStop_state (stop : Bool) (dec jerk : Nat → Nat) : (h.groupStop g stop dec jerk).grpState g =
    if h.grpState g = grpArmed then grpIdle else if h.grpState g = grpMoving then grpStopping else h.grpState g := by
  unfold Hw.groupStop
  dsimp only
  split
  · exact Hw.grpState_setGrp _ g (by decide)
  · split
    · next moves =>
      rw [Hw.grpState_setGrp _ g (by decide)]
      split
      · rfl
      · next still => exact (moves.resolve_left still).symm
    · next still => rw [if_neg fun moving => still (.inl moving)]

end

theorem groupHalt_completes (s : State) (via : BusAcc) (g : Fin 4) (v : Word) (hp : Permitted s.hw via (AXL_GRP_CFG g.val)) :
    Completes (.groupHalt via g v) s fun h => h.grpState g.val = if s.hw.grpState g.val = grpArmed then grpIdle
      else if s.hw.grpState g.val = grpMoving then grpStopping else s.hw.grpState g.val := by
  refine completes_of_regWrite (eff := fun _ h => h.groupStop g.val false h.axAmax h.axJmax) rfl hp (grpCfg_single g).2 fun low j w => ?_
  rw [Hw.groupStop_state, w.grpState_eq]
  rfl

/-! ### The commands of the local axes complete -/

theorem axisCommands_wait (s : State) (via : BusAcc) (n : Fin 16) (hp : Permitted s.hw via (AXL_AX_CMD n.val)) :
    ∀ p ∈ [(Instr.enable via n, 1), (Instr.disable via n, 2), (Instr.moveAbs via n, 3), (Instr.moveRel via n, 4), (Instr.jog via n, 5),
      (Instr.halt via n, 6), (Instr.home via n, 7), (Instr.setPos via n, 8), (Instr.follow via n, 9), (Instr.release via n, 10)],
    Completes p.1 s fun h =>
      (h.axis n.val).pendingCmd = some p.2 ∧ (h.axis n.val).state = (s.hw.axis n.val).state ∧ (h.axis n.val).pos = (s.hw.axis n.val).pos := by
  have waits {c : Instr} {op : Nat} := axisCommand_waits s via n (c := c) op hp
  simp only [List.forall_mem_cons, List.not_mem_nil, false_imp_iff, implies_true, and_true]
  exact ⟨waits rfl, waits rfl, waits rfl, waits rfl, waits rfl, waits rfl, waits rfl, waits rfl, waits rfl, waits rfl⟩

/-- Settles O23: each command runs one operation of AXL, the control cycle carries out what waits, and no other axis, group or link undoes it. -/
theorem axisCommandsComplete : Obligations.AxisCommandsComplete := by
  unfold Obligations.AxisCommandsComplete
  refine ⟨axisCommands_wait, fun s => completes_of_run (e := Hw.controlCycle) rfl ⟨?links, ?axes⟩, fun s k b valid => ?inputs, upstreamFrame_miss,
    linkFault_completes, stepEdge_completes, fun s via g v hp on start join => ?arm, groupHalt_completes,
    fun s g armed met => completes_of_run (e := fun h => h.groupStart g.val) rfl (Hw.groupStart_state (cleared s.hw) _ armed met)⟩
  case links => exact fun k hk on => Hw.controlCycle_seq (cleared s.hw) hk on
  case axes =>
    intro n hn on running asks off disabled home free rest
    obtain ⟨enable, idle, taken, ok, -⟩ := AsksEnable.controlCycle (cleared s.hw) ⟨on, running, asks, off, disabled, home, free, rest⟩ hn
    exact ⟨enable, idle, taken, ok⟩
  case inputs =>
    obtain ⟨t, took, pending, ended, reads⟩ := upstreamFrame_valid s k b valid
    refine ⟨t, took, pending, ended, fun i hi => ?_⟩
    obtain ⟨fe, homeIn, limPos, limNeg, fault⟩ := reads i hi
    exact ⟨fe, homeIn, limPos, limNeg, fault⟩
  case arm =>
    refine groupGo_completes s via g v hp on start fun n hn => ?_
    obtain ⟨idle, rest, limPos, limNeg⟩ := join n hn
    exact ⟨idle, rest, limPos, limNeg⟩

end Sys2Proof.Machine
end

section
/-! SUPPORT. A packet that a hardware consumer takes whole: what it is depends on its FIFO only, and the radio, the tokens and the registers of the
radio, the stop sequencer and the pair stay (R24, R98). -/

namespace Sys2Proof.Machine

open Reg Sys2Proof.Safety

/-! ### The packet depends on the FIFO only -/

theorem FifoKept.trans {a b c : Hw} {f : Nat} (p : FifoKept a b f) (q : FifoKept b c f) : FifoKept a c f :=
  ⟨q.fifo.trans p.fifo, q.geom.trans p.geom⟩

theorem FifoKept.symm {h g : Hw} {f : Nat} (w : FifoKept h g f) : FifoKept g h f := ⟨w.fifo.symm, w.geom.symm⟩

theorem FifoKept.fifoNotice (h : Hw) {f : Nat} (hf : f < 64) : FifoKept h (h.fifoNotice f) f where
  fifo := h.fifoNotice_fifo f f
  geom := by
    have ne : STM_GEOM f ≠ STM_NOTICE f := by simp only [STM_GEOM, STM_NOTICE]; omega
    have nd : STM_GEOM f ∉ deliveryRegs := not_mem_deliveryRegs (by simp only [STM_GEOM]; omega) (by simp only [STM_GEOM]; omega)
    rw [Hw.fifoNotice, Hw.notice_reg _ _ _ ne nd, Hw.deviceLine_reg _ _ _ nd]

section
variable {h g : Hw} {f : Nat} (w : FifoKept h g f)
include w

theorem FifoKept.advance_eq (p n : Nat) : g.advance f p n = h.advance f p n := by rw [Hw.advance, w.words_eq, ← Hw.advance]

theorem FifoKept.fits_eq (n : Nat) : g.fifoFits f n = h.fifoFits f n := by rw [Hw.fifoFits, w.space_eq, w.limit_eq, ← Hw.fifoFits]

theorem FifoKept.setFifo (x : Fifo) : FifoKept (h.setFifo f x) (g.setFifo f x) f :=
  ⟨by rw [Hw.fifo_setFifo_same, Hw.fifo_setFifo_same], w.geom⟩

theorem FifoKept.dropFirst : FifoKept (h.dropFirst f) (g.dropFirst f) f := by
  unfold Hw.dropFirst
  simp only [w.fifo, w.advance_eq]
  split
  · exact w
  · exact w.setFifo _

theorem FifoKept.atBoundary : FifoKept (h.atBoundary f) (g.atBoundary f) f := by
  unfold Hw.atBoundary Hw.flushNow
  simp only [w.fifo, w.advance_eq]
  split
  · exact w.setFifo _
  · exact w

theorem FifoKept.hwPacket (hf : f < 64) (tag : Nat) (bs : List Byte) : FifoKept (h.hwPacket f tag bs) (g.hwPacket f tag bs) f := by
  unfold Hw.hwPacket
  simp only [w.fifo, w.advance_eq]
  exact (FifoKept.fifoNotice _ hf).symm.trans ((w.setFifo _).trans (.fifoNotice _ hf))

end

theorem FifoKept.settleGo {f : Nat} (hf : f < 64) (n : Nat) : ∀ {h g : Hw}, FifoKept h g f → FifoKept (Hw.settleGo f n h) (Hw.settleGo f n g) f := by
  induction n with
  | zero => exact fun w => w
  | succ n ih =>
    intro h g w
    simp only [Hw.settleGo, w.fifo, w.fits_eq]
    split
    · exact w
    · split
      · exact ih ((w.setFifo _).hwPacket hf _ _)
      · exact w

/-- The state of a FIFO's device after its first packet has been taken. -/
theorem FifoKept.taken {h g : Hw} {f : Nat} (hf : f < 64) (w : FifoKept h g f) :
    FifoKept (((h.dropFirst f).atBoundary f).settle f) (((g.dropFirst f).atBoundary f).settle f) f := by
  have b := w.dropFirst.atBoundary
  rw [Hw.settle, Hw.settle, b.fifo]
  exact .settleGo hf _ b

/-- Two devices with the same FIFO give a consumer the same packet. -/
theorem FifoKept.takePacket {f : Nat} (hf : f < 64) (fuel : Nat) : ∀ {h g : Hw}, FifoKept h g f →
    (g.takePacket f fuel).map (fun x => (x.1, x.2.1)) = (h.takePacket f fuel).map fun x => (x.1, x.2.1) := by
  induction fuel with
  | zero => exact fun _ => rfl
  | succ fuel ih =>
    intro h g w
    rw [Hw.takePacket, Hw.takePacket, w.mode_eq, w.fifo]
    split
    · rfl
    · split
      · rfl
      · split
        · rfl
        · dsimp only
          split
          · have next := congrArg (Option.map fun x : Pkt × Nat => (x.1, x.2 + 1)) (ih (w.taken hf))
            rw [Option.map_map, Option.map_map] at next
            rw [Option.map_map, Option.map_map]
            exact next
          · rfl

theorem FifoKept.cleared (h : Hw) (f : Nat) : FifoKept h (cleared h) f := ⟨rfl, rfl⟩

/-- A packet that a device offers is offered to the command too, which finds the last answer cleared. -/
theorem Hw.takePacket_cleared {h h' : Hw} {f n k : Nat} {p : Pkt} (hf : f < 64) (e : h.takePacket f n = some (p, k, h')) :
    ∃ g, (cleared h).takePacket f n = some (p, k, g) := by
  have same := FifoKept.takePacket hf n (.cleared h f)
  rw [e] at same
  obtain ⟨⟨q, m, g⟩, hq, eq⟩ := Option.map_eq_some_iff.mp same
  cases eq
  exact ⟨g, hq⟩

theorem Hw.takePacket_cleared_none {h : Hw} {f n : Nat} (hf : f < 64) (e : h.takePacket f n = none) : (cleared h).takePacket f n = none := by
  have same := FifoKept.takePacket hf n (.cleared h f)
  rw [e] at same
  exact Option.map_eq_none_iff.mp same

/-! ### What a taken packet leaves -/

section
variable (h : Hw)

theorem FleetKept.of_fifos {g : Hw} (rsv : g.rsv = h.rsv) (rad : g.rad = h.rad) (regs : g.regs = h.regs) : FleetKept h g :=
  ⟨rsv, rad, fun k _ => by rw [Hw.reg, regs, Hw.reg]⟩

theorem FleetKept.nbOf_eq {h g : Hw} (kept : FleetKept h g) (short : Nat) : g.nbOf short = h.nbOf short :=
  List.find?_congr fun i hi => by
    have hi : i < 512 := List.mem_range.mp hi
    have entry : fleetReg (RAD_NB_CFG i) := by simp only [fleetReg, RAD_NB_CFG]; omega
    have valid : g.nbValid i = h.nbValid i := by rw [Hw.nbValid, Hw.flag, kept.f_eq entry, Hw.nbValid, Hw.flag]
    have named : g.nbShort i = h.nbShort i := by rw [Hw.nbShort, kept.f_eq entry, Hw.nbShort]
    rw [valid, named]

end

/-- What changes of a FIFO's record, its notice and its status keep, a consumer that takes a packet whole keeps. -/
theorem Hw.takePacket_keeps {R : Hw → Hw → Prop} {f : Nat} (refl : ∀ h, R h h) (trans : ∀ {a b c}, R a b → R b c → R a c)
    (fifo : ∀ h x, R h (h.setFifo f x)) (noticed : ∀ h, R h (h.fifoNotice f))
    (aborted : ∀ h, R h (h.setFlag (STM_STAT f) STM_STAT.aborted_seen true)) (fuel : Nat) :
    ∀ {h g : Hw} {p : Pkt} {n : Nat}, h.takePacket f fuel = some (p, n, g) → R h g := by
  have dropped (h : Hw) : R h (h.dropFirst f) := by
    unfold Hw.dropFirst
    dsimp only
    split
    · exact refl h
    · exact fifo h _
  have bounded (h : Hw) : R h (h.atBoundary f) := by
    unfold Hw.atBoundary
    split
    · exact fifo h _
    · exact refl h
  have settled (n : Nat) : ∀ h, R h (Hw.settleGo f n h) := by
    induction n with
    | zero => exact refl
    | succ n ih =>
      intro h
      rw [Hw.settleGo]
      split
      · exact refl h
      · split
        · exact trans (trans (trans (fifo h _) (fifo _ _)) (noticed _)) (ih _)
        · exact refl h
  induction fuel with
  | zero => exact fun e => nomatch e
  | succ fuel ih =>
    intro h g p n e
    have next : R h (((h.dropFirst f).atBoundary f).settle f) := trans (trans (dropped h) (bounded _)) (settled _ _)
    rw [Hw.takePacket] at e
    split at e
    · cases e
    · split at e
      · cases e
      · split at e
        · cases e
        · dsimp only at e
          split at e
          · obtain ⟨⟨q, m, g'⟩, hq, e⟩ := Option.map_eq_some_iff.mp e
            cases e
            exact trans next (ih hq)
          · cases e
            split
            · exact trans next (aborted _)
            · exact next

/-- A packet that a consumer takes whole, and those it skips, leave the radio, the tokens and the fleet's registers. -/
theorem FleetKept.takePacket {f : Nat} (hf : f < 64) {fuel : Nat} {h g : Hw} {p : Pkt} {n : Nat} (taken : h.takePacket f fuel = some (p, n, g)) :
    FleetKept h g := by
  have apart (k : Nat) (hk : fleetReg k) : k ≠ STM_STAT f := by
    simp only [fleetReg] at hk
    simp only [STM_STAT]
    omega
  exact Hw.takePacket_keeps FleetKept.refl FleetKept.trans (fun h _ => .of_fifos h rfl rfl rfl) (fun h => .fifoNotice h hf)
    (fun h => ⟨rfl, rfl, fun k hk => Hw.reg_setFlag_other _ _ _ _ _ (apart k hk)⟩) fuel taken

theorem Hw.takePacket_cal {f fuel : Nat} {h g : Hw} {p : Pkt} {n : Nat} (taken : h.takePacket f fuel = some (p, n, g)) : g.cal = h.cal :=
  Hw.takePacket_keeps (R := fun h g => g.cal = h.cal) (fun _ => rfl) (fun p q => q.trans p) (fun _ _ => rfl)
    (fun h => by rw [Hw.fifoNotice, Hw.notice_cal, Hw.deviceLine_cal]) (fun _ => rfl) fuel taken

end Sys2Proof.Machine
end

section
/-! SUPPORT. A lane of the radio under changes of its buffers: what it reads back, and what of its cells and of its right to send stays (R238–R240,
R247, R257). -/

namespace Sys2Proof.Machine

open Reg Sys2Proof.Safety

/-! ### A lane reads back what was put there -/

section
variable (h : Hw) {m n : Nat} (u : LaneSt → LaneSt)

@[simp] theorem Hw.lane_updLane_same (n : Nat) : (h.updLane n u).lane n = u (h.lane n) := Map.at_upd_same _ _ _

theorem Hw.lane_updLane_other (ne : m ≠ n) : (h.updLane n u).lane m = h.lane m := Map.at_upd_other _ _ _ _ ne

/-- A change of a lane leaves of each lane what it leaves of its own. -/
theorem Hw.lane_updLane_part {α : Type} (part : LaneSt → α) (kept : ∀ l, part (u l) = part l) :
    part ((h.updLane n u).lane m) = part (h.lane m) := by
  by_cases e : m = n
  · rw [e, Hw.lane_updLane_same, kept]
  · rw [Hw.lane_updLane_other h u e]

@[simp] theorem Hw.updLane_reg (n k : Nat) : (h.updLane n u).reg k = h.reg k := rfl
@[simp] theorem Hw.updLane_f (n k : Nat) (l : Fld) : (h.updLane n u).f k l = h.f k l := rfl
@[simp] theorem Hw.updLane_laneUp (n m : Nat) : (h.updLane n u).laneUp m = h.laneUp m := rfl
@[simp] theorem Hw.updLane_bus (n : Nat) : (h.updLane n u).bus = h.bus := rfl

end

section
variable (h : Hw) (n : Nat) (f : TxFrame)

theorem Hw.frames_addFrame : ((h.addFrame n f).lane n).frames = (h.lane n).frames ++ [f] := by rw [Hw.addFrame, Hw.lane_updLane_same]

theorem Hw.mem_addFrame : f ∈ ((h.addFrame n f).lane n).frames := by
  rw [Hw.frames_addFrame]
  exact List.mem_append_right _ (List.mem_singleton.mpr rfl)

end

/-- A frame added to a lane leaves the frames that the lanes hold. -/
theorem Hw.mem_addFrame_of_mem {h : Hw} {m n : Nat} {f g : TxFrame} (held : f ∈ (h.lane m).frames) : f ∈ ((h.addFrame n g).lane m).frames := by
  by_cases e : m = n
  · subst e
    rw [Hw.frames_addFrame]
    exact List.mem_append_left _ held
  · rwa [Hw.addFrame, Hw.lane_updLane_other h _ e]

/-! ### The cells of a lane (R238–R240) -/

/-- A register of the layout of a lane's superframe: of the lane, or of its slots. -/
abbrev cellReg (k : Nat) : Prop := 0x110100 ≤ k ∧ k < 0x110C00

/-- The layout of lane `n` in force in `g`, its claimed run and the superframe are those of `h`. -/
structure CellsKept (n : Nat) (h g : Hw) : Prop where
  regs : ∀ k, cellReg k → g.reg k = h.reg k
  hold : g.fleetHold = h.fleetHold
  tsf : g.rad.tsf = h.rad.tsf
  started : g.rad.started = h.rad.started
  aux : (g.lane n).aux = (h.lane n).aux
  run : (g.lane n).run = (h.lane n).run

section
variable {n : Nat} {h g : Hw} (hn : n < 8) (kept : CellsKept n h g)
include kept

theorem CellsKept.f_eq {k : Nat} (hk : cellReg k) (l : Fld) : g.f k l = h.f k l := by rw [Hw.f, kept.regs k hk, Hw.f]

theorem CellsKept.cellOf_eq (t : Nat) : g.cellOf t = h.cellOf t := by rw [Hw.cellOf, kept.tsf, Hw.cellOf]

include hn

/-- The registers of a lane are among those of its layout. -/
theorem CellsKept.lane_f_eq {k : Nat} (low : 0x110100 + n * 0x40 ≤ k) (high : k < 0x110140 + n * 0x40) (l : Fld) : g.f k l = h.f k l :=
  kept.f_eq (by simp only [cellReg]; omega) l

theorem CellsKept.markCells_eq : g.markCells n = h.markCells n := by
  rw [Hw.markCells, kept.lane_f_eq hn (by simp only [RAD_LANE_SF]; omega) (by simp only [RAD_LANE_SF]; omega), Hw.markCells]

theorem CellsKept.slotsOf_eq (aux : Bool) : g.slotsOf n aux = h.slotsOf n aux := by
  refine List.filterMap_congr fun k hk => ?_
  have hk : k < 16 := List.mem_range.mp hk
  have slot : cellReg (RAD_SLOT n k) := by simp only [cellReg, RAD_SLOT]; omega
  have slotAux : cellReg (RAD_SLOT_AUX n k) := by simp only [cellReg, RAD_SLOT_AUX]; omega
  simp only [kept.f_eq slot, kept.f_eq slotAux]

theorem CellsKept.downlink_eq (aux : Bool) : g.downlink n aux = h.downlink n aux := by
  have dl : cellReg (RAD_LANE_DL n) := by simp only [cellReg, RAD_LANE_DL]; omega
  have dlAux : cellReg (RAD_LANE_DL_AUX n) := by simp only [cellReg, RAD_LANE_DL_AUX]; omega
  simp only [Hw.downlink, kept.f_eq dl, kept.f_eq dlAux]

theorem CellsKept.layoutReserved_eq (aux : Bool) (c : Nat) : g.layoutReserved n aux c = h.layoutReserved n aux c := by
  have sf : cellReg (RAD_LANE_SF n) := by simp only [cellReg, RAD_LANE_SF]; omega
  simp only [Hw.layoutReserved, kept.markCells_eq hn, kept.f_eq sf, kept.slotsOf_eq hn]

theorem CellsKept.reserved_eq (c : Nat) : g.reserved n c = h.reserved n c := by
  simp only [Hw.reserved, kept.layoutReserved_eq hn, kept.aux, kept.hold, kept.markCells_eq hn, kept.run]

theorem CellsKept.isDownlink_eq (c : Nat) : g.isDownlink n c = h.isDownlink n c := by
  simp only [Hw.isDownlink, kept.downlink_eq hn, kept.aux, kept.reserved_eq hn]

theorem CellsKept.findRun_eq (j : Nat) : g.findRun n j = h.findRun n j := by
  simp only [Hw.findRun, kept.markCells_eq hn, kept.isDownlink_eq hn]

theorem CellsKept.rate_eq : g.rate n = h.rate n := by
  rw [Hw.rate, kept.lane_f_eq hn (by simp only [RAD_LANE_CFG]; omega) (by simp only [RAD_LANE_CFG]; omega), Hw.rate]

theorem CellsKept.airNs_eq (octets : Nat) : g.airNs n octets = h.airNs n octets := by
  have time : cellReg (RAD_LANE_TIME n) := by simp only [cellReg, RAD_LANE_TIME]; omega
  simp only [Hw.airNs, kept.f_eq time, kept.rate_eq hn]

theorem CellsKept.fits_eq (t octets : Nat) (down : Bool) : g.fits n t octets down = h.fits n t octets down := by
  simp only [Hw.fits, kept.cellOf_eq, kept.airNs_eq hn, kept.tsf, kept.started, kept.isDownlink_eq hn, kept.reserved_eq hn]

theorem CellsKept.mayStart_eq (now : g.now = h.now) (f : TxFrame) : g.mayStart n f = h.mayStart n f := by
  have sf : cellReg (RAD_LANE_SF n) := by simp only [cellReg, RAD_LANE_SF]; omega
  simp only [Hw.mayStart, kept.tsf, kept.markCells_eq hn, kept.f_eq sf, now, kept.airNs_eq hn, kept.fits_eq hn]

end

/-- A change of a lane that leaves its layout and its run. -/
theorem CellsKept.updLane (h : Hw) (m n : Nat) {u : LaneSt → LaneSt} (aux : ∀ l, (u l).aux = l.aux) (run : ∀ l, (u l).run = l.run) :
    CellsKept m h (h.updLane n u) where
  regs _ _ := rfl
  hold := rfl
  tsf := rfl
  started := rfl
  aux := h.lane_updLane_part u LaneSt.aux aux
  run := h.lane_updLane_part u LaneSt.run run

/-- A change of a lane that leaves its gate and the air leaves the lane free to send or not. -/
theorem Hw.laneFree_updLane (h : Hw) (m n : Nat) {u : LaneSt → LaneSt} (shut : ∀ l, (u l).shut = l.shut) (onAir : ∀ l, (u l).onAir = l.onAir) :
    (h.updLane n u).laneFree m = h.laneFree m := by
  unfold Hw.laneFree
  rw [h.lane_updLane_part u LaneSt.shut shut, h.lane_updLane_part u LaneSt.onAir onAir]
  rfl

/-! ### A frame that waits again (R240, R247) -/

/-- A frame of a lane's buffers is put back in another form. -/
def Hw.requeue (h : Hw) (n : Nat) (f g : TxFrame) : Hw := (h.takeFrame n f).addFrame n g

section
variable (h : Hw) (n : Nat) (f g : TxFrame)

theorem Hw.laneFree_requeue : (h.requeue n f g).laneFree n = h.laneFree n := by
  have taken : (h.takeFrame n f).laneFree n = h.laneFree n := Hw.laneFree_updLane _ n n (fun _ => rfl) fun _ => rfl
  have added : (h.requeue n f g).laneFree n = (h.takeFrame n f).laneFree n := Hw.laneFree_updLane _ n n (fun _ => rfl) fun _ => rfl
  exact added.trans taken

theorem Hw.mayStart_requeue (hn : n < 8) (x : TxFrame) : (h.requeue n f g).mayStart n x = h.mayStart n x := by
  have taken : CellsKept n h (h.takeFrame n f) := .updLane _ n n (fun _ => rfl) fun _ => rfl
  have added : CellsKept n (h.takeFrame n f) (h.requeue n f g) := .updLane _ n n (fun _ => rfl) fun _ => rfl
  exact (added.mayStart_eq hn rfl x).trans (taken.mayStart_eq hn rfl x)

end

end Sys2Proof.Machine
end

section
/-! PROOFS. A lane takes its frames, starts them secured, and repeats or counts those that fail (R230, R234, R240, R243, R247–R249). -/

namespace Sys2Proof.Machine

open Reg Sys2Proof.Safety

/-! ### Taking packets (R243, R247) -/

section
variable {h : Hw} {n : Nat} (sends : h.radSends = true) (up : h.laneUp n = true) (room : h.laneRoom n = true)
include sends up room

theorem Hw.takeTx_info (due : (h.lane n).infoDue = true) :
    h.takeTx n = (h.updLane n fun l => { l with infoDue := false }).addFrame n (ownFrame kLaneInfo ftLaneInfo (h.laneInfo n)) := by
  simp only [Hw.takeTx, sends, up, room, due, not_true_eq_false, or_self, if_false, if_true]

theorem Hw.takeTx_track {p : Pkt} {k : Nat} {h' : Hw} (due : (h.lane n).infoDue = false)
    (track : h.takePacket (h.f (RAD_LANE_FIFO n) RAD_LANE_FIFO.tx_track) 512 = some (p, k, h')) : h.takeTx n = h'.judgeTx n kTrack p := by
  simp only [Hw.takeTx, sends, up, room, due, not_true_eq_false, or_self, Bool.false_eq_true, if_false, Hw.takeStream, track, Option.map_some]

theorem Hw.takeTx_rtcm {m : List Byte} {ms : List (List Byte)} (due : (h.lane n).infoDue = false)
    (track : h.takePacket (h.f (RAD_LANE_FIFO n) RAD_LANE_FIFO.tx_track) 512 = none)
    (echo : h.takePacket (h.f (RAD_LANE_FIFO n) RAD_LANE_FIFO.tx_echo) 512 = none) (rtcm : (h.lane n).rtcm = m :: ms) :
    h.takeTx n = (h.updLane n fun l => { l with rtcm := ms }).addFrame n (ownFrame kRtcm ftRtcm m) := by
  simp only [Hw.takeTx, sends, up, room, due, not_true_eq_false, or_self, Bool.false_eq_true, if_false, Hw.takeStream, track, echo, rtcm,
    Option.map_none]

end

/-- A track packet that passes the tests of R247 and R248 becomes a frame in flight. -/
theorem Hw.judgeTx_track {h : Hw} {n : Nat} {p : Pkt} (whole : p.abort = false) (low : 12 ≤ p.octets.length) (high : p.octets.length ≤ 1912)
    (type : badType (fieldAt p.octets 0 1 % 32) = false) (token : fieldAt p.octets 8 4 ≠ 0) (valid : h.tokenValid (fieldAt p.octets 8 4) = true)
    (known : (h.nbOf (fieldAt p.octets 2 2)).isSome = true) :
    ∃ f, h.judgeTx n kTrack p = h.addFrame n f ∧ f.kind = kTrack ∧ f.ftype = fieldAt p.octets 0 1 % 32 ∧ f.dst = fieldAt p.octets 2 2 ∧
      f.token = fieldAt p.octets 8 4 ∧ f.payload = p.octets.drop 12 := by
  obtain ⟨i, hi⟩ := Option.isSome_iff_exists.mp known
  have short : ¬p.octets.length < 12 := not_lt.mpr low
  have fits : ¬p.octets.length - 12 > 1900 := by omega
  have sent : decide (kTrack = kData) = false := rfl
  unfold Hw.judgeTx
  simp only [whole, short, type, token, hi, fits, Hw.tokenOpen, valid, sent, List.length_drop, Bool.false_eq_true, and_false, or_self,
    Option.isNone_some, Bool.or_true, not_true_eq_false, Bool.and_false, Bool.false_and, if_false]
  exact ⟨_, rfl, rfl, rfl, rfl, rfl, rfl⟩

theorem txPacketTake_info (s : State) (n : Fin 8) (sends : s.hw.radSends = true) (up : s.hw.laneUp n.val = true)
    (room : s.hw.laneRoom n.val = true) (due : (s.hw.lane n.val).infoDue = true) :
    Completes (.txPacketTake n) s fun h =>
      (h.lane n.val).infoDue = false ∧
      (h.lane n.val).frames = (s.hw.lane n.val).frames ++ [ownFrame kLaneInfo ftLaneInfo (s.hw.laneInfo n.val)] := by
  refine completes_of_run (e := fun h => h.takeTx n.val) rfl ?_
  rw [Hw.takeTx_info (h := cleared s.hw) sends up room due, Hw.frames_addFrame, Hw.addFrame, Hw.lane_updLane_same, Hw.lane_updLane_same]
  exact ⟨rfl, rfl⟩

theorem txPacketTake_track (s : State) (n : Fin 8) (p : Pkt) (k : Nat) (h' : Hw) (sends : s.hw.radSends = true) (up : s.hw.laneUp n.val = true)
    (room : s.hw.laneRoom n.val = true) (due : (s.hw.lane n.val).infoDue = false)
    (track : s.hw.takePacket (s.hw.f (RAD_LANE_FIFO n.val) RAD_LANE_FIFO.tx_track) 512 = some (p, k, h'))
    (whole : p.abort = false) (low : 12 ≤ p.octets.length) (high : p.octets.length ≤ 1912)
    (type : badType (fieldAt p.octets 0 1 % 32) = false) (token : fieldAt p.octets 8 4 ≠ 0)
    (valid : s.hw.tokenValid (fieldAt p.octets 8 4) = true) (known : (s.hw.nbOf (fieldAt p.octets 2 2)).isSome = true) :
    Completes (.txPacketTake n) s fun h =>
      ∃ f ∈ (h.lane n.val).frames, f.kind = kTrack ∧ f.ftype = fieldAt p.octets 0 1 % 32 ∧ f.dst = fieldAt p.octets 2 2 ∧
        f.token = fieldAt p.octets 8 4 ∧ f.payload = p.octets.drop 12 := by
  refine completes_of_run (e := fun h => h.takeTx n.val) rfl ?_
  have stream : s.hw.f (RAD_LANE_FIFO n.val) RAD_LANE_FIFO.tx_track < 64 := Fld.get_lt _ _
  obtain ⟨g, taken⟩ := Hw.takePacket_cleared stream track
  have kept : FleetKept (cleared s.hw) g := .takePacket stream taken
  obtain ⟨f, judged, is⟩ := Hw.judgeTx_track (h := g) (n := n.val) whole low high type token ((kept.tokenValid_eq _).trans valid)
    ((congrArg Option.isSome (kept.nbOf_eq _)).trans known)
  rw [Hw.takeTx_track (h := cleared s.hw) sends up room due taken, judged]
  exact ⟨f, Hw.mem_addFrame _ _ _, is⟩

theorem txPacketTake_rtcm (s : State) (n : Fin 8) (m : List Byte) (ms : List (List Byte)) (sends : s.hw.radSends = true)
    (up : s.hw.laneUp n.val = true) (room : s.hw.laneRoom n.val = true) (due : (s.hw.lane n.val).infoDue = false)
    (track : s.hw.takePacket (s.hw.f (RAD_LANE_FIFO n.val) RAD_LANE_FIFO.tx_track) 512 = none)
    (echo : s.hw.takePacket (s.hw.f (RAD_LANE_FIFO n.val) RAD_LANE_FIFO.tx_echo) 512 = none) (rtcm : (s.hw.lane n.val).rtcm = m :: ms) :
    Completes (.txPacketTake n) s fun h =>
      (h.lane n.val).rtcm = ms ∧ (h.lane n.val).frames = (s.hw.lane n.val).frames ++ [ownFrame kRtcm ftRtcm m] := by
  refine completes_of_run (e := fun h => h.takeTx n.val) rfl ?_
  rw [Hw.takeTx_rtcm (h := cleared s.hw) sends up room due (Hw.takePacket_cleared_none (Fld.get_lt _ _) track)
    (Hw.takePacket_cleared_none (Fld.get_lt _ _) echo) rtcm, Hw.frames_addFrame, Hw.addFrame, Hw.lane_updLane_same, Hw.lane_updLane_same]
  exact ⟨rfl, rfl⟩

/-! ### Starting a frame (R230, R234, R248) -/

/-- The register of a counter that sends: not the interrupt register of RAD, nor one that recording changes. -/
theorem ctrReg_apart {n : Nat} (hn : n < 8) {f : TxFrame} (nb : ∀ i, f.nb = some i → i < 512) :
    ctrReg n f ≠ RAD_IRQ_STAT ∧ ctrReg n f ∉ logRegs ∧ ctrReg n f ≠ RAD_NB_SEQ (f.nb.getD 0) := by
  have entry : f.nb.getD 0 < 512 := by
    cases e : f.nb with
    | none => decide
    | some i => exact nb i e
  have fleet : fleetReg (ctrReg n f) := by
    unfold ctrReg fleetReg RAD_LANE_BCTR RAD_NB_TXCTR
    split <;> omega
  refine ⟨?_, fleet.not_log, ?_⟩
  · unfold ctrReg RAD_LANE_BCTR RAD_NB_TXCTR RAD_IRQ_STAT
    split <;> omega
  · unfold ctrReg RAD_LANE_BCTR RAD_NB_TXCTR RAD_NB_SEQ
    split <;> omega

section
variable (h : Hw)

theorem Hw.advanceCtr_reg (n : Nat) {k : Nat} (irq : k ≠ RAD_IRQ_STAT) (log : k ∉ logRegs) : (h.advanceCtr n k).reg k = h.reg k + 1 := by
  have next : (h.setReg k (BitVec.ofNat 32 ((h.reg k).toNat + 1))).reg k = h.reg k + 1 := by
    rw [Hw.reg_setReg_same, ← BitVec.ofNat_add_ofNat, BitVec.ofNat_toNat, BitVec.setWidth_eq]
    rfl
  unfold Hw.advanceCtr
  dsimp only
  split
  · rw [Hw.raiseFrom_reg _ _ _ _ _ _ irq log, next]
  · exact next

theorem Hw.advanceCtr_cal (n k : Nat) : (h.advanceCtr n k).cal = h.cal := by
  unfold Hw.advanceCtr
  dsimp only
  split
  · exact Hw.raiseFrom_cal _ _ _ _ _
  · rfl

/-- A frame that is secured advances its counter, and site time stays. -/
theorem Hw.secureTx_spec {n : Nat} (hn : n < 8) {f g : TxFrame} {h' : Hw} (nb : ∀ i, f.nb = some i → i < 512)
    (e : h.secureTx n f = some (g, h')) : h'.reg (ctrReg n f) = h.reg (ctrReg n f) + 1 ∧ h'.cal = h.cal := by
  obtain ⟨irq, log, seq⟩ := ctrReg_apart hn nb
  unfold Hw.secureTx at e
  dsimp only at e
  split at e
  · cases e
  · cases e
    split
    · exact ⟨h.advanceCtr_reg n irq log, h.advanceCtr_cal n _⟩
    · exact ⟨(Hw.reg_setF_other _ _ _ _ _ seq).trans (h.advanceCtr_reg n irq log), h.advanceCtr_cal n _⟩

/-- The frame that a lane would send secured is the one that the command secures. -/
theorem Hw.secureTx_cleared {n : Nat} {f g : TxFrame} (e : (h.secureTx n f).map Prod.fst = some g) :
    ∃ h', (cleared h).secureTx n f = some (g, h') := by
  have same : ((cleared h).secureTx n f).map Prod.fst = (h.secureTx n f).map Prod.fst := by
    have key : (cleared h).airKey (keyOfType f.ftype) f.nb = h.airKey (keyOfType f.ftype) f.nb := rfl
    unfold Hw.secureTx
    dsimp only
    rw [key]
    cases h.airKey (keyOfType f.ftype) f.nb with
    | none => rfl
    | some key =>
      have reg (k : Nat) : (cleared h).reg k = h.reg k := rfl
      have lane : (cleared h).lane n = h.lane n := rfl
      have eui : (cleared h).laneEui n = h.laneEui n := rfl
      have base : (cleared h).baseAddr = h.baseAddr := rfl
      have epoch : (cleared h).epochField = h.epochField := rfl
      simp only [Option.map_some, cleared_f, reg, lane, eui, base, epoch]
  obtain ⟨⟨g', h'⟩, e', eq⟩ := Option.map_eq_some_iff.mp (same.trans e)
  cases eq
  exact ⟨h', e'⟩

/-- Frame `f` of a lane's buffers stands on the air as `g`, loaded and commanded to go (R230). -/
def Hw.launch (n : Nat) (f g : TxFrame) : Hw :=
  (((h.takeFrame n f).updLane n fun l => { l with
    onAir := some ⟨false, false, isCcaKind g.kind, g.token, some g, h.now, g.psdu.length + 4⟩ }).laneCmd n cmdTxLoad g.psdu).laneCmd n
      (if isCcaKind g.kind then cmdTxCca else cmdTxGo) []

theorem Hw.launch_onAir (n : Nat) (f g : TxFrame) : ((h.launch n f g).lane n).onAir =
    some ⟨false, false, isCcaKind g.kind, g.token, some g, h.now, g.psdu.length + 4⟩ :=
  congrArg LaneSt.onAir ((h.takeFrame n f).lane_updLane_same _ n)

theorem Hw.launch_reg (n : Nat) (f g : TxFrame) (k : Nat) : (h.launch n f g).reg k = h.reg k := rfl

variable {h}

theorem Hw.startFrame_fresh {n : Nat} {f g : TxFrame} {h' : Hw} (tok : h.tokenOpen f.token = true) (fresh : f.psdu.isEmpty = true)
    (left : h.reg (ctrReg n f) ≠ 0xFFFFFFFF) (e : h.secureTx n f = some (g, h')) : h.startFrame n f = h'.launch n f g := by
  simp only [Hw.startFrame, tok, fresh, left, e, not_true_eq_false, and_false, if_false, if_true, Hw.launch]

theorem Hw.startFrame_again {n : Nat} {f : TxFrame} (tok : h.tokenOpen f.token = true) (secured : f.psdu.isEmpty = false) :
    h.startFrame n f = h.launch n f f := by
  simp only [Hw.startFrame, tok, secured, not_true_eq_false, Bool.false_eq_true, false_and, if_false, Hw.launch]

end

theorem frameTransmit_go (s : State) (n : Fin 8) (f g : TxFrame) (free : s.hw.laneFree n.val = true)
    (picked : pickTx s.hw.now (s.hw.mayStart n.val) false (s.hw.lane n.val).frames = some f) (tok : s.hw.tokenOpen f.token = true)
    (fresh : f.psdu.isEmpty = true) (left : s.hw.reg (ctrReg n.val f) ≠ 0xFFFFFFFF) (nb : ∀ i, f.nb = some i → i < 512)
    (secured : (s.hw.secureTx n.val f).map Prod.fst = some g) :
    Completes (.frameTransmit n .go) s fun h =>
      (h.lane n.val).onAir = some ⟨false, false, isCcaKind g.kind, g.token, some g, s.hw.now, g.psdu.length + 4⟩ ∧
      h.reg (ctrReg n.val f) = s.hw.reg (ctrReg n.val f) + 1 := by
  refine completes_of_run (e := fun h => h.txGo n.val) rfl ?_
  obtain ⟨h', e⟩ := s.hw.secureTx_cleared secured
  obtain ⟨counted, cal⟩ := (cleared s.hw).secureTx_spec n.isLt nb e
  have free' : (cleared s.hw).laneFree n.val = true := free
  have picked' : pickTx (cleared s.hw).now ((cleared s.hw).mayStart n.val) false ((cleared s.hw).lane n.val).frames = some f := picked
  have started : (cleared s.hw).txGo n.val = h'.launch n.val f g := by
    simp only [Hw.txGo, free', picked', not_true_eq_false, if_false]
    exact Hw.startFrame_fresh (h := cleared s.hw) tok fresh left e
  have now : h'.now = s.hw.now := by rw [Hw.now, cal]; rfl
  rw [started, Hw.launch_onAir, Hw.launch_reg, now]
  exact ⟨rfl, counted⟩

/-! ### The end of a transmission (R230, R240) -/

section
variable (h : Hw) {k : Nat}

theorem Hw.countWrap_rad (k : Nat) : (h.countWrap k).rad = h.rad := by
  unfold Hw.countWrap
  dsimp only
  split <;> rfl

theorem Hw.countWrap_reg_other {j : Nat} (ne : j ≠ k) : (h.countWrap k).reg j = h.reg j := by
  unfold Hw.countWrap
  dsimp only
  split <;> exact Hw.reg_setReg_other _ _ _ _ ne

theorem Hw.countWrap_frames (room : h.f k RAD_LANE_TXCNT.frames + 1 < 2 ^ 28) :
    (h.countWrap k).f k RAD_LANE_TXCNT.frames = h.f k RAD_LANE_TXCNT.frames + 1 := by
  unfold Hw.countWrap
  dsimp only
  rw [if_pos (show RAD_LANE_TXCNT.frames.get (h.reg k) + 1 < 2 ^ 28 from room), Hw.f_setReg_same, Fld.get_set_same _ _ _ (by decide)]
  exact Nat.mod_eq_of_lt room

end

/-- The lane when its transmission has ended. -/
def Hw.airEnded (h : Hw) (n : Nat) (a : OnAir) : Hw := h.updLane n fun l => { l with onAir := none, shut := if a.stp then false else l.shut }

/-- A frame of a lane has gone out well. -/
def Hw.txCounted (h : Hw) (n : Nat) : Hw := (h.setF (RAD_LANE_STAT n) RAD_LANE_STAT.consec 0).countWrap (RAD_LANE_TXCNT n)

/-- A frame that asked for an ACK waits for it. -/
def Hw.awaitAck (h : Hw) (n : Nat) : Option TxFrame → Hw
  | some f => if f.ar then h.addFrame n { f with waitAck := some h.now } else h
  | none => h

section
variable {h : Hw} {n : Nat} {a : OnAir} {rise fall : Option Int} {status : Nat} (air : (h.lane n).onAir = some a) (answers : status ≠ 0xFFFF)
  (sound : bit status 4 = false)
include air answers sound

theorem Hw.txDone_good (idle : (a.cca && bit status 2 && bit status 8) = false) (ok : h.txOk n a rise fall (bit status 2) = true) :
    h.txDone n rise fall status = ((h.airEnded n a).txCounted n).awaitAck n a.frame := by
  have ok' : (h.airEnded n a).txOk n a rise fall (bit status 2) = true := ok
  unfold Hw.airEnded at ok'
  cases frame : a.frame <;>
    simp only [Hw.txDone, air, answers, sound, idle, ok', frame, Bool.false_eq_true, if_false, if_true, Hw.airEnded, Hw.txCounted, Hw.awaitAck]

theorem Hw.txDone_busy {f : TxFrame} (busy : (a.cca && bit status 2 && bit status 8) = true) (frame : a.frame = some f) :
    h.txDone n rise fall status = (h.airEnded n a).channelBusy n f := by
  simp only [Hw.txDone, air, answers, sound, busy, frame, Bool.false_eq_true, if_false, if_true, Hw.airEnded]

end

section
variable (h : Hw) (n : Nat)

theorem Hw.airEnded_onAir (a : OnAir) : ((h.airEnded n a).lane n).onAir = none := congrArg LaneSt.onAir (h.lane_updLane_same _ n)

theorem Hw.onAir_addFrame (m : Nat) (f : TxFrame) : ((h.addFrame n f).lane m).onAir = (h.lane m).onAir :=
  h.lane_updLane_part _ LaneSt.onAir fun _ => rfl

theorem Hw.awaitAck_reg (frame : Option TxFrame) (k : Nat) : (h.awaitAck n frame).reg k = h.reg k := by
  unfold Hw.awaitAck
  split
  · split <;> rfl
  · rfl

theorem Hw.awaitAck_onAir (frame : Option TxFrame) : ((h.awaitAck n frame).lane n).onAir = (h.lane n).onAir := by
  unfold Hw.awaitAck
  split
  · split
    · exact Hw.onAir_addFrame _ _ _ _
    · rfl
  · rfl

theorem Hw.txCounted_lane (m : Nat) : (h.txCounted n).lane m = h.lane m := by
  rw [Hw.lane, Hw.txCounted, Hw.countWrap_rad, Hw.setF_rad, Hw.lane]

theorem Hw.txCounted_now : (h.txCounted n).now = h.now := by
  unfold Hw.txCounted Hw.countWrap
  dsimp only
  split <;> rfl

theorem Hw.txCounted_consec : (h.txCounted n).f (RAD_LANE_STAT n) RAD_LANE_STAT.consec = 0 := by
  have ne : RAD_LANE_STAT n ≠ RAD_LANE_TXCNT n := by simp only [RAD_LANE_STAT, RAD_LANE_TXCNT]; omega
  rw [Hw.txCounted, Hw.f, Hw.countWrap_reg_other _ ne, ← Hw.f, Hw.f_setF_same _ _ _ _ (by decide)]
  rfl

theorem Hw.txCounted_frames (room : h.f (RAD_LANE_TXCNT n) RAD_LANE_TXCNT.frames + 1 < 2 ^ 28) :
    (h.txCounted n).f (RAD_LANE_TXCNT n) RAD_LANE_TXCNT.frames = h.f (RAD_LANE_TXCNT n) RAD_LANE_TXCNT.frames + 1 := by
  have ne : RAD_LANE_TXCNT n ≠ RAD_LANE_STAT n := by simp only [RAD_LANE_STAT, RAD_LANE_TXCNT]; omega
  have same := Hw.f_setF_other h _ _ RAD_LANE_STAT.consec RAD_LANE_TXCNT.frames 0 ne
  rw [Hw.txCounted, Hw.countWrap_frames _ (by rwa [same]), same]

end

/-- The status word of an answering transceiver is not 0xFFFF. -/
theorem status_answers {status : BitVec 16} (answers : status ≠ 0xFFFF) : status.toNat ≠ 0xFFFF :=
  fun e => answers (BitVec.eq_of_toNat_eq e)

theorem frameTransmit_good (s : State) (n : Fin 8) (a : OnAir) (rise fall : Int) (status : BitVec 16)
    (air : (s.hw.lane n.val).onAir = some a) (answers : status ≠ 0xFFFF) (sound : bit status.toNat 4 = false)
    (idle : (a.cca && bit status.toNat 2 && bit status.toNat 8) = false)
    (ok : s.hw.txOk n.val a (some rise) (some fall) (bit status.toNat 2) = true)
    (room : s.hw.f (RAD_LANE_TXCNT n.val) RAD_LANE_TXCNT.frames + 1 < 2 ^ 28) :
    Completes (.frameTransmit n (.done (some rise) (some fall) status)) s fun h =>
      (h.lane n.val).onAir = none ∧ h.f (RAD_LANE_STAT n.val) RAD_LANE_STAT.consec = 0 ∧
      h.f (RAD_LANE_TXCNT n.val) RAD_LANE_TXCNT.frames = s.hw.f (RAD_LANE_TXCNT n.val) RAD_LANE_TXCNT.frames + 1 ∧
      ∀ f, a.frame = some f → f.ar = true → { f with waitAck := some s.hw.now } ∈ (h.lane n.val).frames := by
  refine completes_of_run (e := fun h => h.txDone n.val (some rise) (some fall) status.toNat) rfl ?_
  have ok' : (cleared s.hw).txOk n.val a (some rise) (some fall) (bit status.toNat 2) = true := ok
  rw [Hw.txDone_good (h := cleared s.hw) air (status_answers answers) sound idle ok']
  refine ⟨?_, ?_, ?_, fun f frame ar => ?_⟩
  · rw [Hw.awaitAck_onAir, Hw.txCounted_lane, Hw.airEnded_onAir]
  · rw [Hw.f, Hw.awaitAck_reg, ← Hw.f, Hw.txCounted_consec]
  · rw [Hw.f, Hw.awaitAck_reg, ← Hw.f]
    exact Hw.txCounted_frames ((cleared s.hw).airEnded n.val a) n.val room
  · rw [frame, Hw.awaitAck, if_pos ar, Hw.txCounted_now]
    exact Hw.mem_addFrame _ _ _

theorem frameTransmit_busy (s : State) (n : Fin 8) (a : OnAir) (f : TxFrame) (rise fall : Option Int) (status : BitVec 16)
    (air : (s.hw.lane n.val).onAir = some a) (answers : status ≠ 0xFFFF) (sound : bit status.toNat 4 = false)
    (busy : (a.cca && bit status.toNat 2 && bit status.toNat 8) = true) (frame : a.frame = some f) (few : f.busy < 4) :
    Completes (.frameTransmit n (.done rise fall status)) s fun h =>
      (h.lane n.val).onAir = none ∧ { f with busy := f.busy + 1, notBefore := backOff } ∈ (h.lane n.val).frames ∧
      h.f (RAD_LANE_ERR n.val) RAD_LANE_ERR.cca_busy =
        min RAD_LANE_ERR.cca_busy.max (s.hw.f (RAD_LANE_ERR n.val) RAD_LANE_ERR.cca_busy + 1) := by
  refine completes_of_run (e := fun h => h.txDone n.val rise fall status.toNat) rfl ?_
  rw [Hw.txDone_busy (h := cleared s.hw) air (status_answers answers) sound busy frame, Hw.channelBusy, if_pos few]
  refine ⟨?_, Hw.mem_addFrame _ _ _, ?_⟩
  · rw [Hw.onAir_addFrame, Hw.lane, Hw.bump_rad]
    exact Hw.airEnded_onAir _ _ _
  · exact Hw.f_bump ((cleared s.hw).airEnded n.val a) _ _ _ (by decide) (by decide) (by decide)

/-! ### Repeats (R240, R249) -/

theorem exec_ackTimeout (s : State) (n : Fin 8) {f : TxFrame}
    (waits : (s.hw.lane n.val).frames.find? (fun f => f.waitAck.isSome) = some f) :
    exec (.ackTimeout n) s = run s fun h => (h.takeFrame n.val f).repeatOrEnd n.val f := by
  have waits' : ((cleared s.hw).lane n.val).frames.find? (fun f => f.waitAck.isSome) = some f := waits
  change execAckTimeout n s = _
  exact run_congr (by simp only [waits'])

theorem ackTimeout_repeats (s : State) (n : Fin 8) (f : TxFrame)
    (waits : (s.hw.lane n.val).frames.find? (fun f => f.waitAck.isSome) = some f) (left : 0 < f.retries) :
    Completes (.ackTimeout n) s fun h =>
      { f with retries := f.retries - 1, waitAck := none, notBefore := s.hw.now } ∈ (h.lane n.val).frames := by
  refine completes_of_run (exec_ackTimeout s n waits) ?_
  rw [Hw.repeatOrEnd, if_pos left]
  exact Hw.mem_addFrame _ _ _

theorem ackTimeout_ends (s : State) (n : Fin 8) (f : TxFrame) (i : Fin 512)
    (waits : (s.hw.lane n.val).frames.find? (fun f => f.waitAck.isSome) = some f) (left : f.retries = 0) (nb : f.nb = some i.val) :
    Completes (.ackTimeout n) s fun h =>
      h.f (RAD_NB_CNT i.val) RAD_NB_CNT.retries = min RAD_NB_CNT.retries.max (s.hw.f (RAD_NB_CNT i.val) RAD_NB_CNT.retries + 1) := by
  refine completes_of_run (exec_ackTimeout s n waits) ?_
  simp only [Hw.repeatOrEnd, left, nb, gt_iff_lt, lt_irrefl, if_false]
  exact Hw.f_bump ((cleared s.hw).takeFrame n.val f) _ _ _ (by decide) (by decide) (by decide)

/-- The frame of a lane that has backed off waits no more, and starts where its lane may send it. -/
theorem exec_ccaRetry (s : State) (n : Fin 8) {f : TxFrame}
    (backs : (s.hw.lane n.val).frames.find? (fun f => decide (f.notBefore = backOff)) = some f) :
    exec (.ccaRetry n) s = run s fun h =>
      if h.laneFree n.val && h.mayStart n.val { f with notBefore := h.now } then
        (h.requeue n.val f { f with notBefore := h.now }).startFrame n.val { f with notBefore := h.now }
      else h.requeue n.val f { f with notBefore := h.now } := by
  have backs' : ((cleared s.hw).lane n.val).frames.find? (fun f => decide (f.notBefore = backOff)) = some f := backs
  change execCcaRetry n s = _
  refine run_congr ?_
  simp only [backs']
  rw [← Hw.requeue, Hw.laneFree_requeue, Hw.mayStart_requeue _ _ _ _ n.isLt]

theorem ccaRetry_waits (s : State) (n : Fin 8) (f : TxFrame)
    (backs : (s.hw.lane n.val).frames.find? (fun f => decide (f.notBefore = backOff)) = some f)
    (held : (s.hw.laneFree n.val && s.hw.mayStart n.val { f with notBefore := s.hw.now }) = false) :
    Completes (.ccaRetry n) s fun h => { f with notBefore := s.hw.now } ∈ (h.lane n.val).frames := by
  have held' : ¬((cleared s.hw).laneFree n.val && (cleared s.hw).mayStart n.val { f with notBefore := (cleared s.hw).now }) = true :=
    Bool.eq_false_iff.mp held
  refine completes_of_run (exec_ccaRetry s n backs) ?_
  rw [if_neg held']
  exact Hw.mem_addFrame _ _ _

theorem ccaRetry_starts (s : State) (n : Fin 8) (f : TxFrame)
    (backs : (s.hw.lane n.val).frames.find? (fun f => decide (f.notBefore = backOff)) = some f) (free : s.hw.laneFree n.val = true)
    (start : s.hw.mayStart n.val { f with notBefore := s.hw.now } = true) (tok : s.hw.tokenOpen f.token = true)
    (secured : f.psdu.isEmpty = false) :
    Completes (.ccaRetry n) s fun h =>
      (h.lane n.val).onAir =
        some ⟨false, false, isCcaKind f.kind, f.token, some { f with notBefore := s.hw.now }, s.hw.now, f.psdu.length + 4⟩ := by
  have may : ((cleared s.hw).laneFree n.val && (cleared s.hw).mayStart n.val { f with notBefore := (cleared s.hw).now }) = true :=
    Bool.and_eq_true_iff.mpr ⟨free, start⟩
  refine completes_of_run (exec_ccaRetry s n backs) ?_
  rw [if_pos may, Hw.startFrame_again (h := (cleared s.hw).requeue n.val f { f with notBefore := (cleared s.hw).now })
    (f := { f with notBefore := (cleared s.hw).now }) tok secured, Hw.launch_onAir]
  rfl

end Sys2Proof.Machine
end

section
/-! PROOFS. A superframe starts: the count advances, bindings move, and each lane in service gets its beacon (R237, R241, R243); O24 is settled. -/

namespace Sys2Proof.Machine

open Reg Sys2Proof.Safety

/-! ### What the start of a superframe keeps -/

/-- `g` counts superframes, sends and has lanes in service as `h` does, in the same superframe. -/
structure AirKept (h g : Hw) : Prop where
  count : g.reg RAD_SFNUM = h.reg RAD_SFNUM
  cfg : g.reg RAD_CFG = h.reg RAD_CFG
  serving : g.f RAD_STAT RAD_STAT.in_service = h.f RAD_STAT RAD_STAT.in_service
  tsf : g.rad.tsf = h.rad.tsf
  started : g.rad.started = h.rad.started

/-- The registers that `AirKept` speaks of. -/
abbrev airRegs : List Nat := [RAD_SFNUM, RAD_CFG, RAD_STAT]

/-- A lane in service is one of the device's eight. -/
theorem Hw.lt_of_laneUp {h : Hw} {n : Nat} (up : h.laneUp n = true) : n < 8 := by
  by_contra ge
  have low : h.f RAD_STAT RAD_STAT.in_service < 2 ^ 8 := Fld.get_lt _ _
  have bound : h.f RAD_STAT RAD_STAT.in_service < 2 ^ n := low.trans_le (Nat.pow_le_pow_right (by decide) (not_lt.mp ge))
  rw [Hw.laneUp, bit, Nat.testBit_lt_two_pow bound] at up
  exact nomatch up

theorem Hw.mem_lanesUp {h : Hw} {n : Nat} : n ∈ h.lanesUp ↔ h.laneUp n = true := by
  rw [Hw.lanesUp, List.mem_filter, List.mem_range]
  exact ⟨And.right, fun up => ⟨Hw.lt_of_laneUp up, up⟩⟩

theorem Hw.lanesUp_nodup (h : Hw) : h.lanesUp.Nodup := List.nodup_range.filter _

theorem Hw.fallbackOf_lt {h : Hw} {n dst : Nat} (e : h.fallbackOf n = some dst) : dst < 8 := by
  unfold Hw.fallbackOf at e
  dsimp only at e
  split at e
  · next up =>
    cases e
    exact Hw.lt_of_laneUp up
  · exact Hw.lt_of_laneUp (Hw.mem_lanesUp.mp (List.mem_of_mem_head? e))

section
variable {a b c h g : Hw}

theorem AirKept.refl (h : Hw) : AirKept h h := ⟨rfl, rfl, rfl, rfl, rfl⟩

theorem AirKept.trans (p : AirKept a b) (q : AirKept b c) : AirKept a c :=
  ⟨q.count.trans p.count, q.cfg.trans p.cfg, q.serving.trans p.serving, q.tsf.trans p.tsf, q.started.trans p.started⟩

theorem AirKept.foldl {β : Type} (f : Hw → β → Hw) (l : List β) (hf : ∀ h, ∀ b ∈ l, AirKept h (f h b)) (h : Hw) : AirKept h (l.foldl f h) := by
  induction l generalizing h with
  | nil => exact .refl h
  | cons b l ih => exact (hf h b List.mem_cons_self).trans (ih (fun h c hc => hf h c (List.mem_cons_of_mem b hc)) (f h b))

theorem AirKept.laneUp_eq (kept : AirKept h g) (n : Nat) : g.laneUp n = h.laneUp n := by rw [Hw.laneUp, kept.serving, Hw.laneUp]

theorem AirKept.radSends_eq (kept : AirKept h g) : g.radSends = h.radSends := by
  simp only [Hw.radSends, Hw.sends, Hw.flag, Hw.f, kept.cfg]

end

section
variable (h : Hw)

/-- What leaves the three registers and the superframe. -/
theorem AirKept.of_regs {h g : Hw} (regs : ∀ k ∈ airRegs, g.reg k = h.reg k) (tsf : g.rad.tsf = h.rad.tsf) (started : g.rad.started = h.rad.started) :
    AirKept h g where
  count := regs _ (by decide)
  cfg := regs _ (by decide)
  serving := by rw [Hw.f, regs _ (by decide), Hw.f]
  tsf := tsf
  started := started

theorem AirKept.setF {k : Nat} (f : Fld) (v : Nat) (hk : k ∉ airRegs) : AirKept h (h.setF k f v) :=
  .of_regs (fun _ hj => Hw.reg_setF_other _ _ _ _ _ fun e => hk (e ▸ hj)) rfl rfl

theorem AirKept.statF (f : Fld) (v : Nat) (fits : f.lo + f.width ≤ 32)
    (apart : f.lo + f.width ≤ RAD_STAT.in_service.lo ∨ RAD_STAT.in_service.lo + RAD_STAT.in_service.width ≤ f.lo) :
    AirKept h (h.setF RAD_STAT f v) where
  count := Hw.reg_setF_other _ _ _ _ _ (by decide)
  cfg := Hw.reg_setF_other _ _ _ _ _ (by decide)
  serving := Hw.f_setF_apart _ _ _ _ _ fits apart
  tsf := rfl
  started := rfl

theorem AirKept.raiseFrom (src : Nat) (f : Fld) (i : Nat) : AirKept h (h.raiseFrom src RAD_IRQ_STAT f i) := by
  have apart : ∀ k ∈ airRegs, k ≠ RAD_IRQ_STAT ∧ k ∉ logRegs := by decide
  exact .of_regs (fun k hk => Hw.raiseFrom_reg _ _ _ _ _ _ (apart k hk).1 (apart k hk).2) (by rw [Hw.raiseFrom_rad]) (by rw [Hw.raiseFrom_rad])

theorem AirKept.updRad (u : RadSt → RadSt) (tsf : (u h.rad).tsf = h.rad.tsf) (started : (u h.rad).started = h.rad.started) :
    AirKept h (h.updRad u) := .of_regs (fun _ _ => rfl) tsf started

theorem AirKept.updLane (n : Nat) (u : LaneSt → LaneSt) : AirKept h (h.updLane n u) := .of_regs (fun _ _ => rfl) rfl rfl

/-! ### Bindings (R243, R256) -/

theorem not_airRegs_of_le {k : Nat} (hk : 0x110014 ≤ k) : k ∉ airRegs := fun hm => by
  have : ∀ j ∈ airRegs, j < 0x110014 := by decide
  exact absurd (this k hm) (not_lt.mpr hk)

theorem AirKept.unbindRobot (lane r : Nat) : AirKept h (h.unbindRobot lane r) := by
  refine (AirKept.updRad h _ rfl rfl).trans (.foldl _ _ (fun h k _ => ?_) _)
  split
  · exact .setF h _ _ (not_airRegs_of_le (by simp only [RAD_SLOT]; omega))
  · exact .refl h

theorem AirKept.bindRobot (lane r : Nat) : AirKept h (h.bindRobot lane r) := by
  unfold Hw.bindRobot
  split
  · exact .setF h _ _ (not_airRegs_of_le (by simp only [RAD_SLOT]; omega))
  · exact .updRad h _ rfl rfl

theorem AirKept.moveLane (n : Nat) : AirKept h (h.moveLane n).1 := by
  unfold Hw.moveLane
  split
  · exact .refl h
  · dsimp only
    refine AirKept.trans ?_ (AirKept.foldl _ (List.range 512) (fun h i _ => ?_) _)
    · exact .foldl _ _ (fun h r _ => (AirKept.unbindRobot h n r).trans (.bindRobot _ _ r)) h
    · split
      · exact .setF h _ _ (not_airRegs_of_le (by simp only [RAD_NB_CFG]; omega))
      · exact .refl h

theorem AirKept.bindingChange (ns : List (Nat × Nat × List Nat)) : AirKept h (h.bindingChange ns) :=
  (((AirKept.statF h _ _ (by decide) (by decide)).trans (.updRad _ _ rfl rfl)).trans (.statF _ _ _ (by decide) (by decide))).trans
    (.raiseFrom _ _ _ _)

theorem AirKept.applyBindings : AirKept h h.applyBindings := by
  have moved (l : List Nat) : ∀ p : Hw × List (Nat × Nat × List Nat), AirKept p.1
      (l.foldl (fun p n => ((p.1.moveLane n).1, p.2 ++ (p.1.moveLane n).2)) p).1 := by
    induction l with
    | nil => exact fun p => .refl p.1
    | cons n l ih => exact fun p => (AirKept.moveLane p.1 n).trans (ih ((p.1.moveLane n).1, p.2 ++ (p.1.moveLane n).2))
  unfold Hw.applyBindings
  split
  · exact .refl h
  · exact ((moved _ (h, [])).trans (.updRad _ _ rfl rfl)).trans (.bindingChange _ _)

/-! ### Beacons (R239, R241) -/

theorem Hw.seedCut_rad (n : Nat) : (h.seedCut n).rad = h.rad := by rw [Hw.seedCut, Hw.raiseFrom_rad, Hw.bump_rad]

theorem AirKept.seedCut (n : Nat) : AirKept h (h.seedCut n) := by
  have counted : AirKept h (h.bump RAD_ERR2 RAD_ERR2.seed RAD_ERR2.seed_sat) :=
    .of_regs (fun k hk => Hw.reg_bump_other _ _ _ _ _ fun e => absurd (e ▸ hk) (by decide)) (by rw [Hw.bump_rad]) (by rw [Hw.bump_rad])
  exact counted.trans (.raiseFrom _ _ _ _)

theorem Hw.beaconSeed_rad (n e : Nat) (late : Bool) : (h.beaconSeed n e late).2.rad = h.rad := by
  unfold Hw.beaconSeed
  split
  · rfl
  · split
    · exact h.seedCut_rad n
    · split
      · rfl
      · exact Hw.seedCut_rad _ _

theorem AirKept.beaconSeed (n e : Nat) (late : Bool) : AirKept h (h.beaconSeed n e late).2 := by
  unfold Hw.beaconSeed
  split
  · exact .refl h
  · split
    · exact .seedCut h n
    · split
      · exact .refl h
      · dsimp only
        refine AirKept.trans ?_ (.seedCut _ n)
        exact .of_regs (fun _ _ => rfl) rfl rfl

/-- A beacon is a frame added to its lane, behind the seed that it carries. -/
theorem Hw.beacon_adds (e : Option Nat) (late n : Nat) :
    ∃ g f, AirKept h g ∧ g.rad = h.rad ∧ f.kind = kBeacon ∧ h.beacon e late n = g.addFrame n f := by
  cases e with
  | none => exact ⟨h, _, .refl h, rfl, rfl, rfl⟩
  | some e => exact ⟨_, _, .beaconSeed h n e _, h.beaconSeed_rad n e _, rfl, rfl⟩

/-- A lane begins its superframe: its layout, its due frames, and none of its old beacon. -/
def Hw.laneBegun (e : Option Nat) (n : Nat) : Hw :=
  h.updLane n fun l => { l with
    aux := e.any fun k => decide (k % max 1 (h.f (RAD_LANE_SF n) RAD_LANE_SF.aux_div) = 0)
    infoDue := decide ((h.reg RAD_SFNUM).toNat % 20 = 0 ∨ h.rad.noticeLeft > 0) || l.infoDue
    frames := l.frames.filter fun f => decide (f.kind ≠ kBeacon) }

theorem Hw.laneStart_eq (e : Option Nat) (late n : Nat) :
    Hw.laneStart e late h n = if h.radSends && h.laneUp n then (h.laneBegun e n).beacon e late n else h.laneBegun e n := rfl

theorem AirKept.laneBegun (e : Option Nat) (n : Nat) : AirKept h (h.laneBegun e n) := .updLane h n _

theorem AirKept.laneStart (e : Option Nat) (late n : Nat) : AirKept h (Hw.laneStart e late h n) := by
  rw [Hw.laneStart_eq]
  split
  · obtain ⟨g, f, kept, -, -, added⟩ := (h.laneBegun e n).beacon_adds e late n
    rw [added]
    exact ((AirKept.laneBegun h e n).trans kept).trans (.updLane g n _)
  · exact .laneBegun h e n

theorem Hw.laneStart_other {m n : Nat} (ne : m ≠ n) (e : Option Nat) (late : Nat) : (Hw.laneStart e late h n).lane m = h.lane m := by
  rw [Hw.laneStart_eq]
  split
  · obtain ⟨g, f, -, rad, -, added⟩ := (h.laneBegun e n).beacon_adds e late n
    rw [added, Hw.addFrame, Hw.lane_updLane_other _ _ ne, Hw.lane, rad, ← Hw.lane]
    exact h.lane_updLane_other _ ne
  · exact h.lane_updLane_other _ ne

/-- A lane that sends has a beacon once its superframe has begun. -/
theorem Hw.laneStart_beacon {n : Nat} (sends : h.radSends = true) (up : h.laneUp n = true) (e : Option Nat) (late : Nat) :
    ∃ f ∈ ((Hw.laneStart e late h n).lane n).frames, f.kind = kBeacon := by
  obtain ⟨g, f, -, -, kind, added⟩ := (h.laneBegun e n).beacon_adds e late n
  rw [Hw.laneStart_eq, sends, up, Bool.and_self, if_pos rfl, added]
  exact ⟨f, g.mem_addFrame n f, kind⟩

/-! ### The superframe (R237) -/

theorem Hw.mirror_rad (i : MirrorItem) : (h.mirror i).rad = h.rad := by
  unfold Hw.mirror
  split <;> rfl

theorem AirKept.makeSeed (k t : Nat) (nav : List SatGeo) : AirKept h (h.makeSeed k t nav) := by
  unfold Hw.makeSeed
  exact .of_regs (fun k _ => by rw [Hw.updObs_reg, Hw.updFix_reg]) (by rw [Hw.updObs_rad, Hw.updFix_rad]) (by rw [Hw.updObs_rad, Hw.updFix_rad])

/-- The superframe begins and is counted. -/
def Hw.superframeCounted : Hw :=
  (h.updRad fun r => { r with tsf := h.nextTsf, started := true, noticeLeft := r.noticeLeft - 1,
                              notices := if r.noticeLeft ≤ 1 then [] else r.notices }).setReg RAD_SFNUM (h.reg RAD_SFNUM + 1)

theorem Hw.superframeCounted_reg {k : Nat} (ne : k ≠ RAD_SFNUM) : h.superframeCounted.reg k = h.reg k := Hw.reg_setReg_other _ _ _ _ ne

theorem Hw.superframeCounted_radSends : h.superframeCounted.radSends = h.radSends := by
  simp only [Hw.radSends, Hw.sends, Hw.flag, Hw.f, h.superframeCounted_reg (show RAD_CFG ≠ RAD_SFNUM by decide)]

theorem Hw.superframeCounted_laneUp (n : Nat) : h.superframeCounted.laneUp n = h.laneUp n := by
  simp only [Hw.laneUp, Hw.f, h.superframeCounted_reg (show RAD_STAT ≠ RAD_SFNUM by decide)]

/-- A superframe is counted, makes its seed where a robot epoch starts, begins on every lane, and is mirrored. -/
theorem Hw.superframe_eq (nav : List SatGeo) (late : Nat) :
    ∃ g e i, AirKept h.superframeCounted g ∧ h.superframe nav late = ((List.range 8).foldl (Hw.laneStart e late) g).mirror i := by
  unfold Hw.superframe
  dsimp only
  refine ⟨_, _, _, ?_, rfl⟩
  have bound : AirKept h.superframeCounted h.superframeCounted.applyBindings := .applyBindings _
  split
  · exact (bound.trans (.updRad _ _ rfl rfl)).trans (.makeSeed _ _ _ nav)
  · exact bound

end

theorem superframeStart_completes (s : State) (nav : List SatGeo) (late : BitVec 8) :
    Completes (.superframeStart nav late) s fun h =>
      h.reg RAD_SFNUM = s.hw.reg RAD_SFNUM + 1 ∧ h.rad.started = true ∧ h.rad.tsf = s.hw.nextTsf ∧
      ∀ n < 8, s.hw.radSends = true → s.hw.laneUp n = true → ∃ f ∈ (h.lane n).frames, f.kind = kBeacon := by
  refine completes_of_run (e := fun h => h.superframe nav late.toNat) rfl ?_
  obtain ⟨g, e, i, begun, is⟩ := (cleared s.hw).superframe_eq nav late.toNat
  have kept : AirKept (cleared s.hw).superframeCounted ((List.range 8).foldl (Hw.laneStart e late.toNat) g) :=
    begun.trans (.foldl _ _ (fun h n _ => .laneStart h e _ n) g)
  rw [is, Hw.mirror_rad, Hw.reg, Hw.mirror_regs, ← Hw.reg, kept.count, kept.tsf, kept.started]
  refine ⟨Hw.reg_setReg_same _ _ _, rfl, rfl, fun n hn sends up => ?_⟩
  rw [Hw.lane, Hw.mirror_rad, ← Hw.lane]
  exact foldl_reaches (f := Hw.laneStart e late.toNat) (Pre := fun h => AirKept (cleared s.hw).superframeCounted h)
    (Post := fun h => ∃ f ∈ (h.lane n).frames, f.kind = kBeacon) (fun h m _ pre => pre.trans (.laneStart h e _ m))
    (fun h pre => h.laneStart_beacon (pre.radSends_eq.trans ((Hw.superframeCounted_radSends _).trans sends))
      ((pre.laneUp_eq n).trans ((Hw.superframeCounted_laneUp _ n).trans up)) e _)
    (fun h m ne post => by rwa [h.laneStart_other ne.symm]) _ List.nodup_range (List.mem_range.mpr hn) g begun

/-- Settles O24: each command by which the radio sends completes as its own theorem says. -/
theorem radioSendCommandsComplete : Obligations.RadioSendCommandsComplete :=
  ⟨fun s nav late _ => superframeStart_completes s nav late, txPacketTake_info, txPacketTake_track, txPacketTake_rtcm, frameTransmit_go,
    frameTransmit_good, frameTransmit_busy, ackTimeout_repeats, ackTimeout_ends, ccaRetry_waits, ccaRetry_starts⟩

end Sys2Proof.Machine
end

section
/-! SUPPORT. What a received frame leaves of the queues of frames read, whatever becomes of it (R244–R246, R249, R251). -/

namespace Sys2Proof.Machine

open Reg Sys2Proof.Safety

/-- Each lane of `g` has the frames read that it has in `h`. -/
def QueuesKept (h g : Hw) : Prop := ∀ m, (g.lane m).rx = (h.lane m).rx

section
variable {a b c h g : Hw}

theorem QueuesKept.refl (h : Hw) : QueuesKept h h := fun _ => rfl

theorem QueuesKept.trans (p : QueuesKept a b) (q : QueuesKept b c) : QueuesKept a c := fun m => (q m).trans (p m)

theorem QueuesKept.of_lanes (lanes : g.rad.lanes = h.rad.lanes) : QueuesKept h g := fun m => by rw [Hw.lane, lanes, Hw.lane]

theorem QueuesKept.of_rad (rad : g.rad = h.rad) : QueuesKept h g := .of_lanes (congrArg RadSt.lanes rad)

theorem QueuesKept.ite {p : Prop} [Decidable p] (yes : QueuesKept h a) (no : QueuesKept h b) : QueuesKept h (if p then a else b) := by
  split
  · exact yes
  · exact no

end

section
variable (h : Hw)

theorem QueuesKept.updLane (n : Nat) {u : LaneSt → LaneSt} (kept : ∀ l, (u l).rx = l.rx) : QueuesKept h (h.updLane n u) :=
  fun _ => h.lane_updLane_part u LaneSt.rx kept

theorem QueuesKept.bump (k : Nat) (c s : Fld) : QueuesKept h (h.bump k c s) := .of_rad (Hw.bump_rad _ _ _ _)

theorem QueuesKept.countWrap (k : Nat) : QueuesKept h (h.countWrap k) := .of_rad (h.countWrap_rad k)

theorem QueuesKept.unsupported : QueuesKept h h.unsupported := .bump h _ _ _

theorem QueuesKept.rxAuth (n : Nat) (c s : Fld) : QueuesKept h (h.rxAuth n c s) := .of_rad (by rw [Hw.rxAuth, Hw.raiseFrom_rad, Hw.bump_rad])

theorem QueuesKept.takeFrame (n : Nat) (f : TxFrame) : QueuesKept h (h.takeFrame n f) := .updLane h n fun _ => rfl

/-! ### Acknowledgements (R249) -/

theorem QueuesKept.advanceCtr (n k : Nat) : QueuesKept h (h.advanceCtr n k) := by
  unfold Hw.advanceCtr
  exact .ite (.of_rad (Hw.raiseFrom_rad _ _ _ _ _)) (.refl h)

/-- An ACK that goes out stands on the air of its lane and is sent to the transceiver. -/
theorem QueuesKept.ackLaunched (n : Nat) (a : OnAir) (code : Nat) (psdu : List Byte) :
    QueuesKept h (((h.updLane n fun l => { l with onAir := some a }).laneCmd n cmdTxLoad psdu).laneCmd n code []) :=
  .updLane h n fun _ => rfl

theorem QueuesKept.sendAck (n : Nat) (nb : Option Nat) (dst seq time : Nat) (pend : Bool) : QueuesKept h (h.sendAck n nb dst seq time pend) := by
  unfold Hw.sendAck
  split
  · exact .refl h
  · dsimp only
    split
    · exact .bump h _ _ _
    · split
      · exact .bump h _ _ _
      · split
        · exact .trans (.of_rad rfl) (.ackLaunched (h.useFree 1) n _ _ _)
        · exact .ite (.bump h _ _ _) (.trans (.advanceCtr h n _) (.ackLaunched _ n _ _ _))

theorem QueuesKept.takeAck (n : Nat) (p : Parsed) : QueuesKept h (h.takeAck n p) := by
  unfold Hw.takeAck
  split
  · exact .bump h _ _ _
  · dsimp only
    split
    · exact .rxAuth h n _ _
    · split
      · exact .trans (.bump h _ _ _) (.rxAuth _ n _ _)
      · exact .trans (.takeFrame (h.setReg _ _) n _) (.countWrap _ _)

/-! ### Delivery (R246, R252) -/

theorem QueuesKept.toStream (bs : List Byte) : QueuesKept h (h.toStream bs) := by
  have stream : h.f RAD_STREAMS RAD_STREAMS.rx_fifo < 64 := Fld.get_lt _ _
  have sent : QueuesKept h (h.hwSendFree prodRx (h.f RAD_STREAMS RAD_STREAMS.rx_fifo) bs).1 :=
    .of_rad (FleetKept.hwSend (h.useFree 1) stream _ _ _).rad
  unfold Hw.toStream
  exact .ite (sent.trans (.bump _ _ _ _)) sent

theorem QueuesKept.keepRelay (robot : Nat) (fl : Nat × Nat × Nat) (payload : List Byte) : QueuesKept h (h.keepRelay robot fl payload) :=
  .ite (.refl h) (.of_lanes rfl)

theorem QueuesKept.deliver (n ft : Nat) (nb : Option Nat) (p : Parsed) (x : RxFrame) (m : List Byte) : QueuesKept h (h.deliver n ft nb p x m) := by
  unfold Hw.deliver
  exact .ite (.of_lanes rfl) (.ite (.refl h) (.ite (.of_lanes rfl) (.ite (.of_lanes rfl) (.ite (.refl h)
    (.ite (.trans (.toStream h _) (.keepRelay _ _ _ _)) (.toStream h _))))))

/-! ### Accepted frames (R244, R245, R251, R255) -/

theorem QueuesKept.acceptSeq (i ctr seq : Nat) : QueuesKept h (h.acceptSeq i ctr seq) := by
  unfold Hw.acceptSeq
  dsimp only
  split <;> exact .of_lanes rfl

theorem QueuesKept.rdvHeard (i : Nat) : QueuesKept h (h.rdvHeard i) := by
  unfold Hw.rdvHeard
  split <;> exact .of_lanes rfl

theorem QueuesKept.enterSeen (origin id : Nat) : QueuesKept h (h.enterSeen origin id) :=
  .ite (.of_lanes rfl) (.ite (.of_lanes rfl) (.trans (.bump h _ _ _) (.of_lanes rfl)))

theorem QueuesKept.floodStep (fl : Option (Nat × Nat × Nat)) : QueuesKept h (h.floodStep fl).2 := by
  unfold Hw.floodStep
  split
  · exact .refl h
  · split
    · exact .bump h _ _ _
    · exact .enterSeen h _ _

/-- A neighbour's link shows how a frame was received. -/
def Hw.linked (i : Nat) (x : RxFrame) : Hw := (h.setF (RAD_NB_LINK i) RAD_NB_LINK.rssi x.rssi).setF (RAD_NB_LINK i) RAD_NB_LINK.lqi x.lqi

/-- A frame that asks for an ACK gets one. -/
def Hw.acked (n i : Nat) (p : Parsed) (x : RxFrame) : Hw :=
  if p.ar then h.sendAck n (some i) (h.nbShort i) p.seq x.time (decide (p.mac = macCommand) && decide (h.heldFor i > 0)) else h

/-- An accepted frame is counted and delivered, unless its flood has been seen. -/
def Hw.passOn (n ft i : Nat) (p : Parsed) (x : RxFrame) (m : List Byte) : Hw :=
  if (h.floodStep (ieFlood (p.ie.getD []))).1 then
    ((h.floodStep (ieFlood (p.ie.getD []))).2.countWrap (RAD_LANE_RXCNT n)).deliver n ft (some i) p x m
  else (h.floodStep (ieFlood (p.ie.getD []))).2

section
variable (n ft i : Nat) (p : Parsed) (x : RxFrame) (m : List Byte)

theorem Hw.rxAccept_new (fresh : h.freshOf i p.ctr p.seq = .new) :
    h.rxAccept n ft i p x m = (((((h.linked i x).acceptSeq i p.ctr p.seq).rdvHeard i).acked n i p x).passOn n ft i p x m) := by
  unfold Hw.rxAccept
  rw [fresh]
  rfl

theorem Hw.rxAccept_dup (fresh : h.freshOf i p.ctr p.seq = .dup) :
    h.rxAccept n ft i p x m = ((h.linked i x).bump (RAD_NB_CNT i) RAD_NB_CNT.dup RAD_NB_CNT.dup_sat).acked n i p x := by
  unfold Hw.rxAccept
  rw [fresh]
  rfl

theorem Hw.rxAccept_replay (fresh : h.freshOf i p.ctr p.seq = .replay) :
    h.rxAccept n ft i p x m = (h.bump (RAD_NB_CNT i) RAD_NB_CNT.replay RAD_NB_CNT.replay_sat).rxAuth n RAD_ERR.replay RAD_ERR.replay_sat := by
  unfold Hw.rxAccept
  rw [fresh]

theorem QueuesKept.linked : QueuesKept h (h.linked i x) := .of_rad rfl

theorem QueuesKept.acked : QueuesKept h (h.acked n i p x) := .ite (.sendAck h _ _ _ _ _ _) (.refl h)

theorem QueuesKept.passOn : QueuesKept h (h.passOn n ft i p x m) :=
  .ite (.trans (.floodStep h _) (.trans (.countWrap _ _) (.deliver _ _ _ _ _ _ _))) (.floodStep h _)

theorem QueuesKept.rxAccept : QueuesKept h (h.rxAccept n ft i p x m) := by
  cases fresh : h.freshOf i p.ctr p.seq with
  | replay =>
    rw [Hw.rxAccept_replay _ _ _ _ _ _ _ fresh]
    exact .trans (.bump h _ _ _) (.rxAuth _ n _ _)
  | dup =>
    rw [Hw.rxAccept_dup _ _ _ _ _ _ _ fresh]
    exact .trans (.trans (.linked h i x) (.bump _ _ _ _)) (.acked _ n i p x)
  | new =>
    rw [Hw.rxAccept_new _ _ _ _ _ _ _ fresh]
    exact .trans (.trans (.trans (.trans (.linked h i x) (.acceptSeq _ i _ _)) (.rdvHeard _ i)) (.acked _ n i p x)) (.passOn _ n ft i p x m)

end

theorem QueuesKept.hearSeed (bs : List Byte) : QueuesKept h (h.hearSeed bs) := by
  unfold Hw.hearSeed
  split
  · exact .refl h
  · exact .of_rad rfl

/-- A received frame leaves the frames read that wait behind it. -/
theorem QueuesKept.rxFrame (n : Nat) (x : RxFrame) : QueuesKept h (h.rxFrame n x) := by
  unfold Hw.rxFrame
  dsimp only
  split
  · exact .unsupported h
  · split
    · exact .ite (.takeAck h n _) (.refl h)
    · split
      · split
        · exact .ite (.hearSeed h _) (.refl h)
        · exact .rxAuth h n _ _
      · split
        · split
          · exact .trans (.of_rad rfl) (.rxAuth (h.useFree 2) n _ _)
          · have free : QueuesKept h (h.useFree 2) := .of_rad rfl
            exact .ite free (.trans (.ite (free.trans (.sendAck _ _ _ _ _ _ _)) free) (.trans (.countWrap _ _) (.deliver _ _ _ _ _ _ _)))
        · split
          · exact .bump h _ _ _
          · split
            · exact .rxAuth h n _ _
            · exact .ite (.unsupported h) (.ite (.rxAccept h n _ _ _ x _) (.ite (.deliver h n _ _ _ x _) (.refl h)))

end

end Sys2Proof.Machine
end

section
/-! PROOFS. The transceiver's commands, frames read and received, and packets dropped complete (R228, R229, R244–R246), and O25 is settled. -/

namespace Sys2Proof.Machine

open Reg Sys2Proof.Safety

/-! ### Commands of the transceiver (R228) -/

/-- A command of the transceiver that RAD may issue now does what its effect does. -/
theorem completes_of_cmdOpen {c : Instr} {s : State} {n : Fin 8} {e : Hw → Hw} {P : Hw → Prop} (mayIssue : s.hw.cmdOpen n.val = true)
    (he : exec c s = run s fun h => if h.cmdOpen n.val then e h else h) (hp : P (e (cleared s.hw))) : Completes c s P := by
  have mayIssue' : (cleared s.hw).cmdOpen n.val = true := mayIssue
  exact completes_of_run (he.trans (run_congr (if_pos mayIssue'))) hp

theorem transceiverCommands_complete (s : State) (n : Fin 8) (addr : BitVec 16) (data : List Byte) (count : Byte)
    (mayIssue : s.hw.cmdOpen n.val = true) :
    Completes (.rxOn n) s (fun h => h.bus.out = [.lane n.val 0x06 []] ∧ (h.lane n.val).rxOn = true) ∧
    Completes (.idle n) s (fun h => h.bus.out = [.lane n.val 0x07 []] ∧ (h.lane n.val).rxOn = false) ∧
    Completes (.regWrite n addr data) s (fun h => h.bus.out = [.lane n.val 0x08 (leBytes 2 addr.toNat ++ data)]) ∧
    Completes (.regRead n addr count data) s (fun h => h.bus.out = [.lane n.val 0x09 (leBytes 2 addr.toNat ++ leBytes 1 count.toNat)] ∧
      h.bus.resp = .octets (data.take count.toNat)) := by
  have switched (b : Bool) : (((cleared s.hw).updLane n.val fun l => { l with rxOn := b }).lane n.val).rxOn = b :=
    congrArg LaneSt.rxOn ((cleared s.hw).lane_updLane_same _ n.val)
  refine ⟨completes_of_cmdOpen (e := fun h => (h.updLane n.val fun l => { l with rxOn := true }).laneCmd n.val cmdRxOn []) mayIssue rfl ?_,
    completes_of_cmdOpen (e := fun h => (h.updLane n.val fun l => { l with rxOn := false }).laneCmd n.val cmdIdle []) mayIssue rfl ?_,
    completes_of_cmdOpen (e := fun h => h.laneCmd n.val cmdRegWrite (leBytes 2 addr.toNat ++ data)) mayIssue rfl ?_,
    completes_of_cmdOpen (e := fun h => (h.laneCmd n.val cmdRegRead (leBytes 2 addr.toNat ++ leBytes 1 count.toNat)).answer
      (.octets (data.take count.toNat))) mayIssue rfl ?_⟩
  · exact ⟨rfl, switched true⟩
  · exact ⟨rfl, switched false⟩
  · rfl
  · exact ⟨rfl, rfl⟩

/-! ### A frame is read (R229) -/

section
variable {h : Hw} {n status : Nat} {psdu : List Byte} {rssi lqi : Byte} {age : Nat} (up : h.laneUp n = true) (answers : status ≠ 0xFFFF)
  (sound : bit status 4 = false)
include up answers sound

theorem Hw.laneIrq_reads (waits : bit status 0 = true) (some : psdu ≠ []) :
    h.laneIrq n status psdu rssi lqi age = ((h.laneCmd n cmdStatus []).laneCmd n cmdRxRead []).updLane n fun l => { l with
      idleReads := 0, rx := l.rx ++ [⟨psdu, rssi.toNat, lqi.toNat, h.now - age⟩] } := by
  have full : (!psdu.isEmpty) = true := by simpa using some
  simp only [Hw.laneIrq, up, answers, sound, waits, full, not_true_eq_false, Bool.false_eq_true, Bool.and_self, if_false, if_true]
  rfl

theorem Hw.laneIrq_idle (none0 : bit status 0 = false) (none1 : bit status 1 = false) (none2 : bit status 2 = false)
    (first : (h.lane n).idleReads = 0) :
    h.laneIrq n status psdu rssi lqi age = (h.laneCmd n cmdStatus []).updLane n fun l => { l with idleReads := l.idleReads + 1 } := by
  have first' : ((h.laneCmd n cmdStatus []).lane n).idleReads = 0 := first
  simp only [Hw.laneIrq, up, answers, sound, none0, none1, none2, first', not_true_eq_false, Bool.false_eq_true, Bool.false_and, Bool.or_self,
    ge_iff_le, nonpos_iff_eq_zero, one_ne_zero, if_false]

end

theorem laneIrq_completes (s : State) (n : Fin 8) (status : BitVec 16) (psdu : List Byte) (rssi lqi : Byte) (age : Nat)
    (up : s.hw.laneUp n.val = true) (answers : status ≠ 0xFFFF) (sound : bit status.toNat 4 = false) :
    Completes (.laneIrq n status psdu rssi lqi age) s fun h =>
      (bit status.toNat 0 = true → psdu ≠ [] →
        (h.lane n.val).rx = (s.hw.lane n.val).rx ++ [⟨psdu, rssi.toNat, lqi.toNat, s.hw.now - age⟩] ∧ (h.lane n.val).idleReads = 0) ∧
      (bit status.toNat 0 = false → bit status.toNat 1 = false → bit status.toNat 2 = false → (s.hw.lane n.val).idleReads = 0 →
        (h.lane n.val).rx = (s.hw.lane n.val).rx ∧ (h.lane n.val).idleReads = 1) := by
  refine completes_of_run (e := fun h => h.laneIrq n.val status.toNat psdu rssi lqi age) rfl ⟨fun waits some => ?_, fun none0 none1 none2 first => ?_⟩
  · rw [Hw.laneIrq_reads (h := cleared s.hw) up (status_answers answers) sound waits some, Hw.lane_updLane_same]
    exact ⟨rfl, rfl⟩
  · rw [Hw.laneIrq_idle (h := cleared s.hw) up (status_answers answers) sound none0 none1 none2 first, Hw.lane_updLane_same]
    exact ⟨rfl, congrArg (· + 1) first⟩

/-! ### A frame is received (R244) -/

/-- The oldest frame read of a lane leaves its queue. -/
def Hw.rxTaken (h : Hw) (n : Nat) (xs : List RxFrame) : Hw := h.updLane n fun l => { l with rx := xs }

/-- FRAME_RECEIVE tests and delivers the oldest frame read. -/
theorem completes_of_frameReceive {s : State} {n : Fin 8} {x : RxFrame} {xs : List RxFrame} {P : Hw → Prop}
    (queue : (s.hw.lane n.val).rx = x :: xs) (hp : P (((cleared s.hw).rxTaken n.val xs).rxFrame n.val x)) : Completes (.frameReceive n) s P := by
  have queue' : ((cleared s.hw).lane n.val).rx = x :: xs := queue
  have taken : exec (.frameReceive n) s = run s fun h => (h.rxTaken n.val xs).rxFrame n.val x := by
    change execFrameReceive n s = _
    refine run_congr ?_
    simp only [queue', Hw.rxTaken]
  exact completes_of_run taken hp

theorem frameReceive_completes (s : State) (n : Fin 8) (x : RxFrame) (xs : List RxFrame) (queue : (s.hw.lane n.val).rx = x :: xs) :
    Completes (.frameReceive n) s fun h =>
      (h.lane n.val).rx = xs ∧
      (s.hw.rxStep1 (parseFrame (s.hw.f RAD_OUI RAD_OUI.oui) x.psdu) = false →
        h.f RAD_ERR2 RAD_ERR2.unsupported = min RAD_ERR2.unsupported.max (s.hw.f RAD_ERR2 RAD_ERR2.unsupported + 1)) := by
  refine completes_of_frameReceive queue ⟨?_, fun outside => ?_⟩
  · exact (QueuesKept.rxFrame _ n.val x n.val).trans (congrArg LaneSt.rx ((cleared s.hw).lane_updLane_same _ n.val))
  · have outside' : ((cleared s.hw).rxTaken n.val xs).rxStep1 (parseFrame (((cleared s.hw).rxTaken n.val xs).f RAD_OUI RAD_OUI.oui) x.psdu) =
        false := outside
    have refused : ((cleared s.hw).rxTaken n.val xs).rxFrame n.val x = ((cleared s.hw).rxTaken n.val xs).unsupported := by
      simp only [Hw.rxFrame, outside', Bool.false_eq_true, not_false_eq_true, true_or, if_true]
    rw [refused]
    exact Hw.f_bump _ _ _ _ (by decide) (by decide) (by decide)

/-! ### An observation of a neighbour (R244–R246) -/

/-- A frame is an observation of neighbour `i` that is in the format and asks for no ACK. -/
structure ObservationOf (h : Hw) (p : Parsed) (i : Nat) (c : List Byte) : Prop where
  step1 : h.rxStep1 p = true
  step2 : rxStep2 p = true
  mac : p.mac = macData
  ar : p.ar = false
  ie : p.ie = some c
  type : ieType c = ftObs
  flood : ieFlood c = none
  sends : h.sends = true
  on : h.flag RAD_CFG RAD_CFG.enable = true
  known : h.nbOf (p.src.getD 0) = some i

section
variable {h : Hw} {n i : Nat} {x : RxFrame} {c : List Byte} {p : Parsed} (parsed : parseFrame (h.f RAD_OUI RAD_OUI.oui) x.psdu = p)
  (is : ObservationOf h p i c)
include parsed is

/-- An observation that the neighbour's key does not open is counted. -/
theorem Hw.rxFrame_closed (shut : h.rxOpen p ftObs (h.nbEui i) (some i) = none) :
    h.rxFrame n x = h.rxAuth n RAD_ERR.auth_fail RAD_ERR.auth_sat := by
  obtain ⟨step1, step2, mac, -, ie, type, -, sends, -, known⟩ := is
  have notAck : ¬macData = macAck := by decide
  have notJoin : ¬ftObs = ftJoinReq := by decide
  simp only [Hw.rxFrame, parsed, step1, step2, mac, notAck, ie, Option.getD_some, type, sends, known, notJoin, shut, not_true_eq_false, or_self,
    false_and, and_false, if_false]

/-- One that it opens goes on to the neighbour's counter. -/
theorem Hw.rxFrame_open {m : List Byte} (opened : h.rxOpen p ftObs (h.nbEui i) (some i) = some m) :
    h.rxFrame n x = h.rxAccept n ftObs i p x m := by
  obtain ⟨step1, step2, mac, -, ie, type, -, sends, -, known⟩ := is
  have notAck : ¬macData = macAck := by decide
  have notCommand : ¬macData = macCommand := by decide
  have notJoin : ¬ftObs = ftJoinReq := by decide
  simp only [Hw.rxFrame, parsed, step1, step2, mac, notAck, notCommand, ie, Option.getD_some, type, sends, known, notJoin, opened,
    not_true_eq_false, or_self, false_and, and_false, if_false, if_true]

end

section
variable (h : Hw)

theorem Hw.acceptSeq_rad (i ctr seq : Nat) : ∃ r, (h.acceptSeq i ctr seq).rad = { h.rad with records := r } := by
  unfold Hw.acceptSeq
  dsimp only
  split <;> exact ⟨_, rfl⟩

theorem Hw.acceptSeq_reg (i ctr seq : Nat) {k : Nat} (link : k ≠ RAD_NB_LINK i) (rxctr : k ≠ RAD_NB_RXCTR i) (rxseq : k ≠ RAD_NB_SEQ i) :
    (h.acceptSeq i ctr seq).reg k = h.reg k := by
  unfold Hw.acceptSeq
  dsimp only
  rw [Hw.updRad_reg, Hw.reg_setF_other _ _ _ _ _ rxseq, Hw.reg_setReg_other _ _ _ _ rxctr]
  split
  · exact Hw.reg_setF_other _ _ _ _ _ link
  · rfl

theorem Hw.acceptSeq_rxctr (i ctr seq : Nat) : (h.acceptSeq i ctr seq).reg (RAD_NB_RXCTR i) = BitVec.ofNat 32 ctr := by
  have ne : RAD_NB_RXCTR i ≠ RAD_NB_SEQ i := by simp only [RAD_NB_RXCTR, RAD_NB_SEQ]; omega
  unfold Hw.acceptSeq
  dsimp only
  rw [Hw.updRad_reg, Hw.reg_setF_other _ _ _ _ _ ne, Hw.reg_setReg_same]

theorem Hw.acceptSeq_last (i ctr seq : Nat) : (h.acceptSeq i ctr seq).f (RAD_NB_SEQ i) RAD_NB_SEQ.rx_last = seq % 256 := by
  unfold Hw.acceptSeq
  dsimp only
  rw [Hw.updRad_f, Hw.f_setF_same _ _ _ _ (by decide)]
  rfl

theorem Hw.rdvHeard_reg (i : Nat) {k : Nat} (ne : k ≠ RAD_NB_CFG i) : (h.rdvHeard i).reg k = h.reg k := by
  unfold Hw.rdvHeard
  split
  · rfl
  · exact Hw.reg_setF_other _ _ _ _ _ ne

theorem Hw.rdvHeard_toObs (i : Nat) : (h.rdvHeard i).rad.toObs = h.rad.toObs := by
  unfold Hw.rdvHeard
  split <;> rfl

/-- A new frame of a neighbour has advanced its record and is counted on its lane. -/
def Hw.newHeard (n i : Nat) (p : Parsed) (x : RxFrame) : Hw :=
  (((h.linked i x).acceptSeq i p.ctr p.seq).rdvHeard i).countWrap (RAD_LANE_RXCNT n)

theorem Hw.newHeard_reg (n i : Nat) (p : Parsed) (x : RxFrame) {k : Nat} (cnt : k ≠ RAD_LANE_RXCNT n) (cfg : k ≠ RAD_NB_CFG i) :
    (h.newHeard n i p x).reg k = ((h.linked i x).acceptSeq i p.ctr p.seq).reg k := by
  rw [Hw.newHeard, Hw.countWrap_reg_other _ cnt, Hw.rdvHeard_reg _ _ cfg]

theorem Hw.newHeard_toObs (n i : Nat) (p : Parsed) (x : RxFrame) : (h.newHeard n i p x).rad.toObs = h.rad.toObs := by
  obtain ⟨r, accepted⟩ := (h.linked i x).acceptSeq_rad i p.ctr p.seq
  rw [Hw.newHeard, Hw.countWrap_rad, Hw.rdvHeard_toObs, accepted]
  rfl

theorem Hw.newHeard_on {n : Nat} (hn : n < 8) (i : Nat) (p : Parsed) (x : RxFrame) :
    (h.newHeard n i p x).flag RAD_CFG RAD_CFG.enable = h.flag RAD_CFG RAD_CFG.enable := by
  have kept : (h.newHeard n i p x).reg RAD_CFG = h.reg RAD_CFG := by
    rw [Hw.newHeard_reg h n i p x (by simp only [RAD_CFG, RAD_LANE_RXCNT]; omega) (by simp only [RAD_CFG, RAD_NB_CFG]; omega),
      Hw.acceptSeq_reg _ _ _ _ (by simp only [RAD_CFG, RAD_NB_LINK]; omega) (by simp only [RAD_CFG, RAD_NB_RXCTR]; omega)
        (by simp only [RAD_CFG, RAD_NB_SEQ]; omega), Hw.linked, Hw.reg_setF_other _ _ _ _ _ (by simp only [RAD_CFG, RAD_NB_LINK]; omega),
      Hw.reg_setF_other _ _ _ _ _ (by simp only [RAD_CFG, RAD_NB_LINK]; omega)]
  rw [Hw.flag, Hw.f, kept, ← Hw.f, ← Hw.flag]

/-- A new observation is heard and goes to the observation intake. -/
theorem Hw.rxAccept_observation {n : Nat} (hn : n < 8) {i : Nat} {p : Parsed} {c : List Byte} (is : ObservationOf h p i c)
    (fresh : h.freshOf i p.ctr p.seq = .new) (x : RxFrame) (m : List Byte) :
    h.rxAccept n ftObs i p x m = (h.newHeard n i p x).updRad fun r =>
      { r with toObs := r.toObs ++ [⟨n, ieRobot c, ieEpoch c, p.ctr, m, x.time⟩] } := by
  obtain ⟨-, -, mac, ar, ie, -, flood, -, on, -⟩ := is
  have notCommand : ¬macData = macCommand := by decide
  have notStop : ¬ftObs = ftStop := by decide
  have on' : (h.newHeard n i p x).flag RAD_CFG RAD_CFG.enable = true := (h.newHeard_on hn i p x).trans on
  unfold Hw.newHeard at on'
  rw [Hw.rxAccept_new h n ftObs i p x m fresh]
  simp only [Hw.acked, ar, Bool.false_eq_true, if_false, Hw.passOn, ie, Option.getD_some, flood, Hw.floodStep, if_true, Hw.deliver, notStop, on',
    not_true_eq_false, mac, notCommand, Hw.newHeard]

end

/-- A frame taken from its lane's queue is the observation that it was. -/
theorem ObservationOf.taken {h : Hw} {p : Parsed} {i : Nat} {c : List Byte} (is : ObservationOf h p i c) (n : Nat) (xs : List RxFrame) :
    ObservationOf ((cleared h).rxTaken n xs) p i c := by
  obtain ⟨step1, step2, mac, ar, ie, type, flood, sends, on, known⟩ := is
  exact ⟨step1, step2, mac, ar, ie, type, flood, sends, on, known⟩

section
variable (s : State) (n : Fin 8) {x : RxFrame} {xs : List RxFrame} {p : Parsed} {i : Nat} {c : List Byte} (queue : (s.hw.lane n.val).rx = x :: xs)
  (parsed : parseFrame (s.hw.f RAD_OUI RAD_OUI.oui) x.psdu = p) (is : ObservationOf s.hw p i c)
include queue parsed is

theorem frameReceive_opened {m : List Byte} (fresh : s.hw.freshOf i p.ctr p.seq = .new)
    (opened : s.hw.rxOpen p ftObs (s.hw.nbEui i) (some i) = some m) :
    Completes (.frameReceive n) s fun h =>
      h.rad.toObs = s.hw.rad.toObs ++ [⟨n.val, ieRobot c, ieEpoch c, p.ctr, m, x.time⟩] ∧
        h.reg (RAD_NB_RXCTR i) = BitVec.ofNat 32 p.ctr ∧ h.f (RAD_NB_SEQ i) RAD_NB_SEQ.rx_last = p.seq % 256 := by
  have hn := n.isLt
  have is' := is.taken n.val xs
  refine completes_of_frameReceive queue ?_
  rw [Hw.rxFrame_open (h := (cleared s.hw).rxTaken n.val xs) parsed is' opened, Hw.rxAccept_observation _ hn is' fresh]
  refine ⟨congrArg (· ++ _) (Hw.newHeard_toObs _ n.val i p x), ?_, ?_⟩
  · rw [Hw.updRad_reg, Hw.newHeard_reg _ n.val i p x (by simp only [RAD_NB_RXCTR, RAD_LANE_RXCNT]; omega)
      (by simp only [RAD_NB_RXCTR, RAD_NB_CFG]; omega), Hw.acceptSeq_rxctr]
  · rw [Hw.updRad_f, Hw.f, Hw.newHeard_reg _ n.val i p x (by simp only [RAD_NB_SEQ, RAD_LANE_RXCNT]; omega)
      (by simp only [RAD_NB_SEQ, RAD_NB_CFG]; omega), ← Hw.f, Hw.acceptSeq_last]

theorem frameReceive_closed (shut : s.hw.rxOpen p ftObs (s.hw.nbEui i) (some i) = none) :
    Completes (.frameReceive n) s fun h =>
      h.rad.toObs = s.hw.rad.toObs ∧ h.f RAD_ERR RAD_ERR.auth_fail = min RAD_ERR.auth_fail.max (s.hw.f RAD_ERR RAD_ERR.auth_fail + 1) := by
  refine completes_of_frameReceive queue ?_
  rw [Hw.rxFrame_closed (h := (cleared s.hw).rxTaken n.val xs) parsed (is.taken n.val xs) shut, Hw.rxAuth]
  refine ⟨by rw [Hw.raiseFrom_rad, Hw.bump_rad]; rfl, ?_⟩
  rw [Hw.raiseFrom_f _ _ _ _ _ _ _ (by decide) (by decide)]
  exact Hw.f_bump _ _ _ _ (by decide) (by decide) (by decide)

end

/-! ### A receive packet that waits too long (R246) -/

theorem rxDropTimeout_completes (s : State) (held : s.hw.holdsPacket prodRx (s.hw.f RAD_STREAMS RAD_STREAMS.rx_fifo) = true) :
    Completes .rxDropTimeout s fun h =>
      h.f RAD_ERR2 RAD_ERR2.rx_dropped = min RAD_ERR2.rx_dropped.max (s.hw.f RAD_ERR2 RAD_ERR2.rx_dropped + 1) := by
  have dropped : exec .rxDropTimeout s = run s fun h =>
      (h.dropHeld prodRx (h.f RAD_STREAMS RAD_STREAMS.rx_fifo)).bump RAD_ERR2 RAD_ERR2.rx_dropped RAD_ERR2.rx_sat := by
    change execRxDropTimeout s = _
    exact run_congr (if_pos held)
  refine completes_of_run dropped ?_
  exact Hw.f_bump _ _ _ _ (by decide) (by decide) (by decide)

/-- Settles O25: a new observation is taken (`frameReceive_opened`) or counted (`frameReceive_closed`), and each other command of receiving completes
as its own theorem says. -/
theorem radioReceiveCommandsComplete : Obligations.RadioReceiveCommandsComplete := by
  refine ⟨transceiverCommands_complete, laneIrq_completes, frameReceive_completes, ?_, rxDropTimeout_completes⟩
  intro s n x xs p i c queue parsed step1 step2 mac ar ie type flood sends on known fresh
  have is : ObservationOf s.hw p i c := ⟨step1, step2, mac, ar, ie, type, flood, sends, on, known⟩
  cases opened : s.hw.rxOpen p ftObs (s.hw.nbEui i) (some i) with
  | some m => exact frameReceive_opened s n queue parsed is fresh opened
  | none => exact frameReceive_closed s n queue parsed is opened

end Sys2Proof.Machine
end

section
/-! PROOFS. Floods go out and are relayed, held frames are drawn or expire, rendezvous open and close (R251–R255); O26 is settled. -/

namespace Sys2Proof.Machine

open Reg Sys2Proof.Safety

/-! ### The seen-cache (R251) -/

/-- `g` is `h` with a pair entered in the seen-cache, and an eviction counted at most. -/
structure SeenEntered (origin id : Nat) (h g : Hw) : Prop where
  seen : (origin, id, h.now) ∈ g.rad.seen
  rad : ∃ l, g.rad = { h.rad with seen := l }
  regs : ∀ k, k ≠ RAD_FLOOD_STAT → g.reg k = h.reg k
  stp : g.stp = h.stp
  ports : g.ports = h.ports
  cal : g.cal = h.cal
  eqx : g.eqx = h.eqx

theorem SeenEntered.enterSeen (h : Hw) (origin id : Nat) : SeenEntered origin id h (h.enterSeen origin id) := by
  have added (l : List (Nat × Nat × Nat)) : (origin, id, h.now) ∈ l ++ [(origin, id, h.now)] := by simp
  have plain (l : List (Nat × Nat × Nat)) :
      SeenEntered origin id h (h.updRad fun r => { r with seen := l ++ [(origin, id, h.now)] }) :=
    ⟨added l, ⟨_, rfl⟩, fun _ _ => rfl, rfl, rfl, rfl, rfl⟩
  unfold Hw.enterSeen
  dsimp only
  split
  · exact plain _
  · split
    · exact plain _
    · have now : (h.bump RAD_FLOOD_STAT RAD_FLOOD_STAT.evict_young RAD_FLOOD_STAT.evict_sat).now = h.now := by rw [Hw.now, Hw.bump_cal, Hw.now]
      rw [now]
      exact ⟨added _, ⟨_, by rw [Hw.updRad_rad, Hw.bump_rad]⟩, fun k ne => Hw.reg_bump_other _ _ _ _ _ ne, Hw.bump_stp _ _ _ _,
        Hw.bump_ports _ _ _ _, Hw.bump_cal _ _ _ _, Hw.bump_eqx _ _ _ _⟩

section
variable {origin id : Nat} {h g : Hw} (entered : SeenEntered origin id h g)
include entered

theorem SeenEntered.f_eq {k : Nat} (ne : k ≠ RAD_FLOOD_STAT) (l : Fld) : g.f k l = h.f k l := by rw [Hw.f, entered.regs k ne, Hw.f]

theorem SeenEntered.lane_eq (n : Nat) : g.lane n = h.lane n := by
  obtain ⟨l, rad⟩ := entered.rad
  rw [Hw.lane, rad, Hw.lane]

end

/-! ### A frame on several lanes (R252) -/

section
variable (f : TxFrame)

/-- A frame added to lanes changes their buffers only. -/
theorem Hw.foldl_addFrame_eq (l : List Nat) : ∀ h : Hw,
    ∃ ls, l.foldl (fun h n => h.addFrame n f) h = { h with rad := { h.rad with lanes := ls } } := by
  induction l with
  | nil => exact fun h => ⟨h.rad.lanes, rfl⟩
  | cons n l ih =>
    intro h
    obtain ⟨ls, e⟩ := ih (h.addFrame n f)
    exact ⟨ls, e⟩

theorem Hw.mem_foldl_addFrame {n : Nat} (l : List Nat) : ∀ h : Hw, n ∈ l ∨ f ∈ (h.lane n).frames →
    f ∈ ((l.foldl (fun h n => h.addFrame n f) h).lane n).frames := by
  induction l with
  | nil => exact fun h held => held.resolve_left List.not_mem_nil
  | cons m l ih =>
    intro h held
    refine ih (h.addFrame m f) ?_
    obtain mem | held := held
    · obtain rfl | mem := List.mem_cons.mp mem
      · exact .inr (h.mem_addFrame _ f)
      · exact .inl mem
    · exact .inr (Hw.mem_addFrame_of_mem held)

variable (h : Hw) (lanes : List Nat)

theorem Hw.spread_eq : ∃ ls, (h.spread f lanes).1 = { h with rad := { h.rad with lanes := ls } } := Hw.foldl_addFrame_eq f _ h

theorem Hw.mem_spread {n : Nat} (mem : n ∈ lanes) (up : h.laneUp n = true) (room : h.laneRoom n = true) :
    f ∈ (((h.spread f lanes).1).lane n).frames :=
  Hw.mem_foldl_addFrame f _ h (.inl (List.mem_filter.mpr ⟨mem, Bool.and_eq_true_iff.mpr ⟨up, room⟩⟩))

/-- A frame for which every lane has room leaves no lane over. -/
theorem Hw.spread_left (able : ∀ n ∈ lanes, h.laneUp n = true ∧ h.laneRoom n = true) : (h.spread f lanes).2 = [] := by
  refine List.filter_eq_nil_iff.mpr fun n mem => ?_
  obtain ⟨up, room⟩ := able n mem
  have now : memb n (lanes.filter fun n => h.laneUp n && h.laneRoom n) = true :=
    (memb_iff _ _).mpr (List.mem_filter.mpr ⟨mem, Bool.and_eq_true_iff.mpr ⟨up, room⟩⟩)
  rw [now, Bool.not_true, Bool.and_false]
  exact Bool.false_ne_true

end

theorem Hw.laneRoom_congr {h g : Hw} {n : Nat} (lane : g.lane n = h.lane n) : g.laneRoom n = h.laneRoom n := by
  rw [Hw.laneRoom, lane, Hw.laneRoom]

/-! ### Site broadcasts (R252) -/

theorem Hw.unitAddr_congr {h g : Hw} (cfg : g.reg EQX_CFG = h.reg EQX_CFG) (id : g.reg RAD_ID = h.reg RAD_ID) : g.unitAddr = h.unitAddr := by
  have paired : g.paired = h.paired := by rw [Hw.paired, Hw.flag, Hw.f, cfg, ← Hw.f, ← Hw.flag, ← Hw.paired]
  simp only [Hw.unitAddr, paired, Hw.f, cfg, id]

/-- The lanes that a site broadcast of the device goes out on. -/
def Hw.floodLanes (h : Hw) : List Nat := h.lanesUp.filter (bit (h.f RAD_STREAMS RAD_STREAMS.flood_mask))

/-- The next flood identifier is taken, and entered in the seen-cache. -/
def Hw.floodTaken (h : Hw) : Hw :=
  (h.setF RAD_FLOOD_ID RAD_FLOOD_ID.next_id ((h.f RAD_FLOOD_ID RAD_FLOOD_ID.next_id + 1) % 0x8000)).enterSeen h.unitAddr
    (h.f RAD_FLOOD_ID RAD_FLOOD_ID.next_id)

/-- The frame of a new site broadcast. -/
def Hw.siteFrame (h : Hw) (id : Nat) (p : Pkt) : TxFrame :=
  { ownFrame kSite ftSite (p.octets.drop 12) with
    robot := fieldAt p.octets 4 1, flood := some (h.unitAddr, id, fieldAt p.octets 1 1 / 16) }

theorem Hw.floodOriginate_eq {h g : Hw} {p : Pkt} {k : Nat} (sends : h.radSends = true) (room : h.floodLanes.all h.laneRoom = true)
    (taken : h.takePacket (h.f RAD_STREAMS RAD_STREAMS.flood_fifo) 512 = some (p, k, g)) (whole : p.abort = false)
    (low : 12 ≤ p.octets.length) (high : p.octets.length ≤ 1912) (ttl : fieldAt p.octets 1 1 / 16 ≠ 0) :
    h.floodOriginate = (g.floodTaken.spread (g.floodTaken.siteFrame (g.f RAD_FLOOD_ID RAD_FLOOD_ID.next_id) p) h.floodLanes).1 := by
  unfold Hw.floodLanes at room
  have short : ¬p.octets.length < 12 := not_lt.mpr low
  have long : ¬p.octets.length > 1912 := not_lt.mpr high
  simp only [Hw.floodOriginate, sends, room, taken, whole, short, long, ttl, Bool.false_eq_true, not_true_eq_false, or_self, if_false,
    Hw.floodTaken, Hw.siteFrame, Hw.floodLanes]

theorem Hw.floodTaken_spec (h : Hw) : h.floodTaken.unitAddr = h.unitAddr ∧ (∀ n, h.floodTaken.lane n = h.lane n) ∧
    (∀ n, h.floodTaken.laneUp n = h.laneUp n) ∧ (h.unitAddr, h.f RAD_FLOOD_ID RAD_FLOOD_ID.next_id, h.now) ∈ h.floodTaken.rad.seen ∧
    h.floodTaken.f RAD_FLOOD_ID RAD_FLOOD_ID.next_id = (h.f RAD_FLOOD_ID RAD_FLOOD_ID.next_id + 1) % 0x8000 := by
  have entered := SeenEntered.enterSeen
    (h.setF RAD_FLOOD_ID RAD_FLOOD_ID.next_id ((h.f RAD_FLOOD_ID RAD_FLOOD_ID.next_id + 1) % 0x8000)) h.unitAddr
    (h.f RAD_FLOOD_ID RAD_FLOOD_ID.next_id)
  have regs (k : Nat) (flood : k ≠ RAD_FLOOD_ID) (stat : k ≠ RAD_FLOOD_STAT) : h.floodTaken.reg k = h.reg k :=
    (entered.regs k stat).trans (Hw.reg_setF_other _ _ _ _ _ flood)
  refine ⟨Hw.unitAddr_congr (regs _ (by decide) (by decide)) (regs _ (by decide) (by decide)), fun n => entered.lane_eq n, fun n => ?_,
    entered.seen, ?_⟩
  · rw [Hw.laneUp, Hw.f, regs _ (by decide) (by decide), ← Hw.f, ← Hw.laneUp]
  · rw [Hw.floodTaken, entered.f_eq (by decide), Hw.f_setF_same _ _ _ _ (by decide)]
    exact Nat.mod_eq_of_lt ((Nat.mod_lt _ (by decide)).trans (by decide))

theorem floodOriginate_completes (s : State) (p : Pkt) (k : Nat) (h' : Hw) (sends : s.hw.radSends = true)
    (room : (s.hw.lanesUp.filter (bit (s.hw.f RAD_STREAMS RAD_STREAMS.flood_mask))).all s.hw.laneRoom = true)
    (taken : s.hw.takePacket (s.hw.f RAD_STREAMS RAD_STREAMS.flood_fifo) 512 = some (p, k, h')) (whole : p.abort = false)
    (low : 12 ≤ p.octets.length) (high : p.octets.length ≤ 1912) (ttl : fieldAt p.octets 1 1 / 16 ≠ 0) :
    Completes .floodOriginate s fun h =>
      h.f RAD_FLOOD_ID RAD_FLOOD_ID.next_id = (s.hw.f RAD_FLOOD_ID RAD_FLOOD_ID.next_id + 1) % 0x8000 ∧
      (s.hw.unitAddr, s.hw.f RAD_FLOOD_ID RAD_FLOOD_ID.next_id, s.hw.now) ∈ h.rad.seen ∧
      ∀ n < 8, s.hw.laneUp n = true → bit (s.hw.f RAD_STREAMS RAD_STREAMS.flood_mask) n = true →
        ∃ f ∈ (h.lane n).frames, f.kind = kSite ∧ f.payload = p.octets.drop 12 ∧
          f.flood = some (s.hw.unitAddr, s.hw.f RAD_FLOOD_ID RAD_FLOOD_ID.next_id, fieldAt p.octets 1 1 / 16) := by
  refine completes_of_run (e := Hw.floodOriginate) rfl ?_
  have stream : s.hw.f RAD_STREAMS RAD_STREAMS.flood_fifo < 64 := Fld.get_lt _ _
  obtain ⟨g, taken⟩ := Hw.takePacket_cleared stream taken
  have kept : FleetKept (cleared s.hw) g := .takePacket stream taken
  have now : g.now = s.hw.now := by rw [Hw.now, Hw.takePacket_cal taken]; rfl
  have id : g.f RAD_FLOOD_ID RAD_FLOOD_ID.next_id = s.hw.f RAD_FLOOD_ID RAD_FLOOD_ID.next_id := kept.f_eq (by decide) _
  have addr : g.unitAddr = s.hw.unitAddr := Hw.unitAddr_congr (h := cleared s.hw) (kept.regs _ (by decide)) (kept.regs _ (by decide))
  obtain ⟨addr', lanes, ups, seen, next⟩ := g.floodTaken_spec
  obtain ⟨ls, spread⟩ := Hw.spread_eq (g.floodTaken.siteFrame (g.f RAD_FLOOD_ID RAD_FLOOD_ID.next_id) p) g.floodTaken (cleared s.hw).floodLanes
  rw [Hw.floodOriginate_eq (h := cleared s.hw) sends room taken whole low high ttl]
  refine ⟨?_, ?_, fun n hn up masked => ⟨_, Hw.mem_spread _ _ _ ?_ ?_ ?_, rfl, rfl, ?_⟩⟩
  · rw [spread]
    exact next.trans (by rw [id])
  · rw [spread, ← addr, ← id, ← now]
    exact seen
  · exact List.mem_filter.mpr ⟨Hw.mem_lanesUp.mpr up, masked⟩
  · rw [ups, Hw.laneUp, kept.f_eq (by decide)]
    exact up
  · have roomy : s.hw.laneRoom n = true := List.all_eq_true.mp room n (List.mem_filter.mpr ⟨Hw.mem_lanesUp.mpr up, masked⟩)
    rw [Hw.laneRoom_congr (lanes n), Hw.laneRoom, Hw.lane, kept.rad]
    exact roomy
  · rw [Hw.siteFrame, addr', addr, id]

/-! ### Relays, polls and expiries (R252, R253) -/

theorem floodRelay_completes (s : State) (r : Relay) (rs : List Relay) (relays : s.hw.rad.relays = r :: rs) (sends : s.hw.radSends = true)
    (able : ∀ n ∈ r.lanes, s.hw.laneUp n = true ∧ s.hw.laneRoom n = true) :
    Completes .floodRelay s fun h => h.rad.relays = rs ∧ ∀ n ∈ r.lanes, r.frame ∈ (h.lane n).frames := by
  refine completes_of_run (e := Hw.floodRelay) rfl ?_
  have relays' : (cleared s.hw).rad.relays = r :: rs := relays
  have sends' : (cleared s.hw).radSends = true := sends
  have left := Hw.spread_left r.frame (cleared s.hw) r.lanes able
  have relayed : (cleared s.hw).floodRelay = ((cleared s.hw).spread r.frame r.lanes).1.updRad fun x => { x with relays := rs } := by
    simp only [Hw.floodRelay, relays', sends', left, not_true_eq_false, if_false, List.isEmpty_nil, if_true]
  rw [relayed]
  exact ⟨rfl, fun n mem => Hw.mem_spread r.frame (cleared s.hw) r.lanes mem (able n mem).1 (able n mem).2⟩

theorem dataRequest_completes (s : State) (n i : Nat) (rest : List (Nat × Nat)) (polls : s.hw.rad.polls = (n, i) :: rest) :
    Completes .dataRequest s fun h =>
      (s.hw.rad.indirect.find? (fun x => decide (x.nb = i)) = none → h.rad.polls = rest) ∧
      (∀ x, s.hw.rad.indirect.find? (fun x => decide (x.nb = i)) = some x → s.hw.laneUp n = true → s.hw.laneRoom n = true →
        h.rad.polls = rest ∧ h.rad.indirect = dropOne (fun y => decide (y = x)) s.hw.rad.indirect ∧
        ∃ b, { x.frame with pend := b } ∈ (h.lane n).frames) := by
  refine completes_of_run (e := Hw.dataRequest) rfl ?_
  have polls' : (cleared s.hw).rad.polls = (n, i) :: rest := polls
  refine ⟨fun none => ?_, fun x held up room => ?_⟩
  · have none' : (cleared s.hw).rad.indirect.find? (fun x => decide (x.nb = i)) = .none := none
    simp only [Hw.dataRequest, polls', none']
    rfl
  · have held' : (cleared s.hw).rad.indirect.find? (fun x => decide (x.nb = i)) = some x := held
    have up' : (cleared s.hw).laneUp n = true := up
    have room' : (cleared s.hw).laneRoom n = true := room
    simp only [Hw.dataRequest, polls', held', up', room', not_true_eq_false, or_self, if_false]
    exact ⟨rfl, rfl, _, Hw.mem_addFrame _ _ _⟩

theorem indirectExpiry_completes (s : State) (x : Indirect) (xs : List Indirect) (indirect : s.hw.rad.indirect = x :: xs) :
    Completes .indirectExpiry s fun h =>
      h.rad.indirect = xs ∧
      h.f RAD_IND_STAT RAD_IND_STAT.indirect_drop = min RAD_IND_STAT.indirect_drop.max (s.hw.f RAD_IND_STAT RAD_IND_STAT.indirect_drop + 1) := by
  have indirect' : (cleared s.hw).rad.indirect = x :: xs := indirect
  have expired : exec .indirectExpiry s = run s fun h => (h.updRad fun r => { r with indirect := xs }).indirectDrop x.nb := by
    change execIndirectExpiry s = _
    exact run_congr (by simp only [indirect'])
  refine completes_of_run expired ⟨?_, ?_⟩
  · rw [Hw.indirectDrop, Hw.raiseFrom_rad, Hw.bump_rad]
    rfl
  · rw [Hw.indirectDrop, Hw.raiseFrom_f _ _ _ _ _ _ _ (by decide) (by decide)]
    exact Hw.f_bump _ _ _ _ (by decide) (by decide) (by decide)

/-! ### Rendezvous (R254, R255) -/

/-- A lane's receiver is switched on. -/
def Hw.receives (h : Hw) (n : Nat) : Hw := (h.updLane n fun l => { l with rxOn := true }).laneCmd n cmdRxOn []

theorem Hw.receives_stays (h : Hw) {m n : Nat} (on : (h.lane m).rxOn = true) : ((h.receives n).lane m).rxOn = true := by
  by_cases e : m = n
  · rw [e]
    exact congrArg LaneSt.rxOn (h.lane_updLane_same _ n)
  · exact (congrArg LaneSt.rxOn (h.lane_updLane_other _ e)).trans on

theorem Hw.foldl_receives {n : Nat} (l : List Nat) : ∀ h : Hw, n ∈ l ∨ (h.lane n).rxOn = true → ((l.foldl Hw.receives h).lane n).rxOn = true := by
  induction l with
  | nil => exact fun h on => on.resolve_left List.not_mem_nil
  | cons m l ih =>
    intro h on
    refine ih (h.receives m) ?_
    obtain mem | on := on
    · obtain rfl | mem := List.mem_cons.mp mem
      · exact .inr (congrArg LaneSt.rxOn (h.lane_updLane_same _ _))
      · exact .inl mem
    · exact .inr (h.receives_stays on)

theorem rendezvous_completes (s : State) (on : s.hw.flag RAD_RDV_CFG RAD_RDV_CFG.enable = true) :
    Completes .rendezvous s fun h =>
      h.rad.window = some [] ∧
      ∀ n < 8, s.hw.laneUp n = true → bit (s.hw.f RAD_RDV_CFG RAD_RDV_CFG.lane_mask) n = true → (h.lane n).rxOn = true := by
  refine completes_of_run (e := Hw.rendezvous) rfl ?_
  have on' : (cleared s.hw).flag RAD_RDV_CFG RAD_RDV_CFG.enable = true := on
  have opened : ∃ g : Hw, (cleared s.hw).rendezvous =
      (((cleared s.hw).lanesUp.filter (bit ((cleared s.hw).f RAD_RDV_CFG RAD_RDV_CFG.lane_mask))).foldl Hw.receives g).updRad
        fun r => { r with window := some [] } := by
    simp only [Hw.rendezvous, on', not_true_eq_false, if_false]
    exact ⟨_, rfl⟩
  obtain ⟨g, opened⟩ := opened
  rw [opened]
  exact ⟨rfl, fun n _ up masked => Hw.foldl_receives _ g (.inl (List.mem_filter.mpr ⟨Hw.mem_lanesUp.mpr up, masked⟩))⟩

/-- What a window that neighbour `i` was silent in makes of its count of missed windows (R255). -/
def MissCounted (miss : Nat) (h : Hw) (i : Nat) : Prop :=
  (miss < 3 → h.f (RAD_NB_CFG i) RAD_NB_CFG.rdv_miss = miss + 1) ∧ (3 ≤ miss → h.flag (RAD_NB_CFG i) RAD_NB_CFG.joined = false)

theorem MissCounted.congr {miss i : Nat} {h g : Hw} (counted : MissCounted miss h i) (reg : g.reg (RAD_NB_CFG i) = h.reg (RAD_NB_CFG i)) :
    MissCounted miss g i := by
  rwa [MissCounted, Hw.flag, Hw.f, Hw.f, reg]

theorem nbCfg_apart {i : Nat} (hi : i < 512) : RAD_NB_CFG i ≠ RAD_IRQ_STAT ∧ RAD_NB_CFG i ≠ RAD_IND_STAT ∧ RAD_NB_CFG i ∉ logRegs := by
  have fleet : fleetReg (RAD_NB_CFG i) := by simp only [fleetReg, RAD_NB_CFG]; omega
  exact ⟨by simp only [RAD_NB_CFG, RAD_IRQ_STAT]; omega, by simp only [RAD_NB_CFG, RAD_IND_STAT]; omega, fleet.not_log⟩

section
variable (h : Hw) {i : Nat} (hi : i < 512)
include hi

theorem Hw.rdvMissed_other {j : Nat} (ne : j ≠ i) : (h.rdvMissed j).reg (RAD_NB_CFG i) = h.reg (RAD_NB_CFG i) := by
  obtain ⟨irq, ind, log⟩ := nbCfg_apart hi
  have other : RAD_NB_CFG i ≠ RAD_NB_CFG j := by simp only [RAD_NB_CFG]; omega
  unfold Hw.rdvMissed
  dsimp only
  split
  · exact Hw.reg_setF_other _ _ _ _ _ other
  · rw [Hw.updRad_reg, Hw.reg_setFlag_other _ _ _ _ _ other, Hw.raiseFrom_reg _ _ _ _ _ _ irq log, Hw.reg_bump_other _ _ _ _ _ ind,
      Hw.event_reg _ _ _ _ _ _ _ log]

omit hi in
theorem Hw.rdvMissed_counts (i : Nat) : MissCounted (h.f (RAD_NB_CFG i) RAD_NB_CFG.rdv_miss) (h.rdvMissed i) i := by
  unfold Hw.rdvMissed
  refine ⟨fun few => ?_, fun many => ?_⟩
  · dsimp only
    rw [if_pos few, Hw.f_setF_same _ _ _ _ (by decide)]
    exact Nat.mod_eq_of_lt (show _ < 4 by omega)
  · dsimp only
    rw [if_neg (not_lt.mpr many), Hw.updRad_flag]
    exact Hw.flag_setFlag_same _ _ _ _ (by decide) (by decide)

/-- The windows' end counts each neighbour that was due and silent, once. -/
theorem Hw.foldl_rdvMissed (l : List Nat) (nodup : l.Nodup) (mem : i ∈ l) :
    MissCounted (h.f (RAD_NB_CFG i) RAD_NB_CFG.rdv_miss) (l.foldl Hw.rdvMissed h) i := by
  refine foldl_reaches (f := Hw.rdvMissed) (Pre := fun g => g.reg (RAD_NB_CFG i) = h.reg (RAD_NB_CFG i))
    (Post := fun g => MissCounted (h.f (RAD_NB_CFG i) RAD_NB_CFG.rdv_miss) g i) (fun g j ne pre => ?_) (fun g pre => ?_)
    (fun g j ne post => ?_) l nodup mem h rfl
  · rw [g.rdvMissed_other hi ne, pre]
  · rw [Hw.f, ← pre, ← Hw.f]
    exact g.rdvMissed_counts i
  · exact post.congr (g.rdvMissed_other hi ne)

end

/-- The neighbours that were due in the window and of which nothing was heard. -/
def Hw.rdvSilent (h : Hw) (heard : List Nat) : List Nat :=
  (List.range 512).filter fun i => h.sleepy i && h.flag (RAD_NB_CFG i) RAD_NB_CFG.joined && !memb i heard

theorem Hw.mem_rdvSilent {h : Hw} {heard : List Nat} {i : Nat} (hi : i < 512) (sleepy : h.sleepy i = true)
    (joined : h.flag (RAD_NB_CFG i) RAD_NB_CFG.joined = true) (silent : memb i heard = false) : i ∈ h.rdvSilent heard :=
  List.mem_filter.mpr ⟨List.mem_range.mpr hi, by rw [sleepy, joined, silent]; rfl⟩

theorem Hw.rdvSilent_nodup (h : Hw) (heard : List Nat) : (h.rdvSilent heard).Nodup :=
  List.nodup_range.filter _

theorem rendezvousWindowEnd_completes (s : State) (heard : List Nat) (window : s.hw.rad.window = some heard) :
    Completes .rendezvousWindowEnd s fun h =>
      h.rad.window = none ∧
      ∀ i < 512, s.hw.sleepy i = true → s.hw.flag (RAD_NB_CFG i) RAD_NB_CFG.joined = true → memb i heard = false →
        (s.hw.f (RAD_NB_CFG i) RAD_NB_CFG.rdv_miss < 3 →
          h.f (RAD_NB_CFG i) RAD_NB_CFG.rdv_miss = s.hw.f (RAD_NB_CFG i) RAD_NB_CFG.rdv_miss + 1) ∧
        (3 ≤ s.hw.f (RAD_NB_CFG i) RAD_NB_CFG.rdv_miss → h.flag (RAD_NB_CFG i) RAD_NB_CFG.joined = false) := by
  have window' : (cleared s.hw).rad.window = some heard := window
  have ended : exec .rendezvousWindowEnd s = run s fun h =>
      ((h.rdvSilent heard).foldl Hw.rdvMissed h).updRad fun r => { r with window := none } := by
    change execRendezvousWindowEnd s = _
    exact run_congr (by simp only [window', Hw.rdvSilent])
  refine completes_of_run ended ⟨rfl, fun i hi sleepy joined silent => ?_⟩
  have due : i ∈ (cleared s.hw).rdvSilent heard := Hw.mem_rdvSilent hi sleepy joined silent
  have nodup := (cleared s.hw).rdvSilent_nodup heard
  exact (Hw.foldl_rdvMissed (cleared s.hw) hi _ nodup due).congr (Hw.updRad_reg _ _ _)

/-- Settles O26: each command of floods, of the indirect store and of rendezvous completes as its own theorem says. -/
theorem floodAndRendezvousCommandsComplete : Obligations.FloodAndRendezvousCommandsComplete :=
  ⟨floodOriginate_completes, floodRelay_completes, dataRequest_completes, indirectExpiry_completes, rendezvous_completes,
    rendezvousWindowEnd_completes⟩

end Sys2Proof.Machine
end

section
/-! SUPPORT. What a fleet stop keeps of the sequencer's marks, of the relays that wait and of the interlock watchdog (R265, R269, R279): the stop of
spent counters (R270) follows a mark, a stop frame and a run. -/

namespace Sys2Proof.Machine

open Reg Sys2Proof.Safety

/-- The permit sequence, the last mark, the relays and the watchdog's last kick in `g` are those of `h`. -/
structure MarksKept (h g : Hw) : Prop where
  permitSeq : g.stp.permitSeq = h.stp.permitSeq
  markAt : g.stp.markAt = h.stp.markAt
  relays : g.stp.relays = h.stp.relays
  wdogKick : g.eqx.wdogKick = h.eqx.wdogKick

section
variable {a b c g : Hw}

theorem MarksKept.refl (h : Hw) : MarksKept h h := ⟨rfl, rfl, rfl, rfl⟩

theorem MarksKept.trans (p : MarksKept a b) (q : MarksKept b c) : MarksKept a c :=
  ⟨q.permitSeq.trans p.permitSeq, q.markAt.trans p.markAt, q.relays.trans p.relays, q.wdogKick.trans p.wdogKick⟩

theorem MarksKept.ite {p : Prop} [Decidable p] (x : MarksKept a b) (y : MarksKept a c) : MarksKept a (if p then b else c) := by
  split
  · exact x
  · exact y

theorem MarksKept.foldl {β : Type} (f : Hw → β → Hw) (hf : ∀ h b, MarksKept h (f h b)) (l : List β) (h : Hw) : MarksKept h (l.foldl f h) := by
  induction l generalizing h with
  | nil => exact .refl h
  | cons b l ih => exact (hf h b).trans (ih (f h b))

variable (h : Hw)

theorem MarksKept.of_parts {h : Hw} (stp : g.stp = h.stp) (eqx : g.eqx = h.eqx) : MarksKept h g := by
  refine ⟨?_, ?_, ?_, ?_⟩ <;> simp only [stp, eqx]

theorem MarksKept.bump (k : Nat) (cnt sat : Fld) : MarksKept h (h.bump k cnt sat) := .of_parts (Hw.bump_stp _ _ _ _) (Hw.bump_eqx _ _ _ _)

theorem MarksKept.bumpBy (k : Nat) (cnt sat : Fld) (n : Nat) : MarksKept h (h.bumpBy k cnt sat n) := by
  induction n generalizing h with
  | zero => exact .refl h
  | succ n ih => exact (MarksKept.bump h k cnt sat).trans (ih _)

theorem MarksKept.raise (k : Nat) (f : Fld) (i : Nat) : MarksKept h (h.raise k f i) := .of_parts (Hw.raise_stp _ _ _ _) (Hw.raise_eqx _ _ _ _)

theorem MarksKept.stpRecord (kind src : Nat) : MarksKept h (h.stpRecord kind src) :=
  .of_parts (Hw.event_stp _ _ _ _ _ _) (Hw.event_eqx _ _ _ _ _ _)

theorem EqxSt.keep_wdogKick (x : EqxSt) (i : MirrorItem) : (x.keep i).wdogKick = x.wdogKick := by
  cases i <;> rfl

theorem Hw.mirror_stp (i : MirrorItem) : (h.mirror i).stp = h.stp := by
  unfold Hw.mirror
  split <;> rfl

theorem Hw.mirror_wdogKick (i : MirrorItem) : (h.mirror i).eqx.wdogKick = h.eqx.wdogKick := by
  unfold Hw.mirror
  split
  · exact h.eqx.keep_wdogKick i
  · rfl

theorem MarksKept.mirror (i : MirrorItem) : MarksKept h (h.mirror i) where
  permitSeq := by rw [Hw.mirror_stp]
  markAt := by rw [Hw.mirror_stp]
  relays := by rw [Hw.mirror_stp]
  wdogKick := Hw.mirror_wdogKick h i

/-! ### The axes stop (R220) -/

theorem MarksKept.freeMembers (n : Nat) (st : AxState) : MarksKept h (h.freeMembers n st) :=
  .foldl _ (fun h _ => .ite (.trans (b := h.updAxis _ _) (.of_parts rfl rfl) (.mirror _ _)) (.refl h)) _ h

theorem MarksKept.groupStop (n : Nat) (stop : Bool) (dec jerk : Nat → Nat) : MarksKept h (h.groupStop n stop dec jerk) := by
  unfold Hw.groupStop
  dsimp only
  refine .ite (.trans (.freeMembers h n _) (.of_parts rfl rfl)) (.ite ?moving (.refl h))
  refine .trans (.trans (b := h.updGroup n _) (.of_parts rfl rfl) (.foldl _ (fun h p => ?_) _ _)) (.of_parts rfl rfl)
  split
  · exact .of_parts rfl rfl
  · exact .refl h

theorem MarksKept.stopAxis (n : Nat) : MarksKept h (h.stopAxis n) :=
  .ite (.refl h) (.trans (b := h.updAxis n _) (.of_parts rfl rfl) (.mirror _ _))

theorem MarksKept.axResult (n r : Nat) : MarksKept h (h.axResult n r) :=
  .ite (.of_parts rfl rfl) (.trans (b := h.updAxis n _) (.of_parts rfl rfl) (.bump _ _ _ _))

theorem MarksKept.axlStop : MarksKept h h.axlStop := by
  unfold Hw.axlStop
  dsimp only
  refine .trans (.trans (.trans (b := { h with axl := { h.axl with stop := true, stopDone := false } }) (.of_parts rfl rfl)
    (.foldl _ (fun h n => ?_) _ _)) (.foldl _ (fun h n => .groupStop h n _ _ _) _ _))
    (.foldl _ (fun h n => .ite (.refl h) (.stopAxis h n)) _ _)
  split
  · exact .trans (b := h.updAxis n _) (.of_parts rfl rfl) (.axResult _ _ _)
  · exact .refl h

/-! ### Tokens are revoked (R194) -/

theorem MarksKept.hwSendFree (prod f : Nat) (bs : List Byte) : MarksKept h (h.hwSendFree prod f bs).1 := by
  have set (g : Hw) (x : Fifo) : MarksKept g (g.setFifo f x) := .of_parts rfl rfl
  have noticed (g : Hw) : MarksKept g (g.fifoNotice f) :=
    .of_parts (by rw [Hw.fifoNotice, Hw.notice_stp, Hw.deviceLine_stp]) (by rw [Hw.fifoNotice, Hw.notice_eqx, Hw.deviceLine_eqx])
  refine .trans (b := h.useFree 1) (.of_parts rfl rfl) ?_
  unfold Hw.hwSendFree Hw.hwSend
  split
  · exact .refl _
  · split
    · exact (set _ _).trans (noticed _)
    · exact set _ _

theorem MarksKept.rsvEvent (ev robot seg token : Nat) : MarksKept h (h.rsvEvent ev robot seg token) := by
  have counted : MarksKept h { h with alm := h.alm.advance rsvSource } := .of_parts rfl rfl
  unfold Hw.rsvEvent
  dsimp only
  split
  · exact counted.trans (.ite (.trans (.hwSendFree _ _ _ _) (.bump _ _ _ _)) (.hwSendFree _ _ _ _))
  · exact counted

theorem MarksKept.abortLane (n : Nat) : MarksKept h (h.abortLane n) := .of_parts rfl rfl

theorem MarksKept.gateLane (t n : Nat) : MarksKept h (Hw.gateLane t h n) := by
  unfold Hw.gateLane
  extract_lets l gone counted kept
  have dropped : MarksKept h kept := (MarksKept.bumpBy h _ _ _ _).trans (.ite (.refl counted) (.of_parts rfl rfl))
  split
  · exact dropped.trans (.ite (.trans (.abortLane kept n) (.bump _ _ _ _)) (.refl kept))
  · exact dropped

theorem MarksKept.clearValid (t : Nat) : MarksKept h (h.clearValid t) :=
  .trans (b := h.updRsv _) (.of_parts rfl rfl) (.ite (.refl _) (.foldl _ (fun h n => .gateLane h t n) _ _))

theorem MarksKept.revokeToken (t : Nat) (hold : Bool) (now : Nat) : MarksKept h (h.revokeToken t hold now) := by
  unfold Hw.revokeToken
  split
  · extract_lets k before invalid held freed
    have gone : MarksKept h held := (MarksKept.clearValid h t).trans (.ite (c := invalid.updRsv _) (.of_parts rfl rfl) (.of_parts rfl rfl))
    have told : MarksKept held freed := .trans (b := (held.freeTok t).rsvEvent _ _ _ _) (.trans (b := held.freeTok t) (.of_parts rfl rfl)
      (.rsvEvent _ _ _ _ _)) (.mirror _ _)
    exact (gone.trans told).trans (.foldl _ (fun h _ => .rsvEvent h _ _ _ _) _ _)
  · exact .refl h

theorem MarksKept.setBar (robot : Nat) (on : Bool) : MarksKept h (h.setBar robot on) :=
  .trans (b := h.updRsv _) (.of_parts rfl rfl) (.mirror _ _)

theorem MarksKept.rsvStop (robots : List Nat) : MarksKept h (h.rsvStop robots) :=
  .trans (.foldl _ (fun h r => .trans (.foldl _ (fun h t => .revokeToken h t _ _) _ h) (.setBar _ r true)) _ h) (.raise _ _ _ _)

end

end Sys2Proof.Machine
end

section
/-! SUPPORT. The sequencer's own frames: what a frame and a flood identifier change, the counters of the lanes, and the stop of spent counters
(R265, R267, R268, R270). -/

namespace Sys2Proof.Machine

open Reg Sys2Proof.Safety

/-! ### What a frame of the sequencer keeps -/

/-- `g` has the sequencer, the pair, site time, the keys and the lanes in service of `h`, and may transmit as `h` may. -/
structure SendKept (h g : Hw) : Prop where
  stp : g.stp = h.stp
  eqx : g.eqx = h.eqx
  cal : g.cal = h.cal
  ports : g.ports = h.ports
  cfg : g.reg RAD_CFG = h.reg RAD_CFG
  stat : g.reg RAD_STAT = h.reg RAD_STAT

section
variable {a b c h g : Hw}

theorem SendKept.refl (h : Hw) : SendKept h h := ⟨rfl, rfl, rfl, rfl, rfl, rfl⟩

theorem SendKept.trans (p : SendKept a b) (q : SendKept b c) : SendKept a c :=
  ⟨q.stp.trans p.stp, q.eqx.trans p.eqx, q.cal.trans p.cal, q.ports.trans p.ports, q.cfg.trans p.cfg, q.stat.trans p.stat⟩

theorem SendKept.foldl {β : Type} (f : Hw → β → Hw) (hf : ∀ h b, SendKept h (f h b)) (l : List β) (h : Hw) : SendKept h (l.foldl f h) := by
  induction l generalizing h with
  | nil => exact .refl h
  | cons b l ih => exact (hf h b).trans (ih (f h b))

variable (kept : SendKept h g)
include kept

theorem SendKept.marks : MarksKept h g := .of_parts kept.stp kept.eqx

theorem SendKept.now_eq : g.now = h.now := by rw [Hw.now, kept.cal, Hw.now]

theorem SendKept.sends_eq : g.sends = h.sends := by rw [Hw.sends, Hw.flag, Hw.f, kept.cfg, ← Hw.f, ← Hw.flag, ← Hw.sends]

theorem SendKept.laneUp_eq (n : Nat) : g.laneUp n = h.laneUp n := by rw [Hw.laneUp, Hw.f, kept.stat, ← Hw.f, ← Hw.laneUp]

end

/-! ### The counter of a lane (R270) -/

theorem stpLaneCtr_apart {n : Nat} (hn : n < 8) : STP_LANE_CTR n ≠ STP_IRQ_STAT ∧ STP_LANE_CTR n ∉ logRegs ∧ STP_LANE_CTR n ≠ RAD_FLOOD_STAT ∧
    STP_LANE_CTR n ≠ STP_FLOOD_ID ∧ STP_LANE_CTR n ≠ EQX_TAKEOVER := by
  have fleet : fleetReg (STP_LANE_CTR n) := by simp only [fleetReg, STP_LANE_CTR]; omega
  refine ⟨?_, fleet.not_log, ?_, ?_, ?_⟩ <;> simp only [STP_LANE_CTR, STP_IRQ_STAT, RAD_FLOOD_STAT, STP_FLOOD_ID, EQX_TAKEOVER] <;> omega

theorem ofNat_toNat_add_one (w : Word) : BitVec.ofNat 32 (w.toNat + 1) = w + 1 := by
  rw [BitVec.ofNat_add, BitVec.ofNat_toNat, BitVec.setWidth_eq]
  rfl

section
variable (h : Hw) (n : Nat)

theorem Hw.advanceStopCtr_reg {k : Nat} (ctr : k ≠ STP_LANE_CTR n) (irq : k ≠ STP_IRQ_STAT) (log : k ∉ logRegs) :
    (h.advanceStopCtr n).reg k = h.reg k := by
  unfold Hw.advanceStopCtr
  dsimp only
  split
  · rw [Hw.raise_reg _ _ _ _ _ irq log, Hw.reg_setReg_other _ _ _ _ ctr]
  · exact Hw.reg_setReg_other _ _ _ _ ctr

theorem Hw.advanceStopCtr_ctr (hn : n < 8) : (h.advanceStopCtr n).reg (STP_LANE_CTR n) = h.reg (STP_LANE_CTR n) + 1 := by
  obtain ⟨irq, log, -⟩ := stpLaneCtr_apart hn
  have stored : (h.setReg (STP_LANE_CTR n) (BitVec.ofNat 32 ((h.reg (STP_LANE_CTR n)).toNat + 1))).reg (STP_LANE_CTR n) =
      h.reg (STP_LANE_CTR n) + 1 := by rw [Hw.reg_setReg_same, ofNat_toNat_add_one]
  unfold Hw.advanceStopCtr
  dsimp only
  split
  · rw [Hw.raise_reg _ _ _ _ _ irq log, stored]
  · exact stored

theorem SendKept.advanceStopCtr : SendKept h (h.advanceStopCtr n) where
  stp := by unfold Hw.advanceStopCtr; dsimp only; split <;> simp only [Hw.raise_stp, Hw.setReg_stp]
  eqx := by unfold Hw.advanceStopCtr; dsimp only; split <;> simp only [Hw.raise_eqx, Hw.setReg_eqx]
  cal := by unfold Hw.advanceStopCtr; dsimp only; split <;> simp only [Hw.raise_cal, Hw.setReg_cal]
  ports := by unfold Hw.advanceStopCtr; dsimp only; split <;> simp only [Hw.raise_ports, Hw.setReg_ports]
  cfg := h.advanceStopCtr_reg n (by simp only [RAD_CFG, STP_LANE_CTR]; omega) (by decide) (by decide)
  stat := h.advanceStopCtr_reg n (by simp only [RAD_STAT, STP_LANE_CTR]; omega) (by decide) (by decide)

/-- A frame of the sequencer leaves on lane `n`: its counter has advanced. -/
def StopLaunched (h : Hw) (n : Nat) (g : Hw) : Prop :=
  ∃ (u : LaneSt → LaneSt) (psdu : List Byte), g = (((h.advanceStopCtr n).updLane n u).laneCmd n cmdTxLoad psdu).laneCmd n cmdTxGo []

variable {h n} {g : Hw}

theorem StopLaunched.reg_eq (sent : StopLaunched h n g) (k : Nat) : g.reg k = (h.advanceStopCtr n).reg k := by
  obtain ⟨u, psdu, rfl⟩ := sent
  rfl

theorem StopLaunched.kept (sent : StopLaunched h n g) : SendKept h g := by
  have advanced := SendKept.advanceStopCtr h n
  obtain ⟨u, psdu, rfl⟩ := sent
  exact ⟨advanced.stp, advanced.eqx, advanced.cal, advanced.ports, advanced.cfg, advanced.stat⟩

end

/-! ### A frame is sent, or not (R265, R267, R270) -/

/-- Lane `n` can carry a frame of the sequencer, and the counter that the frame takes is not its last. -/
structure StopReady (h : Hw) (n : Nat) : Prop where
  sends : h.sends = true
  up : h.laneUp n = true
  key : h.ports.stop ≠ []
  ctr : (h.reg (STP_LANE_CTR n)).toNat + 1 < 2 ^ 32 - 1

section
variable (h : Hw) (n ft robot : Nat) (permit : Option Nat) (flood : Option (Nat × Nat × Nat)) (payload : List Byte)

theorem Hw.stpSend_cases : h.stpSend n ft robot permit flood payload = h ∨ StopLaunched h n (h.stpSend n ft robot permit flood payload) := by
  unfold Hw.stpSend
  dsimp only
  split
  · exact .inl rfl
  · split
    · exact .inl rfl
    · exact .inr ⟨_, _, rfl⟩

theorem SendKept.stpSend : SendKept h (h.stpSend n ft robot permit flood payload) := by
  obtain e | sent := h.stpSend_cases n ft robot permit flood payload
  · rw [e]
    exact .refl h
  · exact sent.kept

/-- A frame leaves the counters of the other lanes. -/
theorem Hw.stpSend_ctr_other {m : Nat} (hm : m < 8) (ne : m ≠ n) :
    (h.stpSend n ft robot permit flood payload).reg (STP_LANE_CTR m) = h.reg (STP_LANE_CTR m) := by
  obtain ⟨irq, log, -⟩ := stpLaneCtr_apart hm
  obtain e | sent := h.stpSend_cases n ft robot permit flood payload
  · rw [e]
  · exact (sent.reg_eq _).trans (h.advanceStopCtr_reg n (by simp only [STP_LANE_CTR]; omega) irq log)

theorem Hw.airKey_stop (stop : h.ports.stop ≠ []) : h.airKey keyStop none = some h.ports.stop := by
  have key : h.ports.stop.isEmpty = false := List.isEmpty_eq_false_iff.mpr stop
  have group : keyStop ≠ keyGroup := by decide
  have join : keyStop ≠ keyJoin := by decide
  simp only [Hw.airKey, group, join, key, if_true, if_false, Bool.false_eq_true]

variable {h n}

theorem StopReady.stpSend (ready : StopReady h n) : StopLaunched h n (h.stpSend n ft robot permit flood payload) := by
  have left : (h.reg (STP_LANE_CTR n)).toNat ≠ 2 ^ 32 - 1 := by have := ready.ctr; omega
  simp only [Hw.stpSend, h.airKey_stop ready.key, ready.sends, ready.up, left, not_true_eq_false, or_self, if_false]
  exact ⟨_, _, rfl⟩

theorem StopReady.stpSend_ctr (ready : StopReady h n) :
    (h.stpSend n ft robot permit flood payload).reg (STP_LANE_CTR n) = h.reg (STP_LANE_CTR n) + 1 :=
  ((ready.stpSend ft robot permit flood payload).reg_eq _).trans (h.advanceStopCtr_ctr n (Hw.lt_of_laneUp ready.up))

end

theorem StopReady.of_kept {h g : Hw} {n : Nat} (ready : StopReady h n) (kept : SendKept h g) (ctr : g.reg (STP_LANE_CTR n) = h.reg (STP_LANE_CTR n)) :
    StopReady g n where
  sends := kept.sends_eq.trans ready.sends
  up := (kept.laneUp_eq n).trans ready.up
  key := by rw [kept.ports]; exact ready.key
  ctr := by rw [ctr]; exact ready.ctr

/-! ### A frame on each of several lanes -/

/-- Each application of `f` at a lane is a frame of the sequencer on it, whatever the frame says. -/
def SendsStop (f : Hw → Nat → Hw) : Prop :=
  ∀ h n, ∃ ft robot permit flood payload, f h n = h.stpSend n ft robot permit flood payload

section
variable {f : Hw → Nat → Hw} (sending : SendsStop f)
include sending

theorem SendsStop.kept (h : Hw) (n : Nat) : SendKept h (f h n) := by
  obtain ⟨ft, robot, permit, flood, payload, e⟩ := sending h n
  rw [e]
  exact .stpSend h n ft robot permit flood payload

theorem SendsStop.foldl_kept (l : List Nat) (h : Hw) : SendKept h (l.foldl f h) := .foldl f sending.kept l h

theorem SendsStop.ctr_other (h : Hw) {m n : Nat} (hm : m < 8) (ne : m ≠ n) : (f h n).reg (STP_LANE_CTR m) = h.reg (STP_LANE_CTR m) := by
  obtain ⟨ft, robot, permit, flood, payload, e⟩ := sending h n
  rw [e, Hw.stpSend_ctr_other _ _ _ _ _ _ _ hm ne]

/-- A frame on each lane in service advances the counter of each that is ready, once. -/
theorem SendsStop.foldl_ctr {h : Hw} {n : Nat} (ready : StopReady h n) :
    (h.lanesUp.foldl f h).reg (STP_LANE_CTR n) = h.reg (STP_LANE_CTR n) + 1 := by
  have hn : n < 8 := Hw.lt_of_laneUp ready.up
  refine foldl_reaches (f := f) (Pre := fun g => SendKept h g ∧ g.reg (STP_LANE_CTR n) = h.reg (STP_LANE_CTR n))
    (Post := fun g => g.reg (STP_LANE_CTR n) = h.reg (STP_LANE_CTR n) + 1) (fun g m ne pre => ?_) (fun g pre => ?_) (fun g m ne post => ?_)
    h.lanesUp h.lanesUp_nodup (Hw.mem_lanesUp.mpr ready.up) h ⟨.refl h, rfl⟩
  · obtain ⟨kept, ctr⟩ := pre
    exact ⟨kept.trans (sending.kept g m), (sending.ctr_other g hn ne.symm).trans ctr⟩
  · obtain ⟨kept, ctr⟩ := pre
    obtain ⟨ft, robot, permit, flood, payload, e⟩ := sending g n
    rw [e, (ready.of_kept kept ctr).stpSend_ctr, ctr]
  · exact (sending.ctr_other g hn ne.symm).trans post

end

/-! ### A flood identifier is taken (R268) -/

section
variable (h : Hw)

theorem Hw.takeFlood_reg {k : Nat} (id : k ≠ STP_FLOOD_ID) (stat : k ≠ RAD_FLOOD_STAT) : h.takeFlood.2.reg k = h.reg k :=
  ((SeenEntered.enterSeen _ _ _).regs k stat).trans (Hw.reg_setF_other _ _ _ _ _ id)

theorem Hw.takeFlood_rad : ∃ l, h.takeFlood.2.rad = { h.rad with seen := l } := (SeenEntered.enterSeen _ _ _).rad

theorem SendKept.takeFlood : SendKept h h.takeFlood.2 where
  stp := (SeenEntered.enterSeen _ _ _).stp
  eqx := (SeenEntered.enterSeen _ _ _).eqx
  cal := (SeenEntered.enterSeen _ _ _).cal
  ports := (SeenEntered.enterSeen _ _ _).ports
  cfg := h.takeFlood_reg (by decide) (by decide)
  stat := h.takeFlood_reg (by decide) (by decide)

theorem Hw.lanesUp_takeFlood : h.takeFlood.2.lanesUp = h.lanesUp := by
  rw [Hw.lanesUp, Hw.lanesUp]
  exact List.filter_congr fun n _ => (SendKept.takeFlood h).laneUp_eq n

theorem SendsStop.sendFleetFrame (fid : Nat) : SendsStop (Hw.sendFleetFrame fid) := fun h n => by
  unfold Hw.sendFleetFrame
  split
  exact ⟨_, _, _, _, _, rfl⟩

theorem SendKept.sendFleet : SendKept h h.sendFleet := by
  unfold Hw.sendFleet
  split
  · exact .refl h
  · exact (SendKept.takeFlood h).trans ((SendsStop.sendFleetFrame _).foldl_kept _ _)

/-- A fleet stop frame advances the counter of each lane that is ready. -/
theorem Hw.sendFleet_ctr {h : Hw} {n : Nat} (armed : h.stpState ≠ stpUnarmed) (ready : StopReady h n) :
    h.sendFleet.reg (STP_LANE_CTR n) = h.reg (STP_LANE_CTR n) + 1 := by
  obtain ⟨-, -, stat, id, -⟩ := stpLaneCtr_apart (Hw.lt_of_laneUp ready.up)
  have ctr := h.takeFlood_reg id stat
  have goes : h.sendFleet = h.takeFlood.2.lanesUp.foldl (Hw.sendFleetFrame h.takeFlood.1) h.takeFlood.2 := by
    simp only [Hw.sendFleet, armed, ready.sends, not_true_eq_false, or_self, if_false]
  rw [goes, (SendsStop.sendFleetFrame _).foldl_ctr (ready.of_kept (.takeFlood h) ctr), ctr]

end

/-! ### Outputs (R272) -/

/-- The outputs follow a change of the sequencer: the balls, and what is known of their readbacks. -/
theorem Hw.driveOuts_eq (old h : Hw) : ∃ l b, Hw.driveOuts old h = { h with stp := { h.stp with rbBad := l }, bus := b } := by
  unfold Hw.driveOuts
  generalize List.range 4 = ns
  induction ns generalizing h with
  | nil => exact ⟨h.stp.rbBad, h.bus, rfl⟩
  | cons n ns ih =>
    rw [List.foldl_cons]
    split
    · exact ih h
    · obtain ⟨l, b, e⟩ := ih ((h.updStp fun p => { p with rbBad := without n p.rbBad }).emit (.pin (permitName n) (h.outLevel n)))
      exact ⟨l, b, e⟩

theorem MarksKept.driveOuts (old h : Hw) : MarksKept h (Hw.driveOuts old h) := by
  obtain ⟨l, b, e⟩ := Hw.driveOuts_eq old h
  rw [e]
  exact ⟨rfl, rfl, rfl, rfl⟩

theorem MarksKept.withOuts {h : Hw} {u : Hw → Hw} (kept : MarksKept h (u h)) : MarksKept h (h.withOuts u) :=
  kept.trans (.driveOuts h (u h))

/-! ### A fleet stop, and the stop of spent counters (R265, R270) -/

section
variable (h : Hw)

theorem MarksKept.shutLane (n : Nat) : MarksKept h (h.shutLane n) := by
  unfold Hw.shutLane
  split
  · exact .of_parts rfl rfl
  · dsimp only
    exact .trans (.ite (.abortLane h n) (.refl h)) (.of_parts rfl rfl)

theorem MarksKept.openIdleGates : MarksKept h h.openIdleGates := by
  refine .foldl _ (fun h n => ?_) _ h
  split
  · exact .refl h
  · exact .of_parts rfl rfl

theorem MarksKept.updStp {u : StpSt → StpSt} (seq : ∀ p, (u p).permitSeq = p.permitSeq) (mark : ∀ p, (u p).markAt = p.markAt)
    (relays : ∀ p, (u p).relays = p.relays) : MarksKept h (h.updStp u) := ⟨seq _, mark _, relays _, rfl⟩

theorem MarksKept.stopEvent : MarksKept h h.stopEvent := by
  unfold Hw.stopEvent
  extract_lets g
  have numbered : MarksKept h (g.setReg STP_EVT (BitVec.ofNat 32 g.nowMs)) := .of_parts rfl rfl
  exact numbered.trans (.updStp _ (fun _ => rfl) (fun _ => rfl) fun _ => rfl)

theorem MarksKept.latched (src : Nat) : MarksKept h ((h.stopEvent.setF STP_STAT STP_STAT.reason src).latchSource src) :=
  (MarksKept.stopEvent h).trans (.of_parts (by rw [Hw.latchSource, Hw.setF_stp, Hw.setF_stp]) (by rw [Hw.latchSource, Hw.setF_eqx, Hw.setF_eqx]))

theorem MarksKept.fleetStop (src : Nat) : MarksKept h (h.fleetStop src) := by
  unfold Hw.fleetStop
  extract_lets was latched named shut outs held axes sent first raised
  have noted : MarksKept h named := (MarksKept.latched h src).trans (.updStp latched (fun _ => rfl) (fun _ => rfl) fun _ => rfl)
  clear_value named
  have told (g : Hw) : MarksKept g (g.stpRecord 1 src).mirrorStop := (MarksKept.stpRecord g 1 src).trans (.mirror _ _)
  have silent : MarksKept named shut := .foldl _ (fun h n => .shutLane h n) _ _
  clear_value shut
  have dropped : MarksKept shut outs := .withOuts ⟨rfl, rfl, rfl, rfl⟩
  clear_value outs
  have stopped : MarksKept outs axes := .trans (b := held) (.of_parts rfl rfl) (.trans (.axlStop held) (.rsvStop _ _))
  clear_value axes
  have spoken : MarksKept axes sent := (SendKept.sendFleet axes).marks.trans (.openIdleGates _)
  clear_value sent
  have risen : MarksKept sent raised := .trans (b := first) ⟨rfl, rfl, rfl, rfl⟩ (.ite (.raise first _ _ _) (.of_parts rfl rfl))
  exact .ite (noted.trans (told _)) (noted.trans (silent.trans (dropped.trans (stopped.trans (spoken.trans (risen.trans (told _)))))))

theorem MarksKept.exhaustCheck : MarksKept h h.exhaustCheck := .ite (.fleetStop h 12) (.refl h)

/-- While a lane in service has counters left there is no stop for want of them. -/
theorem Hw.exhaustCheck_idle {n : Nat} (up : h.laneUp n = true) (left : (h.reg (STP_LANE_CTR n)).toNat ≠ 2 ^ 32 - 1) : h.exhaustCheck = h :=
  if_neg fun ⟨_, all, _⟩ => left (of_decide_eq_true (List.all_eq_true.mp all n (Hw.mem_lanesUp.mpr up)))

end

/-- After a frame that took a counter with one to spare there is no stop for want of counters. -/
theorem StopReady.exhaustCheck {h g : Hw} {n : Nat} (ready : StopReady h n) (up : g.laneUp n = h.laneUp n)
    (ctr : g.reg (STP_LANE_CTR n) = h.reg (STP_LANE_CTR n) + 1) : g.exhaustCheck = g := by
  refine g.exhaustCheck_idle (up.trans ready.up) ?_
  have spare := ready.ctr
  rw [ctr, BitVec.toNat_add_of_lt (by have : (1 : Word).toNat = 1 := rfl; omega)]
  have : (1 : Word).toNat = 1 := rfl
  omega

end Sys2Proof.Machine
end

section
/-! PROOFS. Mark cells, stop frames, runs, relays, holds and outputs (R242, R266, R269, R270, R272, R279); O29 is settled. -/

namespace Sys2Proof.Machine

open Reg Sys2Proof.Safety

/-! ### A mark cell (R242, R279) -/

section
variable (h : Hw)

theorem Hw.passKick_eq : ∃ x, h.passKick = { h with eqx := x } := by
  unfold Hw.passKick
  split
  · split
    · exact ⟨_, rfl⟩
    · exact ⟨h.eqx, rfl⟩
  · exact ⟨h.eqx, rfl⟩

theorem Hw.passKick_wdogKick {t : Nat} (kick : h.eqx.spKick = some t) (soon : h.now ≤ t + 10000000) : h.passKick.eqx.wdogKick = h.now := by
  simp only [Hw.passKick, kick, soon, if_true]

theorem MarksKept.noteFirstMark : MarksKept h h.noteFirstMark := .ite ⟨rfl, rfl, rfl, rfl⟩ (.refl h)

theorem Hw.noteFirstMark_reg {k : Nat} (ne : k ≠ EQX_TAKEOVER) : h.noteFirstMark.reg k = h.reg k := by
  unfold Hw.noteFirstMark
  split
  · exact Hw.reg_setF_other _ _ _ _ _ ne
  · rfl

theorem Hw.noteFirstMark_stp : h.noteFirstMark.stp = h.stp := by
  unfold Hw.noteFirstMark
  split <;> rfl

theorem Hw.noteFirstMark_laneUp (n : Nat) : h.noteFirstMark.laneUp n = h.laneUp n := by
  rw [Hw.laneUp, Hw.f, h.noteFirstMark_reg (by decide), ← Hw.f, ← Hw.laneUp]

theorem Hw.mirrorStop_reg (k : Nat) : h.mirrorStop.reg k = h.reg k := by rw [Hw.mirrorStop, Hw.reg, Hw.mirror_regs, Hw.reg]

/-- A permit mark on each lane in service. -/
def Hw.markFrames (h : Hw) (j : Nat) : Hw :=
  h.lanesUp.foldl (fun h n => h.stpSend n ftPermit 0 (some h.stp.permitSeq) none (h.markPayload j)) h

theorem sendsStop_mark (j : Nat) : SendsStop fun h n => h.stpSend n ftPermit 0 (some h.stp.permitSeq) none (h.markPayload j) :=
  fun _ _ => ⟨_, _, _, _, _, rfl⟩

theorem SendKept.markFrames (j : Nat) : SendKept h (h.markFrames j) := (sendsStop_mark j).foldl_kept _ h

/-- The marks of a cell have gone. -/
def Hw.noteMark (h : Hw) : Hw :=
  h.updStp fun p => { p with
    permitSeq := (p.permitSeq + 1) % 65536, markAt := h.now, marked := p.marked || p.awaitMark, awaitMark := false }

variable {h}

theorem Hw.permitMark_eq (j : Nat) (running : h.stpState = stpRunning) (sends : h.sends = true) :
    h.permitMark j = (h.passKick.markFrames j).noteMark.noteFirstMark.exhaustCheck.mirrorStop := by
  obtain ⟨x, kicked⟩ := h.passKick_eq
  have running' : h.passKick.stpState = stpRunning := by rw [kicked]; exact running
  have sends' : h.passKick.sends = true := by rw [kicked]; exact sends
  simp only [Hw.permitMark, running', sends', and_self, if_true]
  rfl

/-- What follows the marks of a cell keeps what they have set. -/
theorem MarksKept.afterMark (h : Hw) : MarksKept h h.noteFirstMark.exhaustCheck.mirrorStop :=
  ((MarksKept.noteFirstMark h).trans (.exhaustCheck _)).trans (.mirror _ _)

theorem Hw.permitMark_ctr (j : Nat) (running : h.stpState = stpRunning) {n : Nat} (ready : StopReady h n) :
    (h.permitMark j).reg (STP_LANE_CTR n) = h.reg (STP_LANE_CTR n) + 1 := by
  obtain ⟨-, -, -, -, takeover⟩ := stpLaneCtr_apart (Hw.lt_of_laneUp ready.up)
  obtain ⟨x, eq⟩ := h.passKick_eq
  have same : h.passKick.reg (STP_LANE_CTR n) = h.reg (STP_LANE_CTR n) := by rw [eq]; rfl
  have kicked : StopReady h.passKick n := by rw [eq]; exact ⟨ready.sends, ready.up, ready.key, ready.ctr⟩
  have sent : (h.passKick.markFrames j).reg (STP_LANE_CTR n) = h.passKick.reg (STP_LANE_CTR n) + 1 := (sendsStop_mark j).foldl_ctr kicked
  have noted := ((h.passKick.markFrames j).noteMark.noteFirstMark_reg takeover).trans sent
  have up := ((h.passKick.markFrames j).noteMark.noteFirstMark_laneUp n).trans ((SendKept.markFrames _ j).laneUp_eq n)
  rw [Hw.permitMark_eq j running ready.sends, Hw.mirrorStop_reg, kicked.exhaustCheck up noted, noted, same]

end

theorem permitMark_completes (s : State) (j : Fin 5) (running : s.hw.stpState = stpRunning) (sends : s.hw.sends = true) :
    Completes (.permitMark j) s fun h =>
      h.stp.permitSeq = (s.hw.stp.permitSeq + 1) % 65536 ∧ h.stp.markAt = s.hw.now ∧
      ∀ n < 8, s.hw.laneUp n = true → s.hw.ports.stop ≠ [] → (s.hw.reg (STP_LANE_CTR n)).toNat + 1 < 2 ^ 32 - 1 →
        h.reg (STP_LANE_CTR n) = s.hw.reg (STP_LANE_CTR n) + 1 := by
  refine completes_of_run (e := fun h => h.permitMark j.val) rfl ?_
  have marked := Hw.permitMark_eq (h := cleared s.hw) j running sends
  obtain ⟨x, kicked⟩ := (cleared s.hw).passKick_eq
  have sent := SendKept.markFrames (cleared s.hw).passKick j
  have after := MarksKept.afterMark ((cleared s.hw).passKick.markFrames j).noteMark
  refine ⟨?_, ?_, fun n _ up key ctr => Hw.permitMark_ctr (h := cleared s.hw) j running ⟨sends, up, key, ctr⟩⟩
  · rw [marked, after.permitSeq, Hw.noteMark, Hw.updStp_stp, sent.stp, kicked]
    rfl
  · rw [marked, after.markAt, Hw.noteMark, Hw.updStp_stp, sent.now_eq, kicked]
    rfl

theorem Hw.permitMark_wdogKick (h : Hw) (j : Nat) : (h.permitMark j).eqx.wdogKick = h.passKick.eqx.wdogKick := by
  unfold Hw.permitMark
  extract_lets g sent noted
  have kept : sent.eqx = g.eqx := (SendKept.markFrames g j).eqx
  split
  · exact (MarksKept.afterMark noted).wdogKick.trans (congrArg EqxSt.wdogKick kept)
  · rfl

theorem permitMark_kicks (s : State) (j : Fin 5) (t : Nat) (kick : s.hw.eqx.spKick = some t) (soon : s.hw.now ≤ t + 10000000) :
    Completes (.permitMark j) s fun h => h.eqx.wdogKick = s.hw.now := by
  refine completes_of_run (e := fun h => h.permitMark j.val) rfl ?_
  exact (Hw.permitMark_wdogKick _ j).trans (Hw.passKick_wdogKick (cleared s.hw) kick soon)

/-! ### Stop frames in a hold (R269) -/

theorem Hw.stopRepeat_eq {h : Hw} (hold : h.fleetHold = true) (stopped : h.stpState = stpStopped)
    (late : ∀ t, h.stp.firstAt = some t → t + 2000000 ≤ h.now) :
    h.stopRepeat = (h.sendFleet.updStp fun p => { p with firstAt := none }).noteFirstMark.exhaustCheck := by
  cases first : h.stp.firstAt with
  | none => simp only [Hw.stopRepeat, first, hold, stopped, Bool.false_eq_true, not_false_eq_true, and_self, if_true]
  | some t =>
    have past : ¬h.now < t + 2000000 := not_lt.mpr (late t first)
    simp only [Hw.stopRepeat, first, hold, stopped, past, decide_false, Bool.false_eq_true, not_false_eq_true, and_self, if_true]

theorem stopRepeat_completes (s : State) (hold : s.hw.fleetHold = true) (stopped : s.hw.stpState = stpStopped) (sends : s.hw.sends = true)
    (late : ∀ t, s.hw.stp.firstAt = some t → t + 2000000 ≤ s.hw.now) :
    Completes .stopRepeat s fun h =>
      ∀ n < 8, s.hw.laneUp n = true → s.hw.ports.stop ≠ [] → (s.hw.reg (STP_LANE_CTR n)).toNat + 1 < 2 ^ 32 - 1 →
        h.stp.firstAt = none ∧ h.reg (STP_LANE_CTR n) = s.hw.reg (STP_LANE_CTR n) + 1 := by
  refine completes_of_run (e := Hw.stopRepeat) rfl fun n hn up key ctr => ?_
  obtain ⟨-, -, -, -, takeover⟩ := stpLaneCtr_apart hn
  have ready : StopReady (cleared s.hw) n := ⟨sends, up, key, ctr⟩
  have armed : (cleared s.hw).stpState ≠ stpUnarmed := fun e => absurd (stopped.symm.trans e) (by decide)
  rw [Hw.stopRepeat_eq (h := cleared s.hw) hold stopped late]
  generalize e : ((cleared s.hw).sendFleet.updStp fun p => { p with firstAt := none }) = g
  have sent : g.reg (STP_LANE_CTR n) = s.hw.reg (STP_LANE_CTR n) + 1 := by
    rw [← e, Hw.updStp_reg]
    exact Hw.sendFleet_ctr armed ready
  have noted := (g.noteFirstMark_reg takeover).trans sent
  have kept : g.noteFirstMark.laneUp n = (cleared s.hw).laneUp n := by
    rw [g.noteFirstMark_laneUp, ← e]
    exact (SendKept.sendFleet (cleared s.hw)).laneUp_eq n
  rw [ready.exhaustCheck kept noted]
  exact ⟨by rw [Hw.noteFirstMark_stp, ← e, Hw.updStp_stp], noted⟩

/-! ### Runs are claimed (R269) -/

/-- A lane without a run. -/
def LaneSt.noRun (l : LaneSt) : LaneSt := { l with run := none }

/-- No lane has a run, and no robot is named for the window. -/
def Hw.runsFreed (h : Hw) : Hw :=
  ((List.range 8).foldl (fun h n => h.updLane n LaneSt.noRun) h).updStp fun p => { p with window := none }

/-- A robot is named for the window: its frame takes a flood identifier. -/
def Hw.nameTarget (h : Hw) (r : Nat) : Hw :=
  h.takeFlood.2.updStp fun p => { p with
    window := some (r, h.takeFlood.1), named := r
    targets := p.targets.map fun (t : Target) => if t.robot = r then { t with first := false } else t }

/-- A lane with a frame due claims a run of window `j`. -/
def Hw.claimRun (j : Nat) (h : Hw) (n : Nat) : Hw :=
  if h.runDue n then h.updLane n fun l => { l with run := h.findRun n j } else h

theorem Hw.foldl_updLane_eq (u : LaneSt → LaneSt) (l : List Nat) : ∀ h : Hw,
    ∃ ls, l.foldl (fun h n => h.updLane n u) h = { h with rad := { h.rad with lanes := ls } } := by
  induction l with
  | nil => exact fun h => ⟨h.rad.lanes, rfl⟩
  | cons n l ih =>
    intro h
    obtain ⟨ls, e⟩ := ih (h.updLane n u)
    exact ⟨ls, e⟩

section
variable (h : Hw)

theorem Hw.runsFreed_eq : ∃ ls, h.runsFreed = { h with rad := { h.rad with lanes := ls }, stp := { h.stp with window := none } } := by
  obtain ⟨ls, e⟩ := Hw.foldl_updLane_eq LaneSt.noRun (List.range 8) h
  exact ⟨ls, by rw [Hw.runsFreed, e]; rfl⟩

theorem Hw.lane_runsFreed {n : Nat} (hn : n < 8) : h.runsFreed.lane n = (h.lane n).noRun :=
  foldl_reaches (f := fun h n => h.updLane n LaneSt.noRun) (Pre := fun g => g.lane n = h.lane n)
    (Post := fun g => g.lane n = (h.lane n).noRun) (fun g _ ne pre => (g.lane_updLane_other _ ne.symm).trans pre)
    (fun g pre => by rw [Hw.lane_updLane_same, pre]) (fun g _ ne post => (g.lane_updLane_other _ ne.symm).trans post)
    (List.range 8) List.nodup_range (List.mem_range.mpr hn) h rfl

theorem CellsKept.runsFreed {n : Nat} (hn : n < 8) : CellsKept n (h.updLane n LaneSt.noRun) h.runsFreed := by
  have lane := (h.lane_runsFreed hn).trans (h.lane_updLane_same LaneSt.noRun n).symm
  obtain ⟨ls, e⟩ := h.runsFreed_eq
  refine ⟨fun _ _ => ?_, ?_, ?_, ?_, congrArg LaneSt.aux lane, congrArg LaneSt.run lane⟩ <;> rw [e] <;> rfl

theorem CellsKept.nameTarget (n r : Nat) : CellsKept n h (h.nameTarget r) := by
  obtain ⟨l, rad⟩ := h.takeFlood_rad
  have rad' : (h.nameTarget r).rad = { h.rad with seen := l } := rad
  have cell (k : Nat) (hk : cellReg k) : k ≠ STP_FLOOD_ID ∧ k ≠ RAD_FLOOD_STAT := by
    simp only [cellReg] at hk
    constructor <;> simp only [STP_FLOOD_ID, RAD_FLOOD_STAT] <;> omega
  have hold : (h.nameTarget r).reg STP_STAT = h.reg STP_STAT := h.takeFlood_reg (by decide) (by decide)
  exact ⟨fun k hk => h.takeFlood_reg (cell k hk).1 (cell k hk).2, by rw [Hw.fleetHold, Hw.flag, Hw.f, hold, ← Hw.f, ← Hw.flag, ← Hw.fleetHold],
    by rw [rad'], by rw [rad'], by rw [Hw.lane, rad', Hw.lane], by rw [Hw.lane, rad', Hw.lane]⟩

theorem CellsKept.trans {n : Nat} {a b c : Hw} (p : CellsKept n a b) (q : CellsKept n b c) : CellsKept n a c :=
  ⟨fun k hk => (q.regs k hk).trans (p.regs k hk), q.hold.trans p.hold, q.tsf.trans p.tsf, q.started.trans p.started, q.aux.trans p.aux,
    q.run.trans p.run⟩

theorem Hw.claimRun_eq {h : Hw} (j n : Nat) (window : h.stp.window.isSome = true) :
    h.claimRun j n = h.updLane n fun l => { l with run := h.findRun n j } := by
  rw [Hw.claimRun, Hw.runDue, window, Bool.true_or, if_pos rfl]

end

theorem Hw.claimRun_stp (j : Nat) (h : Hw) (n : Nat) : (h.claimRun j n).stp = h.stp := by
  unfold Hw.claimRun
  split <;> rfl

theorem CellsKept.claimRun_other {m n : Nat} (j : Nat) (h : Hw) (ne : m ≠ n) : CellsKept m h (h.claimRun j n) := by
  unfold Hw.claimRun
  split
  · exact ⟨fun _ _ => rfl, rfl, rfl, rfl, by rw [Hw.lane_updLane_other _ _ ne], by rw [Hw.lane_updLane_other _ _ ne]⟩
  · exact ⟨fun _ _ => rfl, rfl, rfl, rfl, rfl, rfl⟩

/-- While a robot is named, each lane in service claims the run that it finds with none claimed. -/
theorem Hw.foldl_claimRun {h base : Hw} {n j : Nat} (up : h.laneUp n = true) (window : h.stp.window.isSome = true) (kept : CellsKept n base h) :
    ((h.lanesUp.foldl (Hw.claimRun j) h).lane n).run = base.findRun n j := by
  refine foldl_reaches (f := Hw.claimRun j) (Pre := fun g => CellsKept n base g ∧ g.stp.window.isSome = true)
    (Post := fun g => (g.lane n).run = base.findRun n j) (fun g m ne pre => ?_) (fun g pre => ?_) (fun g m ne post => ?_)
    h.lanesUp h.lanesUp_nodup (Hw.mem_lanesUp.mpr up) h ⟨kept, window⟩
  · obtain ⟨kept, window⟩ := pre
    exact ⟨kept.trans (.claimRun_other j g ne.symm), by rw [Hw.claimRun_stp]; exact window⟩
  · obtain ⟨kept, window⟩ := pre
    rw [Hw.claimRun_eq j n window, Hw.lane_updLane_same]
    exact kept.findRun_eq (Hw.lt_of_laneUp up) j
  · exact (CellsKept.claimRun_other j g ne.symm).run.trans post

theorem Hw.foldl_claimRun_stp (j : Nat) (l : List Nat) : ∀ h : Hw, (l.foldl (Hw.claimRun j) h).stp = h.stp := by
  induction l with
  | nil => exact fun _ => rfl
  | cons n l ih => exact fun h => (ih _).trans (h.claimRun_stp j n)

theorem Hw.claimRuns_eq {h : Hw} {j r : Nat} (armed : h.runsFreed.stpState ≠ stpUnarmed) (sends : h.runsFreed.sends = true)
    (next : h.runsFreed.nextTarget = some r) :
    h.claimRuns j = (h.runsFreed.nameTarget r).lanesUp.foldl (Hw.claimRun j) (h.runsFreed.nameTarget r) := by
  unfold Hw.runsFreed LaneSt.noRun at armed sends next
  simp only [Hw.claimRuns, armed, sends, next, not_true_eq_false, or_self, if_false]
  rfl

theorem stopRun_claim_completes (s : State) (j : Fin 5) (r : Nat) (armed : s.hw.stpState ≠ stpUnarmed) (sends : s.hw.sends = true)
    (next : s.hw.nextTarget = some r) :
    Completes (.stopRun (.claim j)) s fun h =>
      h.stp.window = some (r, s.hw.f STP_FLOOD_ID STP_FLOOD_ID.next_id) ∧ h.stp.named = r ∧
      ∀ n < 8, s.hw.laneUp n = true → (h.lane n).run = (s.hw.updLane n fun l => { l with run := none }).findRun n j.val := by
  refine completes_of_run (e := fun h => h.claimRuns j.val) rfl ?_
  obtain ⟨ls, freed⟩ := (cleared s.hw).runsFreed_eq
  have armed' : (cleared s.hw).runsFreed.stpState ≠ stpUnarmed := by rw [freed]; exact armed
  have sends' : (cleared s.hw).runsFreed.sends = true := by rw [freed]; exact sends
  have next' : (cleared s.hw).runsFreed.nextTarget = some r := by rw [freed]; exact next
  have id : (cleared s.hw).runsFreed.f STP_FLOOD_ID STP_FLOOD_ID.next_id = s.hw.f STP_FLOOD_ID STP_FLOOD_ID.next_id := by rw [freed]; rfl
  rw [Hw.claimRuns_eq armed' sends' next']
  refine ⟨?_, ?_, fun n hn up => ?_⟩
  · rw [Hw.foldl_claimRun_stp, ← id]
    rfl
  · rw [Hw.foldl_claimRun_stp]
    rfl
  · have up' : ((cleared s.hw).runsFreed.nameTarget r).laneUp n = true := by
      refine ((SendKept.takeFlood (cleared s.hw).runsFreed).laneUp_eq n).trans ?_
      rw [freed]
      exact up
    have free : CellsKept n (s.hw.updLane n LaneSt.noRun) ((cleared s.hw).updLane n LaneSt.noRun) :=
      ⟨fun _ _ => rfl, rfl, rfl, rfl, rfl, rfl⟩
    exact Hw.foldl_claimRun up' rfl ((free.trans (.runsFreed (cleared s.hw) hn)).trans (.nameTarget _ n r))

/-! ### Runs are used (R269) -/

/-- A relay that has gone on a lane which it waited for waits no longer as it did. -/
theorem Hw.not_mem_relayGone (h : Hw) {n : Nat} {r : StopRelay} (waits : n ∈ r.lanes) : r ∉ (h.relayGone n r).stp.relays := by
  intro mem
  obtain ⟨q, -, e⟩ := List.mem_map.mp (List.mem_filter.mp mem).1
  split at e
  · next same =>
    subst same
    have lanes : without n q.lanes = q.lanes := congrArg StopRelay.lanes e
    rw [← lanes, without, List.mem_filter] at waits
    exact absurd rfl (of_decide_eq_true waits.2)
  · next ne => exact ne e

theorem Hw.sendRun_relay {h : Hw} {n c : Nat} {r : StopRelay} (run : (h.lane n).run = some c)
    (found : (h.stp.relays.filter fun q => memb n q.lanes).find? StopRelay.fleet = some r) :
    h.sendRun n = ((h.sendRelay n r).relayGone n r).exhaustCheck := by
  simp only [Hw.sendRun, run, found]

theorem Hw.sendRun_target {h : Hw} {n c r fid : Nat} {t : Target} (run : (h.lane n).run = some c)
    (none : (h.stp.relays.filter fun q => memb n q.lanes).find? StopRelay.fleet = none) (window : h.stp.window = some (r, fid))
    (target : h.target r = some t) (free : h.fleetHold = false) :
    h.sendRun n = (h.stpSend n ftStop t.robot .none (some (h.unitAddr, fid, h.f STP_CFG STP_CFG.ttl))
      (stopPayload 2 t.reason t.stopId t.tms)).exhaustCheck := by
  simp only [Hw.sendRun, run, none, window, target, free, Option.map_some, Bool.false_eq_true, if_false]

theorem stopRun_relay_completes (s : State) (n : Fin 8) (c : Nat) (r : StopRelay) (run : (s.hw.lane n.val).run = some c)
    (found : (s.hw.stp.relays.filter fun q => memb n.val q.lanes).find? StopRelay.fleet = some r) :
    Completes (.stopRun (.send n)) s fun h => r ∉ h.stp.relays := by
  refine completes_of_run (e := fun h => h.sendRun n.val) rfl ?_
  have waits : n.val ∈ r.lanes := (memb_iff _ _).mp (List.mem_filter.mp (List.mem_of_find?_eq_some found)).2
  rw [Hw.sendRun_relay (h := cleared s.hw) run found, (MarksKept.exhaustCheck _).relays]
  exact Hw.not_mem_relayGone _ waits

theorem stopRun_target_completes (s : State) (n : Fin 8) (c r fid : Nat) (t : Target) (run : (s.hw.lane n.val).run = some c)
    (none : (s.hw.stp.relays.filter fun q => memb n.val q.lanes).find? StopRelay.fleet = none) (window : s.hw.stp.window = some (r, fid))
    (target : s.hw.target r = some t) (free : s.hw.fleetHold = false) (up : s.hw.laneUp n.val = true) (sends : s.hw.sends = true)
    (key : s.hw.ports.stop ≠ []) (ctr : (s.hw.reg (STP_LANE_CTR n.val)).toNat + 1 < 2 ^ 32 - 1) :
    Completes (.stopRun (.send n)) s fun h => h.reg (STP_LANE_CTR n.val) = s.hw.reg (STP_LANE_CTR n.val) + 1 := by
  refine completes_of_run (e := fun h => h.sendRun n.val) rfl ?_
  have ready : StopReady (cleared s.hw) n.val := ⟨sends, up, key, ctr⟩
  have sent := ready.stpSend_ctr ftStop t.robot .none (some ((cleared s.hw).unitAddr, fid, (cleared s.hw).f STP_CFG STP_CFG.ttl))
    (stopPayload 2 t.reason t.stopId t.tms)
  rw [Hw.sendRun_target (h := cleared s.hw) run none window target free, ready.exhaustCheck ((SendKept.stpSend _ _ _ _ _ _ _).laneUp_eq _) sent]
  exact sent

/-! ### Relays time out, holds end (R269) -/

theorem relayTimeout_completes (s : State) : Completes .relayTimeout s fun h => h.stp.relays = s.hw.stp.relays.drop 1 :=
  completes_of_run (e := fun h => h.updStp fun p => { p with relays := p.relays.drop 1 }) rfl rfl

section
variable (h : Hw)

/-- A hold's flag goes (R269). -/
def Hw.holdCleared (h : Hw) (robot : Nat) : Hw :=
  if robot = 0 then h.setFlag STP_STAT STP_STAT.hold false
  else h.updStp fun p => { p with targets := p.targets.map fun (t : Target) => if t.robot = robot then { t with hold := false } else t }

/-- The end of a hold is the hold's flag gone, and the stop keys at most. -/
theorem Hw.holdEnds_eq (robot : Nat) : (h.holdEnds robot).regs = (h.holdCleared robot).regs ∧
    (h.holdEnds robot).stp.targets = (h.holdCleared robot).stp.targets := by
  unfold Hw.holdEnds
  extract_lets g unkeyed ports k
  have erased : k.regs = g.regs ∧ k.stp.targets = g.stp.targets := by
    unfold k
    split
    · exact ⟨rfl, rfl⟩
    · exact ⟨rfl, rfl⟩
  rw [Hw.mirrorStop, Hw.mirror_regs, Hw.mirror_stp]
  exact erased

end

theorem stopHoldExpiry_completes (s : State) (r : Fin 129) : Completes (.stopHoldExpiry r) s fun h =>
    (r.val = 0 → h.fleetHold = false) ∧ h.stpState = s.hw.stpState ∧ (r.val ≠ 0 → ∀ t ∈ h.stp.targets, t.robot = r.val → t.hold = false) := by
  refine completes_of_run (e := fun h => h.holdEnds r.val) rfl ?_
  obtain ⟨regs, targets⟩ := (cleared s.hw).holdEnds_eq r.val
  have stat (k : Nat) (l : Fld) : ((cleared s.hw).holdEnds r.val).f k l = ((cleared s.hw).holdCleared r.val).f k l := by
    rw [Hw.f, Hw.reg, regs, ← Hw.reg, ← Hw.f]
  refine ⟨fun fleet => ?_, ?_, fun one t mem named => ?_⟩
  · rw [Hw.fleetHold, Hw.flag, stat, ← Hw.flag, Hw.holdCleared, if_pos fleet]
    exact Hw.flag_setFlag_same _ _ _ _ (by decide) (by decide)
  · rw [Hw.stpState, stat, Hw.holdCleared]
    split
    · exact Hw.f_setFlag_apart _ _ _ _ _ (by decide) (by decide)
    · rfl
  · rw [targets, Hw.holdCleared, if_neg one] at mem
    obtain ⟨u, -, rfl⟩ := List.mem_map.mp mem
    split at named <;> rename_i same
    · rw [if_pos same]
    · exact absurd named same

/-! ### Outputs (R272) -/

theorem outputDelayExpiry_completes (s : State) (running : s.hw.stpState = stpRunning) (marked : s.hw.stp.marked = true) :
    Completes .outputDelayExpiry s fun h => h.stp.outsOn = true := by
  have driven : exec .outputDelayExpiry s = run s fun h => h.withOuts fun h => h.updStp fun p => { p with outsOn := true } :=
    run_congr (if_pos ⟨running, marked⟩)
  refine completes_of_run driven ?_
  obtain ⟨l, b, e⟩ := Hw.driveOuts_eq (cleared s.hw) ((cleared s.hw).updStp fun p => { p with outsOn := true })
  rw [Hw.withOuts, e]
  rfl

theorem Hw.outActive_of_pulsing {h : Hw} {o : Nat} (pulsing : memb o h.stp.pulsing = true) : h.outActive o = false := by
  rw [Hw.outActive, pulsing, Bool.not_true, Bool.and_false]

theorem memb_without (o : Nat) (l : List Nat) : memb o (without o l) = false := by
  refine Bool.eq_false_iff.mpr fun mem => ?_
  obtain ⟨-, ne⟩ := List.mem_filter.mp ((memb_iff _ _).mp mem)
  exact of_decide_eq_true ne rfl

theorem testPulse_completes (s : State) (o : Fin 4) : Completes (.testPulse o false) s (fun h => memb o.val h.stp.pulsing = false) ∧
    (s.hw.f (STP_OUT_CFG o.val) STP_OUT_CFG.pulse_us ≠ 0 → s.hw.outActive o.val = true →
      Completes (.testPulse o true) s fun h => memb o.val h.stp.pulsing = true ∧ h.outActive o.val = false) := by
  refine ⟨completes_of_run (e := fun h => h.withOuts fun h => h.updStp fun p => { p with pulsing := without o.val p.pulsing }) rfl ?_,
    fun pulse active => ?_⟩
  · obtain ⟨l, b, e⟩ := Hw.driveOuts_eq (cleared s.hw) ((cleared s.hw).updStp fun p => { p with pulsing := without o.val p.pulsing })
    rw [Hw.withOuts, e]
    exact memb_without _ _
  · have may : (cleared s.hw).f (STP_OUT_CFG o.val) STP_OUT_CFG.pulse_us ≠ 0 ∧ (cleared s.hw).outActive o.val = true := ⟨pulse, active⟩
    have driven : exec (.testPulse o true) s = run s fun h => h.withOuts fun h => h.updStp fun p => { p with pulsing := p.pulsing ++ [o.val] } := by
      change execTestPulse o true s = _
      exact run_congr (by rw [if_pos rfl, if_pos may])
    refine completes_of_run driven ?_
    obtain ⟨l, b, e⟩ := Hw.driveOuts_eq (cleared s.hw) ((cleared s.hw).updStp fun p => { p with pulsing := p.pulsing ++ [o.val] })
    rw [Hw.withOuts, e]
    have pulsing : memb o.val (s.hw.stp.pulsing ++ [o.val]) = true := (memb_iff _ _).mpr (by simp)
    exact ⟨pulsing, Hw.outActive_of_pulsing pulsing⟩

/-- Settles O29: each command of marks, stop frames, runs, relays, holds and outputs completes as its own theorem says. -/
theorem stopFrameCommandsComplete : Obligations.StopFrameCommandsComplete :=
  ⟨permitMark_completes, permitMark_kicks, stopRepeat_completes, stopRun_claim_completes, stopRun_relay_completes, stopRun_target_completes,
    relayTimeout_completes, stopHoldExpiry_completes, outputDelayExpiry_completes, testPulse_completes⟩

end Sys2Proof.Machine
end

section
/-! SUPPORT. What runs beside the stop sequencer: packets, axes that stop, tokens revoked and mirror records leave the sequencer's own record, the
stop frames that wait, SP and its lanes, and the registers of the radio, the sequencer and the pair (R194, R197, R220, R265, R271). -/

namespace Sys2Proof.Machine

open Reg Sys2Proof.Safety

/-! ### What is kept -/

/-- `g` has site time, the keys, the stop frames that wait, the cores that are halted and the health manager's record of `h`, and
its registers of the radio, the sequencer and the pair but for those in `ks`. -/
structure AroundKept (ks : List Nat) (h g : Hw) : Prop where
  cal : g.cal = h.cal
  ports : g.ports = h.ports
  toStp : g.rad.toStp = h.rad.toStp
  halted : ∀ n, (g.cores.at n).halted = (h.cores.at n).halted
  hlt : g.hlt = h.hlt
  regs : ∀ k, fleetReg k → k ∉ ks → g.reg k = h.reg k

/-- The same, and the sequencer's own record. -/
structure BesideKept (ks : List Nat) (h g : Hw) : Prop extends AroundKept ks h g where
  stp : g.stp = h.stp

section
variable {ks : List Nat} {a b c h g : Hw}

theorem AroundKept.of_parts (cal : g.cal = h.cal) (ports : g.ports = h.ports) (rad : g.rad = h.rad) (cores : g.cores = h.cores) (hlt : g.hlt = h.hlt)
    (regs : ∀ k, fleetReg k → k ∉ ks → g.reg k = h.reg k) : AroundKept ks h g :=
  ⟨cal, ports, congrArg RadSt.toStp rad, fun n => by rw [cores], hlt, regs⟩

theorem AroundKept.refl (h : Hw) : AroundKept ks h h := ⟨rfl, rfl, rfl, fun _ => rfl, rfl, fun _ _ _ => rfl⟩

theorem AroundKept.trans (p : AroundKept ks a b) (q : AroundKept ks b c) : AroundKept ks a c :=
  ⟨q.cal.trans p.cal, q.ports.trans p.ports, q.toStp.trans p.toStp, fun n => (q.halted n).trans (p.halted n), q.hlt.trans p.hlt,
    fun k hk out => (q.regs k hk out).trans (p.regs k hk out)⟩

/-- What leaves all registers but some leaves all but more. -/
theorem AroundKept.mono {ms : List Nat} (p : AroundKept ms h g) (sub : ms ⊆ ks) : AroundKept ks h g :=
  { p with regs := fun k hk out => p.regs k hk fun mem => out (sub mem) }

theorem BesideKept.refl (h : Hw) : BesideKept ks h h := ⟨.refl h, rfl⟩

theorem BesideKept.trans (p : BesideKept ks a b) (q : BesideKept ks b c) : BesideKept ks a c :=
  ⟨p.toAroundKept.trans q.toAroundKept, q.stp.trans p.stp⟩

theorem BesideKept.mono {ms : List Nat} (p : BesideKept ms h g) (sub : ms ⊆ ks) : BesideKept ks h g := ⟨p.toAroundKept.mono sub, p.stp⟩

theorem BesideKept.ite {p : Prop} [Decidable p] (yes : BesideKept ks a b) (no : BesideKept ks a c) : BesideKept ks a (if p then b else c) := by
  split
  · exact yes
  · exact no

theorem BesideKept.foldl {β : Type} (f : Hw → β → Hw) (l : List β) (hf : ∀ h, ∀ b ∈ l, BesideKept ks h (f h b)) (h : Hw) :
    BesideKept ks h (l.foldl f h) := by
  induction l generalizing h with
  | nil => exact .refl h
  | cons b l ih => exact (hf h b List.mem_cons_self).trans (ih (fun h c hc => hf h c (List.mem_cons_of_mem b hc)) (f h b))

theorem AroundKept.f_eq (kept : AroundKept ks h g) {k : Nat} (hk : fleetReg k) (out : k ∉ ks) (l : Fld) : g.f k l = h.f k l := by
  rw [Hw.f, kept.regs k hk out, Hw.f]

theorem AroundKept.flag_eq (kept : AroundKept ks h g) {k : Nat} (hk : fleetReg k) (out : k ∉ ks) (l : Fld) : g.flag k l = h.flag k l := by
  rw [Hw.flag, kept.f_eq hk out, Hw.flag]

theorem AroundKept.now_eq (kept : AroundKept ks h g) : g.now = h.now := by rw [Hw.now, kept.cal, Hw.now]

end

/-! ### Plain changes -/

section
variable {ks : List Nat} (h : Hw)

theorem BesideKept.of_parts {g : Hw} (cal : g.cal = h.cal) (ports : g.ports = h.ports) (rad : g.rad = h.rad) (cores : g.cores = h.cores)
    (hlt : g.hlt = h.hlt) (stp : g.stp = h.stp) (regs : ∀ k, fleetReg k → k ∉ ks → g.reg k = h.reg k) : BesideKept ks h g :=
  ⟨.of_parts cal ports rad cores hlt regs, stp⟩

theorem BesideKept.setReg {k : Nat} (w : Word) (hk : fleetReg k → k ∈ ks := by decide) : BesideKept ks h (h.setReg k w) :=
  .of_parts h rfl rfl rfl rfl rfl rfl fun _ hj out => Hw.reg_setReg_other _ _ _ _ fun e => out (e ▸ hk (e ▸ hj))

theorem BesideKept.setF {k : Nat} (f : Fld) (v : Nat) (hk : fleetReg k → k ∈ ks := by decide) : BesideKept ks h (h.setF k f v) := .setReg h _ hk

theorem BesideKept.setFlag {k : Nat} (f : Fld) (b : Bool) (hk : fleetReg k → k ∈ ks := by decide) : BesideKept ks h (h.setFlag k f b) := .setReg h _ hk

theorem BesideKept.bump {k : Nat} (c s : Fld) (hk : fleetReg k → k ∈ ks := by decide) : BesideKept ks h (h.bump k c s) :=
  .ite (.setFlag h s true hk) (.setF h c _ hk)

theorem BesideKept.bumpBy {k : Nat} (c s : Fld) (n : Nat) (hk : fleetReg k → k ∈ ks) : BesideKept ks h (h.bumpBy k c s n) := by
  induction n generalizing h with
  | zero => exact .refl h
  | succ n ih => exact (BesideKept.bump h c s hk).trans (ih _)

theorem BesideKept.event (src code : Nat) (x y z : Word) : BesideKept ks h (h.event src code x y z) :=
  .of_parts h (Hw.event_cal _ _ _ _ _ _) (Hw.event_ports _ _ _ _ _ _) (Hw.event_rad _ _ _ _ _ _) (Hw.event_cores _ _ _ _ _ _)
    (Hw.event_hlt _ _ _ _ _ _) (Hw.event_stp _ _ _ _ _ _) fun _ hk _ => Hw.event_reg _ _ _ _ _ _ _ hk.not_log

theorem BesideKept.raise {k : Nat} (f : Fld) (i : Nat) (hk : fleetReg k → k ∈ ks := by decide) : BesideKept ks h (h.raise k f i) :=
  .of_parts h (Hw.raise_cal _ _ _ _) (Hw.raise_ports _ _ _ _) (Hw.raise_rad _ _ _ _) (Hw.raise_cores _ _ _ _) (Hw.raise_hlt _ _ _ _)
    (Hw.raise_stp _ _ _ _) fun _ hj out => Hw.raise_reg _ _ _ _ _ (fun e => out (e ▸ hk (e ▸ hj))) hj.not_log

theorem BesideKept.mirror (i : MirrorItem) : BesideKept ks h (h.mirror i) := by
  unfold Hw.mirror
  split
  · exact .of_parts h rfl rfl rfl rfl rfl rfl fun _ _ _ => rfl
  · exact .refl h

/-- A change of none of the parts that are kept. -/
theorem BesideKept.of_engines {g : Hw} (regs : g.regs = h.regs := by rfl) (cal : g.cal = h.cal := by rfl) (ports : g.ports = h.ports := by rfl)
    (rad : g.rad = h.rad := by rfl) (cores : g.cores = h.cores := by rfl) (hlt : g.hlt = h.hlt := by rfl) (stp : g.stp = h.stp := by rfl) :
    BesideKept ks h g :=
  .of_parts h cal ports rad cores hlt stp fun k _ _ => by rw [Hw.reg, regs, Hw.reg]

theorem BesideKept.updLane (n : Nat) (u : LaneSt → LaneSt) : BesideKept ks h (h.updLane n u) :=
  ⟨⟨rfl, rfl, rfl, fun _ => rfl, rfl, fun _ _ _ => rfl⟩, rfl⟩

theorem BesideKept.abortLane (n : Nat) : BesideKept ks h (h.abortLane n) := (BesideKept.of_engines h).trans (.updLane _ n _)

end

/-! ### The axes stop (R220) -/

section
variable {ks : List Nat} (h : Hw)

theorem BesideKept.updAxis (n : Nat) (u : AxisSt → AxisSt) : BesideKept ks h (h.updAxis n u) := .of_engines h

theorem BesideKept.setGrp {g : Nat} (hg : g < 4) (st : Nat) : BesideKept ks h (h.setGrp g st) :=
  .setF h _ _ fun fleet => absurd fleet (by simp only [fleetReg, AXL_GRP_STAT]; omega)

theorem BesideKept.freeMembers (n : Nat) (st : AxState) : BesideKept ks h (h.freeMembers n st) :=
  .foldl _ _ (fun h _ _ => .ite (.trans (.updAxis h _ _) (.mirror _ _)) (.refl h)) h

theorem BesideKept.groupStop {n : Nat} (hn : n < 4) (stop : Bool) (dec jerk : Nat → Nat) : BesideKept ks h (h.groupStop n stop dec jerk) := by
  unfold Hw.groupStop
  dsimp only
  refine .ite (.trans (.freeMembers h n _) (.setGrp _ hn _)) (.ite ?moving (.refl h))
  exact .trans (.trans (b := h.updGroup n _) (.of_engines h) (.foldl _ _ (fun h _ _ => .ite (.updAxis h _ _) (.refl h)) _)) (.setGrp _ hn _)

theorem BesideKept.stopAxis (n : Nat) : BesideKept ks h (h.stopAxis n) := .ite (.refl h) (.trans (.updAxis h n _) (.mirror _ _))

theorem BesideKept.axResult (n r : Nat) : BesideKept ks h (h.axResult n r) :=
  .ite (.updAxis h n _) (.trans (.updAxis h n _) (.bump _ _ _ fun fleet => absurd fleet (by decide)))

theorem BesideKept.axlStop : BesideKept ks h h.axlStop := by
  unfold Hw.axlStop
  dsimp only
  refine .trans (.trans (.trans (b := { h with axl := { h.axl with stop := true, stopDone := false } }) (.of_engines h)
    (.foldl _ _ (fun h n _ => ?_) _)) (.foldl _ _ (fun h n hn => .groupStop h (List.mem_range.mp hn) _ _ _) _))
    (.foldl _ _ (fun h n _ => .ite (.refl h) (.stopAxis h n)) _)
  split
  · exact .trans (.updAxis h n _) (.axResult _ _ _)
  · exact .refl h

end

/-! ### Packets to the cores (R98) -/

section
variable {ks : List Nat} (h : Hw)

theorem Hw.toCore_halted (n line level m : Nat) : ((h.toCore n line level).cores.at m).halted = (h.cores.at m).halted := by
  obtain ⟨r, e⟩ := h.ungate_eq n
  have upd (u : CoreSt → CoreSt) (kept : ∀ c, (u c).halted = c.halted) : ((h.cores.upd n u).at m).halted = (h.cores.at m).halted := by
    by_cases e : m = n
    · rw [e, Map.at_upd_same, kept]
    · rw [Map.at_upd_other _ _ _ _ e]
  unfold Hw.toCore
  rw [e]
  dsimp only
  split
  · exact upd (fun c => { c with taken := (line, level) :: c.taken, idle := false }) fun _ => rfl
  · exact upd (fun c => { c with waiting := c.waiting ++ if memb line c.waiting then [] else [line] }) fun _ => rfl

theorem Hw.deviceLine_halted (line m : Nat) : ((h.deviceLine line).cores.at m).halted = (h.cores.at m).halted := by
  have vectors : (h.hostVectors line).cores = h.cores := by
    obtain ⟨out, e⟩ := OutputOnly.hostVectors h line
    rw [e]
  unfold Hw.deviceLine
  extract_lets k g level sent cs
  have toSp : (sent.cores.at m).halted = (h.cores.at m).halted := by
    unfold sent
    split
    · rw [Hw.toCore_halted, vectors]
    · rw [vectors]
  clear_value cs
  split
  · rw [vectors]
  · split
    · exact (sent.toCore_halted _ _ _ _).trans toSp
    · split
      · exact (sent.toCore_halted _ _ _ _).trans toSp
      · split <;> exact toSp

theorem Hw.offer_cores (n slot : Nat) : (h.offer n slot).cores = h.cores := by
  have ungated (g : Hw) : (g.ungate n).cores = g.cores := by
    obtain ⟨r, e⟩ := g.ungate_eq n
    rw [e]
  unfold Hw.offer
  extract_lets o g u
  refine (ungated _).trans ?_
  unfold u g o
  split <;> rfl

theorem Hw.token_cores (handle : Nat) (err : Bool) : (h.token handle err).cores = h.cores := by
  have placed (g : Hw) (slot : Nat) : (g.placeReady slot).cores = g.cores := by
    unfold Hw.placeReady
    dsimp only
    split
    · exact Hw.offer_cores g _ _
    · split
      · rfl
      · split
        · exact Hw.offer_cores g _ _
        · rfl
  unfold Hw.token
  split
  · exact Hw.bump_cores _ _ _ _
  · split
    · exact Hw.bump_cores _ _ _ _
    · dsimp only
      split
      · exact placed _ _
      · rfl

theorem Hw.notice_cores (k : Nat) : (h.notice k).cores = h.cores := by
  unfold Hw.notice
  dsimp only
  split
  · exact h.token_cores _ _
  · rfl

theorem BesideKept.fifoNotice {f : Nat} (hf : f < 64) : BesideKept ks h (h.fifoNotice f) where
  cal := by rw [Hw.fifoNotice, Hw.notice_cal, Hw.deviceLine_cal]
  ports := by rw [Hw.fifoNotice, Hw.notice_ports, Hw.deviceLine_ports]
  toStp := by rw [(FleetKept.fifoNotice h hf).rad]
  halted n := by rw [Hw.fifoNotice, Hw.notice_cores, Hw.deviceLine_halted]
  hlt := by rw [Hw.fifoNotice, Hw.notice_hlt, Hw.deviceLine_hlt]
  stp := by rw [Hw.fifoNotice, Hw.notice_stp, Hw.deviceLine_stp]
  regs k hk _ := (FleetKept.fifoNotice h hf).regs k hk

theorem BesideKept.hwSendFree {f : Nat} (hf : f < 64) (prod : Nat) (bs : List Byte) : BesideKept ks h (h.hwSendFree prod f bs).1 := by
  refine .trans (b := h.useFree 1) (.of_engines h) ?_
  unfold Hw.hwSendFree Hw.hwSend
  split
  · exact .refl _
  · split
    · exact .trans (b := (h.useFree 1).setFifo f _) (.of_engines _) (.fifoNotice _ hf)
    · exact .of_engines _

end

/-! ### Tokens (R180, R187–R190, R194, R196) -/

/-- Where the gates of the lanes count what they drop. -/
def laneDrops : List Nat := (List.range 8).map RAD_LANE_DROP

section
variable {ks : List Nat} (h : Hw)

theorem BesideKept.rsvEvent (ev robot seg token : Nat) : BesideKept ks h (h.rsvEvent ev robot seg token) := by
  have counted : BesideKept ks h { h with alm := h.alm.advance rsvSource } := .of_engines h
  unfold Hw.rsvEvent
  dsimp only
  split
  · have sent := BesideKept.hwSendFree (ks := ks) { h with alm := h.alm.advance rsvSource } (f := h.f RSV_EVT_CFG RSV_EVT_CFG.fifo)
      (Fld.get_lt _ _) prodRsv
    exact counted.trans (.ite (.trans (sent _) (.bump _ _ _ fun fleet => absurd fleet (by decide))) (sent _))
  · exact counted

theorem BesideKept.gateLane (t : Nat) {n : Nat} (hn : n < 8) : BesideKept laneDrops h (Hw.gateLane t h n) := by
  have drop : fleetReg (RAD_LANE_DROP n) → RAD_LANE_DROP n ∈ laneDrops := fun _ => List.mem_map.mpr ⟨n, List.mem_range.mpr hn, rfl⟩
  unfold Hw.gateLane
  extract_lets l gone counted kept
  have dropped : BesideKept laneDrops h kept := (BesideKept.bumpBy h _ _ _ drop).trans (.ite (.refl counted) (.updLane _ _ _))
  split
  · exact dropped.trans (.ite (.trans (.abortLane kept n) (.bump _ _ _ drop)) (.refl kept))
  · exact dropped

theorem BesideKept.clearValid (t : Nat) : BesideKept laneDrops h (h.clearValid t) :=
  .trans (b := h.updRsv _) (.of_engines h) (.ite (.refl _) (.foldl _ _ (fun h _ hn => .gateLane h t (List.mem_range.mp hn)) _))

theorem BesideKept.mirrorRsv (c : RsvChange) : BesideKept ks h (h.mirrorRsv c) := .mirror h _

theorem BesideKept.revokeToken (t : Nat) (hold : Bool) (now : Nat) : BesideKept laneDrops h (h.revokeToken t hold now) := by
  unfold Hw.revokeToken
  split
  · extract_lets k before invalid held freed
    have gone : BesideKept laneDrops h held := (BesideKept.clearValid h t).trans (.ite (c := invalid.updRsv _) (.of_engines _) (.of_engines _))
    have told : BesideKept laneDrops held freed := .trans (b := (held.freeTok t).rsvEvent _ _ _ _)
      (.trans (b := held.freeTok t) (.of_engines _) (.rsvEvent _ _ _ _ _)) (.mirrorRsv _ _)
    exact (gone.trans told).trans (.foldl _ _ (fun h _ _ => .rsvEvent h _ _ _ _) _)
  · exact .refl h

theorem BesideKept.setBar (robot : Nat) (on : Bool) : BesideKept ks h (h.setBar robot on) :=
  .trans (b := h.updRsv _) (.of_engines h) (.mirrorRsv _ _)

theorem BesideKept.rsvStop (robots : List Nat) : BesideKept laneDrops h (h.rsvStop robots) :=
  .trans (.foldl _ _ (fun h r _ => .trans (.foldl _ _ (fun h t _ => .revokeToken h t _ _) h) (.setBar _ r true)) h)
    (.raise _ _ _ fun fleet => absurd fleet (by decide))

theorem BesideKept.makeValid (t : Nat) : BesideKept ks h (h.makeValid t) :=
  .ite (.trans (.trans (b := h.updRsv _) (.of_engines h) (.rsvEvent _ _ _ _ _)) (.mirrorRsv _ _)) (.refl h)

theorem BesideKept.ackTokens (seq : Nat) : BesideKept ks h (h.ackTokens seq) := .foldl _ _ (fun h _ _ => .makeValid h _) h

theorem BesideKept.dropToken (t : Nat) : BesideKept laneDrops h (h.dropToken t) :=
  .ite (.trans (.clearValid h t) (.of_engines _)) (.refl h)

theorem BesideKept.expire (now : Nat) : BesideKept laneDrops h (h.expire now) :=
  .trans (b := h.updRsv _) (.of_engines h)
    (.foldl _ _ (fun h t _ => .trans (.trans (b := (h.clearValid t).freeTok t) (.trans (.clearValid h t) (.of_engines _)) (.rsvEvent _ _ _ _ _)) (.refl _)) _)

theorem BesideKept.clearHolds (robot : Nat) : BesideKept ks h (h.clearHolds robot) :=
  .trans (.trans (b := h.updRsv _) (.of_engines h) (.foldl _ _ (fun h _ _ => .rsvEvent h _ _ _ _) _)) (.mirrorRsv _ _)

theorem BesideKept.placeEdit (n : Nat) (body : List Byte) : BesideKept ks h (h.placeEdit n body) := by
  have left (l : List Nat) : BesideKept ks h (l.foldl (fun h s => h.leaveSet n s) h) := .foldl _ l (fun h _ _ => .of_engines h) h
  exact (left _).trans (.of_engines _)

theorem BesideKept.loadGraph (version count : Nat) (segs : List (Nat × List Byte)) : BesideKept ks h (h.loadGraph version count segs) :=
  .trans (b := h.updRsv _) (.of_engines h) (.setReg _ _ fun fleet => absurd fleet (by decide))

/-- A change of reservations that the primary mirrors, applied on the standby. -/
theorem BesideKept.applyRsv (c : RsvChange) : BesideKept laneDrops h (h.applyRsv c) := by
  cases c with
  | commit robot t old ws => exact .trans (.ite (.refl h) (.dropToken h old)) (.trans (.of_engines _) (.of_engines _))
  | valid t => exact .makeValid h t
  | drop t => exact .dropToken h t
  | release robot keys now => exact .of_engines h
  | expire now => exact .expire h now
  | revoke t hold now => exact .revokeToken h t hold now
  | clearHolds robot => exact .clearHolds h robot
  | bar robot on => exact .setBar h robot on
  | edit n body => exact .placeEdit h n body
  | graph v count segs => exact .loadGraph h v count segs
  | poison cal now => exact .of_engines h
  | unpoison cal => exact .of_engines h
  | closeSeg n => exact .of_engines h

end

end Sys2Proof.Machine
end

section
/-! SUPPORT. What a fleet stop, a targeted stop and a release make of the sequencer, and what they leave beside it (R265–R267, R269, R271, R273). -/

namespace Sys2Proof.Machine

open Reg Sys2Proof.Safety

/-! ### The frames of a stop (R265, R267) -/

/-- The registers that the sequencer's own frames change: the flood identifiers and the lanes' counters. -/
def talkRegs : List Nat := [STP_FLOOD_ID, RAD_FLOOD_STAT, STP_IRQ_STAT] ++ (List.range 8).map STP_LANE_CTR

theorem laneCtr_mem_talkRegs {n : Nat} (hn : n < 8) : STP_LANE_CTR n ∈ talkRegs :=
  List.mem_append_right _ (List.mem_map.mpr ⟨n, List.mem_range.mpr hn, rfl⟩)

section
variable (h : Hw)

theorem BesideKept.advanceStopCtr {n : Nat} (hn : n < 8) : BesideKept talkRegs h (h.advanceStopCtr n) :=
  .trans (b := h.setReg _ _) (.setReg h _ fun _ => laneCtr_mem_talkRegs hn) (.ite (.raise _ _ _) (.refl _))

theorem BesideKept.stpSend {n : Nat} (hn : n < 8) (ft robot : Nat) (permit : Option Nat) (flood : Option (Nat × Nat × Nat)) (payload : List Byte) :
    BesideKept talkRegs h (h.stpSend n ft robot permit flood payload) := by
  obtain e | ⟨u, psdu, e⟩ := h.stpSend_cases n ft robot permit flood payload
  · rw [e]
    exact .refl h
  · rw [e]
    exact .trans (.trans (.advanceStopCtr h hn) (.updLane _ n u)) (.of_engines _)

theorem BesideKept.enterSeen (origin id : Nat) : BesideKept talkRegs h (h.enterSeen origin id) := by
  have added (g : Hw) (l : List (Nat × Nat × Nat)) : BesideKept talkRegs g (g.updRad fun r => { r with seen := l }) :=
    ⟨⟨rfl, rfl, rfl, fun _ => rfl, rfl, fun _ _ _ => rfl⟩, rfl⟩
  exact .ite (added h _) (.ite (added h _) (.trans (.bump h _ _) (added _ _)))

theorem BesideKept.sendFleet : BesideKept talkRegs h h.sendFleet := by
  have flood : BesideKept talkRegs h h.takeFlood.2 := .trans (.setF h _ _) (.enterSeen _ _ _)
  refine .ite (.refl h) (flood.trans (.foldl _ _ (fun g n hn => ?_) _))
  exact .stpSend g (List.mem_range.mp (List.mem_filter.mp hn).1) _ _ _ _ _

/-- A unit that may not transmit sends no stop frames. -/
theorem Hw.sendFleet_silent (silent : h.sends = false) : h.sendFleet = h := if_pos (.inr (by rw [silent]; exact Bool.false_ne_true))

theorem BesideKept.shutLane {ks : List Nat} (n : Nat) : BesideKept ks h (h.shutLane n) := by
  unfold Hw.shutLane
  split
  · exact .updLane h n _
  · dsimp only
    exact .trans (.ite (.abortLane h n) (.refl h)) (.updLane _ n _)

theorem BesideKept.openIdleGates {ks : List Nat} : BesideKept ks h h.openIdleGates := by
  refine .foldl _ _ (fun h n _ => ?_) h
  split
  · exact .refl h
  · exact .updLane h n _

end

/-! ### The sequencer's own registers and record -/

/-- The registers in which a stop event is written (R266, R267). -/
def eventRegs : List Nat := [STP_STAT, STP_SRC_STAT, STP_EVT]

section
variable {ks : List Nat} (h : Hw)

theorem AroundKept.updStp (u : StpSt → StpSt) : AroundKept ks h (h.updStp u) := ⟨rfl, rfl, rfl, fun _ => rfl, rfl, fun _ _ _ => rfl⟩

theorem Hw.withOuts_reg (u : Hw → Hw) (k : Nat) : (h.withOuts u).reg k = (u h).reg k := by
  obtain ⟨l, b, e⟩ := Hw.driveOuts_eq h (u h)
  rw [Hw.withOuts, e, Hw.reg, Hw.reg]

theorem Hw.withOuts_stp (u : Hw → Hw) : ∃ l, (h.withOuts u).stp = { (u h).stp with rbBad := l } := by
  obtain ⟨l, b, e⟩ := Hw.driveOuts_eq h (u h)
  exact ⟨l, by rw [Hw.withOuts, e]⟩

theorem AroundKept.withOuts {u : Hw → Hw} (kept : AroundKept ks h (u h)) : AroundKept ks h (h.withOuts u) := by
  obtain ⟨l, b, e⟩ := Hw.driveOuts_eq h (u h)
  rw [Hw.withOuts, e]
  exact kept.trans ⟨rfl, rfl, rfl, fun _ => rfl, rfl, fun _ _ _ => rfl⟩

theorem BesideKept.told (kind src : Nat) : BesideKept ks h (h.stpRecord kind src).mirrorStop := (BesideKept.event h _ _ _ _ _).trans (.mirror _ _)

theorem AroundKept.stopEvent : AroundKept eventRegs h h.stopEvent := by
  unfold Hw.stopEvent
  extract_lets g
  have written : BesideKept eventRegs h (g.setReg STP_EVT (BitVec.ofNat 32 g.nowMs)) := .trans (.setF (k := STP_STAT) h _ _) (.setReg (k := STP_EVT) g _)
  exact written.toAroundKept.trans (.updStp _ _)

/-- A stop event numbers itself and keeps the state, the reason and the hold (R267). -/
theorem Hw.stopEvent_stat : h.stopEvent.reg STP_STAT = STP_STAT.stop_id.set (h.reg STP_STAT) (h.f STP_STAT STP_STAT.stop_id + 1) := by
  rw [Hw.stopEvent, Hw.updStp_reg, Hw.reg_setReg_other _ _ _ _ (by decide), Hw.reg_setF_same]

theorem Hw.stopEvent_latched : h.stopEvent.reg STP_SRC_STAT = h.reg STP_SRC_STAT := by
  rw [Hw.stopEvent, Hw.updStp_reg, Hw.reg_setReg_other _ _ _ _ (by decide), Hw.reg_setF_other _ _ _ _ _ (by decide)]

end

theorem bit_or_two_pow (v : Nat) {i w : Nat} (hi : i < w) : bit ((v ||| 2 ^ i) % 2 ^ w) i = true := by
  rw [bit, Nat.testBit_mod_two_pow, Nat.testBit_or, Nat.testBit_two_pow_self, decide_eq_true hi, Bool.or_true, Bool.and_true]

/-! ### A fleet stop (R265, R266, R271) -/

/-- The registers that what follows a fleet stop changes: its frames change more where the unit may transmit. -/
def spreadRegs (talks : Bool) : List Nat := laneDrops ++ if talks then talkRegs else []

/-- The registers that a fleet stop changes. -/
def stopRegs (talks : Bool) : List Nat := eventRegs ++ STP_IRQ_STAT :: spreadRegs talks

/-- `g` is `h` after a fleet stop of a source. -/
structure StopTaken (src : Nat) (h g : Hw) : Prop extends AroundKept (stopRegs h.sends) h g where
  pins : g.stp.pins = h.stp.pins
  sp : g.stp.sp = h.stp.sp
  spBad : g.stp.spBad = h.stp.spBad
  reason : g.f STP_STAT STP_STAT.reason = src % 16
  id : g.f STP_STAT STP_STAT.stop_id = (h.f STP_STAT STP_STAT.stop_id + 1) % 65536
  latched : g.f STP_SRC_STAT STP_SRC_STAT.latched = (h.f STP_SRC_STAT STP_SRC_STAT.latched ||| 2 ^ src) % 2 ^ 16
  unarmed : h.stpState = stpUnarmed → g.stpState = stpUnarmed
  armed : h.stpState ≠ stpUnarmed → g.stpState = stpStopped ∧ g.fleetHold = true ∧ g.stp.outsOn = false

section
variable (h : Hw) (src : Nat)

/-- A fleet stop's event, its reason and its source are kept (R266, R267). -/
def Hw.stopNoted (h : Hw) (src : Nat) : Hw :=
  let g := (h.stopEvent.setF STP_STAT STP_STAT.reason src).latchSource src
  g.updStp fun p => { p with fleet := (src, g.f STP_STAT STP_STAT.stop_id, (g.reg STP_EVT).toNat) }

/-- The gates close, the outputs go inactive, and the hold begins (R265, R272). -/
def Hw.stopEntered (h : Hw) : Hw :=
  (((List.range 8).foldl Hw.shutLane h).withOuts fun h => (h.setF STP_STAT STP_STAT.state stpStopped).updStp fun p =>
    { p with outsOn := false, pulsing := [], awaitMark := false, marked := false }).setFlag STP_STAT STP_STAT.hold true

/-- AXL and RSV are signalled, and the first stop frames go out (R265, R271). -/
def Hw.stopSpread (h : Hw) : Hw := (h.axlStop.rsvStop allRobots).sendFleet.openIdleGates

/-- The time of the first frames is kept, and an armed stop is raised. -/
def Hw.stopRaised (h : Hw) (was : Nat) : Hw :=
  let g := h.updStp fun p => { p with firstAt := some h.now }
  if was = stpRunning then g.raise STP_IRQ_STAT STP_IRQ_STAT.stop 0 else g.setIrq STP_IRQ_STAT STP_IRQ_STAT.stop

theorem Hw.fleetStop_eq : h.fleetStop src = if h.stpState = stpUnarmed then ((h.stopNoted src).stpRecord 1 src).mirrorStop
    else (((h.stopNoted src).stopEntered.stopSpread.stopRaised h.stpState).stpRecord 1 src).mirrorStop := rfl

theorem AroundKept.stopNoted : AroundKept eventRegs h (h.stopNoted src) := by
  unfold Hw.stopNoted
  extract_lets g
  have written : BesideKept eventRegs h.stopEvent g := .trans (.setF (k := STP_STAT) h.stopEvent _ _) (.setF (k := STP_SRC_STAT) _ _ _)
  exact ((AroundKept.stopEvent h).trans written.toAroundKept).trans (.updStp g _)

theorem Hw.stopNoted_stat : (h.stopNoted src).reg STP_STAT =
    STP_STAT.reason.set (STP_STAT.stop_id.set (h.reg STP_STAT) (h.f STP_STAT STP_STAT.stop_id + 1)) src := by
  rw [Hw.stopNoted, Hw.updStp_reg, Hw.latchSource, Hw.reg_setF_other _ _ _ _ _ (by decide), Hw.reg_setF_same, Hw.stopEvent_stat]

/-- The fields of STP_STAT beside the number and the reason stay. -/
theorem Hw.stopNoted_f (l : Fld) (reason : 30 ≤ l.lo ∨ l.lo + l.width ≤ 26) (id : 16 ≤ l.lo) :
    (h.stopNoted src).f STP_STAT l = h.f STP_STAT l := by
  rw [Hw.f, Hw.stopNoted_stat, Fld.get_set_other STP_STAT.reason _ _ _ (by decide) reason,
    Fld.get_set_other STP_STAT.stop_id _ _ _ (by decide) (.inl id), Hw.f]

theorem Hw.stopNoted_reason : (h.stopNoted src).f STP_STAT STP_STAT.reason = src % 16 := by
  rw [Hw.f, h.stopNoted_stat, Fld.get_set_same _ _ _ (by decide)]
  rfl

theorem Hw.stopNoted_id : (h.stopNoted src).f STP_STAT STP_STAT.stop_id = (h.f STP_STAT STP_STAT.stop_id + 1) % 65536 := by
  rw [Hw.f, h.stopNoted_stat, Fld.get_set_other _ _ _ _ (by decide) (by decide), Fld.get_set_same _ _ _ (by decide)]
  rfl

theorem Hw.stopNoted_latched :
    (h.stopNoted src).f STP_SRC_STAT STP_SRC_STAT.latched = (h.f STP_SRC_STAT STP_SRC_STAT.latched ||| 2 ^ src) % 2 ^ 16 := by
  have event : (h.stopEvent.setF STP_STAT STP_STAT.reason src).f STP_SRC_STAT STP_SRC_STAT.latched = h.f STP_SRC_STAT STP_SRC_STAT.latched := by
    rw [Hw.f_setF_other _ _ _ _ _ _ (by decide), Hw.f, Hw.stopEvent_latched, Hw.f]
  rw [Hw.stopNoted, Hw.updStp_f, Hw.latchSource, Hw.f_setF_same _ _ _ _ (by decide), event]
  rfl

/-- The signals and frames of a stop. -/
theorem BesideKept.stopSpread : BesideKept (spreadRegs h.sends) h h.stopSpread := by
  have signalled : BesideKept (spreadRegs h.sends) h (h.axlStop.rsvStop allRobots) :=
    (BesideKept.axlStop h).trans ((BesideKept.rsvStop _ _).mono (List.subset_append_left _ _))
  refine (signalled.trans ?_).trans (.openIdleGates _)
  have listen := signalled.flag_eq (k := RAD_CFG) (by decide) (by cases h.sends <;> decide) RAD_CFG.listen
  cases talks : h.sends with
  | true => exact (BesideKept.sendFleet _).mono (List.subset_append_right _ _)
  | false =>
    rw [Hw.sendFleet_silent _ ((congrArg (!·) listen).trans talks)]
    exact .refl _

theorem BesideKept.shutLanes {ks : List Nat} : BesideKept ks h ((List.range 8).foldl Hw.shutLane h) := .foldl _ _ (fun h n _ => .shutLane h n) h

theorem AroundKept.stopEntered : AroundKept [STP_STAT] h h.stopEntered := by
  have shut : AroundKept [STP_STAT] h ((List.range 8).foldl Hw.shutLane h) := (BesideKept.shutLanes h).toAroundKept
  refine (shut.trans (.withOuts _ ?_)).trans (BesideKept.setFlag _ _ _).toAroundKept
  exact (BesideKept.setF _ _ _).toAroundKept.trans (.updStp _ _)

theorem Hw.stopEntered_stat :
    h.stopEntered.reg STP_STAT = STP_STAT.hold.set (STP_STAT.state.set (h.reg STP_STAT) stpStopped) true.toNat := by
  have shut := (BesideKept.shutLanes (ks := []) h).regs STP_STAT (by decide) List.not_mem_nil
  rw [Hw.stopEntered, Hw.setFlag, Hw.reg_setF_same, Hw.withOuts_reg, Hw.updStp_reg, Hw.reg_setF_same, shut]

/-- The sequencer's record as a stop that enters into force leaves it. -/
theorem Hw.stopEntered_stp : ∃ l, h.stopEntered.stp =
    { h.stp with outsOn := false, pulsing := [], awaitMark := false, marked := false, rbBad := l } := by
  have shut := (BesideKept.shutLanes (ks := []) h).stp
  obtain ⟨l, e⟩ := Hw.withOuts_stp ((List.range 8).foldl Hw.shutLane h) fun h => (h.setF STP_STAT STP_STAT.state stpStopped).updStp fun p =>
    { p with outsOn := false, pulsing := [], awaitMark := false, marked := false }
  exact ⟨l, by rw [Hw.stopEntered, Hw.setFlag_stp, e, Hw.updStp_stp, Hw.setF_stp, shut]⟩

theorem AroundKept.stopRaised (was : Nat) : AroundKept [STP_IRQ_STAT] h (h.stopRaised was) :=
  (AroundKept.updStp h _).trans (BesideKept.ite (.raise _ _ _) (.setFlag _ _ _)).toAroundKept

theorem Hw.stopRaised_stp (was : Nat) : (h.stopRaised was).stp = { h.stp with firstAt := some h.now } := by
  unfold Hw.stopRaised
  dsimp only
  split
  · exact Hw.raise_stp _ _ _ _
  · rfl

/-- An unarmed sequencer notes a fleet stop. -/
theorem StopTaken.of_noted {g : Hw} (unarmed : h.stpState = stpUnarmed) (told : BesideKept [] (h.stopNoted src) g) : StopTaken src h g where
  toAroundKept := ((AroundKept.stopNoted h src).mono (List.subset_append_left _ _)).trans (told.toAroundKept.mono (List.nil_subset _))
  pins := by rw [told.stp]; rfl
  sp := by rw [told.stp]; rfl
  spBad := by rw [told.stp]; rfl
  reason := (told.f_eq (by decide) List.not_mem_nil _).trans (h.stopNoted_reason src)
  id := (told.f_eq (by decide) List.not_mem_nil _).trans (h.stopNoted_id src)
  latched := (told.f_eq (by decide) List.not_mem_nil _).trans (h.stopNoted_latched src)
  unarmed _ := by
    rw [Hw.stpState, told.f_eq (by decide) List.not_mem_nil, h.stopNoted_f src _ (by decide) (by decide)]
    exact unarmed
  armed was := absurd unarmed was

/-- An armed sequencer notes a fleet stop, which enters into force and is spread. -/
theorem StopTaken.of_entered {g : Hw} (armed : h.stpState ≠ stpUnarmed)
    (spread : AroundKept (STP_IRQ_STAT :: spreadRegs h.sends) (h.stopNoted src).stopEntered g)
    (record : ∃ first, g.stp = { (h.stopNoted src).stopEntered.stp with firstAt := first }) : StopTaken src h g := by
  have out (k : Nat) (own : k ∈ eventRegs) : k ∉ STP_IRQ_STAT :: spreadRegs h.sends := by
    revert k
    cases h.sends <;> decide
  have stat (l : Fld) : g.f STP_STAT l = l.get (STP_STAT.hold.set (STP_STAT.state.set ((h.stopNoted src).reg STP_STAT) stpStopped) true.toNat) := by
    rw [spread.f_eq (by decide) (out _ (by decide)), Hw.f, Hw.stopEntered_stat]
  have kept (l : Fld) (state : l.lo + l.width ≤ 30) (hold : 26 ≤ l.lo ∨ l.lo + l.width ≤ 25) : g.f STP_STAT l = (h.stopNoted src).f STP_STAT l := by
    rw [stat, Fld.get_set_other STP_STAT.hold _ _ _ (by decide) hold, Fld.get_set_other STP_STAT.state _ _ _ (by decide) (.inr state), Hw.f]
  obtain ⟨first, stp⟩ := record
  obtain ⟨bad, entered⟩ := (h.stopNoted src).stopEntered_stp
  rw [entered] at stp
  exact {
    toAroundKept := by
      refine (((AroundKept.stopNoted h src).mono (List.subset_append_left _ _)).trans ?_).trans (spread.mono (List.subset_append_right _ _))
      exact (AroundKept.stopEntered _).mono fun _ mem => List.mem_append_left _ (List.mem_singleton.mp mem ▸ List.mem_cons_self)
    pins := by rw [stp]; rfl
    sp := by rw [stp]; rfl
    spBad := by rw [stp]; rfl
    reason := (kept _ (by decide) (by decide)).trans (h.stopNoted_reason src)
    id := (kept _ (by decide) (by decide)).trans (h.stopNoted_id src)
    latched := by
      rw [spread.f_eq (by decide) (out _ (by decide)), (AroundKept.stopEntered _).f_eq (by decide) (by decide)]
      exact h.stopNoted_latched src
    unarmed := fun was => absurd was armed
    armed := fun _ => by
      refine ⟨?_, ?_, by rw [stp]⟩
      · rw [Hw.stpState, stat, Fld.get_set_other _ _ _ _ (by decide) (by decide), Fld.get_set_same _ _ _ (by decide)]
        rfl
      · rw [Hw.fleetHold, Hw.flag, stat, Fld.get_set_same _ _ _ (by decide)]
        rfl }

/-- A fleet stop of a source is taken. -/
theorem Hw.fleetStop_taken : StopTaken src h (h.fleetStop src) := by
  rw [Hw.fleetStop_eq]
  split
  · next unarmed => exact .of_noted h src unarmed (.told _ _ _)
  · next armed =>
    have noted := AroundKept.stopNoted h src
    have entered := noted.trans ((AroundKept.stopEntered (h.stopNoted src)).mono (by decide))
    have sends : (h.stopNoted src).stopEntered.sends = h.sends := congrArg (!·) (entered.flag_eq (k := RAD_CFG) (by decide) (by decide) _)
    have spread := BesideKept.stopSpread (h.stopNoted src).stopEntered
    rw [sends] at spread
    generalize (h.stopNoted src).stopEntered.stopSpread = g at *
    have raised := AroundKept.stopRaised g h.stpState
    have told := BesideKept.told (ks := [STP_IRQ_STAT]) (g.stopRaised h.stpState) 1 src
    have around := (raised.trans told.toAroundKept).mono (List.cons_subset_cons _ (List.nil_subset (spreadRegs h.sends)))
    refine .of_entered h src armed ((spread.toAroundKept.mono (List.subset_cons_self _ _)).trans around) ⟨some g.now, ?_⟩
    rw [told.stp, Hw.stopRaised_stp, spread.stp]

end

/-- A fleet stop as the statements speak of it. -/
theorem StopTaken.fleetStopped {src : Nat} {h g : Hw} (taken : StopTaken src h g) (hsrc : src < 16) : FleetStopped h g src :=
  ⟨taken.reason.trans (Nat.mod_eq_of_lt hsrc), taken.latched ▸ bit_or_two_pow _ hsrc, taken.unarmed, taken.armed⟩

/-- What keeps the state, the reason, the sources and the outputs keeps a fleet stop. -/
theorem fleetStopped_of_kept {old h g : Hw} {src : Nat} (stopped : FleetStopped old h src) (stat : g.reg STP_STAT = h.reg STP_STAT)
    (sources : g.reg STP_SRC_STAT = h.reg STP_SRC_STAT) (outs : g.stp.outsOn = h.stp.outsOn) : FleetStopped old g src := by
  have state : g.stpState = h.stpState := by rw [Hw.stpState, Hw.f, stat, Hw.stpState, Hw.f]
  have hold : g.fleetHold = h.fleetHold := by rw [Hw.fleetHold, Hw.flag, Hw.f, stat, Hw.fleetHold, Hw.flag, Hw.f]
  have reason : g.f STP_STAT STP_STAT.reason = h.f STP_STAT STP_STAT.reason := by rw [Hw.f, stat, Hw.f]
  have latched : g.f STP_SRC_STAT STP_SRC_STAT.latched = h.f STP_SRC_STAT STP_SRC_STAT.latched := by rw [Hw.f, sources, Hw.f]
  rw [FleetStopped, state, hold, outs, reason, latched]
  exact stopped

/-! ### A targeted stop and its release (R266, R269, R273) -/

/-- The registers that a targeted stop or a release of a robot changes beside the robot's bit. -/
def targetRegs : List Nat := eventRegs ++ STP_IRQ_STAT :: laneDrops

/-- The word of STP_TGT that holds a robot's bit. -/
def tgtReg (robot : Nat) : Nat := STP_TGT ((robot - 1) / 32)

theorem tgtReg_place {robot : Nat} (hr : robot ≤ 128) : fleetReg (tgtReg robot) ∧ tgtReg robot ∉ targetRegs ∧ tgtReg robot ≠ STP_STAT := by
  have words : ∀ q < 4, fleetReg (STP_TGT q) ∧ STP_TGT q ∉ targetRegs ∧ STP_TGT q ≠ STP_STAT := by decide
  exact words _ (by omega)

/-- A target put in its place is the one found for its robot. -/
theorem find_putTarget (t : Target) (l : List Target) : ((putTarget t l).find? fun u => decide (u.robot = t.robot)) = some t := by
  have here (us : List Target) : ((t :: us).find? fun u => decide (u.robot = t.robot)) = some t := List.find?_cons_of_pos (decide_eq_true rfl)
  induction l with
  | nil => exact here []
  | cons u us ih =>
    unfold putTarget
    split
    · exact here _
    · split
      · exact here us
      · next ne => exact (List.find?_cons_of_neg (by simpa using Ne.symm ne)).trans ih

section
variable (h : Hw)

theorem BesideKept.setTgt {ks : List Nat} (robot : Nat) (on : Bool) : BesideKept (tgtReg robot :: ks) h (h.setTgt robot on) :=
  .setF h _ _ fun _ => List.mem_cons_self

theorem Hw.setTgt_reg (robot : Nat) (on : Bool) {k : Nat} (ne : k ≠ tgtReg robot) : (h.setTgt robot on).reg k = h.reg k :=
  Hw.reg_setF_other _ _ _ _ _ ne

theorem Hw.f_setTgt (robot : Nat) (on : Bool) : (h.setTgt robot on).f (tgtReg robot) ⟨(robot - 1) % 32, 1⟩ = on.toNat := by
  have place : (robot - 1) % 32 < 32 := Nat.mod_lt _ (by decide)
  rw [Hw.setTgt, tgtReg, Hw.f_setF_same _ _ _ _ (by simp only; omega)]
  cases on <;> rfl

/-- `g` is `h` after a targeted stop of a robot. -/
structure TargetTaken (robot : Nat) (h g : Hw) : Prop extends AroundKept (tgtReg robot :: targetRegs) h g where
  target : (g.target robot).isSome = true
  state : g.stpState = h.stpState
  listed : g.f (tgtReg robot) ⟨(robot - 1) % 32, 1⟩ = 1

/-- What a stop of a robot is, with what is in force of it already (R266). -/
def Hw.newTarget (h : Hw) (src robot : Nat) : Target :=
  let old := (h.target robot).getD { (default : Target) with robot := robot }
  { robot := robot, sources := addCode src old.sources
    asserting := if 8 ≤ src ∧ src ≤ 10 then addCode src old.asserting else old.asserting
    hold := decide (h.stpState ≠ stpUnarmed), first := true, reason := src
    stopId := h.f STP_STAT STP_STAT.stop_id, tms := (h.reg STP_EVT).toNat }

/-- A robot's targeted stop takes its place. -/
def Hw.placeTarget (h : Hw) (t : Target) : Hw := (h.updStp fun p => { p with targets := putTarget t p.targets }).setTgt t.robot true

/-- A stop of a robot is noted. -/
def Hw.targetNoted (h : Hw) (src robot : Nat) : Hw :=
  (h.stopEvent.latchSource src).placeTarget ((h.stopEvent.latchSource src).newTarget src robot)

theorem Hw.targetStop_eq (src robot : Nat) : h.targetStop src robot =
    ((if (h.target robot).isNone then ((h.targetNoted src robot).rsvStop [robot]).raise STP_IRQ_STAT STP_IRQ_STAT.targeted robot
      else (h.targetNoted src robot).rsvStop [robot]).stpRecord 2 src).mirrorStop := rfl

theorem AroundKept.targetNoted (src robot : Nat) : AroundKept (tgtReg robot :: targetRegs) h (h.targetNoted src robot) := by
  have latched : AroundKept eventRegs h (h.stopEvent.latchSource src) :=
    (AroundKept.stopEvent h).trans (BesideKept.setF (k := STP_SRC_STAT) _ _ _).toAroundKept
  refine ((latched.mono ?_).trans (.updStp _ _)).trans (BesideKept.setTgt _ robot true).toAroundKept
  exact List.subset_cons_of_subset _ (List.subset_append_left _ _)

theorem Hw.placeTarget_reg (t : Target) {k : Nat} (ne : k ≠ tgtReg t.robot) : (h.placeTarget t).reg k = h.reg k := Hw.setTgt_reg _ _ _ ne

theorem Hw.target_placeTarget (t : Target) : (h.placeTarget t).target t.robot = some t := find_putTarget t h.stp.targets

/-- A targeted stop leaves the sequencer's state. -/
theorem Hw.targetNoted_state (src : Nat) {robot : Nat} (hr : robot ≤ 128) : (h.targetNoted src robot).stpState = h.stpState := by
  obtain ⟨-, -, apart⟩ := tgtReg_place hr
  have latched : (h.stopEvent.latchSource src).stpState = h.stpState := by
    rw [Hw.stpState, Hw.latchSource, Hw.f_setF_other _ _ _ _ _ _ (by decide), Hw.f, Hw.stopEvent_stat,
      Fld.get_set_other _ _ _ _ (by decide) (by decide), ← Hw.f, ← Hw.stpState]
  have placed := Hw.placeTarget_reg (h.stopEvent.latchSource src) ((h.stopEvent.latchSource src).newTarget src robot) (k := STP_STAT) apart.symm
  rw [Hw.stpState, Hw.f, Hw.targetNoted, placed, ← Hw.f, ← Hw.stpState, latched]

theorem Hw.targetStop_taken (src : Nat) {robot : Nat} (hr : robot ≤ 128) : TargetTaken robot h (h.targetStop src robot) := by
  obtain ⟨fleet, apart, -⟩ := tgtReg_place hr
  have noted := AroundKept.targetNoted h src robot
  have revoked := (BesideKept.rsvStop (h.targetNoted src robot) [robot]).mono (ks := STP_IRQ_STAT :: laneDrops) (List.subset_cons_self _ _)
  have told : BesideKept (STP_IRQ_STAT :: laneDrops) (h.targetNoted src robot) (h.targetStop src robot) := by
    rw [Hw.targetStop_eq]
    exact (revoked.trans (.ite (.raise _ _ _ fun _ => List.mem_cons_self) (.refl _))).trans (.told _ _ _)
  have out {k : Nat} (hk : k ∉ targetRegs) : k ∉ STP_IRQ_STAT :: laneDrops := fun mem => hk (List.mem_append_right _ mem)
  exact {
    toAroundKept := noted.trans (told.toAroundKept.mono (List.subset_cons_of_subset _ (List.subset_append_right _ _)))
    target := by
      rw [Hw.target, told.stp, ← Hw.target]
      exact congrArg Option.isSome (Hw.target_placeTarget _ (Hw.newTarget _ src robot))
    state := by
      rw [Hw.stpState, told.f_eq (by decide) (by decide), ← Hw.stpState]
      exact h.targetNoted_state src hr
    listed := (told.f_eq fleet (out apart) _).trans (Hw.f_setTgt _ robot true) }

end

end Sys2Proof.Machine
end

section
/-! PROOFS. Stop inputs, SP's stops, a stop frame of another base, readbacks, dry runs and a failed SP stop with their own sources (R260–R263, R265,
R266, R268, R270–R272, R274), and O27 is settled. -/

namespace Sys2Proof.Machine

open Reg Sys2Proof.Safety

/-! ### The stop inputs (R261) -/

@[simp] theorem Hw.pin_updPin (h : Hw) (i : StopInput) (u : StopPin → StopPin) : (h.updPin i u).stp.pins.at (pinNo i) = u (h.stp.pins.at (pinNo i)) :=
  Map.at_upd_same h.stp.pins (pinNo i) u

theorem stopPin_completes (s : State) (i : StopInput) (hi lo : Bool) : Completes (.stopPin i hi lo) s fun h =>
    (h.stp.pins.at (pinNo i)).hi = hi ∧ (h.stp.pins.at (pinNo i)).lo = lo ∧ (h.stp.pins.at (pinNo i)).since = s.hw.now ∧
      (h.stp.pins.at (pinNo i)).active = (s.hw.stp.pins.at (pinNo i)).active := by
  refine completes_of_run (e := fun h => h.updPin i fun p => { p with
    hi := hi, lo := lo, since := h.now, seenStop := p.seenStop || (!hi && lo), stopped := p.stopped && !(hi && !lo) }) rfl ?_
  rw [Hw.pin_updPin]
  exact ⟨rfl, rfl, rfl, rfl⟩

theorem discFld_place (i : StopInput) : (discFld i).lo + (discFld i).width ≤ 32 ∧ 0 < (discFld i).width := by
  cases i <;> decide

/-- An input whose source is enabled and that has not read run stops the fleet, once. -/
theorem Hw.pinStop_eq {h : Hw} {i : StopInput} (noRun : readsRun (h.stp.pins.at (pinNo i)) = false)
    (idle : (h.stp.pins.at (pinNo i)).active = false) (enabled : h.pinEnabled i = true) :
    h.pinStop i = (h.updPin i fun p => { p with active := true, stopped := true }).fleetStop (1 + pinNo i) := by
  simp only [Hw.pinStop, noRun, idle, enabled, Bool.false_eq_true, false_and, not_true_eq_false, or_self, if_false]

theorem stopPinFiltered_completes (s : State) (i : StopInput) (noRun : readsRun (s.hw.stp.pins.at (pinNo i)) = false)
    (idle : (s.hw.stp.pins.at (pinNo i)).active = false) (enabled : s.hw.pinEnabled i = true) :
    Completes (.stopPinFiltered i) s fun h =>
      (h.stp.pins.at (pinNo i)).active = true ∧ FleetStopped s.hw h (1 + pinNo i) ∧
      h.f STP_STAT STP_STAT.stop_id = (s.hw.f STP_STAT STP_STAT.stop_id + 1) % 65536 := by
  refine completes_of_run (e := fun h => h.pinStop i) rfl ?_
  have enabled' : (cleared s.hw).pinEnabled i = true := by
    cases i
    · rfl
    · exact enabled
  rw [Hw.pinStop_eq (h := cleared s.hw) noRun idle enabled']
  have taken := Hw.fleetStop_taken ((cleared s.hw).updPin i fun p => { p with active := true, stopped := true }) (1 + pinNo i)
  refine ⟨?_, taken.fleetStopped (by cases i <;> decide), taken.id⟩
  rw [taken.pins, Hw.pin_updPin]

theorem discrepancyLatch_completes (s : State) (i : StopInput) (differ : (s.hw.stp.pins.at (pinNo i)).hi = (s.hw.stp.pins.at (pinNo i)).lo)
    (fresh : s.hw.flag STP_PINS (discFld i) = false) :
    Completes (.discrepancyLatch i) s fun h =>
      h.flag STP_PINS (discFld i) = true ∧ h.f STP_ERR STP_ERR.disc = min STP_ERR.disc.max (s.hw.f STP_ERR STP_ERR.disc + 1) := by
  obtain ⟨fits, some⟩ := discFld_place i
  have may : ((cleared s.hw).stp.pins.at (pinNo i)).hi = ((cleared s.hw).stp.pins.at (pinNo i)).lo ∧ ¬(cleared s.hw).flag STP_PINS (discFld i) = true :=
    ⟨differ, by rw [Hw.flag, cleared_f, ← Hw.flag, fresh]; exact Bool.false_ne_true⟩
  have latched : (cleared s.hw).latchDisc i = _ := if_pos may
  refine completes_of_run (e := fun h => h.latchDisc i) rfl ?_
  rw [latched]
  constructor
  · rw [Hw.flag, Hw.raise_f _ _ _ _ _ _ (by decide) (by decide), Hw.f_bump_other _ _ _ _ _ _ (by decide), ← Hw.flag]
    exact Hw.flag_setFlag_same _ _ _ _ fits some
  · rw [Hw.raise_f _ _ _ _ _ _ (by decide) (by decide), Hw.f_bump _ _ _ _ (by decide) (by decide) (by decide),
      Hw.f_setFlag_other _ _ _ _ _ _ (by decide)]
    rfl

theorem pinRunConfirmed_completes (s : State) (i : StopInput) (running : readsRun (s.hw.stp.pins.at (pinNo i)) = true)
    (clean : s.hw.flag STP_PINS (discFld i) = false ∨ (s.hw.stp.pins.at (pinNo i)).seenStop = true) :
    Completes (.pinRunConfirmed i) s fun h => (h.stp.pins.at (pinNo i)).active = false ∧ h.flag STP_PINS (discFld i) = false := by
  obtain ⟨fits, some⟩ := discFld_place i
  have may : readsRun ((cleared s.hw).stp.pins.at (pinNo i)) = true ∧
      (¬(cleared s.hw).flag STP_PINS (discFld i) = true ∨ ((cleared s.hw).stp.pins.at (pinNo i)).seenStop = true) :=
    ⟨running, clean.imp_left fun off => ne_true_of_eq_false off⟩
  have confirmed : (cleared s.hw).pinRun i = _ := if_pos may
  refine completes_of_run (e := fun h => h.pinRun i) rfl ?_
  rw [confirmed]
  refine ⟨?_, Hw.flag_setFlag_same _ _ _ _ fits some⟩
  rw [Hw.setFlag_stp, Hw.pin_updPin]

/-! ### SP's decisions (R263) -/

theorem memb_addCode (c : Nat) (l : List Nat) : memb c (addCode c l) = true := by
  unfold addCode
  split
  · assumption
  · exact (memb_iff _ _).mpr (List.mem_append_right _ (List.mem_singleton_self c))

theorem spDecision_fleet_completes (s : State) (src : Fin 3) : Completes (.spDecision false src 0) s fun h =>
    FleetStopped s.hw h (8 + src.val) ∧ memb (8 + src.val) h.stp.sp = true := by
  refine completes_of_run (e := fun h => (h.updStp fun p => { p with sp := addCode (8 + src.val) p.sp }).fleetStop (8 + src.val)) rfl ?_
  have taken := Hw.fleetStop_taken ((cleared s.hw).updStp fun p => { p with sp := addCode (8 + src.val) p.sp }) (8 + src.val)
  exact ⟨taken.fleetStopped (by omega), taken.sp ▸ memb_addCode _ _⟩

theorem spDecision_robot_completes (s : State) (src : Fin 3) (r : Fin 129) (one : r.val ≠ 0) : Completes (.spDecision false src r) s fun h =>
    (h.target r.val).isSome = true ∧ h.stpState = s.hw.stpState ∧ h.f (STP_TGT ((r.val - 1) / 32)) ⟨(r.val - 1) % 32, 1⟩ = 1 := by
  have named : (cleared s.hw).spStop (8 + src.val) r.val = (cleared s.hw).targetStop (8 + src.val) r.val := if_neg one
  have taken := (cleared s.hw).targetStop_taken (8 + src.val) (Nat.le_of_lt_succ r.isLt)
  refine completes_of_run (e := fun h => h.spStop (8 + src.val) r.val) rfl ?_
  rw [named]
  exact ⟨taken.target, taken.state, taken.listed⟩

/-! ### A stop frame of another base (R260, R268) -/

theorem Hw.queueRelay_eq (h : Hw) (x : StopIn) (fleet : Bool) : ∃ l, h.queueRelay x fleet = h.updStp fun p => { p with relays := l } := by
  unfold Hw.queueRelay
  dsimp only
  split
  · exact ⟨h.stp.relays, rfl⟩
  · exact ⟨_, rfl⟩

/-- A sound fleet stop frame whose flood began at a base, where bases may stop the fleet, is relayed and taken. -/
theorem Hw.takeStopFrame_base {h : Hw} {x : StopIn} (kind : fieldAt x.payload 0 1 = 1) (length : x.payload.length = 8) (robot : x.robot = 0)
    (low : 0xFF00 ≤ x.flood.1) (high : x.flood.1 ≤ 0xFF1F) (enabled : h.flag STP_SRC_CFG STP_SRC_CFG.base_fleet = true) :
    h.takeStopFrame x = (h.queueRelay x true).fleetStop 6 := by
  have origin : h.stopOrigin x = (6, 0) := by simp only [Hw.stopOrigin, low, high, and_self, if_true]
  have allowed : h.frameAllowed 6 0 0 true = some true := congrArg some enabled
  have sound : ¬(¬(fieldAt x.payload 0 1 = 1 ∨ fieldAt x.payload 0 1 = 2) ∨ decide (fieldAt x.payload 0 1 = 1) ≠ decide (x.robot = 0) ∨
      x.robot > 128 ∨ x.payload.length ≠ 8) := by
    rw [kind, robot, length]
    decide
  have fleet : ¬(¬decide (fieldAt x.payload 0 1 = 1) = true ∧ 6 = 6 ∧ 0xFF00 ≤ x.flood.1 ∧ pairOf x.flood.1 ≠ pairOf (max 0xFF00 h.unitAddr)) :=
    fun both => both.1 (decide_eq_true kind)
  unfold Hw.takeStopFrame
  dsimp only
  rw [if_neg sound, origin]
  dsimp only
  rw [if_neg fleet, kind, robot, decide_eq_true rfl, allowed]
  rfl

theorem stopFrame_completes (s : State) (x : StopIn) (xs : List StopIn) (waits : s.hw.rad.toStp = x :: xs) (kind : fieldAt x.payload 0 1 = 1)
    (length : x.payload.length = 8) (robot : x.robot = 0) (low : 0xFF00 ≤ x.flood.1) (high : x.flood.1 ≤ 0xFF1F)
    (enabled : s.hw.flag STP_SRC_CFG STP_SRC_CFG.base_fleet = true) :
    Completes .stopFrame s fun h => h.rad.toStp = xs ∧ FleetStopped s.hw h 6 := by
  have head : exec .stopFrame s = run s fun h => (h.updRad fun r => { r with toStp := xs }).takeStopFrame x := by
    have waits' : (cleared s.hw).rad.toStp = x :: xs := waits
    change execStopFrame s = _
    refine run_congr ?_
    simp only [waits']
  refine completes_of_run head ?_
  obtain ⟨l, e⟩ := Hw.queueRelay_eq ((cleared s.hw).updRad fun r => { r with toStp := xs }) x true
  rw [Hw.takeStopFrame_base (h := (cleared s.hw).updRad fun r => { r with toStp := xs }) kind length robot low high enabled, e]
  have taken := Hw.fleetStop_taken (((cleared s.hw).updRad fun r => { r with toStp := xs }).updStp fun p => { p with relays := l }) 6
  exact ⟨taken.toStp, taken.fleetStopped (by decide)⟩

/-! ### Readbacks and dry runs (R272, R274) -/

theorem readbackMismatch_completes (s : State) (o : Fin 4) (steady : memb o.val s.hw.stp.pulsing = false) :
    Completes (.readbackMismatch o) s fun h =>
      FleetStopped s.hw h 10 ∧ h.f STP_ERR STP_ERR.readback = min STP_ERR.readback.max (s.hw.f STP_ERR STP_ERR.readback + 1) := by
  have outside : ¬memb o.val (cleared s.hw).stp.pulsing = true := ne_true_of_eq_false steady
  have differs : (cleared s.hw).readbackBad o.val = _ := if_neg outside
  refine completes_of_run (e := fun h => h.readbackBad o.val) rfl ?_
  rw [differs]
  dsimp only
  generalize counted : ((cleared s.hw).bump STP_ERR STP_ERR.readback STP_ERR.rb_sat).raise STP_IRQ_STAT STP_IRQ_STAT.readback o.val = g
  have beside : BesideKept [STP_ERR, STP_IRQ_STAT] (cleared s.hw) g := counted ▸ .trans (.bump _ _ _) (.raise _ _ _)
  have state : g.stpState = s.hw.stpState := beside.f_eq (by decide) (by decide) _
  have taken := Hw.fleetStop_taken (g.updStp fun p => { p with rbBad := addCode o.val p.rbBad }) 10
  have stopped := taken.fleetStopped (by decide)
  have err : STP_ERR ∉ stopRegs (g.updStp fun p => { p with rbBad := addCode o.val p.rbBad }).sends := by
    cases (g.updStp fun p => { p with rbBad := addCode o.val p.rbBad }).sends <;> decide
  constructor
  · rw [FleetStopped, ← state]
    exact stopped
  · rw [taken.f_eq (by decide) err, Hw.updStp_f, ← counted, Hw.raise_f _ _ _ _ _ _ (by decide) (by decide),
      Hw.f_bump _ _ _ _ (by decide) (by decide) (by decide)]
    rfl

theorem dryRun_completes (s : State) (raised : BitVec 5) : Completes (.dryRun raised) s fun h =>
    h.hlt.dryRunFailed = decide (raised ≠ 31) ∧ (raised ≠ 31 → FleetStopped s.hw h 10) := by
  refine completes_of_run (e := fun h => h.dryRun raised.toNat) rfl ?_
  have full : raised.toNat = 31 ↔ raised = 31 := ⟨fun e => BitVec.eq_of_toNat_eq e, fun e => e ▸ rfl⟩
  by_cases all : raised = 31
  · have passed : (cleared s.hw).dryRun raised.toNat = _ := if_pos (full.mpr all)
    rw [passed, decide_eq_false (not_not_intro all)]
    exact ⟨rfl, fun missed => absurd all missed⟩
  · have failed : (cleared s.hw).dryRun raised.toNat = _ := if_neg (mt full.mp all)
    rw [failed, decide_eq_true all]
    have taken := Hw.fleetStop_taken (Hw.updStp { cleared s.hw with hlt := { (cleared s.hw).hlt with dryRunFailed := true } }
      fun p => { p with sp := addCode 10 p.sp }) 10
    refine ⟨by rw [Hw.raise_hlt, taken.hlt]; rfl, fun _ => ?_⟩
    refine fleetStopped_of_kept (taken.fleetStopped (by decide)) ?_ ?_ (by rw [Hw.raise_stp])
    · exact Hw.raise_reg _ _ _ _ _ (by decide) (by decide)
    · exact Hw.raise_reg _ _ _ _ _ (by decide) (by decide)

/-! ### SP fails, SP kicks (R32, R274, R279) -/

section
variable (h : Hw)

theorem Hw.countTransient_reg (cls inst : Nat) (kind : Word) {k : Nat} (fleet : fleetReg k) : (h.countTransient cls inst kind).reg k = h.reg k := by
  have irq : k ≠ HLT_IRQ_STAT := fun e => absurd (e ▸ fleet) (by decide)
  have err : k ≠ HLT_ERR := fun e => absurd (e ▸ fleet) (by decide)
  rw [Hw.countTransient, Hw.raise_reg _ _ _ _ _ irq fleet.not_log, Hw.event_reg _ _ _ _ _ _ _ fleet.not_log]
  exact Hw.reg_bump_other _ _ _ _ _ err

/-- A unit of a pair without EQX_HOLD: it is standby, and listens (R265, R279). -/
def Hw.holdGone (h : Hw) : Hw :=
  (((h.setFlag EQX_STAT EQX_STAT.hold false).setF EQX_STAT EQX_STAT.role 1).setFlag RAD_CFG RAD_CFG.listen true).updEqx fun e =>
    { e with handover := .none }

theorem Hw.releaseHold_paired {h : Hw} (paired : h.paired = true) :
    h.releaseHold = if h.flag EQX_STAT EQX_STAT.hold then h.holdGone.emit (.pin "EQX_HOLD" true) else h.holdGone := if_pos paired

/-- Releasing EQX_HOLD leaves the unit as it is, or without it, and outputs a level at most. -/
theorem Hw.releaseHold_cases : h.releaseHold = h ∨ h.releaseHold = h.holdGone ∨ h.releaseHold = h.holdGone.emit (.pin "EQX_HOLD" true) := by
  by_cases paired : h.paired = true
  · rw [Hw.releaseHold_paired paired]
    split
    · exact .inr (.inr rfl)
    · exact .inr (.inl rfl)
  · exact .inl (if_neg paired)

theorem Hw.releaseHold_stp : h.releaseHold.stp = h.stp := by
  obtain e | e | e := h.releaseHold_cases <;> rw [e] <;> rfl

theorem Hw.holdGone_reg {k : Nat} (stat : k ≠ EQX_STAT) (cfg : k ≠ RAD_CFG) : h.holdGone.reg k = h.reg k := by
  rw [Hw.holdGone, Hw.updEqx_reg, Hw.reg_setFlag_other _ _ _ _ _ cfg, Hw.reg_setF_other _ _ _ _ _ stat, Hw.reg_setFlag_other _ _ _ _ _ stat]

theorem Hw.releaseHold_reg {k : Nat} (stat : k ≠ EQX_STAT) (cfg : k ≠ RAD_CFG) : h.releaseHold.reg k = h.reg k := by
  obtain e | e | e := h.releaseHold_cases <;> rw [e]
  · exact h.holdGone_reg stat cfg
  · rw [Hw.emit_reg, h.holdGone_reg stat cfg]

/-- An incomplete floor that has not stopped the fleet stops it with source 11 (R274). -/
theorem Hw.floorCheck_stops {h : Hw} (incomplete : h.floorComplete = false) (fresh : bit (h.f STP_SRC_STAT STP_SRC_STAT.latched) 11 = false) :
    FleetStopped h h.floorCheck 11 := by
  have judged : h.floorCheck = (h.fleetStop 11).releaseHold :=
    if_neg (not_or.mpr ⟨ne_true_of_eq_false incomplete, ne_true_of_eq_false fresh⟩)
  rw [judged]
  refine fleetStopped_of_kept ((h.fleetStop_taken 11).fleetStopped (by decide)) ?_ ?_ (by rw [Hw.releaseHold_stp])
  · exact Hw.releaseHold_reg _ (by decide) (by decide)
  · exact Hw.releaseHold_reg _ (by decide) (by decide)

theorem Hw.floorCheck_spBad : h.floorCheck.stp.spBad = h.stp.spBad := by
  unfold Hw.floorCheck
  split
  · rfl
  · rw [Hw.releaseHold_stp, (h.fleetStop_taken 11).spBad]

theorem Hw.spWorks_of_spBad {h : Hw} (bad : h.stp.spBad = true) : h.spWorks = false := by rw [Hw.spWorks, bad]; rfl

end

theorem spLockstepFail_completes (s : State) (kind : Word) : Completes (.spLockstepFail kind) s fun h =>
    h.stp.spBad = true ∧ h.spWorks = false ∧
      (bit (s.hw.f STP_SRC_STAT STP_SRC_STAT.latched) 11 = false → FleetStopped s.hw h 11) := by
  refine completes_of_run (e := fun h => ((h.countTransient 9 0 kind).updStp fun p => { p with spBad := true }).floorCheck) rfl ?_
  generalize failed : (((cleared s.hw).countTransient 9 0 kind).updStp fun p => { p with spBad := true }) = g
  have bad : g.stp.spBad = true := failed ▸ rfl
  have kept (k : Nat) (l : Fld) (fleet : fleetReg k) : g.f k l = s.hw.f k l := by
    rw [← failed, Hw.updStp_f, Hw.f, Hw.countTransient_reg _ _ _ _ fleet]
    rfl
  have judged : g.floorCheck.stp.spBad = true := g.floorCheck_spBad.trans bad
  refine ⟨judged, Hw.spWorks_of_spBad judged, fun fresh => ?_⟩
  have incomplete : g.floorComplete = false := by rw [Hw.floorComplete, Hw.spWorks_of_spBad bad, Bool.false_and]
  have state : g.stpState = s.hw.stpState := kept _ _ (by decide)
  rw [FleetStopped, ← state]
  exact Hw.floorCheck_stops incomplete ((congrArg (bit · 11) (kept _ _ (by decide))).trans fresh)

theorem spKick_completes (s : State) (works : s.hw.spWorks = true) : Completes .spKick s fun h => h.eqx.spKick = some s.hw.now := by
  have works' : (cleared s.hw).spWorks = true := works
  have kicked : exec .spKick s = run s fun h => { h with eqx := { h.eqx with spKick := some h.now } } := by
    change execSpKick s = _
    exact run_congr (if_pos works')
  exact completes_of_run kicked rfl

/-- Settles O27: each command that raises a stop completes as its own theorem says. -/
theorem stopSourcesComplete : Obligations.StopSourcesComplete :=
  ⟨stopPin_completes, stopPinFiltered_completes, discrepancyLatch_completes, pinRunConfirmed_completes, spDecision_fleet_completes,
    spDecision_robot_completes, stopFrame_completes, readbackMismatch_completes, dryRun_completes, spLockstepFail_completes, spKick_completes⟩

end Sys2Proof.Machine
end

section
/-! SUPPORT. Releases of the fleet and of a robot, what decides whether they pass, and what a host's command leaves (R262, R273). -/

namespace Sys2Proof.Machine

open Reg Sys2Proof.Safety

/-! ### A release of the fleet (R273) -/

section
variable (h : Hw) (issuer : Nat)

/-- The fleet runs again: the hold ends, and marks resume at the next mark cell. -/
def Hw.fleetFreed (h : Hw) : Hw :=
  (((h.setF STP_SRC_STAT STP_SRC_STAT.latched h.targetSources).setF STP_STAT STP_STAT.state stpRunning).setFlag STP_STAT STP_STAT.hold false).updStp
    fun p => { p with awaitMark := true, marked := false }

/-- The bars go but those of targeted robots. -/
def Hw.unbarred (h : Hw) : Hw := allRobots.foldl (fun h r => if (h.target r).isSome then h else h.setBar r false) h

theorem Hw.releaseFleet_eq :
    h.releaseFleet issuer = ((h.fleetFreed.unbarred.axlRelease.raise STP_IRQ_STAT STP_IRQ_STAT.release 0).stpRecord 3 issuer).mirrorStop := rfl

theorem BesideKept.unbarred {ks : List Nat} : BesideKept ks h h.unbarred := .foldl _ _ (fun h r _ => .ite (.refl h) (.setBar h r false)) h

theorem BesideKept.axlRelease {ks : List Nat} : BesideKept ks h h.axlRelease := .of_engines h

theorem BesideKept.releaseFleet : BesideKept [STP_IRQ_STAT] h.fleetFreed (h.releaseFleet issuer) := by
  rw [Hw.releaseFleet_eq]
  exact ((BesideKept.trans (.unbarred _) (.axlRelease _)).trans (.raise _ _ _)).trans (.told _ _ _)

/-- The fleet is released: it runs, holds nothing, and the counter of the newest command stays. -/
theorem Hw.releaseFleet_runs :
    (h.releaseFleet issuer).stpState = stpRunning ∧ (h.releaseFleet issuer).fleetHold = false ∧ (h.releaseFleet issuer).stp.lastCtr = h.stp.lastCtr := by
  have kept := BesideKept.releaseFleet h issuer
  refine ⟨?_, ?_, by rw [kept.stp]; rfl⟩
  · rw [Hw.stpState, kept.f_eq (by decide) (by decide), Hw.fleetFreed, Hw.updStp_f, Hw.f_setFlag_apart _ _ _ _ _ (by decide) (by decide),
      Hw.f_setF_same _ _ _ _ (by decide)]
    rfl
  · rw [Hw.fleetHold, kept.flag_eq (by decide) (by decide), Hw.fleetFreed, Hw.updStp_flag]
    exact Hw.flag_setFlag_same _ _ _ _ (by decide) (by decide)

/-- What lets a release of the fleet pass. -/
structure MayRelease (h : Hw) : Prop where
  stopped : h.stpState = stpStopped
  free : h.fleetBlock = none
  rested : h.stopMinPassed = true
  primary : h.paired = false ∨ h.role = 2

theorem Hw.tryRelease_fleet {h : Hw} (may : MayRelease h) : h.tryRelease issuer 0 = (resAccepted, 0, h.releaseFleet issuer) := by
  have alone : ¬(h.paired = true ∧ h.role ≠ 2) := fun both => may.primary.elim (ne_false_of_eq_true both.1) both.2
  simp only [Hw.tryRelease, may.stopped, may.free, may.rested, alone, not_true_eq_false, ne_eq, if_true, if_false]

/-- What keeps the sequencer's record but for the counter of commands keeps what lets a release pass. -/
theorem MayRelease.of_kept {ks : List Nat} {g : Hw} (may : MayRelease h) (kept : AroundKept ks h g) {ctr : Nat}
    (stp : g.stp = { h.stp with lastCtr := ctr })
    (out : ∀ k ∈ [STP_STAT, STP_SRC_STAT, STP_CFG2, EQX_CFG, EQX_STAT, RAD_STAT] ++ (List.range 8).map STP_LANE_CTR, fleetReg k ∧ k ∉ ks) :
    MayRelease g := by
  have reg {k : Nat} (mem : k ∈ [STP_STAT, STP_SRC_STAT, STP_CFG2, EQX_CFG, EQX_STAT, RAD_STAT] ++ (List.range 8).map STP_LANE_CTR) (l : Fld) :
      g.f k l = h.f k l := kept.f_eq (out k mem).1 (out k mem).2 l
  have lane {n : Nat} (hn : n < 8) : g.reg (STP_LANE_CTR n) = h.reg (STP_LANE_CTR n) := by
    obtain ⟨fleet, apart⟩ := out _ (List.mem_append_right _ (List.mem_map.mpr ⟨n, List.mem_range.mpr hn, rfl⟩))
    exact kept.regs _ fleet apart
  have up : g.lanesUp = h.lanesUp := by
    have each : g.laneUp = h.laneUp := funext fun n => congrArg (bit · n) (reg (by decide) _)
    rw [Hw.lanesUp, each, Hw.lanesUp]
  have floor : g.floorComplete = h.floorComplete := by
    have lanes : g.floorLanes = h.floorLanes := by
      rw [Hw.floorLanes, Hw.floorLanes, up]
      refine List.filter_congr fun n mem => ?_
      rw [Hw.laneDegraded, kept.hlt, lane (List.mem_range.mp (List.mem_filter.mp mem).1), Hw.laneDegraded]
    rw [Hw.floorComplete, Hw.spWorks, stp, kept.halted, lanes, Hw.floorComplete, Hw.spWorks]
  have asserting : g.stpAsserting = h.stpAsserting := by rw [Hw.stpAsserting, stp, floor, Hw.stpAsserting]
  exact {
    stopped := (reg (k := STP_STAT) (by decide) _).trans may.stopped
    free := by rw [Hw.fleetBlock, asserting, reg (by decide)]; exact may.free
    rested := by rw [Hw.stopMinPassed, kept.now_eq, stp, reg (by decide)]; exact may.rested
    primary := by
      rw [Hw.paired, Hw.flag, reg (k := EQX_CFG) (by decide), Hw.role, reg (k := EQX_STAT) (by decide)]
      exact may.primary }

/-! ### A release of a robot (R273) -/

/-- A robot's targeted stop is gone, and its bit. -/
def Hw.targetGone (h : Hw) (robot : Nat) : Hw :=
  (h.updStp fun p => { p with targets := p.targets.filter fun t => decide (t.robot ≠ robot) }).setTgt robot false

theorem BesideKept.releaseTarget (robot : Nat) : BesideKept [STP_IRQ_STAT, STP_SRC_STAT] (h.targetGone robot) (h.releaseTarget issuer robot) := by
  have unbarred (g : Hw) : BesideKept [STP_IRQ_STAT, STP_SRC_STAT] g
      (if g.stpState = stpRunning then (g.setF STP_SRC_STAT STP_SRC_STAT.latched g.targetSources).setBar robot false else g) :=
    .ite (.trans (.setF g _ _) (.setBar _ _ _)) (.refl g)
  exact ((unbarred _).trans (.raise _ _ _)).trans (.told _ _ _)

theorem Hw.target_targetGone (robot : Nat) : (h.targetGone robot).target robot = none := by
  refine List.find?_eq_none.mpr fun t mem => ?_
  have other := (List.mem_filter.mp mem).2
  simpa using other

theorem Hw.releaseTarget_frees {robot : Nat} (hr : robot ≤ 128) : (h.releaseTarget issuer robot).target robot = none ∧
    (h.releaseTarget issuer robot).f (tgtReg robot) ⟨(robot - 1) % 32, 1⟩ = 0 := by
  have kept := BesideKept.releaseTarget h issuer robot
  obtain ⟨fleet, apart, -⟩ := tgtReg_place hr
  have sub : [STP_IRQ_STAT, STP_SRC_STAT] ⊆ targetRegs := by decide
  constructor
  · rw [Hw.target, kept.stp]
    exact h.target_targetGone robot
  · rw [kept.f_eq fleet (fun mem => apart (sub mem))]
    exact Hw.f_setTgt _ robot false

theorem Hw.tryRelease_target {h : Hw} {robot : Nat} {t : Target} (one : robot ≠ 0) (found : h.target robot = some t) (idle : t.asserting = []) :
    h.tryRelease issuer robot = (resAccepted, 0, h.releaseTarget issuer robot) := by
  simp only [Hw.tryRelease, one, found, idle, if_false]

end

/-! ### The host's commands (R262) -/

section
variable (h : Hw)

theorem Hw.stpResult_reg (res blocking : Nat) {k : Nat} (ne : k ≠ STP_CMD_RES) : (h.stpResult res blocking).reg k = h.reg k := by
  rw [Hw.stpResult, Hw.reg_setF_other _ _ _ _ _ ne, Hw.reg_setF_other _ _ _ _ _ ne]

theorem Hw.stpResult_f (res blocking : Nat) {k : Nat} (ne : k ≠ STP_CMD_RES) (l : Fld) : (h.stpResult res blocking).f k l = h.f k l := by
  rw [Hw.f, h.stpResult_reg res blocking ne, Hw.f]

theorem Hw.stpResult_stp (res blocking : Nat) : (h.stpResult res blocking).stp = h.stp := rfl

theorem Hw.stpResult_result (res blocking : Nat) : (h.stpResult res blocking).f STP_CMD_RES STP_CMD_RES.result = res % 8 := by
  rw [Hw.stpResult, Hw.f_setF_apart _ _ _ _ _ (by decide) (by decide), Hw.f_setF_same _ _ _ _ (by decide)]
  rfl

/-- A command's tag is the one that the unit computes with its command key. -/
def Hw.cmdGood (h : Hw) (low high : Word) : Bool :=
  !h.ports.cmd.isEmpty && decide (cmdTag h.ports.cmd h.ident (h.reg STP_CMD_CTR).toNat (h.reg STP_CMD_ARG).toNat =
    leBytes 4 low.toNat ++ leBytes 4 high.toNat)

/-- A tagged command's counter is taken. -/
def Hw.ctrTaken (h : Hw) : Hw :=
  (h.updStp fun p => { p with lastCtr := (h.reg STP_CMD_CTR).toNat }).setF STP_CMD_RES STP_CMD_RES.last_ctr (h.reg STP_CMD_CTR).toNat

/-- A command with a good tag spends its counter; one that needs no tag may have none. -/
def Hw.tagSpent (h : Hw) (low high : Word) : Hw := if h.cmdGood low high = true then h.ctrTaken else h

/-- The robot that a host's stop names, 0 for the fleet. -/
def Hw.stopRobot (h : Hw) : Nat :=
  if STP_CMD_ARG.kind.get (h.reg STP_CMD_ARG) = 2 ∧ 1 ≤ STP_CMD_ARG.robot.get (h.reg STP_CMD_ARG) ∧
      STP_CMD_ARG.robot.get (h.reg STP_CMD_ARG) ≤ 128 then
    STP_CMD_ARG.robot.get (h.reg STP_CMD_ARG) else 0

/-- The source that a host's commands have (R260). -/
def stopSource (m : Master) : Nat := if m = .ha then 3 else 4

/-- What lets a host's command be judged: the sequencer is armed, hosts may stop, and the counter is new. -/
structure MayCommand (h : Hw) (a : BusAcc) : Prop where
  host : a.master = .ha ∨ a.master = .hb
  armed : h.stpState ≠ stpUnarmed
  enabled : h.flag STP_SRC_CFG STP_SRC_CFG.host_en = true
  fresh : h.stp.lastCtr < (h.reg STP_CMD_CTR).toNat

variable {h} {a : BusAcc} {low high : Word}

theorem stopSource_host (may : MayCommand h a) :
    (match a.master with | .ha => 3 | .hb => 4 | _ => 0) = stopSource a.master ∧ stopSource a.master ≠ 0 := by
  obtain e | e := may.host <;> rw [e] <;> decide

/-- A stop of a privileged host needs no tag where stops are open; a good tag spends its counter all the same. -/
theorem Hw.stpCommand_stop (may : MayCommand h a) (known : STP_CMD_ARG.kind.get (h.reg STP_CMD_ARG) ≠ 0)
    (stop : STP_CMD_ARG.kind.get (h.reg STP_CMD_ARG) ≠ 3) (privileged : a.unpriv = false)
    (opened : h.flag STP_CFG STP_CFG.open_stop = true) :
    h.stpCommand a low high = ((h.tagSpent low high).stop (stopSource a.master) h.stopRobot).stpResult resAccepted 0 := by
  obtain ⟨source, named⟩ := stopSource_host may
  have new : ¬(h.reg STP_CMD_CTR).toNat ≤ h.stp.lastCtr := Nat.not_le.mpr may.fresh
  unfold Hw.stpCommand
  extract_lets arg kind robot ctr good src refuse cmd
  have src_eq : src = stopSource a.master := source
  rw [if_neg known, if_neg may.armed, if_neg, if_neg, if_neg, src_eq]
  · exact if_neg stop
  · exact fun both => new both.2
  · exact fun both => both.2 ⟨stop, by rw [privileged]; decide, opened⟩
  · rw [src_eq, may.enabled]
    exact fun either => either.elim named (· rfl)

/-- A release of the fleet with a good tag spends its counter and is tried. -/
theorem Hw.stpCommand_release (may : MayCommand h a) (release : STP_CMD_ARG.kind.get (h.reg STP_CMD_ARG) = 3)
    (fleet : STP_CMD_ARG.robot.get (h.reg STP_CMD_ARG) = 0) (good : h.cmdGood low high = true) (free : MayRelease h.ctrTaken) :
    h.stpCommand a low high = (h.ctrTaken.releaseFleet (stopSource a.master)).stpResult resAccepted 0 := by
  obtain ⟨source, named⟩ := stopSource_host may
  have new : ¬(h.reg STP_CMD_CTR).toNat ≤ h.stp.lastCtr := Nat.not_le.mpr may.fresh
  unfold Hw.stpCommand
  extract_lets arg kind robot ctr tagged src refuse cmd
  have src_eq : src = stopSource a.master := source
  have tagged_eq : tagged = true := good
  have taken : cmd = h.ctrTaken := if_pos tagged_eq
  have kind_eq : kind = 3 := release
  rw [if_neg (by rw [kind_eq]; decide), if_neg may.armed, if_neg, if_neg, if_neg, if_pos kind_eq, taken, src_eq, show robot = 0 from fleet,
    Hw.tryRelease_fleet _ free]
  · exact if_pos rfl
  · exact fun both => new both.2
  · exact fun both => both.1 tagged_eq
  · rw [src_eq, may.enabled]
    exact fun either => either.elim named (· rfl)

/-- A release without a good tag is refused, and counted. -/
theorem Hw.stpCommand_badRelease (may : MayCommand h a) (release : STP_CMD_ARG.kind.get (h.reg STP_CMD_ARG) = 3)
    (bad : h.cmdGood low high = false) :
    h.stpCommand a low high = (h.stpAuthFail.stpResult resBadTag 0).stpRecord 3 (stopSource a.master) := by
  obtain ⟨source, named⟩ := stopSource_host may
  unfold Hw.stpCommand
  extract_lets arg kind robot ctr tagged src refuse cmd
  have src_eq : src = stopSource a.master := source
  have tagged_eq : ¬tagged = true := ne_true_of_eq_false bad
  have kind_eq : kind = 3 := release
  rw [if_neg (by rw [kind_eq]; decide), if_neg may.armed, if_neg, if_pos]
  · rw [← src_eq, ← kind_eq]
  · exact ⟨tagged_eq, fun stop => stop.1 release⟩
  · rw [src_eq, may.enabled]
    exact fun either => either.elim named (· rfl)

end

/-! ### A command's write -/

/-- A write of a register of the radio, the sequencer or the pair leaves the other such registers. -/
theorem Committed.besideKept {h g : Hw} {k : Nat} (w : Committed h g k) {ks : List Nat} (own : k :: (lowWordOf k).toList ⊆ ks) : BesideKept ks h g := by
  refine .of_parts h (by rw [w.parts]) (by rw [w.parts]) (by rw [w.parts]) (by rw [w.parts]) (by rw [w.parts]) (by rw [w.parts]) fun j fleet out =>
    w.regs j fun mem => ?_
  rw [writtenRegs, ← List.cons_append] at mem
  obtain low | preset := List.mem_append.mp mem
  · exact out (own low)
  · exact not_mem_presetSels (by unfold fleetReg at fleet; omega) preset

end Sys2Proof.Machine
end

section
/-! PROOFS. A host's stops and releases, SP's releases and arming complete (R262, R266, R273), and O28 is settled. -/

namespace Sys2Proof.Machine

open Reg Sys2Proof.Safety

/-! ### The write of a command (R262) -/

theorem tagHi_pair : (lowWordOf STP_CMD_TAG_HI).isSome = true ∧ ∀ r ∈ regFind STP_CMD_TAG_HI, r.lowWord = false := by decide +kernel

/-- The registers that a command's write and the counter of a good tag change. -/
def commandRegs : List Nat := [STP_CMD_TAG_HI, STP_CMD_TAG_LO, STP_CMD_RES]

section
variable {h g : Hw}

theorem BesideKept.of_tagWritten (w : Committed (cleared h) g STP_CMD_TAG_HI) : BesideKept commandRegs h g :=
  .trans (b := cleared h) (.of_engines h) (w.besideKept (by decide +kernel))

theorem BesideKept.mayCommand (kept : BesideKept commandRegs h g) {a : BusAcc} (may : MayCommand h a) : MayCommand g a where
  host := may.host
  armed := ne_of_eq_of_ne (kept.f_eq (by decide) (by decide) _) may.armed
  enabled := (kept.flag_eq (by decide) (by decide) _).trans may.enabled
  fresh := by
    rw [kept.stp, kept.regs STP_CMD_CTR (by decide) (by decide)]
    exact may.fresh

/-- A command's tag is judged over the device's identity, the counter and the argument, as they stood before its write. -/
theorem cmdGood_of_tagWritten (w : Committed (cleared h) g STP_CMD_TAG_HI) (low high : Word) : g.cmdGood low high = h.cmdGood low high := by
  have kept := BesideKept.of_tagWritten w
  have ident : g.ident = h.ident := by
    have word : ∀ n < 4, g.reg (BRL_ID n) = h.reg (BRL_ID n) := fun n hn =>
      w.regs _ (not_mem_writtenRegs (by unfold BRL_ID STP_CMD_TAG_HI; omega) (by unfold BRL_ID STP_CMD_TAG_HI; omega) (by unfold BRL_ID; omega))
    exact List.flatMap_congr fun n hn => by rw [word n (List.mem_range.mp hn)]
  rw [Hw.cmdGood, kept.ports, ident, kept.regs STP_CMD_CTR (by decide) (by decide), kept.regs STP_CMD_ARG (by decide) (by decide), Hw.cmdGood]

theorem AroundKept.ctrTaken (h : Hw) : AroundKept commandRegs h h.ctrTaken :=
  (AroundKept.updStp h _).trans (BesideKept.setF (k := STP_CMD_RES) _ _ _).toAroundKept

theorem AroundKept.tagSpent (h : Hw) (low high : Word) : AroundKept commandRegs h (h.tagSpent low high) := by
  unfold Hw.tagSpent
  split
  · exact .ctrTaken h
  · exact .refl h

end

/-! ### A stop of a host (R262, R266) -/

/-- What lets a host stop without a tag. -/
structure MayStopOpenly (h : Hw) (a : BusAcc) : Prop extends MayCommand h a where
  privileged : a.unpriv = false
  opened : h.flag STP_CFG STP_CFG.open_stop = true

theorem BesideKept.mayStopOpenly {h g : Hw} (kept : BesideKept commandRegs h g) {a : BusAcc} (may : MayStopOpenly h a) : MayStopOpenly g a where
  toMayCommand := kept.mayCommand may.toMayCommand
  privileged := may.privileged
  opened := (kept.flag_eq (by decide) (by decide) _).trans may.opened

theorem fleetStopCommand_completes (s : State) (via : BusAcc) (v : Word) (permitted : Permitted s.hw via STP_CMD_TAG_HI)
    (may : MayStopOpenly s.hw via) (kind : STP_CMD_ARG.kind.get (s.hw.reg STP_CMD_ARG) = 1) :
    Completes (.fleetStopCommand via v) s fun h =>
      FleetStopped s.hw h (if via.master = .ha then 3 else 4) ∧ h.f STP_CMD_RES STP_CMD_RES.result = 0 := by
  refine completes_of_regWrite (eff := fun low h => h.stpCommand via low v) rfl permitted tagHi_pair.2 fun low g w => ?_
  have written := BesideKept.of_tagWritten w.toCommitted
  have arg : STP_CMD_ARG.kind.get (g.reg STP_CMD_ARG) = 1 := by rw [written.regs STP_CMD_ARG (by decide) (by decide)]; exact kind
  have may' : MayStopOpenly g via := written.mayStopOpenly may
  have stopped : g.stpCommand via low v = ((g.tagSpent low v).fleetStop (stopSource via.master)).stpResult resAccepted 0 := by
    have fleet : g.stopRobot = 0 := if_neg fun named => absurd (arg.symm.trans named.1) (by decide)
    rw [Hw.stpCommand_stop may'.toMayCommand (by rw [arg]; decide) (by rw [arg]; decide) may'.privileged may'.opened, fleet]
    exact congrArg (Hw.stpResult · _ _) (if_pos rfl)
  have state : (g.tagSpent low v).stpState = s.hw.stpState :=
    ((AroundKept.tagSpent g low v).f_eq (by decide) (by decide) _).trans (written.f_eq (by decide) (by decide) _)
  have source : stopSource via.master < 16 := by
    unfold stopSource
    split <;> decide
  have taken := ((g.tagSpent low v).fleetStop_taken (stopSource via.master)).fleetStopped source
  rw [FleetStopped, state] at taken
  rw [stopped]
  refine ⟨?_, Hw.stpResult_result _ _ _⟩
  exact fleetStopped_of_kept taken (Hw.stpResult_reg _ _ _ (by decide)) (Hw.stpResult_reg _ _ _ (by decide)) rfl

theorem targetedStopCommand_completes (s : State) (via : BusAcc) (v : Word) (permitted : Permitted s.hw via STP_CMD_TAG_HI)
    (may : MayStopOpenly s.hw via) (kind : STP_CMD_ARG.kind.get (s.hw.reg STP_CMD_ARG) = 2) (low : 1 ≤ STP_CMD_ARG.robot.get (s.hw.reg STP_CMD_ARG))
    (high : STP_CMD_ARG.robot.get (s.hw.reg STP_CMD_ARG) ≤ 128) :
    Completes (.targetedStopCommand via v) s fun h =>
      (h.target (STP_CMD_ARG.robot.get (s.hw.reg STP_CMD_ARG))).isSome = true ∧ h.stpState = s.hw.stpState ∧
        h.f STP_CMD_RES STP_CMD_RES.result = 0 := by
  refine completes_of_regWrite (eff := fun low h => h.stpCommand via low v) rfl permitted tagHi_pair.2 fun lo g w => ?_
  have written := BesideKept.of_tagWritten w.toCommitted
  have arg : g.reg STP_CMD_ARG = s.hw.reg STP_CMD_ARG := written.regs STP_CMD_ARG (by decide) (by decide)
  have may' : MayStopOpenly g via := written.mayStopOpenly may
  have stopped : g.stpCommand via lo v = ((g.tagSpent lo v).targetStop (stopSource via.master) (STP_CMD_ARG.robot.get (s.hw.reg STP_CMD_ARG))).stpResult
      resAccepted 0 := by
    have robot : g.stopRobot = STP_CMD_ARG.robot.get (s.hw.reg STP_CMD_ARG) := by
      rw [Hw.stopRobot, arg]
      exact if_pos ⟨kind, low, high⟩
    rw [Hw.stpCommand_stop may'.toMayCommand (by rw [arg, kind]; decide) (by rw [arg, kind]; decide) may'.privileged may'.opened, robot]
    exact congrArg (Hw.stpResult · _ _) (if_neg (Nat.one_le_iff_ne_zero.mp low))
  have state : (g.tagSpent lo v).stpState = s.hw.stpState :=
    ((AroundKept.tagSpent g lo v).f_eq (by decide) (by decide) _).trans (written.f_eq (by decide) (by decide) _)
  have taken := (g.tagSpent lo v).targetStop_taken (stopSource via.master) high
  rw [stopped]
  refine ⟨?_, ?_, Hw.stpResult_result _ _ _⟩
  · exact taken.target
  · rw [Hw.stpState, Hw.stpResult_f _ _ _ (by decide)]
    exact taken.state.trans state

/-! ### A release of a host (R262, R273) -/

theorem releaseCommand_completes (s : State) (via : BusAcc) (v : Word) (permitted : Permitted s.hw via STP_CMD_TAG_HI)
    (may : MayCommand s.hw via) (kind : STP_CMD_ARG.kind.get (s.hw.reg STP_CMD_ARG) = 3) (fleet : STP_CMD_ARG.robot.get (s.hw.reg STP_CMD_ARG) = 0)
    (free : MayRelease s.hw) :
    Completes (.releaseCommand via v) s fun h =>
      if s.hw.ports.cmd ≠ [] ∧ cmdTag s.hw.ports.cmd s.hw.ident (s.hw.reg STP_CMD_CTR).toNat (s.hw.reg STP_CMD_ARG).toNat =
          leBytes 4 (heldLow s.hw via.master.num STP_CMD_TAG_HI).toNat ++ leBytes 4 v.toNat then
        h.stpState = stpRunning ∧ h.fleetHold = false ∧ h.f STP_CMD_RES STP_CMD_RES.result = 0 ∧ h.stp.lastCtr = (s.hw.reg STP_CMD_CTR).toNat
      else h.stpState = stpStopped ∧ h.f STP_CMD_RES STP_CMD_RES.result = 1 ∧ h.stp.lastCtr = s.hw.stp.lastCtr := by
  refine completes_of_regWrite (eff := fun low h => h.stpCommand via low v) rfl permitted tagHi_pair.2 fun low g w => ?_
  have written := BesideKept.of_tagWritten w.toCommitted
  have low_eq : low = heldLow s.hw via.master.num STP_CMD_TAG_HI := w.low_eq tagHi_pair.1
  have judged := cmdGood_of_tagWritten w.toCommitted low v
  have arg : g.reg STP_CMD_ARG = s.hw.reg STP_CMD_ARG := written.regs STP_CMD_ARG (by decide) (by decide)
  have ctr : g.reg STP_CMD_CTR = s.hw.reg STP_CMD_CTR := written.regs STP_CMD_CTR (by decide) (by decide)
  have may' : MayCommand g via := written.mayCommand may
  have good_iff : s.hw.cmdGood low v = true ↔ s.hw.ports.cmd ≠ [] ∧
      cmdTag s.hw.ports.cmd s.hw.ident (s.hw.reg STP_CMD_CTR).toNat (s.hw.reg STP_CMD_ARG).toNat = leBytes 4 low.toNat ++ leBytes 4 v.toNat := by
    simp only [Hw.cmdGood, Bool.and_eq_true, Bool.not_eq_true', List.isEmpty_eq_false_iff, decide_eq_true_eq, ne_eq]
  rw [← low_eq]
  split
  · next tagged =>
    have good := good_iff.mpr tagged
    have taken := written.toAroundKept.trans (AroundKept.ctrTaken g)
    have free' : MayRelease g.ctrTaken :=
      free.of_kept s.hw taken (ctr := (g.reg STP_CMD_CTR).toNat) (by rw [Hw.ctrTaken, Hw.setF_stp, Hw.updStp_stp, written.stp]) (by decide)
    rw [Hw.stpCommand_release may' (arg ▸ kind) (arg ▸ fleet) (judged.trans good) free']
    obtain ⟨runs, hold, last⟩ := g.ctrTaken.releaseFleet_runs (stopSource via.master)
    refine ⟨?_, ?_, Hw.stpResult_result _ _ _, ?_⟩
    · rw [Hw.stpState, Hw.stpResult_f _ _ _ (by decide)]
      exact runs
    · rw [Hw.fleetHold, Hw.flag, Hw.stpResult_f _ _ _ (by decide)]
      exact hold
    · rw [Hw.stpResult_stp, last, ← ctr]
      rfl
  · next bad =>
    rw [Hw.stpCommand_badRelease may' (arg ▸ kind) (judged.trans (Bool.eq_false_of_not_eq_true (mt good_iff.mp bad)))]
    generalize failed : g.stpAuthFail = f
    have counted : BesideKept [STP_ERR, STP_IRQ_STAT] g f := failed ▸ .trans (.bump _ _ _) (.raise _ _ _)
    have told : BesideKept [] (f.stpResult resBadTag 0) ((f.stpResult resBadTag 0).stpRecord 3 (stopSource via.master)) := .event _ _ _ _ _ _
    refine ⟨?_, ?_, ?_⟩
    · rw [Hw.stpState, told.f_eq (by decide) (by decide), Hw.stpResult_f _ _ _ (by decide), counted.f_eq (by decide) (by decide),
        written.f_eq (by decide) (by decide)]
      exact free.stopped
    · rw [told.f_eq (by decide) (by decide), Hw.stpResult_result]
      rfl
    · rw [told.stp, Hw.stpResult_stp, counted.stp, written.stp]

/-! ### A release of SP (R263, R273) -/

theorem spRelease_fleet_completes (s : State) (src : Fin 3) (stopped : s.hw.stpState = stpStopped)
    (own : s.hw.f STP_SRC_STAT STP_SRC_STAT.latched &&& (2 ^ 16 - 1 - 2 ^ 9 - 2 ^ 10) &&& (2 ^ 16 - 1 - s.hw.targetSources) = 0)
    (free : (s.hw.updStp fun p => { p with sp := without (8 + src.val) p.sp }).fleetBlock = none) (rested : s.hw.stopMinPassed = true)
    (primary : s.hw.paired = false ∨ s.hw.role = 2) :
    Completes (.spDecision true src 0) s fun h => h.stpState = stpRunning ∧ h.fleetHold = false := by
  refine completes_of_run (e := fun h => h.spRelease (8 + src.val) 0) rfl ?_
  generalize ended : (cleared s.hw).updStp (fun p => { p with sp := without (8 + src.val) p.sp }) = g
  have may : MayRelease g := ended ▸ ⟨stopped, free, rested, primary⟩
  have released : (cleared s.hw).spRelease (8 + src.val) 0 = g.releaseFleet (8 + src.val) := by
    have tried : (cleared s.hw).spRelease (8 + src.val) 0 = (g.tryRelease (8 + src.val) 0).2.2 := ended ▸ if_pos own
    rw [tried, Hw.tryRelease_fleet _ may]
  obtain ⟨runs, hold, -⟩ := g.releaseFleet_runs (8 + src.val)
  rw [released]
  exact ⟨runs, hold⟩

theorem spRelease_robot_completes (s : State) (src : Fin 3) (r : Fin 129) (t : Target) (one : r.val ≠ 0)
    (found : s.hw.target r.val = some t) (asserting : t.asserting = [8 + src.val]) (sources : t.sources = [8 + src.val]) :
    Completes (.spDecision true src r) s fun h =>
      h.target r.val = none ∧ h.f (STP_TGT ((r.val - 1) / 32)) ⟨(r.val - 1) % 32, 1⟩ = 0 := by
  refine completes_of_run (e := fun h => h.spRelease (8 + src.val) r.val) rfl ?_
  have named : t.robot = r.val := of_decide_eq_true (List.find?_some (p := fun t : Target => decide (t.robot = r.val)) found)
  generalize ended : ({ t with asserting := without (8 + src.val) t.asserting } : Target) = u
  have idle : u.asserting = [] := by
    rw [← ended, asserting]
    simp [without]
  generalize placed : (cleared s.hw).updStp (fun p => { p with targets := putTarget u p.targets }) = g
  have target : g.target r.val = some u := by
    have same : u.robot = r.val := ended ▸ named
    rw [← placed, ← same]
    exact find_putTarget u _
  have own : t.sources.all (fun c => decide (8 ≤ c ∧ c ≤ 10)) = true := by
    rw [sources]
    exact (Bool.and_true _).trans (decide_eq_true (by omega))
  have released : (cleared s.hw).spRelease (8 + src.val) r.val = g.releaseTarget (8 + src.val) r.val := by
    have found' : (cleared s.hw).target r.val = some t := found
    have tried : (cleared s.hw).spRelease (8 + src.val) r.val = (g.tryRelease (8 + src.val) r.val).2.2 := by
      simp only [Hw.spRelease, if_neg one, found', ended, placed, own, if_true]
    rw [tried, Hw.tryRelease_target _ one target idle]
  rw [released]
  exact g.releaseTarget_frees (8 + src.val) (Nat.le_of_lt_succ r.isLt)

/-! ### Arming (R266) -/

theorem stpArm_completes (s : State) (via : BusAcc) (permitted : Permitted s.hw via STP_CTRL) (unarmed : s.hw.stpState = stpUnarmed) :
    Completes (.arm via) s fun h =>
      h.stpState = if s.hw.ports.stop ≠ [] ∧ s.hw.ports.cmd ≠ [] ∧ memb 3 s.hw.cfg.applied = true then stpStopped else stpUnarmed := by
  refine completes_of_regWrite (eff := fun _ h => h.stpCtrlWritten (BitVec.ofNat 32 (2 ^ 31))) rfl permitted (by decide +kernel) fun _ g w => ?_
  have written : BesideKept [STP_CTRL] (cleared s.hw) g := w.besideKept (by decide +kernel)
  have ports : g.ports = s.hw.ports := written.ports
  have applied : g.cfg.applied = s.hw.cfg.applied := by rw [w.parts]; rfl
  have state : g.stpState = stpUnarmed := (written.f_eq (by decide) (by decide) _).trans unarmed
  have armed : g.stpCtrlWritten (BitVec.ofNat 32 (2 ^ 31)) = g.arm := if_pos (by decide)
  have missing : (s.hw.ports.stop ≠ [] ∧ s.hw.ports.cmd ≠ [] ∧ memb 3 s.hw.cfg.applied = true) ↔
      ¬(g.ports.stop.isEmpty = true ∨ g.ports.cmd.isEmpty = true ∨ ¬memb 3 g.cfg.applied = true) := by
    rw [ports, applied]
    simp only [not_or, not_not, List.isEmpty_iff, ne_eq]
  rw [armed, Hw.arm, if_neg (not_not_intro state), if_congr missing rfl rfl, ite_not]
  split
  · rw [Hw.stpState, Hw.f_setF_other _ _ _ _ _ _ (by decide)]
    exact state
  · rw [Hw.stpState, Hw.mirrorStop, (BesideKept.mirror (ks := []) _ _).f_eq (by decide) (by decide), Hw.f_setF_same _ _ _ _ (by decide)]
    rfl

/-- Settles O28: each command of hosts and SP completes as its own theorem says. -/
theorem stopCommandsComplete : Obligations.StopCommandsComplete := by
  refine ⟨fun s via v permitted host privileged armed enabled opened fresh => ?_,
    fun s via v permitted host stopped enabled fresh kind fleet free rested primary => ?_,
    spRelease_fleet_completes, fun s src r t one _ => spRelease_robot_completes s src r t one, stpArm_completes⟩
  · have may : MayStopOpenly s.hw via := { host, armed, enabled, fresh, privileged, opened }
    exact ⟨fleetStopCommand_completes s via v permitted may, targetedStopCommand_completes s via v permitted may⟩
  · have may : MayCommand s.hw via := { host, armed := by rw [stopped]; decide, enabled, fresh }
    exact releaseCommand_completes s via v permitted may kind fleet { stopped, free, rested, primary }

end Sys2Proof.Machine
end

section
/-! SUPPORT. What the commands of the pair's link share: readiness settled, frames sent and counted, what the primary sends and the standby applies
(R276–R278). -/

namespace Sys2Proof.Machine

open Reg Sys2Proof.Safety

/-- What every step of a fold keeps, the fold keeps. -/
theorem foldl_keeps {α β γ : Type} (p : α → γ) {f : α → β → α} {l : List β} (kept : ∀ a, ∀ b ∈ l, p (f a b) = p a) (a : α) :
    p (l.foldl f a) = p a := by
  induction l generalizing a with
  | nil => rfl
  | cons b l ih => exact (ih (fun a c mem => kept a c (List.mem_cons_of_mem b mem)) (f a b)).trans (kept a b List.mem_cons_self)

/-! ### Readiness (R278) -/

section
variable (h : Hw)

/-- EQX_STAT shows readiness as it stands. -/
def Hw.readyShown (h : Hw) : Hw := (h.setFlag EQX_STAT EQX_STAT.ready h.readyNow).setFlag EQX_STAT EQX_STAT.mirror_ok h.mirrorOk

theorem Hw.settleReady_cases :
    h.settleReady = h.readyShown ∨ h.settleReady = h.readyShown.raise EQX_IRQ_STAT EQX_IRQ_STAT.not_ready 0 := by
  unfold Hw.settleReady
  dsimp only
  split
  · exact .inr rfl
  · exact .inl rfl

@[simp] theorem Hw.settleReady_eqx : h.settleReady.eqx = h.eqx := by
  obtain e | e := h.settleReady_cases <;> rw [e]
  · rfl
  · exact Hw.raise_eqx _ _ _ _

@[simp] theorem Hw.settleReady_rad : h.settleReady.rad = h.rad := by
  obtain e | e := h.settleReady_cases <;> rw [e]
  · rfl
  · exact Hw.raise_rad _ _ _ _

@[simp] theorem Hw.settleReady_axl : h.settleReady.axl = h.axl := by
  obtain e | e := h.settleReady_cases <;> rw [e]
  · rfl
  · exact Hw.raise_axl _ _ _ _

theorem BesideKept.settleReady : BesideKept [EQX_STAT, EQX_IRQ_STAT] h h.settleReady := by
  have shown : BesideKept [EQX_STAT, EQX_IRQ_STAT] h h.readyShown := .trans (.setFlag h _ _) (.setFlag _ _ _)
  obtain e | e := h.settleReady_cases <;> rw [e]
  · exact shown
  · exact shown.trans (.raise _ _ _)

/-- Readiness has two bits of EQX_STAT. -/
theorem Hw.settleReady_stat (l : Fld) (apart : 28 ≤ l.lo ∨ l.lo + l.width ≤ 26) : h.settleReady.f EQX_STAT l = h.f EQX_STAT l := by
  have shown : h.readyShown.f EQX_STAT l = h.f EQX_STAT l := by
    have ready : 27 + 1 ≤ l.lo ∨ l.lo + l.width ≤ 27 := by omega
    have mirror : 26 + 1 ≤ l.lo ∨ l.lo + l.width ≤ 26 := by omega
    rw [Hw.readyShown, Hw.f_setFlag_apart _ _ _ _ _ (by decide) mirror, Hw.f_setFlag_apart _ _ _ _ _ (by decide) ready]
  obtain e | e := h.settleReady_cases <;> rw [e]
  · exact shown
  · rw [Hw.raise_f _ _ _ _ _ _ (by decide) (by decide), shown]

end

/-! ### Link frames (R276) -/

section
variable (h : Hw) (type : Nat) (body : List Byte)

/-- A frame of the link is counted and put out. -/
def Hw.pairSent (h : Hw) (o : Out) : Hw := (h.updEqx fun e => { e with txCount := e.txCount + 1 }).emit o

theorem BesideKept.emit {ks : List Nat} (o : Out) : BesideKept ks h (h.emit o) := .of_engines h

theorem Hw.pairSend_cases : h.pairSend type body = h ∨ ∃ o, h.pairSend type body = h.pairSent o := by
  unfold Hw.pairSend
  split
  · exact .inl rfl
  · exact .inr ⟨_, rfl⟩

theorem Hw.pairSend_counts (up : h.linkUp = true) (key : h.ports.link ≠ []) : (h.pairSend type body).eqx.txCount = h.eqx.txCount + 1 := by
  have may : ¬(¬h.linkUp = true ∨ h.ports.link.isEmpty = true) := not_or.mpr ⟨not_not_intro up, mt List.isEmpty_iff.mp key⟩
  rw [Hw.pairSend, if_neg may]
  rfl

/-- The pair's record after a frame of the link. -/
theorem Hw.pairSend_eqx : ∃ n, (h.pairSend type body).eqx = { h.eqx with txCount := n } := by
  obtain e | ⟨o, e⟩ := h.pairSend_cases type body <;> rw [e]
  · exact ⟨h.eqx.txCount, rfl⟩
  · exact ⟨_, rfl⟩

theorem BesideKept.pairSend {ks : List Nat} : BesideKept ks h (h.pairSend type body) := by
  obtain e | ⟨o, e⟩ := h.pairSend_cases type body <;> rw [e]
  · exact .refl h
  · exact .of_engines h

theorem Hw.countOpen_reg (cls inst : Nat) {k : Nat} (fleet : fleetReg k) : (h.countOpen cls inst).reg k = h.reg k := by
  rw [Hw.countOpen, Hw.countTransient_reg _ _ _ _ fleet, Hw.useFree_reg]

theorem Hw.countOpen_eqx (cls inst : Nat) : (h.countOpen cls inst).eqx = h.eqx := by
  rw [Hw.countOpen, Hw.countTransient, Hw.raise_eqx, Hw.event_eqx]
  exact Hw.bump_eqx _ _ _ _

theorem Hw.countOpen_cal (cls inst : Nat) : (h.countOpen cls inst).cal = h.cal := by
  rw [Hw.countOpen, Hw.countTransient, Hw.raise_cal, Hw.event_cal]
  exact Hw.bump_cal _ _ _ _

/-- A heartbeat takes the next number. -/
def Hw.beatNumbered (h : Hw) : Hw := h.updEqx fun e => { e with hbSeq := (e.hbSeq + 1) % 65536 }

theorem Hw.sendHeartbeat_eq (releasing : Bool) :
    h.sendHeartbeat releasing = h.beatNumbered.pairSend pairHeartbeat (h.beatNumbered.heartbeat releasing) := rfl

theorem BesideKept.sendHeartbeat {ks : List Nat} (releasing : Bool) : BesideKept ks h (h.sendHeartbeat releasing) :=
  .trans (b := h.beatNumbered) (.of_engines h) (.pairSend _ _ _)

end

/-! ### What the primary sends (R277) -/

section
variable (h : Hw) (i : MirrorItem)

/-- A mirror record changes the pair's record in what the record itself carries alone. -/
theorem Hw.mirror_eqx : (h.mirror i).eqx = h.eqx ∨ ∃ n, (h.mirror i).eqx = { h.eqx.keep i with sent := n } := by
  unfold Hw.mirror
  split
  · exact .inr ⟨_, rfl⟩
  · exact .inl rfl

theorem EqxSt.keep_sentParts (x : EqxSt) : (x.keep i).peer = x.peer ∧ (x.keep i).nbSent = x.nbSent ∧ (x.keep i).ctrSent = x.ctrSent := by
  cases i <;> exact ⟨rfl, rfl, rfl⟩

/-- A mirror record leaves what the partner last said, and what was last mirrored. -/
theorem Hw.mirror_sentParts : (h.mirror i).eqx.peer = h.eqx.peer ∧ (h.mirror i).eqx.nbSent = h.eqx.nbSent ∧
    (h.mirror i).eqx.ctrSent = h.eqx.ctrSent := by
  obtain e | ⟨n, e⟩ := h.mirror_eqx i <;> rw [e]
  · exact ⟨rfl, rfl, rfl⟩
  · exact h.eqx.keep_sentParts i

end

/-- An entry set for its neighbour stays, where every entry set for that neighbour is the same. -/
theorem at_foldl_setNb (v : NbMirror) (l : List NbMirror) (m : Map (Option NbMirror)) (same : ∀ x ∈ l, x.nb = v.nb → x = v)
    (there : v ∈ l ∨ m.at v.nb = some v) : (l.foldl (fun m x => m.set x.nb (some x)) m).at v.nb = some v := by
  induction l generalizing m with
  | nil => exact there.resolve_left List.not_mem_nil
  | cons x l ih =>
    refine ih _ (fun y mem => same y (List.mem_cons_of_mem x mem)) ?_
    by_cases e : x.nb = v.nb
    · obtain rfl := same x List.mem_cons_self e
      exact .inr (Map.at_set_same _ _ _)
    · rw [Map.at_set_other _ _ _ _ (Ne.symm e)]
      refine there.imp_left fun mem => (List.mem_cons.mp mem).resolve_left fun same => e (same ▸ rfl)

section
variable (h : Hw)

/-- The neighbour entries that have changed since they were last mirrored. -/
def Hw.nbDue (h : Hw) : List NbMirror :=
  ((List.range 512).map h.nbMirror).filter fun x => decide (h.eqx.nbSent.at x.nb ≠ some x) && (h.nbValid x.nb || (h.eqx.nbSent.at x.nb).isSome)

/-- Neighbour entries are mirrored. -/
def Hw.nbBatch (h : Hw) (ns : List NbMirror) : Hw :=
  if ns.isEmpty then h else (h.mirror (.neighbours ns)).updEqx fun e => { e with nbSent := ns.foldl (fun m x => m.set x.nb (some x)) e.nbSent }

/-- The sending counters are mirrored where they have changed. -/
def Hw.ctrBatch (h : Hw) : Hw :=
  if h.eqx.ctrSent = h.counterList then h else (h.mirror h.counterItem).updEqx fun e => { e with ctrSent := h.counterList }

theorem Hw.mirrorBatch_eq (paired : h.paired = true) (primary : h.role = 2) : h.mirrorBatch = (h.nbBatch h.nbDue).ctrBatch := by
  unfold Hw.mirrorBatch
  rw [if_neg (not_or.mpr ⟨not_not_intro paired, not_not_intro primary⟩)]
  unfold Hw.ctrBatch Hw.nbBatch Hw.nbDue
  dsimp only

theorem BesideKept.nbBatch {ks : List Nat} (ns : List NbMirror) : BesideKept ks h (h.nbBatch ns) :=
  .ite (.refl h) (.trans (.mirror h _) (.of_engines _))

theorem BesideKept.ctrBatch {ks : List Nat} : BesideKept ks h h.ctrBatch := .ite (.refl h) (.trans (.mirror h _) (.of_engines _))

theorem Hw.nbBatch_sent {i : Nat} (hi : i < 512) (valid : h.nbValid i = true) :
    (h.nbBatch h.nbDue).eqx.nbSent.at i = some (h.nbMirror i) := by
  have due : h.nbMirror i ∈ h.nbDue ∨ h.eqx.nbSent.at i = some (h.nbMirror i) := by
    by_cases sent : h.eqx.nbSent.at i = some (h.nbMirror i)
    · exact .inr sent
    · refine .inl (List.mem_filter.mpr ⟨List.mem_map.mpr ⟨i, List.mem_range.mpr hi, rfl⟩, ?_⟩)
      have changed : decide (h.eqx.nbSent.at i ≠ some (h.nbMirror i)) = true := decide_eq_true sent
      exact (congrArg₂ (· && ·) changed (congrArg (· || _) valid)).trans rfl
  have own : ∀ x ∈ h.nbDue, x.nb = i → x = h.nbMirror i := fun x mem same => by
    obtain ⟨j, -, rfl⟩ := List.mem_map.mp (List.mem_filter.mp mem).1
    exact congrArg h.nbMirror same
  generalize h.nbDue = ns at due own ⊢
  unfold Hw.nbBatch
  split
  · next none => exact due.resolve_left fun mem => by rw [List.isEmpty_iff.mp none] at mem; exact List.not_mem_nil mem
  · obtain ⟨-, sent, -⟩ := h.mirror_sentParts (.neighbours ns)
    rw [Hw.updEqx_eqx, sent]
    exact at_foldl_setNb (h.nbMirror i) ns _ own due

/-- The sending counters are registers. -/
theorem AroundKept.counterList {h g : Hw} (kept : AroundKept [] h g) : g.counterList = h.counterList := by
  have fields : g.f STP_FLOOD_ID STP_FLOOD_ID.next_id = h.f STP_FLOOD_ID STP_FLOOD_ID.next_id ∧
      g.f RAD_FLOOD_ID RAD_FLOOD_ID.next_id = h.f RAD_FLOOD_ID RAD_FLOOD_ID.next_id :=
    ⟨kept.f_eq (by decide) List.not_mem_nil _, kept.f_eq (by decide) List.not_mem_nil _⟩
  have stop : ∀ n < 8, g.reg (STP_LANE_CTR n) = h.reg (STP_LANE_CTR n) := fun n hn => kept.regs _ (by revert n; decide) List.not_mem_nil
  have group : ∀ n < 8, g.reg (RAD_LANE_BCTR n) = h.reg (RAD_LANE_BCTR n) := fun n hn => kept.regs _ (by revert n; decide) List.not_mem_nil
  rw [Hw.counterList, fields.1, fields.2, Hw.counterList]
  exact congrArg₂ (· ++ · ++ _) (List.map_congr_left fun n hn => congrArg BitVec.toNat (stop n (List.mem_range.mp hn)))
    (List.map_congr_left fun n hn => congrArg BitVec.toNat (group n (List.mem_range.mp hn)))

theorem Hw.ctrBatch_sent : h.ctrBatch.eqx.ctrSent = h.counterList ∧ h.ctrBatch.eqx.nbSent = h.eqx.nbSent := by
  unfold Hw.ctrBatch
  split
  · next same => exact ⟨same, rfl⟩
  · obtain ⟨-, sent, -⟩ := h.mirror_sentParts h.counterItem
    exact ⟨rfl, sent⟩

end

/-! ### What the standby applies keeps site time (R277) -/

section
variable (h : Hw)

theorem Hw.withOuts_cal (u : Hw → Hw) : (h.withOuts u).cal = (u h).cal := by
  obtain ⟨l, b, e⟩ := Hw.driveOuts_eq h (u h)
  rw [Hw.withOuts, e]

theorem Hw.withOuts_eqx (u : Hw → Hw) : (h.withOuts u).eqx = (u h).eqx := by
  obtain ⟨l, b, e⟩ := Hw.driveOuts_eq h (u h)
  rw [Hw.withOuts, e]

theorem Hw.applyStop_cal (m : StopMirror) : (h.applyStop m).cal = h.cal := by
  unfold Hw.applyStop
  extract_lets own st
  rw [Hw.withOuts_cal, Hw.updStp_cal, foldl_keeps Hw.cal fun g r _ => (BesideKept.setTgt (ks := []) g r _).cal]
  rfl

theorem Hw.compareCkpt_cal (robot : Nat) : (h.compareCkpt robot).cal = h.cal := by
  unfold Hw.compareCkpt
  split
  · split
    · rw [Hw.compareFail, Hw.countOpen_cal, Hw.raise_cal, Hw.bump_cal]
    · rfl
  · rfl

theorem Hw.applyItem_cal (i : MirrorItem) : (h.applyItem i).cal = h.cal := by
  cases i with
  | rsv c => exact (BesideKept.applyRsv h c).cal
  | rsvAll x => rfl
  | lathe r a p => rfl
  | axis n ax => rfl
  | stop m => exact h.applyStop_cal m
  | neighbours ns => exact foldl_keeps (f := Hw.applyNb) Hw.cal (fun _ _ _ => rfl) h
  | counters stop group sf rf =>
    rw [Hw.applyItem, Hw.setF_cal, Hw.setF_cal, foldl_keeps Hw.cal fun _ _ _ => Hw.setReg_cal _ _ _,
      foldl_keeps Hw.cal fun _ _ _ => Hw.setReg_cal _ _ _]
  | superframe tsf number ver tags =>
    rw [Hw.applyItem, foldl_keeps Hw.cal fun _ _ _ => Hw.setF_cal _ _ _ _]
    rfl
  | base r => rfl
  | checkpoint r e c o => exact Hw.compareCkpt_cal _ r

/-- The primary's superframe shows in the standby's radio. -/
theorem Hw.superframe_applied (tsf number ver : Nat) (tags : List Nat) :
    (h.applyItem (.superframe tsf number ver tags)).rad.tsf = tsf ∧
      (h.applyItem (.superframe tsf number ver tags)).reg RAD_SFNUM = BitVec.ofNat 32 number := by
  have apart : ∀ p ∈ (tags.take 128).zipIdx, RAD_SFNUM ≠ OBS_RBT_STAT (p.2 + 1) := fun p mem => by
    have place := List.snd_lt_of_mem_zipIdx mem
    have few := List.length_take_le 128 tags
    unfold RAD_SFNUM OBS_RBT_STAT
    omega
  constructor
  · exact congrArg RadSt.tsf (foldl_keeps Hw.rad (fun _ _ _ => Hw.setF_rad _ _ _ _) _)
  · rw [Hw.applyItem, foldl_keeps (Hw.reg · RAD_SFNUM) fun g p mem => Hw.reg_setF_other g _ _ _ _ (apart p mem),
      Hw.reg_setF_other _ _ _ _ _ (by decide), Hw.reg_setReg_same]

end

/-! ### The partner's heartbeat (R276) -/

/-- `g` has of the partner's heartbeat what `h` has: what the partner said, the link's register and the heartbeat's number. -/
structure Heard (h g : Hw) : Prop where
  peer : g.eqx.peer = h.eqx.peer
  link : g.reg EQX_LINK = h.reg EQX_LINK
  seq : g.f EQX_STAT EQX_STAT.hb_seq = h.f EQX_STAT EQX_STAT.hb_seq

section
variable {a b c h g : Hw}

theorem Heard.refl (h : Hw) : Heard h h := ⟨rfl, rfl, rfl⟩

theorem Heard.trans (p : Heard a b) (q : Heard b c) : Heard a c := ⟨q.peer.trans p.peer, q.link.trans p.link, q.seq.trans p.seq⟩

theorem Heard.ite {p : Prop} [Decidable p] (yes : Heard a b) (no : Heard a c) : Heard a (if p then b else c) := by
  split
  · exact yes
  · exact no

theorem Heard.foldl {β : Type} (f : Hw → β → Hw) (l : List β) (hf : ∀ h, ∀ b ∈ l, Heard h (f h b)) (h : Hw) : Heard h (l.foldl f h) := by
  induction l generalizing h with
  | nil => exact .refl h
  | cons b l ih => exact (hf h b List.mem_cons_self).trans (ih (fun h c hc => hf h c (List.mem_cons_of_mem b hc)) (f h b))

/-- What keeps the pair's registers and what the partner said. -/
theorem Heard.of_beside {ks : List Nat} (kept : BesideKept ks h g) (peer : g.eqx.peer = h.eqx.peer) (link : EQX_LINK ∉ ks := by decide)
    (stat : EQX_STAT ∉ ks := by decide) : Heard h g :=
  ⟨peer, kept.regs EQX_LINK (by decide) link, kept.f_eq (by decide) stat _⟩

variable (h)

theorem Heard.raise (f : Fld) (i : Nat) : Heard h (h.raise EQX_IRQ_STAT f i) :=
  .of_beside (ks := [EQX_IRQ_STAT]) (.raise h f i) (congrArg EqxSt.peer (Hw.raise_eqx _ _ _ _))

theorem Heard.setPeerHash (p : Nat) (w : Word) (hp : p < 9) : Heard h (h.setPeerHash p w) := by
  have reg (k : Nat) (hash : k ≠ EQX_PEER_HASH p) (diff : k ≠ EQX_DIFF) : (h.setPeerHash p w).reg k = h.reg k :=
    (Hw.reg_setF_other _ _ _ _ _ diff).trans (Hw.reg_setReg_other _ _ _ _ hash)
  refine ⟨rfl, reg EQX_LINK ?_ (by decide), ?_⟩
  · unfold EQX_LINK EQX_PEER_HASH
    omega
  · rw [Hw.f, reg EQX_STAT (by unfold EQX_STAT EQX_PEER_HASH; omega) (by decide), Hw.f]

theorem Hw.fifoNotice_eqx (f : Nat) : (h.fifoNotice f).eqx = h.eqx := by rw [Hw.fifoNotice, Hw.notice_eqx, Hw.deviceLine_eqx]

theorem Hw.hwSendFree_eqx (prod f : Nat) (bs : List Byte) : (h.hwSendFree prod f bs).1.eqx = h.eqx := by
  unfold Hw.hwSendFree Hw.hwSend
  split
  · rfl
  · split
    · exact Hw.fifoNotice_eqx _ f
    · rfl

theorem Hw.rsvEvent_eqx (ev robot seg token : Nat) : (h.rsvEvent ev robot seg token).eqx = h.eqx := by
  unfold Hw.rsvEvent
  dsimp only
  split
  · split
    · rw [Hw.bump_eqx, Hw.hwSendFree_eqx]
    · rw [Hw.hwSendFree_eqx]
  · rfl

theorem Heard.mirror (i : MirrorItem) : Heard h (h.mirror i) := .of_beside (ks := []) (.mirror h i) (h.mirror_sentParts i).1

theorem Heard.makeValid (t : Nat) : Heard h (h.makeValid t) := by
  have told (g : Hw) (ev robot seg token : Nat) : Heard g (g.rsvEvent ev robot seg token) :=
    .of_beside (ks := []) (.rsvEvent g _ _ _ _) (congrArg EqxSt.peer (g.rsvEvent_eqx _ _ _ _))
  exact .ite (.trans (b := (h.updRsv _).rsvEvent _ _ _ _) (.trans (b := h.updRsv _) ⟨rfl, rfl, rfl⟩ (told _ _ _ _ _)) (.mirror _ _)) (.refl h)

theorem Heard.ackTokens (seq : Nat) : Heard h (h.ackTokens seq) := .foldl _ _ (fun h _ _ => .makeValid h _) h

theorem Heard.heldCheck (p : Peer) : Heard h (h.heldCheck p) := by
  refine .ite (.ite (.trans (b := h.setFlag EQX_STAT EQX_STAT.interlock_fault true) ⟨rfl, ?_, ?_⟩ (.raise _ _ _)) ⟨rfl, rfl, rfl⟩) (.refl h)
  · exact Hw.reg_setFlag_other _ _ _ _ _ (by decide)
  · exact Hw.f_setFlag_apart _ _ _ _ _ (by decide) (by decide)

theorem Heard.settleReady : Heard h h.settleReady :=
  ⟨congrArg EqxSt.peer h.settleReady_eqx, (BesideKept.settleReady h).regs _ (by decide) (by decide), h.settleReady_stat _ (by decide)⟩

end

theorem leNat_lt (bs : List Byte) : leNat bs < 256 ^ bs.length := by
  induction bs with
  | nil => decide
  | cons b bs ih =>
    have octet := b.isLt
    rw [leNat, List.length_cons, Nat.pow_succ]
    omega

theorem fieldAt_lt (bs : List Byte) (i n : Nat) : fieldAt bs i n < 256 ^ n :=
  Nat.lt_of_lt_of_le (leNat_lt _) (Nat.pow_le_pow_right (by decide) (List.length_take_le _ _))

/-- What a heartbeat writes itself. -/
def Hw.heartbeatNoted (h : Hw) (b : List Byte) : Hw :=
  ((((((h.updEqx fun e => { e with peer := some (readPeer b) }).setF EQX_LINK EQX_LINK.missed 0).setReg EQX_PEER_HEALTH
    (BitVec.ofNat 32 (fieldAt b 36 4))).setF EQX_STAT EQX_STAT.hb_seq (fieldAt b 2 2)).setF EQX_STAT EQX_STAT.peer_role
    (readPeer b).role).setFlag EQX_STAT EQX_STAT.peer_ready (readPeer b).ready)

theorem Heard.hearHeartbeat (h : Hw) (b : List Byte) : Heard (h.heartbeatNoted b) (h.hearHeartbeat b) := by
  have hashed : Heard (h.heartbeatNoted b) ([(2, 20), (3, 24), (4, 28), (7, 32)].foldl
      (fun h q => h.setPeerHash q.1 (BitVec.ofNat 32 (fieldAt b q.2 4))) (h.heartbeatNoted b)) :=
    .foldl _ _ (fun h q mem => .setPeerHash h _ _ (by revert q; decide)) _
  refine ((hashed.trans (.ite ?_ (.refl _))).trans (.heldCheck _ _)).trans (.settleReady _)
  refine .trans (.trans (.ackTokens _ _) (.ite (.raise _ _ _) (.refl _))) (.ite ⟨rfl, rfl, rfl⟩ (.refl _))

end Sys2Proof.Machine
end

section
/-! PROOFS. Heartbeats, the mirror's batch and records, snapshots, resyncs and the link's ups and downs complete (R276–R278, R280, R284), and O30 is
settled. -/

namespace Sys2Proof.Machine

open Reg Sys2Proof.Safety

/-! ### Heartbeats (R276, R280) -/

theorem heartbeatSend_completes (s : State) (paired : s.hw.paired = true) : Completes .heartbeatSend s fun h =>
    h.eqx.hbSeq = (s.hw.eqx.hbSeq + 1) % 65536 ∧
      (s.hw.linkUp = true → s.hw.ports.link ≠ [] → h.eqx.txCount = s.hw.eqx.txCount + 1) := by
  have sent : exec .heartbeatSend s = run s fun h => h.settleReady.sendHeartbeat false := by
    change execHeartbeatSend s = _
    exact run_congr (if_pos paired)
  refine completes_of_run sent ?_
  have settled := BesideKept.settleReady (cleared s.hw)
  have eqx := (cleared s.hw).settleReady_eqx
  generalize (cleared s.hw).settleReady = g at settled eqx ⊢
  constructor
  · obtain ⟨n, e⟩ := g.beatNumbered.pairSend_eqx pairHeartbeat (g.beatNumbered.heartbeat false)
    rw [Hw.sendHeartbeat_eq, e, Hw.beatNumbered, Hw.updEqx_eqx, eqx]
    rfl
  · intro up key
    have up' : g.linkUp = true := by rw [Hw.linkUp, settled.f_eq (by decide) (by decide)]; exact up
    have key' : g.ports.link ≠ [] := by rw [settled.ports]; exact key
    rw [Hw.sendHeartbeat_eq, g.beatNumbered.pairSend_counts _ _ up' key', Hw.beatNumbered, Hw.updEqx_eqx, eqx]
    rfl

theorem heartbeatReceive_completes (s : State) (b : List Byte) (paired : s.hw.paired = true) (up : s.hw.linkUp = true)
    (key : s.hw.ports.link ≠ []) (length : b.length = 48) : Completes (.heartbeatReceive b true) s fun h =>
      h.eqx.peer = some (readPeer b) ∧ h.f EQX_LINK EQX_LINK.missed = 0 ∧ h.f EQX_STAT EQX_STAT.hb_seq = fieldAt b 2 2 := by
  have taken : exec (.heartbeatReceive b true) s = run s fun h => h.hearHeartbeat b := by
    change execHeartbeatReceive b true s = _
    refine run_congr ((if_neg ?_).trans (if_neg ?_))
    · exact not_or.mpr ⟨not_not_intro paired, not_not_intro up⟩
    · exact not_or.mpr ⟨not_not_intro rfl, not_or.mpr ⟨mt List.isEmpty_iff.mp key, not_not_intro length⟩⟩
  refine completes_of_run taken ?_
  have heard := Heard.hearHeartbeat (cleared s.hw) b
  refine ⟨heard.peer, ?_, heard.seq.trans ?_⟩
  · rw [Hw.f, heard.link, ← Hw.f, Hw.heartbeatNoted]
    rw [Hw.f_setFlag_other _ _ _ _ _ _ (by decide), Hw.f_setF_other _ _ _ _ _ _ (by decide), Hw.f_setF_other _ _ _ _ _ _ (by decide), Hw.f,
      Hw.reg_setReg_other _ _ _ _ (by decide), ← Hw.f, Hw.f_setF_same _ _ _ _ (by decide)]
    rfl
  · rw [Hw.heartbeatNoted, Hw.f_setFlag_apart _ _ _ _ _ (by decide) (by decide), Hw.f_setF_apart _ _ _ _ _ (by decide) (by decide),
      Hw.f_setF_same _ _ _ _ (by decide)]
    exact Nat.mod_eq_of_lt (fieldAt_lt b 2 2)

theorem heartbeatReceive_forged_completes (s : State) (b : List Byte) (paired : s.hw.paired = true) (up : s.hw.linkUp = true) :
    Completes (.heartbeatReceive b false) s fun h =>
      h.eqx.peer = s.hw.eqx.peer ∧ h.f EQX_ERR EQX_ERR.auth_fail = min EQX_ERR.auth_fail.max (s.hw.f EQX_ERR EQX_ERR.auth_fail + 1) := by
  have refused : exec (.heartbeatReceive b false) s = run s Hw.pairAuthFail := by
    change execHeartbeatReceive b false s = _
    refine run_congr ((if_neg ?_).trans (if_pos (.inl Bool.false_ne_true)))
    exact not_or.mpr ⟨not_not_intro paired, not_not_intro up⟩
  refine completes_of_run refused ?_
  rw [Hw.pairAuthFail]
  constructor
  · rw [Hw.countOpen_eqx, Hw.bump_eqx]
    rfl
  · rw [Hw.f, Hw.countOpen_reg _ _ _ (by decide), ← Hw.f, Hw.f_bump _ _ _ _ (by decide) (by decide) (by decide)]
    rfl

/-- A missed heartbeat is counted, and its time kept. -/
def Hw.missNoted (h : Hw) : Hw :=
  ((h.bump EQX_ERR EQX_ERR.hb_lost EQX_ERR.hb_sat).setF EQX_LINK EQX_LINK.missed (min 3 (h.f EQX_LINK EQX_LINK.missed + 1))).updEqx
    fun e => { e with missedAt := some h.now }

/-- The outputs of a standby that does not take over go inactive. -/
def Hw.outsOff (h : Hw) : Hw := h.withOuts fun h => h.updStp fun p => { p with outsOn := false }

/-- The third heartbeat in a row is missed. -/
def Hw.thirdMiss (h : Hw) : Bool := decide (min 3 (h.f EQX_LINK EQX_LINK.missed + 1) = 3 ∧ h.f EQX_LINK EQX_LINK.missed = 2)

/-- A partner lost with EQX_SENSE low is raised. -/
def Hw.missTold (h : Hw) : Hw :=
  if h.thirdMiss && !h.missNoted.flag EQX_STAT EQX_STAT.sense then h.missNoted.raise EQX_IRQ_STAT EQX_IRQ_STAT.peer_lost 0 else h.missNoted

/-- A missed heartbeat, with its outputs. -/
def Hw.missTaken (h : Hw) : Hw :=
  if h.thirdMiss && decide (h.missTold.role = 1) && !h.missTold.detects then h.missTold.outsOff else h.missTold

theorem heartbeatMiss_completes (s : State) (paired : s.hw.paired = true) : Completes .heartbeatMiss s fun h =>
    h.f EQX_LINK EQX_LINK.missed = min 3 (s.hw.f EQX_LINK EQX_LINK.missed + 1) ∧
      h.f EQX_ERR EQX_ERR.hb_lost = min EQX_ERR.hb_lost.max (s.hw.f EQX_ERR EQX_ERR.hb_lost + 1) ∧ h.eqx.missedAt = some s.hw.now := by
  have missed : exec .heartbeatMiss s = run s fun h => h.missTaken.settleReady := by
    change execHeartbeatMiss s = _
    exact run_congr (if_neg (not_not_intro paired))
  refine completes_of_run missed ?_
  have told : AroundKept [EQX_IRQ_STAT] (cleared s.hw).missNoted (cleared s.hw).missTold ∧
      (cleared s.hw).missTold.eqx = (cleared s.hw).missNoted.eqx := by
    unfold Hw.missTold
    split
    · exact ⟨(BesideKept.raise _ _ _).toAroundKept, Hw.raise_eqx _ _ _ _⟩
    · exact ⟨.refl _, rfl⟩
  have driven : AroundKept [EQX_IRQ_STAT] (cleared s.hw).missTold (cleared s.hw).missTaken ∧
      (cleared s.hw).missTaken.eqx = (cleared s.hw).missTold.eqx := by
    unfold Hw.missTaken
    split
    · exact ⟨.withOuts _ (.updStp _ _), Hw.withOuts_eqx _ _⟩
    · exact ⟨.refl _, rfl⟩
  have kept := ((told.1.trans driven.1).mono (by decide)).trans (BesideKept.settleReady (cleared s.hw).missTaken).toAroundKept
  refine ⟨?_, ?_, ?_⟩
  · rw [kept.f_eq (by decide) (by decide), Hw.missNoted, Hw.updEqx_f, Hw.f_setF_same _ _ _ _ (by decide)]
    exact Nat.mod_eq_of_lt (Nat.lt_of_le_of_lt (Nat.min_le_left _ _) (by decide))
  · rw [kept.f_eq (by decide) (by decide), Hw.missNoted, Hw.updEqx_f, Hw.f_setF_other _ _ _ _ _ _ (by decide),
      Hw.f_bump _ _ _ _ (by decide) (by decide) (by decide)]
    rfl
  · rw [Hw.settleReady_eqx, driven.2, told.2]
    rfl

/-! ### The mirror (R277, R278) -/

theorem mirrorBatch_completes (s : State) (paired : s.hw.paired = true) (primary : s.hw.role = 2) : Completes .mirrorBatch s fun h =>
    h.eqx.ctrSent = s.hw.counterList ∧ ∀ i < 512, s.hw.nbValid i = true → h.eqx.nbSent.at i = some (s.hw.nbMirror i) := by
  refine completes_of_run (e := Hw.mirrorBatch) rfl ?_
  rw [Hw.mirrorBatch_eq (cleared s.hw) paired primary]
  have first := BesideKept.nbBatch (ks := []) (cleared s.hw) (cleared s.hw).nbDue
  obtain ⟨counters, entries⟩ := ((cleared s.hw).nbBatch (cleared s.hw).nbDue).ctrBatch_sent
  refine ⟨counters.trans first.toAroundKept.counterList, fun i hi valid => ?_⟩
  rw [entries]
  exact (cleared s.hw).nbBatch_sent hi valid

theorem exec_mirrorRecord (s : State) (seq : Word) (item : MirrorItem) (lag : Nat) (paired : s.hw.paired = true) (up : s.hw.linkUp = true)
    (standby : s.hw.role = 1) (key : s.hw.ports.link ≠ []) :
    exec (.mirrorRecord seq item lag true) s = run s fun h => h.mirrorRecord seq.toNat item lag := by
  change execMirrorRecord seq item lag true s = _
  refine run_congr ((if_neg ?_).trans (if_neg ?_))
  · exact not_or.mpr ⟨not_not_intro paired, not_or.mpr ⟨not_not_intro up, not_not_intro standby⟩⟩
  · exact not_or.mpr ⟨not_not_intro rfl, mt List.isEmpty_iff.mp key⟩

/-- A record in sequence is applied. -/
def Hw.recordApplied (h : Hw) (seq : Nat) (item : MirrorItem) (lag : Nat) : Hw :=
  ((h.applyItem item).setF EQX_MIRROR EQX_MIRROR.lag_us (min 65535 lag)).updEqx fun e => { e with applied := seq, appliedAt := h.now }

theorem Hw.mirrorRecord_next {h : Hw} {seq : Nat} {item : MirrorItem} {lag : Nat} (resynced : h.eqx.resynced = true)
    (next : seq = (h.eqx.applied + 1) % 2 ^ 32) : h.mirrorRecord seq item lag = (h.recordApplied seq item lag).settleReady := by
  have now : ((h.applyItem item).setF EQX_MIRROR EQX_MIRROR.lag_us (min 65535 lag)).now = h.now := by
    rw [Hw.now, Hw.setF_cal, h.applyItem_cal, Hw.now]
  unfold Hw.mirrorRecord Hw.recordApplied
  rw [if_neg (not_not_intro resynced), if_neg (not_not_intro next)]
  dsimp only
  rw [now]

theorem Hw.mirrorRecord_lost {h : Hw} {seq : Nat} {item : MirrorItem} {lag : Nat} (resynced : h.eqx.resynced = true)
    (skipped : seq ≠ (h.eqx.applied + 1) % 2 ^ 32) : h.mirrorRecord seq item lag = h.mirrorLost := by
  rw [Hw.mirrorRecord, if_neg (not_not_intro resynced), if_pos skipped]

theorem mirrorRecord_completes (s : State) (seq : Word) (item : MirrorItem) (lag : Nat) (paired : s.hw.paired = true) (up : s.hw.linkUp = true)
    (standby : s.hw.role = 1) (key : s.hw.ports.link ≠ []) (resynced : s.hw.eqx.resynced = true) :
    Completes (.mirrorRecord seq item lag true) s fun h =>
      (seq.toNat = (s.hw.eqx.applied + 1) % 2 ^ 32 →
        h.eqx.applied = seq.toNat ∧ h.eqx.appliedAt = s.hw.now ∧ h.f EQX_MIRROR EQX_MIRROR.lag_us = min 65535 lag ∧
        (∀ n ax, item = .axis n ax → h.axis n = ax) ∧
        (∀ t n v l, item = .superframe t n v l → h.rad.tsf = t ∧ h.reg RAD_SFNUM = BitVec.ofNat 32 n)) ∧
      (seq.toNat ≠ (s.hw.eqx.applied + 1) % 2 ^ 32 → h.eqx.resynced = false ∧ h.eqx.applied = s.hw.eqx.applied) := by
  refine completes_of_run (exec_mirrorRecord s seq item lag paired up standby key) ⟨fun next => ?_, fun skipped => ?_⟩
  · rw [Hw.mirrorRecord_next (h := cleared s.hw) resynced next]
    have settled := BesideKept.settleReady ((cleared s.hw).recordApplied seq.toNat item lag)
    refine ⟨?_, ?_, ?_, ?_, ?_⟩
    · rw [Hw.settleReady_eqx]
      rfl
    · rw [Hw.settleReady_eqx]
      rfl
    · rw [settled.f_eq (by decide) (by decide), Hw.recordApplied, Hw.updEqx_f, Hw.f_setF_same _ _ _ _ (by decide)]
      exact Nat.mod_eq_of_lt (Nat.lt_of_le_of_lt (Nat.min_le_left _ _) (by decide))
    · rintro n ax rfl
      rw [Hw.axis, Hw.settleReady_axl]
      exact Hw.axis_updAxis_same (cleared s.hw) n fun _ => ax
    · rintro t n v l rfl
      rw [Hw.settleReady_rad, settled.regs _ (by decide) (by decide), Hw.recordApplied, Hw.updEqx_rad, Hw.updEqx_reg, Hw.setF_rad,
        Hw.reg_setF_other _ _ _ _ _ (by decide)]
      exact (cleared s.hw).superframe_applied t n v l
  · rw [Hw.mirrorRecord_lost (h := cleared s.hw) resynced skipped, Hw.mirrorLost]
    obtain ⟨n, e⟩ := Hw.pairSend_eqx (((cleared s.hw).updEqx fun e => { e with inSequence := false, resynced := false }).raise EQX_IRQ_STAT
      EQX_IRQ_STAT.mirror_lost 0) pairAck []
    rw [Hw.settleReady_eqx, e, Hw.raise_eqx]
    exact ⟨rfl, rfl⟩

/-! ### Snapshots and resyncs (R278) -/

theorem snapshot_primary_completes (s : State) (seq : Word) (items : List MirrorItem) (hashes : List Word) (paired : s.hw.paired = true)
    (up : s.hw.linkUp = true) (primary : s.hw.role = 2) :
    Completes (.snapshot seq items hashes true) s fun h => h.bus.out = [.snapshot s.hw.eqx.sent s.hw.snapshotItems] := by
  have sent : exec (.snapshot seq items hashes true) s = run s fun h => h.emit (.snapshot h.eqx.sent h.snapshotItems) := by
    change execSnapshot seq items hashes true s = _
    refine run_congr ((if_neg ?_).trans (if_pos primary))
    exact not_or.mpr ⟨not_not_intro paired, not_not_intro up⟩
  exact completes_of_run sent rfl

theorem snapshot_standby_completes (s : State) (seq : Word) (items : List MirrorItem) (hashes : List Word) (paired : s.hw.paired = true)
    (up : s.hw.linkUp = true) (standby : s.hw.role = 1) (key : s.hw.ports.link ≠ []) :
    Completes (.snapshot seq items hashes true) s fun h =>
      h.eqx.applied = seq.toNat ∧ h.eqx.resynced = true ∧ h.eqx.inSequence = true ∧ h.f EQX_MIRROR EQX_MIRROR.lag_us = 0 := by
  have applied : exec (.snapshot seq items hashes true) s = run s fun h => h.applySnapshot seq.toNat items hashes := by
    change execSnapshot seq items hashes true s = _
    have other : ¬(cleared s.hw).role = 2 := fun primary => absurd (primary.symm.trans standby) (by decide)
    refine run_congr ((if_neg ?_).trans ((if_neg other).trans ((if_neg (not_not_intro standby)).trans (if_neg ?_))))
    · exact not_or.mpr ⟨not_not_intro paired, not_not_intro up⟩
    · exact not_or.mpr ⟨not_not_intro rfl, mt List.isEmpty_iff.mp key⟩
  refine completes_of_run applied ?_
  unfold Hw.applySnapshot
  extract_lets applied hashed sequenced
  have lag : (sequenced.setF EQX_MIRROR EQX_MIRROR.lag_us 0).settleReady.f EQX_MIRROR EQX_MIRROR.lag_us = 0 := by
    rw [(BesideKept.settleReady _).f_eq (by decide) (by decide), Hw.f_setF_same _ _ _ _ (by decide)]
    rfl
  rw [Hw.settleReady_eqx]
  exact ⟨rfl, rfl, rfl, lag⟩

theorem resync_completes (s : State) (via : BusAcc) (permitted : Permitted s.hw via EQX_CTRL) (paired : s.hw.paired = true) :
    Completes (.resync via) s fun h =>
      (s.hw.role = 2 → s.hw.linkUp = true → ∃ x, h.bus.out = [.snapshot s.hw.eqx.sent x]) ∧ (s.hw.role ≠ 2 → h.eqx.resynced = false) := by
  refine completes_of_regWrite (eff := fun _ h => h.eqxCtrlWritten (EQX_CTRL.resync.set 0 1)) rfl permitted (by decide +kernel) fun _ g w => ?_
  have written : BesideKept [EQX_CTRL] (cleared s.hw) g := w.besideKept (by decide +kernel)
  have eqx : g.eqx = s.hw.eqx := by rw [w.parts]; rfl
  have role : g.role = s.hw.role := written.f_eq (by decide) (by decide) _
  have paired' : g.paired = true := (written.flag_eq (by decide) (by decide) _).trans paired
  have asked : g.eqxCtrlWritten (EQX_CTRL.resync.set 0 1) = g.resync := by
    rw [Hw.eqxCtrlWritten, if_neg (by decide), if_pos (by decide), if_neg (by decide)]
  rw [asked, Hw.resync, if_neg (not_not_intro paired')]
  constructor
  · intro primary up
    have up' : g.linkUp = true := by rw [Hw.linkUp, written.f_eq (by decide) (by decide)]; exact up
    rw [if_pos (role.trans primary), if_pos up', eqx]
    exact ⟨g.snapshotItems, congrArg (· ++ _) w.out⟩
  · intro other
    obtain ⟨n, e⟩ := Hw.pairSend_eqx (g.updEqx fun e => { e with resynced := false }) pairAck []
    rw [if_neg fun primary => other (role.symm.trans primary), Hw.settleReady_eqx, e]
    rfl

/-! ### The link goes up and down (R278, R284) -/

/-- The link is up, nothing is missed, and a resync is due. -/
def Hw.linkRaised (h : Hw) : Hw :=
  ((h.setF EQX_LINK EQX_LINK.state 2).setF EQX_LINK EQX_LINK.missed 0).updEqx fun e => { e with resynced := false, inSequence := false }

/-- The primary sends its snapshot. -/
def Hw.snapshotSent (h : Hw) : Hw := if h.role = 2 then h.emit (.snapshot h.eqx.sent h.snapshotItems) else h

theorem Hw.snapshotSent_keeps (h : Hw) : BesideKept [] h h.snapshotSent ∧ h.snapshotSent.eqx = h.eqx := by
  unfold Hw.snapshotSent
  split
  · exact ⟨.emit h _, Hw.emit_eqx h _⟩
  · exact ⟨.refl h, rfl⟩

theorem pairLinkUp_completes (s : State) (paired : s.hw.paired = true) : Completes .pairLinkUp s fun h =>
    h.f EQX_LINK EQX_LINK.state = 2 ∧ h.f EQX_LINK EQX_LINK.missed = 0 ∧ h.eqx.resynced = false := by
  have raised : exec .pairLinkUp s = run s fun h => h.linkRaised.snapshotSent.settleReady := by
    change execPairLinkUp s = _
    exact run_congr (if_neg (not_not_intro paired))
  refine completes_of_run raised ?_
  obtain ⟨kept, eqx⟩ := (cleared s.hw).linkRaised.snapshotSent_keeps
  generalize (cleared s.hw).linkRaised.snapshotSent = g at kept eqx ⊢
  have link (l : Fld) : g.settleReady.f EQX_LINK l = (cleared s.hw).linkRaised.f EQX_LINK l :=
    ((BesideKept.settleReady g).f_eq (by decide) (by decide) l).trans (kept.f_eq (by decide) List.not_mem_nil l)
  refine ⟨?_, ?_, ?_⟩
  · rw [link, Hw.linkRaised, Hw.updEqx_f, Hw.f_setF_apart _ _ _ _ _ (by decide) (by decide), Hw.f_setF_same _ _ _ _ (by decide)]
    rfl
  · rw [link, Hw.linkRaised, Hw.updEqx_f, Hw.f_setF_same _ _ _ _ (by decide)]
    rfl
  · rw [Hw.settleReady_eqx, eqx]
    rfl

/-- The link is down, and a resync is due. -/
def Hw.linkLost (h : Hw) : Hw :=
  ((h.setF EQX_LINK EQX_LINK.state 0).updEqx fun e => { e with resynced := false, inSequence := false }).setFlag EQX_STAT EQX_STAT.peer_ready false

theorem pairLinkDown_completes (s : State) : Completes .pairLinkDown s fun h =>
    h.f EQX_LINK EQX_LINK.state = 0 ∧ h.flag EQX_STAT EQX_STAT.peer_ready = false ∧ h.eqx.resynced = false := by
  refine completes_of_run (e := fun h => h.linkLost.settleReady) rfl ⟨?_, ?_, ?_⟩
  · rw [(BesideKept.settleReady _).f_eq (by decide) (by decide), Hw.linkLost, Hw.f_setFlag_other _ _ _ _ _ _ (by decide), Hw.updEqx_f,
      Hw.f_setF_same _ _ _ _ (by decide)]
    rfl
  · rw [Hw.flag, Hw.settleReady_stat _ _ (by decide), ← Hw.flag]
    exact Hw.flag_setFlag_same _ _ _ _ (by decide) (by decide)
  · rw [Hw.settleReady_eqx]
    rfl

/-- Settles O30: each command of the pair's link completes as its own theorem says. -/
theorem pairLinkCommandsComplete : Obligations.PairLinkCommandsComplete :=
  ⟨heartbeatSend_completes, heartbeatReceive_completes, heartbeatReceive_forged_completes, heartbeatMiss_completes, mirrorBatch_completes,
    mirrorRecord_completes, snapshot_primary_completes, snapshot_standby_completes, resync_completes, pairLinkUp_completes, pairLinkDown_completes⟩

end Sys2Proof.Machine
end

section
/-! SUPPORT. What a unit that becomes primary makes of its counters, its registers and the sequencer (R279, R281). -/

namespace Sys2Proof.Machine

open Reg Sys2Proof.Safety

/-! ### The counters advance by the gap (R281) -/

/-- The counters that a takeover advances. -/
def gapRegs : List Nat := (List.range 8).map STP_LANE_CTR ++ (List.range 8).map RAD_LANE_BCTR ++ (List.range 512).map RAD_NB_TXCTR

theorem mem_gapRegs_lane {n : Nat} (hn : n < 8) : STP_LANE_CTR n ∈ gapRegs :=
  List.mem_append_left _ (List.mem_append_left _ (List.mem_map.mpr ⟨n, List.mem_range.mpr hn, rfl⟩))

theorem mem_gapRegs_nb {i : Nat} (hi : i < 512) : RAD_NB_TXCTR i ∈ gapRegs :=
  List.mem_append_right _ (List.mem_map.mpr ⟨i, List.mem_range.mpr hi, rfl⟩)

theorem not_mem_nbCtrs {k : Nat} (out : k < RAD_NB_TXCTR 0 ∨ RAD_NB_TXCTR 512 ≤ k) : k ∉ (List.range 512).map RAD_NB_TXCTR := fun mem => by
  obtain ⟨i, hi, rfl⟩ := List.mem_map.mp mem
  have few := List.mem_range.mp hi
  unfold RAD_NB_TXCTR at out
  omega

theorem not_mem_gapRegs {k : Nat} (lanes : k ∉ (List.range 8).map STP_LANE_CTR ++ (List.range 8).map RAD_LANE_BCTR)
    (out : k < RAD_NB_TXCTR 0 ∨ RAD_NB_TXCTR 512 ≤ k) : k ∉ gapRegs := fun mem => not_mem_nbCtrs out ((List.mem_append.mp mem).resolve_left lanes)

theorem gapRegs_nodup : gapRegs.Nodup := by
  have nb : ((List.range 512).map RAD_NB_TXCTR).Nodup := List.nodup_range.map fun i j e => by
    unfold RAD_NB_TXCTR at e
    omega
  have apart : ∀ k ∈ (List.range 8).map STP_LANE_CTR ++ (List.range 8).map RAD_LANE_BCTR, k < RAD_NB_TXCTR 0 ∨ RAD_NB_TXCTR 512 ≤ k := by decide
  exact List.Nodup.append (by decide) nb fun k lane => not_mem_nbCtrs (apart k lane)

section
variable (h : Hw) (g : Nat)

/-- Counters advance by a gap. -/
def Hw.gapped (h : Hw) (g : Nat) : Hw := gapRegs.foldl (Hw.gapCounter g) h

theorem Hw.gapCounter_reg_other {k j : Nat} (ne : j ≠ k) : (Hw.gapCounter g h k).reg j = h.reg j := Hw.reg_setReg_other _ _ _ _ ne

theorem Hw.gapped_reg {k : Nat} (mem : k ∈ gapRegs) : (h.gapped g).reg k = BitVec.ofNat 32 (min (2 ^ 32 - 1) ((h.reg k).toNat + g)) :=
  foldl_reaches (Pre := fun x => x.reg k = h.reg k)
    (Post := fun x => x.reg k = BitVec.ofNat 32 (min (2 ^ 32 - 1) ((h.reg k).toNat + g)))
    (fun x j ne pre => (Hw.gapCounter_reg_other x g (Ne.symm ne)).trans pre)
    (fun x pre => (Hw.reg_setReg_same _ _ _).trans (by rw [pre]))
    (fun x j ne post => (Hw.gapCounter_reg_other x g (Ne.symm ne)).trans post) gapRegs gapRegs_nodup mem h rfl

theorem BesideKept.gapped : BesideKept gapRegs h (h.gapped g) := .foldl _ _ (fun h _ mem => .setReg h _ fun _ => mem) h

end

/-! ### A unit becomes primary (R281) -/

section
variable (h : Hw)

/-- The counters, the gap, the kind of takeover, the permit sequence and the role of the new primary. -/
def Hw.prepared (h : Hw) : Hw :=
  let x := ((h.gapped h.gap).setReg EQX_LAST_GAP (BitVec.ofNat 32 h.gap)).setFlag EQX_TAKEOVER EQX_TAKEOVER.cold (!(h.gapped h.gap).eqx.warm)
  (x.updStp fun p => { p with permitSeq := (p.permitSeq + (x.now - p.markAt) / 10000000) % 65536 }).setF EQX_STAT EQX_STAT.role 2

/-- A stop in force is inherited. -/
def Hw.inherited (h : Hw) : Hw := if h.stpState = stpStopped then h.latchSource 14 else h

/-- A cold takeover stops the fleet. -/
def Hw.coldStopped (h : Hw) : Hw := if h.eqx.warm then h else h.fleetStop 13

/-- The unit leaves listen mode, and its record of the pair begins anew. -/
def Hw.talking (h : Hw) : Hw :=
  ((h.setFlag RAD_CFG RAD_CFG.listen false).updEqx fun e => { e with
    wdogKick := h.now, firstMark := true, flagUntil := h.now + 1000000000, switchNext := true, senseAt := none, heldSeen := false,
    nbSent := [], ctrSent := [] }).updFix fun f => { f with switchDue := true }

/-- The takeover is raised, and the end of a handover. -/
def Hw.takenOver (h : Hw) (releasing : Bool) : Hw :=
  let g := h.talking.raise EQX_IRQ_STAT EQX_IRQ_STAT.takeover 0
  if releasing then g.raise EQX_IRQ_STAT EQX_IRQ_STAT.handover_done 0 else g

theorem Hw.becomePrimary_eq :
    h.becomePrimary = (h.prepared.inherited.coldStopped.takenOver (h.eqx.peer.any Peer.releasing)).floorCheck.settleReady := by
  unfold Hw.becomePrimary Hw.takenOver Hw.talking Hw.coldStopped Hw.inherited Hw.prepared Hw.gapped gapRegs
  dsimp only

/-- The registers that preparation changes beside the counters. -/
def preparedRegs : List Nat := [EQX_LAST_GAP, EQX_TAKEOVER, EQX_STAT]

theorem AroundKept.prepared : AroundKept (gapRegs ++ preparedRegs) h h.prepared := by
  have counted : BesideKept (gapRegs ++ preparedRegs) h (h.gapped h.gap) := (BesideKept.gapped h _).mono (List.subset_append_left _ _)
  have own {k : Nat} (mem : k ∈ preparedRegs) : k ∈ gapRegs ++ preparedRegs := List.mem_append_right _ mem
  unfold Hw.prepared
  extract_lets x
  have noted : BesideKept (gapRegs ++ preparedRegs) h x :=
    (counted.trans (.setReg _ _ fun _ => own (by decide))).trans (.setFlag _ _ _ fun _ => own (by decide))
  exact (noted.toAroundKept.trans (.updStp x _)).trans (BesideKept.setF _ _ _ fun _ => own (by decide)).toAroundKept

theorem Hw.prepared_ctr {k : Nat} (mem : k ∈ gapRegs) (apart : k ∉ preparedRegs) :
    h.prepared.reg k = BitVec.ofNat 32 (min (2 ^ 32 - 1) ((h.reg k).toNat + h.gap)) := by
  simp only [preparedRegs, List.mem_cons, List.not_mem_nil, or_false, not_or] at apart
  obtain ⟨gap, cold, stat⟩ := apart
  rw [Hw.prepared, Hw.reg_setF_other _ _ _ _ _ stat, Hw.updStp_reg, Hw.reg_setFlag_other _ _ _ _ _ cold, Hw.reg_setReg_other _ _ _ _ gap,
    h.gapped_reg _ mem]

theorem Hw.prepared_gap : h.prepared.reg EQX_LAST_GAP = BitVec.ofNat 32 h.gap := by
  rw [Hw.prepared, Hw.reg_setF_other _ _ _ _ _ (by decide), Hw.updStp_reg, Hw.reg_setFlag_other _ _ _ _ _ (by decide), Hw.reg_setReg_same]

theorem Hw.prepared_spBad : h.prepared.stp.spBad = h.stp.spBad := by
  have counted := (BesideKept.gapped h h.gap).stp
  unfold Hw.prepared
  extract_lets x
  have noted : x.stp = h.stp := by rw [Hw.setFlag_stp, Hw.setReg_stp, counted]
  rw [Hw.setF_stp, Hw.updStp_stp, noted]

theorem Hw.prepared_eqx : h.prepared.eqx = h.eqx := by
  rw [Hw.prepared, Hw.setF_eqx, Hw.updStp_eqx, Hw.setFlag_eqx, Hw.setReg_eqx, Hw.gapped]
  exact foldl_keeps Hw.eqx (fun _ _ _ => Hw.setReg_eqx _ _ _) h

theorem Hw.prepared_role : h.prepared.role = 2 := by
  rw [Hw.role, Hw.prepared, Hw.f_setF_same _ _ _ _ (by decide)]
  rfl

theorem BesideKept.inherited : BesideKept [STP_SRC_STAT] h h.inherited := .ite (.setF h _ _) (.refl h)

theorem Hw.inherited_eqx : h.inherited.eqx = h.eqx := by
  unfold Hw.inherited
  split <;> rfl

/-- What a cold takeover of a unit that may not transmit yet stops. -/
theorem Hw.coldStopped_kept (silent : h.sends = false) :
    AroundKept (stopRegs false) h h.coldStopped ∧ h.coldStopped.stp.spBad = h.stp.spBad := by
  unfold Hw.coldStopped
  split
  · exact ⟨.refl h, rfl⟩
  · have taken := h.fleetStop_taken 13
    have around := taken.toAroundKept
    rw [silent] at around
    exact ⟨around, taken.spBad⟩

theorem BesideKept.talking : BesideKept [RAD_CFG, EQX_IRQ_STAT] h h.talking :=
  .trans (b := h.setFlag RAD_CFG RAD_CFG.listen false) (.setFlag h _ _) (.of_engines _)

theorem BesideKept.takenOver (releasing : Bool) : BesideKept [RAD_CFG, EQX_IRQ_STAT] h (h.takenOver releasing) := by
  unfold Hw.takenOver
  extract_lets g
  have raised : BesideKept [RAD_CFG, EQX_IRQ_STAT] h g := (BesideKept.talking h).trans (.raise _ _ _)
  exact .ite (raised.trans (.raise g _ _)) raised

theorem Hw.takenOver_talks (releasing : Bool) : (h.takenOver releasing).flag RAD_CFG RAD_CFG.listen = false := by
  have talks : h.talking.flag RAD_CFG RAD_CFG.listen = false := by
    rw [Hw.talking, Hw.updFix_flag, Hw.updEqx_flag]
    exact Hw.flag_setFlag_same _ _ _ _ (by decide) (by decide)
  unfold Hw.takenOver
  extract_lets g
  have raised : g.flag RAD_CFG RAD_CFG.listen = false := by
    rw [Hw.flag, Hw.raise_f _ _ _ _ _ _ (by decide) (by decide), ← Hw.flag, talks]
  split
  · rw [Hw.flag, Hw.raise_f _ _ _ _ _ _ (by decide) (by decide), ← Hw.flag, raised]
  · exact raised

/-- A floor that has a lane is complete where SP works, and is left. -/
theorem Hw.floorCheck_complete {h : Hw} {n : Nat} (works : h.spWorks = true) (up : h.laneUp n = true) (sound : h.laneDegraded n = false)
    (counters : (h.reg (STP_LANE_CTR n)).toNat ≠ 2 ^ 32 - 1) : h.floorCheck = h := by
  have counts : n ∈ h.floorLanes := by
    refine List.mem_filter.mpr ⟨Hw.mem_lanesUp.mpr up, ?_⟩
    rw [sound, decide_eq_true counters]
    rfl
  have some : h.floorLanes.isEmpty = false := List.isEmpty_eq_false_iff_exists_mem.mpr ⟨n, counts⟩
  exact if_pos (.inl (by rw [Hw.floorComplete, works, some]; rfl))

end

/-- What lets a takeover keep the floor: the unit may not transmit yet, SP works, and a lane in service has stop-key counters left after the gap. -/
structure FloorStands (h : Hw) (n : Nat) : Prop where
  silent : h.sends = false
  works : h.spWorks = true
  up : h.laneUp n = true
  sound : h.laneDegraded n = false
  counters : (h.reg (STP_LANE_CTR n)).toNat + h.gap < 2 ^ 32 - 1

section
variable {h : Hw} {n : Nat} (stands : FloorStands h n)

theorem not_mem_prepared {k : Nat} (lanes : k ∉ (List.range 8).map STP_LANE_CTR ++ (List.range 8).map RAD_LANE_BCTR ++ preparedRegs)
    (out : k < RAD_NB_TXCTR 0 ∨ RAD_NB_TXCTR 512 ≤ k) : k ∉ gapRegs ++ preparedRegs := fun mem => by
  rw [List.mem_append, not_or] at lanes
  exact (List.mem_append.mp mem).elim (not_mem_gapRegs lanes.1 out) lanes.2

/-- The registers that a takeover changes after its preparation. -/
def takeoverRegs : List Nat := STP_SRC_STAT :: stopRegs false ++ [RAD_CFG, EQX_IRQ_STAT]

theorem laneCtr_apart {n : Nat} (hn : n < 8) : STP_LANE_CTR n ∉ preparedRegs ∧ STP_LANE_CTR n ∉ takeoverRegs ∧ fleetReg (STP_LANE_CTR n) ∧
    STP_LANE_CTR n ∉ [EQX_STAT, EQX_IRQ_STAT] := by
  revert n
  decide

include stands in
theorem FloorStands.prepared_sends : h.prepared.inherited.sends = false := by
  have cfg := ((AroundKept.prepared h).flag_eq (k := RAD_CFG) (by decide) (not_mem_prepared (by decide) (by decide)) RAD_CFG.listen)
  have same := (BesideKept.inherited h.prepared).flag_eq (k := RAD_CFG) (by decide) (by decide) RAD_CFG.listen
  exact (congrArg (!·) (same.trans cfg)).trans stands.silent

include stands in
theorem FloorStands.after (releasing : Bool) : AroundKept takeoverRegs h.prepared (h.prepared.inherited.coldStopped.takenOver releasing) ∧
    (h.prepared.inherited.coldStopped.takenOver releasing).stp.spBad = h.stp.spBad := by
  have inherited := BesideKept.inherited h.prepared
  obtain ⟨stopped, bad⟩ := h.prepared.inherited.coldStopped_kept stands.prepared_sends
  have taken := BesideKept.takenOver h.prepared.inherited.coldStopped releasing
  refine ⟨((inherited.toAroundKept.mono (by decide)).trans (stopped.mono (by decide))).trans (taken.toAroundKept.mono (by decide)), ?_⟩
  rw [taken.stp, bad, inherited.stp, h.prepared_spBad]

theorem ofNat_min_gap (w : Word) (g : Nat) (room : w.toNat + g < 2 ^ 32 - 1) :
    BitVec.ofNat 32 (min (2 ^ 32 - 1) (w.toNat + g)) = w + BitVec.ofNat 32 g := by
  rw [Nat.min_eq_right (Nat.le_of_lt room), BitVec.ofNat_add, BitVec.ofNat_toNat, BitVec.setWidth_eq]

include stands in
theorem FloorStands.complete (releasing : Bool) :
    (h.prepared.inherited.coldStopped.takenOver releasing).floorCheck = h.prepared.inherited.coldStopped.takenOver releasing := by
  obtain ⟨after, bad⟩ := stands.after releasing
  have prepared := AroundKept.prepared h
  obtain ⟨own, late, fleet, -⟩ := laneCtr_apart (Hw.lt_of_laneUp stands.up)
  refine Hw.floorCheck_complete (n := n) ?_ ?_ ?_ ?_
  · rw [Hw.spWorks, bad, after.halted, prepared.halted]
    exact stands.works
  · rw [Hw.laneUp, after.f_eq (by decide) (by decide), prepared.f_eq (by decide) (not_mem_prepared (by decide) (by decide))]
    exact stands.up
  · rw [Hw.laneDegraded, after.hlt, prepared.hlt]
    exact stands.sound
  · have room := stands.counters
    rw [after.regs _ fleet late, h.prepared_ctr (mem_gapRegs_lane (Hw.lt_of_laneUp stands.up)) own, BitVec.toNat_ofNat]
    omega

end

end Sys2Proof.Machine
end

section
/-! PROOFS. The interlock's claim, its confirmation and its watchdog, and the stages of a handover complete (R279–R281, R283), and O31 is settled. -/

namespace Sys2Proof.Machine

open Reg Sys2Proof.Safety

/-! ### The claim (R279, R280) -/

theorem senseHigh_completes (s : State) (high : Bool) : Completes (.senseHigh high) s fun h =>
    h.flag EQX_STAT EQX_STAT.sense = high ∧
      h.eqx.senseAt = if high then (if s.hw.eqx.senseAt.isSome then s.hw.eqx.senseAt else some s.hw.now) else none := by
  refine completes_of_run (e := fun h => (h.setFlag EQX_STAT EQX_STAT.sense high).updEqx fun e =>
    { e with senseAt := if high then (if e.senseAt.isSome then e.senseAt else some h.now) else none, heldSeen := e.heldSeen && high }) rfl ⟨?_, rfl⟩
  rw [Hw.updEqx_flag]
  exact Hw.flag_setFlag_same _ _ _ _ (by decide) (by decide)

theorem takeoverDetect_completes (s : State) (detects : s.hw.detects = true) : Completes .takeoverDetect s fun h =>
    h.role = 3 ∧ h.flag EQX_STAT EQX_STAT.hold = true ∧ h.eqx.detectAt = some s.hw.now ∧ h.eqx.warm = s.hw.readyNow := by
  have claimed : exec .takeoverDetect s = run s fun h =>
      (((h.updEqx fun e => { e with detectAt := some h.now, warm := h.readyNow }).setFlag EQX_STAT EQX_STAT.hold true).setF EQX_STAT
        EQX_STAT.role 3).emit (.pin "EQX_HOLD" false) := by
    change execTakeoverDetect s = _
    exact run_congr (if_neg (not_not_intro detects))
  refine completes_of_run claimed ⟨?_, ?_, rfl, rfl⟩
  · rw [Hw.role, Hw.emit_f, Hw.f_setF_same _ _ _ _ (by decide)]
    rfl
  · rw [Hw.flag, Hw.emit_f, Hw.f_setF_apart _ _ _ _ _ (by decide) (by decide), ← Hw.flag]
    exact Hw.flag_setFlag_same _ _ _ _ (by decide) (by decide)

/-! ### The claim is confirmed (R279, R281) -/

/-- `g` is `h` after a takeover that keeps lane `n` for the floor. -/
structure TookOver (n : Nat) (h g : Hw) : Prop where
  role : g.role = 2
  talks : g.flag RAD_CFG RAD_CFG.listen = false
  gap : g.reg EQX_LAST_GAP = BitVec.ofNat 32 h.gap
  lane : g.reg (STP_LANE_CTR n) = h.reg (STP_LANE_CTR n) + BitVec.ofNat 32 h.gap
  neighbours : ∀ i < 512, g.reg (RAD_NB_TXCTR i) = BitVec.ofNat 32 (min (2 ^ 32 - 1) ((h.reg (RAD_NB_TXCTR i)).toNat + h.gap))
  cold : h.eqx.warm = false → FleetStopped h g 13
  warm : h.eqx.warm = true → g.stpState = h.stpState

theorem nbCtr_apart {i : Nat} (hi : i < 512) : fleetReg (RAD_NB_TXCTR i) ∧ RAD_NB_TXCTR i ∉ preparedRegs ∧ RAD_NB_TXCTR i ∉ takeoverRegs ∧
    RAD_NB_TXCTR i ∉ [EQX_STAT, EQX_IRQ_STAT] := by
  have apart (ks : List Nat) (out : ∀ k ∈ ks, k < RAD_NB_TXCTR 0 ∨ RAD_NB_TXCTR 512 ≤ k) : RAD_NB_TXCTR i ∉ ks := fun mem => by
    have place := out _ mem
    unfold RAD_NB_TXCTR at place
    omega
  exact ⟨by unfold RAD_NB_TXCTR fleetReg; omega, apart _ (by decide), apart _ (by decide), apart _ (by decide)⟩

/-- Inheriting a stop leaves the sequencer's state. -/
theorem Hw.inherited_state {h : Hw} : h.prepared.inherited.stpState = h.stpState :=
  ((BesideKept.inherited h.prepared).f_eq (by decide) (by decide) _).trans
    ((AroundKept.prepared h).f_eq (by decide) (not_mem_prepared (by decide) (by decide)) _)

theorem FloorStands.tookOver {h : Hw} {n : Nat} (stands : FloorStands h n) : TookOver n h h.becomePrimary := by
  have hn := Hw.lt_of_laneUp stands.up
  rw [h.becomePrimary_eq, stands.complete]
  generalize (h.eqx.peer.any Peer.releasing) = releasing
  obtain ⟨after, -⟩ := stands.after releasing
  have talks := h.prepared.inherited.coldStopped.takenOver_talks releasing
  have taken := BesideKept.takenOver h.prepared.inherited.coldStopped releasing
  generalize h.prepared.inherited.coldStopped.takenOver releasing = t at after talks taken ⊢
  have settled := BesideKept.settleReady t
  have stopped (k : Nat) (fleet : fleetReg k) (talk : k ∉ [RAD_CFG, EQX_IRQ_STAT]) (ready : k ∉ [EQX_STAT, EQX_IRQ_STAT]) :
      t.settleReady.reg k = h.prepared.inherited.coldStopped.reg k := (settled.regs k fleet ready).trans (taken.regs k fleet talk)
  have kept (k : Nat) (fleet : fleetReg k) (late : k ∉ takeoverRegs) (ready : k ∉ [EQX_STAT, EQX_IRQ_STAT]) : t.settleReady.reg k = h.prepared.reg k :=
    (settled.regs k fleet ready).trans (after.regs k fleet late)
  have eqx : h.prepared.inherited.eqx = h.eqx := h.prepared.inherited_eqx.trans h.prepared_eqx
  exact {
    role := by
      rw [Hw.role, t.settleReady_stat _ (by decide), after.f_eq (by decide) (by decide)]
      exact h.prepared_role
    talks := (settled.flag_eq (by decide) (by decide) _).trans talks
    gap := (kept _ (by decide) (by decide) (by decide)).trans h.prepared_gap
    lane := by
      obtain ⟨own, late, fleet, ready⟩ := laneCtr_apart hn
      rw [kept _ fleet late ready, h.prepared_ctr (mem_gapRegs_lane hn) own, ofNat_min_gap _ _ stands.counters]
    neighbours := fun i hi => by
      obtain ⟨fleet, own, late, ready⟩ := nbCtr_apart hi
      rw [kept _ fleet late ready, h.prepared_ctr (mem_gapRegs_nb hi) own]
    cold := fun cold => by
      have stop : h.prepared.inherited.coldStopped = h.prepared.inherited.fleetStop 13 := if_neg (by rw [eqx, cold]; decide)
      have inForce := (h.prepared.inherited.fleetStop_taken 13).fleetStopped (by decide)
      rw [← stop, FleetStopped, Hw.inherited_state] at inForce
      exact fleetStopped_of_kept inForce (stopped _ (by decide) (by decide) (by decide)) (stopped _ (by decide) (by decide) (by decide))
        (by rw [settled.stp, taken.stp])
    warm := fun warm => by
      have none : h.prepared.inherited.coldStopped = h.prepared.inherited := if_pos (by rw [eqx, warm])
      rw [Hw.stpState, Hw.f, stopped _ (by decide) (by decide) (by decide), none, ← Hw.f, ← Hw.stpState, Hw.inherited_state] }

theorem interlockConfirm_completes (s : State) (high : Bool) (n : Fin 8) (claiming : s.hw.role = 3)
    (ours : high = true ∨ s.hw.f EQX_CFG EQX_CFG.unit = 0) (silent : s.hw.sends = false) (works : s.hw.spWorks = true)
    (up : s.hw.laneUp n.val = true) (sound : s.hw.laneDegraded n.val = false)
    (counters : (s.hw.reg (STP_LANE_CTR n.val)).toNat + s.hw.gap < 2 ^ 32 - 1) :
    Completes (.interlockConfirm high) s fun h =>
      h.role = 2 ∧ h.flag RAD_CFG RAD_CFG.listen = false ∧ h.reg EQX_LAST_GAP = BitVec.ofNat 32 s.hw.gap ∧
      h.reg (STP_LANE_CTR n.val) = s.hw.reg (STP_LANE_CTR n.val) + BitVec.ofNat 32 s.hw.gap ∧
      (∀ i < 512, h.reg (RAD_NB_TXCTR i) = BitVec.ofNat 32 (min (2 ^ 32 - 1) ((s.hw.reg (RAD_NB_TXCTR i)).toNat + s.hw.gap))) ∧
      (s.hw.eqx.warm = false → FleetStopped s.hw h 13) ∧ (s.hw.eqx.warm = true → h.stpState = s.hw.stpState) := by
  have confirmed : exec (.interlockConfirm high) s = run s fun h => (h.setFlag EQX_STAT EQX_STAT.sense high).becomePrimary := by
    change execInterlockConfirm high s = _
    have other : ¬(¬high = true ∧ ((cleared s.hw).setFlag EQX_STAT EQX_STAT.sense high).f EQX_CFG EQX_CFG.unit = 1) := fun both => by
      have unit := (Hw.f_setFlag_other (cleared s.hw) EQX_STAT EQX_CFG EQX_STAT.sense EQX_CFG.unit high (by decide)).symm.trans both.2
      exact ours.elim both.1 fun zero => absurd (zero.symm.trans unit) (by decide)
    exact run_congr ((if_neg (not_not_intro claiming)).trans (if_neg other))
  refine completes_of_run confirmed ?_
  have sensed : BesideKept [EQX_STAT] (cleared s.hw) ((cleared s.hw).setFlag EQX_STAT EQX_STAT.sense high) := .setFlag _ _ _
  have gap : ((cleared s.hw).setFlag EQX_STAT EQX_STAT.sense high).gap = s.hw.gap := rfl
  have eqx : ((cleared s.hw).setFlag EQX_STAT EQX_STAT.sense high).eqx = s.hw.eqx := rfl
  generalize (cleared s.hw).setFlag EQX_STAT EQX_STAT.sense high = g at sensed gap eqx ⊢
  obtain ⟨-, -, fleet, ready⟩ := laneCtr_apart n.isLt
  have lane : g.reg (STP_LANE_CTR n.val) = s.hw.reg (STP_LANE_CTR n.val) :=
    sensed.regs _ fleet fun mem => ready (List.mem_singleton.mp mem ▸ List.mem_cons_self)
  have state : g.stpState = s.hw.stpState := sensed.f_eq (by decide) (by decide) _
  have took : TookOver n.val g g.becomePrimary := FloorStands.tookOver {
    silent := (congrArg (!·) (sensed.flag_eq (by decide) (by decide) _)).trans silent
    works := by rw [Hw.spWorks, sensed.stp, sensed.halted]; exact works
    up := by rw [Hw.laneUp, sensed.f_eq (by decide) (by decide)]; exact up
    sound := by rw [Hw.laneDegraded, sensed.hlt]; exact sound
    counters := by rw [lane, gap]; exact counters }
  refine ⟨took.role, took.talks, gap ▸ took.gap, by rw [took.lane, lane, gap], fun i hi => ?_, fun cold => ?_, fun warm => ?_⟩
  · obtain ⟨fleet, -, -, ready⟩ := nbCtr_apart hi
    have same : g.reg (RAD_NB_TXCTR i) = s.hw.reg (RAD_NB_TXCTR i) :=
      sensed.regs _ fleet fun mem => ready (List.mem_singleton.mp mem ▸ List.mem_cons_self)
    rw [took.neighbours i hi, same, gap]
  · rw [FleetStopped, ← state]
    exact took.cold (eqx ▸ cold)
  · exact (took.warm (eqx ▸ warm)).trans state

/-! ### EQX_HOLD is released (R279) -/

/-- A unit of a pair that releases EQX_HOLD is standby, listens, and outputs the level where it held. -/
theorem Hw.releaseHold_released {h : Hw} (paired : h.paired = true) :
    h.releaseHold.role = 1 ∧ h.releaseHold.flag EQX_STAT EQX_STAT.hold = false ∧ h.releaseHold.sends = false ∧
      h.releaseHold.eqx.handover = .none := by
  have gone : h.holdGone.role = 1 ∧ h.holdGone.flag EQX_STAT EQX_STAT.hold = false ∧ h.holdGone.sends = false ∧ h.holdGone.eqx.handover = .none := by
    refine ⟨?_, ?_, ?_, rfl⟩
    · rw [Hw.role, Hw.holdGone, Hw.updEqx_f, Hw.f_setFlag_other _ _ _ _ _ _ (by decide), Hw.f_setF_same _ _ _ _ (by decide)]
      rfl
    · rw [Hw.flag, Hw.holdGone, Hw.updEqx_f, Hw.f_setFlag_other _ _ _ _ _ _ (by decide), Hw.f_setF_apart _ _ _ _ _ (by decide) (by decide), ← Hw.flag]
      exact Hw.flag_setFlag_same _ _ _ _ (by decide) (by decide)
    · rw [Hw.sends, Hw.holdGone, Hw.updEqx_flag, Hw.flag_setFlag_same _ _ _ _ (by decide) (by decide)]
      rfl
  rw [Hw.releaseHold_paired paired]
  split
  · rw [Hw.role, Hw.emit_f, Hw.flag, Hw.emit_f, Hw.sends, Hw.emit_flag, Hw.emit_eqx]
    exact gone
  · exact gone

theorem interlockConfirm_double_completes (s : State) (claiming : s.hw.role = 3) (unit : s.hw.f EQX_CFG EQX_CFG.unit = 1)
    (paired : s.hw.paired = true) :
    Completes (.interlockConfirm false) s fun h => h.role = 1 ∧ h.flag EQX_STAT EQX_STAT.hold = false := by
  have cfg (l : Fld) : ((cleared s.hw).setFlag EQX_STAT EQX_STAT.sense false).f EQX_CFG l = s.hw.f EQX_CFG l :=
    Hw.f_setFlag_other _ _ _ _ _ _ (by decide)
  have released : exec (.interlockConfirm false) s = run s fun h => (h.setFlag EQX_STAT EQX_STAT.sense false).releaseHold := by
    change execInterlockConfirm false s = _
    exact run_congr ((if_neg (not_not_intro claiming)).trans (if_pos ⟨Bool.false_ne_true, (cfg _).trans unit⟩))
  refine completes_of_run released ?_
  have paired' : ((cleared s.hw).setFlag EQX_STAT EQX_STAT.sense false).paired = true := by
    rw [Hw.paired, Hw.flag, cfg]
    exact paired
  obtain ⟨role, hold, -, -⟩ := Hw.releaseHold_released paired'
  exact ⟨role, hold⟩

theorem interlockWatchdogExpiry_completes (s : State) (paired : s.hw.paired = true) (held : s.hw.flag EQX_STAT EQX_STAT.hold = true) :
    Completes .interlockWatchdogExpiry s fun h =>
      h.role = 1 ∧ h.flag EQX_STAT EQX_STAT.hold = false ∧ h.sends = false ∧ h.bus.out = [.pin "EQX_HOLD" true] := by
  have released : exec .interlockWatchdogExpiry s = run s Hw.releaseHold := by
    change execInterlockWatchdogExpiry s = _
    exact run_congr (if_pos ⟨paired, held⟩)
  refine completes_of_run released ?_
  have out : (cleared s.hw).releaseHold = (cleared s.hw).holdGone.emit (.pin "EQX_HOLD" true) :=
    (Hw.releaseHold_paired (h := cleared s.hw) paired).trans (if_pos held)
  obtain ⟨role, hold, silent, -⟩ := Hw.releaseHold_released (h := cleared s.hw) paired
  refine ⟨role, hold, silent, ?_⟩
  rw [out]
  rfl

/-! ### The stages of a handover (R283) -/

theorem eqxCtrl_written {h g : Hw} (w : Committed (cleared h) g EQX_CTRL) : BesideKept [EQX_CTRL] (cleared h) g ∧ g.eqx = h.eqx :=
  ⟨w.besideKept (by decide +kernel), by rw [w.parts]; rfl⟩

theorem handover_completes (s : State) (via : BusAcc) (permitted : Permitted s.hw via EQX_CTRL) (paired : s.hw.paired = true)
    (primary : s.hw.role = 2) (idle : s.hw.eqx.handover = .none) : Completes (.handover via) s fun h =>
      h.eqx.handover = if s.hw.flag EQX_STAT EQX_STAT.peer_ready = true then .waitMark else .waitReady := by
  refine completes_of_regWrite (eff := fun _ h => h.eqxCtrlWritten (EQX_CTRL.handover.set 0 1)) rfl permitted (by decide +kernel) fun _ g w => ?_
  obtain ⟨written, eqx⟩ := eqxCtrl_written w.toCommitted
  have asked : g.eqxCtrlWritten (EQX_CTRL.handover.set 0 1) = g.startHandover := by
    rw [Hw.eqxCtrlWritten, if_pos (by decide), if_neg (by decide), if_neg (by decide)]
  have may : ¬(¬g.paired = true ∨ g.role ≠ 2 ∨ g.eqx.handover ≠ .none) := by
    rw [Hw.paired, written.flag_eq (by decide) (by decide), Hw.role, written.f_eq (by decide) (by decide), eqx]
    exact not_or.mpr ⟨not_not_intro paired, not_or.mpr ⟨not_not_intro primary, not_not_intro idle⟩⟩
  rw [asked, Hw.startHandover, if_neg may, Hw.updEqx_eqx, written.flag_eq (by decide) (by decide)]
  rfl

theorem handoverRelease_completes (s : State) (paired : s.hw.paired = true) (primary : s.hw.role = 2) (marked : s.hw.eqx.handover = .waitMark) :
    Completes .handoverRelease s fun h => h.role = 1 ∧ h.flag EQX_STAT EQX_STAT.hold = false ∧ h.eqx.handover = .none := by
  have released : exec .handoverRelease s = run s fun h =>
      ((h.mirrorBatch.sendHeartbeat true).releaseHold).raise EQX_IRQ_STAT EQX_IRQ_STAT.handover_done 0 := by
    change execHandoverRelease s = _
    exact run_congr (if_neg (not_or.mpr ⟨not_not_intro marked, not_not_intro primary⟩))
  refine completes_of_run released ?_
  have batch : BesideKept [] (cleared s.hw) (cleared s.hw).mirrorBatch := by
    rw [Hw.mirrorBatch_eq (cleared s.hw) paired primary]
    exact (BesideKept.nbBatch _ _).trans (.ctrBatch _)
  have beat := BesideKept.sendHeartbeat (ks := []) (cleared s.hw).mirrorBatch true
  generalize (cleared s.hw).mirrorBatch.sendHeartbeat true = g at beat ⊢
  have paired' : g.paired = true := ((batch.trans beat).flag_eq (by decide) List.not_mem_nil _).trans paired
  obtain ⟨role, hold, -, ended⟩ := Hw.releaseHold_released paired'
  refine ⟨?_, ?_, ?_⟩
  · rw [Hw.role, Hw.raise_f _ _ _ _ _ _ (by decide) (by decide)]
    exact role
  · rw [Hw.flag, Hw.raise_f _ _ _ _ _ _ (by decide) (by decide)]
    exact hold
  · rw [Hw.raise_eqx]
    exact ended

theorem handoverTimeout_completes (s : State) (waits : s.hw.eqx.handover = .waitReady) : Completes .handoverTimeout s fun h =>
    h.eqx.handover = .none ∧ h.flag EQX_IRQ_STAT EQX_IRQ_STAT.not_ready = true := by
  have ended : exec .handoverTimeout s = run s fun h =>
      (h.updEqx fun e => { e with handover := .none }).raise EQX_IRQ_STAT EQX_IRQ_STAT.not_ready 0 := by
    change execHandoverTimeout s = _
    exact run_congr (if_pos waits)
  refine completes_of_run ended ⟨?_, Hw.raise_flag _ _ _ _ (by decide) (by decide) (by decide)⟩
  rw [Hw.raise_eqx]
  rfl

theorem clearFault_completes (s : State) (via : BusAcc) (permitted : Permitted s.hw via EQX_CTRL) :
    Completes (.clearFault via) s fun h => h.flag EQX_STAT EQX_STAT.interlock_fault = false ∧ h.eqx.heldSeen = false := by
  refine completes_of_regWrite (eff := fun _ h => h.eqxCtrlWritten (EQX_CTRL.clear_fault.set 0 1)) rfl permitted (by decide +kernel) fun _ g _ => ?_
  have asked : g.eqxCtrlWritten (EQX_CTRL.clear_fault.set 0 1) = g.clearFault := by
    rw [Hw.eqxCtrlWritten, if_neg (by decide), if_neg (by decide), if_pos (by decide)]
  rw [asked]
  refine ⟨?_, rfl⟩
  rw [Hw.clearFault, Hw.updEqx_flag]
  exact Hw.flag_setFlag_same _ _ _ _ (by decide) (by decide)

/-- Settles O31: each command of the interlock and of the handover completes as its own theorem says. -/
theorem interlockCommandsComplete : Obligations.InterlockCommandsComplete :=
  ⟨senseHigh_completes, takeoverDetect_completes, interlockConfirm_completes, interlockConfirm_double_completes, interlockWatchdogExpiry_completes,
    handover_completes, handoverRelease_completes, handoverTimeout_completes, clearFault_completes⟩

end Sys2Proof.Machine
end
